-- ==== Sys2Proof/Word.lean ====
section
/-! DEFINITION. The byte of memory, and the plainest arithmetic on the register words of R2 that every other file uses. -/

namespace Sys2Proof

/-- One byte of memory (R29: the module address space is byte addressed). -/
abbrev Byte := BitVec 8

end Sys2Proof
end

