-- ==== Sys2Proof/Config.lean ====
section
/-! DEFINITION. The values the spec leaves open. Each is an opaque constant with no body, so that nothing in Lean can
evaluate it: a statement about a free value holds for every value of it. -/

namespace Sys2Proof

/-- The n-th free number: what the hardware draws or produces where the spec fixes no value (a random key, a nonce, an
order among equals). `State.free` counts the draws; notes/assumptions/3.md. -/
opaque Config.freeNat : Nat → Nat

/-- The n-th free byte string of a length: random bytes drawn by the module (R318 GENKEY, R413 CHALLENGE), as one number
below 2^(8·length). -/
opaque Config.freeBytes : Nat → Nat → Nat

/-- Identity material of one part that the spec does not publish (R382 to R411: fuses, identity key seed), by name. -/
opaque Config.fuse : String → Nat

/-- XMSS-SHAKE256_16_256 as the standards define it, which the spec names and does not repeat (R392, R408; notes/assumptions/17.md):
the 68-byte public key of three seeds, the 2,692-byte signature of a message with a leaf, and whether a signature verifies. -/
opaque Config.xmssPublic : List Nat → List Nat → List Nat → List Nat
opaque Config.xmssSign : List Nat → List Nat → List Nat → Nat → List Nat → List Nat
opaque Config.xmssVerify : List Nat → List Nat → List Nat → Bool

/-- The 16 bytes of a blob's section entry, as one number: type, offset and length, in an arrangement that the spec leaves open (R173). -/
opaque Config.blobEntry : Nat → Nat → Nat → Nat

/-- What a configuration image sets that no register of the spec holds (R391): the PCIe width and speed caps of R175, and
the static address of the sideband (notes/assumptions/29.md). -/
opaque Config.imageCap : List Nat → Nat
/-- The access list of the Reeve's level F (R89, notes/assumptions/45.md). -/
opaque Config.reeveAccess : List Nat → Nat
opaque Config.imageAddress : List Nat → Nat

end Sys2Proof
end

