-- ==== Sys2Proof/Machine/Tab.lean ====
section
/-! DEFINITION. A sparse table: what the spec gives the machine by index (memory, register fields, per-partition and
per-queue records). It is a list of (index, value) pairs in ONE canonical form: indices strictly rising, no entry equal to
the default that an unlisted index reads as, so that equal tables are equal lists. -/

namespace Sys2Proof.Machine

/-- A sparse table of `α` by index. -/
abbrev Tab (α : Type) := List (Nat × α)

/-- The value at index `k`; an unlisted index holds the default `d`. -/
def Tab.get {α : Type} (d : α) : Tab α → Nat → α
  | [], _ => d
  | e :: r, k => if e.1 = k then e.2 else Tab.get d r k

/-- The table without an entry for `k`. -/
def Tab.erase {α : Type} (t : Tab α) (k : Nat) : Tab α := t.filter (fun e => e.1 != k)

/-- The table with the entry `(k, v)` put before the first entry of a higher index. -/
def Tab.insert {α : Type} (k : Nat) (v : α) : Tab α → Tab α
  | [] => [(k, v)]
  | e :: r => if k < e.1 then (k, v) :: e :: r else e :: Tab.insert k v r

/-- The table with `v` at index `k`; writing the default removes the entry. -/
def Tab.set {α : Type} [DecidableEq α] (d : α) (t : Tab α) (k : Nat) (v : α) : Tab α :=
  if v = d then t.erase k else Tab.insert k v (t.erase k)

/-- The table with `f` applied to the value at index `k`. -/
def Tab.upd {α : Type} [DecidableEq α] (d : α) (t : Tab α) (k : Nat) (f : α → α) : Tab α :=
  t.set d k (f (t.get d k))

/-- The listed indices at which `p` holds, rising. -/
def Tab.keysWhere {α : Type} (t : Tab α) (p : Nat → α → Bool) : List Nat :=
  (t.filter (fun e => p e.1 e.2)).map Prod.fst

/-- Every listed index is above `lo`, indices rise strictly and no entry holds the default. -/
def Tab.above {α : Type} [DecidableEq α] (d : α) : Option Nat → Tab α → Bool
  | _, [] => true
  | lo, e :: r =>
    (match lo with
      | none => true
      | some l => decide (l < e.1)) && decide (e.2 ≠ d) && Tab.above d (some e.1) r

/-- The canonical form of a table with default `d`. -/
def Tab.wf {α : Type} [DecidableEq α] (d : α) (t : Tab α) : Bool := Tab.above d none t

end Sys2Proof.Machine
end

