-- ==== Sys2Proof/Machine/RegTypes.lean ====
section
/-! DEFINITION. What one register field and one register of the spec's register tables are: the row types of
Machine/RegMap.lean. -/

namespace Sys2Proof.Machine

/-- One field of one register: the PF BAR0 byte address of its register, its lowest bit in the register, its width, and
the value of its Reset column (R4). -/
structure Fld where
  addr : Nat
  lsb : Nat
  w : Nat
  rst : Nat
deriving DecidableEq, Repr

/-- The bit address by which the register file holds a field: unique, since registers do not overlap (Table 1.9). -/
def Fld.key (f : Fld) : Nat := 8 * f.addr + f.lsb

/-- Access types of Table 0.4. -/
inductive Access where
  | ro | rw | rws | w1c | wo
deriving DecidableEq, Repr

/-- Clock domains of Table 0.5 (the reset behaviour of AUX registers differs, R4). -/
inductive Domain where
  | hub | eng | mem | fab | pci | aux
deriving DecidableEq, Repr

/-- One row of a register table: field name, place, access type, reset value by the register's indices, and the range of
values that R447 lets a write give it. -/
structure FieldRow where
  name : String
  lsb : Nat
  w : Nat
  acc : Access
  rst : List Nat → Nat
  lo : Nat
  hi : Nat

/-- One register table: its base address, its arrays of instances as (count, stride) in descending stride, its width in
bits and its clock domain. -/
structure RegRow where
  name : String
  base : Nat
  dims : List (Nat × Nat)
  bits : Nat
  dom : Domain
  fields : List FieldRow

end Sys2Proof.Machine
end

