-- ==== Sys2Proof/Machine/Num.lean ====
section
/-! DEFINITION. Integer formats, shared scales, accumulation, requantization and lookup (chapter 02, R35 to R51), and the
bit-field helpers every other file uses. -/

namespace Sys2Proof.Machine

/-- Bits [lo + w - 1 : lo] of `x`. -/
def bits (x lo w : Nat) : Nat := (x >>> lo) % 2 ^ w

/-- Bit `i` of `x` as a Bool. -/
def bit (x i : Nat) : Bool := bits x i 1 == 1

/-- 1 for true, 0 for false. -/
def b2n (b : Bool) : Nat := if b then 1 else 0

/-- `x` with bits [lo + w - 1 : lo] replaced by `v`. -/
def setBits (x lo w v : Nat) : Nat :=
  x % 2 ^ lo + (v % 2 ^ w) * 2 ^ lo + (x / 2 ^ (lo + w)) * 2 ^ (lo + w)

/-- The low `w` bits of `x` read as two's complement. -/
def sext (w x : Nat) : Int :=
  let y := x % 2 ^ w
  if 2 * y < 2 ^ w then (y : Int) else (y : Int) - (2 ^ w : Nat)

/-- The low `w` bits of an integer in two's complement (R9: arithmetic wraps). -/
def trunc (w : Nat) (x : Int) : Nat := (x % ((2 ^ w : Nat) : Int)).toNat

/-- An integer held between `lo` and `hi`. -/
def clampI (lo hi x : Int) : Int := if x < lo then lo else if hi < x then hi else x

/-- Saturation to a signed `w`-bit range. -/
def satI (w : Nat) (x : Int) : Int := clampI (-(2 ^ (w - 1) : Nat)) ((2 ^ (w - 1) : Nat) - 1) x

/-- Division rounded up. -/
def ceilDiv (a b : Nat) : Nat := (a + b - 1) / b

/-- The little-endian number of a byte list (R8: descriptors are little-endian). -/
def leNat : List Nat → Nat
  | [] => 0
  | b :: r => b + 256 * leNat r

/-- `n` little-endian bytes of a number. -/
def leBytes : Nat → Nat → List Nat
  | 0, _ => []
  | n + 1, v => v % 256 :: leBytes n (v / 256)

/-- The big-endian number of a byte list. -/
def beNat (l : List Nat) : Nat := l.foldl (fun a b => 256 * a + b) 0

/-- `n` big-endian bytes of a number. -/
def beBytes (n v : Nat) : List Nat := (leBytes n v).reverse

/-- A counter that stays at its greatest value (saturates) of `w` bits. -/
def satAdd (w a b : Nat) : Nat := min (a + b) (2 ^ w - 1)

/-! ## Element formats (Table 2.1) -/

/-- The element formats of Table 2.1; code 0xF is reserved (R35). -/
inductive Fmt where
  | s2 | s3 | t2 | s4 | u4 | l4 | s5 | s6 | s8 | u8 | s10 | s12 | s16 | s24 | s32
deriving DecidableEq, Repr

/-- The format of a 4-bit code; none for the reserved code 0xF (R35). -/
def Fmt.ofCode : Nat → Option Fmt
  | 0 => some .s2 | 1 => some .s3 | 2 => some .t2 | 3 => some .s4 | 4 => some .u4 | 5 => some .l4
  | 6 => some .s5 | 7 => some .s6 | 8 => some .s8 | 9 => some .u8 | 10 => some .s10 | 11 => some .s12
  | 12 => some .s16 | 13 => some .s24 | 14 => some .s32 | _ => none

/-- Bits of one element; for T2, whose elements are digits of a byte, 2 (R68 counts it so). -/
def Fmt.width : Fmt → Nat
  | .s2 => 2 | .s3 => 3 | .t2 => 2 | .s4 => 4 | .u4 => 4 | .l4 => 4 | .s5 => 5 | .s6 => 6 | .s8 => 8 | .u8 => 8
  | .s10 => 10 | .s12 => 12 | .s16 => 16 | .s24 => 24 | .s32 => 32

/-- Elements of one packing group (Table 2.1). -/
def Fmt.group : Fmt → Nat
  | .s2 => 4 | .s3 => 8 | .t2 => 5 | .s4 => 2 | .u4 => 2 | .l4 => 2 | .s5 => 8 | .s6 => 4 | .s8 => 1 | .u8 => 1
  | .s10 => 4 | .s12 => 2 | .s16 => 1 | .s24 => 1 | .s32 => 1

/-- Bytes that a block of `n` elements occupies (R36, R37). -/
def Fmt.blockBytes (f : Fmt) (n : Nat) : Nat :=
  if f = .t2 then ceilDiv n 5 else n * f.width / 8

/-- Unsigned formats (Table 2.1). -/
def Fmt.unsigned (f : Fmt) : Bool := f = .u4 || f = .u8

/-- Formats that may be a multiplicand (R39). -/
def Fmt.multiplicand (f : Fmt) : Bool := !(f = .s24 || f = .s32)

/-- Formats that the drain may write (R39). -/
def Fmt.drainable (f : Fmt) : Bool := !(f = .t2 || f = .l4)

/-- Class clocks for 16 elements of K: 4 for 4x, 8 for 2x, 16 for 1x, 64 for 1/4x (R68). -/
def Fmt.classClocks : Fmt → Nat
  | .s2 | .s3 | .t2 => 4
  | .s4 | .u4 | .l4 => 8
  | .s5 | .s6 | .s8 | .u8 => 16
  | .s10 | .s12 | .s16 | .s24 | .s32 => 64

/-- The value of an L4 code (R38). -/
def l4Value (c : Nat) : Int :=
  let m : Int := if c % 8 = 0 then 0 else (2 ^ (c % 8 - 1) : Nat)
  if bit c 3 then -m else m

/-- The value of one element code of a format other than T2 (R35, R38). -/
def Fmt.value (f : Fmt) (code : Nat) : Int :=
  if f = .l4 then l4Value code
  else if f.unsigned then ((code % 2 ^ f.width : Nat) : Int)
  else sext f.width code

/-- Digit `m` of a T2 byte as a value; a byte of 243 or more decodes as zeros (R37). -/
def t2Digit (byte m : Nat) : Int := if 243 ≤ byte then 0 else ((byte / 3 ^ m % 3 : Nat) : Int) - 1

/-- Element `e` of the block whose byte `n` is `rd n` (R36, R37). -/
def Fmt.elem (f : Fmt) (rd : Nat → Nat) (e : Nat) : Int :=
  if f = .t2 then t2Digit (rd (e / 5)) (e % 5)
  else
    let b := e * f.width
    f.value (leNat ((List.range 5).map (fun i => if b / 8 + i ≤ (b + f.width - 1) / 8 then rd (b / 8 + i) else 0)) >>> (b % 8))

/-- Smallest and largest value of a format (Table 2.1). -/
def Fmt.range (f : Fmt) : Int × Int :=
  match f with
  | .t2 => (-1, 1)
  | .l4 => (-64, 64)
  | _ => if f.unsigned then (0, (2 ^ f.width : Nat) - 1) else (-(2 ^ (f.width - 1) : Nat), (2 ^ (f.width - 1) : Nat) - 1)

/-- The magnitude rounded to an L4 power of two, ties toward the larger, held to 64 (Table 2.2). -/
def l4Round (m : Nat) : Nat :=
  if m = 0 then 0
  else
    let k := Nat.log2 m
    let r := if 2 * m < 3 * 2 ^ k then 2 ^ k else 2 ^ (k + 1)
    min r 64

/-- A value converted to a format (R50, Table 2.2). -/
def Fmt.convert (f : Fmt) (v : Int) : Int :=
  if f = .l4 then (if v < 0 then -(l4Round v.natAbs : Int) else (l4Round v.natAbs : Int))
  else clampI f.range.1 f.range.2 v

/-- The code of a value already converted to a format; for T2 one digit (R37, R38). -/
def Fmt.code (f : Fmt) (v : Int) : Nat :=
  match f with
  | .t2 => (v + 1).toNat
  | .l4 => if v = 0 then 0 else (Nat.log2 v.natAbs + 1) + (if v < 0 then 8 else 0)
  | _ => trunc f.width v

/-! ## Scale words and accumulation (R41 to R45) -/

/-- The multiplier M of a scale word (R41). -/
def scaleM (w : Nat) : Nat := bits w 0 10
/-- The exponent E of a scale word (R41). -/
def scaleE (w : Nat) : Int := sext 6 (bits w 10 6)

/-- Saturation to 48 bits, with whether it saturated (R44, R45). -/
def sat48 (x : Int) : Int × Bool := (satI 48 x, decide (satI 48 x ≠ x))

/-- R44 `shift_term`: the term one unit adds, with whether the term saturated. -/
def shiftTerm (x d : Int) : Int × Bool :=
  if x = 0 then (0, false)
  else if 0 ≤ d then
    if 47 < d then ((if 0 < x then 0x7fffffffffff else -0x800000000000), true)
    else sat48 (x * (2 ^ d.toNat : Nat))
  else
    let k := (-d).toNat
    if 62 < k then (0, false) else sat48 ((x + (2 ^ (k - 1) : Nat)) / (2 ^ k : Nat))

/-- One unit of one cell (R44): the accumulator and its count of saturations after the unit. `p` is the exact dot
product, `sa` and `sb` the two scale words. -/
def accUnit (eacc : Int) (sa sb : Nat) (p : Int) (a : Int × Nat) : Int × Nat :=
  if sa = 0 || sb = 0 then a
  else
    let t := shiftTerm (p * ((scaleM sa * scaleM sb : Nat) : Int)) (scaleE sa + scaleE sb - eacc)
    let r := sat48 (a.1 + t.1)
    (r.1, a.2 + b2n t.2 + b2n r.2)

/-! ## Drain (R47 to R49) -/

/-- R47 `round_shift`: `t` shifted right by `s > 0` under rounding mode `mode` with stochastic draw `r`. -/
def roundShift (t : Int) (s mode r : Nat) : Int :=
  let q := t / (2 ^ s : Nat)
  let rem := t - q * (2 ^ s : Nat)
  let half : Int := (2 ^ (s - 1) : Nat)
  if mode = 0 then if half < rem || (rem = half && q % 2 = 1) then q + 1 else q
  else if mode = 1 then if t < 0 && rem ≠ 0 then q + 1 else q
  else
    let add : Int := if 32 ≤ s then ((r * 2 ^ (s - 32) : Nat) : Int) else ((r / 2 ^ (32 - s) : Nat) : Int)
    (t + add) / (2 ^ s : Nat)

/-- R47: one output element before saturation to the format. -/
def drainValue (acc : Int) (rs cs qm : Nat) (qs : Int) (mode r : Nat) : Int :=
  let m := scaleM rs * scaleM cs * qm
  let t := acc * (m : Int)
  let s := clampI (-32) 96 (qs - scaleE rs - scaleE cs)
  if s ≤ 0 then t * (2 ^ (-s).toNat : Nat) else roundShift t s.toNat mode r

/-- R48 `sat_fmt`, with whether the element saturated. -/
def satFmt (f : Fmt) (v : Int) : Int × Bool :=
  let o := clampI f.range.1 f.range.2 v
  (o, decide (o ≠ v))

/-- R49 `lfsr_step`. -/
def lfsrStep (x : Nat) : Nat := ((x * 2) % 2 ^ 32) ^^^ (if 2 ^ 31 ≤ x % 2 ^ 32 then 0x00400007 else 0)

/-- R49 `mix`. -/
def mix32 (x : Nat) : Nat :=
  let a := x ^^^ (x >>> 16)
  let b := (a * 0x7feb352d) % 2 ^ 32
  let c := b ^^^ (b >>> 15)
  let d := (c * 0x846ca68b) % 2 ^ 32
  d ^^^ (d >>> 16)

/-- R49 `mop_seed`. -/
def mopSeed (base bell engine tag : Nat) : Nat :=
  let s := mix32 (base ^^^ (bell % 2 ^ 32)) ^^^ mix32 ((bell >>> 32) % 2 ^ 32 ^^^ (engine <<< 16) ^^^ tag)
  if s = 0 then 1 else s

/-- R49 `lfsr_value(i, j)` from a seed: `lfsr_step` applied 512·i + j + 1 times. -/
def lfsrValue (seed i j : Nat) : Nat := Nat.repeat lfsrStep (512 * i + j + 1) seed

/-! ## Lookup (R51) -/

/-- R51: the entry that a lookup of `x` reads, and the fraction toward the next one. -/
def lookupAt (n : Nat) (x b : Int) (h : Nat) : Nat × Nat :=
  let a := x - b
  if a < 0 then (0, 0)
  else
    let u := a.toNat
    let ix := u >>> h
    let f := if 8 ≤ h then (u >>> (h - 8)) % 256 else (u <<< (8 - h)) % 256
    if n - 1 ≤ ix then (n - 1, 0) else (ix, f)

/-- R51: the lookup of `x` with base `b`, shift `h` and interpolation flag, in a table of `n` signed 16-bit entries. -/
def lookup (tab : Nat → Int) (n : Nat) (x b : Int) (h : Nat) (interp : Bool) : Int :=
  let p := lookupAt n x b h
  let y := tab p.1
  if interp && p.2 ≠ 0 then y + ((tab (p.1 + 1) - y) * (p.2 : Int) + 128) / 256 else y

end Sys2Proof.Machine
end

