-- ==== Sys2Proof/Machine/CmdTypes.lean ====
section
/-! DEFINITION. What the operands of the commands are: instruction fields (Table 4.5), bell frames and reports, and the
outcomes that the world outside reports to the block. -/

namespace Sys2Proof.Machine

/-- Who makes a register access: the PF or a VF through its BAR, a core's register window, or the sideband's Reeve. -/
inductive Src where
  | pf | vf (n : Nat) | core (ctx : Nat) | reeve
deriving DecidableEq, Repr

/-- The fields of an M-format instruction (Table 4.5) and its extension word (R93). -/
structure MForm where
  am : BitVec 3
  sx : Bool
  sz : BitVec 2
  d20 : BitVec 20
  ext : BitVec 32
deriving DecidableEq, Repr

/-- The fields of a C-format instruction (Table 4.5, R115) and its extension word. -/
structure CForm where
  cam : BitVec 2
  d16 : BitVec 16
  ext : BitVec 32
deriving DecidableEq, Repr

/-- What the base header of a packet of an unconnected type says of its length (R211, R214): VER, MSG_LEN, OFFSET and the payload's length,
all as R212 sends them unless given. -/
structure PktHead where
  ver : Nat := 1
  msgLen : Nat := 0
  offset : Nat := 0
  payload : Nat := 0
deriving DecidableEq, Repr

/-- The packet is MALFORMED by its header, SEG being taken as 1,024 (R214, notes/assumptions/73.md). -/
def PktHead.bad (h : PktHead) : Bool :=
  h.ver != 1 || decide (2 ^ 31 < h.msgLen) || h.offset % 1024 != 0 || decide (h.offset ≠ 0 ∧ h.msgLen ≤ h.offset) ||
  h.payload != min 1024 (h.msgLen - h.offset)

/-- One bell frame (Table 1.5, Table 8.8). CORR is in 0.25 ns units (R226). -/
structure BellFrame where
  tag : Nat
  epoch : Nat
  handover : Bool
  count : Nat
  periodCur : Nat
  paceCur : Nat
  periodNext : Nat
  paceNext : Nat
  masterX : Nat
  masterY : Nat
  masterZ : Nat
  corr : Nat
  /-- Some reserved field was not 0 (R214). -/
  rsv : Bool := false
  head : PktHead := {}
deriving DecidableEq, Repr

/-- One bell report (R20, Table 8.9). -/
structure BellReport where
  tag : Nat
  attainable : Nat
  modules : Nat
  count : Nat
  backlog : Nat
  late : Nat
  missing : Nat
  missingAt : List Nat
  /-- Some reserved field was not 0 (R214). -/
  rsv : Bool := false
  head : PktHead := {}
deriving DecidableEq, Repr

/-- Why a lane fails (R206): loss of signal or clock lock; symbol errors that the FEC attributed to it in one window of 1 µs, with
the codewords corrected; or a run of codewords that its port could not correct, with the symbol errors of each lane in that run. -/
inductive LaneTrouble where
  | lost | symbols (errors corrected : Nat) | uncorrectable (run : Nat) (errors : List Nat)
deriving DecidableEq, Repr

/-- Trouble on a lane (R206): the lane, or one of the port whose codewords it counts. -/
structure LaneReport where
  lane : Nat
  cause : LaneTrouble
deriving DecidableEq, Repr

/-- How the re-forming of a port ended (R207): whether the exchange with the partner brought it up in time, and the quad lanes that have
failed at the partner, as a mask. -/
structure Reform where
  up : Bool
  partner : Nat
deriving DecidableEq, Repr

/-- A connection, and the bits of a write of its RKT_CONN register (R232). -/
structure ConnWrite where
  conn : Nat
  value : Nat
deriving DecidableEq, Repr

/-- A queue of work requests of a partition (R240): a send queue or a receive queue. -/
inductive WorkQueue where
  | send (q : Nat) | recv (q : Nat)
deriving DecidableEq, Repr

/-- Its number. -/
def WorkQueue.num : WorkQueue → Nat
  | .send q => q
  | .recv q => q

/-- It is a receive queue. -/
def WorkQueue.isRecv : WorkQueue → Bool
  | .send _ => false
  | .recv _ => true

/-- What a memory read met (R134). -/
inductive MemRead where
  | ok | corrected | uncorrectable
deriving DecidableEq, Repr

/-- One RKT packet (Tables 8.4 to 8.6): the base header's fields, the extension's fields in the order of Table 8.5, the
payload bytes, the IV and the tag of an encrypted packet (R324). `rsv` says that some reserved field was not 0; `ce` that it arrived marked CE. -/
structure RktPkt where
  ver : Nat
  typ : Nat
  ackReq : Bool
  last : Bool
  retx : Bool
  enc : Bool
  imm : Bool
  rsv : Bool
  path : Nat
  cepoch : Nat
  dstConn : Nat
  psn : Nat
  msn : Nat
  offset : Nat
  msgLen : Nat
  ppsn : Nat
  tstamp : Nat
  ext : List Nat
  payload : List Nat
  iv : Nat
  authTag : Nat
  srcAddr : Nat
  /-- The datagram came over IPv6. -/
  srcV6 : Bool := false
  ce : Bool
deriving DecidableEq, Repr

/-- One namespace that an SSD reports (R289, R303): its number, size in blocks, whether its blocks have 4,096 bytes (else 512),
whether its format carries metadata, whether deallocated blocks read as zero. -/
structure Namespace where
  nsid : Nat
  size : Nat
  big : Bool
  metadata : Bool
  trimZero : Bool
  /-- Its SSD requires a host memory buffer (R303). -/
  hostBuffer : Bool := false
deriving DecidableEq, Repr

/-- What reading a shard image from its location gave (R355, R356): its bytes, or a failure: of the module's memory, or else of the
connection or the volume. -/
inductive ImageRead where
  | image (bytes : List Nat)
  | failed (memory : Bool)
deriving DecidableEq, Repr

/-- The bytes of an image that was read. -/
def ImageRead.bytes : ImageRead → Option (List Nat)
  | .image b => some b
  | .failed _ => none

/-- What the self-tests of a start found (R399), as AUX storage caches it. -/
structure Repair where
  slots : List Nat
  iocs : Nat
  spares : Nat
deriving DecidableEq, Repr

/-- What one start finds (R395 to R399): PUF enrolment succeeds; Reeve RAM and the commons can be repaired; slots, I/O cores (as a
mask) and GDDR7 positions that fail; spares in use; the step in which the watchdog expires before HELD, 0 for none. -/
structure Found where
  puf : Bool
  sram : Bool
  repair : Repair
  positions : List Nat
  watchdog : Nat
deriving DecidableEq, Repr

/-! ## What a blob carries (R173): contexts, grants, queues, requests and regions as the block keeps them -/

/-- What a context waits for. -/
inductive Wait where
  | bell
  /-- Its target, and whether the counter had passed it at issue (R108). -/
  | bellT (target : Nat) (missed : Bool)
  | counter (part id target : Nat) (limit : Option Nat)
  /-- A plain enqueue whose target has no room (R116): the words of its descriptor, the length of the instruction in bytes,
  and what its reads cost. -/
  | mopRoom (mop : List Nat) (len cost : Nat)
  | cpdRoom (cpd : List Nat) (len cost : Nat)
  | ciphRoom (req : List Nat) (len cost : Nat)
  /-- PCLS before a full classifier: the bytes of its header summary. -/
  | classRoom (summary : List Nat) (len cost : Nat)
deriving DecidableEq, Repr

/-- Whether a context runs (R86, R114, R122, R168). -/
inductive Run where
  | stopped | running | waiting (w : Wait) (since : Nat) | halted
deriving DecidableEq, Repr

/-- One hardware context: Table 4.2, Table 4.16 and the state the chapter gives it beside them. -/
structure Ctx where
  a : BitVec 64
  b : BitVec 64
  x : BitVec 32
  y : BitVec 32
  sp : BitVec 32
  pc : BitVec 32
  st : BitVec 32
  crcPoly : BitVec 64
  crcCfg : BitVec 64
  cycle : BitVec 64
  pb : BitVec 64
  waitLim : BitVec 64
  blHint : BitVec 64
  epc : BitVec 32
  est : BitVec 32
  ecause : BitVec 32
  eaddr : BitVec 32
  vbar : BitVec 32
  run : Run
  /-- Stopped by FREEZE with its registers kept (R162). -/
  frozen : Bool
  /-- Since when a frozen context stands, or waited before it froze: its clocks go on (R106, R162). -/
  frozenAt : Nat
  /-- The last step number accepted by STEP (R112). -/
  lastStep : Option Nat
  late : Bool
  /-- What it was doing when a fence stopped it, where no restart of the replay brings it back: it goes on at resumption (R336). -/
  parked : Option Run := none
deriving DecidableEq, Repr

/-- A context nothing has started. -/
def Ctx.reset : Ctx :=
  { a := 0, b := 0, x := 0, y := 0, sp := 0, pc := 0, st := 0, crcPoly := 0, crcCfg := 0, cycle := 0, pb := 0, waitLim := 0,
    blHint := 0, epc := 0, est := 0, ecause := 0, eaddr := 0, vbar := 0, run := .stopped, frozen := false, frozenAt := 0,
    lastStep := none, late := false }

/-- One segment of a partition's GDDR7 in 64 MiB units (R159). -/
structure Seg where
  pbase : Nat
  mbase : Nat
  len : Nat
deriving DecidableEq, Repr

/-- The grants in force of one partition (Table 6.1): what the blocks check against, as CREATE and GRANT left them. -/
structure Grants where
  seed : Nat
  tsBase : List Nat
  tsLen : List Nat
  share : List Nat
  segs : List Seg
  commonsBase : Nat
  commonsLen : Nat
  qp : Nat
  cq : Nat
  blk : Nat
  ciph : Nat
  keys : Nat
  slices : Nat
  guarantee : Nat
  ceiling : Nat
deriving DecidableEq, Repr

/-- No grant. -/
def Grants.none : Grants :=
  { seed := 0, tsBase := List.replicate 16 0, tsLen := List.replicate 16 0, share := List.replicate 16 0, segs := [], commonsBase := 0,
    commonsLen := 0, qp := 0, cq := 0, blk := 0, ciph := 0, keys := 0, slices := 0, guarantee := 0, ceiling := 0 }

/-- One queue: its 32-byte record (Table 6.6), its latched doorbell, and for a completion queue the phase, the entries not
yet consumed, the overflow and the outstanding interrupt (R247, R248). -/
structure Queue where
  base : Nat
  logN : Nat
  slice : Nat
  en : Bool
  pi : Nat
  ci : Nat
  w4 : Nat
  w5 : Nat
  w6 : Nat
  w7 : Nat
  /-- Doorbell latched and not acted on (R166, R199). -/
  latched : Option Nat
  /-- Next ring index to fetch (send, receive and request queues). -/
  fetchAt : Nat
  /-- Completion queue: producer position is on an odd pass; entries not consumed; dropped since full; interrupt out. -/
  oddPass : Bool
  used : Nat
  overflow : Bool
  irqOut : Bool
  /-- Send or receive queue: EN was cleared, and requests whose trigger had been met still run (R254). -/
  closing : Bool := false
deriving DecidableEq, Repr

/-- A queue record nothing was written to. -/
def Queue.reset : Queue :=
  { base := 0, logN := 0, slice := 0, en := false, pi := 0, ci := 0, w4 := 0, w5 := 0, w6 := 0, w7 := 0, latched := none,
    fetchAt := 0, oddPass := false, used := 0, overflow := false, irqOut := false }

/-- Where a fetched work request stands. -/
inductive WqeStage where
  | armed | waiting | running | finished (status : Nat)
deriving DecidableEq, Repr

/-- One fetched work request of a send or receive queue, in ring order (R241, R252, R253). -/
structure Wqe where
  idx : Nat
  words : List Nat
  /-- Which firing this entry is, and for the entry still at the head how many have fired. -/
  firing : Nat
  trigVal : Nat
  /-- Bell counter at the firing, or at the fetch of an unarmed request (R253). -/
  bell : Nat
  /-- Bell counter at its fetch (R163). -/
  since : Nat
  stage : WqeStage
  info : Nat
  /-- A RECV that ended with IMM valid (R246). -/
  imm : Bool := false
deriving DecidableEq, Repr

/-- An INVAL accepted and waiting for bound messages: send queue, ring index and firing of the request, and the generation it
ended (R239). -/
structure Inval where
  q : Nat
  idx : Nat
  firing : Nat
  gen : Nat
  /-- The region that it closes: its base and length; and when it was accepted. -/
  base : Nat
  len : Nat
  since : Nat := 0
deriving DecidableEq, Repr

/-- One region entry (R235). -/
structure Region where
  gen : Nat
  valid : Bool
  base : Nat
  len : Nat
  rights : Nat
  qp : Nat
  slice : Nat
  /-- INVALs of earlier generations that have not ended (R239). -/
  inval : List Inval
deriving DecidableEq, Repr

/-- A region entry at CREATE (R236). -/
def Region.reset : Region := { gen := 0, valid := false, base := 0, len := 0, rights := 0, qp := 0, slice := 0, inval := [] }

/-- One bound context in a blob (Table 6.8, section 0x02): logical engine·16 + core·4 + context, registers, window base and
length, and the window's bytes by offset. -/
structure BlobCtx where
  key : Nat
  ctx : Ctx
  base : Nat
  size : Nat
  bytes : Tab Byte
deriving DecidableEq, Repr

/-- What a blob holds (R173), section by section: what SAVE writes to the host and RESTORE reads there. The spec gives the sections'
contents and not their layout (notes/assumptions/20.md). -/
structure Blob where
  frozenBell : Nat
  grants : Grants
  ctxs : List BlobCtx
  queues : List (Nat × Queue)
  counters : Tab Nat
  slices : List (Nat × List Nat)
  regions : Tab Region
  wqes : Tab (List Wqe)
  recvs : Tab (List Wqe)
  bells : Tab (List (Nat × Nat))
  promoted : Tab (List Nat)
  volumes : List (List Nat)
  keys : List (Nat × List Nat)
  partKey : List Nat
  logs : List (List Nat)
  logging : Bool
  activeB : Bool
  /-- The VF-facing settings: PART_VF.VF and BOUND; and the queue served last in each block-service class (R302). -/
  vf : List Nat := []
  turns : List (Nat × Nat) := []
deriving DecidableEq, Repr

/-- What a RESTORE finds at PART_MIG_ADDR (R174): bytes whose digest does not verify, the blob that this module saved there, or one that
another module saved. -/
inductive BlobRead where
  | bad | own | other (b : Blob)
deriving DecidableEq, Repr

/-- The digest verifies. -/
def BlobRead.digestOk : BlobRead → Bool
  | .bad => false
  | .own => true
  | .other _ => true

/-- Another module's blob. -/
def BlobRead.foreign : BlobRead → Option Blob
  | .other b => some b
  | _ => none

end Sys2Proof.Machine

/-- The bytes of a section of a blob, by its type (Table 6.8), whose layout the spec leaves open: a free value
(notes/assumptions/20.md). -/
opaque Sys2Proof.Config.blobSection : Sys2Proof.Machine.Blob → Nat → List Sys2Proof.Byte
end

