-- ==== Sys2Proof/Syntax.lean ====
section
/-! DEFINITION. The commands: one constructor per row of the spec's operation table, with the row's operands. Where a
command is an instruction of a core, `c` is the core's context: tending core slot·16 + core·4 + context, I/O core 288 + i,
Reeve 320 (R85). -/

namespace Sys2Proof

open Machine

/-- The commands of the block. -/
inductive Instr where
  /-- REGISTER_WRITE (R447): A write to a register that has no row of its own sets its fields under R2, R5, R6 and R447, with RW1C clears and range checks. -/
  | registerWrite (src : Src) (addr size value : Nat)
  /-- BAR_ACCESS_REJECTED (R7): A BAR access of an unsupported shape is not carried out and ends with Completer Abort. -/
  | barAccessRejected (func off len : Nat) (write : Bool) (header : List Nat)
  /-- UNSUPPORTED_REQUEST (R188): A request to no BAR, or of an unsupported TLP type, is answered as Unsupported Request. -/
  | unsupportedRequest (func : Nat) (posted : Bool) (header : List Nat)
  /-- CONFIG_REQUEST (R196): A configuration request is served, or answered with Request Retry Status until the endpoint is configured. -/
  | configRequest (func off : Nat) (write : Bool) (value : Nat)
  /-- BELL_EDGE (R12): The bell generator reaches an edge: the counter advances, frames are sent, lateness, credits, shares and the master's pace and period computation are applied. -/
  | bellEdge
  /-- BELL_ENABLE (R12): BELL_CTRL.EN written 1 starts the current bell from the module's own generator, subject to R23 and R229 checks on the master. -/
  | bellEnable (value : Nat)
  /-- BELL_DISABLE (R15): BELL_CTRL.EN written 0 stops the bell generator and clears LOCKED. -/
  | bellDisable (value : Nat)
  /-- BELL_COUNT_LOAD (R34): A write of BELL_COUNT while EN is 0 loads the counter and sets BELL_COMMIT.NEXT. -/
  | bellCountLoad (value : Nat)
  /-- BELL_FRAME_RECEIVED (R18): A bell frame is taken: validity, tag and epoch checked, count adopted or refused, parameters taken, edge aligned and the frame relayed. -/
  | bellFrameReceived (frame : BellFrame) (time : Nat)
  /-- BELL_IN_EDGE (R16): A rising edge on BELL_IN is accepted as the source edge or rejected as too far from the expected time. -/
  | bellInEdge (time : Nat)
  /-- BELL_FRAME_MISSING (R16): A bell frame has not arrived by its deadline and is counted missing, leading to holdover after four. -/
  | bellFrameMissing (k : Nat)
  /-- BELL_IN_MISSING (R16): No BELL_IN edge has arrived 250 ns after its expected time and it is counted missing. -/
  | bellInMissing (k : Nat)
  /-- HOLDOVER_LIMIT_REACHED (R16): HOLD_LIMIT bells in holdover set UNALIGNED and HOLDOVER_LIMIT. -/
  | holdoverLimitReached
  /-- BELL_LOCK (R15): Eight consecutive edges within ±25 ns set LOCKED. -/
  | bellLock
  /-- DEPUTY_TAKEOVER (R17): The deputy misses four consecutive master frames, becomes master and increments the epoch. -/
  | deputyTakeover
  /-- LATE_LIMIT_REACHED (R23): LATE_LIMIT consecutive late bells set BELL_EVENT.LATE_LIMIT. -/
  | lateLimitReached
  /-- BELL_REPORT_SEND (R229): At its send time the module merges its own values with its children's reports and sends one bell report to its parent. -/
  | bellReportSend
  /-- BELL_REPORT_RECEIVED (R229): A bell report from a child is taken for merging. -/
  | bellReportReceived (entry : Nat) (report : BellReport)
  /-- MODULE_LOST (R343): A module listed or counted missing for four consecutive bells is recorded in FLT_LOST and LOST is set. -/
  | moduleLost (xyz : Nat)
  /-- MOP_CHOOSE (R78): The engine chooses the next ready MOP round robin by partition credit and starts its decode and fill. -/
  | mopChoose (n : Nat)
  /-- MOP_STREAM_START (R71): A MOP issues its first step once decode, buffer, edge and stagger conditions are met. -/
  | mopStreamStart (n : Nat)
  /-- ACC_LOAD_START (R73): An accumulator LOAD starts on the drain port when its buffer and port are free. -/
  | accLoadStart (n : Nat)
  /-- DRAIN_START (R72): A drain starts when the accumulators are final and the drain port is free. -/
  | drainStart (n : Nat)
  /-- MOP_COMPLETE (R65): A MOP completes four clocks after its drain or final accumulators, writing its status record, CQE and counter bump. -/
  | mopComplete (n p : Nat)
  /-- CHAIN_BREAK (R64): A waiting chain's partition credit falls to −Q or below and the chain's buffer is discarded. -/
  | chainBreak (n : Nat)
  /-- ME_SHARE_WRITE (R76): A share write is checked against the sum of shares and takes effect at the next edge, or is discarded with SHARE_OVER. -/
  | meShareWrite (n p value : Nat)
  /-- ME_MAP_WRITE (R82): A write of ME_MAP sets the logical-to-slot map unless locked or invalid. -/
  | meMapWrite (d value : Nat)
  /-- MAP_LOCK_SET (R82): ME_DIE_CTRL.MAP_LOCK set locks the map until cold start. -/
  | mapLockSet (d : Nat)
  /-- SPARE_READY (R82): The next held slot becomes ready as spare and SPARE_AVAIL rises. -/
  | spareReady (d : Nat)
  /-- LDA (R97): Load the accumulator A from the operand. -/
  | lda (c : Nat) (m : MForm)
  /-- STA (R97): Store A at the effective address. -/
  | sta (c : Nat) (m : MForm)
  /-- LDX (R97): Load index register X. -/
  | ldx (c : Nat) (m : MForm)
  /-- STX (R97): Store X. -/
  | stx (c : Nat) (m : MForm)
  /-- LDY (R97): Load index register Y. -/
  | ldy (c : Nat) (m : MForm)
  /-- STY (R97): Store Y. -/
  | sty (c : Nat) (m : MForm)
  /-- LDB (R97): Load accumulator B on AIS-L. -/
  | ldb (c : Nat) (m : MForm)
  /-- STB (R97): Store B on AIS-L. -/
  | stb (c : Nat) (m : MForm)
  /-- ADRX (R97): Set X to the effective address. -/
  | adrx (c : Nat) (m : MForm)
  /-- ADRY (R97): Set Y to the effective address. -/
  | adry (c : Nat) (m : MForm)
  /-- ADD (R97): Add the operand to A. -/
  | add (c : Nat) (m : MForm)
  /-- ADC (R97): Add the operand and carry to A. -/
  | adc (c : Nat) (m : MForm)
  /-- SUB (R97): Subtract the operand from A. -/
  | sub (c : Nat) (m : MForm)
  /-- SBC (R97): Subtract the operand and borrow from A. -/
  | sbc (c : Nat) (m : MForm)
  /-- AND (R97): Bitwise AND into A. -/
  | and (c : Nat) (m : MForm)
  /-- OR (R97): Bitwise OR into A. -/
  | or (c : Nat) (m : MForm)
  /-- XOR (R97): Bitwise XOR into A. -/
  | xor (c : Nat) (m : MForm)
  /-- CMP (R97): Set flags from A minus the operand. -/
  | cmp (c : Nat) (m : MForm)
  /-- ADDS (R97): Saturating add into A. -/
  | adds (c : Nat) (m : MForm)
  /-- MUL (R97): Low 64 bits of A times the operand. -/
  | mul (c : Nat) (m : MForm)
  /-- MULH (R97): High 64 bits of the signed product. -/
  | mulh (c : Nat) (m : MForm)
  /-- MAC (R97): Multiply the operand by the value at Y, add to A and advance Y. -/
  | mac (c : Nat) (m : MForm)
  /-- MAX (R97): Signed maximum into A. -/
  | max (c : Nat) (m : MForm)
  /-- MIN (R97): Signed minimum into A. -/
  | min (c : Nat) (m : MForm)
  /-- TST (R97): Set flags from A AND the operand. -/
  | tst (c : Nat) (m : MForm)
  /-- SHL (R97): Shift A left. -/
  | shl (c : Nat) (m : MForm)
  /-- SHR (R97): Logical shift A right. -/
  | shr (c : Nat) (m : MForm)
  /-- SAR (R97): Arithmetic shift A right. -/
  | sar (c : Nat) (m : MForm)
  /-- ROL (R97): Rotate A left. -/
  | rol (c : Nat) (m : MForm)
  /-- RSHR (R97): Rounding shift A right with ties toward +infinity. -/
  | rshr (c : Nat) (m : MForm)
  /-- CLZ (R97): Count leading zeros of the operand into A. -/
  | clz (c : Nat) (m : MForm)
  /-- POPC (R97): Count one bits of the operand into A. -/
  | popc (c : Nat) (m : MForm)
  /-- CRC (R99): Advance the CRC in A by the operand bits. -/
  | crc (c : Nat) (m : MForm)
  /-- PAR (R100): Set A to the parity bits of the operand. -/
  | par (c : Nat) (m : MForm)
  /-- BREV (R100): Set A to the operand bits reversed. -/
  | brev (c : Nat) (m : MForm)
  /-- LUT (R102): Look up A through the lookup descriptor and table. -/
  | lut (c : Nat) (m : MForm)
  /-- TAX (R98): Copy A to X. -/
  | tax (c : Nat)
  /-- TXA (R98): Copy X to A sign-extended. -/
  | txa (c : Nat)
  /-- TAY (R98): Copy A to Y. -/
  | tay (c : Nat)
  /-- TYA (R98): Copy Y to A sign-extended. -/
  | tya (c : Nat)
  /-- TAB (R98): Copy A to B. -/
  | tab (c : Nat)
  /-- TBA (R98): Copy B to A. -/
  | tba (c : Nat)
  /-- SWAB (R98): Swap A and B. -/
  | swab (c : Nat)
  /-- TXY (R98): Copy X to Y. -/
  | txy (c : Nat)
  /-- TYX (R98): Copy Y to X. -/
  | tyx (c : Nat)
  /-- TSA (R98): Copy SP to A. -/
  | tsa (c : Nat)
  /-- TAS (R98): Copy A to SP. -/
  | tas (c : Nat)
  /-- NEG (R98): Negate A. -/
  | neg (c : Nat)
  /-- NOT (R98): Invert A. -/
  | not (c : Nat)
  /-- ABS (R98): Saturating absolute value of A. -/
  | abs (c : Nat)
  /-- CLRA (R98): Clear A. -/
  | clra (c : Nat)
  /-- SEXT (R98): Sign-extend A from ARG bits. -/
  | sext (c : Nat) (arg : BitVec 12)
  /-- ZEXT (R98): Zero-extend A from ARG bits. -/
  | zext (c : Nat) (arg : BitVec 12)
  /-- SATS (R98): Clamp A to a signed ARG-bit range. -/
  | sats (c : Nat) (arg : BitVec 12)
  /-- SATU (R98): Clamp A to an unsigned ARG-bit range. -/
  | satu (c : Nat) (arg : BitVec 12)
  /-- ADDB (R98): Add B to A. -/
  | addb (c : Nat)
  /-- CLRB (R98): Clear B. -/
  | clrb (c : Nat)
  /-- INX (R98): Add a signed immediate to X. -/
  | inx (c : Nat) (arg : BitVec 12)
  /-- INY (R98): Add a signed immediate to Y. -/
  | iny (c : Nat) (arg : BitVec 12)
  /-- CVT (R103): Convert A to an element format value. -/
  | cvt (c : Nat) (arg : BitVec 12)
  /-- PACK (R103): Convert A and replace it with the element code. -/
  | pack (c : Nat) (arg : BitVec 12)
  /-- UNPK (R103): Replace A with the value of an element code. -/
  | unpk (c : Nat) (arg : BitVec 12)
  /-- DMAC (R101): Dual-fetch lane-wise multiply-accumulate into A or B and advance X and Y. -/
  | dmac (c : Nat) (arg : BitVec 12)
  /-- B (R104): Conditional branch. -/
  | b (c : Nat) (cond : BitVec 4) (off : BitVec 22)
  /-- DBNZ (R104): Decrement X or Y and branch when not zero. -/
  | dbnz (c : Nat) (idx : Bool) (off : BitVec 22)
  /-- JMP (R104): Jump to the effective address. -/
  | jmp (c : Nat) (m : MForm)
  /-- CALL (R104): Push the return address and jump. -/
  | call (c : Nat) (m : MForm)
  /-- RET (R104): Pop the return address and jump to it. -/
  | ret (c : Nat)
  /-- NOP (R105): No operation. -/
  | nop (c : Nat)
  /-- WAITBELL (R107): Wait until the bell counter reaches pb + 1. -/
  | waitbell (c : Nat)
  /-- WAITBELL_RELEASE (R107): A waiting WAITBELL releases after the edge, sets pb and A, and a bell snapshot is taken. -/
  | waitbellRelease (c : Nat)
  /-- WAITBELLT (R108): Wait for target edge T from A, or record a missed target or raise BELL. -/
  | waitbellt (c : Nat)
  /-- WAITBELLT_RELEASE (R108): A waiting WAITBELLT releases at edge T with C = 1. -/
  | waitbelltRelease (c : Nat)
  /-- HEAVY (R111): Announce expected array activity for coming bells. -/
  | heavy (c : Nat) (arg : BitVec 12)
  /-- STEP (R112): Announce a step number to the checkpoint block. -/
  | step (c : Nat)
  /-- WAIT (R114): Wait until a counter reaches the target in A. -/
  | wait (c : Nat) (arg : BitVec 12)
  /-- WAIT_RELEASE (R114): A waiting WAIT ends with C = 1 when its counter reaches the target. -/
  | waitRelease (c : Nat)
  /-- WAIT_TIMEOUT (R114): WAITLIM clocks pass and a WAIT ends with C = 0. -/
  | waitTimeout (c : Nat)
  /-- RDCNT (R113): Read a partition counter into A. -/
  | rdcnt (c : Nat) (arg : BitVec 12)
  /-- FENCE (R105): Wait for tile-store stores or register-window writes to complete. -/
  | fence (c : Nat) (arg : BitVec 12)
  /-- TRAP (R105): Raise the TRAP exception. -/
  | trap (c : Nat) (arg : BitVec 12)
  /-- PUSH (R105): Push a register onto the stack. -/
  | push (c : Nat) (arg : BitVec 12)
  /-- POP (R105): Pop a register from the stack. -/
  | pop (c : Nat) (arg : BitVec 12)
  /-- MFSR (R106): Read a system register into A. -/
  | mfsr (c : Nat) (arg : BitVec 12)
  /-- MTSR (R106): Write A to a system register. -/
  | mtsr (c : Nat) (arg : BitVec 12)
  /-- ERET (R105): Return from an exception handler. -/
  | eret (c : Nat)
  /-- HALT (R105): Stop the context until restarted. -/
  | halt (c : Nat)
  /-- EI (R105): Enable interrupts. -/
  | ei (c : Nat)
  /-- DI (R105): Disable interrupts. -/
  | di (c : Nat)
  /-- WDOG (R383): Restart the Reeve watchdog. -/
  | wdog (c : Nat)
  /-- MOPQ (R116): Enqueue a MOP on the core's engine, waiting while the queue is full. -/
  | mopq (c : Nat) (f : CForm)
  /-- MOPQT (R116): Try to enqueue a MOP without waiting. -/
  | mopqt (c : Nat) (f : CForm)
  /-- MESTAT (R116): Read engine queue and credit state into A. -/
  | mestat (c : Nat)
  /-- CPDQ (R116): Enqueue a CPD on a copy engine, waiting while the queue or log is full. -/
  | cpdq (c : Nat) (f : CForm)
  /-- CPDQT (R116): Try to enqueue a CPD without waiting. -/
  | cpdqt (c : Nat) (f : CForm)
  /-- CIQ (R116): Enqueue a cipher request, waiting while the queue is full. -/
  | ciq (c : Nat) (f : CForm)
  /-- CIQT (R116): Try to enqueue a cipher request without waiting. -/
  | ciqt (c : Nat) (f : CForm)
  /-- PCSUM (R117): Ones'-complement sum over bytes into A. -/
  | pcsum (c : Nat) (f : CForm)
  /-- PHASH (R117): Toeplitz hash over bytes into A. -/
  | phash (c : Nat) (f : CForm)
  /-- PCLS (R278): Submit a header summary to the classifier and wait for its result. -/
  | pcls (c : Nat) (f : CForm)
  /-- PCLST (R278): Try to submit a header summary to the classifier. -/
  | pclst (c : Nat) (f : CForm)
  /-- ENQUEUE_STALL_RELEASE (R116): A plain enqueue waiting for queue or log room queues its descriptor when room appears. -/
  | enqueueStallRelease (c : Nat)
  /-- INTERRUPT_TAKEN (R121): An interrupt is taken between instructions on an I/O core or the Reeve. -/
  | interruptTaken (c cause : Nat)
  /-- CONTEXT_START (R124): TC_CTRL START starts a bound context at TC_CTX_PC. -/
  | contextStart (c : Nat)
  /-- CONTEXT_STOP (R122): TC_CTRL STOP stops a context at its next instruction boundary. -/
  | contextStop (c : Nat)
  /-- TC_CTX_BIND_WRITE (R124): A write of a context binding or start PC is checked and applied or discarded. -/
  | tcCtxBindWrite (c : Nat) (toPc : Bool) (value : Nat)
  /-- CPD_START (R145): A queued CPD starts when its edge, order and an in-flight place allow. -/
  | cpdStart (u : Nat)
  /-- ILK_WRITE_RELEASE (R153): A held write is released after its chunk has been copied to a staging slot. -/
  | ilkWriteRelease
  /-- CPD_COMPLETE (R147): A CPD ends and its completion is posted in acceptance order with CQE and counter bump. -/
  | cpdComplete (u p : Nat)
  /-- PATROL_SCRUB (R134): The GDDR7 patrol scrub reads granules and rewrites corrected ones. -/
  | patrolScrub (r : MemRead)
  /-- COMMONS_SCRUB (R129): The commons patrol scrub reads words and rewrites corrected ones. -/
  | commonsScrub (r : MemRead)
  /-- POSITION_RETIRE (R136): A position's corrected count reaches MEM_CE_LIMIT or it reports uncorrectable, and its standby is promoted. -/
  | positionRetire (pd : Nat)
  /-- PLANNED_PROMOTION_START (R136): MEM_PROMOTE.START starts a planned promotion copy of a position to its standby. -/
  | plannedPromotionStart (value : Nat)
  /-- PROMOTION_ABORT (R136): MEM_PROMOTE.ABORT ends a planned promotion before its switch. -/
  | promotionAbort
  /-- PROMOTION_SWITCH (R136): At the first edge after the promotion copy ends the logical device moves to the standby. -/
  | promotionSwitch
  /-- SUDDEN_PROMOTION (R136): A position stops answering or fails retraining and its device moves to the standby with all granules lost. -/
  | suddenPromotion (pd : Nat)
  /-- DPORT_DATA_READ (R155): A read of DPORT_DATA returns four bytes at ADDR and advances ADDR. -/
  | dportDataRead (i : Nat)
  /-- DPORT_DATA_WRITE (R155): A write of DPORT_DATA stores four bytes at ADDR and advances ADDR. -/
  | dportDataWrite (i value : Nat)
  /-- DPORT_APERTURE_READ (R155): A burst aperture read moves bytes from ADDR, with prefetch, and advances ADDR. -/
  | dportApertureRead (i len : Nat)
  /-- DPORT_APERTURE_WRITE (R155): A burst aperture write moves its payload to ADDR and advances ADDR. -/
  | dportApertureWrite (i : Nat) (bytes : List Nat)
  /-- DPORT_FLUSH (R156): DPORT_CTRL.FLUSH discards prefetched bytes. -/
  | dportFlush (i : Nat)
  /-- CREATE (R161): Partition command CREATE takes the written grants and seed base. -/
  | create (p : Nat) (tgt : Bool)
  /-- GRANT (R163): Partition command GRANT changes grants. -/
  | grant (p : Nat) (tgt : Bool)
  /-- BIND_VF (R161): Partition command BIND_VF binds a VF to the partition. -/
  | bindVf (p : Nat) (tgt : Bool)
  /-- BIND_CTX (R161): Partition command BIND_CTX writes a context binding and start PC. -/
  | bindCtx (p : Nat) (tgt : Bool)
  /-- UNBIND_CTX (R161): Partition command UNBIND_CTX clears a context binding. -/
  | unbindCtx (p : Nat) (tgt : Bool)
  /-- START (R161): Partition command START starts every bound context and acts on latched doorbells. -/
  | start (p : Nat) (tgt : Bool)
  /-- FREEZE (R162): Partition command FREEZE brings the partition through FREEZING to FROZEN. -/
  | freeze (p : Nat) (tgt : Bool)
  /-- THAW (R162): Partition command THAW restarts frozen contexts at the THAW edge. -/
  | thaw (p : Nat) (tgt : Bool)
  /-- STOP (R164): Partition command STOP discards all partition work. -/
  | stop (p : Nat) (tgt : Bool)
  /-- RESET_WORK (R161): Partition command RESET_WORK resets engine and/or copy work. -/
  | resetWork (p : Nat) (tgt : Bool)
  /-- DESTROY (R161): Partition command DESTROY unbinds and returns every resource zeroed. -/
  | destroy (p : Nat) (tgt : Bool)
  /-- LOG_START (R171): Dirty-page logging starts with bitmap A active. -/
  | logStart (p : Nat) (tgt : Bool)
  /-- LOG_SWAP (R171): Dirty-page logging swaps the active bitmap. -/
  | logSwap (p : Nat) (tgt : Bool)
  /-- LOG_STOP (R171): Dirty-page logging ends. -/
  | logStop (p : Nat) (tgt : Bool)
  /-- SAVE (R173): Partition command SAVE writes the partition blob to the host. -/
  | save (p : Nat) (tgt : Bool)
  /-- RESTORE (R174): Partition command RESTORE reads a blob into a READY partition. -/
  | restore (p : Nat) (tgt : Bool) (blob : BlobRead) (major minor : Nat)
  /-- PART_CMD_EDGE (R161): A checked partition command takes effect at its edge. -/
  | partCmdEdge
  /-- FREEZE_SLOW (R162): FROZEN is not reached within PART_LIMITS.FREEZE bells and FREEZE_SLOW is set. -/
  | freezeSlow (p : Nat)
  /-- DOORBELL (R165): A doorbell write is acted on, latched or discarded by partition state and queue validity. -/
  | doorbell (p cls q value : Nat)
  /-- QUEUE_RECORD_WRITE (R165): A queue record write sets up a queue, or clearing EN resets it under its owning chapter. -/
  | queueRecordWrite (p cls q word value : Nat)
  /-- SLICE_WRITE (R170): A PART_SLICE write is checked and enables or clears a slice. -/
  | sliceWrite (p sl value : Nat)
  /-- BITMAP_WRITE (R172): A dirty-bitmap word is written to host memory from the shadow within 2 µs of the data write. -/
  | bitmapWrite (p : Nat)
  /-- LINK_RETRAIN (R176): The host link retrains or down-trains and work goes on at the new width and speed. -/
  | linkRetrain (width speed : Nat) (flit : Bool)
  /-- D3HOT_ENTRY (R181): The PF enters D3hot and stops its BARs, DMA and MSI-X. -/
  | d3hotEntry
  /-- COMPLETION_RECEIVED (R186): A completion for a module read is used, or discarded as late, stray, errored or poisoned. -/
  | completionReceived (func tag status : Nat) (poisoned : Bool) (data header : List Nat)
  /-- POISONED_WRITE (R187): A received write with the poison bit is discarded and reported. -/
  | poisonedWrite (func : Nat) (header : List Nat)
  /-- COMPLETION_TIMEOUT (R185): A read's completion timer fires, the operation fails and its tag enters quarantine. -/
  | completionTimeout (tag : Nat)
  /-- QUARANTINE_END (R186): A tag's quarantine time ends and it may be reused. -/
  | quarantineEnd (tag : Nat)
  /-- BUS_MASTER_ENABLE_CHANGE (R190): Bus Master Enable changes and new requests are held or resumed. -/
  | busMasterEnableChange (func : Nat) (on : Bool)
  /-- VF_FLR (R191): A VF function-level reset resets the VF and its host-ring queues. -/
  | vfFlr (vf : Nat)
  /-- PF_RESET (R192): A PF FLR, hot reset or link-down reset clears VFs, quiesces host rings and orphans reads. -/
  | pfReset (flr : Bool)
  /-- LINK_DOWN (R194): The data link layer reports DL_Down and host writes are dropped until it is up. -/
  | linkDown
  /-- PERST_ASSERT (R433): PERST_N asserted after start holds the endpoint in reset as a link-down reset. -/
  | perstAssert (low : Nat)
  /-- PERST_DEASSERT (R196): PERST_N deasserted starts link training and endpoint configuration. -/
  | perstDeassert
  /-- ATTACH (R197): PCI_DRV ATTACH starts a driver session and heartbeat watch. -/
  | attach
  /-- DETACH (R198): PCI_DRV DETACH sets DETACHED and quiesces the scoped partitions at the next edge. -/
  | detach
  /-- HEARTBEAT (R198): A write of PCI_HB marks the current period as holding a heartbeat. -/
  | heartbeat
  /-- HEARTBEAT_PERIOD_END (R198): A heartbeat period ends, counting a miss and orphaning the driver at the third. -/
  | heartbeatPeriodEnd
  /-- QUIESCE (R199): At the next edge the host-ring queues of the named partitions stop fetching. -/
  | quiesce
  /-- PCI_RESUME (R200): PCI_RESUME ends the quiesce of named partitions at the next edge. -/
  | pciResume (parts : Nat)
  /-- FRAME_RECEIVED (R203): A fabric port accepts or drops a frame, and the parse pipeline decides where it goes. -/
  | frameReceived (port : Nat) (bytes : List Nat) (fcsOk : Bool) (occupied : Nat) (full : Bool)
  /-- FRAGMENT_HOLD_EXPIRY (R277): A held later fragment reaches HOLD µs and takes PKT_DEFAULT. -/
  | fragmentHoldExpiry
  /-- FRAGMENT_ENTRY_EXPIRY (R276): A fragment entry is removed LIFE µs after its last use. -/
  | fragmentEntryExpiry (i : Nat)
  /-- PFC_FRAME_RECEIVED (R204): A received PFC frame pauses the egress of classes mapped to its priorities. -/
  | pfcFrameReceived (port pauses quanta : Nat)
  /-- PFC_STORM (R205): A priority stays paused beyond PFC_STORM µs and PFC frames for it are ignored for 10 ms. -/
  | pfcStorm (port prio : Nat)
  /-- PFC_STORM_END (R205): The 10 ms of ignored PFC frames ends. -/
  | pfcStormEnd (port prio : Nat)
  /-- LANE_FAIL (R206): A lane fails and its port re-forms at a lower width. -/
  | laneFail (r : LaneReport)
  /-- PORT_REFORMED (R207): A port's re-forming completes or the port is reported down. -/
  | portReformed (port : Nat) (r : Reform)
  /-- FAB_RETRAIN_RESTORE (R209): FAB_RETRAIN.RESTORE withdraws the port's paths and retrains at full width. -/
  | fabRetrainRestore (port : Nat)
  /-- RETRAIN_COMPLETE (R209): A full-width retrain ends, or fails leaving the prior width. -/
  | retrainComplete (port : Nat) (ok : Bool)
  /-- FAB_CFG_WRITE (R231): A write of a quad mode is applied or discarded. -/
  | fabCfgWrite (value : Nat)
  /-- RKT_PACKET_RECEIVED (R217): An RKT packet is checked, placed or dropped, and acknowledged. -/
  | rktPacketReceived (k : RktPkt)
  /-- RKT_PACKET_SEND (R216): The sender puts the next PSN on a slot with window room. -/
  | rktPacketSend (c : Nat)
  /-- ACK_RECEIVED (R220): An ACK acknowledges PSNs, declares losses, updates windows and completes WQEs. -/
  | ackReceived (k : RktPkt)
  /-- ACK_DELAY_EXPIRY (R219): ACK_DELAY passes since the first unacknowledged packet and an ACK is sent. -/
  | ackDelayExpiry (c : Nat)
  /-- RTO_EXPIRY (R221): A PSN goes unacknowledged for RTO and is sent again, or a resync starts at RETRY_LIMIT. -/
  | rtoExpiry (c psn : Nat)
  /-- NAK_HOLD_END (R220): The RTO_MIN hold after a NAK = 1 ends and sending resumes. -/
  | nakHoldEnd (c : Nat)
  /-- RESYNC_RECEIVED (R222): The receiver takes a RESYNC, discards open messages and answers in the new epoch. -/
  | resyncReceived (k : RktPkt)
  /-- ALL_PATHS_DOWN (R223): A connection's slots stay down for RTO_MAX and the connection enters ERROR. -/
  | allPathsDown (c : Nat)
  /-- PATH_PROBE (R224): A down path entry is probed every PROBE_MS ms. -/
  | pathProbe (i : Nat)
  /-- PROBE_RECEIVED (R224): A PROBE addressed to the module is answered with PROBE_RESP. -/
  | probeReceived (i : Nat) (k : RktPkt)
  /-- PROBE_RESP_RECEIVED (R228): A PROBE_RESP counts toward bringing a path up and toward the link-delay measurement. -/
  | probeRespReceived (i : Nat) (k : RktPkt)
  /-- CONN_ENABLE (R233): RKT_CONN EN set puts the connection in RTS with CEPOCH_INIT. -/
  | connEnable (c value : Nat)
  /-- CONN_DISABLE (R233): RKT_CONN EN cleared puts the connection in RESET. -/
  | connDisable (w : ConnWrite)
  /-- WQE_FETCH (R243): The module fetches a WQE and checks it. -/
  | wqeFetch (p q : Nat) (words : List Nat)
  /-- WRITE (R242): WQE WRITE sends a message to a peer region. -/
  | write (p q idx : Nat)
  /-- SEND (R250): WQE SEND sends a message to the peer's receive buffer. -/
  | send (p q idx : Nat)
  /-- READ (R242): WQE READ reads a peer region into a local buffer. -/
  | read (p q idx : Nat)
  /-- ATOMIC (R244): WQE ATOMIC performs an atomic at the responder and returns the old value. -/
  | atomic (p q idx : Nat)
  /-- REG (R236): WQE REG registers a region entry and returns its key. -/
  | reg (p q idx : Nat)
  /-- INVAL (R239): WQE INVAL invalidates a region entry once no message is bound. -/
  | inval (p q idx : Nat)
  /-- WQE_NOP (R242): WQE NOP completes at once. -/
  | wqeNop (p q idx : Nat)
  /-- COPY (R253): WQE COPY queues its embedded CPD. -/
  | copy (p q idx : Nat)
  /-- RECV (R250): WQE RECV posts a receive buffer. -/
  | recv (p q : Nat) (words : List Nat)
  /-- RAW_SEND (R273): A SEND on a raw queue pair transmits one frame. -/
  | rawSend (p q idx : Nat)
  /-- ARMED_FIRE (R252): An armed WQE's counter meets its trigger and the WQE runs. -/
  | armedFire (p : Nat) (q : WorkQueue)
  /-- QWAIT_FIRE (R255): A QWAIT WQE runs when the named send queue's DONE_COUNT reaches its trigger. -/
  | qwaitFire (p : Nat) (q : WorkQueue)
  /-- INVAL_WAIT_EXPIRY (R239): INVAL_WAIT ms pass, connections with bound messages enter ERROR and INVAL completes. -/
  | invalWaitExpiry (p idx : Nat)
  /-- RULE_WRITE (R269): A write of a classifier rule is applied or discarded under the VALID rules. -/
  | ruleWrite (r word value : Nat)
  /-- HASH_COMMIT (R275): PKT_HASH word 0 with COMMIT makes the shadow key and field bits take effect. -/
  | hashCommit (p value : Nat)
  /-- RAW_CONFIG_WRITE (R271): A PKT_RAW write sets the raw queue-pair range while the partition is FREE or READY. -/
  | rawConfigWrite (p value : Nat)
  /-- SHAPER_REFILL (R280): At each refill every bucket adds its tokens, capped at its burst. -/
  | shaperRefill
  /-- TX_FRAME_SELECT (R282): At a frame boundary the port chooses the next frame to send. -/
  | txFrameSelect (port : Nat)
  /-- ALMANAC_ARM (R285): SCH_ALM_CMD.ARM arms a take-over of the shadow almanac at bell T. -/
  | almanacArm (port : Nat)
  /-- ALMANAC_CANCEL (R285): SCH_ALM_CMD.CANCEL disarms the take-over. -/
  | almanacCancel (port : Nat)
  /-- ALMANAC_TAKEOVER (R285): At edge T the shadow almanac becomes active. -/
  | almanacTakeover (port : Nat)
  /-- ALMANAC_ENTRY_ADVANCE (R284): The offset from the edge passes an entry's END and the next entry's gates take force. -/
  | almanacEntryAdvance (port : Nat)
  /-- VOLUME_WRITE (R289): A BLK_VOL write is checked and enables or clears a volume. -/
  | volumeWrite (v word value : Nat)
  /-- BSC_FETCH (R297): The arbiter fetches a BSC and checks it. -/
  | bscFetch (words list : List Nat)
  /-- BLK_READ (R292): BSC READ reads blocks to the buffer. -/
  | blkRead (id : Nat) (data : List Nat)
  /-- BLK_WRITE (R295): BSC WRITE stages and writes blocks to the backing. -/
  | blkWrite (id : Nat)
  /-- FLUSH (R296): BSC FLUSH makes earlier completed writes non-volatile. -/
  | flush (id : Nat)
  /-- TRIM (R296): BSC TRIM deallocates ranges. -/
  | trim (id : Nat)
  /-- GET_LOG (R292): BSC GET_LOG reads an SSD log page to the buffer. -/
  | getLog (id : Nat) (data : List Nat)
  /-- SELF_TEST (R306): BSC SELF_TEST starts or stops an SSD device self-test. -/
  | selfTest (id : Nat)
  /-- BSC_DISPATCH (R297): A fetched command is dispatched to its backing when room allows. -/
  | bscDispatch (m : Nat)
  /-- BACKING_COMPLETE (R294): The backing ends a command and its CQE and counter bump are posted. -/
  | backingComplete (id nvme : Nat)
  /-- AGE_PROMOTION (R298): A command reaches AGE_LIMIT undispatched and is promoted to URGENT. -/
  | agePromotion (p q idx : Nat)
  /-- SSD_TIMEOUT (R304): An SSD command exceeds CMD_TIMEOUT and a controller reset starts. -/
  | ssdTimeout (m : Nat)
  /-- SSD_CONTROLLER_FATAL (R304): An SSD reports controller fatal status and a controller reset starts. -/
  | ssdControllerFatal (m : Nat)
  /-- MEDIA_LINK_DOWN (R304): A media port link goes down and a controller reset starts. -/
  | mediaLinkDown (m : Nat)
  /-- MEDIA_RESET (R304): MED_CTRL.RESET starts a controller reset. -/
  | mediaReset (m : Nat)
  /-- MEDIA_RESET_DONE (R304): The SSD controller is ready again. -/
  | mediaResetDone (m : Nat) (spaces : List Namespace) (width speed : Nat)
  /-- SELF_TEST_RESULT (R306): An SSD reports its self-test result and the command ends. -/
  | selfTestResult (m result : Nat)
  /-- SELF_TEST_TIMEOUT (R306): A self-test reaches its test-time limit, is stopped and ends with TEST_TIMEOUT. -/
  | selfTestTimeout (m : Nat)
  /-- CIPHER_FETCH (R310): The engine fetches a cipher request and checks it. -/
  | cipherFetch (p q : Nat) (words : List Nat)
  /-- CIPHER_START (R308): The scheduler gives a piece of work to a cipher core. -/
  | cipherStart
  /-- GCM_ENC (R315): Cipher operation GCM_ENC encrypts with an engine-made IV. -/
  | gcmEnc (id : Nat)
  /-- GCM_DEC (R323): Cipher operation GCM_DEC decrypts and checks the tag. -/
  | gcmDec (id : Nat)
  /-- XTS_ENC (R309): Cipher operation XTS_ENC encrypts data units. -/
  | xtsEnc (id : Nat)
  /-- XTS_DEC (R309): Cipher operation XTS_DEC decrypts data units. -/
  | xtsDec (id : Nat)
  /-- HASH (R309): Cipher operation HASH computes a digest. -/
  | hash (id : Nat)
  /-- LOAD (R318): Cipher operation LOAD loads key material into an empty slot. -/
  | load (id : Nat)
  /-- GENKEY (R318): Cipher operation GENKEY fills an empty slot with a random key. -/
  | genkey (id : Nat)
  /-- ERASE (R319): Cipher operation ERASE empties a slot. -/
  | erase (id : Nat)
  /-- WRAP (R320): Cipher operation WRAP exports a slot wrapped under the partition key. -/
  | wrap (id : Nat)
  /-- UNWRAP (R320): Cipher operation UNWRAP imports a wrapped slot. -/
  | unwrap (id : Nat)
  /-- CIPHER_COMPLETE (R311): A cipher request ends and its CQE and counter bump are posted. -/
  | cipherComplete (id : Nat)
  /-- EPOCH_WRITE (R316): The Reeve writes a new cipher epoch. -/
  | epochWrite (value : Nat)
  /-- EXPORT_KEY_WRITE (R320): A write of the commit word of CIPH_PART_EK sets the export key. -/
  | exportKeyWrite (p value : Nat)
  /-- NONCE_ID_WRITE (R315): A write of CIPH_CFG.NONCE_ID is applied, or discarded while a slot holds a key. -/
  | nonceIdWrite (value : Nat)
  /-- CIPHER_ALARM (R327): An alarm source fires and hardware erases every key within 200 ns. -/
  | cipherAlarm (source : Nat)
  /-- ALARM_CLEAR (R328): The alarm conditions end and new partition keys are made. -/
  | alarmClear
  /-- FAULT_DETECTED (R329): A fault reaches fault handling, is recorded and classed, and the actions of its class start. -/
  | faultDetected (code part engine unit addr : Nat)
  /-- REPLAY_START (R336): After the restore, contexts restart from snapshots and logged MOPs are enqueued again. -/
  | replayStart (n : Nat)
  /-- IOC_RESTART (R339): The Reeve restarts an I/O core from its image after a double exception. -/
  | iocRestart (i frames : Nat)
  /-- SWITCH_ARM (R340): FLT_SWITCH.GO arms a planned switch-over for bell T. -/
  | switchArm (value : Nat)
  /-- PLANNED_SWITCH (R340): At edge T a planned switch-over is treated as cause 0x32. -/
  | plannedSwitch
  /-- CKP_TRIGGER (R347): A checkpoint context triggers at an edge, or is deferred, and starts sending the shard. -/
  | ckpTrigger (k hold : Nat)
  /-- CKP_TRIGGER_CMD (R346): CKP_CMD TRIGGER triggers a checkpoint at the next edge. -/
  | ckpTriggerCmd (k : Nat)
  /-- CKP_ABORT (R351): CKP_CMD ABORT aborts the running checkpoint. -/
  | ckpAbort (k : Nat)
  /-- CKP_RESTORE (R356): CKP_CMD RESTORE reads, verifies and places shard pieces into the regions. -/
  | ckpRestore (k : Nat) (entries : List (List Nat)) (images : List ImageRead)
  /-- GRANARY_DRAIN (R350): The host module drains a granary generation to a volume under a hold bit. -/
  | granaryDrain (g slot : Nat) (done : Option Bool)
  /-- CLOCK_GATE (R360): A block idle for PWR_IDLE.BELLS bells has its clocks gated. -/
  | clockGate (unit : Nat)
  /-- SLEEP_REQUEST (R362): A PWR_REQ for Sleep is checked and carried out. -/
  | sleepRequest
  /-- DEEP_SLEEP_REQUEST (R363): A PWR_REQ for Deep sleep is checked and carried out. -/
  | deepSleepRequest (sideband : Bool)
  /-- OFF_REQUEST (R364): A PWR_REQ for Off stops all work and enters Off. -/
  | offRequest
  /-- POWER_ENTRY_COMPLETE (R361): Entry to a requested power state completes and the request ends. -/
  | powerEntryComplete
  /-- WAKE (R365): An enabled wake source wakes the module and starts the return order. -/
  | wake (source lane low : Nat)
  /-- VESPER_DETECT (R366): Two consecutive valid vesper sequences for the port wake the module. -/
  | vesperDetect (port seq1 seq2 : Nat)
  /-- RETURN_STEP_READY (R367): A ready signal of the return order rises and the next step starts. -/
  | returnStepReady
  /-- VOLTAGE_REACHED (R369): The rail reaches its new set-point and a held clock change is applied. -/
  | voltageReached
  /-- PACE_MODE_WRITE (R371): A write of PWR_CTRL.MODE selects deterministic or free mode, or is refused. -/
  | paceModeWrite (value : Nat)
  /-- POWER_SAMPLE (R374): Input power is measured every 10 µs for the cap average. -/
  | powerSample (mv current : Nat)
  /-- PWR_ALERT_ASSERT (R376): PWR_ALERT_N falls and both compute dies go to the floor clock. -/
  | pwrAlertAssert (low : Nat)
  /-- ALERT_HOLD_END (R376): A FLOOR source has been clear for ALERT_HOLD µs and FLOOR clears when none holds. -/
  | alertHoldEnd (source : Nat)
  /-- REGULATOR_OVERCURRENT (R376): The module's regulators signal over-current and FLOOR is set. -/
  | regulatorOvercurrent
  /-- INPUT_UNDERVOLTAGE (R376): VIN falls below 32.0 V and FLOOR is set. -/
  | inputUndervoltage
  /-- SENSOR_SAMPLE (R378): A temperature sensor is sampled against its limits. -/
  | sensorSample (i value : Nat)
  /-- THERMAL_STEP (R378): After THERM_STEP bells the thermal pace is lowered or raised by one unit. -/
  | thermalStep
  /-- THERMAL_SHUTDOWN (R379): A sensor reaches its shutdown limit and the core rails are turned off. -/
  | thermalShutdown (i : Nat)
  /-- UNDERVOLTAGE_LOCKOUT (R427): VIN falls below 28.0 V and the module enters Off. -/
  | undervoltageLockout
  /-- HOTSWAP_TRIP (R430): Input current exceeds 80 A and the hot-swap switch opens. -/
  | hotswapTrip
  /-- PREBIAS_START (R380): LEAD before a heavy bell the regulators enable every phase and raise the set-point. -/
  | prebiasStart (bell : Nat)
  /-- PREBIAS_END (R380): HOLD after the edge the pre-bias ends. -/
  | prebiasEnd
  /-- DROOP_DETECT (R381): A droop detector finds the supply below set-point less THRESH and the die clock period doubles. -/
  | droopDetect (d : Nat)
  /-- DROOP_END (R381): After at least 16 stretched clocks with the supply recovered, the stretch ends. -/
  | droopEnd (d lost : Nat)
  /-- AUX_OUT_SHORT (R429): A short on AUX_OUT takes it down at its current limit. -/
  | auxOutShort
  /-- COLD_START (R395): Power arrival, Off exit or shutdown recovery starts a cold start through the steps of Table 15.6. -/
  | coldStart (found : Found)
  /-- WARM_START (R395): Exit from Deep sleep starts a warm start with cached values. -/
  | warmStart (found : Found)
  /-- START_RETRY (R396): 100 ms after a failed start step the ROM begins a new cold start. -/
  | startRetry (found : Found)
  /-- RESET_WARM (R411): MGT_RESET WARM with the key starts a warm start. -/
  | resetWarm (key : Nat) (found : Found)
  /-- RESET_COLD (R411): MGT_RESET COLD with the key starts a cold start. -/
  | resetCold (key : Nat) (found : Found)
  /-- WATCHDOG_EXPIRY (R383): The Reeve watchdog expires and the Reeve alone is reset. -/
  | watchdogExpiry
  /-- REEVE_RESTART (R385): After a Reeve reset the ROM restarts the operational image and it rebuilds its state. -/
  | reeveRestart
  /-- LOG_PERSIST (R386): Event-log entries of severity 2 or more are written to the flash log. -/
  | logPersist
  /-- TELEMETRY_SAMPLE (R386): Every 1 ms the Reeve reads sensors and input power. -/
  | telemetrySample
  /-- ENTDAA (R387): I3C dynamic address assignment. -/
  | entdaa (dyn : Nat)
  /-- SETDASA (R387): I3C assignment from the static address. -/
  | setdasa (static dyn : Nat)
  /-- SET_ENDPOINT_ID (R388): MCTP control command Set Endpoint ID. -/
  | setEndpointId (eid : Nat)
  /-- GET_ENDPOINT_ID (R388): MCTP control command Get Endpoint ID. -/
  | getEndpointId
  /-- GET_MCTP_VERSION_SUPPORT (R388): MCTP control command Get MCTP Version Support. -/
  | getMctpVersionSupport
  /-- GET_MESSAGE_TYPE_SUPPORT (R388): MCTP control command Get Message Type Support. -/
  | getMessageTypeSupport
  /-- GET_VENDOR_DEFINED_MSG_SUPPORT (R388): MCTP control command Get Vendor Defined Message Support. -/
  | getVendorDefinedMsgSupport
  /-- GET_STATUS (R388): Sideband command returning start, power and fault status. -/
  | getStatus (inst : Nat)
  /-- GET_SENSORS (R388): Sideband command returning sensor minima, maxima and values. -/
  | getSensors (inst first count : Nat)
  /-- GET_EVENT_LOG_ENTRY (R388): Sideband GET_LOG returning one event-log entry. -/
  | getEventLogEntry (inst entry : Nat)
  /-- GET_EVENTS (R389): Sideband command returning MGT_EVENT and clearing it. -/
  | getEvents (inst : Nat)
  /-- GET_IDENTITY (R388): Sideband command returning the identity public key and serial number. -/
  | getIdentity (inst chunk : Nat)
  /-- ATTEST (R410): Sideband command returning a signed attestation report chunk. -/
  | attest (inst nonce chunk : Nat)
  /-- POWER_OFF (R388): Sideband POWER request for Off. -/
  | powerOff (inst : Nat)
  /-- POWER_WARM_START (R388): Sideband POWER request for a warm start. -/
  | powerWarmStart (inst : Nat) (found : Found)
  /-- POWER_COLD_START (R388): Sideband POWER request for a cold start. -/
  | powerColdStart (inst : Nat) (found : Found)
  /-- SIDEBAND_DPORT (R388): Sideband DPORT read or write through DPORT1. -/
  | sidebandDport (inst addr len : Nat) (write : Bool) (data : List Nat)
  /-- CFG_WRITE (R394): Sideband CFG_WRITE writes the staged configuration image to a slot. -/
  | cfgWrite (inst slot : Nat)
  /-- CFG_WRITE_A (R394): MGT_CFG_CMD WRITE_A verifies and writes the staged image to slot A. -/
  | cfgWriteA
  /-- CFG_WRITE_B (R394): MGT_CFG_CMD WRITE_B verifies and writes the staged image to slot B. -/
  | cfgWriteB
  /-- FW_LOAD (R403): MGT_FW_CMD LOAD verifies a staged firmware package. -/
  | fwLoad
  /-- FW_ACTIVATE (R404): MGT_FW_CMD ACTIVATE arms firmware activation at a bell. -/
  | fwActivate
  /-- FW_CANCEL (R404): MGT_FW_CMD CANCEL disarms a pending activation. -/
  | fwCancel
  /-- RAISE_SVN (R402): MGT_FW_CMD RAISE_SVN raises the SVN floor to the running package. -/
  | raiseSvn
  /-- FW_SWITCHOVER (R404): At the activation edge, unless deferred, the firmware switch-over runs. -/
  | fwSwitchover (ready : Bool)
  /-- OPEN_RANGE_WRITE (R411): A setting of MGT_OPEN EN is checked and opens a data-port range. -/
  | openRangeWrite (n value : Nat)
  /-- ATTEST_GO (R410): MGT_ATTEST.GO signs an attestation report into the commons. -/
  | attestGo
  /-- CHALLENGE (R413): TST_UNLOCK CHALLENGE draws a fresh nonce. -/
  | challenge
  /-- UNLOCK (R413): TST_UNLOCK UNLOCK verifies the staged token and raises the test mode. -/
  | unlock
  /-- ALL_OFF (R415): TST_CTRL.ALL_OFF disarms every perturbation and ends every loop-back. -/
  | allOff
  /-- LOOP_ENABLE (R416): TST_LOOP EN set loops an instance at a depth. -/
  | loopEnable (i value : Nat)
  /-- LOOP_DISABLE (R417): TST_LOOP EN cleared ends a loop and restores the instance. -/
  | loopDisable (i : Nat)
  /-- LOOP_LIMIT_EXPIRY (R419): A loop's LIMIT passes and the module clears EN itself. -/
  | loopLimitExpiry (i : Nat)
  /-- LATE_ARM (R422): TST_LATE ARM arms forced lateness for bell T. -/
  | lateArm (value : Nat)
  /-- INJECT_ARM (R423): TST_INJECT ARM arms an injected fault for bell T. -/
  | injectArm (value : Nat)
  /-- INJECT_CANCEL (R423): TST_INJECT CANCEL disarms an injection before edge T. -/
  | injectCancel
  /-- INJECT_FIRE (R423): From edge T the named check reports the injected cause. -/
  | injectFire (part engine unit : Nat)
  /-- BIST_START (R424): TST_BIST START starts a self-test on demand. -/
  | bistStart (value : Nat)
  /-- BIST_COMPLETE (R424): A self-test ends and its result is recorded. -/
  | bistComplete (pass : Bool)
  /-- HOST_LINK_UP (R194): The host link's data link layer comes up again after DL_Down, and host writes stop being discarded. -/
  | hostLinkUp (width speed : Nat) (flit : Bool)
  /-- FAB_PORT_LINK_UP (R207): A fabric port finishes training after it is enabled or its partner returns, and its link comes up so its path entries may be probed up. -/
  | fabPortLinkUp (port : Nat)
  /-- PFC_PAUSE_END (R204): The pause quanta of a received PFC frame run out and the paused traffic classes become eligible again. -/
  | pfcPauseEnd (port prio : Nat)
  /-- AUX_POWER_LOSS (R427): VIN falls below 16.0 V, the AUX converter stops, and AUX storage, AUX registers and WAKE_N are lost. -/
  | auxPowerLoss
deriving DecidableEq, Repr

end Sys2Proof
end

