-- ==== Sys2Proof/Decode.lean ====
section
/-! DEFINITION. The command that a word of the table's bits spells. The table gives no row any bits (every row's list of fields is
empty): a command is a register access, an arrival, an event or an instruction of a core with its operands beside it, and no
word spells one. -/

namespace Sys2Proof

/-- The command that the `nbits` bits of `w` spell by the bits of spec/opcode_table.json: none, for it gives no row any. -/
def decodeTableWord (nbits w : Nat) : Option Instr :=
  match nbits, w with
  | _, _ => none

end Sys2Proof
end

