-- ==== Sys2Proof/Machine/RegMap.lean ====
section
/-! DEFINITION. The register map: one `Fld` per software-visible register field of the spec's register tables
(chapters 01 and 03 to 17), and `regTable`, the rows by which an access address finds its register (R2, R5, R6, R26, R27).
Every address is a byte offset in PF BAR0 (Table 1.9); `rst` is the field's Reset column (R4). -/

namespace Sys2Proof.Machine

/-- PF BAR0 base of physical slot `ps` (0-8 CD0.S0-S8, 9-17 CD1.S0-S8): Table 1.9, R27. -/
def slotBase (ps : Nat) : Nat := 0x800000 + ps / 9 * 0x400000 + ps % 9 * 0x40000
/-- PF BAR0 base of the die-level registers of die `d`: Table 1.9. -/
def dieBase (d : Nat) : Nat := 0xB00000 + d * 0x400000
/-- PF BAR0 base of the CPY_ registers of copy engine unit `u`: 0-17 physical slots, 18-21 HC0-HC3 (chapter 05). -/
def cpyBase (u : Nat) : Nat := if u < 18 then slotBase u + 0x20000 else 0x20000 + (u - 18) * 0x1000

/-- BELL_CTRL (01, HUB). -/
def Reg.BELL_CTRL : Nat := 0xc0000
def Reg.BELL_CTRL_EN : Fld := ⟨Reg.BELL_CTRL, 0, 1, 0⟩
def Reg.BELL_CTRL_SOURCE : Fld := ⟨Reg.BELL_CTRL, 1, 2, 0⟩
def Reg.BELL_CTRL_ROLE : Fld := ⟨Reg.BELL_CTRL, 3, 2, 0⟩
def Reg.BELL_CTRL_OUT_EN : Fld := ⟨Reg.BELL_CTRL, 5, 1, 0⟩
def Reg.BELL_CTRL_REPORT_EN : Fld := ⟨Reg.BELL_CTRL, 6, 1, 1⟩
def Reg.BELL_CTRL_TAG : Fld := ⟨Reg.BELL_CTRL, 8, 8, 0⟩
/-- BELL_PERIOD (01, HUB). -/
def Reg.BELL_PERIOD : Nat := 0xc0004
def Reg.BELL_PERIOD_PERIOD : Fld := ⟨Reg.BELL_PERIOD, 0, 10, 64⟩
def Reg.BELL_PERIOD_CURRENT : Fld := ⟨Reg.BELL_PERIOD, 16, 10, 64⟩
/-- BELL_PACE (01, HUB). -/
def Reg.BELL_PACE : Nat := 0xc0008
def Reg.BELL_PACE_NOMINAL : Fld := ⟨Reg.BELL_PACE, 0, 7, 64⟩
def Reg.BELL_PACE_CURRENT : Fld := ⟨Reg.BELL_PACE, 8, 7, 64⟩
def Reg.BELL_PACE_ATTAINABLE : Fld := ⟨Reg.BELL_PACE, 16, 7, 64⟩
/-- BELL_LIMITS (01, HUB). -/
def Reg.BELL_LIMITS : Nat := 0xc000c
def Reg.BELL_LIMITS_STRETCH_MAX : Fld := ⟨Reg.BELL_LIMITS, 0, 6, 32⟩
def Reg.BELL_LIMITS_RECOVER : Fld := ⟨Reg.BELL_LIMITS, 8, 8, 64⟩
def Reg.BELL_LIMITS_LATE_LIMIT : Fld := ⟨Reg.BELL_LIMITS, 16, 8, 16⟩
/-- BELL_COUNT (01, HUB). -/
def Reg.BELL_COUNT : Nat := 0xc0010
def Reg.BELL_COUNT_COUNT : Fld := ⟨Reg.BELL_COUNT, 0, 64, 0⟩
/-- BELL_COMMIT (01, HUB). -/
def Reg.BELL_COMMIT : Nat := 0xc0018
def Reg.BELL_COMMIT_NEXT : Fld := ⟨Reg.BELL_COMMIT, 0, 64, 0⟩
/-- BELL_ALIGN (01, HUB). -/
def Reg.BELL_ALIGN : Nat := 0xc0020
def Reg.BELL_ALIGN_PHASE : Fld := ⟨Reg.BELL_ALIGN, 0, 16, 0⟩
def Reg.BELL_ALIGN_DELAY : Fld := ⟨Reg.BELL_ALIGN, 16, 16, 0⟩
/-- BELL_HOLD (01, HUB). -/
def Reg.BELL_HOLD : Nat := 0xc0024
def Reg.BELL_HOLD_HOLD_LIMIT : Fld := ⟨Reg.BELL_HOLD, 0, 16, 2048⟩
/-- BELL_STATUS (01, HUB). -/
def Reg.BELL_STATUS : Nat := 0xc0028
def Reg.BELL_STATUS_LOCKED : Fld := ⟨Reg.BELL_STATUS, 0, 1, 0⟩
def Reg.BELL_STATUS_HOLDOVER : Fld := ⟨Reg.BELL_STATUS, 1, 1, 0⟩
def Reg.BELL_STATUS_UNALIGNED : Fld := ⟨Reg.BELL_STATUS, 2, 1, 0⟩
def Reg.BELL_STATUS_MASTER_ACTIVE : Fld := ⟨Reg.BELL_STATUS, 3, 1, 0⟩
def Reg.BELL_STATUS_EPOCH : Fld := ⟨Reg.BELL_STATUS, 8, 8, 0⟩
/-- BELL_COORD (01, HUB). -/
def Reg.BELL_COORD : Nat := 0xc002c
def Reg.BELL_COORD_X : Fld := ⟨Reg.BELL_COORD, 0, 6, 0⟩
def Reg.BELL_COORD_Y : Fld := ⟨Reg.BELL_COORD, 8, 6, 0⟩
def Reg.BELL_COORD_Z : Fld := ⟨Reg.BELL_COORD, 16, 4, 0⟩
/-- BELL_MASTER (01, HUB). -/
def Reg.BELL_MASTER : Nat := 0xc0030
def Reg.BELL_MASTER_X : Fld := ⟨Reg.BELL_MASTER, 0, 6, 0⟩
def Reg.BELL_MASTER_Y : Fld := ⟨Reg.BELL_MASTER, 8, 6, 0⟩
def Reg.BELL_MASTER_Z : Fld := ⟨Reg.BELL_MASTER, 16, 4, 0⟩
/-- BELL_LATE (01, HUB). -/
def Reg.BELL_LATE : Nat := 0xc0034
def Reg.BELL_LATE_ME : Fld := ⟨Reg.BELL_LATE, 0, 1, 0⟩
def Reg.BELL_LATE_CPY : Fld := ⟨Reg.BELL_LATE, 1, 1, 0⟩
def Reg.BELL_LATE_TC : Fld := ⟨Reg.BELL_LATE, 2, 1, 0⟩
def Reg.BELL_LATE_CKP : Fld := ⟨Reg.BELL_LATE, 3, 1, 0⟩
def Reg.BELL_LATE_PWR : Fld := ⟨Reg.BELL_LATE, 4, 1, 0⟩
def Reg.BELL_LATE_FORCED : Fld := ⟨Reg.BELL_LATE, 5, 1, 0⟩
/-- BELL_LATE_COUNT (01, HUB). -/
def Reg.BELL_LATE_COUNT : Nat := 0xc0038
def Reg.BELL_LATE_COUNT_COUNT : Fld := ⟨Reg.BELL_LATE_COUNT, 0, 32, 0⟩
/-- BELL_EVENT (01, HUB). -/
def Reg.BELL_EVENT : Nat := 0xc003c
def Reg.BELL_EVENT_SOURCE_LOST : Fld := ⟨Reg.BELL_EVENT, 0, 1, 0⟩
def Reg.BELL_EVENT_HOLDOVER_LIMIT : Fld := ⟨Reg.BELL_EVENT, 1, 1, 0⟩
def Reg.BELL_EVENT_HANDOVER : Fld := ⟨Reg.BELL_EVENT, 2, 1, 0⟩
def Reg.BELL_EVENT_COUNT_BACK : Fld := ⟨Reg.BELL_EVENT, 3, 1, 0⟩
def Reg.BELL_EVENT_MISSED_TARGET : Fld := ⟨Reg.BELL_EVENT, 4, 1, 0⟩
def Reg.BELL_EVENT_LATE_LIMIT : Fld := ⟨Reg.BELL_EVENT, 5, 1, 0⟩
def Reg.BELL_EVENT_REPORT_MISSING : Fld := ⟨Reg.BELL_EVENT, 6, 1, 0⟩
def Reg.BELL_EVENT_BAD_PARAM : Fld := ⟨Reg.BELL_EVENT, 7, 1, 0⟩
def Reg.BELL_EVENT_PACE_CHANGE : Fld := ⟨Reg.BELL_EVENT, 8, 1, 0⟩
def Reg.BELL_EVENT_DELAY_RANGE : Fld := ⟨Reg.BELL_EVENT, 9, 1, 0⟩
/-- BELL_EVENT_EN (01, HUB). -/
def Reg.BELL_EVENT_EN : Nat := 0xc0040
def Reg.BELL_EVENT_EN_EN : Fld := ⟨Reg.BELL_EVENT_EN, 0, 10, 0⟩
/-- ME_SLOT_STATUS (03, ENG). -/
def Reg.ME_SLOT_STATUS (ps : Nat) : Nat := slotBase ps + 0x0
def Reg.ME_SLOT_STATUS_STATE (ps : Nat) : Fld := ⟨Reg.ME_SLOT_STATUS ps, 0, 2, 3⟩
def Reg.ME_SLOT_STATUS_LOGICAL (ps : Nat) : Fld := ⟨Reg.ME_SLOT_STATUS ps, 4, 4, 15⟩
def Reg.ME_SLOT_STATUS_BUSY (ps : Nat) : Fld := ⟨Reg.ME_SLOT_STATUS ps, 8, 1, 0⟩
def Reg.ME_SLOT_STATUS_DRAIN_BUSY (ps : Nat) : Fld := ⟨Reg.ME_SLOT_STATUS ps, 9, 1, 0⟩
def Reg.ME_SLOT_STATUS_CHAIN_OPEN (ps : Nat) : Fld := ⟨Reg.ME_SLOT_STATUS ps, 10, 1, 0⟩
def Reg.ME_SLOT_STATUS_QDEPTH (ps : Nat) : Fld := ⟨Reg.ME_SLOT_STATUS ps, 16, 7, 0⟩
def Reg.ME_SLOT_STATUS_PART (ps : Nat) : Fld := ⟨Reg.ME_SLOT_STATUS ps, 24, 6, 0⟩
/-- ME_ERR (03, ENG). -/
def Reg.ME_ERR (ps : Nat) : Nat := slotBase ps + 0x4
def Reg.ME_ERR_OPERAND_PARITY (ps : Nat) : Fld := ⟨Reg.ME_ERR ps, 0, 1, 0⟩
def Reg.ME_ERR_SCALE_PARITY (ps : Nat) : Fld := ⟨Reg.ME_ERR ps, 1, 1, 0⟩
def Reg.ME_ERR_ARRAY_CHECK (ps : Nat) : Fld := ⟨Reg.ME_ERR ps, 2, 1, 0⟩
def Reg.ME_ERR_ACC_PARITY (ps : Nat) : Fld := ⟨Reg.ME_ERR ps, 3, 1, 0⟩
def Reg.ME_ERR_DRAIN_CHECK (ps : Nat) : Fld := ⟨Reg.ME_ERR ps, 4, 1, 0⟩
def Reg.ME_ERR_REJECT (ps : Nat) : Fld := ⟨Reg.ME_ERR ps, 5, 1, 0⟩
def Reg.ME_ERR_CHAIN_BROKEN (ps : Nat) : Fld := ⟨Reg.ME_ERR ps, 6, 1, 0⟩
def Reg.ME_ERR_FORMAT (ps : Nat) : Fld := ⟨Reg.ME_ERR ps, 7, 1, 0⟩
def Reg.ME_ERR_MISSED_TARGET (ps : Nat) : Fld := ⟨Reg.ME_ERR ps, 8, 1, 0⟩
def Reg.ME_ERR_LATE (ps : Nat) : Fld := ⟨Reg.ME_ERR ps, 9, 1, 0⟩
/-- ME_ERR_EN (03, ENG). -/
def Reg.ME_ERR_EN (ps : Nat) : Nat := slotBase ps + 0x8
def Reg.ME_ERR_EN_EN (ps : Nat) : Fld := ⟨Reg.ME_ERR_EN ps, 0, 10, 0⟩
/-- ME_REJECT_INFO (03, ENG). -/
def Reg.ME_REJECT_INFO (ps : Nat) : Nat := slotBase ps + 0xc
def Reg.ME_REJECT_INFO_CODE (ps : Nat) : Fld := ⟨Reg.ME_REJECT_INFO ps, 0, 8, 0⟩
def Reg.ME_REJECT_INFO_PART (ps : Nat) : Fld := ⟨Reg.ME_REJECT_INFO ps, 8, 6, 0⟩
def Reg.ME_REJECT_INFO_USER (ps : Nat) : Fld := ⟨Reg.ME_REJECT_INFO ps, 16, 16, 0⟩
/-- ME_MOP_COUNT (03, ENG). -/
def Reg.ME_MOP_COUNT (ps : Nat) : Nat := slotBase ps + 0x10
def Reg.ME_MOP_COUNT_COUNT (ps : Nat) : Fld := ⟨Reg.ME_MOP_COUNT ps, 0, 64, 0⟩
/-- ME_STEP_CLOCKS (03, ENG). -/
def Reg.ME_STEP_CLOCKS (ps : Nat) : Nat := slotBase ps + 0x18
def Reg.ME_STEP_CLOCKS_COUNT (ps : Nat) : Fld := ⟨Reg.ME_STEP_CLOCKS ps, 0, 64, 0⟩
/-- ME_SKIP_UNITS (03, ENG). -/
def Reg.ME_SKIP_UNITS (ps : Nat) : Nat := slotBase ps + 0x20
def Reg.ME_SKIP_UNITS_COUNT (ps : Nat) : Fld := ⟨Reg.ME_SKIP_UNITS ps, 0, 64, 0⟩
/-- ME_RAMPS (03, ENG). -/
def Reg.ME_RAMPS (ps : Nat) : Nat := slotBase ps + 0x28
def Reg.ME_RAMPS_COUNT (ps : Nat) : Fld := ⟨Reg.ME_RAMPS ps, 0, 32, 0⟩
/-- ME_LATE_BELL (03, ENG). -/
def Reg.ME_LATE_BELL (ps : Nat) : Nat := slotBase ps + 0x2c
def Reg.ME_LATE_BELL_BELL (ps : Nat) : Fld := ⟨Reg.ME_LATE_BELL ps, 0, 32, 0⟩
/-- ME_MAP (03, ENG). -/
def Reg.ME_MAP (d : Nat) : Nat := dieBase d + 0x0
def Reg.ME_MAP_L0 (d : Nat) : Fld := ⟨Reg.ME_MAP d, 0, 4, 0⟩
def Reg.ME_MAP_L1 (d : Nat) : Fld := ⟨Reg.ME_MAP d, 4, 4, 1⟩
def Reg.ME_MAP_L2 (d : Nat) : Fld := ⟨Reg.ME_MAP d, 8, 4, 2⟩
def Reg.ME_MAP_L3 (d : Nat) : Fld := ⟨Reg.ME_MAP d, 12, 4, 3⟩
def Reg.ME_MAP_L4 (d : Nat) : Fld := ⟨Reg.ME_MAP d, 16, 4, 4⟩
def Reg.ME_MAP_L5 (d : Nat) : Fld := ⟨Reg.ME_MAP d, 20, 4, 5⟩
def Reg.ME_MAP_L6 (d : Nat) : Fld := ⟨Reg.ME_MAP d, 24, 4, 6⟩
def Reg.ME_MAP_L7 (d : Nat) : Fld := ⟨Reg.ME_MAP d, 28, 4, 7⟩
/-- ME_DIE_CTRL (03, ENG). -/
def Reg.ME_DIE_CTRL (d : Nat) : Nat := dieBase d + 0x4
def Reg.ME_DIE_CTRL_MAP_LOCK (d : Nat) : Fld := ⟨Reg.ME_DIE_CTRL d, 0, 1, 0⟩
/-- ME_DIE_STATUS (03, ENG). -/
def Reg.ME_DIE_STATUS (d : Nat) : Nat := dieBase d + 0x8
def Reg.ME_DIE_STATUS_SPARE_SLOT (d : Nat) : Fld := ⟨Reg.ME_DIE_STATUS d, 0, 4, 8⟩
def Reg.ME_DIE_STATUS_SPARE_AVAIL (d : Nat) : Fld := ⟨Reg.ME_DIE_STATUS d, 4, 1, 0⟩
def Reg.ME_DIE_STATUS_SHARE_OVER (d : Nat) : Fld := ⟨Reg.ME_DIE_STATUS d, 5, 1, 0⟩
def Reg.ME_DIE_STATUS_FAILED (d : Nat) : Fld := ⟨Reg.ME_DIE_STATUS d, 8, 9, 0⟩
/-- ME_LOG_CTRL (03, ENG). -/
def Reg.ME_LOG_CTRL (n : Nat) : Nat := dieBase (n / 8) + 0x100 + n % 8 * 0x4
def Reg.ME_LOG_CTRL_STAGGER (n : Nat) : Fld := ⟨Reg.ME_LOG_CTRL n, 0, 7, 0⟩
def Reg.ME_LOG_CTRL_RAMP_EN (n : Nat) : Fld := ⟨Reg.ME_LOG_CTRL n, 7, 1, 1⟩
def Reg.ME_LOG_CTRL_RAMP_IDLE (n : Nat) : Fld := ⟨Reg.ME_LOG_CTRL n, 8, 12, 64⟩
def Reg.ME_LOG_CTRL_LEND (n : Nat) : Fld := ⟨Reg.ME_LOG_CTRL n, 20, 1, 0⟩
/-- ME_LOG_STATUS (03, ENG). -/
def Reg.ME_LOG_STATUS (n : Nat) : Nat := dieBase (n / 8) + 0x200 + n % 8 * 0x4
def Reg.ME_LOG_STATUS_SHARE_SUM (n : Nat) : Fld := ⟨Reg.ME_LOG_STATUS n, 0, 7, 0⟩
def Reg.ME_LOG_STATUS_LAST_PART (n : Nat) : Fld := ⟨Reg.ME_LOG_STATUS n, 8, 6, 0⟩
/-- ME_SHARE (03, ENG). -/
def Reg.ME_SHARE (n p : Nat) : Nat := dieBase (n / 8) + 0x1000 + n % 8 * 0x100 + p * 0x4
def Reg.ME_SHARE_SHARE (n p : Nat) : Fld := ⟨Reg.ME_SHARE n p, 0, 7, 0⟩
/-- TC_CTRL (04, ENG). -/
def Reg.TC_CTRL (ps k : Nat) : Nat := slotBase ps + 0x10000 + k * 0x4000
def Reg.TC_CTRL_START (ps k : Nat) : Fld := ⟨Reg.TC_CTRL ps k, 0, 4, 0⟩
def Reg.TC_CTRL_STOP (ps k : Nat) : Fld := ⟨Reg.TC_CTRL ps k, 4, 4, 0⟩
/-- TC_STATUS (04, ENG). -/
def Reg.TC_STATUS (ps k : Nat) : Nat := slotBase ps + 0x10004 + k * 0x4000
def Reg.TC_STATUS_RUNNING (ps k : Nat) : Fld := ⟨Reg.TC_STATUS ps k, 0, 4, 0⟩
def Reg.TC_STATUS_WAITING (ps k : Nat) : Fld := ⟨Reg.TC_STATUS ps k, 4, 4, 0⟩
def Reg.TC_STATUS_LATE (ps k : Nat) : Fld := ⟨Reg.TC_STATUS ps k, 8, 4, 0⟩
def Reg.TC_STATUS_DOUBLE (ps k : Nat) : Fld := ⟨Reg.TC_STATUS ps k, 12, 4, 0⟩
def Reg.TC_STATUS_MEM_ERR (ps k : Nat) : Fld := ⟨Reg.TC_STATUS ps k, 16, 4, 0⟩
/-- TC_CTX_BIND (04, ENG). -/
def Reg.TC_CTX_BIND (ps k c : Nat) : Nat := slotBase ps + 0x10010 + k * 0x4000 + c * 0x10
def Reg.TC_CTX_BIND_PART (ps k c : Nat) : Fld := ⟨Reg.TC_CTX_BIND ps k c, 0, 6, 0⟩
def Reg.TC_CTX_BIND_LEVEL (ps k c : Nat) : Fld := ⟨Reg.TC_CTX_BIND ps k c, 6, 1, 0⟩
def Reg.TC_CTX_BIND_EN (ps k c : Nat) : Fld := ⟨Reg.TC_CTX_BIND ps k c, 7, 1, 0⟩
def Reg.TC_CTX_BIND_BASE (ps k c : Nat) : Fld := ⟨Reg.TC_CTX_BIND ps k c, 8, 6, 0⟩
def Reg.TC_CTX_BIND_SIZE (ps k c : Nat) : Fld := ⟨Reg.TC_CTX_BIND ps k c, 16, 6, 0⟩
/-- TC_CTX_PC (04, ENG). -/
def Reg.TC_CTX_PC (ps k c : Nat) : Nat := slotBase ps + 0x10014 + k * 0x4000 + c * 0x10
def Reg.TC_CTX_PC_START_PC (ps k c : Nat) : Fld := ⟨Reg.TC_CTX_PC ps k c, 2, 16, 0⟩
/-- TC_CTX_EXC (04, ENG). -/
def Reg.TC_CTX_EXC (ps k c : Nat) : Nat := slotBase ps + 0x10018 + k * 0x4000 + c * 0x10
def Reg.TC_CTX_EXC_CAUSE (ps k c : Nat) : Fld := ⟨Reg.TC_CTX_EXC ps k c, 0, 8, 0⟩
def Reg.TC_CTX_EXC_DOUBLE (ps k c : Nat) : Fld := ⟨Reg.TC_CTX_EXC ps k c, 8, 1, 0⟩
def Reg.TC_CTX_EXC_PC (ps k c : Nat) : Fld := ⟨Reg.TC_CTX_EXC ps k c, 10, 18, 0⟩
/-- TC_CTX_BELL (04, ENG). -/
def Reg.TC_CTX_BELL (ps k c : Nat) : Nat := slotBase ps + 0x1001c + k * 0x4000 + c * 0x10
def Reg.TC_CTX_BELL_PB (ps k c : Nat) : Fld := ⟨Reg.TC_CTX_BELL ps k c, 0, 32, 0⟩
/-- MEM_ERR (05, MEM). -/
def Reg.MEM_ERR : Nat := 0x700000
def Reg.MEM_ERR_CORRECTED : Fld := ⟨Reg.MEM_ERR, 0, 1, 0⟩
def Reg.MEM_ERR_UNCORRECTABLE : Fld := ⟨Reg.MEM_ERR, 1, 1, 0⟩
def Reg.MEM_ERR_LOST_READ : Fld := ⟨Reg.MEM_ERR, 2, 1, 0⟩
def Reg.MEM_ERR_TRAIN_FAIL : Fld := ⟨Reg.MEM_ERR, 3, 1, 0⟩
def Reg.MEM_ERR_PROMOTE_DONE : Fld := ⟨Reg.MEM_ERR, 4, 1, 0⟩
def Reg.MEM_ERR_NO_STANDBY : Fld := ⟨Reg.MEM_ERR, 5, 1, 0⟩
def Reg.MEM_ERR_ILK_HELD : Fld := ⟨Reg.MEM_ERR, 6, 1, 0⟩
/-- MEM_ERR_EN (05, MEM). -/
def Reg.MEM_ERR_EN : Nat := 0x700004
def Reg.MEM_ERR_EN_EN : Fld := ⟨Reg.MEM_ERR_EN, 0, 7, 0⟩
/-- MEM_ERR_ADDR (05, MEM). -/
def Reg.MEM_ERR_ADDR : Nat := 0x700008
def Reg.MEM_ERR_ADDR_ADDR : Fld := ⟨Reg.MEM_ERR_ADDR, 0, 48, 0⟩
def Reg.MEM_ERR_ADDR_PD : Fld := ⟨Reg.MEM_ERR_ADDR, 48, 5, 0⟩
/-- MEM_CE_LIMIT (05, MEM). -/
def Reg.MEM_CE_LIMIT : Nat := 0x700010
def Reg.MEM_CE_LIMIT_LIMIT : Fld := ⟨Reg.MEM_CE_LIMIT, 0, 16, 4096⟩
/-- MEM_PROMOTE (05, MEM). -/
def Reg.MEM_PROMOTE : Nat := 0x700014
def Reg.MEM_PROMOTE_PD : Fld := ⟨Reg.MEM_PROMOTE, 0, 5, 0⟩
def Reg.MEM_PROMOTE_START : Fld := ⟨Reg.MEM_PROMOTE, 5, 1, 0⟩
def Reg.MEM_PROMOTE_ABORT : Fld := ⟨Reg.MEM_PROMOTE, 6, 1, 0⟩
def Reg.MEM_PROMOTE_RATE : Fld := ⟨Reg.MEM_PROMOTE, 8, 8, 16⟩
def Reg.MEM_PROMOTE_BUSY : Fld := ⟨Reg.MEM_PROMOTE, 16, 1, 0⟩
/-- MEM_SCRUB (05, MEM). -/
def Reg.MEM_SCRUB : Nat := 0x700018
def Reg.MEM_SCRUB_PERIOD : Fld := ⟨Reg.MEM_SCRUB, 0, 8, 8⟩
def Reg.MEM_SCRUB_EN : Fld := ⟨Reg.MEM_SCRUB, 8, 1, 1⟩
/-- MEM_DEV (05, MEM). -/
def Reg.MEM_DEV (pd : Nat) : Nat := 0x700100 + pd * 0x4
def Reg.MEM_DEV_ROLE (pd : Nat) : Fld := ⟨Reg.MEM_DEV pd, 0, 2, (if pd < 24 then 0 else 1)⟩
def Reg.MEM_DEV_LD (pd : Nat) : Fld := ⟨Reg.MEM_DEV pd, 2, 5, (if pd < 24 then pd else 31)⟩
def Reg.MEM_DEV_LOST (pd : Nat) : Fld := ⟨Reg.MEM_DEV pd, 7, 1, 0⟩
def Reg.MEM_DEV_CE_COUNT (pd : Nat) : Fld := ⟨Reg.MEM_DEV pd, 16, 16, 0⟩
/-- MEM_ILK_BASE (05, MEM). -/
def Reg.MEM_ILK_BASE (n : Nat) : Nat := 0x700200 + n * 0x20
def Reg.MEM_ILK_BASE_BASE (n : Nat) : Fld := ⟨Reg.MEM_ILK_BASE n, 16, 32, 0⟩
/-- MEM_ILK_CTRL (05, MEM). -/
def Reg.MEM_ILK_CTRL (n : Nat) : Nat := 0x700208 + n * 0x20
def Reg.MEM_ILK_CTRL_CHUNKS (n : Nat) : Fld := ⟨Reg.MEM_ILK_CTRL n, 0, 21, 0⟩
def Reg.MEM_ILK_CTRL_EN (n : Nat) : Fld := ⟨Reg.MEM_ILK_CTRL n, 31, 1, 0⟩
/-- MEM_ILK_STATUS (05, MEM). -/
def Reg.MEM_ILK_STATUS (n : Nat) : Nat := 0x700210 + n * 0x20
def Reg.MEM_ILK_STATUS_REACHED (n : Nat) : Fld := ⟨Reg.MEM_ILK_STATUS n, 0, 21, 0⟩
def Reg.MEM_ILK_STATUS_HELD (n : Nat) : Fld := ⟨Reg.MEM_ILK_STATUS n, 32, 16, 0⟩
def Reg.MEM_ILK_STATUS_HELD_US (n : Nat) : Fld := ⟨Reg.MEM_ILK_STATUS n, 48, 16, 0⟩
/-- CPY_STATUS (05, ENG or HUB). -/
def Reg.CPY_STATUS (u : Nat) : Nat := cpyBase u + 0x0
def Reg.CPY_STATUS_QDEPTH (u : Nat) : Fld := ⟨Reg.CPY_STATUS u, 0, 8, 0⟩
def Reg.CPY_STATUS_INFLIGHT (u : Nat) : Fld := ⟨Reg.CPY_STATUS u, 8, 4, 0⟩
def Reg.CPY_STATUS_LOG (u : Nat) : Fld := ⟨Reg.CPY_STATUS u, 12, 12, 0⟩
def Reg.CPY_STATUS_HELD (u : Nat) : Fld := ⟨Reg.CPY_STATUS u, 24, 1, 0⟩
/-- CPY_ERR (05, ENG or HUB). -/
def Reg.CPY_ERR (u : Nat) : Nat := cpyBase u + 0x4
def Reg.CPY_ERR_REJECT (u : Nat) : Fld := ⟨Reg.CPY_ERR u, 0, 1, 0⟩
def Reg.CPY_ERR_MEM_ERR (u : Nat) : Fld := ⟨Reg.CPY_ERR u, 1, 1, 0⟩
def Reg.CPY_ERR_REMOTE_ERR (u : Nat) : Fld := ⟨Reg.CPY_ERR u, 2, 1, 0⟩
def Reg.CPY_ERR_MISSED_TARGET (u : Nat) : Fld := ⟨Reg.CPY_ERR u, 3, 1, 0⟩
def Reg.CPY_ERR_LATE (u : Nat) : Fld := ⟨Reg.CPY_ERR u, 4, 1, 0⟩
def Reg.CPY_ERR_LOG_FULL (u : Nat) : Fld := ⟨Reg.CPY_ERR u, 5, 1, 0⟩
/-- CPY_ERR_EN (05, ENG or HUB). -/
def Reg.CPY_ERR_EN (u : Nat) : Nat := cpyBase u + 0x8
def Reg.CPY_ERR_EN_EN (u : Nat) : Fld := ⟨Reg.CPY_ERR_EN u, 0, 6, 0⟩
/-- CPY_ERR_INFO (05, ENG or HUB). -/
def Reg.CPY_ERR_INFO (u : Nat) : Nat := cpyBase u + 0xc
def Reg.CPY_ERR_INFO_CODE (u : Nat) : Fld := ⟨Reg.CPY_ERR_INFO u, 0, 8, 0⟩
def Reg.CPY_ERR_INFO_PART (u : Nat) : Fld := ⟨Reg.CPY_ERR_INFO u, 8, 6, 0⟩
def Reg.CPY_ERR_INFO_USER (u : Nat) : Fld := ⟨Reg.CPY_ERR_INFO u, 16, 16, 0⟩
/-- CPY_BYTES (05, ENG or HUB). -/
def Reg.CPY_BYTES (u : Nat) : Nat := cpyBase u + 0x10
def Reg.CPY_BYTES_COUNT (u : Nat) : Fld := ⟨Reg.CPY_BYTES u, 0, 64, 0⟩
/-- CPY_LATE_BELL (05, ENG or HUB). -/
def Reg.CPY_LATE_BELL (u : Nat) : Nat := cpyBase u + 0x18
def Reg.CPY_LATE_BELL_BELL (u : Nat) : Fld := ⟨Reg.CPY_LATE_BELL u, 0, 32, 0⟩
/-- DPORT_ADDR (05, HUB). -/
def Reg.DPORT_ADDR (i : Nat) : Nat := 0x1000000 + i * 0x10000
def Reg.DPORT_ADDR_ADDR (i : Nat) : Fld := ⟨Reg.DPORT_ADDR i, 2, 46, 0⟩
/-- DPORT_CTRL (05, HUB). -/
def Reg.DPORT_CTRL (i : Nat) : Nat := 0x1000008 + i * 0x10000
def Reg.DPORT_CTRL_EN (i : Nat) : Fld := ⟨Reg.DPORT_CTRL i, 0, 1, 0⟩
def Reg.DPORT_CTRL_PREFETCH (i : Nat) : Fld := ⟨Reg.DPORT_CTRL i, 1, 1, 0⟩
def Reg.DPORT_CTRL_FLUSH (i : Nat) : Fld := ⟨Reg.DPORT_CTRL i, 2, 1, 0⟩
/-- DPORT_STATUS (05, HUB). -/
def Reg.DPORT_STATUS (i : Nat) : Nat := 0x100000c + i * 0x10000
def Reg.DPORT_STATUS_BUSY (i : Nat) : Fld := ⟨Reg.DPORT_STATUS i, 0, 1, 0⟩
def Reg.DPORT_STATUS_BOUNDS (i : Nat) : Fld := ⟨Reg.DPORT_STATUS i, 1, 1, 0⟩
def Reg.DPORT_STATUS_MEM_ERR (i : Nat) : Fld := ⟨Reg.DPORT_STATUS i, 2, 1, 0⟩
def Reg.DPORT_STATUS_HELD (i : Nat) : Fld := ⟨Reg.DPORT_STATUS i, 3, 1, 0⟩
def Reg.DPORT_STATUS_AHEAD (i : Nat) : Fld := ⟨Reg.DPORT_STATUS i, 16, 13, 0⟩
/-- DPORT_DATA (05, HUB). -/
def Reg.DPORT_DATA (i : Nat) : Nat := 0x1000010 + i * 0x10000
def Reg.DPORT_DATA_DATA (i : Nat) : Fld := ⟨Reg.DPORT_DATA i, 0, 32, 0⟩
/-- PART_CMD (06, HUB). -/
def Reg.PART_CMD (p : Nat) : Nat := 0x100000 + p * 0x4000
def Reg.PART_CMD_CODE (p : Nat) : Fld := ⟨Reg.PART_CMD p, 0, 8, 0⟩
def Reg.PART_CMD_TGT (p : Nat) : Fld := ⟨Reg.PART_CMD p, 8, 1, 0⟩
/-- PART_CMD_STATUS (06, HUB). -/
def Reg.PART_CMD_STATUS (p : Nat) : Nat := 0x100004 + p * 0x4000
def Reg.PART_CMD_STATUS_BUSY (p : Nat) : Fld := ⟨Reg.PART_CMD_STATUS p, 0, 1, 0⟩
def Reg.PART_CMD_STATUS_DONE (p : Nat) : Fld := ⟨Reg.PART_CMD_STATUS p, 1, 1, 0⟩
def Reg.PART_CMD_STATUS_RESULT (p : Nat) : Fld := ⟨Reg.PART_CMD_STATUS p, 8, 8, 0⟩
def Reg.PART_CMD_STATUS_CODE (p : Nat) : Fld := ⟨Reg.PART_CMD_STATUS p, 16, 8, 0⟩
/-- PART_STATE (06, HUB). -/
def Reg.PART_STATE (p : Nat) : Nat := 0x100008 + p * 0x4000
def Reg.PART_STATE_STATE (p : Nat) : Fld := ⟨Reg.PART_STATE p, 0, 3, 0⟩
def Reg.PART_STATE_LOGGING (p : Nat) : Fld := ⟨Reg.PART_STATE p, 3, 1, 0⟩
def Reg.PART_STATE_ACTIVE_B (p : Nat) : Fld := ⟨Reg.PART_STATE p, 4, 1, 0⟩
/-- PART_VF (06, HUB). -/
def Reg.PART_VF (p : Nat) : Nat := 0x10000c + p * 0x4000
def Reg.PART_VF_VF (p : Nat) : Fld := ⟨Reg.PART_VF p, 0, 7, 0⟩
def Reg.PART_VF_BOUND (p : Nat) : Fld := ⟨Reg.PART_VF p, 7, 1, 0⟩
/-- PART_SEED (06, HUB). -/
def Reg.PART_SEED (p : Nat) : Nat := 0x100010 + p * 0x4000
def Reg.PART_SEED_SEED (p : Nat) : Fld := ⟨Reg.PART_SEED p, 0, 32, 0⟩
/-- PART_EVENT (06, HUB). -/
def Reg.PART_EVENT (p : Nat) : Nat := 0x100014 + p * 0x4000
def Reg.PART_EVENT_CMD_DONE (p : Nat) : Fld := ⟨Reg.PART_EVENT p, 0, 1, 0⟩
def Reg.PART_EVENT_CMD_OVERRUN (p : Nat) : Fld := ⟨Reg.PART_EVENT p, 1, 1, 0⟩
def Reg.PART_EVENT_FATAL (p : Nat) : Fld := ⟨Reg.PART_EVENT p, 2, 1, 0⟩
def Reg.PART_EVENT_EXCEPTION (p : Nat) : Fld := ⟨Reg.PART_EVENT p, 3, 1, 0⟩
def Reg.PART_EVENT_SLICE_REJECT (p : Nat) : Fld := ⟨Reg.PART_EVENT p, 4, 1, 0⟩
def Reg.PART_EVENT_FREEZE_SLOW (p : Nat) : Fld := ⟨Reg.PART_EVENT p, 5, 1, 0⟩
/-- PART_EVENT_EN (06, HUB). -/
def Reg.PART_EVENT_EN (p : Nat) : Nat := 0x100018 + p * 0x4000
def Reg.PART_EVENT_EN_EN (p : Nat) : Fld := ⟨Reg.PART_EVENT_EN p, 0, 6, 0⟩
/-- PART_LIMITS (06, HUB). -/
def Reg.PART_LIMITS (p : Nat) : Nat := 0x10001c + p * 0x4000
def Reg.PART_LIMITS_FREEZE (p : Nat) : Fld := ⟨Reg.PART_LIMITS p, 0, 16, 64⟩
/-- PART_CMD_BELL (06, HUB). -/
def Reg.PART_CMD_BELL (p : Nat) : Nat := 0x100020 + p * 0x4000
def Reg.PART_CMD_BELL_BELL (p : Nat) : Fld := ⟨Reg.PART_CMD_BELL p, 0, 64, 0⟩
/-- PART_ARG (06, HUB). -/
def Reg.PART_ARG (p : Nat) : Nat := 0x100028 + p * 0x4000
def Reg.PART_ARG_ENGINE (p : Nat) : Fld := ⟨Reg.PART_ARG p, 0, 4, 0⟩
def Reg.PART_ARG_CORE (p : Nat) : Fld := ⟨Reg.PART_ARG p, 4, 2, 0⟩
def Reg.PART_ARG_CTX (p : Nat) : Fld := ⟨Reg.PART_ARG p, 6, 2, 0⟩
def Reg.PART_ARG_UNBIND (p : Nat) : Fld := ⟨Reg.PART_ARG p, 8, 1, 0⟩
def Reg.PART_ARG_BASE (p : Nat) : Fld := ⟨Reg.PART_ARG p, 16, 6, 0⟩
def Reg.PART_ARG_SIZE (p : Nat) : Fld := ⟨Reg.PART_ARG p, 22, 6, 0⟩
def Reg.PART_ARG_START_PC (p : Nat) : Fld := ⟨Reg.PART_ARG p, 32, 16, 0⟩
/-- PART_TS (06, HUB). -/
def Reg.PART_TS (p e : Nat) : Nat := 0x100040 + p * 0x4000 + e * 0x4
def Reg.PART_TS_BASE (p e : Nat) : Fld := ⟨Reg.PART_TS p e, 0, 9, 0⟩
def Reg.PART_TS_LEN (p e : Nat) : Fld := ⟨Reg.PART_TS p e, 16, 9, 0⟩
/-- PART_SHARE (06, HUB). -/
def Reg.PART_SHARE (p e : Nat) : Nat := 0x100080 + p * 0x4000 + e * 0x4
def Reg.PART_SHARE_SHARE (p e : Nat) : Fld := ⟨Reg.PART_SHARE p e, 0, 7, 0⟩
/-- PART_SEG (06, HUB). -/
def Reg.PART_SEG (p s : Nat) : Nat := 0x100100 + p * 0x4000 + s * 0x8
def Reg.PART_SEG_PBASE (p s : Nat) : Fld := ⟨Reg.PART_SEG p s, 0, 11, 0⟩
def Reg.PART_SEG_MBASE (p s : Nat) : Fld := ⟨Reg.PART_SEG p s, 16, 11, 0⟩
def Reg.PART_SEG_LEN (p s : Nat) : Fld := ⟨Reg.PART_SEG p s, 32, 11, 0⟩
/-- PART_RES (06, HUB). -/
def Reg.PART_RES (p : Nat) : Nat := 0x100180 + p * 0x4000
def Reg.PART_RES_COMMONS_BASE (p : Nat) : Fld := ⟨Reg.PART_RES p, 0, 11, 0⟩
def Reg.PART_RES_COMMONS_LEN (p : Nat) : Fld := ⟨Reg.PART_RES p, 16, 11, 0⟩
/-- PART_QCOUNT (06, HUB). -/
def Reg.PART_QCOUNT (p : Nat) : Nat := 0x100188 + p * 0x4000
def Reg.PART_QCOUNT_QP (p : Nat) : Fld := ⟨Reg.PART_QCOUNT p, 0, 13, 0⟩
def Reg.PART_QCOUNT_CQ (p : Nat) : Fld := ⟨Reg.PART_QCOUNT p, 16, 13, 0⟩
def Reg.PART_QCOUNT_BLK (p : Nat) : Fld := ⟨Reg.PART_QCOUNT p, 32, 11, 0⟩
def Reg.PART_QCOUNT_CIPH (p : Nat) : Fld := ⟨Reg.PART_QCOUNT p, 48, 11, 0⟩
/-- PART_MISC (06, HUB). -/
def Reg.PART_MISC (p : Nat) : Nat := 0x100190 + p * 0x4000
def Reg.PART_MISC_KEYS (p : Nat) : Fld := ⟨Reg.PART_MISC p, 0, 10, 0⟩
def Reg.PART_MISC_SLICES (p : Nat) : Fld := ⟨Reg.PART_MISC p, 10, 11, 0⟩
/-- PART_FABRIC (06, HUB). -/
def Reg.PART_FABRIC (p : Nat) : Nat := 0x100194 + p * 0x4000
def Reg.PART_FABRIC_GUARANTEE (p : Nat) : Fld := ⟨Reg.PART_FABRIC p, 0, 12, 0⟩
def Reg.PART_FABRIC_CEILING (p : Nat) : Fld := ⟨Reg.PART_FABRIC p, 16, 12, 0⟩
/-- PART_MIG_ADDR (06, HUB). -/
def Reg.PART_MIG_ADDR (p : Nat) : Nat := 0x100198 + p * 0x4000
def Reg.PART_MIG_ADDR_ADDR (p : Nat) : Fld := ⟨Reg.PART_MIG_ADDR p, 6, 58, 0⟩
/-- PART_MIG_LEN (06, HUB). -/
def Reg.PART_MIG_LEN (p : Nat) : Nat := 0x1001a0 + p * 0x4000
def Reg.PART_MIG_LEN_LEN (p : Nat) : Fld := ⟨Reg.PART_MIG_LEN p, 0, 27, 0⟩
/-- PART_LOG_MISS (06, HUB). -/
def Reg.PART_LOG_MISS (p : Nat) : Nat := 0x1001a4 + p * 0x4000
def Reg.PART_LOG_MISS_COUNT (p : Nat) : Fld := ⟨Reg.PART_LOG_MISS p, 0, 32, 0⟩
/-- PART_LOG (06, HUB). -/
def Reg.PART_LOG (p r : Nat) : Nat := 0x100200 + p * 0x4000 + r * 0x20
def Reg.PART_LOG_START (p r : Nat) : Fld := ⟨Reg.PART_LOG p r, 12, 52, 0⟩
def Reg.PART_LOG_PAGES (p r : Nat) : Fld := ⟨Reg.PART_LOG p r, 64, 28, 0⟩
def Reg.PART_LOG_PASID (p r : Nat) : Fld := ⟨Reg.PART_LOG p r, 92, 20, 0⟩
def Reg.PART_LOG_HAS_PASID (p r : Nat) : Fld := ⟨Reg.PART_LOG p r, 112, 1, 0⟩
def Reg.PART_LOG_EN (p r : Nat) : Fld := ⟨Reg.PART_LOG p r, 113, 1, 0⟩
def Reg.PART_LOG_MAP_A (p r : Nat) : Fld := ⟨Reg.PART_LOG p r, 128, 64, 0⟩
def Reg.PART_LOG_MAP_B (p r : Nat) : Fld := ⟨Reg.PART_LOG p r, 192, 64, 0⟩
/-- PART_SLICE (06, HUB). -/
def Reg.PART_SLICE (p s : Nat) : Nat := 0x102000 + p * 0x4000 + s * 0x8
def Reg.PART_SLICE_PASID (p s : Nat) : Fld := ⟨Reg.PART_SLICE p s, 0, 20, 0⟩
def Reg.PART_SLICE_EN (p s : Nat) : Fld := ⟨Reg.PART_SLICE p s, 20, 1, 0⟩
def Reg.PART_SLICE_WBASE (p s : Nat) : Fld := ⟨Reg.PART_SLICE p s, 32, 16, 0⟩
def Reg.PART_SLICE_WLEN (p s : Nat) : Fld := ⟨Reg.PART_SLICE p s, 48, 16, 0⟩
/-- PCI_ALIVE (07, PCI). -/
def Reg.PCI_ALIVE : Nat := 0x30000
def Reg.PCI_ALIVE_VALUE : Fld := ⟨Reg.PCI_ALIVE, 0, 32, 1279547446⟩
/-- PCI_STATUS (07, PCI). -/
def Reg.PCI_STATUS : Nat := 0x30004
def Reg.PCI_STATUS_LINK_UP : Fld := ⟨Reg.PCI_STATUS, 0, 1, 0⟩
def Reg.PCI_STATUS_FLIT : Fld := ⟨Reg.PCI_STATUS, 1, 1, 0⟩
def Reg.PCI_STATUS_SPEED : Fld := ⟨Reg.PCI_STATUS, 2, 3, 0⟩
def Reg.PCI_STATUS_WIDTH : Fld := ⟨Reg.PCI_STATUS, 5, 5, 0⟩
def Reg.PCI_STATUS_PF_BME : Fld := ⟨Reg.PCI_STATUS, 10, 1, 0⟩
/-- PCI_EVENT (07, PCI). -/
def Reg.PCI_EVENT : Nat := 0x30008
def Reg.PCI_EVENT_LINK_DOWN : Fld := ⟨Reg.PCI_EVENT, 0, 1, 0⟩
def Reg.PCI_EVENT_DOWNTRAINED : Fld := ⟨Reg.PCI_EVENT, 1, 1, 0⟩
def Reg.PCI_EVENT_CPL_TIMEOUT : Fld := ⟨Reg.PCI_EVENT, 2, 1, 0⟩
def Reg.PCI_EVENT_LATE_CPL : Fld := ⟨Reg.PCI_EVENT, 3, 1, 0⟩
def Reg.PCI_EVENT_CPL_ERR : Fld := ⟨Reg.PCI_EVENT, 4, 1, 0⟩
def Reg.PCI_EVENT_UNSUP_ACCESS : Fld := ⟨Reg.PCI_EVENT, 5, 1, 0⟩
def Reg.PCI_EVENT_VF_FLR : Fld := ⟨Reg.PCI_EVENT, 6, 1, 0⟩
def Reg.PCI_EVENT_PF_RESET : Fld := ⟨Reg.PCI_EVENT, 7, 1, 0⟩
def Reg.PCI_EVENT_HB_MISS : Fld := ⟨Reg.PCI_EVENT, 8, 1, 0⟩
/-- PCI_EVENT_EN (07, PCI). -/
def Reg.PCI_EVENT_EN : Nat := 0x3000c
def Reg.PCI_EVENT_EN_EN : Fld := ⟨Reg.PCI_EVENT_EN, 0, 9, 0⟩
/-- PCI_UNSUP_INFO (07, PCI). -/
def Reg.PCI_UNSUP_INFO : Nat := 0x30010
def Reg.PCI_UNSUP_INFO_OFFSET : Fld := ⟨Reg.PCI_UNSUP_INFO, 0, 26, 0⟩
def Reg.PCI_UNSUP_INFO_WRITE : Fld := ⟨Reg.PCI_UNSUP_INFO, 26, 1, 0⟩
def Reg.PCI_UNSUP_INFO_FUNC : Fld := ⟨Reg.PCI_UNSUP_INFO, 32, 7, 0⟩
/-- PCI_CPL_CFG (07, PCI). -/
def Reg.PCI_CPL_CFG : Nat := 0x30018
def Reg.PCI_CPL_CFG_QUAR : Fld := ⟨Reg.PCI_CPL_CFG, 0, 3, 1⟩
def Reg.PCI_CPL_CFG_RO_DATA : Fld := ⟨Reg.PCI_CPL_CFG, 3, 1, 1⟩
/-- PCI_CPL_STATS (07, PCI). -/
def Reg.PCI_CPL_STATS : Nat := 0x3001c
def Reg.PCI_CPL_STATS_TIMEOUTS : Fld := ⟨Reg.PCI_CPL_STATS, 0, 16, 0⟩
def Reg.PCI_CPL_STATS_LATE : Fld := ⟨Reg.PCI_CPL_STATS, 16, 16, 0⟩
/-- PCI_DROPPED (07, PCI). -/
def Reg.PCI_DROPPED : Nat := 0x30020
def Reg.PCI_DROPPED_COUNT : Fld := ⟨Reg.PCI_DROPPED, 0, 32, 0⟩
/-- PCI_DRV (07, PCI). -/
def Reg.PCI_DRV : Nat := 0x30024
def Reg.PCI_DRV_CMD : Fld := ⟨Reg.PCI_DRV, 0, 2, 0⟩
def Reg.PCI_DRV_STATE : Fld := ⟨Reg.PCI_DRV, 2, 2, 0⟩
def Reg.PCI_DRV_SESSION : Fld := ⟨Reg.PCI_DRV, 16, 16, 0⟩
/-- PCI_HB (07, PCI). -/
def Reg.PCI_HB : Nat := 0x30028
def Reg.PCI_HB_VALUE : Fld := ⟨Reg.PCI_HB, 0, 32, 0⟩
/-- PCI_HB_CFG (07, PCI). -/
def Reg.PCI_HB_CFG : Nat := 0x3002c
def Reg.PCI_HB_CFG_PERIOD : Fld := ⟨Reg.PCI_HB_CFG, 0, 12, 100⟩
def Reg.PCI_HB_CFG_MISSES : Fld := ⟨Reg.PCI_HB_CFG, 16, 2, 0⟩
/-- PCI_HB_SCOPE (07, PCI). -/
def Reg.PCI_HB_SCOPE : Nat := 0x30030
def Reg.PCI_HB_SCOPE_PARTS : Fld := ⟨Reg.PCI_HB_SCOPE, 0, 64, 1⟩
/-- PCI_RESUME (07, PCI). -/
def Reg.PCI_RESUME : Nat := 0x30038
def Reg.PCI_RESUME_PARTS : Fld := ⟨Reg.PCI_RESUME, 0, 64, 0⟩
/-- PCI_QUIESCED (07, PCI). -/
def Reg.PCI_QUIESCED : Nat := 0x30040
def Reg.PCI_QUIESCED_PARTS : Fld := ⟨Reg.PCI_QUIESCED, 0, 64, 0⟩
/-- PCI_VF_FLR (07, PCI). -/
def Reg.PCI_VF_FLR : Nat := 0x30048
def Reg.PCI_VF_FLR_VFS : Fld := ⟨Reg.PCI_VF_FLR, 0, 64, 0⟩
/-- FAB_CFG (08, HUB). -/
def Reg.FAB_CFG : Nat := 0x200000
def Reg.FAB_CFG_QMODE : Fld := ⟨Reg.FAB_CFG, 0, 16, 0⟩
/-- FAB_LANE_LIMITS (08, HUB). -/
def Reg.FAB_LANE_LIMITS : Nat := 0x200004
def Reg.FAB_LANE_LIMITS_SYM_LIMIT : Fld := ⟨Reg.FAB_LANE_LIMITS, 0, 16, 256⟩
def Reg.FAB_LANE_LIMITS_UNCORR_RUN : Fld := ⟨Reg.FAB_LANE_LIMITS, 16, 4, 4⟩
/-- FAB_PORT_CTRL (08, FAB). -/
def Reg.FAB_PORT_CTRL (l : Nat) : Nat := 0x210000 + l * 0x400
def Reg.FAB_PORT_CTRL_EN (l : Nat) : Fld := ⟨Reg.FAB_PORT_CTRL l, 0, 1, 0⟩
def Reg.FAB_PORT_CTRL_PHY (l : Nat) : Fld := ⟨Reg.FAB_PORT_CTRL l, 1, 2, 0⟩
def Reg.FAB_PORT_CTRL_AN_EN (l : Nat) : Fld := ⟨Reg.FAB_PORT_CTRL l, 3, 1, 1⟩
def Reg.FAB_PORT_CTRL_PEER (l : Nat) : Fld := ⟨Reg.FAB_PORT_CTRL l, 4, 1, 0⟩
def Reg.FAB_PORT_CTRL_MTU (l : Nat) : Fld := ⟨Reg.FAB_PORT_CTRL l, 16, 14, 9216⟩
/-- FAB_PORT_STATUS (08, FAB). -/
def Reg.FAB_PORT_STATUS (l : Nat) : Nat := 0x210004 + l * 0x400
def Reg.FAB_PORT_STATUS_LINK_UP (l : Nat) : Fld := ⟨Reg.FAB_PORT_STATUS l, 0, 1, 0⟩
def Reg.FAB_PORT_STATUS_DEGRADED (l : Nat) : Fld := ⟨Reg.FAB_PORT_STATUS l, 1, 1, 0⟩
def Reg.FAB_PORT_STATUS_TRAINING (l : Nat) : Fld := ⟨Reg.FAB_PORT_STATUS l, 2, 1, 0⟩
def Reg.FAB_PORT_STATUS_WIDTH (l : Nat) : Fld := ⟨Reg.FAB_PORT_STATUS l, 3, 3, 0⟩
def Reg.FAB_PORT_STATUS_LANES (l : Nat) : Fld := ⟨Reg.FAB_PORT_STATUS l, 6, 4, 0⟩
def Reg.FAB_PORT_STATUS_FAILED (l : Nat) : Fld := ⟨Reg.FAB_PORT_STATUS l, 10, 4, 0⟩
/-- FAB_PORT_EVENT (08, FAB). -/
def Reg.FAB_PORT_EVENT (l : Nat) : Nat := 0x210008 + l * 0x400
def Reg.FAB_PORT_EVENT_LINK_DOWN (l : Nat) : Fld := ⟨Reg.FAB_PORT_EVENT l, 0, 1, 0⟩
def Reg.FAB_PORT_EVENT_LANE_FAIL (l : Nat) : Fld := ⟨Reg.FAB_PORT_EVENT l, 1, 1, 0⟩
def Reg.FAB_PORT_EVENT_REFORMED (l : Nat) : Fld := ⟨Reg.FAB_PORT_EVENT l, 2, 1, 0⟩
def Reg.FAB_PORT_EVENT_RESTORE_FAIL (l : Nat) : Fld := ⟨Reg.FAB_PORT_EVENT l, 3, 1, 0⟩
def Reg.FAB_PORT_EVENT_PFC_STORM (l : Nat) : Fld := ⟨Reg.FAB_PORT_EVENT l, 4, 1, 0⟩
def Reg.FAB_PORT_EVENT_PAUSE_RX (l : Nat) : Fld := ⟨Reg.FAB_PORT_EVENT l, 5, 1, 0⟩
/-- FAB_PORT_EVENT_EN (08, FAB). -/
def Reg.FAB_PORT_EVENT_EN (l : Nat) : Nat := 0x21000c + l * 0x400
def Reg.FAB_PORT_EVENT_EN_EN (l : Nat) : Fld := ⟨Reg.FAB_PORT_EVENT_EN l, 0, 6, 0⟩
/-- FAB_PORT_MAC (08, FAB). -/
def Reg.FAB_PORT_MAC (l : Nat) : Nat := 0x210010 + l * 0x400
def Reg.FAB_PORT_MAC_MAC (l : Nat) : Fld := ⟨Reg.FAB_PORT_MAC l, 0, 48, 0⟩
/-- FAB_PFC_CFG (08, FAB). -/
def Reg.FAB_PFC_CFG (l : Nat) : Nat := 0x210018 + l * 0x400
def Reg.FAB_PFC_CFG_PFC_EN (l : Nat) : Fld := ⟨Reg.FAB_PFC_CFG l, 0, 8, 0⟩
def Reg.FAB_PFC_CFG_PFC_XOFF (l : Nat) : Fld := ⟨Reg.FAB_PFC_CFG l, 8, 8, 128⟩
def Reg.FAB_PFC_CFG_PFC_XON (l : Nat) : Fld := ⟨Reg.FAB_PFC_CFG l, 16, 8, 64⟩
def Reg.FAB_PFC_CFG_PFC_STORM (l : Nat) : Fld := ⟨Reg.FAB_PFC_CFG l, 24, 8, 100⟩
/-- FAB_FEC_CORR (08, FAB). -/
def Reg.FAB_FEC_CORR (l : Nat) : Nat := 0x210020 + l * 0x400
def Reg.FAB_FEC_CORR_COUNT (l : Nat) : Fld := ⟨Reg.FAB_FEC_CORR l, 0, 64, 0⟩
/-- FAB_FEC_UNCORR (08, FAB). -/
def Reg.FAB_FEC_UNCORR (l : Nat) : Nat := 0x210028 + l * 0x400
def Reg.FAB_FEC_UNCORR_COUNT (l : Nat) : Fld := ⟨Reg.FAB_FEC_UNCORR l, 0, 64, 0⟩
/-- FAB_RETRAIN (08, FAB). -/
def Reg.FAB_RETRAIN (l : Nat) : Nat := 0x210030 + l * 0x400
def Reg.FAB_RETRAIN_RESTORE (l : Nat) : Fld := ⟨Reg.FAB_RETRAIN l, 0, 1, 0⟩
/-- RKT_CFG (08, HUB). -/
def Reg.RKT_CFG : Nat := 0x280000
def Reg.RKT_CFG_UDP_PORT : Fld := ⟨Reg.RKT_CFG, 0, 16, 59220⟩
def Reg.RKT_CFG_ECN_EN : Fld := ⟨Reg.RKT_CFG, 16, 1, 1⟩
def Reg.RKT_CFG_CSUM4 : Fld := ⟨Reg.RKT_CFG, 17, 1, 1⟩
def Reg.RKT_CFG_TTL : Fld := ⟨Reg.RKT_CFG, 24, 8, 64⟩
/-- RKT_TIMING (08, HUB). -/
def Reg.RKT_TIMING : Nat := 0x280004
def Reg.RKT_TIMING_ACK_COALESCE : Fld := ⟨Reg.RKT_TIMING, 0, 4, 8⟩
def Reg.RKT_TIMING_ACK_DELAY : Fld := ⟨Reg.RKT_TIMING, 4, 8, 8⟩
def Reg.RKT_TIMING_REORDER : Fld := ⟨Reg.RKT_TIMING, 12, 4, 3⟩
def Reg.RKT_TIMING_RTO_MIN : Fld := ⟨Reg.RKT_TIMING, 16, 8, 24⟩
def Reg.RKT_TIMING_RTO_MAX : Fld := ⟨Reg.RKT_TIMING, 24, 8, 4⟩
/-- RKT_RETRY (08, HUB). -/
def Reg.RKT_RETRY : Nat := 0x280008
def Reg.RKT_RETRY_RETRY_LIMIT : Fld := ⟨Reg.RKT_RETRY, 0, 4, 7⟩
def Reg.RKT_RETRY_PATH_FAIL : Fld := ⟨Reg.RKT_RETRY, 4, 4, 3⟩
def Reg.RKT_RETRY_PROBE_MS : Fld := ⟨Reg.RKT_RETRY, 8, 8, 1⟩
def Reg.RKT_RETRY_RESTORE : Fld := ⟨Reg.RKT_RETRY, 16, 4, 3⟩
def Reg.RKT_RETRY_WIN : Fld := ⟨Reg.RKT_RETRY, 20, 12, 1024⟩
/-- RKT_CC (08, HUB). -/
def Reg.RKT_CC : Nat := 0x28000c
def Reg.RKT_CC_TARGET : Fld := ⟨Reg.RKT_CC, 0, 8, 10⟩
def Reg.RKT_CC_CWND_INIT : Fld := ⟨Reg.RKT_CC, 8, 8, 16⟩
def Reg.RKT_CC_CWND_MAX : Fld := ⟨Reg.RKT_CC, 16, 12, 256⟩
/-- RKT_EVENT (08, HUB). -/
def Reg.RKT_EVENT : Nat := 0x280010
def Reg.RKT_EVENT_PATH_DOWN : Fld := ⟨Reg.RKT_EVENT, 0, 1, 0⟩
def Reg.RKT_EVENT_PATH_UP : Fld := ⟨Reg.RKT_EVENT, 1, 1, 0⟩
def Reg.RKT_EVENT_RESYNC : Fld := ⟨Reg.RKT_EVENT, 2, 1, 0⟩
def Reg.RKT_EVENT_CONN_ERROR : Fld := ⟨Reg.RKT_EVENT, 3, 1, 0⟩
def Reg.RKT_EVENT_DROP : Fld := ⟨Reg.RKT_EVENT, 4, 1, 0⟩
/-- RKT_EVENT_EN (08, HUB). -/
def Reg.RKT_EVENT_EN : Nat := 0x280014
def Reg.RKT_EVENT_EN_EN : Fld := ⟨Reg.RKT_EVENT_EN, 0, 5, 0⟩
/-- RKT_DROP (08, HUB). -/
def Reg.RKT_DROP : Nat := 0x280018
def Reg.RKT_DROP_MALFORMED : Fld := ⟨Reg.RKT_DROP, 0, 16, 0⟩
def Reg.RKT_DROP_NO_CONN : Fld := ⟨Reg.RKT_DROP, 16, 16, 0⟩
def Reg.RKT_DROP_STALE : Fld := ⟨Reg.RKT_DROP, 32, 16, 0⟩
def Reg.RKT_DROP_AUTH : Fld := ⟨Reg.RKT_DROP, 48, 16, 0⟩
/-- RKT_RETX (08, HUB). -/
def Reg.RKT_RETX : Nat := 0x280020
def Reg.RKT_RETX_COUNT : Fld := ⟨Reg.RKT_RETX, 0, 64, 0⟩
/-- RKT_DUP (08, HUB). -/
def Reg.RKT_DUP : Nat := 0x280028
def Reg.RKT_DUP_COUNT : Fld := ⟨Reg.RKT_DUP, 0, 64, 0⟩
/-- RKT_BELL_CFG (08, HUB). -/
def Reg.RKT_BELL_CFG : Nat := 0x280030
def Reg.RKT_BELL_CFG_RELAY : Fld := ⟨Reg.RKT_BELL_CFG, 0, 1, 0⟩
def Reg.RKT_BELL_CFG_AUTO_DELAY : Fld := ⟨Reg.RKT_BELL_CFG, 1, 1, 1⟩
def Reg.RKT_BELL_CFG_DEPTH : Fld := ⟨Reg.RKT_BELL_CFG, 2, 3, 0⟩
def Reg.RKT_BELL_CFG_REPORT_SLOT : Fld := ⟨Reg.RKT_BELL_CFG, 16, 10, 12⟩
/-- RKT_LADDR (08, HUB). -/
def Reg.RKT_LADDR (a : Nat) : Nat := 0x280100 + a * 0x20
def Reg.RKT_LADDR_ADDR (a : Nat) : Fld := ⟨Reg.RKT_LADDR a, 0, 128, 0⟩
def Reg.RKT_LADDR_V6 (a : Nat) : Fld := ⟨Reg.RKT_LADDR a, 128, 1, 0⟩
def Reg.RKT_LADDR_EN (a : Nat) : Fld := ⟨Reg.RKT_LADDR a, 129, 1, 0⟩
/-- RKT_BELL_PEER (08, HUB). -/
def Reg.RKT_BELL_PEER (n : Nat) : Nat := 0x280200 + n * 0x20
def Reg.RKT_BELL_PEER_ADDR (n : Nat) : Fld := ⟨Reg.RKT_BELL_PEER n, 0, 128, 0⟩
def Reg.RKT_BELL_PEER_V6 (n : Nat) : Fld := ⟨Reg.RKT_BELL_PEER n, 128, 1, 0⟩
def Reg.RKT_BELL_PEER_EN (n : Nat) : Fld := ⟨Reg.RKT_BELL_PEER n, 129, 1, 0⟩
def Reg.RKT_BELL_PEER_ALT (n : Nat) : Fld := ⟨Reg.RKT_BELL_PEER n, 130, 1, 0⟩
def Reg.RKT_BELL_PEER_PRIMARY (n : Nat) : Fld := ⟨Reg.RKT_BELL_PEER n, 144, 12, 0⟩
def Reg.RKT_BELL_PEER_SECONDARY (n : Nat) : Fld := ⟨Reg.RKT_BELL_PEER n, 160, 12, 0⟩
def Reg.RKT_BELL_PEER_XYZ (n : Nat) : Fld := ⟨Reg.RKT_BELL_PEER n, 172, 16, 0⟩
/-- RKT_PATH (08, HUB). -/
def Reg.RKT_PATH (i : Nat) : Nat := 0x290000 + i * 0x10
def Reg.RKT_PATH_PORT (i : Nat) : Fld := ⟨Reg.RKT_PATH i, 0, 5, 0⟩
def Reg.RKT_PATH_LADDR (i : Nat) : Fld := ⟨Reg.RKT_PATH i, 5, 3, 0⟩
def Reg.RKT_PATH_VLAN_EN (i : Nat) : Fld := ⟨Reg.RKT_PATH i, 8, 1, 0⟩
def Reg.RKT_PATH_PCP (i : Nat) : Fld := ⟨Reg.RKT_PATH i, 9, 3, 0⟩
def Reg.RKT_PATH_VID (i : Nat) : Fld := ⟨Reg.RKT_PATH i, 12, 12, 0⟩
def Reg.RKT_PATH_UP (i : Nat) : Fld := ⟨Reg.RKT_PATH i, 24, 1, 0⟩
def Reg.RKT_PATH_NH_MAC (i : Nat) : Fld := ⟨Reg.RKT_PATH i, 32, 48, 0⟩
def Reg.RKT_PATH_SPORT (i : Nat) : Fld := ⟨Reg.RKT_PATH i, 80, 16, 0⟩
/-- RKT_RMA_CFG (09, HUB). -/
def Reg.RKT_RMA_CFG : Nat := 0x280040
def Reg.RKT_RMA_CFG_INVAL_WAIT : Fld := ⟨Reg.RKT_RMA_CFG, 0, 8, 8⟩
/-- RKT_PEER (09, HUB). -/
def Reg.RKT_PEER (p : Nat) : Nat := 0x2a0000 + p * 0x20
def Reg.RKT_PEER_ADDR (p : Nat) : Fld := ⟨Reg.RKT_PEER p, 0, 128, 0⟩
def Reg.RKT_PEER_V6 (p : Nat) : Fld := ⟨Reg.RKT_PEER p, 128, 1, 0⟩
def Reg.RKT_PEER_EN (p : Nat) : Fld := ⟨Reg.RKT_PEER p, 129, 1, 0⟩
/-- RKT_CONN (09, HUB). -/
def Reg.RKT_CONN (c : Nat) : Nat := 0x2c0000 + c * 0x10
def Reg.RKT_CONN_PART (c : Nat) : Fld := ⟨Reg.RKT_CONN c, 0, 6, 0⟩
def Reg.RKT_CONN_QP (c : Nat) : Fld := ⟨Reg.RKT_CONN c, 6, 12, 0⟩
def Reg.RKT_CONN_EN (c : Nat) : Fld := ⟨Reg.RKT_CONN c, 18, 1, 0⟩
def Reg.RKT_CONN_STATE (c : Nat) : Fld := ⟨Reg.RKT_CONN c, 19, 2, 0⟩
def Reg.RKT_CONN_SEG (c : Nat) : Fld := ⟨Reg.RKT_CONN c, 21, 2, 2⟩
def Reg.RKT_CONN_ENC (c : Nat) : Fld := ⟨Reg.RKT_CONN c, 23, 1, 0⟩
def Reg.RKT_CONN_PEER (c : Nat) : Fld := ⟨Reg.RKT_CONN c, 24, 12, 0⟩
def Reg.RKT_CONN_PEER_CONN (c : Nat) : Fld := ⟨Reg.RKT_CONN c, 36, 24, 0⟩
def Reg.RKT_CONN_PATH_BASE (c : Nat) : Fld := ⟨Reg.RKT_CONN c, 60, 12, 0⟩
def Reg.RKT_CONN_PATH_N (c : Nat) : Fld := ⟨Reg.RKT_CONN c, 72, 4, 0⟩
def Reg.RKT_CONN_CEPOCH (c : Nat) : Fld := ⟨Reg.RKT_CONN c, 76, 8, 0⟩
def Reg.RKT_CONN_KEY_SLOT (c : Nat) : Fld := ⟨Reg.RKT_CONN c, 84, 9, 0⟩
def Reg.RKT_CONN_TCLASS (c : Nat) : Fld := ⟨Reg.RKT_CONN c, 93, 3, 0⟩
def Reg.RKT_CONN_RNR_LIMIT (c : Nat) : Fld := ⟨Reg.RKT_CONN c, 96, 4, 7⟩
def Reg.RKT_CONN_CEPOCH_INIT (c : Nat) : Fld := ⟨Reg.RKT_CONN c, 100, 8, 0⟩
/-- PKT_CFG (10, HUB). -/
def Reg.PKT_CFG : Nat := 0x300000
def Reg.PKT_CFG_VXLAN_PORT : Fld := ⟨Reg.PKT_CFG, 0, 16, 4789⟩
def Reg.PKT_CFG_DEF_PRIO : Fld := ⟨Reg.PKT_CFG, 16, 3, 0⟩
def Reg.PKT_CFG_VXLAN_EN : Fld := ⟨Reg.PKT_CFG, 19, 1, 1⟩
/-- PKT_DEFAULT (10, HUB). -/
def Reg.PKT_DEFAULT : Nat := 0x300004
def Reg.PKT_DEFAULT_PART : Fld := ⟨Reg.PKT_DEFAULT, 0, 6, 0⟩
def Reg.PKT_DEFAULT_HASH : Fld := ⟨Reg.PKT_DEFAULT, 7, 1, 0⟩
def Reg.PKT_DEFAULT_ACTION : Fld := ⟨Reg.PKT_DEFAULT, 8, 2, 2⟩
def Reg.PKT_DEFAULT_QUEUE : Fld := ⟨Reg.PKT_DEFAULT, 10, 12, 0⟩
/-- PKT_EVENT (10, HUB). -/
def Reg.PKT_EVENT : Nat := 0x300008
def Reg.PKT_EVENT_MALFORMED : Fld := ⟨Reg.PKT_EVENT, 0, 1, 0⟩
def Reg.PKT_EVENT_HOLD_FULL : Fld := ⟨Reg.PKT_EVENT, 1, 1, 0⟩
def Reg.PKT_EVENT_FRAG_FULL : Fld := ⟨Reg.PKT_EVENT, 2, 1, 0⟩
def Reg.PKT_EVENT_FRAG_EXPIRED : Fld := ⟨Reg.PKT_EVENT, 3, 1, 0⟩
def Reg.PKT_EVENT_TARGET : Fld := ⟨Reg.PKT_EVENT, 4, 1, 0⟩
/-- PKT_EVENT_EN (10, HUB). -/
def Reg.PKT_EVENT_EN : Nat := 0x30000c
def Reg.PKT_EVENT_EN_EN : Fld := ⟨Reg.PKT_EVENT_EN, 0, 5, 0⟩
/-- PKT_DROP (10, HUB). -/
def Reg.PKT_DROP : Nat := 0x300010
def Reg.PKT_DROP_MALFORMED : Fld := ⟨Reg.PKT_DROP, 0, 16, 0⟩
def Reg.PKT_DROP_CSUM : Fld := ⟨Reg.PKT_DROP, 16, 16, 0⟩
def Reg.PKT_DROP_NO_RULE : Fld := ⟨Reg.PKT_DROP, 32, 16, 0⟩
def Reg.PKT_DROP_RULE_DROP : Fld := ⟨Reg.PKT_DROP, 48, 16, 0⟩
/-- PKT_DROP2 (10, HUB). -/
def Reg.PKT_DROP2 : Nat := 0x300018
def Reg.PKT_DROP2_TARGET : Fld := ⟨Reg.PKT_DROP2, 0, 16, 0⟩
def Reg.PKT_DROP2_NO_BUFFER : Fld := ⟨Reg.PKT_DROP2, 16, 16, 0⟩
/-- PKT_FRAG_STATUS (10, HUB). -/
def Reg.PKT_FRAG_STATUS : Nat := 0x300020
def Reg.PKT_FRAG_STATUS_ENTRIES : Fld := ⟨Reg.PKT_FRAG_STATUS, 0, 11, 0⟩
def Reg.PKT_FRAG_STATUS_HELD : Fld := ⟨Reg.PKT_FRAG_STATUS, 16, 10, 0⟩
/-- PKT_FRAG_COUNT (10, HUB). -/
def Reg.PKT_FRAG_COUNT : Nat := 0x300028
def Reg.PKT_FRAG_COUNT_FULL : Fld := ⟨Reg.PKT_FRAG_COUNT, 0, 16, 0⟩
def Reg.PKT_FRAG_COUNT_HOLD_FULL : Fld := ⟨Reg.PKT_FRAG_COUNT, 16, 16, 0⟩
def Reg.PKT_FRAG_COUNT_EXPIRED : Fld := ⟨Reg.PKT_FRAG_COUNT, 32, 16, 0⟩
/-- PKT_FRAG_CFG (10, HUB). -/
def Reg.PKT_FRAG_CFG : Nat := 0x300030
def Reg.PKT_FRAG_CFG_HOLD : Fld := ⟨Reg.PKT_FRAG_CFG, 0, 8, 250⟩
def Reg.PKT_FRAG_CFG_LIFE : Fld := ⟨Reg.PKT_FRAG_CFG, 8, 16, 1000⟩
/-- PKT_DSCP_MAP (10, HUB). -/
def Reg.PKT_DSCP_MAP (i : Nat) : Nat := 0x300100 + i * 0x4
def Reg.PKT_DSCP_MAP_PRIO (i : Nat) : Fld := ⟨Reg.PKT_DSCP_MAP i, 0, 24, (i * 2396745)⟩
/-- PKT_RANGE (10, HUB). -/
def Reg.PKT_RANGE (n : Nat) : Nat := 0x300400 + n * 0x8
def Reg.PKT_RANGE_LOW (n : Nat) : Fld := ⟨Reg.PKT_RANGE n, 0, 16, 0⟩
def Reg.PKT_RANGE_HIGH (n : Nat) : Fld := ⟨Reg.PKT_RANGE n, 16, 16, 0⟩
def Reg.PKT_RANGE_FIELD (n : Nat) : Fld := ⟨Reg.PKT_RANGE n, 32, 3, 0⟩
def Reg.PKT_RANGE_EN (n : Nat) : Fld := ⟨Reg.PKT_RANGE n, 35, 1, 0⟩
/-- PKT_RAW (10, HUB). -/
def Reg.PKT_RAW (p : Nat) : Nat := 0x301000 + p * 0x4
def Reg.PKT_RAW_BASE (p : Nat) : Fld := ⟨Reg.PKT_RAW p, 0, 12, 0⟩
def Reg.PKT_RAW_COUNT (p : Nat) : Fld := ⟨Reg.PKT_RAW p, 12, 13, 0⟩
/-- PKT_HASH (10, HUB). -/
def Reg.PKT_HASH (p : Nat) : Nat := 0x302000 + p * 0x40
def Reg.PKT_HASH_SIP (p : Nat) : Fld := ⟨Reg.PKT_HASH p, 0, 1, 1⟩
def Reg.PKT_HASH_DIP (p : Nat) : Fld := ⟨Reg.PKT_HASH p, 1, 1, 1⟩
def Reg.PKT_HASH_SPORT (p : Nat) : Fld := ⟨Reg.PKT_HASH p, 2, 1, 1⟩
def Reg.PKT_HASH_DPORT (p : Nat) : Fld := ⟨Reg.PKT_HASH p, 3, 1, 1⟩
def Reg.PKT_HASH_COMMIT (p : Nat) : Fld := ⟨Reg.PKT_HASH p, 31, 1, 0⟩
def Reg.PKT_HASH_KEY (p : Nat) : Fld := ⟨Reg.PKT_HASH p, 32, 320, 0⟩
/-- PKT_IND (10, HUB). -/
def Reg.PKT_IND (p e : Nat) : Nat := 0x310000 + p * 0x800 + e * 0x4
def Reg.PKT_IND_QUEUE (p e : Nat) : Fld := ⟨Reg.PKT_IND p e, 0, 12, 0⟩
def Reg.PKT_IND_VALID (p e : Nat) : Fld := ⟨Reg.PKT_IND p e, 31, 1, 0⟩
/-- PKT_HITS (10, HUB). -/
def Reg.PKT_HITS (r : Nat) : Nat := 0x330000 + r * 0x8
def Reg.PKT_HITS_COUNT (r : Nat) : Fld := ⟨Reg.PKT_HITS r, 0, 64, 0⟩
/-- PKT_RULE (10, HUB). -/
def Reg.PKT_RULE (r : Nat) : Nat := 0x340000 + r * 0x40
def Reg.PKT_RULE_PART (r : Nat) : Fld := ⟨Reg.PKT_RULE r, 0, 6, 0⟩
def Reg.PKT_RULE_VALID (r : Nat) : Fld := ⟨Reg.PKT_RULE r, 6, 1, 0⟩
def Reg.PKT_RULE_HASH (r : Nat) : Fld := ⟨Reg.PKT_RULE r, 7, 1, 0⟩
def Reg.PKT_RULE_ACTION (r : Nat) : Fld := ⟨Reg.PKT_RULE r, 8, 2, 0⟩
def Reg.PKT_RULE_QUEUE (r : Nat) : Fld := ⟨Reg.PKT_RULE r, 10, 12, 0⟩
def Reg.PKT_RULE_RANGE_A (r : Nat) : Fld := ⟨Reg.PKT_RULE r, 32, 6, 0⟩
def Reg.PKT_RULE_RA_EN (r : Nat) : Fld := ⟨Reg.PKT_RULE r, 38, 1, 0⟩
def Reg.PKT_RULE_RA_INV (r : Nat) : Fld := ⟨Reg.PKT_RULE r, 39, 1, 0⟩
def Reg.PKT_RULE_RANGE_B (r : Nat) : Fld := ⟨Reg.PKT_RULE r, 40, 6, 0⟩
def Reg.PKT_RULE_RB_EN (r : Nat) : Fld := ⟨Reg.PKT_RULE r, 46, 1, 0⟩
def Reg.PKT_RULE_RB_INV (r : Nat) : Fld := ⟨Reg.PKT_RULE r, 47, 1, 0⟩
def Reg.PKT_RULE_SEL (r : Nat) : Fld := ⟨Reg.PKT_RULE r, 64, 24, 0⟩
def Reg.PKT_RULE_SEL_EN (r : Nat) : Fld := ⟨Reg.PKT_RULE r, 88, 6, 0⟩
def Reg.PKT_RULE_VAL_MASK (r : Nat) : Fld := ⟨Reg.PKT_RULE r, 128, 384, 0⟩
/-- SCH_CFG (10, HUB). -/
def Reg.SCH_CFG : Nat := 0x380000
def Reg.SCH_CFG_REFILL : Fld := ⟨Reg.SCH_CFG, 0, 6, 8⟩
def Reg.SCH_CFG_OVERHEAD : Fld := ⟨Reg.SCH_CFG, 8, 8, 20⟩
def Reg.SCH_CFG_PBURST : Fld := ⟨Reg.SCH_CFG, 16, 8, 16⟩
def Reg.SCH_CFG_FW_CLASS : Fld := ⟨Reg.SCH_CFG, 24, 3, 7⟩
/-- SCH_EVENT (10, HUB). -/
def Reg.SCH_EVENT : Nat := 0x380004
def Reg.SCH_EVENT_MISSED_TARGET : Fld := ⟨Reg.SCH_EVENT, 0, 1, 0⟩
def Reg.SCH_EVENT_BAD_LIST : Fld := ⟨Reg.SCH_EVENT, 1, 1, 0⟩
def Reg.SCH_EVENT_AGED : Fld := ⟨Reg.SCH_EVENT, 2, 1, 0⟩
def Reg.SCH_EVENT_TAKEN : Fld := ⟨Reg.SCH_EVENT, 3, 1, 0⟩
/-- SCH_EVENT_EN (10, HUB). -/
def Reg.SCH_EVENT_EN : Nat := 0x380008
def Reg.SCH_EVENT_EN_EN : Fld := ⟨Reg.SCH_EVENT_EN, 0, 4, 0⟩
/-- SCH_PART (10, HUB). -/
def Reg.SCH_PART (p : Nat) : Nat := 0x381000 + p * 0x10
def Reg.SCH_PART_GTOKENS (p : Nat) : Fld := ⟨Reg.SCH_PART p, 0, 32, 0⟩
def Reg.SCH_PART_CTOKENS (p : Nat) : Fld := ⟨Reg.SCH_PART p, 32, 32, 0⟩
def Reg.SCH_PART_BYTES (p : Nat) : Fld := ⟨Reg.SCH_PART p, 64, 64, 0⟩
/-- SCH_PORT_CTRL (10, HUB). -/
def Reg.SCH_PORT_CTRL (l : Nat) : Nat := 0x390000 + l * 0x400
def Reg.SCH_PORT_CTRL_AGE (l : Nat) : Fld := ⟨Reg.SCH_PORT_CTRL l, 0, 8, 100⟩
/-- SCH_CLASS (10, HUB). -/
def Reg.SCH_CLASS (l c : Nat) : Nat := 0x390010 + l * 0x400 + c * 0x8
def Reg.SCH_CLASS_STRICT (l c : Nat) : Fld := ⟨Reg.SCH_CLASS l c, 0, 1, 0⟩
def Reg.SCH_CLASS_WEIGHT (l c : Nat) : Fld := ⟨Reg.SCH_CLASS l c, 2, 8, 1⟩
def Reg.SCH_CLASS_DSCP (l c : Nat) : Fld := ⟨Reg.SCH_CLASS l c, 10, 6, (8 * c)⟩
def Reg.SCH_CLASS_RATE (l c : Nat) : Fld := ⟨Reg.SCH_CLASS l c, 16, 9, 0⟩
def Reg.SCH_CLASS_PRIO (l c : Nat) : Fld := ⟨Reg.SCH_CLASS l c, 25, 3, c⟩
def Reg.SCH_CLASS_BURST (l c : Nat) : Fld := ⟨Reg.SCH_CLASS l c, 32, 11, 64⟩
/-- SCH_CLASS_TOKENS (10, HUB). -/
def Reg.SCH_CLASS_TOKENS (l c : Nat) : Nat := 0x390050 + l * 0x400 + c * 0x4
def Reg.SCH_CLASS_TOKENS_TOKENS (l c : Nat) : Fld := ⟨Reg.SCH_CLASS_TOKENS l c, 0, 32, 0⟩
/-- SCH_ALM_TAKE (10, HUB). -/
def Reg.SCH_ALM_TAKE (l : Nat) : Nat := 0x390080 + l * 0x400
def Reg.SCH_ALM_TAKE_BELL (l : Nat) : Fld := ⟨Reg.SCH_ALM_TAKE l, 0, 64, 0⟩
/-- SCH_ALM_CMD (10, HUB). -/
def Reg.SCH_ALM_CMD (l : Nat) : Nat := 0x390088 + l * 0x400
def Reg.SCH_ALM_CMD_ARM (l : Nat) : Fld := ⟨Reg.SCH_ALM_CMD l, 0, 1, 0⟩
def Reg.SCH_ALM_CMD_CANCEL (l : Nat) : Fld := ⟨Reg.SCH_ALM_CMD l, 1, 1, 0⟩
def Reg.SCH_ALM_CMD_ARMED (l : Nat) : Fld := ⟨Reg.SCH_ALM_CMD l, 2, 1, 0⟩
def Reg.SCH_ALM_CMD_SH_EN (l : Nat) : Fld := ⟨Reg.SCH_ALM_CMD l, 3, 1, 0⟩
def Reg.SCH_ALM_CMD_SH_CYCLE (l : Nat) : Fld := ⟨Reg.SCH_ALM_CMD l, 4, 3, 0⟩
/-- SCH_ALM_STATUS (10, HUB). -/
def Reg.SCH_ALM_STATUS (l : Nat) : Nat := 0x39008c + l * 0x400
def Reg.SCH_ALM_STATUS_EN (l : Nat) : Fld := ⟨Reg.SCH_ALM_STATUS l, 0, 1, 0⟩
def Reg.SCH_ALM_STATUS_CYCLE (l : Nat) : Fld := ⟨Reg.SCH_ALM_STATUS l, 1, 3, 0⟩
def Reg.SCH_ALM_STATUS_ENTRY (l : Nat) : Fld := ⟨Reg.SCH_ALM_STATUS l, 4, 5, 0⟩
/-- SCH_ALM_SHADOW (10, HUB). -/
def Reg.SCH_ALM_SHADOW (l k : Nat) : Nat := 0x390100 + l * 0x400 + k * 0x4
def Reg.SCH_ALM_SHADOW_ENTRY (l k : Nat) : Fld := ⟨Reg.SCH_ALM_SHADOW l k, 0, 21, 0⟩
def Reg.SCH_ALM_SHADOW_LAST (l k : Nat) : Fld := ⟨Reg.SCH_ALM_SHADOW l k, 31, 1, 0⟩
/-- SCH_ALM_ACTIVE (10, HUB). -/
def Reg.SCH_ALM_ACTIVE (l k : Nat) : Nat := 0x390180 + l * 0x400 + k * 0x4
def Reg.SCH_ALM_ACTIVE_ENTRY (l k : Nat) : Fld := ⟨Reg.SCH_ALM_ACTIVE l k, 0, 32, 0⟩
/-- BLK_CFG (11, HUB). -/
def Reg.BLK_CFG : Nat := 0x400000
def Reg.BLK_CFG_AGE_LIMIT : Fld := ⟨Reg.BLK_CFG, 0, 8, 20⟩
def Reg.BLK_CFG_WH : Fld := ⟨Reg.BLK_CFG, 8, 8, 8⟩
def Reg.BLK_CFG_WM : Fld := ⟨Reg.BLK_CFG, 16, 8, 4⟩
def Reg.BLK_CFG_WL : Fld := ⟨Reg.BLK_CFG, 24, 8, 1⟩
/-- BLK_EVENT (11, HUB). -/
def Reg.BLK_EVENT : Nat := 0x400004
def Reg.BLK_EVENT_PROMOTED : Fld := ⟨Reg.BLK_EVENT, 0, 1, 0⟩
def Reg.BLK_EVENT_REJECT : Fld := ⟨Reg.BLK_EVENT, 1, 1, 0⟩
def Reg.BLK_EVENT_MEDIA_ERR : Fld := ⟨Reg.BLK_EVENT, 2, 1, 0⟩
def Reg.BLK_EVENT_REMOTE_ERR : Fld := ⟨Reg.BLK_EVENT, 3, 1, 0⟩
def Reg.BLK_EVENT_MEM_ERR : Fld := ⟨Reg.BLK_EVENT, 4, 1, 0⟩
def Reg.BLK_EVENT_TEST_DONE : Fld := ⟨Reg.BLK_EVENT, 5, 1, 0⟩
/-- BLK_EVENT_EN (11, HUB). -/
def Reg.BLK_EVENT_EN : Nat := 0x400008
def Reg.BLK_EVENT_EN_EN : Fld := ⟨Reg.BLK_EVENT_EN, 0, 6, 0⟩
/-- BLK_STATUS (11, HUB). -/
def Reg.BLK_STATUS : Nat := 0x40000c
def Reg.BLK_STATUS_INFLIGHT : Fld := ⟨Reg.BLK_STATUS, 0, 14, 0⟩
def Reg.BLK_STATUS_STAGE : Fld := ⟨Reg.BLK_STATUS, 16, 10, 0⟩
/-- BLK_STATS (11, HUB). -/
def Reg.BLK_STATS : Nat := 0x400010
def Reg.BLK_STATS_PROMOTED : Fld := ⟨Reg.BLK_STATS, 0, 32, 0⟩
def Reg.BLK_STATS_ABORTED : Fld := ⟨Reg.BLK_STATS, 32, 32, 0⟩
/-- BLK_ERR_INFO (11, HUB). -/
def Reg.BLK_ERR_INFO : Nat := 0x400018
def Reg.BLK_ERR_INFO_STATUS : Fld := ⟨Reg.BLK_ERR_INFO, 0, 8, 0⟩
def Reg.BLK_ERR_INFO_PART : Fld := ⟨Reg.BLK_ERR_INFO, 8, 6, 0⟩
def Reg.BLK_ERR_INFO_NVME : Fld := ⟨Reg.BLK_ERR_INFO, 16, 16, 0⟩
def Reg.BLK_ERR_INFO_VOL : Fld := ⟨Reg.BLK_ERR_INFO, 32, 10, 0⟩
def Reg.BLK_ERR_INFO_QUEUE : Fld := ⟨Reg.BLK_ERR_INFO, 42, 11, 0⟩
/-- BLK_VOL (11, HUB). -/
def Reg.BLK_VOL (v : Nat) : Nat := 0x401000 + v * 0x20
def Reg.BLK_VOL_PART (v : Nat) : Fld := ⟨Reg.BLK_VOL v, 0, 6, 0⟩
def Reg.BLK_VOL_EN (v : Nat) : Fld := ⟨Reg.BLK_VOL v, 6, 1, 0⟩
def Reg.BLK_VOL_BACKING (v : Nat) : Fld := ⟨Reg.BLK_VOL v, 7, 2, 0⟩
def Reg.BLK_VOL_BS (v : Nat) : Fld := ⟨Reg.BLK_VOL v, 9, 1, 0⟩
def Reg.BLK_VOL_ADMIN (v : Nat) : Fld := ⟨Reg.BLK_VOL v, 10, 1, 0⟩
def Reg.BLK_VOL_ENC (v : Nat) : Fld := ⟨Reg.BLK_VOL v, 11, 1, 0⟩
def Reg.BLK_VOL_TRIM_ZERO (v : Nat) : Fld := ⟨Reg.BLK_VOL v, 12, 1, 0⟩
def Reg.BLK_VOL_KEY_SLOT (v : Nat) : Fld := ⟨Reg.BLK_VOL v, 13, 9, 0⟩
def Reg.BLK_VOL_NSID (v : Nat) : Fld := ⟨Reg.BLK_VOL v, 32, 32, 0⟩
def Reg.BLK_VOL_BASE (v : Nat) : Fld := ⟨Reg.BLK_VOL v, 64, 64, 0⟩
def Reg.BLK_VOL_CAP (v : Nat) : Fld := ⟨Reg.BLK_VOL v, 128, 64, 0⟩
def Reg.BLK_VOL_RKEY (v : Nat) : Fld := ⟨Reg.BLK_VOL v, 192, 32, 0⟩
/-- MED_CTRL (11, PCI). -/
def Reg.MED_CTRL (m : Nat) : Nat := 0x480000 + m * 0x1000
def Reg.MED_CTRL_EN (m : Nat) : Fld := ⟨Reg.MED_CTRL m, 0, 1, 0⟩
def Reg.MED_CTRL_WIDTH_CAP (m : Nat) : Fld := ⟨Reg.MED_CTRL m, 1, 2, 0⟩
def Reg.MED_CTRL_SPEED_CAP (m : Nat) : Fld := ⟨Reg.MED_CTRL m, 3, 3, 4⟩
def Reg.MED_CTRL_RESET (m : Nat) : Fld := ⟨Reg.MED_CTRL m, 6, 1, 0⟩
/-- MED_STATUS (11, PCI). -/
def Reg.MED_STATUS (m : Nat) : Nat := 0x480004 + m * 0x1000
def Reg.MED_STATUS_LINK_UP (m : Nat) : Fld := ⟨Reg.MED_STATUS m, 0, 1, 0⟩
def Reg.MED_STATUS_SPEED (m : Nat) : Fld := ⟨Reg.MED_STATUS m, 1, 3, 0⟩
def Reg.MED_STATUS_WIDTH (m : Nat) : Fld := ⟨Reg.MED_STATUS m, 4, 3, 0⟩
def Reg.MED_STATUS_READY (m : Nat) : Fld := ⟨Reg.MED_STATUS m, 7, 1, 0⟩
def Reg.MED_STATUS_RESETTING (m : Nat) : Fld := ⟨Reg.MED_STATUS m, 8, 1, 0⟩
def Reg.MED_STATUS_OUTSTANDING (m : Nat) : Fld := ⟨Reg.MED_STATUS m, 16, 11, 0⟩
/-- MED_EVENT (11, PCI). -/
def Reg.MED_EVENT (m : Nat) : Nat := 0x480008 + m * 0x1000
def Reg.MED_EVENT_LINK_DOWN (m : Nat) : Fld := ⟨Reg.MED_EVENT m, 0, 1, 0⟩
def Reg.MED_EVENT_TIMEOUT (m : Nat) : Fld := ⟨Reg.MED_EVENT m, 1, 1, 0⟩
def Reg.MED_EVENT_CTRL_FATAL (m : Nat) : Fld := ⟨Reg.MED_EVENT m, 2, 1, 0⟩
def Reg.MED_EVENT_RESET_DONE (m : Nat) : Fld := ⟨Reg.MED_EVENT m, 3, 1, 0⟩
def Reg.MED_EVENT_DOWNTRAINED (m : Nat) : Fld := ⟨Reg.MED_EVENT m, 4, 1, 0⟩
/-- MED_EVENT_EN (11, PCI). -/
def Reg.MED_EVENT_EN (m : Nat) : Nat := 0x48000c + m * 0x1000
def Reg.MED_EVENT_EN_EN (m : Nat) : Fld := ⟨Reg.MED_EVENT_EN m, 0, 5, 0⟩
/-- MED_CFG (11, PCI). -/
def Reg.MED_CFG (m : Nat) : Nat := 0x480010 + m * 0x1000
def Reg.MED_CFG_CMD_TIMEOUT (m : Nat) : Fld := ⟨Reg.MED_CFG m, 0, 8, 10⟩
def Reg.MED_CFG_DEPTH (m : Nat) : Fld := ⟨Reg.MED_CFG m, 8, 11, 1024⟩
/-- MED_TEST (11, PCI). -/
def Reg.MED_TEST (m : Nat) : Nat := 0x480018 + m * 0x1000
def Reg.MED_TEST_STATE (m : Nat) : Fld := ⟨Reg.MED_TEST m, 0, 2, 0⟩
def Reg.MED_TEST_RESULT (m : Nat) : Fld := ⟨Reg.MED_TEST m, 4, 4, 0⟩
def Reg.MED_TEST_TEST_TIME (m : Nat) : Fld := ⟨Reg.MED_TEST m, 8, 24, 0⟩
/-- CIPH_CFG (12, HUB). -/
def Reg.CIPH_CFG : Nat := 0x500000
def Reg.CIPH_CFG_DUMMY : Fld := ⟨Reg.CIPH_CFG, 0, 2, 3⟩
def Reg.CIPH_CFG_SHUFFLE : Fld := ⟨Reg.CIPH_CFG, 2, 1, 1⟩
def Reg.CIPH_CFG_NONCE_ID : Fld := ⟨Reg.CIPH_CFG, 10, 22, 0⟩
/-- CIPH_EPOCH (12, HUB). -/
def Reg.CIPH_EPOCH : Nat := 0x500004
def Reg.CIPH_EPOCH_EPOCH : Fld := ⟨Reg.CIPH_EPOCH, 0, 24, 0⟩
def Reg.CIPH_EPOCH_VALID : Fld := ⟨Reg.CIPH_EPOCH, 24, 1, 0⟩
/-- CIPH_SCHED (12, HUB). -/
def Reg.CIPH_SCHED : Nat := 0x500008
def Reg.CIPH_SCHED_W_RKT : Fld := ⟨Reg.CIPH_SCHED, 0, 8, 8⟩
def Reg.CIPH_SCHED_W_BLK : Fld := ⟨Reg.CIPH_SCHED, 8, 8, 4⟩
def Reg.CIPH_SCHED_W_REQ : Fld := ⟨Reg.CIPH_SCHED, 16, 8, 4⟩
/-- CIPH_STATUS (12, HUB). -/
def Reg.CIPH_STATUS : Nat := 0x50000c
def Reg.CIPH_STATUS_BUSY : Fld := ⟨Reg.CIPH_STATUS, 0, 16, 0⟩
def Reg.CIPH_STATUS_SLOTS : Fld := ⟨Reg.CIPH_STATUS, 16, 13, 0⟩
/-- CIPH_EVENT (12, HUB). -/
def Reg.CIPH_EVENT : Nat := 0x500010
def Reg.CIPH_EVENT_ALARM : Fld := ⟨Reg.CIPH_EVENT, 0, 1, 0⟩
def Reg.CIPH_EVENT_COUNT_HIGH : Fld := ⟨Reg.CIPH_EVENT, 1, 1, 0⟩
def Reg.CIPH_EVENT_NONCE_HOLD : Fld := ⟨Reg.CIPH_EVENT, 2, 1, 0⟩
def Reg.CIPH_EVENT_AUTH_FAIL : Fld := ⟨Reg.CIPH_EVENT, 3, 1, 0⟩
def Reg.CIPH_EVENT_REJECT : Fld := ⟨Reg.CIPH_EVENT, 4, 1, 0⟩
def Reg.CIPH_EVENT_MEM_ERR : Fld := ⟨Reg.CIPH_EVENT, 5, 1, 0⟩
/-- CIPH_EVENT_EN (12, HUB). -/
def Reg.CIPH_EVENT_EN : Nat := 0x500014
def Reg.CIPH_EVENT_EN_EN : Fld := ⟨Reg.CIPH_EVENT_EN, 0, 6, 0⟩
/-- CIPH_ALARM (12, HUB). -/
def Reg.CIPH_ALARM : Nat := 0x500018
def Reg.CIPH_ALARM_VOLT : Fld := ⟨Reg.CIPH_ALARM, 0, 1, 0⟩
def Reg.CIPH_ALARM_CLOCK : Fld := ⟨Reg.CIPH_ALARM, 1, 1, 0⟩
def Reg.CIPH_ALARM_TEMP : Fld := ⟨Reg.CIPH_ALARM, 2, 1, 0⟩
def Reg.CIPH_ALARM_SHIELD : Fld := ⟨Reg.CIPH_ALARM, 3, 1, 0⟩
def Reg.CIPH_ALARM_ACTIVE : Fld := ⟨Reg.CIPH_ALARM, 4, 1, 0⟩
def Reg.CIPH_ALARM_COUNT : Fld := ⟨Reg.CIPH_ALARM, 16, 16, 0⟩
/-- CIPH_ERR_INFO (12, HUB). -/
def Reg.CIPH_ERR_INFO : Nat := 0x500020
def Reg.CIPH_ERR_INFO_STATUS : Fld := ⟨Reg.CIPH_ERR_INFO, 0, 8, 0⟩
def Reg.CIPH_ERR_INFO_PART : Fld := ⟨Reg.CIPH_ERR_INFO, 8, 6, 0⟩
def Reg.CIPH_ERR_INFO_QUEUE : Fld := ⟨Reg.CIPH_ERR_INFO, 16, 12, 0⟩
def Reg.CIPH_ERR_INFO_USER : Fld := ⟨Reg.CIPH_ERR_INFO, 32, 32, 0⟩
/-- CIPH_PART (12, HUB). -/
def Reg.CIPH_PART (p : Nat) : Nat := 0x501000 + p * 0x40
def Reg.CIPH_PART_SLOT_BASE (p : Nat) : Fld := ⟨Reg.CIPH_PART p, 0, 12, 0⟩
def Reg.CIPH_PART_PK_SET (p : Nat) : Fld := ⟨Reg.CIPH_PART p, 12, 1, 0⟩
def Reg.CIPH_PART_EK_SET (p : Nat) : Fld := ⟨Reg.CIPH_PART p, 13, 1, 0⟩
/-- CIPH_PART_EK (12, HUB). -/
def Reg.CIPH_PART_EK (p : Nat) : Nat := 0x501020 + p * 0x40
def Reg.CIPH_PART_EK_KEY (p : Nat) : Fld := ⟨Reg.CIPH_PART_EK p, 0, 256, 0⟩
/-- CKP_EVENT (13, HUB). -/
def Reg.CKP_EVENT : Nat := 0x600000
def Reg.CKP_EVENT_DONE : Fld := ⟨Reg.CKP_EVENT, 0, 1, 0⟩
def Reg.CKP_EVENT_DEFERRED : Fld := ⟨Reg.CKP_EVENT, 1, 1, 0⟩
def Reg.CKP_EVENT_ABORTED : Fld := ⟨Reg.CKP_EVENT, 2, 1, 0⟩
def Reg.CKP_EVENT_RESTORE_DONE : Fld := ⟨Reg.CKP_EVENT, 3, 1, 0⟩
def Reg.CKP_EVENT_RESTORE_FAIL : Fld := ⟨Reg.CKP_EVENT, 4, 1, 0⟩
def Reg.CKP_EVENT_GRANARY_LOST : Fld := ⟨Reg.CKP_EVENT, 5, 1, 0⟩
def Reg.CKP_EVENT_DRAIN_FAIL : Fld := ⟨Reg.CKP_EVENT, 6, 1, 0⟩
/-- CKP_EVENT_EN (13, HUB). -/
def Reg.CKP_EVENT_EN : Nat := 0x600004
def Reg.CKP_EVENT_EN_EN : Fld := ⟨Reg.CKP_EVENT_EN, 0, 7, 0⟩
/-- CKP_CTRL (13, HUB). -/
def Reg.CKP_CTRL (k : Nat) : Nat := 0x600100 + k * 0x100
def Reg.CKP_CTRL_EN (k : Nat) : Fld := ⟨Reg.CKP_CTRL k, 0, 1, 0⟩
def Reg.CKP_CTRL_MODE (k : Nat) : Fld := ⟨Reg.CKP_CTRL k, 1, 1, 0⟩
def Reg.CKP_CTRL_PART (k : Nat) : Fld := ⟨Reg.CKP_CTRL k, 8, 6, 0⟩
def Reg.CKP_CTRL_ENGINE (k : Nat) : Fld := ⟨Reg.CKP_CTRL k, 16, 4, 0⟩
/-- CKP_PERIOD (13, HUB). -/
def Reg.CKP_PERIOD (k : Nat) : Nat := 0x600104 + k * 0x100
def Reg.CKP_PERIOD_PERIOD (k : Nat) : Fld := ⟨Reg.CKP_PERIOD k, 0, 32, 16777216⟩
/-- CKP_PHASE (13, HUB). -/
def Reg.CKP_PHASE (k : Nat) : Nat := 0x600108 + k * 0x100
def Reg.CKP_PHASE_PHASE (k : Nat) : Fld := ⟨Reg.CKP_PHASE k, 0, 32, 0⟩
/-- CKP_EVERY (13, HUB). -/
def Reg.CKP_EVERY (k : Nat) : Nat := 0x60010c + k * 0x100
def Reg.CKP_EVERY_EVERY (k : Nat) : Fld := ⟨Reg.CKP_EVERY k, 0, 32, 20⟩
/-- CKP_REGION (13, HUB). -/
def Reg.CKP_REGION (k r : Nat) : Nat := 0x600110 + k * 0x100 + r * 0x10
def Reg.CKP_REGION_PBASE (k r : Nat) : Fld := ⟨Reg.CKP_REGION k r, 16, 32, 0⟩
def Reg.CKP_REGION_CHUNKS (k r : Nat) : Fld := ⟨Reg.CKP_REGION k r, 64, 21, 0⟩
def Reg.CKP_REGION_AXIS (k r : Nat) : Fld := ⟨Reg.CKP_REGION k r, 85, 2, 0⟩
def Reg.CKP_REGION_ILK (k r : Nat) : Fld := ⟨Reg.CKP_REGION k r, 87, 2, 0⟩
def Reg.CKP_REGION_EN (k r : Nat) : Fld := ⟨Reg.CKP_REGION k r, 89, 1, 0⟩
def Reg.CKP_REGION_TAG (k r : Nat) : Fld := ⟨Reg.CKP_REGION k r, 96, 32, 0⟩
/-- CKP_TARGET (13, HUB). -/
def Reg.CKP_TARGET (k : Nat) : Nat := 0x600150 + k * 0x100
def Reg.CKP_TARGET_QP (k : Nat) : Fld := ⟨Reg.CKP_TARGET k, 0, 12, 0⟩
def Reg.CKP_TARGET_SLOTLEN (k : Nat) : Fld := ⟨Reg.CKP_TARGET k, 16, 11, 0⟩
/-- CKP_JOB (13, HUB). -/
def Reg.CKP_JOB (k : Nat) : Nat := 0x600158 + k * 0x100
def Reg.CKP_JOB_JOB (k : Nat) : Fld := ⟨Reg.CKP_JOB k, 0, 64, 0⟩
/-- CKP_SHAPE (13, HUB). -/
def Reg.CKP_SHAPE (k : Nat) : Nat := 0x600160 + k * 0x100
def Reg.CKP_SHAPE_NX (k : Nat) : Fld := ⟨Reg.CKP_SHAPE k, 0, 7, 1⟩
def Reg.CKP_SHAPE_NY (k : Nat) : Fld := ⟨Reg.CKP_SHAPE k, 8, 7, 1⟩
def Reg.CKP_SHAPE_NZ (k : Nat) : Fld := ⟨Reg.CKP_SHAPE k, 16, 5, 1⟩
/-- CKP_USER (13, HUB). -/
def Reg.CKP_USER (k : Nat) : Nat := 0x600168 + k * 0x100
def Reg.CKP_USER_ADDR (k : Nat) : Fld := ⟨Reg.CKP_USER k, 6, 42, 0⟩
/-- CKP_SAFE (13, HUB). -/
def Reg.CKP_SAFE (k : Nat) : Nat := 0x600170 + k * 0x100
def Reg.CKP_SAFE_SAFE_STEP (k : Nat) : Fld := ⟨Reg.CKP_SAFE k, 0, 64, 0⟩
/-- CKP_STATUS (13, HUB). -/
def Reg.CKP_STATUS (k : Nat) : Nat := 0x600178 + k * 0x100
def Reg.CKP_STATUS_STATE (k : Nat) : Fld := ⟨Reg.CKP_STATUS k, 0, 2, 0⟩
def Reg.CKP_STATUS_SLOT (k : Nat) : Fld := ⟨Reg.CKP_STATUS k, 2, 1, 0⟩
def Reg.CKP_STATUS_DEFERRED (k : Nat) : Fld := ⟨Reg.CKP_STATUS k, 16, 16, 0⟩
/-- CKP_LAST (13, HUB). -/
def Reg.CKP_LAST (k : Nat) : Nat := 0x600180 + k * 0x100
def Reg.CKP_LAST_STEP (k : Nat) : Fld := ⟨Reg.CKP_LAST k, 0, 64, 0⟩
def Reg.CKP_LAST_BELL (k : Nat) : Fld := ⟨Reg.CKP_LAST k, 64, 64, 0⟩
def Reg.CKP_LAST_SLOT (k : Nat) : Fld := ⟨Reg.CKP_LAST k, 128, 1, 0⟩
def Reg.CKP_LAST_DIGEST (k : Nat) : Fld := ⟨Reg.CKP_LAST k, 256, 256, 0⟩
/-- CKP_CMD (13, HUB). -/
def Reg.CKP_CMD (k : Nat) : Nat := 0x6001c0 + k * 0x100
def Reg.CKP_CMD_CODE (k : Nat) : Fld := ⟨Reg.CKP_CMD k, 0, 2, 0⟩
def Reg.CKP_CMD_BUSY (k : Nat) : Fld := ⟨Reg.CKP_CMD k, 2, 1, 0⟩
def Reg.CKP_CMD_RESULT (k : Nat) : Fld := ⟨Reg.CKP_CMD k, 8, 8, 0⟩
def Reg.CKP_CMD_FAIL_SRC (k : Nat) : Fld := ⟨Reg.CKP_CMD k, 16, 8, 0⟩
/-- CKP_RESTORE_ADDR (13, HUB). -/
def Reg.CKP_RESTORE_ADDR (k : Nat) : Nat := 0x6001c8 + k * 0x100
def Reg.CKP_RESTORE_ADDR_ADDR (k : Nat) : Fld := ⟨Reg.CKP_RESTORE_ADDR k, 6, 58, 0⟩
/-- CKP_RESTORE_N (13, HUB). -/
def Reg.CKP_RESTORE_N (k : Nat) : Nat := 0x6001d0 + k * 0x100
def Reg.CKP_RESTORE_N_COUNT (k : Nat) : Fld := ⟨Reg.CKP_RESTORE_N k, 0, 13, 0⟩
/-- CKP_GRAN (13, HUB). -/
def Reg.CKP_GRAN (g : Nat) : Nat := 0x600800 + g * 0x40
def Reg.CKP_GRAN_BASE (g : Nat) : Fld := ⟨Reg.CKP_GRAN g, 0, 48, 0⟩
def Reg.CKP_GRAN_LEN (g : Nat) : Fld := ⟨Reg.CKP_GRAN g, 64, 11, 0⟩
def Reg.CKP_GRAN_EN (g : Nat) : Fld := ⟨Reg.CKP_GRAN g, 75, 1, 0⟩
def Reg.CKP_GRAN_HOLD (g : Nat) : Fld := ⟨Reg.CKP_GRAN g, 76, 2, 0⟩
def Reg.CKP_GRAN_DRAIN_VOL (g : Nat) : Fld := ⟨Reg.CKP_GRAN g, 96, 10, 0⟩
def Reg.CKP_GRAN_DRAIN_EVERY (g : Nat) : Fld := ⟨Reg.CKP_GRAN g, 112, 8, 0⟩
def Reg.CKP_GRAN_DRAIN_LBA (g : Nat) : Fld := ⟨Reg.CKP_GRAN g, 128, 64, 0⟩
/-- FLT_STATUS (13, HUB). -/
def Reg.FLT_STATUS : Nat := 0x680000
def Reg.FLT_STATUS_REPLAYING : Fld := ⟨Reg.FLT_STATUS, 0, 1, 0⟩
def Reg.FLT_STATUS_MODULE_FATAL : Fld := ⟨Reg.FLT_STATUS, 1, 1, 0⟩
def Reg.FLT_STATUS_GRAN_SERVE : Fld := ⟨Reg.FLT_STATUS, 2, 1, 0⟩
/-- FLT_EVENT (13, HUB). -/
def Reg.FLT_EVENT : Nat := 0x680004
def Reg.FLT_EVENT_CORRECTED : Fld := ⟨Reg.FLT_EVENT, 0, 1, 0⟩
def Reg.FLT_EVENT_CONTAINED : Fld := ⟨Reg.FLT_EVENT, 1, 1, 0⟩
def Reg.FLT_EVENT_PART_FATAL : Fld := ⟨Reg.FLT_EVENT, 2, 1, 0⟩
def Reg.FLT_EVENT_MODULE_FATAL : Fld := ⟨Reg.FLT_EVENT, 3, 1, 0⟩
def Reg.FLT_EVENT_REPLAY_DONE : Fld := ⟨Reg.FLT_EVENT, 4, 1, 0⟩
def Reg.FLT_EVENT_ESCALATED : Fld := ⟨Reg.FLT_EVENT, 5, 1, 0⟩
def Reg.FLT_EVENT_LOST : Fld := ⟨Reg.FLT_EVENT, 6, 1, 0⟩
def Reg.FLT_EVENT_SWITCHED : Fld := ⟨Reg.FLT_EVENT, 7, 1, 0⟩
/-- FLT_EVENT_EN (13, HUB). -/
def Reg.FLT_EVENT_EN : Nat := 0x680008
def Reg.FLT_EVENT_EN_EN : Fld := ⟨Reg.FLT_EVENT_EN, 0, 8, 14⟩
/-- FLT_CAUSE (13, HUB). -/
def Reg.FLT_CAUSE : Nat := 0x680010
def Reg.FLT_CAUSE_CODE : Fld := ⟨Reg.FLT_CAUSE, 0, 8, 0⟩
def Reg.FLT_CAUSE_CLASS : Fld := ⟨Reg.FLT_CAUSE, 8, 2, 0⟩
def Reg.FLT_CAUSE_PART : Fld := ⟨Reg.FLT_CAUSE, 10, 6, 0⟩
def Reg.FLT_CAUSE_ENGINE : Fld := ⟨Reg.FLT_CAUSE, 16, 4, 0⟩
def Reg.FLT_CAUSE_UNIT : Fld := ⟨Reg.FLT_CAUSE, 20, 5, 0⟩
def Reg.FLT_CAUSE_BELL : Fld := ⟨Reg.FLT_CAUSE, 32, 32, 0⟩
/-- FLT_COUNT (13, HUB). -/
def Reg.FLT_COUNT : Nat := 0x680018
def Reg.FLT_COUNT_CORRECTED : Fld := ⟨Reg.FLT_COUNT, 0, 32, 0⟩
def Reg.FLT_COUNT_CONTAINED : Fld := ⟨Reg.FLT_COUNT, 32, 16, 0⟩
def Reg.FLT_COUNT_PART_FATAL : Fld := ⟨Reg.FLT_COUNT, 48, 8, 0⟩
def Reg.FLT_COUNT_MODULE_FATAL : Fld := ⟨Reg.FLT_COUNT, 56, 8, 0⟩
/-- FLT_REPLAY (13, HUB). -/
def Reg.FLT_REPLAY : Nat := 0x680020
def Reg.FLT_REPLAY_FIRST : Fld := ⟨Reg.FLT_REPLAY, 0, 32, 0⟩
def Reg.FLT_REPLAY_ENGINE : Fld := ⟨Reg.FLT_REPLAY, 32, 4, 0⟩
def Reg.FLT_REPLAY_BELLS : Fld := ⟨Reg.FLT_REPLAY, 36, 4, 0⟩
def Reg.FLT_REPLAY_TRIES : Fld := ⟨Reg.FLT_REPLAY, 40, 4, 0⟩
def Reg.FLT_REPLAY_ACTIVE : Fld := ⟨Reg.FLT_REPLAY, 44, 1, 0⟩
/-- FLT_CFG (13, HUB). -/
def Reg.FLT_CFG : Nat := 0x680028
def Reg.FLT_CFG_REPLAY_LIMIT : Fld := ⟨Reg.FLT_CFG, 0, 4, 3⟩
def Reg.FLT_CFG_SAME_SLOT : Fld := ⟨Reg.FLT_CFG, 4, 1, 1⟩
def Reg.FLT_CFG_WINDOW : Fld := ⟨Reg.FLT_CFG, 8, 16, 1024⟩
/-- FLT_SWITCH (13, HUB). -/
def Reg.FLT_SWITCH : Nat := 0x680030
def Reg.FLT_SWITCH_ENGINE : Fld := ⟨Reg.FLT_SWITCH, 0, 4, 0⟩
def Reg.FLT_SWITCH_GO : Fld := ⟨Reg.FLT_SWITCH, 4, 1, 0⟩
def Reg.FLT_SWITCH_ARMED : Fld := ⟨Reg.FLT_SWITCH, 5, 1, 0⟩
/-- FLT_SWITCH_BELL (13, HUB). -/
def Reg.FLT_SWITCH_BELL : Nat := 0x680038
def Reg.FLT_SWITCH_BELL_BELL : Fld := ⟨Reg.FLT_SWITCH_BELL, 0, 64, 0⟩
/-- FLT_LOST (13, HUB). -/
def Reg.FLT_LOST : Nat := 0x680040
def Reg.FLT_LOST_X : Fld := ⟨Reg.FLT_LOST, 0, 6, 0⟩
def Reg.FLT_LOST_Y : Fld := ⟨Reg.FLT_LOST, 8, 6, 0⟩
def Reg.FLT_LOST_Z : Fld := ⟨Reg.FLT_LOST, 16, 4, 0⟩
def Reg.FLT_LOST_COUNT : Fld := ⟨Reg.FLT_LOST, 32, 16, 0⟩
def Reg.FLT_LOST_UNNAMED : Fld := ⟨Reg.FLT_LOST, 48, 16, 0⟩
/-- PWR_STATE (14, AUX). -/
def Reg.PWR_STATE : Nat := 0x40000
def Reg.PWR_STATE_STATE : Fld := ⟨Reg.PWR_STATE, 0, 3, 0⟩
def Reg.PWR_STATE_TRANSIT : Fld := ⟨Reg.PWR_STATE, 3, 1, 0⟩
def Reg.PWR_STATE_RDY : Fld := ⟨Reg.PWR_STATE, 4, 4, 15⟩
/-- PWR_REQ (14, AUX). -/
def Reg.PWR_REQ : Nat := 0x40004
def Reg.PWR_REQ_TARGET : Fld := ⟨Reg.PWR_REQ, 0, 3, 0⟩
def Reg.PWR_REQ_BUSY : Fld := ⟨Reg.PWR_REQ, 8, 1, 0⟩
def Reg.PWR_REQ_RESULT : Fld := ⟨Reg.PWR_REQ, 16, 8, 0⟩
/-- PWR_WAKE_EN (14, AUX). -/
def Reg.PWR_WAKE_EN : Nat := 0x40008
def Reg.PWR_WAKE_EN_PCIE : Fld := ⟨Reg.PWR_WAKE_EN, 0, 1, 1⟩
def Reg.PWR_WAKE_EN_FAB_FRAME : Fld := ⟨Reg.PWR_WAKE_EN, 1, 1, 1⟩
def Reg.PWR_WAKE_EN_VESPER : Fld := ⟨Reg.PWR_WAKE_EN, 2, 1, 1⟩
def Reg.PWR_WAKE_EN_VESPER_ANY : Fld := ⟨Reg.PWR_WAKE_EN, 3, 1, 0⟩
def Reg.PWR_WAKE_EN_FAB_SIG : Fld := ⟨Reg.PWR_WAKE_EN, 8, 8, 255⟩
/-- PWR_WAKE_CAUSE (14, AUX). -/
def Reg.PWR_WAKE_CAUSE : Nat := 0x4000c
def Reg.PWR_WAKE_CAUSE_PCIE : Fld := ⟨Reg.PWR_WAKE_CAUSE, 0, 1, 0⟩
def Reg.PWR_WAKE_CAUSE_FAB_FRAME : Fld := ⟨Reg.PWR_WAKE_CAUSE, 1, 1, 0⟩
def Reg.PWR_WAKE_CAUSE_FAB_SIG : Fld := ⟨Reg.PWR_WAKE_CAUSE, 2, 1, 0⟩
def Reg.PWR_WAKE_CAUSE_VESPER : Fld := ⟨Reg.PWR_WAKE_CAUSE, 3, 1, 0⟩
def Reg.PWR_WAKE_CAUSE_WAKE_N : Fld := ⟨Reg.PWR_WAKE_CAUSE, 4, 1, 0⟩
def Reg.PWR_WAKE_CAUSE_LANE : Fld := ⟨Reg.PWR_WAKE_CAUSE, 8, 5, 0⟩
/-- PWR_DS_MEM (14, AUX). -/
def Reg.PWR_DS_MEM : Nat := 0x40010
def Reg.PWR_DS_MEM_PD : Fld := ⟨Reg.PWR_DS_MEM, 0, 26, 0⟩
/-- PWR_LAST_OFF (14, AUX). -/
def Reg.PWR_LAST_OFF : Nat := 0x40014
def Reg.PWR_LAST_OFF_CAUSE : Fld := ⟨Reg.PWR_LAST_OFF, 0, 2, 0⟩
def Reg.PWR_LAST_OFF_SENSOR : Fld := ⟨Reg.PWR_LAST_OFF, 16, 7, 0⟩
/-- PWR_DS_TS (14, AUX). -/
def Reg.PWR_DS_TS (u : Nat) : Nat := 0x40080 + u * 0x4
def Reg.PWR_DS_TS_ENGINE_A (u : Nat) : Fld := ⟨Reg.PWR_DS_TS u, 0, 4, 0⟩
def Reg.PWR_DS_TS_UNIT_A (u : Nat) : Fld := ⟨Reg.PWR_DS_TS u, 4, 5, 0⟩
def Reg.PWR_DS_TS_EN_A (u : Nat) : Fld := ⟨Reg.PWR_DS_TS u, 9, 1, 0⟩
def Reg.PWR_DS_TS_ENGINE_B (u : Nat) : Fld := ⟨Reg.PWR_DS_TS u, 16, 4, 0⟩
def Reg.PWR_DS_TS_UNIT_B (u : Nat) : Fld := ⟨Reg.PWR_DS_TS u, 20, 5, 0⟩
def Reg.PWR_DS_TS_EN_B (u : Nat) : Fld := ⟨Reg.PWR_DS_TS u, 25, 1, 0⟩
/-- PWR_CTRL (14, HUB). -/
def Reg.PWR_CTRL : Nat := 0x40100
def Reg.PWR_CTRL_MODE : Fld := ⟨Reg.PWR_CTRL, 0, 1, 0⟩
def Reg.PWR_CTRL_PREBIAS_EN : Fld := ⟨Reg.PWR_CTRL, 1, 1, 1⟩
def Reg.PWR_CTRL_DROOP_EN : Fld := ⟨Reg.PWR_CTRL, 2, 1, 1⟩
def Reg.PWR_CTRL_ALERT_OUT_EN : Fld := ⟨Reg.PWR_CTRL, 3, 1, 1⟩
def Reg.PWR_CTRL_PACE_MAX : Fld := ⟨Reg.PWR_CTRL, 4, 7, 72⟩
def Reg.PWR_CTRL_ALERT_HOLD : Fld := ⟨Reg.PWR_CTRL, 12, 8, 100⟩
def Reg.PWR_CTRL_THERM_STEP : Fld := ⟨Reg.PWR_CTRL, 20, 8, 16⟩
/-- PWR_CAP (14, HUB). -/
def Reg.PWR_CAP : Nat := 0x40108
def Reg.PWR_CAP_WATTS : Fld := ⟨Reg.PWR_CAP, 0, 11, 1650⟩
def Reg.PWR_CAP_TAU : Fld := ⟨Reg.PWR_CAP, 16, 8, 10⟩
def Reg.PWR_CAP_HYST : Fld := ⟨Reg.PWR_CAP, 24, 8, 25⟩
def Reg.PWR_CAP_RAISE : Fld := ⟨Reg.PWR_CAP, 32, 8, 64⟩
/-- PWR_STATUS (14, HUB). -/
def Reg.PWR_STATUS : Nat := 0x40110
def Reg.PWR_STATUS_ALERT_PIN : Fld := ⟨Reg.PWR_STATUS, 0, 1, 0⟩
def Reg.PWR_STATUS_ALERT_REG : Fld := ⟨Reg.PWR_STATUS, 1, 1, 0⟩
def Reg.PWR_STATUS_UNDERVOLT : Fld := ⟨Reg.PWR_STATUS, 2, 1, 0⟩
def Reg.PWR_STATUS_THERM : Fld := ⟨Reg.PWR_STATUS, 3, 1, 0⟩
def Reg.PWR_STATUS_FLOOR : Fld := ⟨Reg.PWR_STATUS, 4, 1, 0⟩
def Reg.PWR_STATUS_EMERG : Fld := ⟨Reg.PWR_STATUS, 5, 1, 0⟩
def Reg.PWR_STATUS_QUIET : Fld := ⟨Reg.PWR_STATUS, 8, 8, 255⟩
def Reg.PWR_STATUS_CAP_PACE : Fld := ⟨Reg.PWR_STATUS, 16, 7, 72⟩
def Reg.PWR_STATUS_THERM_PACE : Fld := ⟨Reg.PWR_STATUS, 24, 7, 72⟩
/-- PWR_EVENT (14, HUB). -/
def Reg.PWR_EVENT : Nat := 0x40114
def Reg.PWR_EVENT_EMERG_ON : Fld := ⟨Reg.PWR_EVENT, 0, 1, 0⟩
def Reg.PWR_EVENT_EMERG_OFF : Fld := ⟨Reg.PWR_EVENT, 1, 1, 0⟩
def Reg.PWR_EVENT_THROTTLE : Fld := ⟨Reg.PWR_EVENT, 2, 1, 0⟩
def Reg.PWR_EVENT_CAP_ACTIVE : Fld := ⟨Reg.PWR_EVENT, 3, 1, 0⟩
def Reg.PWR_EVENT_CAP_UNMET : Fld := ⟨Reg.PWR_EVENT, 4, 1, 0⟩
def Reg.PWR_EVENT_VOLT_HOLD : Fld := ⟨Reg.PWR_EVENT, 5, 1, 0⟩
def Reg.PWR_EVENT_DROOP : Fld := ⟨Reg.PWR_EVENT, 6, 1, 0⟩
def Reg.PWR_EVENT_WAKE : Fld := ⟨Reg.PWR_EVENT, 7, 1, 0⟩
def Reg.PWR_EVENT_REQ_DONE : Fld := ⟨Reg.PWR_EVENT, 8, 1, 0⟩
/-- PWR_EVENT_EN (14, HUB). -/
def Reg.PWR_EVENT_EN : Nat := 0x40118
def Reg.PWR_EVENT_EN_EN : Fld := ⟨Reg.PWR_EVENT_EN, 0, 9, 0⟩
/-- PWR_INPUT (14, HUB). -/
def Reg.PWR_INPUT : Nat := 0x40120
def Reg.PWR_INPUT_MV : Fld := ⟨Reg.PWR_INPUT, 0, 16, 0⟩
def Reg.PWR_INPUT_CURRENT : Fld := ⟨Reg.PWR_INPUT, 16, 16, 0⟩
def Reg.PWR_INPUT_AVG : Fld := ⟨Reg.PWR_INPUT, 32, 16, 0⟩
def Reg.PWR_INPUT_NOW : Fld := ⟨Reg.PWR_INPUT, 48, 16, 0⟩
/-- PWR_ENERGY (14, HUB). -/
def Reg.PWR_ENERGY : Nat := 0x40128
def Reg.PWR_ENERGY_MJ : Fld := ⟨Reg.PWR_ENERGY, 0, 64, 0⟩
/-- PWR_IDLE (14, HUB). -/
def Reg.PWR_IDLE : Nat := 0x40130
def Reg.PWR_IDLE_BELLS : Fld := ⟨Reg.PWR_IDLE, 0, 8, 4⟩
def Reg.PWR_IDLE_EN : Fld := ⟨Reg.PWR_IDLE, 8, 1, 1⟩
/-- PWR_HEAVY (14, HUB). -/
def Reg.PWR_HEAVY : Nat := 0x40134
def Reg.PWR_HEAVY_MIN : Fld := ⟨Reg.PWR_HEAVY, 0, 9, 64⟩
def Reg.PWR_HEAVY_LEAD : Fld := ⟨Reg.PWR_HEAVY, 16, 7, 16⟩
def Reg.PWR_HEAVY_HOLD : Fld := ⟨Reg.PWR_HEAVY, 24, 7, 32⟩
/-- PWR_DROOP_CFG (14, HUB). -/
def Reg.PWR_DROOP_CFG : Nat := 0x40138
def Reg.PWR_DROOP_CFG_THRESH : Fld := ⟨Reg.PWR_DROOP_CFG, 0, 6, 40⟩
/-- PWR_DROOP_COUNT (14, HUB). -/
def Reg.PWR_DROOP_COUNT (d : Nat) : Nat := 0x40140 + d * 0x8
def Reg.PWR_DROOP_COUNT_EVENTS (d : Nat) : Fld := ⟨Reg.PWR_DROOP_COUNT d, 0, 32, 0⟩
def Reg.PWR_DROOP_COUNT_LOST (d : Nat) : Fld := ⟨Reg.PWR_DROOP_COUNT d, 32, 32, 0⟩
/-- PWR_VF (14, HUB). -/
def Reg.PWR_VF (i : Nat) : Nat := 0x40180 + i * 0x4
def Reg.PWR_VF_PACE (i : Nat) : Fld := ⟨Reg.PWR_VF i, 0, 7, 0⟩
def Reg.PWR_VF_MV (i : Nat) : Fld := ⟨Reg.PWR_VF i, 8, 10, 0⟩
def Reg.PWR_VF_EN (i : Nat) : Fld := ⟨Reg.PWR_VF i, 31, 1, 0⟩
/-- PWR_THERM_LIM (14, HUB). -/
def Reg.PWR_THERM_LIM (c : Nat) : Nat := 0x40200 + c * 0x4
def Reg.PWR_THERM_LIM_THROTTLE (c : Nat) : Fld := ⟨Reg.PWR_THERM_LIM c, 0, 8, (if c < 2 then 95 else if c = 2 then 90 else 110)⟩
def Reg.PWR_THERM_LIM_EMERG (c : Nat) : Fld := ⟨Reg.PWR_THERM_LIM c, 8, 8, (if c < 2 then 105 else if c = 2 then 100 else 120)⟩
def Reg.PWR_THERM_LIM_SHUT (c : Nat) : Fld := ⟨Reg.PWR_THERM_LIM c, 16, 8, (if c < 2 then 115 else if c = 2 then 110 else 130)⟩
/-- PWR_TEMP (14, HUB). -/
def Reg.PWR_TEMP (s : Nat) : Nat := 0x40300 + s * 0x4
def Reg.PWR_TEMP_TEMP (s : Nat) : Fld := ⟨Reg.PWR_TEMP s, 0, 11, 0⟩
def Reg.PWR_TEMP_VALID (s : Nat) : Fld := ⟨Reg.PWR_TEMP s, 15, 1, 0⟩
/-- HUB_ID (15, HUB). -/
def Reg.HUB_ID : Nat := 0x0
def Reg.HUB_ID_PART : Fld := ⟨Reg.HUB_ID, 0, 16, 150⟩
def Reg.HUB_ID_STEPPING : Fld := ⟨Reg.HUB_ID, 16, 4, 1⟩
/-- HUB_START (15, HUB). -/
def Reg.HUB_START : Nat := 0x4
def Reg.HUB_START_STAGE : Fld := ⟨Reg.HUB_START, 0, 4, 0⟩
def Reg.HUB_START_KIND : Fld := ⟨Reg.HUB_START, 4, 1, 0⟩
def Reg.HUB_START_SLOT : Fld := ⟨Reg.HUB_START, 5, 1, 0⟩
def Reg.HUB_START_MINIMAL : Fld := ⟨Reg.HUB_START, 6, 1, 0⟩
def Reg.HUB_START_RECOVERY : Fld := ⟨Reg.HUB_START, 7, 1, 0⟩
def Reg.HUB_START_ATTEMPTS : Fld := ⟨Reg.HUB_START, 8, 4, 0⟩
/-- HUB_START_ERR (15, HUB). -/
def Reg.HUB_START_ERR : Nat := 0x8
def Reg.HUB_START_ERR_STEP : Fld := ⟨Reg.HUB_START_ERR, 0, 4, 0⟩
def Reg.HUB_START_ERR_CODE : Fld := ⟨Reg.HUB_START_ERR, 8, 8, 0⟩
def Reg.HUB_START_ERR_COUNT : Fld := ⟨Reg.HUB_START_ERR, 16, 16, 0⟩
/-- HUB_IOC_RUN (15, HUB). -/
def Reg.HUB_IOC_RUN : Nat := 0x10
def Reg.HUB_IOC_RUN_RUN : Fld := ⟨Reg.HUB_IOC_RUN, 0, 32, 0⟩
/-- HUB_IOC_DOUBLE (15, HUB). -/
def Reg.HUB_IOC_DOUBLE : Nat := 0x14
def Reg.HUB_IOC_DOUBLE_DOUBLE : Fld := ⟨Reg.HUB_IOC_DOUBLE, 0, 32, 0⟩
/-- HUB_REPAIR (15, HUB). -/
def Reg.HUB_REPAIR : Nat := 0x18
def Reg.HUB_REPAIR_SPARES : Fld := ⟨Reg.HUB_REPAIR, 0, 16, 0⟩
/-- MGT_STATUS (15, HUB). -/
def Reg.MGT_STATUS : Nat := 0x80000
def Reg.MGT_STATUS_STATE : Fld := ⟨Reg.MGT_STATUS, 0, 3, 0⟩
/-- MGT_FW_VERSION (15, HUB). -/
def Reg.MGT_FW_VERSION : Nat := 0x80008
def Reg.MGT_FW_VERSION_RUNNING : Fld := ⟨Reg.MGT_FW_VERSION, 0, 32, 0⟩
def Reg.MGT_FW_VERSION_STAGED : Fld := ⟨Reg.MGT_FW_VERSION, 32, 32, 0⟩
/-- MGT_EVENT (15, HUB). -/
def Reg.MGT_EVENT : Nat := 0x80010
def Reg.MGT_EVENT_LINK_DOWN : Fld := ⟨Reg.MGT_EVENT, 0, 1, 0⟩
def Reg.MGT_EVENT_FW_DONE : Fld := ⟨Reg.MGT_EVENT, 1, 1, 0⟩
def Reg.MGT_EVENT_DEFERRED : Fld := ⟨Reg.MGT_EVENT, 2, 1, 0⟩
def Reg.MGT_EVENT_REEVE_RESET : Fld := ⟨Reg.MGT_EVENT, 3, 1, 0⟩
def Reg.MGT_EVENT_STUCK : Fld := ⟨Reg.MGT_EVENT, 4, 1, 0⟩
def Reg.MGT_EVENT_MODULE_FATAL : Fld := ⟨Reg.MGT_EVENT, 5, 1, 0⟩
def Reg.MGT_EVENT_EMERG : Fld := ⟨Reg.MGT_EVENT, 6, 1, 0⟩
def Reg.MGT_EVENT_KEY_LOW : Fld := ⟨Reg.MGT_EVENT, 7, 1, 0⟩
/-- MGT_EVENT_EN (15, HUB). -/
def Reg.MGT_EVENT_EN : Nat := 0x80014
def Reg.MGT_EVENT_EN_EN : Fld := ⟨Reg.MGT_EVENT_EN, 0, 8, 0⟩
/-- MGT_FW_CMD (15, HUB). -/
def Reg.MGT_FW_CMD : Nat := 0x80020
def Reg.MGT_FW_CMD_CODE : Fld := ⟨Reg.MGT_FW_CMD, 0, 3, 0⟩
/-- MGT_FW_STATUS (15, HUB). -/
def Reg.MGT_FW_STATUS : Nat := 0x80024
def Reg.MGT_FW_STATUS_BUSY : Fld := ⟨Reg.MGT_FW_STATUS, 0, 1, 0⟩
def Reg.MGT_FW_STATUS_ARMED : Fld := ⟨Reg.MGT_FW_STATUS, 1, 1, 0⟩
def Reg.MGT_FW_STATUS_DEFERRED : Fld := ⟨Reg.MGT_FW_STATUS, 2, 1, 0⟩
def Reg.MGT_FW_STATUS_RESULT : Fld := ⟨Reg.MGT_FW_STATUS, 8, 8, 0⟩
def Reg.MGT_FW_STATUS_SVN_FLOOR : Fld := ⟨Reg.MGT_FW_STATUS, 16, 8, 0⟩
/-- MGT_FW_LEN (15, HUB). -/
def Reg.MGT_FW_LEN : Nat := 0x80028
def Reg.MGT_FW_LEN_LEN : Fld := ⟨Reg.MGT_FW_LEN, 0, 23, 0⟩
/-- MGT_FW_BANK (15, HUB). -/
def Reg.MGT_FW_BANK : Nat := 0x80030
def Reg.MGT_FW_BANK_ADDR : Fld := ⟨Reg.MGT_FW_BANK, 0, 48, 0⟩
/-- MGT_FW_BELL (15, HUB). -/
def Reg.MGT_FW_BELL : Nat := 0x80038
def Reg.MGT_FW_BELL_BELL : Fld := ⟨Reg.MGT_FW_BELL, 0, 64, 0⟩
/-- MGT_CFG_CMD (15, HUB). -/
def Reg.MGT_CFG_CMD : Nat := 0x80040
def Reg.MGT_CFG_CMD_CODE : Fld := ⟨Reg.MGT_CFG_CMD, 0, 2, 0⟩
def Reg.MGT_CFG_CMD_BUSY : Fld := ⟨Reg.MGT_CFG_CMD, 2, 1, 0⟩
def Reg.MGT_CFG_CMD_RESULT : Fld := ⟨Reg.MGT_CFG_CMD, 8, 8, 0⟩
/-- MGT_RESET (15, HUB). -/
def Reg.MGT_RESET : Nat := 0x80044
def Reg.MGT_RESET_CODE : Fld := ⟨Reg.MGT_RESET, 0, 2, 0⟩
def Reg.MGT_RESET_KEY : Fld := ⟨Reg.MGT_RESET, 16, 16, 0⟩
/-- MGT_WDOG (15, HUB). -/
def Reg.MGT_WDOG : Nat := 0x80048
def Reg.MGT_WDOG_TIMEOUT : Fld := ⟨Reg.MGT_WDOG, 0, 8, 100⟩
def Reg.MGT_WDOG_RESETS : Fld := ⟨Reg.MGT_WDOG, 8, 8, 0⟩
/-- MGT_LOG (15, HUB). -/
def Reg.MGT_LOG : Nat := 0x80050
def Reg.MGT_LOG_INDEX : Fld := ⟨Reg.MGT_LOG, 0, 32, 0⟩
def Reg.MGT_LOG_LOST : Fld := ⟨Reg.MGT_LOG, 32, 16, 0⟩
/-- MGT_LOG_BASE (15, HUB). -/
def Reg.MGT_LOG_BASE : Nat := 0x80058
def Reg.MGT_LOG_BASE_ADDR : Fld := ⟨Reg.MGT_LOG_BASE, 0, 48, 0⟩
/-- MGT_XMSS (15, HUB). -/
def Reg.MGT_XMSS : Nat := 0x80060
def Reg.MGT_XMSS_NEXT : Fld := ⟨Reg.MGT_XMSS, 0, 32, 0⟩
def Reg.MGT_XMSS_RESERVED_END : Fld := ⟨Reg.MGT_XMSS, 32, 32, 0⟩
/-- MGT_ATTEST (15, HUB). -/
def Reg.MGT_ATTEST : Nat := 0x80070
def Reg.MGT_ATTEST_GO : Fld := ⟨Reg.MGT_ATTEST, 0, 1, 0⟩
def Reg.MGT_ATTEST_BUSY : Fld := ⟨Reg.MGT_ATTEST, 1, 1, 0⟩
def Reg.MGT_ATTEST_RESULT : Fld := ⟨Reg.MGT_ATTEST, 8, 8, 0⟩
/-- MGT_ATTEST_ADDR (15, HUB). -/
def Reg.MGT_ATTEST_ADDR : Nat := 0x80078
def Reg.MGT_ATTEST_ADDR_ADDR : Fld := ⟨Reg.MGT_ATTEST_ADDR, 0, 48, 0⟩
/-- MGT_ATTEST_NONCE (15, HUB). -/
def Reg.MGT_ATTEST_NONCE : Nat := 0x80080
def Reg.MGT_ATTEST_NONCE_NONCE : Fld := ⟨Reg.MGT_ATTEST_NONCE, 0, 256, 0⟩
/-- MGT_PUBKEY (15, HUB). -/
def Reg.MGT_PUBKEY : Nat := 0x800c0
def Reg.MGT_PUBKEY_KEY : Fld := ⟨Reg.MGT_PUBKEY, 0, 544, 0⟩
/-- MGT_OPEN (15, HUB). -/
def Reg.MGT_OPEN (n : Nat) : Nat := 0x80200 + n * 0x20
def Reg.MGT_OPEN_BASE (n : Nat) : Fld := ⟨Reg.MGT_OPEN n, 0, 48, 0⟩
def Reg.MGT_OPEN_LEN (n : Nat) : Fld := ⟨Reg.MGT_OPEN n, 64, 48, 0⟩
def Reg.MGT_OPEN_PART (n : Nat) : Fld := ⟨Reg.MGT_OPEN n, 128, 6, 0⟩
def Reg.MGT_OPEN_EN (n : Nat) : Fld := ⟨Reg.MGT_OPEN n, 134, 1, 0⟩
/-- TST_STATUS (16, HUB). -/
def Reg.TST_STATUS : Nat := 0x1800000
def Reg.TST_STATUS_MODE : Fld := ⟨Reg.TST_STATUS, 0, 2, 0⟩
def Reg.TST_STATUS_PERT : Fld := ⟨Reg.TST_STATUS, 2, 1, 0⟩
def Reg.TST_STATUS_NONCE_VALID : Fld := ⟨Reg.TST_STATUS, 3, 1, 0⟩
/-- TST_UNLOCK (16, HUB). -/
def Reg.TST_UNLOCK : Nat := 0x1800004
def Reg.TST_UNLOCK_CODE : Fld := ⟨Reg.TST_UNLOCK, 0, 2, 0⟩
def Reg.TST_UNLOCK_BUSY : Fld := ⟨Reg.TST_UNLOCK, 2, 1, 0⟩
def Reg.TST_UNLOCK_RESULT : Fld := ⟨Reg.TST_UNLOCK, 8, 8, 0⟩
/-- TST_CTRL (16, HUB). -/
def Reg.TST_CTRL : Nat := 0x1800008
def Reg.TST_CTRL_ALL_OFF : Fld := ⟨Reg.TST_CTRL, 0, 1, 0⟩
/-- TST_SEED (16, HUB). -/
def Reg.TST_SEED : Nat := 0x180000c
def Reg.TST_SEED_SEED : Fld := ⟨Reg.TST_SEED, 0, 32, 1⟩
/-- TST_NONCE (16, HUB). -/
def Reg.TST_NONCE : Nat := 0x1800020
def Reg.TST_NONCE_NONCE : Fld := ⟨Reg.TST_NONCE, 0, 256, 0⟩
/-- TST_LOOP (16, HUB). -/
def Reg.TST_LOOP (i : Nat) : Nat := 0x1800100 + i * 0x8
def Reg.TST_LOOP_DEPTH (i : Nat) : Fld := ⟨Reg.TST_LOOP i, 0, 3, 0⟩
def Reg.TST_LOOP_EN (i : Nat) : Fld := ⟨Reg.TST_LOOP i, 3, 1, 0⟩
def Reg.TST_LOOP_PATTERN (i : Nat) : Fld := ⟨Reg.TST_LOOP i, 4, 2, 0⟩
def Reg.TST_LOOP_FUNC (i : Nat) : Fld := ⟨Reg.TST_LOOP i, 6, 7, 0⟩
def Reg.TST_LOOP_LIMIT (i : Nat) : Fld := ⟨Reg.TST_LOOP i, 16, 8, 0⟩
def Reg.TST_LOOP_ACTIVE (i : Nat) : Fld := ⟨Reg.TST_LOOP i, 24, 1, 0⟩
def Reg.TST_LOOP_ERRORS (i : Nat) : Fld := ⟨Reg.TST_LOOP i, 32, 32, 0⟩
/-- TST_DELAY (16, HUB). -/
def Reg.TST_DELAY (k : Nat) : Nat := 0x1800400 + k * 0x8
def Reg.TST_DELAY_POINT (k : Nat) : Fld := ⟨Reg.TST_DELAY k, 0, 3, 0⟩
def Reg.TST_DELAY_UNIT (k : Nat) : Fld := ⟨Reg.TST_DELAY k, 3, 5, 0⟩
def Reg.TST_DELAY_PROB (k : Nat) : Fld := ⟨Reg.TST_DELAY k, 8, 8, 0⟩
def Reg.TST_DELAY_CLOCKS (k : Nat) : Fld := ⟨Reg.TST_DELAY k, 16, 16, 0⟩
def Reg.TST_DELAY_EN (k : Nat) : Fld := ⟨Reg.TST_DELAY k, 32, 1, 0⟩
/-- TST_BP (16, HUB). -/
def Reg.TST_BP (k : Nat) : Nat := 0x1800440 + k * 0x8
def Reg.TST_BP_POINT (k : Nat) : Fld := ⟨Reg.TST_BP k, 0, 2, 0⟩
def Reg.TST_BP_UNIT (k : Nat) : Fld := ⟨Reg.TST_BP k, 2, 6, 0⟩
def Reg.TST_BP_ON (k : Nat) : Fld := ⟨Reg.TST_BP k, 8, 8, 0⟩
def Reg.TST_BP_PERIOD (k : Nat) : Fld := ⟨Reg.TST_BP k, 16, 8, 0⟩
def Reg.TST_BP_EN (k : Nat) : Fld := ⟨Reg.TST_BP k, 24, 1, 0⟩
/-- TST_JITTER (16, HUB). -/
def Reg.TST_JITTER : Nat := 0x1800480
def Reg.TST_JITTER_J : Fld := ⟨Reg.TST_JITTER, 0, 4, 0⟩
def Reg.TST_JITTER_EN : Fld := ⟨Reg.TST_JITTER, 4, 1, 0⟩
/-- TST_LATE (16, HUB). -/
def Reg.TST_LATE : Nat := 0x1800500
def Reg.TST_LATE_ENGINE : Fld := ⟨Reg.TST_LATE, 0, 4, 0⟩
def Reg.TST_LATE_COUNT : Fld := ⟨Reg.TST_LATE, 4, 8, 0⟩
def Reg.TST_LATE_BACKLOG : Fld := ⟨Reg.TST_LATE, 12, 20, 0⟩
def Reg.TST_LATE_ARM : Fld := ⟨Reg.TST_LATE, 32, 1, 0⟩
def Reg.TST_LATE_ARMED : Fld := ⟨Reg.TST_LATE, 33, 1, 0⟩
/-- TST_LATE_BELL (16, HUB). -/
def Reg.TST_LATE_BELL : Nat := 0x1800508
def Reg.TST_LATE_BELL_BELL : Fld := ⟨Reg.TST_LATE_BELL, 0, 64, 0⟩
/-- TST_INJECT (16, HUB). -/
def Reg.TST_INJECT : Nat := 0x1800600
def Reg.TST_INJECT_CODE : Fld := ⟨Reg.TST_INJECT, 0, 8, 0⟩
def Reg.TST_INJECT_UNIT : Fld := ⟨Reg.TST_INJECT, 8, 5, 0⟩
def Reg.TST_INJECT_ENGINE : Fld := ⟨Reg.TST_INJECT, 13, 4, 0⟩
def Reg.TST_INJECT_DIE : Fld := ⟨Reg.TST_INJECT, 17, 1, 0⟩
def Reg.TST_INJECT_ARM : Fld := ⟨Reg.TST_INJECT, 18, 1, 0⟩
def Reg.TST_INJECT_CANCEL : Fld := ⟨Reg.TST_INJECT, 19, 1, 0⟩
def Reg.TST_INJECT_ARMED : Fld := ⟨Reg.TST_INJECT, 20, 1, 0⟩
def Reg.TST_INJECT_RESULT : Fld := ⟨Reg.TST_INJECT, 24, 8, 0⟩
/-- TST_INJECT_BELL (16, HUB). -/
def Reg.TST_INJECT_BELL : Nat := 0x1800608
def Reg.TST_INJECT_BELL_BELL : Fld := ⟨Reg.TST_INJECT_BELL, 0, 64, 0⟩
/-- TST_INJECT_ADDR (16, HUB). -/
def Reg.TST_INJECT_ADDR : Nat := 0x1800610
def Reg.TST_INJECT_ADDR_ADDR : Fld := ⟨Reg.TST_INJECT_ADDR, 0, 48, 0⟩
/-- TST_BIST (16, HUB). -/
def Reg.TST_BIST : Nat := 0x1800700
def Reg.TST_BIST_CODE : Fld := ⟨Reg.TST_BIST, 0, 3, 0⟩
def Reg.TST_BIST_UNIT : Fld := ⟨Reg.TST_BIST, 3, 4, 0⟩
def Reg.TST_BIST_DIE : Fld := ⟨Reg.TST_BIST, 7, 1, 0⟩
def Reg.TST_BIST_START : Fld := ⟨Reg.TST_BIST, 8, 1, 0⟩
def Reg.TST_BIST_BUSY : Fld := ⟨Reg.TST_BIST, 9, 1, 0⟩
def Reg.TST_BIST_RESULT : Fld := ⟨Reg.TST_BIST, 16, 8, 0⟩
/-- HUB_PAD (17, AUX). -/
def Reg.HUB_PAD : Nat := 0x100
def Reg.HUB_PAD_CMOS_SLEW : Fld := ⟨Reg.HUB_PAD, 0, 2, 1⟩
def Reg.HUB_PAD_LVDS_EDGE : Fld := ⟨Reg.HUB_PAD, 2, 2, 1⟩
/-- HUB_SSC (17, AUX). -/
def Reg.HUB_SSC : Nat := 0x104
def Reg.HUB_SSC_ENG : Fld := ⟨Reg.HUB_SSC, 0, 2, 0⟩
def Reg.HUB_SSC_HUB : Fld := ⟨Reg.HUB_SSC, 2, 2, 0⟩
def Reg.HUB_SSC_MREF : Fld := ⟨Reg.HUB_SSC, 4, 1, 0⟩
/-- HUB_FILTER (17, AUX). -/
def Reg.HUB_FILTER : Nat := 0x108
def Reg.HUB_FILTER_WAKE : Fld := ⟨Reg.HUB_FILTER, 0, 8, 10⟩
def Reg.HUB_FILTER_ALERT : Fld := ⟨Reg.HUB_FILTER, 8, 4, 2⟩
def Reg.HUB_FILTER_PERST : Fld := ⟨Reg.HUB_FILTER, 12, 8, 10⟩

/-- Rows of `regTable`, part 0. -/
def regRows0 : List RegRow := [
  { name := "BELL_CTRL", base := 0xc0000, dims := [], bits := 32, dom := .hub, fields := [⟨"EN", 0, 1, .rw, fun _ => 0, 0, 2 ^ 1 - 1⟩,
      ⟨"SOURCE", 1, 2, .rw, fun _ => 0, 0, 2 ^ 2 - 1⟩,
      ⟨"ROLE", 3, 2, .rw, fun _ => 0, 0, 2⟩,
      ⟨"OUT_EN", 5, 1, .rw, fun _ => 0, 0, 2 ^ 1 - 1⟩,
      ⟨"REPORT_EN", 6, 1, .rw, fun _ => 1, 0, 2 ^ 1 - 1⟩,
      ⟨"TAG", 8, 8, .rw, fun _ => 0, 0, 2 ^ 8 - 1⟩] },
  { name := "BELL_PERIOD", base := 0xc0004, dims := [], bits := 32, dom := .hub, fields := [⟨"PERIOD", 0, 10, .rw, fun _ => 64, 16, 512⟩,
      ⟨"CURRENT", 16, 10, .ro, fun _ => 64, 0, 2 ^ 10 - 1⟩] },
  { name := "BELL_PACE", base := 0xc0008, dims := [], bits := 32, dom := .hub, fields := [⟨"NOMINAL", 0, 7, .rw, fun _ => 64, 16, 72⟩,
      ⟨"CURRENT", 8, 7, .ro, fun _ => 64, 0, 2 ^ 7 - 1⟩,
      ⟨"ATTAINABLE", 16, 7, .ro, fun _ => 64, 0, 2 ^ 7 - 1⟩] },
  { name := "BELL_LIMITS", base := 0xc000c, dims := [], bits := 32, dom := .hub, fields := [⟨"STRETCH_MAX", 0, 6, .rw, fun _ => 32, 0, 2 ^ 6 - 1⟩,
      ⟨"RECOVER", 8, 8, .rw, fun _ => 64, 1, 255⟩,
      ⟨"LATE_LIMIT", 16, 8, .rw, fun _ => 16, 1, 255⟩] },
  { name := "BELL_COUNT", base := 0xc0010, dims := [], bits := 64, dom := .hub, fields := [⟨"COUNT", 0, 64, .rw, fun _ => 0, 0, 2 ^ 64 - 1⟩] },
  { name := "BELL_COMMIT", base := 0xc0018, dims := [], bits := 64, dom := .hub, fields := [⟨"NEXT", 0, 64, .ro, fun _ => 0, 0, 2 ^ 64 - 1⟩] },
  { name := "BELL_ALIGN", base := 0xc0020, dims := [], bits := 32, dom := .hub, fields := [⟨"PHASE", 0, 16, .ro, fun _ => 0, 0, 2 ^ 16 - 1⟩,
      ⟨"DELAY", 16, 16, .rw, fun _ => 0, 0, 2 ^ 16 - 1⟩] },
  { name := "BELL_HOLD", base := 0xc0024, dims := [], bits := 32, dom := .hub, fields := [⟨"HOLD_LIMIT", 0, 16, .rw, fun _ => 2048, 0, 2 ^ 16 - 1⟩] },
  { name := "BELL_STATUS", base := 0xc0028, dims := [], bits := 32, dom := .hub, fields := [⟨"LOCKED", 0, 1, .ro, fun _ => 0, 0, 2 ^ 1 - 1⟩,
      ⟨"HOLDOVER", 1, 1, .ro, fun _ => 0, 0, 2 ^ 1 - 1⟩,
      ⟨"UNALIGNED", 2, 1, .ro, fun _ => 0, 0, 2 ^ 1 - 1⟩,
      ⟨"MASTER_ACTIVE", 3, 1, .ro, fun _ => 0, 0, 2 ^ 1 - 1⟩,
      ⟨"EPOCH", 8, 8, .ro, fun _ => 0, 0, 2 ^ 8 - 1⟩] },
  { name := "BELL_COORD", base := 0xc002c, dims := [], bits := 32, dom := .hub, fields := [⟨"X", 0, 6, .rw, fun _ => 0, 0, 2 ^ 6 - 1⟩,
      ⟨"Y", 8, 6, .rw, fun _ => 0, 0, 2 ^ 6 - 1⟩,
      ⟨"Z", 16, 4, .rw, fun _ => 0, 0, 2 ^ 4 - 1⟩] },
  { name := "BELL_MASTER", base := 0xc0030, dims := [], bits := 32, dom := .hub, fields := [⟨"X", 0, 6, .ro, fun _ => 0, 0, 2 ^ 6 - 1⟩,
      ⟨"Y", 8, 6, .ro, fun _ => 0, 0, 2 ^ 6 - 1⟩,
      ⟨"Z", 16, 4, .ro, fun _ => 0, 0, 2 ^ 4 - 1⟩] },
  { name := "BELL_LATE", base := 0xc0034, dims := [], bits := 32, dom := .hub, fields := [⟨"ME", 0, 1, .w1c, fun _ => 0, 0, 2 ^ 1 - 1⟩,
      ⟨"CPY", 1, 1, .w1c, fun _ => 0, 0, 2 ^ 1 - 1⟩,
      ⟨"TC", 2, 1, .w1c, fun _ => 0, 0, 2 ^ 1 - 1⟩,
      ⟨"CKP", 3, 1, .w1c, fun _ => 0, 0, 2 ^ 1 - 1⟩,
      ⟨"PWR", 4, 1, .w1c, fun _ => 0, 0, 2 ^ 1 - 1⟩,
      ⟨"FORCED", 5, 1, .w1c, fun _ => 0, 0, 2 ^ 1 - 1⟩] }]

/-- Rows of `regTable`, part 1. -/
def regRows1 : List RegRow := [
  { name := "BELL_LATE_COUNT", base := 0xc0038, dims := [], bits := 32, dom := .hub, fields := [⟨"COUNT", 0, 32, .ro, fun _ => 0, 0, 2 ^ 32 - 1⟩] },
  { name := "BELL_EVENT", base := 0xc003c, dims := [], bits := 32, dom := .hub, fields := [⟨"SOURCE_LOST", 0, 1, .w1c, fun _ => 0, 0, 2 ^ 1 - 1⟩,
      ⟨"HOLDOVER_LIMIT", 1, 1, .w1c, fun _ => 0, 0, 2 ^ 1 - 1⟩,
      ⟨"HANDOVER", 2, 1, .w1c, fun _ => 0, 0, 2 ^ 1 - 1⟩,
      ⟨"COUNT_BACK", 3, 1, .w1c, fun _ => 0, 0, 2 ^ 1 - 1⟩,
      ⟨"MISSED_TARGET", 4, 1, .w1c, fun _ => 0, 0, 2 ^ 1 - 1⟩,
      ⟨"LATE_LIMIT", 5, 1, .w1c, fun _ => 0, 0, 2 ^ 1 - 1⟩,
      ⟨"REPORT_MISSING", 6, 1, .w1c, fun _ => 0, 0, 2 ^ 1 - 1⟩,
      ⟨"BAD_PARAM", 7, 1, .w1c, fun _ => 0, 0, 2 ^ 1 - 1⟩,
      ⟨"PACE_CHANGE", 8, 1, .w1c, fun _ => 0, 0, 2 ^ 1 - 1⟩,
      ⟨"DELAY_RANGE", 9, 1, .w1c, fun _ => 0, 0, 2 ^ 1 - 1⟩] },
  { name := "BELL_EVENT_EN", base := 0xc0040, dims := [], bits := 32, dom := .hub, fields := [⟨"EN", 0, 10, .rw, fun _ => 0, 0, 2 ^ 10 - 1⟩] },
  { name := "ME_SLOT_STATUS", base := 0x800000, dims := [(2, 0x400000), (9, 0x40000)], bits := 32, dom := .eng, fields := [⟨"STATE", 0, 2, .ro, fun _ => 3, 0, 2 ^ 2 - 1⟩,
      ⟨"LOGICAL", 4, 4, .ro, fun _ => 15, 0, 2 ^ 4 - 1⟩,
      ⟨"BUSY", 8, 1, .ro, fun _ => 0, 0, 2 ^ 1 - 1⟩,
      ⟨"DRAIN_BUSY", 9, 1, .ro, fun _ => 0, 0, 2 ^ 1 - 1⟩,
      ⟨"CHAIN_OPEN", 10, 1, .ro, fun _ => 0, 0, 2 ^ 1 - 1⟩,
      ⟨"QDEPTH", 16, 7, .ro, fun _ => 0, 0, 2 ^ 7 - 1⟩,
      ⟨"PART", 24, 6, .ro, fun _ => 0, 0, 2 ^ 6 - 1⟩] },
  { name := "ME_ERR", base := 0x800004, dims := [(2, 0x400000), (9, 0x40000)], bits := 32, dom := .eng, fields := [⟨"OPERAND_PARITY", 0, 1, .w1c, fun _ => 0, 0, 2 ^ 1 - 1⟩,
      ⟨"SCALE_PARITY", 1, 1, .w1c, fun _ => 0, 0, 2 ^ 1 - 1⟩,
      ⟨"ARRAY_CHECK", 2, 1, .w1c, fun _ => 0, 0, 2 ^ 1 - 1⟩,
      ⟨"ACC_PARITY", 3, 1, .w1c, fun _ => 0, 0, 2 ^ 1 - 1⟩,
      ⟨"DRAIN_CHECK", 4, 1, .w1c, fun _ => 0, 0, 2 ^ 1 - 1⟩,
      ⟨"REJECT", 5, 1, .w1c, fun _ => 0, 0, 2 ^ 1 - 1⟩,
      ⟨"CHAIN_BROKEN", 6, 1, .w1c, fun _ => 0, 0, 2 ^ 1 - 1⟩,
      ⟨"FORMAT", 7, 1, .w1c, fun _ => 0, 0, 2 ^ 1 - 1⟩,
      ⟨"MISSED_TARGET", 8, 1, .w1c, fun _ => 0, 0, 2 ^ 1 - 1⟩,
      ⟨"LATE", 9, 1, .w1c, fun _ => 0, 0, 2 ^ 1 - 1⟩] },
  { name := "ME_ERR_EN", base := 0x800008, dims := [(2, 0x400000), (9, 0x40000)], bits := 32, dom := .eng, fields := [⟨"EN", 0, 10, .rw, fun _ => 0, 0, 2 ^ 10 - 1⟩] },
  { name := "ME_REJECT_INFO", base := 0x80000c, dims := [(2, 0x400000), (9, 0x40000)], bits := 32, dom := .eng, fields := [⟨"CODE", 0, 8, .ro, fun _ => 0, 0, 2 ^ 8 - 1⟩,
      ⟨"PART", 8, 6, .ro, fun _ => 0, 0, 2 ^ 6 - 1⟩,
      ⟨"USER", 16, 16, .ro, fun _ => 0, 0, 2 ^ 16 - 1⟩] },
  { name := "ME_MOP_COUNT", base := 0x800010, dims := [(2, 0x400000), (9, 0x40000)], bits := 64, dom := .eng, fields := [⟨"COUNT", 0, 64, .ro, fun _ => 0, 0, 2 ^ 64 - 1⟩] },
  { name := "ME_STEP_CLOCKS", base := 0x800018, dims := [(2, 0x400000), (9, 0x40000)], bits := 64, dom := .eng, fields := [⟨"COUNT", 0, 64, .ro, fun _ => 0, 0, 2 ^ 64 - 1⟩] },
  { name := "ME_SKIP_UNITS", base := 0x800020, dims := [(2, 0x400000), (9, 0x40000)], bits := 64, dom := .eng, fields := [⟨"COUNT", 0, 64, .ro, fun _ => 0, 0, 2 ^ 64 - 1⟩] },
  { name := "ME_RAMPS", base := 0x800028, dims := [(2, 0x400000), (9, 0x40000)], bits := 32, dom := .eng, fields := [⟨"COUNT", 0, 32, .ro, fun _ => 0, 0, 2 ^ 32 - 1⟩] },
  { name := "ME_LATE_BELL", base := 0x80002c, dims := [(2, 0x400000), (9, 0x40000)], bits := 32, dom := .eng, fields := [⟨"BELL", 0, 32, .ro, fun _ => 0, 0, 2 ^ 32 - 1⟩] }]

/-- Rows of `regTable`, part 2. -/
def regRows2 : List RegRow := [
  { name := "ME_MAP", base := 0xb00000, dims := [(2, 0x400000)], bits := 32, dom := .eng, fields := [⟨"L0", 0, 4, .rw, fun _ => 0, 0, 2 ^ 4 - 1⟩,
      ⟨"L1", 4, 4, .rw, fun _ => 1, 0, 2 ^ 4 - 1⟩,
      ⟨"L2", 8, 4, .rw, fun _ => 2, 0, 2 ^ 4 - 1⟩,
      ⟨"L3", 12, 4, .rw, fun _ => 3, 0, 2 ^ 4 - 1⟩,
      ⟨"L4", 16, 4, .rw, fun _ => 4, 0, 2 ^ 4 - 1⟩,
      ⟨"L5", 20, 4, .rw, fun _ => 5, 0, 2 ^ 4 - 1⟩,
      ⟨"L6", 24, 4, .rw, fun _ => 6, 0, 2 ^ 4 - 1⟩,
      ⟨"L7", 28, 4, .rw, fun _ => 7, 0, 2 ^ 4 - 1⟩] },
  { name := "ME_DIE_CTRL", base := 0xb00004, dims := [(2, 0x400000)], bits := 32, dom := .eng, fields := [⟨"MAP_LOCK", 0, 1, .rw, fun _ => 0, 0, 2 ^ 1 - 1⟩] },
  { name := "ME_DIE_STATUS", base := 0xb00008, dims := [(2, 0x400000)], bits := 32, dom := .eng, fields := [⟨"SPARE_SLOT", 0, 4, .ro, fun _ => 8, 0, 2 ^ 4 - 1⟩,
      ⟨"SPARE_AVAIL", 4, 1, .ro, fun _ => 0, 0, 2 ^ 1 - 1⟩,
      ⟨"SHARE_OVER", 5, 1, .w1c, fun _ => 0, 0, 2 ^ 1 - 1⟩,
      ⟨"FAILED", 8, 9, .ro, fun _ => 0, 0, 2 ^ 9 - 1⟩] },
  { name := "ME_LOG_CTRL", base := 0xb00100, dims := [(2, 0x400000), (8, 0x4)], bits := 32, dom := .eng, fields := [⟨"STAGGER", 0, 7, .rw, fun _ => 0, 0, 64⟩,
      ⟨"RAMP_EN", 7, 1, .rw, fun _ => 1, 0, 2 ^ 1 - 1⟩,
      ⟨"RAMP_IDLE", 8, 12, .rw, fun _ => 64, 1, 4095⟩,
      ⟨"LEND", 20, 1, .rw, fun _ => 0, 0, 2 ^ 1 - 1⟩] },
  { name := "ME_LOG_STATUS", base := 0xb00200, dims := [(2, 0x400000), (8, 0x4)], bits := 32, dom := .eng, fields := [⟨"SHARE_SUM", 0, 7, .ro, fun _ => 0, 0, 2 ^ 7 - 1⟩,
      ⟨"LAST_PART", 8, 6, .ro, fun _ => 0, 0, 2 ^ 6 - 1⟩] },
  { name := "ME_SHARE", base := 0xb01000, dims := [(2, 0x400000), (8, 0x100), (64, 0x4)], bits := 32, dom := .eng, fields := [⟨"SHARE", 0, 7, .rw, fun _ => 0, 0, 64⟩] },
  { name := "TC_CTRL", base := 0x810000, dims := [(2, 0x400000), (9, 0x40000), (4, 0x4000)], bits := 32, dom := .eng, fields := [⟨"START", 0, 4, .wo, fun _ => 0, 0, 2 ^ 4 - 1⟩,
      ⟨"STOP", 4, 4, .wo, fun _ => 0, 0, 2 ^ 4 - 1⟩] },
  { name := "TC_STATUS", base := 0x810004, dims := [(2, 0x400000), (9, 0x40000), (4, 0x4000)], bits := 32, dom := .eng, fields := [⟨"RUNNING", 0, 4, .ro, fun _ => 0, 0, 2 ^ 4 - 1⟩,
      ⟨"WAITING", 4, 4, .ro, fun _ => 0, 0, 2 ^ 4 - 1⟩,
      ⟨"LATE", 8, 4, .ro, fun _ => 0, 0, 2 ^ 4 - 1⟩,
      ⟨"DOUBLE", 12, 4, .w1c, fun _ => 0, 0, 2 ^ 4 - 1⟩,
      ⟨"MEM_ERR", 16, 4, .w1c, fun _ => 0, 0, 2 ^ 4 - 1⟩] },
  { name := "TC_CTX_BIND", base := 0x810010, dims := [(2, 0x400000), (9, 0x40000), (4, 0x4000), (4, 0x10)], bits := 32, dom := .eng, fields := [⟨"PART", 0, 6, .rw, fun _ => 0, 0, 2 ^ 6 - 1⟩,
      ⟨"LEVEL", 6, 1, .rw, fun _ => 0, 0, 2 ^ 1 - 1⟩,
      ⟨"EN", 7, 1, .rw, fun _ => 0, 0, 2 ^ 1 - 1⟩,
      ⟨"BASE", 8, 6, .rw, fun _ => 0, 0, 2 ^ 6 - 1⟩,
      ⟨"SIZE", 16, 6, .rw, fun _ => 0, 0, 2 ^ 6 - 1⟩] },
  { name := "TC_CTX_PC", base := 0x810014, dims := [(2, 0x400000), (9, 0x40000), (4, 0x4000), (4, 0x10)], bits := 32, dom := .eng, fields := [⟨"START_PC", 2, 16, .rw, fun _ => 0, 0, 2 ^ 16 - 1⟩] },
  { name := "TC_CTX_EXC", base := 0x810018, dims := [(2, 0x400000), (9, 0x40000), (4, 0x4000), (4, 0x10)], bits := 32, dom := .eng, fields := [⟨"CAUSE", 0, 8, .ro, fun _ => 0, 0, 2 ^ 8 - 1⟩,
      ⟨"DOUBLE", 8, 1, .ro, fun _ => 0, 0, 2 ^ 1 - 1⟩,
      ⟨"PC", 10, 18, .ro, fun _ => 0, 0, 2 ^ 18 - 1⟩] },
  { name := "TC_CTX_BELL", base := 0x81001c, dims := [(2, 0x400000), (9, 0x40000), (4, 0x4000), (4, 0x10)], bits := 32, dom := .eng, fields := [⟨"PB", 0, 32, .ro, fun _ => 0, 0, 2 ^ 32 - 1⟩] }]

/-- Rows of `regTable`, part 3. -/
def regRows3 : List RegRow := [
  { name := "MEM_ERR", base := 0x700000, dims := [], bits := 32, dom := .mem, fields := [⟨"CORRECTED", 0, 1, .w1c, fun _ => 0, 0, 2 ^ 1 - 1⟩,
      ⟨"UNCORRECTABLE", 1, 1, .w1c, fun _ => 0, 0, 2 ^ 1 - 1⟩,
      ⟨"LOST_READ", 2, 1, .w1c, fun _ => 0, 0, 2 ^ 1 - 1⟩,
      ⟨"TRAIN_FAIL", 3, 1, .w1c, fun _ => 0, 0, 2 ^ 1 - 1⟩,
      ⟨"PROMOTE_DONE", 4, 1, .w1c, fun _ => 0, 0, 2 ^ 1 - 1⟩,
      ⟨"NO_STANDBY", 5, 1, .w1c, fun _ => 0, 0, 2 ^ 1 - 1⟩,
      ⟨"ILK_HELD", 6, 1, .w1c, fun _ => 0, 0, 2 ^ 1 - 1⟩] },
  { name := "MEM_ERR_EN", base := 0x700004, dims := [], bits := 32, dom := .mem, fields := [⟨"EN", 0, 7, .rw, fun _ => 0, 0, 2 ^ 7 - 1⟩] },
  { name := "MEM_ERR_ADDR", base := 0x700008, dims := [], bits := 64, dom := .mem, fields := [⟨"ADDR", 0, 48, .ro, fun _ => 0, 0, 2 ^ 48 - 1⟩,
      ⟨"PD", 48, 5, .ro, fun _ => 0, 0, 2 ^ 5 - 1⟩] },
  { name := "MEM_CE_LIMIT", base := 0x700010, dims := [], bits := 32, dom := .mem, fields := [⟨"LIMIT", 0, 16, .rw, fun _ => 4096, 0, 2 ^ 16 - 1⟩] },
  { name := "MEM_PROMOTE", base := 0x700014, dims := [], bits := 32, dom := .mem, fields := [⟨"PD", 0, 5, .rw, fun _ => 0, 0, 23⟩,
      ⟨"START", 5, 1, .wo, fun _ => 0, 0, 2 ^ 1 - 1⟩,
      ⟨"ABORT", 6, 1, .wo, fun _ => 0, 0, 2 ^ 1 - 1⟩,
      ⟨"RATE", 8, 8, .rw, fun _ => 16, 1, 64⟩,
      ⟨"BUSY", 16, 1, .ro, fun _ => 0, 0, 2 ^ 1 - 1⟩] },
  { name := "MEM_SCRUB", base := 0x700018, dims := [], bits := 32, dom := .mem, fields := [⟨"PERIOD", 0, 8, .rw, fun _ => 8, 1, 255⟩,
      ⟨"EN", 8, 1, .rw, fun _ => 1, 0, 2 ^ 1 - 1⟩] },
  { name := "MEM_DEV", base := 0x700100, dims := [(26, 0x4)], bits := 32, dom := .mem, fields := [⟨"ROLE", 0, 2, .ro, fun j => (if (j.getD 0 0) < 24 then 0 else 1), 0, 2 ^ 2 - 1⟩,
      ⟨"LD", 2, 5, .ro, fun j => (if (j.getD 0 0) < 24 then (j.getD 0 0) else 31), 0, 2 ^ 5 - 1⟩,
      ⟨"LOST", 7, 1, .ro, fun _ => 0, 0, 2 ^ 1 - 1⟩,
      ⟨"CE_COUNT", 16, 16, .ro, fun _ => 0, 0, 2 ^ 16 - 1⟩] },
  { name := "MEM_ILK_BASE", base := 0x700200, dims := [(4, 0x20)], bits := 64, dom := .mem, fields := [⟨"BASE", 16, 32, .rw, fun _ => 0, 0, 2 ^ 32 - 1⟩] },
  { name := "MEM_ILK_CTRL", base := 0x700208, dims := [(4, 0x20)], bits := 32, dom := .mem, fields := [⟨"CHUNKS", 0, 21, .rw, fun _ => 0, 1, 1179648⟩,
      ⟨"EN", 31, 1, .ro, fun _ => 0, 0, 2 ^ 1 - 1⟩] },
  { name := "MEM_ILK_STATUS", base := 0x700210, dims := [(4, 0x20)], bits := 64, dom := .mem, fields := [⟨"REACHED", 0, 21, .ro, fun _ => 0, 0, 2 ^ 21 - 1⟩,
      ⟨"HELD", 32, 16, .ro, fun _ => 0, 0, 2 ^ 16 - 1⟩,
      ⟨"HELD_US", 48, 16, .ro, fun _ => 0, 0, 2 ^ 16 - 1⟩] },
  { name := "CPY_STATUS", base := 0x820000, dims := [(2, 0x400000), (9, 0x40000)], bits := 32, dom := .eng, fields := [⟨"QDEPTH", 0, 8, .ro, fun _ => 0, 0, 2 ^ 8 - 1⟩,
      ⟨"INFLIGHT", 8, 4, .ro, fun _ => 0, 0, 2 ^ 4 - 1⟩,
      ⟨"LOG", 12, 12, .ro, fun _ => 0, 0, 2 ^ 12 - 1⟩,
      ⟨"HELD", 24, 1, .ro, fun _ => 0, 0, 2 ^ 1 - 1⟩] },
  { name := "CPY_STATUS", base := 0x20000, dims := [(4, 0x1000)], bits := 32, dom := .hub, fields := [⟨"QDEPTH", 0, 8, .ro, fun _ => 0, 0, 2 ^ 8 - 1⟩,
      ⟨"INFLIGHT", 8, 4, .ro, fun _ => 0, 0, 2 ^ 4 - 1⟩,
      ⟨"LOG", 12, 12, .ro, fun _ => 0, 0, 2 ^ 12 - 1⟩,
      ⟨"HELD", 24, 1, .ro, fun _ => 0, 0, 2 ^ 1 - 1⟩] }]

/-- Rows of `regTable`, part 4. -/
def regRows4 : List RegRow := [
  { name := "CPY_ERR", base := 0x820004, dims := [(2, 0x400000), (9, 0x40000)], bits := 32, dom := .eng, fields := [⟨"REJECT", 0, 1, .w1c, fun _ => 0, 0, 2 ^ 1 - 1⟩,
      ⟨"MEM_ERR", 1, 1, .w1c, fun _ => 0, 0, 2 ^ 1 - 1⟩,
      ⟨"REMOTE_ERR", 2, 1, .w1c, fun _ => 0, 0, 2 ^ 1 - 1⟩,
      ⟨"MISSED_TARGET", 3, 1, .w1c, fun _ => 0, 0, 2 ^ 1 - 1⟩,
      ⟨"LATE", 4, 1, .w1c, fun _ => 0, 0, 2 ^ 1 - 1⟩,
      ⟨"LOG_FULL", 5, 1, .w1c, fun _ => 0, 0, 2 ^ 1 - 1⟩] },
  { name := "CPY_ERR", base := 0x20004, dims := [(4, 0x1000)], bits := 32, dom := .hub, fields := [⟨"REJECT", 0, 1, .w1c, fun _ => 0, 0, 2 ^ 1 - 1⟩,
      ⟨"MEM_ERR", 1, 1, .w1c, fun _ => 0, 0, 2 ^ 1 - 1⟩,
      ⟨"REMOTE_ERR", 2, 1, .w1c, fun _ => 0, 0, 2 ^ 1 - 1⟩,
      ⟨"MISSED_TARGET", 3, 1, .w1c, fun _ => 0, 0, 2 ^ 1 - 1⟩,
      ⟨"LATE", 4, 1, .w1c, fun _ => 0, 0, 2 ^ 1 - 1⟩,
      ⟨"LOG_FULL", 5, 1, .w1c, fun _ => 0, 0, 2 ^ 1 - 1⟩] },
  { name := "CPY_ERR_EN", base := 0x820008, dims := [(2, 0x400000), (9, 0x40000)], bits := 32, dom := .eng, fields := [⟨"EN", 0, 6, .rw, fun _ => 0, 0, 2 ^ 6 - 1⟩] },
  { name := "CPY_ERR_EN", base := 0x20008, dims := [(4, 0x1000)], bits := 32, dom := .hub, fields := [⟨"EN", 0, 6, .rw, fun _ => 0, 0, 2 ^ 6 - 1⟩] },
  { name := "CPY_ERR_INFO", base := 0x82000c, dims := [(2, 0x400000), (9, 0x40000)], bits := 32, dom := .eng, fields := [⟨"CODE", 0, 8, .ro, fun _ => 0, 0, 2 ^ 8 - 1⟩,
      ⟨"PART", 8, 6, .ro, fun _ => 0, 0, 2 ^ 6 - 1⟩,
      ⟨"USER", 16, 16, .ro, fun _ => 0, 0, 2 ^ 16 - 1⟩] },
  { name := "CPY_ERR_INFO", base := 0x2000c, dims := [(4, 0x1000)], bits := 32, dom := .hub, fields := [⟨"CODE", 0, 8, .ro, fun _ => 0, 0, 2 ^ 8 - 1⟩,
      ⟨"PART", 8, 6, .ro, fun _ => 0, 0, 2 ^ 6 - 1⟩,
      ⟨"USER", 16, 16, .ro, fun _ => 0, 0, 2 ^ 16 - 1⟩] },
  { name := "CPY_BYTES", base := 0x820010, dims := [(2, 0x400000), (9, 0x40000)], bits := 64, dom := .eng, fields := [⟨"COUNT", 0, 64, .ro, fun _ => 0, 0, 2 ^ 64 - 1⟩] },
  { name := "CPY_BYTES", base := 0x20010, dims := [(4, 0x1000)], bits := 64, dom := .hub, fields := [⟨"COUNT", 0, 64, .ro, fun _ => 0, 0, 2 ^ 64 - 1⟩] },
  { name := "CPY_LATE_BELL", base := 0x820018, dims := [(2, 0x400000), (9, 0x40000)], bits := 32, dom := .eng, fields := [⟨"BELL", 0, 32, .ro, fun _ => 0, 0, 2 ^ 32 - 1⟩] },
  { name := "CPY_LATE_BELL", base := 0x20018, dims := [(4, 0x1000)], bits := 32, dom := .hub, fields := [⟨"BELL", 0, 32, .ro, fun _ => 0, 0, 2 ^ 32 - 1⟩] },
  { name := "DPORT_ADDR", base := 0x1000000, dims := [(2, 0x10000)], bits := 64, dom := .hub, fields := [⟨"ADDR", 2, 46, .rw, fun _ => 0, 0, 2 ^ 46 - 1⟩] },
  { name := "DPORT_CTRL", base := 0x1000008, dims := [(2, 0x10000)], bits := 32, dom := .hub, fields := [⟨"EN", 0, 1, .rw, fun _ => 0, 0, 2 ^ 1 - 1⟩,
      ⟨"PREFETCH", 1, 1, .rw, fun _ => 0, 0, 2 ^ 1 - 1⟩,
      ⟨"FLUSH", 2, 1, .wo, fun _ => 0, 0, 2 ^ 1 - 1⟩] }]

/-- Rows of `regTable`, part 5. -/
def regRows5 : List RegRow := [
  { name := "DPORT_STATUS", base := 0x100000c, dims := [(2, 0x10000)], bits := 32, dom := .hub, fields := [⟨"BUSY", 0, 1, .ro, fun _ => 0, 0, 2 ^ 1 - 1⟩,
      ⟨"BOUNDS", 1, 1, .w1c, fun _ => 0, 0, 2 ^ 1 - 1⟩,
      ⟨"MEM_ERR", 2, 1, .w1c, fun _ => 0, 0, 2 ^ 1 - 1⟩,
      ⟨"HELD", 3, 1, .ro, fun _ => 0, 0, 2 ^ 1 - 1⟩,
      ⟨"AHEAD", 16, 13, .ro, fun _ => 0, 0, 2 ^ 13 - 1⟩] },
  { name := "DPORT_DATA", base := 0x1000010, dims := [(2, 0x10000)], bits := 32, dom := .hub, fields := [⟨"DATA", 0, 32, .rw, fun _ => 0, 0, 2 ^ 32 - 1⟩] },
  { name := "PART_CMD", base := 0x100000, dims := [(64, 0x4000)], bits := 32, dom := .hub, fields := [⟨"CODE", 0, 8, .wo, fun _ => 0, 0, 2 ^ 8 - 1⟩,
      ⟨"TGT", 8, 1, .wo, fun _ => 0, 0, 2 ^ 1 - 1⟩] },
  { name := "PART_CMD_STATUS", base := 0x100004, dims := [(64, 0x4000)], bits := 32, dom := .hub, fields := [⟨"BUSY", 0, 1, .ro, fun _ => 0, 0, 2 ^ 1 - 1⟩,
      ⟨"DONE", 1, 1, .w1c, fun _ => 0, 0, 2 ^ 1 - 1⟩,
      ⟨"RESULT", 8, 8, .ro, fun _ => 0, 0, 2 ^ 8 - 1⟩,
      ⟨"CODE", 16, 8, .ro, fun _ => 0, 0, 2 ^ 8 - 1⟩] },
  { name := "PART_STATE", base := 0x100008, dims := [(64, 0x4000)], bits := 32, dom := .hub, fields := [⟨"STATE", 0, 3, .ro, fun _ => 0, 0, 2 ^ 3 - 1⟩,
      ⟨"LOGGING", 3, 1, .ro, fun _ => 0, 0, 2 ^ 1 - 1⟩,
      ⟨"ACTIVE_B", 4, 1, .ro, fun _ => 0, 0, 2 ^ 1 - 1⟩] },
  { name := "PART_VF", base := 0x10000c, dims := [(64, 0x4000)], bits := 32, dom := .hub, fields := [⟨"VF", 0, 7, .rw, fun _ => 0, 1, 64⟩,
      ⟨"BOUND", 7, 1, .ro, fun _ => 0, 0, 2 ^ 1 - 1⟩] },
  { name := "PART_SEED", base := 0x100010, dims := [(64, 0x4000)], bits := 32, dom := .hub, fields := [⟨"SEED", 0, 32, .rw, fun _ => 0, 0, 2 ^ 32 - 1⟩] },
  { name := "PART_EVENT", base := 0x100014, dims := [(64, 0x4000)], bits := 32, dom := .hub, fields := [⟨"CMD_DONE", 0, 1, .w1c, fun _ => 0, 0, 2 ^ 1 - 1⟩,
      ⟨"CMD_OVERRUN", 1, 1, .w1c, fun _ => 0, 0, 2 ^ 1 - 1⟩,
      ⟨"FATAL", 2, 1, .w1c, fun _ => 0, 0, 2 ^ 1 - 1⟩,
      ⟨"EXCEPTION", 3, 1, .w1c, fun _ => 0, 0, 2 ^ 1 - 1⟩,
      ⟨"SLICE_REJECT", 4, 1, .w1c, fun _ => 0, 0, 2 ^ 1 - 1⟩,
      ⟨"FREEZE_SLOW", 5, 1, .w1c, fun _ => 0, 0, 2 ^ 1 - 1⟩] },
  { name := "PART_EVENT_EN", base := 0x100018, dims := [(64, 0x4000)], bits := 32, dom := .hub, fields := [⟨"EN", 0, 6, .rw, fun _ => 0, 0, 2 ^ 6 - 1⟩] },
  { name := "PART_LIMITS", base := 0x10001c, dims := [(64, 0x4000)], bits := 32, dom := .hub, fields := [⟨"FREEZE", 0, 16, .rw, fun _ => 64, 0, 2 ^ 16 - 1⟩] },
  { name := "PART_CMD_BELL", base := 0x100020, dims := [(64, 0x4000)], bits := 64, dom := .hub, fields := [⟨"BELL", 0, 64, .rw, fun _ => 0, 0, 2 ^ 64 - 1⟩] },
  { name := "PART_ARG", base := 0x100028, dims := [(64, 0x4000)], bits := 64, dom := .hub, fields := [⟨"ENGINE", 0, 4, .rw, fun _ => 0, 0, 2 ^ 4 - 1⟩,
      ⟨"CORE", 4, 2, .rw, fun _ => 0, 0, 2 ^ 2 - 1⟩,
      ⟨"CTX", 6, 2, .rw, fun _ => 0, 0, 2 ^ 2 - 1⟩,
      ⟨"UNBIND", 8, 1, .rw, fun _ => 0, 0, 2 ^ 1 - 1⟩,
      ⟨"BASE", 16, 6, .rw, fun _ => 0, 0, 2 ^ 6 - 1⟩,
      ⟨"SIZE", 22, 6, .rw, fun _ => 0, 0, 2 ^ 6 - 1⟩,
      ⟨"START_PC", 32, 16, .rw, fun _ => 0, 0, 2 ^ 16 - 1⟩] }]

/-- Rows of `regTable`, part 6. -/
def regRows6 : List RegRow := [
  { name := "PART_TS", base := 0x100040, dims := [(64, 0x4000), (16, 0x4)], bits := 32, dom := .hub, fields := [⟨"BASE", 0, 9, .rw, fun _ => 0, 0, 2 ^ 9 - 1⟩,
      ⟨"LEN", 16, 9, .rw, fun _ => 0, 0, 384⟩] },
  { name := "PART_SHARE", base := 0x100080, dims := [(64, 0x4000), (16, 0x4)], bits := 32, dom := .hub, fields := [⟨"SHARE", 0, 7, .rw, fun _ => 0, 0, 64⟩] },
  { name := "PART_SEG", base := 0x100100, dims := [(64, 0x4000), (16, 0x8)], bits := 64, dom := .hub, fields := [⟨"PBASE", 0, 11, .rw, fun _ => 0, 0, 2 ^ 11 - 1⟩,
      ⟨"MBASE", 16, 11, .rw, fun _ => 0, 0, 2 ^ 11 - 1⟩,
      ⟨"LEN", 32, 11, .rw, fun _ => 0, 0, 2 ^ 11 - 1⟩] },
  { name := "PART_RES", base := 0x100180, dims := [(64, 0x4000)], bits := 32, dom := .hub, fields := [⟨"COMMONS_BASE", 0, 11, .rw, fun _ => 0, 0, 2 ^ 11 - 1⟩,
      ⟨"COMMONS_LEN", 16, 11, .rw, fun _ => 0, 0, 1536⟩] },
  { name := "PART_QCOUNT", base := 0x100188, dims := [(64, 0x4000)], bits := 64, dom := .hub, fields := [⟨"QP", 0, 13, .rw, fun _ => 0, 0, 4096⟩,
      ⟨"CQ", 16, 13, .rw, fun _ => 0, 0, 4096⟩,
      ⟨"BLK", 32, 11, .rw, fun _ => 0, 0, 1024⟩,
      ⟨"CIPH", 48, 11, .rw, fun _ => 0, 0, 1024⟩] },
  { name := "PART_MISC", base := 0x100190, dims := [(64, 0x4000)], bits := 32, dom := .hub, fields := [⟨"KEYS", 0, 10, .rw, fun _ => 0, 0, 512⟩,
      ⟨"SLICES", 10, 11, .rw, fun _ => 0, 0, 1024⟩] },
  { name := "PART_FABRIC", base := 0x100194, dims := [(64, 0x4000)], bits := 32, dom := .hub, fields := [⟨"GUARANTEE", 0, 12, .rw, fun _ => 0, 0, 3200⟩,
      ⟨"CEILING", 16, 12, .rw, fun _ => 0, 0, 3200⟩] },
  { name := "PART_MIG_ADDR", base := 0x100198, dims := [(64, 0x4000)], bits := 64, dom := .hub, fields := [⟨"ADDR", 6, 58, .rw, fun _ => 0, 0, 2 ^ 58 - 1⟩] },
  { name := "PART_MIG_LEN", base := 0x1001a0, dims := [(64, 0x4000)], bits := 32, dom := .hub, fields := [⟨"LEN", 0, 27, .rw, fun _ => 0, 0, 67108864⟩] },
  { name := "PART_LOG_MISS", base := 0x1001a4, dims := [(64, 0x4000)], bits := 32, dom := .hub, fields := [⟨"COUNT", 0, 32, .ro, fun _ => 0, 0, 2 ^ 32 - 1⟩] },
  { name := "PART_LOG", base := 0x100200, dims := [(64, 0x4000), (8, 0x20)], bits := 256, dom := .hub, fields := [⟨"START", 12, 52, .rw, fun _ => 0, 0, 2 ^ 52 - 1⟩,
      ⟨"PAGES", 64, 28, .rw, fun _ => 0, 0, 2 ^ 28 - 1⟩,
      ⟨"PASID", 92, 20, .rw, fun _ => 0, 0, 2 ^ 20 - 1⟩,
      ⟨"HAS_PASID", 112, 1, .rw, fun _ => 0, 0, 2 ^ 1 - 1⟩,
      ⟨"EN", 113, 1, .rw, fun _ => 0, 0, 2 ^ 1 - 1⟩,
      ⟨"MAP_A", 128, 64, .rw, fun _ => 0, 0, 2 ^ 64 - 1⟩,
      ⟨"MAP_B", 192, 64, .rw, fun _ => 0, 0, 2 ^ 64 - 1⟩] },
  { name := "PART_SLICE", base := 0x102000, dims := [(64, 0x4000), (1024, 0x8)], bits := 64, dom := .hub, fields := [⟨"PASID", 0, 20, .rw, fun _ => 0, 0, 2 ^ 20 - 1⟩,
      ⟨"EN", 20, 1, .rw, fun _ => 0, 0, 2 ^ 1 - 1⟩,
      ⟨"WBASE", 32, 16, .rw, fun _ => 0, 0, 2 ^ 16 - 1⟩,
      ⟨"WLEN", 48, 16, .rw, fun _ => 0, 0, 2 ^ 16 - 1⟩] }]

/-- Rows of `regTable`, part 7. -/
def regRows7 : List RegRow := [
  { name := "PCI_ALIVE", base := 0x30000, dims := [], bits := 32, dom := .pci, fields := [⟨"VALUE", 0, 32, .ro, fun _ => 1279547446, 0, 2 ^ 32 - 1⟩] },
  { name := "PCI_STATUS", base := 0x30004, dims := [], bits := 32, dom := .pci, fields := [⟨"LINK_UP", 0, 1, .ro, fun _ => 0, 0, 2 ^ 1 - 1⟩,
      ⟨"FLIT", 1, 1, .ro, fun _ => 0, 0, 2 ^ 1 - 1⟩,
      ⟨"SPEED", 2, 3, .ro, fun _ => 0, 0, 2 ^ 3 - 1⟩,
      ⟨"WIDTH", 5, 5, .ro, fun _ => 0, 0, 2 ^ 5 - 1⟩,
      ⟨"PF_BME", 10, 1, .ro, fun _ => 0, 0, 2 ^ 1 - 1⟩] },
  { name := "PCI_EVENT", base := 0x30008, dims := [], bits := 32, dom := .pci, fields := [⟨"LINK_DOWN", 0, 1, .w1c, fun _ => 0, 0, 2 ^ 1 - 1⟩,
      ⟨"DOWNTRAINED", 1, 1, .w1c, fun _ => 0, 0, 2 ^ 1 - 1⟩,
      ⟨"CPL_TIMEOUT", 2, 1, .w1c, fun _ => 0, 0, 2 ^ 1 - 1⟩,
      ⟨"LATE_CPL", 3, 1, .w1c, fun _ => 0, 0, 2 ^ 1 - 1⟩,
      ⟨"CPL_ERR", 4, 1, .w1c, fun _ => 0, 0, 2 ^ 1 - 1⟩,
      ⟨"UNSUP_ACCESS", 5, 1, .w1c, fun _ => 0, 0, 2 ^ 1 - 1⟩,
      ⟨"VF_FLR", 6, 1, .w1c, fun _ => 0, 0, 2 ^ 1 - 1⟩,
      ⟨"PF_RESET", 7, 1, .w1c, fun _ => 0, 0, 2 ^ 1 - 1⟩,
      ⟨"HB_MISS", 8, 1, .w1c, fun _ => 0, 0, 2 ^ 1 - 1⟩] },
  { name := "PCI_EVENT_EN", base := 0x3000c, dims := [], bits := 32, dom := .pci, fields := [⟨"EN", 0, 9, .rw, fun _ => 0, 0, 2 ^ 9 - 1⟩] },
  { name := "PCI_UNSUP_INFO", base := 0x30010, dims := [], bits := 64, dom := .pci, fields := [⟨"OFFSET", 0, 26, .ro, fun _ => 0, 0, 2 ^ 26 - 1⟩,
      ⟨"WRITE", 26, 1, .ro, fun _ => 0, 0, 2 ^ 1 - 1⟩,
      ⟨"FUNC", 32, 7, .ro, fun _ => 0, 0, 2 ^ 7 - 1⟩] },
  { name := "PCI_CPL_CFG", base := 0x30018, dims := [], bits := 32, dom := .pci, fields := [⟨"QUAR", 0, 3, .rw, fun _ => 1, 1, 4⟩,
      ⟨"RO_DATA", 3, 1, .rw, fun _ => 1, 0, 2 ^ 1 - 1⟩] },
  { name := "PCI_CPL_STATS", base := 0x3001c, dims := [], bits := 32, dom := .pci, fields := [⟨"TIMEOUTS", 0, 16, .ro, fun _ => 0, 0, 2 ^ 16 - 1⟩,
      ⟨"LATE", 16, 16, .ro, fun _ => 0, 0, 2 ^ 16 - 1⟩] },
  { name := "PCI_DROPPED", base := 0x30020, dims := [], bits := 32, dom := .pci, fields := [⟨"COUNT", 0, 32, .ro, fun _ => 0, 0, 2 ^ 32 - 1⟩] },
  { name := "PCI_DRV", base := 0x30024, dims := [], bits := 32, dom := .pci, fields := [⟨"CMD", 0, 2, .wo, fun _ => 0, 0, 2 ^ 2 - 1⟩,
      ⟨"STATE", 2, 2, .ro, fun _ => 0, 0, 2 ^ 2 - 1⟩,
      ⟨"SESSION", 16, 16, .ro, fun _ => 0, 0, 2 ^ 16 - 1⟩] },
  { name := "PCI_HB", base := 0x30028, dims := [], bits := 32, dom := .pci, fields := [⟨"VALUE", 0, 32, .wo, fun _ => 0, 0, 2 ^ 32 - 1⟩] },
  { name := "PCI_HB_CFG", base := 0x3002c, dims := [], bits := 32, dom := .pci, fields := [⟨"PERIOD", 0, 12, .rws, fun _ => 100, 10, 4000⟩,
      ⟨"MISSES", 16, 2, .ro, fun _ => 0, 0, 2 ^ 2 - 1⟩] },
  { name := "PCI_HB_SCOPE", base := 0x30030, dims := [], bits := 64, dom := .pci, fields := [⟨"PARTS", 0, 64, .rws, fun _ => 1, 0, 2 ^ 64 - 1⟩] }]

/-- Rows of `regTable`, part 8. -/
def regRows8 : List RegRow := [
  { name := "PCI_RESUME", base := 0x30038, dims := [], bits := 64, dom := .pci, fields := [⟨"PARTS", 0, 64, .wo, fun _ => 0, 0, 2 ^ 64 - 1⟩] },
  { name := "PCI_QUIESCED", base := 0x30040, dims := [], bits := 64, dom := .pci, fields := [⟨"PARTS", 0, 64, .ro, fun _ => 0, 0, 2 ^ 64 - 1⟩] },
  { name := "PCI_VF_FLR", base := 0x30048, dims := [], bits := 64, dom := .pci, fields := [⟨"VFS", 0, 64, .w1c, fun _ => 0, 0, 2 ^ 64 - 1⟩] },
  { name := "FAB_CFG", base := 0x200000, dims := [], bits := 32, dom := .hub, fields := [⟨"QMODE", 0, 16, .rw, fun _ => 0, 0, 2 ^ 16 - 1⟩] },
  { name := "FAB_LANE_LIMITS", base := 0x200004, dims := [], bits := 32, dom := .hub, fields := [⟨"SYM_LIMIT", 0, 16, .rw, fun _ => 256, 0, 2 ^ 16 - 1⟩,
      ⟨"UNCORR_RUN", 16, 4, .rw, fun _ => 4, 1, 15⟩] },
  { name := "FAB_PORT_CTRL", base := 0x210000, dims := [(32, 0x400)], bits := 32, dom := .fab, fields := [⟨"EN", 0, 1, .rw, fun _ => 0, 0, 2 ^ 1 - 1⟩,
      ⟨"PHY", 1, 2, .rw, fun _ => 0, 0, 2⟩,
      ⟨"AN_EN", 3, 1, .rw, fun _ => 1, 0, 2 ^ 1 - 1⟩,
      ⟨"PEER", 4, 1, .rw, fun _ => 0, 0, 2 ^ 1 - 1⟩,
      ⟨"MTU", 16, 14, .rw, fun _ => 9216, 1518, 9216⟩] },
  { name := "FAB_PORT_STATUS", base := 0x210004, dims := [(32, 0x400)], bits := 32, dom := .fab, fields := [⟨"LINK_UP", 0, 1, .ro, fun _ => 0, 0, 2 ^ 1 - 1⟩,
      ⟨"DEGRADED", 1, 1, .ro, fun _ => 0, 0, 2 ^ 1 - 1⟩,
      ⟨"TRAINING", 2, 1, .ro, fun _ => 0, 0, 2 ^ 1 - 1⟩,
      ⟨"WIDTH", 3, 3, .ro, fun _ => 0, 0, 2 ^ 3 - 1⟩,
      ⟨"LANES", 6, 4, .ro, fun _ => 0, 0, 2 ^ 4 - 1⟩,
      ⟨"FAILED", 10, 4, .ro, fun _ => 0, 0, 2 ^ 4 - 1⟩] },
  { name := "FAB_PORT_EVENT", base := 0x210008, dims := [(32, 0x400)], bits := 32, dom := .fab, fields := [⟨"LINK_DOWN", 0, 1, .w1c, fun _ => 0, 0, 2 ^ 1 - 1⟩,
      ⟨"LANE_FAIL", 1, 1, .w1c, fun _ => 0, 0, 2 ^ 1 - 1⟩,
      ⟨"REFORMED", 2, 1, .w1c, fun _ => 0, 0, 2 ^ 1 - 1⟩,
      ⟨"RESTORE_FAIL", 3, 1, .w1c, fun _ => 0, 0, 2 ^ 1 - 1⟩,
      ⟨"PFC_STORM", 4, 1, .w1c, fun _ => 0, 0, 2 ^ 1 - 1⟩,
      ⟨"PAUSE_RX", 5, 1, .w1c, fun _ => 0, 0, 2 ^ 1 - 1⟩] },
  { name := "FAB_PORT_EVENT_EN", base := 0x21000c, dims := [(32, 0x400)], bits := 32, dom := .fab, fields := [⟨"EN", 0, 6, .rw, fun _ => 0, 0, 2 ^ 6 - 1⟩] },
  { name := "FAB_PORT_MAC", base := 0x210010, dims := [(32, 0x400)], bits := 64, dom := .fab, fields := [⟨"MAC", 0, 48, .rw, fun _ => 0, 0, 2 ^ 48 - 1⟩] },
  { name := "FAB_PFC_CFG", base := 0x210018, dims := [(32, 0x400)], bits := 32, dom := .fab, fields := [⟨"PFC_EN", 0, 8, .rw, fun _ => 0, 0, 2 ^ 8 - 1⟩,
      ⟨"PFC_XOFF", 8, 8, .rw, fun _ => 128, 0, 2 ^ 8 - 1⟩,
      ⟨"PFC_XON", 16, 8, .rw, fun _ => 64, 0, 2 ^ 8 - 1⟩,
      ⟨"PFC_STORM", 24, 8, .rw, fun _ => 100, 1, 255⟩] },
  { name := "FAB_FEC_CORR", base := 0x210020, dims := [(32, 0x400)], bits := 64, dom := .fab, fields := [⟨"COUNT", 0, 64, .ro, fun _ => 0, 0, 2 ^ 64 - 1⟩] }]

/-- Rows of `regTable`, part 9. -/
def regRows9 : List RegRow := [
  { name := "FAB_FEC_UNCORR", base := 0x210028, dims := [(32, 0x400)], bits := 64, dom := .fab, fields := [⟨"COUNT", 0, 64, .ro, fun _ => 0, 0, 2 ^ 64 - 1⟩] },
  { name := "FAB_RETRAIN", base := 0x210030, dims := [(32, 0x400)], bits := 32, dom := .fab, fields := [⟨"RESTORE", 0, 1, .wo, fun _ => 0, 0, 2 ^ 1 - 1⟩] },
  { name := "RKT_CFG", base := 0x280000, dims := [], bits := 32, dom := .hub, fields := [⟨"UDP_PORT", 0, 16, .rw, fun _ => 59220, 0, 2 ^ 16 - 1⟩,
      ⟨"ECN_EN", 16, 1, .rw, fun _ => 1, 0, 2 ^ 1 - 1⟩,
      ⟨"CSUM4", 17, 1, .rw, fun _ => 1, 0, 2 ^ 1 - 1⟩,
      ⟨"TTL", 24, 8, .rw, fun _ => 64, 0, 2 ^ 8 - 1⟩] },
  { name := "RKT_TIMING", base := 0x280004, dims := [], bits := 32, dom := .hub, fields := [⟨"ACK_COALESCE", 0, 4, .rw, fun _ => 8, 1, 15⟩,
      ⟨"ACK_DELAY", 4, 8, .rw, fun _ => 8, 1, 255⟩,
      ⟨"REORDER", 12, 4, .rw, fun _ => 3, 1, 15⟩,
      ⟨"RTO_MIN", 16, 8, .rw, fun _ => 24, 4, 255⟩,
      ⟨"RTO_MAX", 24, 8, .rw, fun _ => 4, 1, 255⟩] },
  { name := "RKT_RETRY", base := 0x280008, dims := [], bits := 32, dom := .hub, fields := [⟨"RETRY_LIMIT", 0, 4, .rw, fun _ => 7, 1, 15⟩,
      ⟨"PATH_FAIL", 4, 4, .rw, fun _ => 3, 1, 15⟩,
      ⟨"PROBE_MS", 8, 8, .rw, fun _ => 1, 1, 255⟩,
      ⟨"RESTORE", 16, 4, .rw, fun _ => 3, 1, 15⟩,
      ⟨"WIN", 20, 12, .rw, fun _ => 1024, 64, 4095⟩] },
  { name := "RKT_CC", base := 0x28000c, dims := [], bits := 32, dom := .hub, fields := [⟨"TARGET", 0, 8, .rw, fun _ => 10, 1, 255⟩,
      ⟨"CWND_INIT", 8, 8, .rw, fun _ => 16, 1, 255⟩,
      ⟨"CWND_MAX", 16, 12, .rw, fun _ => 256, 1, 4095⟩] },
  { name := "RKT_EVENT", base := 0x280010, dims := [], bits := 32, dom := .hub, fields := [⟨"PATH_DOWN", 0, 1, .w1c, fun _ => 0, 0, 2 ^ 1 - 1⟩,
      ⟨"PATH_UP", 1, 1, .w1c, fun _ => 0, 0, 2 ^ 1 - 1⟩,
      ⟨"RESYNC", 2, 1, .w1c, fun _ => 0, 0, 2 ^ 1 - 1⟩,
      ⟨"CONN_ERROR", 3, 1, .w1c, fun _ => 0, 0, 2 ^ 1 - 1⟩,
      ⟨"DROP", 4, 1, .w1c, fun _ => 0, 0, 2 ^ 1 - 1⟩] },
  { name := "RKT_EVENT_EN", base := 0x280014, dims := [], bits := 32, dom := .hub, fields := [⟨"EN", 0, 5, .rw, fun _ => 0, 0, 2 ^ 5 - 1⟩] },
  { name := "RKT_DROP", base := 0x280018, dims := [], bits := 64, dom := .hub, fields := [⟨"MALFORMED", 0, 16, .ro, fun _ => 0, 0, 2 ^ 16 - 1⟩,
      ⟨"NO_CONN", 16, 16, .ro, fun _ => 0, 0, 2 ^ 16 - 1⟩,
      ⟨"STALE", 32, 16, .ro, fun _ => 0, 0, 2 ^ 16 - 1⟩,
      ⟨"AUTH", 48, 16, .ro, fun _ => 0, 0, 2 ^ 16 - 1⟩] },
  { name := "RKT_RETX", base := 0x280020, dims := [], bits := 64, dom := .hub, fields := [⟨"COUNT", 0, 64, .ro, fun _ => 0, 0, 2 ^ 64 - 1⟩] },
  { name := "RKT_DUP", base := 0x280028, dims := [], bits := 64, dom := .hub, fields := [⟨"COUNT", 0, 64, .ro, fun _ => 0, 0, 2 ^ 64 - 1⟩] },
  { name := "RKT_BELL_CFG", base := 0x280030, dims := [], bits := 32, dom := .hub, fields := [⟨"RELAY", 0, 1, .rw, fun _ => 0, 0, 2 ^ 1 - 1⟩,
      ⟨"AUTO_DELAY", 1, 1, .rw, fun _ => 1, 0, 2 ^ 1 - 1⟩,
      ⟨"DEPTH", 2, 3, .rw, fun _ => 0, 0, 4⟩,
      ⟨"REPORT_SLOT", 16, 10, .rw, fun _ => 12, 0, 2 ^ 10 - 1⟩] }]

/-- Rows of `regTable`, part 10. -/
def regRows10 : List RegRow := [
  { name := "RKT_LADDR", base := 0x280100, dims := [(8, 0x20)], bits := 256, dom := .hub, fields := [⟨"ADDR", 0, 128, .rw, fun _ => 0, 0, 2 ^ 128 - 1⟩,
      ⟨"V6", 128, 1, .rw, fun _ => 0, 0, 2 ^ 1 - 1⟩,
      ⟨"EN", 129, 1, .rw, fun _ => 0, 0, 2 ^ 1 - 1⟩] },
  { name := "RKT_BELL_PEER", base := 0x280200, dims := [(18, 0x20)], bits := 256, dom := .hub, fields := [⟨"ADDR", 0, 128, .rw, fun _ => 0, 0, 2 ^ 128 - 1⟩,
      ⟨"V6", 128, 1, .rw, fun _ => 0, 0, 2 ^ 1 - 1⟩,
      ⟨"EN", 129, 1, .rw, fun _ => 0, 0, 2 ^ 1 - 1⟩,
      ⟨"ALT", 130, 1, .rw, fun _ => 0, 0, 2 ^ 1 - 1⟩,
      ⟨"PRIMARY", 144, 12, .rw, fun _ => 0, 0, 2 ^ 12 - 1⟩,
      ⟨"SECONDARY", 160, 12, .rw, fun _ => 0, 0, 2 ^ 12 - 1⟩,
      ⟨"XYZ", 172, 16, .rw, fun _ => 0, 0, 2 ^ 16 - 1⟩] },
  { name := "RKT_PATH", base := 0x290000, dims := [(4096, 0x10)], bits := 128, dom := .hub, fields := [⟨"PORT", 0, 5, .rw, fun _ => 0, 0, 2 ^ 5 - 1⟩,
      ⟨"LADDR", 5, 3, .rw, fun _ => 0, 0, 2 ^ 3 - 1⟩,
      ⟨"VLAN_EN", 8, 1, .rw, fun _ => 0, 0, 2 ^ 1 - 1⟩,
      ⟨"PCP", 9, 3, .rw, fun _ => 0, 0, 2 ^ 3 - 1⟩,
      ⟨"VID", 12, 12, .rw, fun _ => 0, 0, 2 ^ 12 - 1⟩,
      ⟨"UP", 24, 1, .ro, fun _ => 0, 0, 2 ^ 1 - 1⟩,
      ⟨"NH_MAC", 32, 48, .rw, fun _ => 0, 0, 2 ^ 48 - 1⟩,
      ⟨"SPORT", 80, 16, .rw, fun _ => 0, 0, 2 ^ 16 - 1⟩] },
  { name := "RKT_RMA_CFG", base := 0x280040, dims := [], bits := 32, dom := .hub, fields := [⟨"INVAL_WAIT", 0, 8, .rw, fun _ => 8, 1, 255⟩] },
  { name := "RKT_PEER", base := 0x2a0000, dims := [(4096, 0x20)], bits := 256, dom := .hub, fields := [⟨"ADDR", 0, 128, .rw, fun _ => 0, 0, 2 ^ 128 - 1⟩,
      ⟨"V6", 128, 1, .rw, fun _ => 0, 0, 2 ^ 1 - 1⟩,
      ⟨"EN", 129, 1, .rw, fun _ => 0, 0, 2 ^ 1 - 1⟩] },
  { name := "RKT_CONN", base := 0x2c0000, dims := [(16384, 0x10)], bits := 128, dom := .hub, fields := [⟨"PART", 0, 6, .rw, fun _ => 0, 1, 63⟩,
      ⟨"QP", 6, 12, .rw, fun _ => 0, 0, 2 ^ 12 - 1⟩,
      ⟨"EN", 18, 1, .rw, fun _ => 0, 0, 2 ^ 1 - 1⟩,
      ⟨"STATE", 19, 2, .ro, fun _ => 0, 0, 2 ^ 2 - 1⟩,
      ⟨"SEG", 21, 2, .rw, fun _ => 2, 0, 2 ^ 2 - 1⟩,
      ⟨"ENC", 23, 1, .rw, fun _ => 0, 0, 2 ^ 1 - 1⟩,
      ⟨"PEER", 24, 12, .rw, fun _ => 0, 0, 2 ^ 12 - 1⟩,
      ⟨"PEER_CONN", 36, 24, .rw, fun _ => 0, 0, 2 ^ 24 - 1⟩,
      ⟨"PATH_BASE", 60, 12, .rw, fun _ => 0, 0, 2 ^ 12 - 1⟩,
      ⟨"PATH_N", 72, 4, .rw, fun _ => 0, 0, 2 ^ 4 - 1⟩,
      ⟨"CEPOCH", 76, 8, .ro, fun _ => 0, 0, 2 ^ 8 - 1⟩,
      ⟨"KEY_SLOT", 84, 9, .rw, fun _ => 0, 0, 2 ^ 9 - 1⟩,
      ⟨"TCLASS", 93, 3, .rw, fun _ => 0, 0, 2 ^ 3 - 1⟩,
      ⟨"RNR_LIMIT", 96, 4, .rw, fun _ => 7, 0, 2 ^ 4 - 1⟩,
      ⟨"CEPOCH_INIT", 100, 8, .rw, fun _ => 0, 0, 2 ^ 8 - 1⟩] },
  { name := "PKT_CFG", base := 0x300000, dims := [], bits := 32, dom := .hub, fields := [⟨"VXLAN_PORT", 0, 16, .rw, fun _ => 4789, 0, 2 ^ 16 - 1⟩,
      ⟨"DEF_PRIO", 16, 3, .rw, fun _ => 0, 0, 2 ^ 3 - 1⟩,
      ⟨"VXLAN_EN", 19, 1, .rw, fun _ => 1, 0, 2 ^ 1 - 1⟩] },
  { name := "PKT_DEFAULT", base := 0x300004, dims := [], bits := 32, dom := .hub, fields := [⟨"PART", 0, 6, .rw, fun _ => 0, 0, 2 ^ 6 - 1⟩,
      ⟨"HASH", 7, 1, .rw, fun _ => 0, 0, 2 ^ 1 - 1⟩,
      ⟨"ACTION", 8, 2, .rw, fun _ => 2, 0, 2⟩,
      ⟨"QUEUE", 10, 12, .rw, fun _ => 0, 0, 2 ^ 12 - 1⟩] },
  { name := "PKT_EVENT", base := 0x300008, dims := [], bits := 32, dom := .hub, fields := [⟨"MALFORMED", 0, 1, .w1c, fun _ => 0, 0, 2 ^ 1 - 1⟩,
      ⟨"HOLD_FULL", 1, 1, .w1c, fun _ => 0, 0, 2 ^ 1 - 1⟩,
      ⟨"FRAG_FULL", 2, 1, .w1c, fun _ => 0, 0, 2 ^ 1 - 1⟩,
      ⟨"FRAG_EXPIRED", 3, 1, .w1c, fun _ => 0, 0, 2 ^ 1 - 1⟩,
      ⟨"TARGET", 4, 1, .w1c, fun _ => 0, 0, 2 ^ 1 - 1⟩] },
  { name := "PKT_EVENT_EN", base := 0x30000c, dims := [], bits := 32, dom := .hub, fields := [⟨"EN", 0, 5, .rw, fun _ => 0, 0, 2 ^ 5 - 1⟩] },
  { name := "PKT_DROP", base := 0x300010, dims := [], bits := 64, dom := .hub, fields := [⟨"MALFORMED", 0, 16, .ro, fun _ => 0, 0, 2 ^ 16 - 1⟩,
      ⟨"CSUM", 16, 16, .ro, fun _ => 0, 0, 2 ^ 16 - 1⟩,
      ⟨"NO_RULE", 32, 16, .ro, fun _ => 0, 0, 2 ^ 16 - 1⟩,
      ⟨"RULE_DROP", 48, 16, .ro, fun _ => 0, 0, 2 ^ 16 - 1⟩] },
  { name := "PKT_DROP2", base := 0x300018, dims := [], bits := 64, dom := .hub, fields := [⟨"TARGET", 0, 16, .ro, fun _ => 0, 0, 2 ^ 16 - 1⟩,
      ⟨"NO_BUFFER", 16, 16, .ro, fun _ => 0, 0, 2 ^ 16 - 1⟩] }]

/-- Rows of `regTable`, part 11. -/
def regRows11 : List RegRow := [
  { name := "PKT_FRAG_STATUS", base := 0x300020, dims := [], bits := 32, dom := .hub, fields := [⟨"ENTRIES", 0, 11, .ro, fun _ => 0, 0, 2 ^ 11 - 1⟩,
      ⟨"HELD", 16, 10, .ro, fun _ => 0, 0, 2 ^ 10 - 1⟩] },
  { name := "PKT_FRAG_COUNT", base := 0x300028, dims := [], bits := 64, dom := .hub, fields := [⟨"FULL", 0, 16, .ro, fun _ => 0, 0, 2 ^ 16 - 1⟩,
      ⟨"HOLD_FULL", 16, 16, .ro, fun _ => 0, 0, 2 ^ 16 - 1⟩,
      ⟨"EXPIRED", 32, 16, .ro, fun _ => 0, 0, 2 ^ 16 - 1⟩] },
  { name := "PKT_FRAG_CFG", base := 0x300030, dims := [], bits := 32, dom := .hub, fields := [⟨"HOLD", 0, 8, .rw, fun _ => 250, 1, 250⟩,
      ⟨"LIFE", 8, 16, .rw, fun _ => 1000, 1, 65535⟩] },
  { name := "PKT_DSCP_MAP", base := 0x300100, dims := [(8, 0x4)], bits := 32, dom := .hub, fields := [⟨"PRIO", 0, 24, .rw, fun j => ((j.getD 0 0) * 2396745), 0, 2 ^ 24 - 1⟩] },
  { name := "PKT_RANGE", base := 0x300400, dims := [(64, 0x8)], bits := 64, dom := .hub, fields := [⟨"LOW", 0, 16, .rw, fun _ => 0, 0, 2 ^ 16 - 1⟩,
      ⟨"HIGH", 16, 16, .rw, fun _ => 0, 0, 2 ^ 16 - 1⟩,
      ⟨"FIELD", 32, 3, .rw, fun _ => 0, 0, 6⟩,
      ⟨"EN", 35, 1, .rw, fun _ => 0, 0, 2 ^ 1 - 1⟩] },
  { name := "PKT_RAW", base := 0x301000, dims := [(64, 0x4)], bits := 32, dom := .hub, fields := [⟨"BASE", 0, 12, .rw, fun _ => 0, 0, 2 ^ 12 - 1⟩,
      ⟨"COUNT", 12, 13, .rw, fun _ => 0, 0, 4096⟩] },
  { name := "PKT_HASH", base := 0x302000, dims := [(64, 0x40)], bits := 352, dom := .hub, fields := [⟨"SIP", 0, 1, .rw, fun _ => 1, 0, 2 ^ 1 - 1⟩,
      ⟨"DIP", 1, 1, .rw, fun _ => 1, 0, 2 ^ 1 - 1⟩,
      ⟨"SPORT", 2, 1, .rw, fun _ => 1, 0, 2 ^ 1 - 1⟩,
      ⟨"DPORT", 3, 1, .rw, fun _ => 1, 0, 2 ^ 1 - 1⟩,
      ⟨"COMMIT", 31, 1, .wo, fun _ => 0, 0, 2 ^ 1 - 1⟩,
      ⟨"KEY", 32, 320, .rw, fun _ => 0, 0, 2 ^ 320 - 1⟩] },
  { name := "PKT_IND", base := 0x310000, dims := [(64, 0x800), (512, 0x4)], bits := 32, dom := .hub, fields := [⟨"QUEUE", 0, 12, .rw, fun _ => 0, 0, 2 ^ 12 - 1⟩,
      ⟨"VALID", 31, 1, .rw, fun _ => 0, 0, 2 ^ 1 - 1⟩] },
  { name := "PKT_HITS", base := 0x330000, dims := [(4096, 0x8)], bits := 64, dom := .hub, fields := [⟨"COUNT", 0, 64, .ro, fun _ => 0, 0, 2 ^ 64 - 1⟩] },
  { name := "PKT_RULE", base := 0x340000, dims := [(4096, 0x40)], bits := 512, dom := .hub, fields := [⟨"PART", 0, 6, .rw, fun _ => 0, 0, 2 ^ 6 - 1⟩,
      ⟨"VALID", 6, 1, .rw, fun _ => 0, 0, 2 ^ 1 - 1⟩,
      ⟨"HASH", 7, 1, .rw, fun _ => 0, 0, 2 ^ 1 - 1⟩,
      ⟨"ACTION", 8, 2, .rw, fun _ => 0, 0, 3⟩,
      ⟨"QUEUE", 10, 12, .rw, fun _ => 0, 0, 2 ^ 12 - 1⟩,
      ⟨"RANGE_A", 32, 6, .rw, fun _ => 0, 0, 2 ^ 6 - 1⟩,
      ⟨"RA_EN", 38, 1, .rw, fun _ => 0, 0, 2 ^ 1 - 1⟩,
      ⟨"RA_INV", 39, 1, .rw, fun _ => 0, 0, 2 ^ 1 - 1⟩,
      ⟨"RANGE_B", 40, 6, .rw, fun _ => 0, 0, 2 ^ 6 - 1⟩,
      ⟨"RB_EN", 46, 1, .rw, fun _ => 0, 0, 2 ^ 1 - 1⟩,
      ⟨"RB_INV", 47, 1, .rw, fun _ => 0, 0, 2 ^ 1 - 1⟩,
      ⟨"SEL", 64, 24, .rw, fun _ => 0, 0, 2 ^ 24 - 1⟩,
      ⟨"SEL_EN", 88, 6, .rw, fun _ => 0, 0, 2 ^ 6 - 1⟩,
      ⟨"VAL_MASK", 128, 384, .rw, fun _ => 0, 0, 2 ^ 384 - 1⟩] },
  { name := "SCH_CFG", base := 0x380000, dims := [], bits := 32, dom := .hub, fields := [⟨"REFILL", 0, 6, .rw, fun _ => 8, 1, 63⟩,
      ⟨"OVERHEAD", 8, 8, .rw, fun _ => 20, 0, 2 ^ 8 - 1⟩,
      ⟨"PBURST", 16, 8, .rw, fun _ => 16, 1, 255⟩,
      ⟨"FW_CLASS", 24, 3, .rw, fun _ => 7, 0, 2 ^ 3 - 1⟩] },
  { name := "SCH_EVENT", base := 0x380004, dims := [], bits := 32, dom := .hub, fields := [⟨"MISSED_TARGET", 0, 1, .w1c, fun _ => 0, 0, 2 ^ 1 - 1⟩,
      ⟨"BAD_LIST", 1, 1, .w1c, fun _ => 0, 0, 2 ^ 1 - 1⟩,
      ⟨"AGED", 2, 1, .w1c, fun _ => 0, 0, 2 ^ 1 - 1⟩,
      ⟨"TAKEN", 3, 1, .w1c, fun _ => 0, 0, 2 ^ 1 - 1⟩] }]

/-- Rows of `regTable`, part 12. -/
def regRows12 : List RegRow := [
  { name := "SCH_EVENT_EN", base := 0x380008, dims := [], bits := 32, dom := .hub, fields := [⟨"EN", 0, 4, .rw, fun _ => 0, 0, 2 ^ 4 - 1⟩] },
  { name := "SCH_PART", base := 0x381000, dims := [(64, 0x10)], bits := 128, dom := .hub, fields := [⟨"GTOKENS", 0, 32, .ro, fun _ => 0, 0, 2 ^ 32 - 1⟩,
      ⟨"CTOKENS", 32, 32, .ro, fun _ => 0, 0, 2 ^ 32 - 1⟩,
      ⟨"BYTES", 64, 64, .ro, fun _ => 0, 0, 2 ^ 64 - 1⟩] },
  { name := "SCH_PORT_CTRL", base := 0x390000, dims := [(32, 0x400)], bits := 32, dom := .hub, fields := [⟨"AGE", 0, 8, .rw, fun _ => 100, 0, 2 ^ 8 - 1⟩] },
  { name := "SCH_CLASS", base := 0x390010, dims := [(32, 0x400), (8, 0x8)], bits := 64, dom := .hub, fields := [⟨"STRICT", 0, 1, .rw, fun _ => 0, 0, 2 ^ 1 - 1⟩,
      ⟨"WEIGHT", 2, 8, .rw, fun _ => 1, 1, 255⟩,
      ⟨"DSCP", 10, 6, .rw, fun j => (8 * (j.getD 1 0)), 0, 2 ^ 6 - 1⟩,
      ⟨"RATE", 16, 9, .rw, fun _ => 0, 0, 400⟩,
      ⟨"PRIO", 25, 3, .rw, fun j => (j.getD 1 0), 0, 2 ^ 3 - 1⟩,
      ⟨"BURST", 32, 11, .rw, fun _ => 64, 1, 1024⟩] },
  { name := "SCH_CLASS_TOKENS", base := 0x390050, dims := [(32, 0x400), (8, 0x4)], bits := 32, dom := .hub, fields := [⟨"TOKENS", 0, 32, .ro, fun _ => 0, 0, 2 ^ 32 - 1⟩] },
  { name := "SCH_ALM_TAKE", base := 0x390080, dims := [(32, 0x400)], bits := 64, dom := .hub, fields := [⟨"BELL", 0, 64, .rw, fun _ => 0, 0, 2 ^ 64 - 1⟩] },
  { name := "SCH_ALM_CMD", base := 0x390088, dims := [(32, 0x400)], bits := 32, dom := .hub, fields := [⟨"ARM", 0, 1, .wo, fun _ => 0, 0, 2 ^ 1 - 1⟩,
      ⟨"CANCEL", 1, 1, .wo, fun _ => 0, 0, 2 ^ 1 - 1⟩,
      ⟨"ARMED", 2, 1, .ro, fun _ => 0, 0, 2 ^ 1 - 1⟩,
      ⟨"SH_EN", 3, 1, .rw, fun _ => 0, 0, 2 ^ 1 - 1⟩,
      ⟨"SH_CYCLE", 4, 3, .rw, fun _ => 0, 0, 2 ^ 3 - 1⟩] },
  { name := "SCH_ALM_STATUS", base := 0x39008c, dims := [(32, 0x400)], bits := 32, dom := .hub, fields := [⟨"EN", 0, 1, .ro, fun _ => 0, 0, 2 ^ 1 - 1⟩,
      ⟨"CYCLE", 1, 3, .ro, fun _ => 0, 0, 2 ^ 3 - 1⟩,
      ⟨"ENTRY", 4, 5, .ro, fun _ => 0, 0, 2 ^ 5 - 1⟩] },
  { name := "SCH_ALM_SHADOW", base := 0x390100, dims := [(32, 0x400), (32, 0x4)], bits := 32, dom := .hub, fields := [⟨"ENTRY", 0, 21, .rw, fun _ => 0, 0, 2 ^ 21 - 1⟩,
      ⟨"LAST", 31, 1, .rw, fun _ => 0, 0, 2 ^ 1 - 1⟩] },
  { name := "SCH_ALM_ACTIVE", base := 0x390180, dims := [(32, 0x400), (32, 0x4)], bits := 32, dom := .hub, fields := [⟨"ENTRY", 0, 32, .ro, fun _ => 0, 0, 2 ^ 32 - 1⟩] },
  { name := "BLK_CFG", base := 0x400000, dims := [], bits := 32, dom := .hub, fields := [⟨"AGE_LIMIT", 0, 8, .rw, fun _ => 20, 1, 255⟩,
      ⟨"WH", 8, 8, .rw, fun _ => 8, 1, 255⟩,
      ⟨"WM", 16, 8, .rw, fun _ => 4, 1, 255⟩,
      ⟨"WL", 24, 8, .rw, fun _ => 1, 1, 255⟩] },
  { name := "BLK_EVENT", base := 0x400004, dims := [], bits := 32, dom := .hub, fields := [⟨"PROMOTED", 0, 1, .w1c, fun _ => 0, 0, 2 ^ 1 - 1⟩,
      ⟨"REJECT", 1, 1, .w1c, fun _ => 0, 0, 2 ^ 1 - 1⟩,
      ⟨"MEDIA_ERR", 2, 1, .w1c, fun _ => 0, 0, 2 ^ 1 - 1⟩,
      ⟨"REMOTE_ERR", 3, 1, .w1c, fun _ => 0, 0, 2 ^ 1 - 1⟩,
      ⟨"MEM_ERR", 4, 1, .w1c, fun _ => 0, 0, 2 ^ 1 - 1⟩,
      ⟨"TEST_DONE", 5, 1, .w1c, fun _ => 0, 0, 2 ^ 1 - 1⟩] }]

/-- Rows of `regTable`, part 13. -/
def regRows13 : List RegRow := [
  { name := "BLK_EVENT_EN", base := 0x400008, dims := [], bits := 32, dom := .hub, fields := [⟨"EN", 0, 6, .rw, fun _ => 0, 0, 2 ^ 6 - 1⟩] },
  { name := "BLK_STATUS", base := 0x40000c, dims := [], bits := 32, dom := .hub, fields := [⟨"INFLIGHT", 0, 14, .ro, fun _ => 0, 0, 2 ^ 14 - 1⟩,
      ⟨"STAGE", 16, 10, .ro, fun _ => 0, 0, 2 ^ 10 - 1⟩] },
  { name := "BLK_STATS", base := 0x400010, dims := [], bits := 64, dom := .hub, fields := [⟨"PROMOTED", 0, 32, .ro, fun _ => 0, 0, 2 ^ 32 - 1⟩,
      ⟨"ABORTED", 32, 32, .ro, fun _ => 0, 0, 2 ^ 32 - 1⟩] },
  { name := "BLK_ERR_INFO", base := 0x400018, dims := [], bits := 64, dom := .hub, fields := [⟨"STATUS", 0, 8, .ro, fun _ => 0, 0, 2 ^ 8 - 1⟩,
      ⟨"PART", 8, 6, .ro, fun _ => 0, 0, 2 ^ 6 - 1⟩,
      ⟨"NVME", 16, 16, .ro, fun _ => 0, 0, 2 ^ 16 - 1⟩,
      ⟨"VOL", 32, 10, .ro, fun _ => 0, 0, 2 ^ 10 - 1⟩,
      ⟨"QUEUE", 42, 11, .ro, fun _ => 0, 0, 2 ^ 11 - 1⟩] },
  { name := "BLK_VOL", base := 0x401000, dims := [(1024, 0x20)], bits := 256, dom := .hub, fields := [⟨"PART", 0, 6, .rw, fun _ => 0, 0, 2 ^ 6 - 1⟩,
      ⟨"EN", 6, 1, .rw, fun _ => 0, 0, 2 ^ 1 - 1⟩,
      ⟨"BACKING", 7, 2, .rw, fun _ => 0, 0, 2⟩,
      ⟨"BS", 9, 1, .rw, fun _ => 0, 0, 2 ^ 1 - 1⟩,
      ⟨"ADMIN", 10, 1, .rw, fun _ => 0, 0, 2 ^ 1 - 1⟩,
      ⟨"ENC", 11, 1, .rw, fun _ => 0, 0, 2 ^ 1 - 1⟩,
      ⟨"TRIM_ZERO", 12, 1, .ro, fun _ => 0, 0, 2 ^ 1 - 1⟩,
      ⟨"KEY_SLOT", 13, 9, .rw, fun _ => 0, 0, 2 ^ 9 - 1⟩,
      ⟨"NSID", 32, 32, .rw, fun _ => 0, 0, 2 ^ 32 - 1⟩,
      ⟨"BASE", 64, 64, .rw, fun _ => 0, 0, 2 ^ 64 - 1⟩,
      ⟨"CAP", 128, 64, .rw, fun _ => 0, 0, 2 ^ 64 - 1⟩,
      ⟨"RKEY", 192, 32, .rw, fun _ => 0, 0, 2 ^ 32 - 1⟩] },
  { name := "MED_CTRL", base := 0x480000, dims := [(2, 0x1000)], bits := 32, dom := .pci, fields := [⟨"EN", 0, 1, .rw, fun _ => 0, 0, 2 ^ 1 - 1⟩,
      ⟨"WIDTH_CAP", 1, 2, .rw, fun _ => 0, 0, 2⟩,
      ⟨"SPEED_CAP", 3, 3, .rw, fun _ => 4, 0, 4⟩,
      ⟨"RESET", 6, 1, .wo, fun _ => 0, 0, 2 ^ 1 - 1⟩] },
  { name := "MED_STATUS", base := 0x480004, dims := [(2, 0x1000)], bits := 32, dom := .pci, fields := [⟨"LINK_UP", 0, 1, .ro, fun _ => 0, 0, 2 ^ 1 - 1⟩,
      ⟨"SPEED", 1, 3, .ro, fun _ => 0, 0, 2 ^ 3 - 1⟩,
      ⟨"WIDTH", 4, 3, .ro, fun _ => 0, 0, 2 ^ 3 - 1⟩,
      ⟨"READY", 7, 1, .ro, fun _ => 0, 0, 2 ^ 1 - 1⟩,
      ⟨"RESETTING", 8, 1, .ro, fun _ => 0, 0, 2 ^ 1 - 1⟩,
      ⟨"OUTSTANDING", 16, 11, .ro, fun _ => 0, 0, 2 ^ 11 - 1⟩] },
  { name := "MED_EVENT", base := 0x480008, dims := [(2, 0x1000)], bits := 32, dom := .pci, fields := [⟨"LINK_DOWN", 0, 1, .w1c, fun _ => 0, 0, 2 ^ 1 - 1⟩,
      ⟨"TIMEOUT", 1, 1, .w1c, fun _ => 0, 0, 2 ^ 1 - 1⟩,
      ⟨"CTRL_FATAL", 2, 1, .w1c, fun _ => 0, 0, 2 ^ 1 - 1⟩,
      ⟨"RESET_DONE", 3, 1, .w1c, fun _ => 0, 0, 2 ^ 1 - 1⟩,
      ⟨"DOWNTRAINED", 4, 1, .w1c, fun _ => 0, 0, 2 ^ 1 - 1⟩] },
  { name := "MED_EVENT_EN", base := 0x48000c, dims := [(2, 0x1000)], bits := 32, dom := .pci, fields := [⟨"EN", 0, 5, .rw, fun _ => 0, 0, 2 ^ 5 - 1⟩] },
  { name := "MED_CFG", base := 0x480010, dims := [(2, 0x1000)], bits := 32, dom := .pci, fields := [⟨"CMD_TIMEOUT", 0, 8, .rw, fun _ => 10, 1, 255⟩,
      ⟨"DEPTH", 8, 11, .rw, fun _ => 1024, 1, 1024⟩] },
  { name := "MED_TEST", base := 0x480018, dims := [(2, 0x1000)], bits := 32, dom := .pci, fields := [⟨"STATE", 0, 2, .ro, fun _ => 0, 0, 2 ^ 2 - 1⟩,
      ⟨"RESULT", 4, 4, .ro, fun _ => 0, 0, 2 ^ 4 - 1⟩,
      ⟨"TEST_TIME", 8, 24, .ro, fun _ => 0, 0, 2 ^ 24 - 1⟩] },
  { name := "CIPH_CFG", base := 0x500000, dims := [], bits := 32, dom := .hub, fields := [⟨"DUMMY", 0, 2, .rw, fun _ => 3, 0, 2 ^ 2 - 1⟩,
      ⟨"SHUFFLE", 2, 1, .rw, fun _ => 1, 0, 2 ^ 1 - 1⟩,
      ⟨"NONCE_ID", 10, 22, .rw, fun _ => 0, 0, 2 ^ 22 - 1⟩] }]

/-- Rows of `regTable`, part 14. -/
def regRows14 : List RegRow := [
  { name := "CIPH_EPOCH", base := 0x500004, dims := [], bits := 32, dom := .hub, fields := [⟨"EPOCH", 0, 24, .ro, fun _ => 0, 0, 2 ^ 24 - 1⟩,
      ⟨"VALID", 24, 1, .ro, fun _ => 0, 0, 2 ^ 1 - 1⟩] },
  { name := "CIPH_SCHED", base := 0x500008, dims := [], bits := 32, dom := .hub, fields := [⟨"W_RKT", 0, 8, .rw, fun _ => 8, 1, 255⟩,
      ⟨"W_BLK", 8, 8, .rw, fun _ => 4, 1, 255⟩,
      ⟨"W_REQ", 16, 8, .rw, fun _ => 4, 1, 255⟩] },
  { name := "CIPH_STATUS", base := 0x50000c, dims := [], bits := 32, dom := .hub, fields := [⟨"BUSY", 0, 16, .ro, fun _ => 0, 0, 2 ^ 16 - 1⟩,
      ⟨"SLOTS", 16, 13, .ro, fun _ => 0, 0, 2 ^ 13 - 1⟩] },
  { name := "CIPH_EVENT", base := 0x500010, dims := [], bits := 32, dom := .hub, fields := [⟨"ALARM", 0, 1, .w1c, fun _ => 0, 0, 2 ^ 1 - 1⟩,
      ⟨"COUNT_HIGH", 1, 1, .w1c, fun _ => 0, 0, 2 ^ 1 - 1⟩,
      ⟨"NONCE_HOLD", 2, 1, .w1c, fun _ => 0, 0, 2 ^ 1 - 1⟩,
      ⟨"AUTH_FAIL", 3, 1, .w1c, fun _ => 0, 0, 2 ^ 1 - 1⟩,
      ⟨"REJECT", 4, 1, .w1c, fun _ => 0, 0, 2 ^ 1 - 1⟩,
      ⟨"MEM_ERR", 5, 1, .w1c, fun _ => 0, 0, 2 ^ 1 - 1⟩] },
  { name := "CIPH_EVENT_EN", base := 0x500014, dims := [], bits := 32, dom := .hub, fields := [⟨"EN", 0, 6, .rw, fun _ => 0, 0, 2 ^ 6 - 1⟩] },
  { name := "CIPH_ALARM", base := 0x500018, dims := [], bits := 32, dom := .hub, fields := [⟨"VOLT", 0, 1, .w1c, fun _ => 0, 0, 2 ^ 1 - 1⟩,
      ⟨"CLOCK", 1, 1, .w1c, fun _ => 0, 0, 2 ^ 1 - 1⟩,
      ⟨"TEMP", 2, 1, .w1c, fun _ => 0, 0, 2 ^ 1 - 1⟩,
      ⟨"SHIELD", 3, 1, .ro, fun _ => 0, 0, 2 ^ 1 - 1⟩,
      ⟨"ACTIVE", 4, 1, .ro, fun _ => 0, 0, 2 ^ 1 - 1⟩,
      ⟨"COUNT", 16, 16, .ro, fun _ => 0, 0, 2 ^ 16 - 1⟩] },
  { name := "CIPH_ERR_INFO", base := 0x500020, dims := [], bits := 64, dom := .hub, fields := [⟨"STATUS", 0, 8, .ro, fun _ => 0, 0, 2 ^ 8 - 1⟩,
      ⟨"PART", 8, 6, .ro, fun _ => 0, 0, 2 ^ 6 - 1⟩,
      ⟨"QUEUE", 16, 12, .ro, fun _ => 0, 0, 2 ^ 12 - 1⟩,
      ⟨"USER", 32, 32, .ro, fun _ => 0, 0, 2 ^ 32 - 1⟩] },
  { name := "CIPH_PART", base := 0x501000, dims := [(64, 0x40)], bits := 32, dom := .hub, fields := [⟨"SLOT_BASE", 0, 12, .ro, fun _ => 0, 0, 2 ^ 12 - 1⟩,
      ⟨"PK_SET", 12, 1, .ro, fun _ => 0, 0, 2 ^ 1 - 1⟩,
      ⟨"EK_SET", 13, 1, .ro, fun _ => 0, 0, 2 ^ 1 - 1⟩] },
  { name := "CIPH_PART_EK", base := 0x501020, dims := [(64, 0x40)], bits := 256, dom := .hub, fields := [⟨"KEY", 0, 256, .wo, fun _ => 0, 0, 2 ^ 256 - 1⟩] },
  { name := "CKP_EVENT", base := 0x600000, dims := [], bits := 32, dom := .hub, fields := [⟨"DONE", 0, 1, .w1c, fun _ => 0, 0, 2 ^ 1 - 1⟩,
      ⟨"DEFERRED", 1, 1, .w1c, fun _ => 0, 0, 2 ^ 1 - 1⟩,
      ⟨"ABORTED", 2, 1, .w1c, fun _ => 0, 0, 2 ^ 1 - 1⟩,
      ⟨"RESTORE_DONE", 3, 1, .w1c, fun _ => 0, 0, 2 ^ 1 - 1⟩,
      ⟨"RESTORE_FAIL", 4, 1, .w1c, fun _ => 0, 0, 2 ^ 1 - 1⟩,
      ⟨"GRANARY_LOST", 5, 1, .w1c, fun _ => 0, 0, 2 ^ 1 - 1⟩,
      ⟨"DRAIN_FAIL", 6, 1, .w1c, fun _ => 0, 0, 2 ^ 1 - 1⟩] },
  { name := "CKP_EVENT_EN", base := 0x600004, dims := [], bits := 32, dom := .hub, fields := [⟨"EN", 0, 7, .rw, fun _ => 0, 0, 2 ^ 7 - 1⟩] },
  { name := "CKP_CTRL", base := 0x600100, dims := [(4, 0x100)], bits := 32, dom := .hub, fields := [⟨"EN", 0, 1, .rw, fun _ => 0, 0, 2 ^ 1 - 1⟩,
      ⟨"MODE", 1, 1, .rw, fun _ => 0, 0, 2 ^ 1 - 1⟩,
      ⟨"PART", 8, 6, .rw, fun _ => 0, 1, 63⟩,
      ⟨"ENGINE", 16, 4, .rw, fun _ => 0, 0, 2 ^ 4 - 1⟩] }]

/-- Rows of `regTable`, part 15. -/
def regRows15 : List RegRow := [
  { name := "CKP_PERIOD", base := 0x600104, dims := [(4, 0x100)], bits := 32, dom := .hub, fields := [⟨"PERIOD", 0, 32, .rw, fun _ => 16777216, 1, 4294967295⟩] },
  { name := "CKP_PHASE", base := 0x600108, dims := [(4, 0x100)], bits := 32, dom := .hub, fields := [⟨"PHASE", 0, 32, .rw, fun _ => 0, 0, 2 ^ 32 - 1⟩] },
  { name := "CKP_EVERY", base := 0x60010c, dims := [(4, 0x100)], bits := 32, dom := .hub, fields := [⟨"EVERY", 0, 32, .rw, fun _ => 20, 1, 4294967295⟩] },
  { name := "CKP_REGION", base := 0x600110, dims := [(4, 0x100), (4, 0x10)], bits := 128, dom := .hub, fields := [⟨"PBASE", 16, 32, .rw, fun _ => 0, 0, 2 ^ 32 - 1⟩,
      ⟨"CHUNKS", 64, 21, .rw, fun _ => 0, 1, 1179648⟩,
      ⟨"AXIS", 85, 2, .rw, fun _ => 0, 0, 2 ^ 2 - 1⟩,
      ⟨"ILK", 87, 2, .rw, fun _ => 0, 0, 2 ^ 2 - 1⟩,
      ⟨"EN", 89, 1, .rw, fun _ => 0, 0, 2 ^ 1 - 1⟩,
      ⟨"TAG", 96, 32, .rw, fun _ => 0, 0, 2 ^ 32 - 1⟩] },
  { name := "CKP_TARGET", base := 0x600150, dims := [(4, 0x100)], bits := 64, dom := .hub, fields := [⟨"QP", 0, 12, .rw, fun _ => 0, 0, 2 ^ 12 - 1⟩,
      ⟨"SLOTLEN", 16, 11, .rw, fun _ => 0, 0, 2 ^ 11 - 1⟩] },
  { name := "CKP_JOB", base := 0x600158, dims := [(4, 0x100)], bits := 64, dom := .hub, fields := [⟨"JOB", 0, 64, .rw, fun _ => 0, 0, 2 ^ 64 - 1⟩] },
  { name := "CKP_SHAPE", base := 0x600160, dims := [(4, 0x100)], bits := 32, dom := .hub, fields := [⟨"NX", 0, 7, .rw, fun _ => 1, 1, 64⟩,
      ⟨"NY", 8, 7, .rw, fun _ => 1, 1, 64⟩,
      ⟨"NZ", 16, 5, .rw, fun _ => 1, 1, 16⟩] },
  { name := "CKP_USER", base := 0x600168, dims := [(4, 0x100)], bits := 64, dom := .hub, fields := [⟨"ADDR", 6, 42, .rw, fun _ => 0, 0, 2 ^ 42 - 1⟩] },
  { name := "CKP_SAFE", base := 0x600170, dims := [(4, 0x100)], bits := 64, dom := .hub, fields := [⟨"SAFE_STEP", 0, 64, .rw, fun _ => 0, 0, 2 ^ 64 - 1⟩] },
  { name := "CKP_STATUS", base := 0x600178, dims := [(4, 0x100)], bits := 32, dom := .hub, fields := [⟨"STATE", 0, 2, .ro, fun _ => 0, 0, 2 ^ 2 - 1⟩,
      ⟨"SLOT", 2, 1, .ro, fun _ => 0, 0, 2 ^ 1 - 1⟩,
      ⟨"DEFERRED", 16, 16, .ro, fun _ => 0, 0, 2 ^ 16 - 1⟩] },
  { name := "CKP_LAST", base := 0x600180, dims := [(4, 0x100)], bits := 512, dom := .hub, fields := [⟨"STEP", 0, 64, .ro, fun _ => 0, 0, 2 ^ 64 - 1⟩,
      ⟨"BELL", 64, 64, .ro, fun _ => 0, 0, 2 ^ 64 - 1⟩,
      ⟨"SLOT", 128, 1, .ro, fun _ => 0, 0, 2 ^ 1 - 1⟩,
      ⟨"DIGEST", 256, 256, .ro, fun _ => 0, 0, 2 ^ 256 - 1⟩] },
  { name := "CKP_CMD", base := 0x6001c0, dims := [(4, 0x100)], bits := 32, dom := .hub, fields := [⟨"CODE", 0, 2, .wo, fun _ => 0, 0, 2 ^ 2 - 1⟩,
      ⟨"BUSY", 2, 1, .ro, fun _ => 0, 0, 2 ^ 1 - 1⟩,
      ⟨"RESULT", 8, 8, .ro, fun _ => 0, 0, 2 ^ 8 - 1⟩,
      ⟨"FAIL_SRC", 16, 8, .ro, fun _ => 0, 0, 2 ^ 8 - 1⟩] }]

/-- Rows of `regTable`, part 16. -/
def regRows16 : List RegRow := [
  { name := "CKP_RESTORE_ADDR", base := 0x6001c8, dims := [(4, 0x100)], bits := 64, dom := .hub, fields := [⟨"ADDR", 6, 58, .rw, fun _ => 0, 0, 2 ^ 58 - 1⟩] },
  { name := "CKP_RESTORE_N", base := 0x6001d0, dims := [(4, 0x100)], bits := 32, dom := .hub, fields := [⟨"COUNT", 0, 13, .rw, fun _ => 0, 1, 4096⟩] },
  { name := "CKP_GRAN", base := 0x600800, dims := [(4, 0x40)], bits := 256, dom := .hub, fields := [⟨"BASE", 0, 48, .rw, fun _ => 0, 0, 2 ^ 48 - 1⟩,
      ⟨"LEN", 64, 11, .rw, fun _ => 0, 0, 2 ^ 11 - 1⟩,
      ⟨"EN", 75, 1, .rw, fun _ => 0, 0, 2 ^ 1 - 1⟩,
      ⟨"HOLD", 76, 2, .ro, fun _ => 0, 0, 2 ^ 2 - 1⟩,
      ⟨"DRAIN_VOL", 96, 10, .rw, fun _ => 0, 0, 2 ^ 10 - 1⟩,
      ⟨"DRAIN_EVERY", 112, 8, .rw, fun _ => 0, 0, 2 ^ 8 - 1⟩,
      ⟨"DRAIN_LBA", 128, 64, .rw, fun _ => 0, 0, 2 ^ 64 - 1⟩] },
  { name := "FLT_STATUS", base := 0x680000, dims := [], bits := 32, dom := .hub, fields := [⟨"REPLAYING", 0, 1, .ro, fun _ => 0, 0, 2 ^ 1 - 1⟩,
      ⟨"MODULE_FATAL", 1, 1, .ro, fun _ => 0, 0, 2 ^ 1 - 1⟩,
      ⟨"GRAN_SERVE", 2, 1, .ro, fun _ => 0, 0, 2 ^ 1 - 1⟩] },
  { name := "FLT_EVENT", base := 0x680004, dims := [], bits := 32, dom := .hub, fields := [⟨"CORRECTED", 0, 1, .w1c, fun _ => 0, 0, 2 ^ 1 - 1⟩,
      ⟨"CONTAINED", 1, 1, .w1c, fun _ => 0, 0, 2 ^ 1 - 1⟩,
      ⟨"PART_FATAL", 2, 1, .w1c, fun _ => 0, 0, 2 ^ 1 - 1⟩,
      ⟨"MODULE_FATAL", 3, 1, .w1c, fun _ => 0, 0, 2 ^ 1 - 1⟩,
      ⟨"REPLAY_DONE", 4, 1, .w1c, fun _ => 0, 0, 2 ^ 1 - 1⟩,
      ⟨"ESCALATED", 5, 1, .w1c, fun _ => 0, 0, 2 ^ 1 - 1⟩,
      ⟨"LOST", 6, 1, .w1c, fun _ => 0, 0, 2 ^ 1 - 1⟩,
      ⟨"SWITCHED", 7, 1, .w1c, fun _ => 0, 0, 2 ^ 1 - 1⟩] },
  { name := "FLT_EVENT_EN", base := 0x680008, dims := [], bits := 32, dom := .hub, fields := [⟨"EN", 0, 8, .rw, fun _ => 14, 0, 2 ^ 8 - 1⟩] },
  { name := "FLT_CAUSE", base := 0x680010, dims := [], bits := 64, dom := .hub, fields := [⟨"CODE", 0, 8, .ro, fun _ => 0, 0, 2 ^ 8 - 1⟩,
      ⟨"CLASS", 8, 2, .ro, fun _ => 0, 0, 2 ^ 2 - 1⟩,
      ⟨"PART", 10, 6, .ro, fun _ => 0, 0, 2 ^ 6 - 1⟩,
      ⟨"ENGINE", 16, 4, .ro, fun _ => 0, 0, 2 ^ 4 - 1⟩,
      ⟨"UNIT", 20, 5, .ro, fun _ => 0, 0, 2 ^ 5 - 1⟩,
      ⟨"BELL", 32, 32, .ro, fun _ => 0, 0, 2 ^ 32 - 1⟩] },
  { name := "FLT_COUNT", base := 0x680018, dims := [], bits := 64, dom := .hub, fields := [⟨"CORRECTED", 0, 32, .rws, fun _ => 0, 0, 2 ^ 32 - 1⟩,
      ⟨"CONTAINED", 32, 16, .rws, fun _ => 0, 0, 2 ^ 16 - 1⟩,
      ⟨"PART_FATAL", 48, 8, .rws, fun _ => 0, 0, 2 ^ 8 - 1⟩,
      ⟨"MODULE_FATAL", 56, 8, .rws, fun _ => 0, 0, 2 ^ 8 - 1⟩] },
  { name := "FLT_REPLAY", base := 0x680020, dims := [], bits := 64, dom := .hub, fields := [⟨"FIRST", 0, 32, .ro, fun _ => 0, 0, 2 ^ 32 - 1⟩,
      ⟨"ENGINE", 32, 4, .ro, fun _ => 0, 0, 2 ^ 4 - 1⟩,
      ⟨"BELLS", 36, 4, .ro, fun _ => 0, 0, 2 ^ 4 - 1⟩,
      ⟨"TRIES", 40, 4, .ro, fun _ => 0, 0, 2 ^ 4 - 1⟩,
      ⟨"ACTIVE", 44, 1, .ro, fun _ => 0, 0, 2 ^ 1 - 1⟩] },
  { name := "FLT_CFG", base := 0x680028, dims := [], bits := 32, dom := .hub, fields := [⟨"REPLAY_LIMIT", 0, 4, .rw, fun _ => 3, 1, 15⟩,
      ⟨"SAME_SLOT", 4, 1, .rw, fun _ => 1, 0, 2 ^ 1 - 1⟩,
      ⟨"WINDOW", 8, 16, .rw, fun _ => 1024, 1, 65535⟩] },
  { name := "FLT_SWITCH", base := 0x680030, dims := [], bits := 32, dom := .hub, fields := [⟨"ENGINE", 0, 4, .rw, fun _ => 0, 0, 2 ^ 4 - 1⟩,
      ⟨"GO", 4, 1, .wo, fun _ => 0, 0, 2 ^ 1 - 1⟩,
      ⟨"ARMED", 5, 1, .ro, fun _ => 0, 0, 2 ^ 1 - 1⟩] },
  { name := "FLT_SWITCH_BELL", base := 0x680038, dims := [], bits := 64, dom := .hub, fields := [⟨"BELL", 0, 64, .rw, fun _ => 0, 0, 2 ^ 64 - 1⟩] }]

/-- Rows of `regTable`, part 17. -/
def regRows17 : List RegRow := [
  { name := "FLT_LOST", base := 0x680040, dims := [], bits := 64, dom := .hub, fields := [⟨"X", 0, 6, .ro, fun _ => 0, 0, 2 ^ 6 - 1⟩,
      ⟨"Y", 8, 6, .ro, fun _ => 0, 0, 2 ^ 6 - 1⟩,
      ⟨"Z", 16, 4, .ro, fun _ => 0, 0, 2 ^ 4 - 1⟩,
      ⟨"COUNT", 32, 16, .ro, fun _ => 0, 0, 2 ^ 16 - 1⟩,
      ⟨"UNNAMED", 48, 16, .ro, fun _ => 0, 0, 2 ^ 16 - 1⟩] },
  { name := "PWR_STATE", base := 0x40000, dims := [], bits := 32, dom := .aux, fields := [⟨"STATE", 0, 3, .ro, fun _ => 0, 0, 2 ^ 3 - 1⟩,
      ⟨"TRANSIT", 3, 1, .ro, fun _ => 0, 0, 2 ^ 1 - 1⟩,
      ⟨"RDY", 4, 4, .ro, fun _ => 15, 0, 2 ^ 4 - 1⟩] },
  { name := "PWR_REQ", base := 0x40004, dims := [], bits := 32, dom := .aux, fields := [⟨"TARGET", 0, 3, .wo, fun _ => 0, 0, 2 ^ 3 - 1⟩,
      ⟨"BUSY", 8, 1, .ro, fun _ => 0, 0, 2 ^ 1 - 1⟩,
      ⟨"RESULT", 16, 8, .ro, fun _ => 0, 0, 2 ^ 8 - 1⟩] },
  { name := "PWR_WAKE_EN", base := 0x40008, dims := [], bits := 32, dom := .aux, fields := [⟨"PCIE", 0, 1, .rw, fun _ => 1, 0, 2 ^ 1 - 1⟩,
      ⟨"FAB_FRAME", 1, 1, .rw, fun _ => 1, 0, 2 ^ 1 - 1⟩,
      ⟨"VESPER", 2, 1, .rw, fun _ => 1, 0, 2 ^ 1 - 1⟩,
      ⟨"VESPER_ANY", 3, 1, .rw, fun _ => 0, 0, 2 ^ 1 - 1⟩,
      ⟨"FAB_SIG", 8, 8, .rw, fun _ => 255, 0, 2 ^ 8 - 1⟩] },
  { name := "PWR_WAKE_CAUSE", base := 0x4000c, dims := [], bits := 32, dom := .aux, fields := [⟨"PCIE", 0, 1, .w1c, fun _ => 0, 0, 2 ^ 1 - 1⟩,
      ⟨"FAB_FRAME", 1, 1, .w1c, fun _ => 0, 0, 2 ^ 1 - 1⟩,
      ⟨"FAB_SIG", 2, 1, .w1c, fun _ => 0, 0, 2 ^ 1 - 1⟩,
      ⟨"VESPER", 3, 1, .w1c, fun _ => 0, 0, 2 ^ 1 - 1⟩,
      ⟨"WAKE_N", 4, 1, .w1c, fun _ => 0, 0, 2 ^ 1 - 1⟩,
      ⟨"LANE", 8, 5, .ro, fun _ => 0, 0, 2 ^ 5 - 1⟩] },
  { name := "PWR_DS_MEM", base := 0x40010, dims := [], bits := 32, dom := .aux, fields := [⟨"PD", 0, 26, .rw, fun _ => 0, 0, 2 ^ 26 - 1⟩] },
  { name := "PWR_LAST_OFF", base := 0x40014, dims := [], bits := 32, dom := .aux, fields := [⟨"CAUSE", 0, 2, .ro, fun _ => 0, 0, 2 ^ 2 - 1⟩,
      ⟨"SENSOR", 16, 7, .ro, fun _ => 0, 0, 2 ^ 7 - 1⟩] },
  { name := "PWR_DS_TS", base := 0x40080, dims := [(32, 0x4)], bits := 32, dom := .aux, fields := [⟨"ENGINE_A", 0, 4, .rw, fun _ => 0, 0, 2 ^ 4 - 1⟩,
      ⟨"UNIT_A", 4, 5, .rw, fun _ => 0, 0, 23⟩,
      ⟨"EN_A", 9, 1, .rw, fun _ => 0, 0, 2 ^ 1 - 1⟩,
      ⟨"ENGINE_B", 16, 4, .rw, fun _ => 0, 0, 2 ^ 4 - 1⟩,
      ⟨"UNIT_B", 20, 5, .rw, fun _ => 0, 0, 23⟩,
      ⟨"EN_B", 25, 1, .rw, fun _ => 0, 0, 2 ^ 1 - 1⟩] },
  { name := "PWR_CTRL", base := 0x40100, dims := [], bits := 32, dom := .hub, fields := [⟨"MODE", 0, 1, .rw, fun _ => 0, 0, 2 ^ 1 - 1⟩,
      ⟨"PREBIAS_EN", 1, 1, .rw, fun _ => 1, 0, 2 ^ 1 - 1⟩,
      ⟨"DROOP_EN", 2, 1, .rw, fun _ => 1, 0, 2 ^ 1 - 1⟩,
      ⟨"ALERT_OUT_EN", 3, 1, .rw, fun _ => 1, 0, 2 ^ 1 - 1⟩,
      ⟨"PACE_MAX", 4, 7, .rw, fun _ => 72, 16, 72⟩,
      ⟨"ALERT_HOLD", 12, 8, .rw, fun _ => 100, 1, 255⟩,
      ⟨"THERM_STEP", 20, 8, .rw, fun _ => 16, 1, 255⟩] },
  { name := "PWR_CAP", base := 0x40108, dims := [], bits := 64, dom := .hub, fields := [⟨"WATTS", 0, 11, .rw, fun _ => 1650, 600, 1650⟩,
      ⟨"TAU", 16, 8, .rw, fun _ => 10, 1, 255⟩,
      ⟨"HYST", 24, 8, .rw, fun _ => 25, 0, 2 ^ 8 - 1⟩,
      ⟨"RAISE", 32, 8, .rw, fun _ => 64, 1, 255⟩] },
  { name := "PWR_STATUS", base := 0x40110, dims := [], bits := 32, dom := .hub, fields := [⟨"ALERT_PIN", 0, 1, .ro, fun _ => 0, 0, 2 ^ 1 - 1⟩,
      ⟨"ALERT_REG", 1, 1, .ro, fun _ => 0, 0, 2 ^ 1 - 1⟩,
      ⟨"UNDERVOLT", 2, 1, .ro, fun _ => 0, 0, 2 ^ 1 - 1⟩,
      ⟨"THERM", 3, 1, .ro, fun _ => 0, 0, 2 ^ 1 - 1⟩,
      ⟨"FLOOR", 4, 1, .ro, fun _ => 0, 0, 2 ^ 1 - 1⟩,
      ⟨"EMERG", 5, 1, .ro, fun _ => 0, 0, 2 ^ 1 - 1⟩,
      ⟨"QUIET", 8, 8, .ro, fun _ => 255, 0, 2 ^ 8 - 1⟩,
      ⟨"CAP_PACE", 16, 7, .ro, fun _ => 72, 0, 2 ^ 7 - 1⟩,
      ⟨"THERM_PACE", 24, 7, .ro, fun _ => 72, 0, 2 ^ 7 - 1⟩] },
  { name := "PWR_EVENT", base := 0x40114, dims := [], bits := 32, dom := .hub, fields := [⟨"EMERG_ON", 0, 1, .w1c, fun _ => 0, 0, 2 ^ 1 - 1⟩,
      ⟨"EMERG_OFF", 1, 1, .w1c, fun _ => 0, 0, 2 ^ 1 - 1⟩,
      ⟨"THROTTLE", 2, 1, .w1c, fun _ => 0, 0, 2 ^ 1 - 1⟩,
      ⟨"CAP_ACTIVE", 3, 1, .w1c, fun _ => 0, 0, 2 ^ 1 - 1⟩,
      ⟨"CAP_UNMET", 4, 1, .w1c, fun _ => 0, 0, 2 ^ 1 - 1⟩,
      ⟨"VOLT_HOLD", 5, 1, .w1c, fun _ => 0, 0, 2 ^ 1 - 1⟩,
      ⟨"DROOP", 6, 1, .w1c, fun _ => 0, 0, 2 ^ 1 - 1⟩,
      ⟨"WAKE", 7, 1, .w1c, fun _ => 0, 0, 2 ^ 1 - 1⟩,
      ⟨"REQ_DONE", 8, 1, .w1c, fun _ => 0, 0, 2 ^ 1 - 1⟩] }]

/-- Rows of `regTable`, part 18. -/
def regRows18 : List RegRow := [
  { name := "PWR_EVENT_EN", base := 0x40118, dims := [], bits := 32, dom := .hub, fields := [⟨"EN", 0, 9, .rw, fun _ => 0, 0, 2 ^ 9 - 1⟩] },
  { name := "PWR_INPUT", base := 0x40120, dims := [], bits := 64, dom := .hub, fields := [⟨"MV", 0, 16, .ro, fun _ => 0, 0, 2 ^ 16 - 1⟩,
      ⟨"CURRENT", 16, 16, .ro, fun _ => 0, 0, 2 ^ 16 - 1⟩,
      ⟨"AVG", 32, 16, .ro, fun _ => 0, 0, 2 ^ 16 - 1⟩,
      ⟨"NOW", 48, 16, .ro, fun _ => 0, 0, 2 ^ 16 - 1⟩] },
  { name := "PWR_ENERGY", base := 0x40128, dims := [], bits := 64, dom := .hub, fields := [⟨"MJ", 0, 64, .ro, fun _ => 0, 0, 2 ^ 64 - 1⟩] },
  { name := "PWR_IDLE", base := 0x40130, dims := [], bits := 32, dom := .hub, fields := [⟨"BELLS", 0, 8, .rw, fun _ => 4, 1, 255⟩,
      ⟨"EN", 8, 1, .rw, fun _ => 1, 0, 2 ^ 1 - 1⟩] },
  { name := "PWR_HEAVY", base := 0x40134, dims := [], bits := 32, dom := .hub, fields := [⟨"MIN", 0, 9, .rw, fun _ => 64, 1, 240⟩,
      ⟨"LEAD", 16, 7, .rw, fun _ => 16, 1, 127⟩,
      ⟨"HOLD", 24, 7, .rw, fun _ => 32, 1, 127⟩] },
  { name := "PWR_DROOP_CFG", base := 0x40138, dims := [], bits := 32, dom := .hub, fields := [⟨"THRESH", 0, 6, .rw, fun _ => 40, 10, 63⟩] },
  { name := "PWR_DROOP_COUNT", base := 0x40140, dims := [(3, 0x8)], bits := 64, dom := .hub, fields := [⟨"EVENTS", 0, 32, .ro, fun _ => 0, 0, 2 ^ 32 - 1⟩,
      ⟨"LOST", 32, 32, .ro, fun _ => 0, 0, 2 ^ 32 - 1⟩] },
  { name := "PWR_VF", base := 0x40180, dims := [(8, 0x4)], bits := 32, dom := .hub, fields := [⟨"PACE", 0, 7, .rw, fun _ => 0, 0, 2 ^ 7 - 1⟩,
      ⟨"MV", 8, 10, .rw, fun _ => 0, 500, 900⟩,
      ⟨"EN", 31, 1, .rw, fun _ => 0, 0, 2 ^ 1 - 1⟩] },
  { name := "PWR_THERM_LIM", base := 0x40200, dims := [(4, 0x4)], bits := 32, dom := .hub, fields := [⟨"THROTTLE", 0, 8, .rw, fun j => (if (j.getD 0 0) < 2 then 95 else if (j.getD 0 0) = 2 then 90 else 110), 0, 2 ^ 8 - 1⟩,
      ⟨"EMERG", 8, 8, .rw, fun j => (if (j.getD 0 0) < 2 then 105 else if (j.getD 0 0) = 2 then 100 else 120), 0, 2 ^ 8 - 1⟩,
      ⟨"SHUT", 16, 8, .rw, fun j => (if (j.getD 0 0) < 2 then 115 else if (j.getD 0 0) = 2 then 110 else 130), 0, 2 ^ 8 - 1⟩] },
  { name := "PWR_TEMP", base := 0x40300, dims := [(66, 0x4)], bits := 32, dom := .hub, fields := [⟨"TEMP", 0, 11, .ro, fun _ => 0, 0, 2 ^ 11 - 1⟩,
      ⟨"VALID", 15, 1, .ro, fun _ => 0, 0, 2 ^ 1 - 1⟩] },
  { name := "HUB_ID", base := 0x0, dims := [], bits := 32, dom := .hub, fields := [⟨"PART", 0, 16, .ro, fun _ => 150, 0, 2 ^ 16 - 1⟩,
      ⟨"STEPPING", 16, 4, .ro, fun _ => 1, 0, 2 ^ 4 - 1⟩] },
  { name := "HUB_START", base := 0x4, dims := [], bits := 32, dom := .hub, fields := [⟨"STAGE", 0, 4, .ro, fun _ => 0, 0, 2 ^ 4 - 1⟩,
      ⟨"KIND", 4, 1, .ro, fun _ => 0, 0, 2 ^ 1 - 1⟩,
      ⟨"SLOT", 5, 1, .ro, fun _ => 0, 0, 2 ^ 1 - 1⟩,
      ⟨"MINIMAL", 6, 1, .ro, fun _ => 0, 0, 2 ^ 1 - 1⟩,
      ⟨"RECOVERY", 7, 1, .ro, fun _ => 0, 0, 2 ^ 1 - 1⟩,
      ⟨"ATTEMPTS", 8, 4, .ro, fun _ => 0, 0, 2 ^ 4 - 1⟩] }]

/-- Rows of `regTable`, part 19. -/
def regRows19 : List RegRow := [
  { name := "HUB_START_ERR", base := 0x8, dims := [], bits := 32, dom := .hub, fields := [⟨"STEP", 0, 4, .ro, fun _ => 0, 0, 2 ^ 4 - 1⟩,
      ⟨"CODE", 8, 8, .ro, fun _ => 0, 0, 2 ^ 8 - 1⟩,
      ⟨"COUNT", 16, 16, .ro, fun _ => 0, 0, 2 ^ 16 - 1⟩] },
  { name := "HUB_IOC_RUN", base := 0x10, dims := [], bits := 32, dom := .hub, fields := [⟨"RUN", 0, 32, .ro, fun _ => 0, 0, 2 ^ 32 - 1⟩] },
  { name := "HUB_IOC_DOUBLE", base := 0x14, dims := [], bits := 32, dom := .hub, fields := [⟨"DOUBLE", 0, 32, .w1c, fun _ => 0, 0, 2 ^ 32 - 1⟩] },
  { name := "HUB_REPAIR", base := 0x18, dims := [], bits := 32, dom := .hub, fields := [⟨"SPARES", 0, 16, .ro, fun _ => 0, 0, 2 ^ 16 - 1⟩] },
  { name := "MGT_STATUS", base := 0x80000, dims := [], bits := 32, dom := .hub, fields := [⟨"STATE", 0, 3, .ro, fun _ => 0, 0, 2 ^ 3 - 1⟩] },
  { name := "MGT_FW_VERSION", base := 0x80008, dims := [], bits := 64, dom := .hub, fields := [⟨"RUNNING", 0, 32, .ro, fun _ => 0, 0, 2 ^ 32 - 1⟩,
      ⟨"STAGED", 32, 32, .ro, fun _ => 0, 0, 2 ^ 32 - 1⟩] },
  { name := "MGT_EVENT", base := 0x80010, dims := [], bits := 32, dom := .hub, fields := [⟨"LINK_DOWN", 0, 1, .w1c, fun _ => 0, 0, 2 ^ 1 - 1⟩,
      ⟨"FW_DONE", 1, 1, .w1c, fun _ => 0, 0, 2 ^ 1 - 1⟩,
      ⟨"DEFERRED", 2, 1, .w1c, fun _ => 0, 0, 2 ^ 1 - 1⟩,
      ⟨"REEVE_RESET", 3, 1, .w1c, fun _ => 0, 0, 2 ^ 1 - 1⟩,
      ⟨"STUCK", 4, 1, .w1c, fun _ => 0, 0, 2 ^ 1 - 1⟩,
      ⟨"MODULE_FATAL", 5, 1, .w1c, fun _ => 0, 0, 2 ^ 1 - 1⟩,
      ⟨"EMERG", 6, 1, .w1c, fun _ => 0, 0, 2 ^ 1 - 1⟩,
      ⟨"KEY_LOW", 7, 1, .w1c, fun _ => 0, 0, 2 ^ 1 - 1⟩] },
  { name := "MGT_EVENT_EN", base := 0x80014, dims := [], bits := 32, dom := .hub, fields := [⟨"EN", 0, 8, .rw, fun _ => 0, 0, 2 ^ 8 - 1⟩] },
  { name := "MGT_FW_CMD", base := 0x80020, dims := [], bits := 32, dom := .hub, fields := [⟨"CODE", 0, 3, .wo, fun _ => 0, 0, 2 ^ 3 - 1⟩] },
  { name := "MGT_FW_STATUS", base := 0x80024, dims := [], bits := 32, dom := .hub, fields := [⟨"BUSY", 0, 1, .ro, fun _ => 0, 0, 2 ^ 1 - 1⟩,
      ⟨"ARMED", 1, 1, .ro, fun _ => 0, 0, 2 ^ 1 - 1⟩,
      ⟨"DEFERRED", 2, 1, .ro, fun _ => 0, 0, 2 ^ 1 - 1⟩,
      ⟨"RESULT", 8, 8, .ro, fun _ => 0, 0, 2 ^ 8 - 1⟩,
      ⟨"SVN_FLOOR", 16, 8, .ro, fun _ => 0, 0, 2 ^ 8 - 1⟩] },
  { name := "MGT_FW_LEN", base := 0x80028, dims := [], bits := 32, dom := .hub, fields := [⟨"LEN", 0, 23, .rw, fun _ => 0, 0, 4194304⟩] },
  { name := "MGT_FW_BANK", base := 0x80030, dims := [], bits := 64, dom := .hub, fields := [⟨"ADDR", 0, 48, .ro, fun _ => 0, 0, 2 ^ 48 - 1⟩] }]

/-- Rows of `regTable`, part 20. -/
def regRows20 : List RegRow := [
  { name := "MGT_FW_BELL", base := 0x80038, dims := [], bits := 64, dom := .hub, fields := [⟨"BELL", 0, 64, .rw, fun _ => 0, 0, 2 ^ 64 - 1⟩] },
  { name := "MGT_CFG_CMD", base := 0x80040, dims := [], bits := 32, dom := .hub, fields := [⟨"CODE", 0, 2, .wo, fun _ => 0, 0, 2 ^ 2 - 1⟩,
      ⟨"BUSY", 2, 1, .ro, fun _ => 0, 0, 2 ^ 1 - 1⟩,
      ⟨"RESULT", 8, 8, .ro, fun _ => 0, 0, 2 ^ 8 - 1⟩] },
  { name := "MGT_RESET", base := 0x80044, dims := [], bits := 32, dom := .hub, fields := [⟨"CODE", 0, 2, .wo, fun _ => 0, 0, 2 ^ 2 - 1⟩,
      ⟨"KEY", 16, 16, .wo, fun _ => 0, 0, 2 ^ 16 - 1⟩] },
  { name := "MGT_WDOG", base := 0x80048, dims := [], bits := 32, dom := .hub, fields := [⟨"TIMEOUT", 0, 8, .ro, fun _ => 100, 0, 2 ^ 8 - 1⟩,
      ⟨"RESETS", 8, 8, .ro, fun _ => 0, 0, 2 ^ 8 - 1⟩] },
  { name := "MGT_LOG", base := 0x80050, dims := [], bits := 64, dom := .hub, fields := [⟨"INDEX", 0, 32, .ro, fun _ => 0, 0, 2 ^ 32 - 1⟩,
      ⟨"LOST", 32, 16, .ro, fun _ => 0, 0, 2 ^ 16 - 1⟩] },
  { name := "MGT_LOG_BASE", base := 0x80058, dims := [], bits := 64, dom := .hub, fields := [⟨"ADDR", 0, 48, .ro, fun _ => 0, 0, 2 ^ 48 - 1⟩] },
  { name := "MGT_XMSS", base := 0x80060, dims := [], bits := 64, dom := .hub, fields := [⟨"NEXT", 0, 32, .ro, fun _ => 0, 0, 2 ^ 32 - 1⟩,
      ⟨"RESERVED_END", 32, 32, .ro, fun _ => 0, 0, 2 ^ 32 - 1⟩] },
  { name := "MGT_ATTEST", base := 0x80070, dims := [], bits := 32, dom := .hub, fields := [⟨"GO", 0, 1, .wo, fun _ => 0, 0, 2 ^ 1 - 1⟩,
      ⟨"BUSY", 1, 1, .ro, fun _ => 0, 0, 2 ^ 1 - 1⟩,
      ⟨"RESULT", 8, 8, .ro, fun _ => 0, 0, 2 ^ 8 - 1⟩] },
  { name := "MGT_ATTEST_ADDR", base := 0x80078, dims := [], bits := 64, dom := .hub, fields := [⟨"ADDR", 0, 48, .ro, fun _ => 0, 0, 2 ^ 48 - 1⟩] },
  { name := "MGT_ATTEST_NONCE", base := 0x80080, dims := [], bits := 256, dom := .hub, fields := [⟨"NONCE", 0, 256, .rw, fun _ => 0, 0, 2 ^ 256 - 1⟩] },
  { name := "MGT_PUBKEY", base := 0x800c0, dims := [], bits := 544, dom := .hub, fields := [⟨"KEY", 0, 544, .ro, fun _ => 0, 0, 2 ^ 544 - 1⟩] },
  { name := "MGT_OPEN", base := 0x80200, dims := [(4, 0x20)], bits := 256, dom := .hub, fields := [⟨"BASE", 0, 48, .rw, fun _ => 0, 0, 2 ^ 48 - 1⟩,
      ⟨"LEN", 64, 48, .rw, fun _ => 0, 0, 2 ^ 48 - 1⟩,
      ⟨"PART", 128, 6, .rw, fun _ => 0, 0, 2 ^ 6 - 1⟩,
      ⟨"EN", 134, 1, .rw, fun _ => 0, 0, 2 ^ 1 - 1⟩] }]

/-- Rows of `regTable`, part 21. -/
def regRows21 : List RegRow := [
  { name := "TST_STATUS", base := 0x1800000, dims := [], bits := 32, dom := .hub, fields := [⟨"MODE", 0, 2, .ro, fun _ => 0, 0, 2 ^ 2 - 1⟩,
      ⟨"PERT", 2, 1, .ro, fun _ => 0, 0, 2 ^ 1 - 1⟩,
      ⟨"NONCE_VALID", 3, 1, .ro, fun _ => 0, 0, 2 ^ 1 - 1⟩] },
  { name := "TST_UNLOCK", base := 0x1800004, dims := [], bits := 32, dom := .hub, fields := [⟨"CODE", 0, 2, .wo, fun _ => 0, 0, 2 ^ 2 - 1⟩,
      ⟨"BUSY", 2, 1, .ro, fun _ => 0, 0, 2 ^ 1 - 1⟩,
      ⟨"RESULT", 8, 8, .ro, fun _ => 0, 0, 2 ^ 8 - 1⟩] },
  { name := "TST_CTRL", base := 0x1800008, dims := [], bits := 32, dom := .hub, fields := [⟨"ALL_OFF", 0, 1, .wo, fun _ => 0, 0, 2 ^ 1 - 1⟩] },
  { name := "TST_SEED", base := 0x180000c, dims := [], bits := 32, dom := .hub, fields := [⟨"SEED", 0, 32, .rw, fun _ => 1, 0, 2 ^ 32 - 1⟩] },
  { name := "TST_NONCE", base := 0x1800020, dims := [], bits := 256, dom := .hub, fields := [⟨"NONCE", 0, 256, .ro, fun _ => 0, 0, 2 ^ 256 - 1⟩] },
  { name := "TST_LOOP", base := 0x1800100, dims := [(55, 0x8)], bits := 64, dom := .hub, fields := [⟨"DEPTH", 0, 3, .rw, fun _ => 0, 0, 2 ^ 3 - 1⟩,
      ⟨"EN", 3, 1, .rw, fun _ => 0, 0, 2 ^ 1 - 1⟩,
      ⟨"PATTERN", 4, 2, .rw, fun _ => 0, 0, 2⟩,
      ⟨"FUNC", 6, 7, .rw, fun _ => 0, 0, 2 ^ 7 - 1⟩,
      ⟨"LIMIT", 16, 8, .rw, fun _ => 0, 0, 2 ^ 8 - 1⟩,
      ⟨"ACTIVE", 24, 1, .ro, fun _ => 0, 0, 2 ^ 1 - 1⟩,
      ⟨"ERRORS", 32, 32, .ro, fun _ => 0, 0, 2 ^ 32 - 1⟩] },
  { name := "TST_DELAY", base := 0x1800400, dims := [(4, 0x8)], bits := 64, dom := .hub, fields := [⟨"POINT", 0, 3, .rw, fun _ => 0, 0, 4⟩,
      ⟨"UNIT", 3, 5, .rw, fun _ => 0, 0, 2 ^ 5 - 1⟩,
      ⟨"PROB", 8, 8, .rw, fun _ => 0, 0, 2 ^ 8 - 1⟩,
      ⟨"CLOCKS", 16, 16, .rw, fun _ => 0, 0, 2 ^ 16 - 1⟩,
      ⟨"EN", 32, 1, .rw, fun _ => 0, 0, 2 ^ 1 - 1⟩] },
  { name := "TST_BP", base := 0x1800440, dims := [(4, 0x8)], bits := 64, dom := .hub, fields := [⟨"POINT", 0, 2, .rw, fun _ => 0, 0, 2 ^ 2 - 1⟩,
      ⟨"UNIT", 2, 6, .rw, fun _ => 0, 0, 2 ^ 6 - 1⟩,
      ⟨"ON", 8, 8, .rw, fun _ => 0, 0, 2 ^ 8 - 1⟩,
      ⟨"PERIOD", 16, 8, .rw, fun _ => 0, 0, 2 ^ 8 - 1⟩,
      ⟨"EN", 24, 1, .rw, fun _ => 0, 0, 2 ^ 1 - 1⟩] },
  { name := "TST_JITTER", base := 0x1800480, dims := [], bits := 32, dom := .hub, fields := [⟨"J", 0, 4, .rw, fun _ => 0, 0, 2 ^ 4 - 1⟩,
      ⟨"EN", 4, 1, .rw, fun _ => 0, 0, 2 ^ 1 - 1⟩] },
  { name := "TST_LATE", base := 0x1800500, dims := [], bits := 64, dom := .hub, fields := [⟨"ENGINE", 0, 4, .rw, fun _ => 0, 0, 2 ^ 4 - 1⟩,
      ⟨"COUNT", 4, 8, .rw, fun _ => 0, 1, 255⟩,
      ⟨"BACKLOG", 12, 20, .rw, fun _ => 0, 0, 2 ^ 20 - 1⟩,
      ⟨"ARM", 32, 1, .wo, fun _ => 0, 0, 2 ^ 1 - 1⟩,
      ⟨"ARMED", 33, 1, .ro, fun _ => 0, 0, 2 ^ 1 - 1⟩] },
  { name := "TST_LATE_BELL", base := 0x1800508, dims := [], bits := 64, dom := .hub, fields := [⟨"BELL", 0, 64, .rw, fun _ => 0, 0, 2 ^ 64 - 1⟩] },
  { name := "TST_INJECT", base := 0x1800600, dims := [], bits := 64, dom := .hub, fields := [⟨"CODE", 0, 8, .rw, fun _ => 0, 0, 2 ^ 8 - 1⟩,
      ⟨"UNIT", 8, 5, .rw, fun _ => 0, 0, 2 ^ 5 - 1⟩,
      ⟨"ENGINE", 13, 4, .rw, fun _ => 0, 0, 2 ^ 4 - 1⟩,
      ⟨"DIE", 17, 1, .rw, fun _ => 0, 0, 2 ^ 1 - 1⟩,
      ⟨"ARM", 18, 1, .wo, fun _ => 0, 0, 2 ^ 1 - 1⟩,
      ⟨"CANCEL", 19, 1, .wo, fun _ => 0, 0, 2 ^ 1 - 1⟩,
      ⟨"ARMED", 20, 1, .ro, fun _ => 0, 0, 2 ^ 1 - 1⟩,
      ⟨"RESULT", 24, 8, .ro, fun _ => 0, 0, 2 ^ 8 - 1⟩] }]

/-- Rows of `regTable`, part 22. -/
def regRows22 : List RegRow := [
  { name := "TST_INJECT_BELL", base := 0x1800608, dims := [], bits := 64, dom := .hub, fields := [⟨"BELL", 0, 64, .rw, fun _ => 0, 0, 2 ^ 64 - 1⟩] },
  { name := "TST_INJECT_ADDR", base := 0x1800610, dims := [], bits := 64, dom := .hub, fields := [⟨"ADDR", 0, 48, .rw, fun _ => 0, 0, 2 ^ 48 - 1⟩] },
  { name := "TST_BIST", base := 0x1800700, dims := [], bits := 32, dom := .hub, fields := [⟨"CODE", 0, 3, .rw, fun _ => 0, 0, 2 ^ 3 - 1⟩,
      ⟨"UNIT", 3, 4, .rw, fun _ => 0, 0, 2 ^ 4 - 1⟩,
      ⟨"DIE", 7, 1, .rw, fun _ => 0, 0, 2 ^ 1 - 1⟩,
      ⟨"START", 8, 1, .wo, fun _ => 0, 0, 2 ^ 1 - 1⟩,
      ⟨"BUSY", 9, 1, .ro, fun _ => 0, 0, 2 ^ 1 - 1⟩,
      ⟨"RESULT", 16, 8, .ro, fun _ => 0, 0, 2 ^ 8 - 1⟩] },
  { name := "HUB_PAD", base := 0x100, dims := [], bits := 32, dom := .aux, fields := [⟨"CMOS_SLEW", 0, 2, .rw, fun _ => 1, 0, 2⟩,
      ⟨"LVDS_EDGE", 2, 2, .rw, fun _ => 1, 0, 2⟩] },
  { name := "HUB_SSC", base := 0x104, dims := [], bits := 32, dom := .aux, fields := [⟨"ENG", 0, 2, .rw, fun _ => 0, 0, 2⟩,
      ⟨"HUB", 2, 2, .rw, fun _ => 0, 0, 2⟩,
      ⟨"MREF", 4, 1, .rw, fun _ => 0, 0, 2 ^ 1 - 1⟩] },
  { name := "HUB_FILTER", base := 0x108, dims := [], bits := 32, dom := .aux, fields := [⟨"WAKE", 0, 8, .rw, fun _ => 10, 1, 255⟩,
      ⟨"ALERT", 8, 4, .rw, fun _ => 2, 1, 10⟩,
      ⟨"PERST", 12, 8, .rw, fun _ => 10, 1, 255⟩] }]

/-- Every register of the spec, in chapter order (Table 1.9 and the register tables of each chapter). -/
def regTable : List RegRow :=
  regRows0 ++
  regRows1 ++
  regRows2 ++
  regRows3 ++
  regRows4 ++
  regRows5 ++
  regRows6 ++
  regRows7 ++
  regRows8 ++
  regRows9 ++
  regRows10 ++
  regRows11 ++
  regRows12 ++
  regRows13 ++
  regRows14 ++
  regRows15 ++
  regRows16 ++
  regRows17 ++
  regRows18 ++
  regRows19 ++
  regRows20 ++
  regRows21 ++
  regRows22

end Sys2Proof.Machine
end

