-- ==== Sys2Proof/Machine/State.lean ====
section
/-! DEFINITION. The state of the block: plain data, holding every register field, queue, counter, mode and pin the spec
gives the module, the queue of waiting commands, and the outputs the module has put on its boundary. -/

namespace Sys2Proof.Machine

/-! ## Outputs at the boundary -/

/-- What the module puts on its boundary: requests and messages to the host, frames on the fabric, pins. The world outside
reads them; no rule of the module reads them back. -/
inductive Out where
  /-- An MSI-X message of a function: its vector, address and data (R182). -/
  | msix (func vec addr data : Nat)
  /-- A posted memory write to the host (R183): function, PASID, address, relaxed ordering, bytes. -/
  | hostWrite (func : Nat) (pasid : Option Nat) (addr : Nat) (ro : Bool) (bytes : List Nat)
  /-- A memory read request to the host, with its tag (R183). -/
  | hostRead (func : Nat) (pasid : Option Nat) (addr len tag : Nat) (ro : Bool)
  /-- A completion of a host request: status 0 success, 1 Unsupported Request, 2 Completer Abort, 3 Request Retry (R7, R188, R196).
  It always carries relaxed ordering 0 (R172, R178), and ID-based ordering where bit 9 of the function's Device Control 2 is 1 (Table 7.1). -/
  | completion (func status data len : Nat)
  /-- A bell frame sent on the fabric to a RKT_BELL_PEER entry (R226), and the bytes of the frame on the wire. -/
  | bellFrame (entry : Nat) (f : BellFrame) (bytes : List Nat)
  /-- A bell report sent to the parent entry (R229), and the bytes of the frame on the wire. -/
  | bellReport (entry : Nat) (r : BellReport) (bytes : List Nat)
  /-- A pulse or a level on a pin of the signal connector. -/
  | pin (name : String) (level : Bool)
  /-- A frame put on a fabric port (first lane), with its traffic class. -/
  | frame (port cls : Nat) (bytes : List Nat)
  /-- An RKT packet sent on a path table entry (R210, R216), and the bytes of its frame without the FCS. -/
  | rkt (path : Nat) (pkt : RktPkt) (bytes : List Nat)
  /-- An error message of a function to the root complex: 0 correctable, 1 non-fatal, 2 fatal (R188). -/
  | errorMessage (func severity : Nat)
  /-- A PFC frame sent on a port: priority and whether it pauses (R204). -/
  | pfc (port prio : Nat) (xoff : Bool)
  /-- A command to an SSD or to a remote target: backing, opcode, and words (R300, R303). -/
  | nvme (media : Nat) (opcode : Nat) (words : List Nat)
  /-- An admin command on a media port, and CC.EN of its controller (R303, Table 11.6). -/
  | nvmeAdmin (media : Nat) (opcode : Nat) (words : List Nat)
  | nvmeEnable (media : Nat) (on : Bool)
  /-- Blocks written to a volume by a granary drain (R350): volume, first block, bytes. -/
  | drain (vol lba : Nat) (bytes : List Nat)
  /-- A message on the sideband (R388, R389): command and bytes. -/
  | sideband (cmd : Nat) (bytes : List Nat)
  /-- A supply or clock action of the power block. -/
  | power (what : String) (value : Nat)
deriving DecidableEq, Repr
/-! ## The bell (chapter 01) -/

/-- What the bell generator keeps beside the BELL_ registers. -/
structure Bell where
  /-- Time of the edge that began the bell in progress, 0.25 ns units. -/
  edgeAt : Nat
  /-- Time at which the own generator reaches the next edge (R12, R15, R18). -/
  nextAt : Nat
  /-- Bell counter at the EN write, and edges since it (R15, R22). -/
  enCount : Nat
  edgesSinceEn : Nat
  /-- Consecutive edges within 25 ns (R15). -/
  goodEdges : Nat
  /-- Consecutive missing or rejected edges of the selected source (R16). -/
  missStreak : Nat
  /-- Consecutive missing frames of the master, for the deputy (R17). -/
  frameMiss : Nat
  /-- Bells spent in holdover (R16). -/
  holdBells : Nat
  /-- The source has given an accepted edge since EN (R12). -/
  sourceOn : Bool
  /-- The module has joined (R18) and has accepted a frame's epoch since EN (R17). -/
  joined : Bool
  epochSeen : Bool
  /-- CORR of the last frame accepted, 0 before the first (R16). -/
  corr : Nat
  /-- Parameters of the next bell: period in 125 ns units, pace in 25 MHz units (R19, R22). -/
  nextPeriod : Nat
  nextPace : Nat
  /-- The handover flag waits for this module's first frame as the new master (R17). -/
  handover : Bool
  /-- This module became master by handover: it serves ALT children (R230). -/
  alternate : Bool
  /-- Reports go to the alternate parent since a handover frame (R230). -/
  altParent : Bool
  /-- Good bells counted by the master's computation (R22). -/
  good : Nat
  /-- Late flag and backlog of the bell that ended last: this module's own part of its report (R20). -/
  ownLate : Bool
  ownBacklog : Nat
  /-- The own report of the bell before it, for the master's computation one edge later (R22, R229). -/
  prevLate : Bool
  prevBacklog : Nat
  /-- Last report of each child entry of RKT_BELL_PEER (index = entry). -/
  reports : Tab (Option BellReport)
  /-- A report of the child entries that was listed missing, streak of consecutive bells by packed coordinates (R343). -/
  missRuns : Tab Nat
  /-- Consecutive late bells of this module (R23). -/
  lateRun : Nat
  /-- Contained faults that are outstanding: the logical engine, and the first bell of its replay (R14, R334). -/
  faultBells : List (Nat × Nat)
  /-- Link-delay measurement: answers taken and the least value so far (R228). -/
  delayCount : Nat
  delayMin : Nat
  /-- Path table entry and ID of the measurement's probe that is not answered yet (R228). -/
  delayProbe : List (Nat × Nat)
  /-- Own attainable pace of the report last counted from this module itself (R22). -/
  lastOwnAtt : Option Nat
  /-- Time of the edge before, and the period of its bell (R16). -/
  prevEdgeAt : Nat
  prevPeriod : Nat
  /-- Recent bells whose frame, or whose BELL_IN edge, has been accepted or counted missing (R16). -/
  frameDone : List Nat
  inDone : List Nat
  /-- Recent bells for which an edge of BELL_IN was rejected (R16). -/
  inRejected : List Nat
  /-- Bell of the last report sent, plus 1 (R229). -/
  reportSent : Nat
deriving DecidableEq, Repr

/-- The bell generator at cold start. -/
def Bell.reset : Bell :=
  { edgeAt := 0, nextAt := 0, enCount := 0, edgesSinceEn := 0, goodEdges := 0, missStreak := 0, frameMiss := 0, holdBells := 0,
    sourceOn := false, joined := false, epochSeen := false, corr := 0, nextPeriod := 64, nextPace := 64, handover := false,
    alternate := false, altParent := false, good := 0, ownLate := false, ownBacklog := 0, prevLate := false, prevBacklog := 0,
    reports := [], missRuns := [], lateRun := 0, faultBells := [], delayCount := 0, delayMin := 0, delayProbe := [], lastOwnAtt := none,
    prevEdgeAt := 0, prevPeriod := 64, frameDone := [], inDone := [], inRejected := [], reportSent := 0 }

/-! ## Matrix engines (chapter 03) -/

/-- Where a MOP stands between acceptance and completion (R65 to R73). -/
inductive MopStage where
  | queued | chosen | streaming | draining | finished
deriving DecidableEq, Repr

/-- One accepted MOP: its sixteen words, its issuer's partition and what its phases have produced so far. -/
structure Mop where
  words : List Nat
  part : Nat
  bell : Nat
  /-- Status of a MOP rejected at acceptance (R59); none for one that runs. -/
  rej : Option Nat
  stage : MopStage
  chosenAt : Nat
  /-- Accumulator buffer of its chain (R62). -/
  buf : Nat
  /-- Its accumulator load has been made (R73). -/
  loaded : Bool
  /-- It was chosen beyond its partition's credit, and is charged nothing (R78). -/
  lent : Bool
  /-- When its first step issues and when the clock of its last step ends, 0.25 ns units (R71), whether it ramped (R80), the
  clocks of full-rate stepping at which each of its units ends (R68 to R70), and the clocks of each in which the array issues a
  step, 0 for a unit skipped. -/
  firstStep : Nat
  lastStep : Nat
  ramped : Bool
  unitEnds : List Nat
  unitSteps : List Nat
  /-- Up to when its waiting for its first step has been charged at edges (R77). -/
  paid : Nat
  /-- End of its accumulator load, later of its drain, on the drain port (R72, R73). -/
  portEnd : Nat
  /-- The bytes that the phase under way reads, as they stood when it began, and when it has read them (R74). -/
  view : List (Nat × Nat)
  viewEnd : Nat
  /-- The accumulators before its stream (R74). -/
  start : Tab Int
  accSat : Nat
  outSat : Nat
  fmtErr : Nat
  skipped : Nat
  /-- Output bytes of its drain that wait to be written: (module address, byte). -/
  out : List (Nat × Nat)
  /-- How far into those bytes each saturated element reaches (R48, R67). -/
  satEnds : List Nat
  /-- It was enqueued again by a replay (R336). -/
  replay : Bool
  /-- Bell counter when it was accepted (R163). -/
  since : Nat
  /-- Its chain broke while it was queued: it was not rejected at acceptance (R64, R65). -/
  cut : Bool
deriving DecidableEq, Repr

/-- The chain that an engine serves: its partition, shape and buffer, and since when it waits for its next MOP (R62, R64). -/
structure Chain where
  part : Nat
  rows : Nat
  cols : Nat
  buf : Nat
  waitFrom : Option Nat
deriving DecidableEq, Repr

/-- One engine slot: what R83 says is lost with it. -/
structure Slot where
  queue : List Mop
  /-- The two accumulator buffers: cell (i, j) at index 512·i + j (R44). -/
  buf0 : Tab Int
  buf1 : Tab Int
  lastBuf : Nat
  chain : Option Chain
  /-- Open chain of each partition as accepted: rows and columns of its first MOP (R59). -/
  accepted : Tab (Option (Nat × Nat))
  /-- Partitions with a break pending (R64). -/
  broken : Tab Bool
  /-- When the clock of the array's last step ended, or will end; none before the first (R71, R80). -/
  lastStep : Option Nat
  /-- When the drain port is free (R72, R73). -/
  portFree : Nat
  /-- The slot stands fenced by fault handling, its array stopped (chapter 13). -/
  fenced : Bool
  /-- When the engine is ready to step after a switch-over (R83). -/
  readyAt : Nat
deriving DecidableEq, Repr

/-- An empty slot. -/
def Slot.reset : Slot :=
  { queue := [], buf0 := [], buf1 := [], lastBuf := 1, chain := none, accepted := [], broken := [], lastStep := none,
    portFree := 0, fenced := false, readyAt := 0 }

/-! ## Contexts (chapter 04) -/

/-- One HEAVY announcement for one bell of one logical engine (R111). -/
structure Heavy where
  engine : Nat
  bell : Nat
  level : Nat
deriving DecidableEq, Repr

/-! ## Memories and copies (chapter 05) -/

/-- Where a CPD stands (R145, R147). -/
inductive CpdStage where
  | queued | inflight | remote | finished (status : Nat)
deriving DecidableEq, Repr

/-- Who handed a CPD over: a context, an armed or COPY request, a hub block, or fault handling's replay (R141, R144, R149). -/
inductive CpdSource where
  /-- A context, by its index; a work request; a hub block; a checkpoint context, what it sends (0 header, 1 data, 2 table,
  3 trailer) and the number of its run; a replay; nothing any more, its work request's queue having been reset. -/
  | context (c : Nat) | wqe (part q idx : Nat) | hub | ckp (k kind no : Nat) | replay | gone
deriving DecidableEq, Repr

/-- One accepted CPD: its eight words, its partition, whether it reaches only the partition's ranges, and its bell. -/
structure Cpd where
  id : Nat
  words : List Nat
  part : Nat
  levelP : Bool
  bell : Nat
  src : CpdSource
  stage : CpdStage
  /-- A write of it is held by the interlock on this region and chunk (R151). -/
  held : Option (Nat × Nat)
  /-- Bell counter when it was accepted (R163). -/
  since : Nat
deriving DecidableEq, Repr

/-- One entry of the replay log (R149). -/
structure LogCpd where
  words : List Nat
  part : Nat
  levelP : Bool
  bell : Nat
  only : Bool
  /-- Issuing context as core·4 + context (none for another issuer), its pb at issue or the bell counter, and whether a replay
  has let it run again (R336). -/
  ctx : Option Nat
  pb : Nat
  released : Bool
deriving DecidableEq, Repr

/-- One copy engine. -/
structure CopyEng where
  queue : List Cpd
  log : List LogCpd
  lastPart : Nat
  restore : Bool
deriving DecidableEq, Repr

/-- An idle copy engine. -/
def CopyEng.reset : CopyEng := { queue := [], log := [], lastPart := 0, restore := false }

/-- For whom bytes are written, where it matters that the interlock holds them: a data port (R155), an arriving message of a
connection, by its MSN (R245), a raw receive buffer (R272), a block-service command (R295), or a cipher request (R312). -/
inductive Writer where
  | other | port (i : Nat) | msg (conn msn : Nat) | recv (p q key : Nat) | blk (id : Nat) | cipher (id : Nat)
deriving DecidableEq, Repr

/-- One held write of the interlock: who waits and for which region and chunk (R151). -/
structure HeldWrite where
  region : Nat
  chunk : Nat
  since : Nat
  /-- Bytes to place on release: (module address, byte); empty when the holder is a CPD in flight, or an ATOMIC that waits to
  execute. -/
  bytes : List (Nat × Nat)
  who : Writer
deriving DecidableEq, Repr

/-- The write interlock and the memory's error and sparing state. -/
structure MemSt where
  /-- Units with an error that cannot be corrected, by the address of the unit's first byte (R448). -/
  bad : Tab Bool
  /-- Logical devices whose every granule was lost, and the granules written whole since (R136). -/
  lostDev : Tab Bool
  rewritten : Tab Bool
  /-- Granules lost one by one. -/
  lostGranule : Tab Bool
  /-- Physical position that serves each logical device; 31 none (R130). -/
  ldMap : Tab Nat
  /-- Planned promotions in progress, oldest first: position and standby (R136). -/
  promoting : List (Nat × Nat)
  /-- A sudden promotion waits for its edge: position and standby. -/
  sudden : List (Nat × Nat)
  /-- Next granule and commons word of the patrol scrubs (R129, R134). -/
  scrubAt : Nat
  commonsScrubAt : Nat
  /-- Chunks reached since arming, by region·2^21 + chunk (R151). -/
  reached : Tab Bool
  /-- Staging slots: region·2^21 + chunk of each chunk held in the commons (R152). -/
  staged : List Nat
  /-- The bytes of staged chunks as they stood: key·2^16 + offset. -/
  stagedBytes : Tab Byte
  /-- Lines of staged chunks that failed to read: key·2^16 + offset (R135). -/
  stagedBad : List Nat
  held : List HeldWrite
  /-- Time that released writes were held since arming, by region (R153). -/
  heldTime : Tab Nat
deriving DecidableEq, Repr

/-- The memories at cold start. -/
def MemSt.reset : MemSt :=
  { bad := [], lostDev := [], rewritten := [], lostGranule := [], ldMap := [], promoting := [],
    sudden := [], scrubAt := 0, commonsScrubAt := 0, reached := [], staged := [], stagedBytes := [], stagedBad := [], held := [], heldTime := [] }

/-- A data port: what prefetch holds (R155, R156). -/
structure DPort where
  ahead : Nat
deriving DecidableEq, Repr

/-! ## Partitions (chapter 06) -/

/-- Partition states (Table 6.3). -/
inductive PartState where
  | free | ready | run | freezing | frozen | stopped | fatal
deriving DecidableEq, Repr

/-- A partition command that waits for its edge, checked by the Reeve (R161): its code, TGT, target bell, PART_ARG word and
the grants it took. -/
structure PartCmd where
  part : Nat
  code : Nat
  tgt : Bool
  bell : Nat
  arg : Nat
  grants : Grants
  /-- The Reeve has checked it (R161). -/
  checked : Bool
  /-- RESTORE: the blob's digest verifies, its version, and the blob itself where another module wrote it (R174). -/
  digestOk : Bool
  major : Nat
  minor : Nat
  blob : Option Blob
  /-- BIND_VF: the VF that was checked (R161). -/
  vf : Nat
deriving DecidableEq, Repr

/-- One entry of the exception ring (R168). -/
structure ExcEntry where
  ctxid : Nat
  engine : Nat
  ecause : Nat
  epc : Nat
  eaddr : Nat
  pb : Nat
deriving DecidableEq, Repr

/-- The zero entry of a ring nothing was written to. -/
def ExcEntry.zero : ExcEntry := { ctxid := 0, engine := 0, ecause := 0, epc := 0, eaddr := 0, pb := 0 }

/-- A dirty-bitmap word that waits to be written to host memory (R172). -/
structure BitmapWrite where
  range : Nat
  word : Nat
  mapB : Bool
deriving DecidableEq, Repr

/-- One partition. -/
structure Part where
  state : PartState
  grants : Grants
  /-- A decrease that waits until the work accepted before its edge has ended (R163): the grants it leads to. -/
  shrink : Option Grants
  shrinkAt : Nat
  /-- First block-service command and cipher request accepted after that edge. -/
  shrinkBlk : Nat
  shrinkCiph : Nat
  /-- The VF bound by BIND_VF (R161). -/
  vf : Option Nat
  /-- Doorbells discarded and queue set-ups rejected (Table 6.7). -/
  dropped : Nat
  rejected : Nat
  excIndex : Nat
  ring : Tab ExcEntry
  /-- Edge of FREEZE, while FREEZING (R162). -/
  freezeAt : Option Nat
  /-- Bell of the FROZEN edge (R173). -/
  frozenBell : Nat
  logging : Bool
  activeB : Bool
  /-- Shadow of the active bitmap: range·2^22 + word (R172). -/
  shadow : Tab Nat
  bitmapDue : List BitmapWrite
deriving DecidableEq, Repr

/-- A free partition. -/
def Part.reset : Part :=
  { state := .free, grants := Grants.none, shrink := none, shrinkAt := 0, shrinkBlk := 0, shrinkCiph := 0, vf := none, dropped := 0, rejected := 0, excIndex := 0, ring := [],
    freezeAt := none, frozenBell := 0, logging := false, activeB := false, shadow := [], bitmapDue := [] }

/-! ## Host endpoint (chapter 07) -/

/-- Power-management state of the PF (R181). -/
inductive DState where
  | d0 | d3hot
deriving DecidableEq, Repr

/-- What an outstanding read of host memory is for, so that its completion or failure reaches its operation. -/
inductive ReadFor where
  | message (conn msg offset : Nat)
  | raw (p q idx firing offset : Nat)
  | block (cmd offset : Nat)
  | cipher (req offset : Nat)
  /-- The entry at a queue's fetch index, and the restore list of a checkpoint context (R185, R240, R355). -/
  | entry (p cls q : Nat)
  | restore (k offset : Nat)
  /-- Nothing any more: its operation has ended. -/
  | gone (part : Nat)
deriving DecidableEq, Repr

/-- One outstanding non-posted request (R183, R185). -/
structure HostRead where
  func : Nat
  pasid : Option Nat
  addr : Nat
  len : Nat
  got : Nat
  use : ReadFor
  issuedAt : Nat
  /-- The bytes returned so far. -/
  data : List Nat := []
deriving DecidableEq, Repr

/-- A tag in quarantine: when it may be reused, and whether its request was orphaned (R185, R186, R193). -/
structure Quarantine where
  endsAt : Nat
  orphan : Bool
  func : Nat
deriving DecidableEq, Repr

/-- One MSI-X vector: its masked bit, its pending bit, and its message's address and data (R182, Table 7.2). -/
structure Vector where
  masked : Bool
  pending : Bool
  addr : Nat
  data : Nat
deriving DecidableEq, Repr

/-- One recorded AER error: its kind and the four header doublewords (R189). -/
structure AerEntry where
  err : String
  header : List Nat
deriving DecidableEq, Repr

/-- Configuration space and DMA state of the endpoint. -/
structure Pci where
  /-- Configuration requests are served (R196). -/
  configured : Bool
  /-- PERST_N is asserted. -/
  perst : Bool
  training : Bool
  dstate : DState
  /-- Bus Master Enable by function, 0 the PF (R190). -/
  bme : Tab Bool
  /-- Enable Relaxed Ordering by function; the base specification's default is 1 (R178). -/
  roEnable : Tab Bool
  vfEnable : Bool
  numVfs : Nat
  /-- Device Control 2 completion timeout value and disable bit of the PF (R184). -/
  cplTimeout : Nat
  cplDisable : Bool
  msixEnable : Tab Bool
  funcMask : Tab Bool
  /-- MSI-X vectors by function·4096 + vector. -/
  vectors : Tab Vector
  reads : Tab (Option HostRead)
  quarantine : Tab (Option Quarantine)
  nextTag : Nat
  /-- AER status by function, and the header log with its overflow bit (R188, R189). -/
  aerStatus : Tab (List String)
  aerLog : Tab (List AerEntry)
  aerOverflow : Tab Bool
  /-- Heartbeat: period began at, its length in force, a write came in it (R198). -/
  hbStart : Nat
  hbPeriod : Nat
  hbSeen : Bool
  /-- Partitions to quiesce and to resume at the next edge (R198 to R200). -/
  quiesceDue : List Nat
  resumeDue : List Nat
  /-- Caps of width and speed from the configuration image (R175), and configuration registers that hold what was written, by
  function·4096 + offset (R180). -/
  capWidth : Nat
  capSpeed : Nat
  cfg : Tab Nat
  /-- Requests held while Bus Master Enable is 0 or no tag is free: partition and write, or partition, PASID, address,
  length and use of a read (R190). -/
  heldReqs : List (Nat × Out)
  heldReads : List (Nat × Option Nat × Nat × Nat × ReadFor)
deriving DecidableEq, Repr

/-- A vector after reset: not masked by this model's field until software masks it, nothing pending. -/
def Vector.reset : Vector := { masked := true, pending := false, addr := 0, data := 0 }

/-- The endpoint before its configuration. -/
def Pci.reset : Pci :=
  { configured := false, perst := true, training := false, dstate := .d0, bme := [], roEnable := [], vfEnable := false, numVfs := 0,
    cplTimeout := 0, cplDisable := false, msixEnable := [], funcMask := [], vectors := [], reads := [], quarantine := [],
    nextTag := 0, aerStatus := [], aerLog := [], aerOverflow := [], hbStart := 0, hbPeriod := 100, hbSeen := false,
    quiesceDue := [], resumeDue := [], capWidth := 16, capSpeed := 5, cfg := [], heldReqs := [], heldReads := [] }
/-! ## Fabric and transport (chapters 08 and 09) -/

/-- On whose behalf a message is sent: a work request (partition, send queue, ring index, firing), a copy (unit, id), a block-service command, or a
peer's request that it answers. -/
inductive MsgOwner where
  | wqe (part q idx firing : Nat)
  | cpd (unit id : Nat)
  | blk (id : Nat)
  | response
  /-- Nothing any more: its operation has ended, and what the message still brings is dropped. -/
  | gone
deriving DecidableEq, Repr

/-- What an arriving message is bound to (R238, R239): a region entry's index, and its generation, base, length and slice at
binding. -/
structure Bound where
  idx : Nat
  gen : Nat
  base : Nat
  len : Nat
  slice : Nat
deriving DecidableEq, Repr

/-- One message handed to a connection's sender (R213): its type and extension fields, and its payload. -/
structure TxMsg where
  msn : Nat
  typ : Nat
  ext : List Nat
  imm : Bool
  len : Nat
  data : List Nat
  /-- Host bytes of its payload not yet read (R183). -/
  missing : Nat
  /-- First PSN of its packets (R213). -/
  psn : Nat
  owner : MsgOwner
  /-- Local place of a READ's or ATOMIC's answer: partition address or host address, and slice (R242). -/
  laddr : Nat
  slice : Nat
  /-- A READ or ATOMIC whose request is delivered and whose answer is still to come. -/
  answered : Bool
  /-- Its owner has learned its end; it stays until its packets are acknowledged (R220, R222). -/
  ended : Bool := false
  /-- Bell counter when it was handed over (R163). -/
  since : Nat
  /-- Of the answer to a READ: the region that the request was bound to (R239). -/
  bound : Option Bound := none
deriving DecidableEq, Repr

/-- One PSN in flight (R216): slot, PPSN, time sent, transmissions, bytes, and whether it waits to be sent again. -/
structure Flight where
  psn : Nat
  slot : Nat
  ppsn : Nat
  sentAt : Nat
  tries : Nat
  bytes : Nat
  lost : Bool
  /-- Refused by NAK = 1: sent again after the hold, not counted toward RETRY_LIMIT (R250). -/
  refused : Bool
  acked : Bool
deriving DecidableEq, Repr

/-- One path slot of a connection: the congestion state of R225 and the PPSN counter of R216. -/
structure PathSlot where
  cwnd : Nat
  alpha : Nat
  ackedWin : Nat
  ceWin : Nat
  minRtt : Nat
  winEnd : Nat
  nextPpsn : Nat
  /-- End of the round trip in which a declared loss has already halved the window (R220). -/
  halvedTill : Nat
  /-- Receiver: bytes received with CE since the previous ACK for the slot (Table 8.6). -/
  ceBytes : Nat
deriving DecidableEq, Repr

/-- A slot of a connection just enabled; its window is set at CONN_ENABLE. -/
def PathSlot.reset : PathSlot :=
  { cwnd := 0, alpha := 0, ackedWin := 0, ceWin := 0, minRtt := 0xffffffff, winEnd := 0, nextPpsn := 0, halvedTill := 0, ceBytes := 0 }

/-- An arriving message (R218): opened at its first packet. -/
structure RxMsg where
  msn : Nat
  typ : Nat
  len : Nat
  placed : Nat
  ext : List Nat
  imm : Bool
  /-- The region it is bound to, as its entry stood then (R239). -/
  bound : Option Bound
  /-- The RECV it took: ring index + 65536·firing, LADDR, LEN and USER (R250). -/
  recv : Option (Nat × Nat × Nat × Nat)
  /-- Every byte is placed: it waits for its turn in MSN order. -/
  complete : Bool
  /-- Bell counter when it was opened (R163). -/
  since : Nat
deriving DecidableEq, Repr

/-- States of a connection (R233). -/
inductive ConnState where
  | reset | rts | error
deriving DecidableEq, Repr

/-- One connection: sender and receiver. -/
structure Conn where
  state : ConnState
  part : Nat
  qp : Nat
  epoch : Nat
  /-- Sender. -/
  nextMsn : Nat
  nextPsn : Nat
  /-- Lowest MSN not known to be delivered. -/
  firstMsn : Nat
  msgs : List TxMsg
  /-- Next PSN to be sent for the first time. -/
  sendPsn : Nat
  flights : List Flight
  credit : Nat
  slots : Tab PathSlot
  lastSlot : Nat
  /-- Smoothed round trip and variation in ns, none before the first sample (R221). -/
  srtt : Option Nat
  rttvar : Nat
  /-- Held by NAK = 1, and consecutive holds (R220, R250). -/
  nakHold : Bool
  /-- When the last NAK = 1 came, and when RESYNC was last sent; an ACK with this NAK code waits for a slot that is up (R223). -/
  nakAt : Nat
  resyncAt : Nat
  ackHeld : Option Nat
  rnrCount : Nat
  /-- RESYNC sent and not answered: times sent, and its NEW_PSN (R222). -/
  resync : Option Nat
  resyncPsn : Nat
  /-- TSTAMPs of retransmissions, whose ACKs give no round-trip sample (R221). -/
  retxStamps : List Nat
  /-- Its packets wait because every slot is down, since this time (R223). -/
  downSince : Option Nat
  /-- Receiver. -/
  cum : Nat
  got : List Nat
  dlv : Nat
  opens : List RxMsg
  sinceAck : Nat
  firstUnacked : Option Nat
  lastHoleAck : Nat
  ackSlot : Nat
  ackEcho : Nat
  creditSent : Nat
  /-- RECVs that messages discarded by a resync keep, by MSN (R250): ring index + 65536·firing, LADDR, LEN, USER. -/
  kept : List (Nat × Nat × Nat × Nat × Nat)
deriving DecidableEq, Repr

/-- A connection in RESET. -/
def Conn.reset : Conn :=
  { state := .reset, part := 0, qp := 0, epoch := 0, nextMsn := 0, nextPsn := 0, firstMsn := 0, msgs := [], sendPsn := 0, flights := [],
    credit := 0, slots := [], lastSlot := 15, srtt := none, rttvar := 0, nakHold := false, nakAt := 0, resyncAt := 0, ackHeld := none, rnrCount := 0, resync := none,
    resyncPsn := 0, retxStamps := [], downSince := none, cum := 0, got := [], dlv := 0, opens := [], sinceAck := 0, firstUnacked := none, lastHoleAck := 0,
    ackSlot := 0, ackEcho := 0, creditSent := 0, kept := [] }

/-- Path table entry: consecutive RTO firings, consecutive probe answers, the next probe's ID, the ID of the probe that is not
answered yet, and when the entry was last probed or went down (R223, R224). -/
structure PathSt where
  rtos : Nat
  answers : Nat
  probeId : Nat
  probeOut : Option Nat
  probeAt : Nat
deriving DecidableEq, Repr

/-- A path entry nothing happened to. -/
def PathSt.reset : PathSt := { rtos := 0, answers := 0, probeId := 0, probeOut := none, probeAt := 0 }

/-! ## Fault tolerance and checkpoints (chapter 13) -/

/-- A bell snapshot of a context (R332): its bell and its registers. -/
structure Snap where
  bell : Nat
  ctx : Ctx
deriving DecidableEq, Repr

/-- One entry of an engine's MOP log (R333): the MOP, its partition and bell, the issuing context as core·4 + context (none
for another issuer), that context's pb at issue, and whether a replay has enqueued it again. -/
structure LogMop where
  words : List Nat
  part : Nat
  bell : Nat
  ctx : Option Nat
  pb : Nat
  released : Bool
deriving DecidableEq, Repr

/-- One completion that an engine or its copy engine posted: partition, bell in progress then, and the counter bumped (R336). -/
structure Posted where
  part : Nat
  bell : Nat
  bump : Option Nat
deriving DecidableEq, Repr

/-- A replay of one logical engine (R334 to R336). -/
structure Replay where
  b0 : Nat
  d : Nat
  /-- The contexts have restarted (REPLAY_START). -/
  begun : Bool
  /-- Completions of each partition that the first run posted and the replay has not yet repeated. -/
  left : Tab Nat
  /-- First-run bumps that the replay has not yet repeated, by partition·2^16 + counter identifier. -/
  hidden : Tab Nat
  /-- Contexts, as core·4 + context, that restarted. -/
  ctxs : List Nat
deriving DecidableEq, Repr

/-- One checkpoint being written (R347, R348): its edge, step and slot, the header, the segment table, the user record is in
the header; the copies still to be accepted (module address, length, interlock region, offset in the slot), the PUTs
accepted and not ended, and the phase: 0 header and data, 1 table, 2 trailer. -/
structure CkpRun where
  bell : Nat
  step : Nat
  slot : Nat
  header : List Nat
  table : List Nat
  trailer : List Nat
  todo : List (Nat × Nat × Nat × Nat)
  waiting : Nat
  phase : Nat
  /-- Number of the run in its context. -/
  no : Nat
deriving DecidableEq, Repr

/-- A checkpoint context: the run under way, the committed step of each granary slot, and interlock regions to disarm at the
next edge. -/
structure Ckp where
  run : Option CkpRun
  /-- A trigger that waits for its edge: the edge, and the step of a step-mode trigger (R346). -/
  due : Option (Nat × Option Nat)
  /-- The edge at which the timer was last looked at. -/
  seen : Option Nat
  step0 : Option Nat
  step1 : Option Nat
  disarm : List Nat
  /-- Runs begun so far. -/
  runs : Nat
  /-- The restore list as the host returned it, and its bytes still to come (R355). -/
  list : List Nat
  listMissing : Nat
deriving DecidableEq, Repr

/-- An idle checkpoint context. -/
def Ckp.reset : Ckp := { run := none, due := none, seen := none, step0 := none, step1 := none, disarm := [], runs := 0, list := [], listMissing := 0 }

/-- A switch-over that waits for its spare (R82): its engine, the bells b0 to d of its replay, and whether it counts toward the
limits of R331 or was planned. -/
structure SpareWait where
  n : Nat
  d : Nat
  b0 : Nat
  counted : Bool
  planned : Bool
deriving DecidableEq, Repr

/-- What fault handling keeps in die-level state. -/
structure Flt where
  /-- Switch-overs ordered before their spare is ready, in order (R82). -/
  waitSpare : List SpareWait
  /-- Bell snapshots by logical engine·16 + core·4 + context. -/
  snaps : Tab (List Snap)
  /-- MOP logs, completions posted and replays by logical engine. -/
  mopLogs : Tab (List LogMop)
  posted : Tab (List Posted)
  replays : Tab (Option Replay)
  /-- For each engine the last bells of the replays that count toward the limit and may hold an uncommitted bell (R331). -/
  tries : Tab (List Nat)
  /-- Bell of a slot's last contained fault, plus 1 (R331). -/
  lastFault : Tab Nat
  /-- Last step announced by a partition, plus 1 (R112, R346). -/
  steps : Tab Nat
  /-- Granary slots marked lost, by entry·2 + slot (R330, R351). -/
  granLost : Tab Bool
  /-- Generations that the wards of the hosted granaries have committed, by entry (R350). -/
  granGens : Tab Nat
  ckps : Tab Ckp
  /-- Partitions that enter FATAL at the next edge (R341, R342). -/
  fatalDue : List Nat
  /-- Physical slots that a planned switch-over took out of service (R340, R425). -/
  planned : Tab Bool
deriving DecidableEq, Repr

/-- Fault handling at cold start. -/
def Flt.reset : Flt :=
  { waitSpare := [], snaps := [], mopLogs := [], posted := [], replays := [], tries := [], lastFault := [], steps := [], granLost := [], granGens := [], ckps := [], fatalDue := [], planned := [] }
/-- The event log's marks (R386): slots of the ring whose entry has been read, entries that are not yet in flash, oldest first,
 and the persistent log in flash, oldest first. -/
structure EvLog where
  seen : Tab Bool
  waiting : List (List Nat)
  flash : List (List Nat)
deriving DecidableEq, Repr

/-- No entry. -/
def EvLog.reset : EvLog := { seen := [], waiting := [], flash := [] }


/-! ## Frames on the fabric (chapters 08 and 10) -/

/-- Where an RKT packet goes (R210, R215): the peer's IP address, the sending connection, the key that seals it as it leaves (R324),
and that key's module slot with its era (R319). -/
structure TxDest where
  addr : Nat
  conn : Option Nat
  key : Option (List Nat)
  slot : Option (Nat × Nat) := none
deriving DecidableEq, Repr

/-- What a waiting frame carries. -/
inductive TxBody where
  | rkt (path : Nat) (pkt : RktPkt) (dest : TxDest)
  /-- A raw SEND: partition, queue, ring index, firing, and the frame's bytes. -/
  | raw (p q idx firing : Nat) (bytes : List Nat)
  | firmware (bytes : List Nat)
  /-- A bell frame to a peer entry on a path table entry, with the CORR it starts from at a time (R226). -/
  | bell (entry path : Nat) (f : BellFrame) (since : Nat)
  | report (entry path : Nat) (r : BellReport)
deriving DecidableEq, Repr

/-- A frame that waits at a port: traffic class (8 the control class), partition it is charged to (0 for P0 and firmware),
and length from destination MAC address through FCS. -/
structure TxFrame where
  cls : Nat
  part : Nat
  len : Nat
  body : TxBody
deriving DecidableEq, Repr

/-- A deficit-round-robin ring (R282): the place served, whether its quantum is still to be added on this visit, deficits. -/
structure Drr where
  ptr : Nat
  fresh : Bool
  deficit : Tab Nat
deriving DecidableEq, Repr

/-- A ring nothing was served from. -/
def Drr.reset : Drr := { ptr := 0, fresh := true, deficit := [] }

/-- One fabric port's egress and pause state. -/
structure PortSt where
  waiting : List TxFrame
  classes : Drr
  /-- Rings of partitions by class·2 + tier. -/
  parts : Tab Drr
  /-- By class (R283): the last look at which it was eligible, plus 1; the time for which it has been eligible without a frame started;
  and when a frame came to a class in which none waited, plus 1. -/
  eligible : Tab Nat
  aged : Tab Nat
  arrived : Tab Nat
  /-- Time a priority became paused, plus 1, and when its quanta end (R204, R205); when a storm's 10 ms end, plus 1; PFC frames
  counted in storms (R205). -/
  paused : Tab Nat
  pauseEnd : Tab Nat
  stormEnd : Tab Nat
  stormFrames : Nat
  /-- Bytes that each priority holds of the ingress buffer, and the priorities this port has paused at its partner (R204). -/
  ingress : Tab Nat
  xoff : Tab Bool
  /-- PAUSE frames discarded (Table 8.2), and frames dropped (R203). -/
  pauses : Nat
  drops : Nat
  /-- A retrain waits for the packets that the port carried (R209). -/
  retraining : Bool
  /-- Take-over bell of the almanac in force (R284), and width before a retrain (R209). -/
  takenAt : Nat
  widthBefore : Nat
deriving DecidableEq, Repr

/-- A port at cold start. -/
def PortSt.reset : PortSt :=
  { waiting := [], classes := Drr.reset, parts := [], eligible := [], aged := [], arrived := [], paused := [], pauseEnd := [], stormEnd := [], stormFrames := 0,
    ingress := [], xoff := [], pauses := 0, drops := 0, retraining := false, takenAt := 0, widthBefore := 0 }

/-- Class settings in force since the last refill (R287). -/
structure ClassCfg where
  strict : Bool
  weight : Nat
  rate : Nat
  prio : Nat
  burst : Nat
  dscp : Nat
deriving DecidableEq, Repr

/-- A decision of the pipeline (R266, R270): ACTION, PART, QUEUE after any hash; an entry whose hash found no valid entry
drops as TARGET. -/
structure Decision where
  action : Nat
  part : Nat
  queue : Nat
  badEntry : Bool
deriving DecidableEq, Repr

/-- One entry of the fragment table (R276). -/
structure FragEntry where
  key : List Nat
  decision : Decision
  lastUse : Nat
deriving DecidableEq, Repr

/-- One held later fragment (R277). -/
structure HeldFrag where
  key : List Nat
  bytes : List Nat
  heldAt : Nat
deriving DecidableEq, Repr

/-- A raw SEND whose host bytes are still being read (R273). -/
structure RawSend where
  p : Nat
  q : Nat
  idx : Nat
  firing : Nat
  port : Nat
  cls : Nat
  bytes : List Nat
  missing : Nat
  /-- Bell counter when it ran (R163). -/
  since : Nat
deriving DecidableEq, Repr

/-- The packet path and the traffic scheduler. -/
structure Fab where
  ports : Tab PortSt
  /-- Tokens in bits: classes by port·8 + class; guarantee and ceiling buckets by partition. -/
  classTokens : Tab Int
  gTokens : Tab Int
  cTokens : Tab Int
  classCfg : Tab (Option ClassCfg)
  /-- SCH_CFG in force: OVERHEAD, PBURST and FW_CLASS since the last refill, REFILL since the last edge (R287). -/
  overhead : Nat
  pburst : Nat
  fwClass : Nat
  refillEvery : Nat
  lastRefill : Nat
  frags : List FragEntry
  heldFrags : List HeldFrag
  raws : List RawSend
  /-- Raw receive buffers with bytes that the interlock holds: partition, queue, key and bytes of the frame (R272). -/
  rawHeld : List (Nat × Nat × Nat × Nat)
  /-- Frames handed to the I/O-core firmware's frame service: PART, QUEUE and bytes (R270). -/
  service : List (Nat × Nat × List Nat)
  /-- Shadow words 1-10 of PKT_HASH by partition·16 + word (R275). -/
  hashShadow : Tab Nat
deriving DecidableEq, Repr

/-- The packet path at cold start. -/
def Fab.reset : Fab :=
  { ports := [], classTokens := [], gTokens := [], cTokens := [], classCfg := [], overhead := 20, pburst := 16, fwClass := 7,
    refillEvery := 8, lastRefill := 0, frags := [], heldFrags := [], raws := [], rawHeld := [], service := [], hashShadow := [] }
/-! ## Block service (chapter 11) -/

/-- Where a fetched block-service command stands. -/
inductive BlkStage where
  /-- Taken from its ring, while its page list or its TRIM ranges are read from the host (R185, R292). -/
  | listing
  | fetched | ready | dispatched | back (status nvme : Nat)
deriving DecidableEq, Repr

/-- One fetched block-service command (R292, R297): its queue and ring index, its words, the entries of its page list or its
TRIM ranges, and the time its doorbell came. -/
structure BlkCmd where
  id : Nat
  part : Nat
  queue : Nat
  idx : Nat
  words : List Nat
  list : List Nat
  age : Nat
  urgent : Bool
  stage : BlkStage
  /-- Host bytes of a WRITE still to be read; remote messages still to end, and whether one failed. -/
  missing : Nat
  left : Nat
  failed : Bool
  /-- Its data has been written to the buffer (R295). -/
  landed : Bool
  /-- The ending that a reset or an abort gives it (R299), and whether it posts nothing (R302). -/
  kill : Option Nat
  silent : Bool
  /-- When its backing was given it (R304). -/
  sentAt : Nat
  /-- The words of a TRIM's ranges (Table 11.3), and the bytes of a list that is still being read. -/
  ranges : List Nat := []
  raw : List Nat := []
deriving DecidableEq, Repr

/-- A self-test that runs on an SSD (R306): its command, whether it is the extended one, and the test time up to `since`, 0.25 ns units. -/
structure SsdTest where
  cmd : Nat
  extended : Bool
  time : Nat
  since : Nat
deriving DecidableEq, Repr

/-- The block service and the media ports. -/
structure Blk where
  cmds : List BlkCmd
  nextId : Nat
  /-- Staged bytes by command·2^21 + offset (R295). -/
  stage : Tab Byte
  /-- Producer index and time of each doorbell that made commands visible, by queue key (R298). -/
  bells : Tab (List (Nat × Nat))
  /-- Commands promoted before their fetch, by queue key: ring indices (R298). -/
  promoted : Tab (List Nat)
  /-- Weighted round: class served (1 HIGH, 2 MEDIUM, 3 LOW) and what is left of its weight (R297). -/
  roundClass : Nat
  roundLeft : Nat
  /-- Partition and queue of a partition served last, by class and by class·64 + partition. -/
  lastPart : Tab Nat
  lastQueue : Tab Nat
  /-- Namespaces that an SSD reported (R303). -/
  spaces : Tab (List Namespace)
  tests : Tab (Option SsdTest)
deriving DecidableEq, Repr

/-- The block service at cold start. -/
def Blk.reset : Blk :=
  { cmds := [], nextId := 0, stage := [], bells := [], promoted := [], roundClass := 1, roundLeft := 0, lastPart := [], lastQueue := [],
    spaces := [], tests := [] }

/-! ## Cipher engine (chapter 12) -/

/-- One key slot (R317): whether it holds a key, its type, usage set, generation and material; `era` counts its erasures (R319). -/
structure KeySlot where
  full : Bool
  era : Nat
  typ : Nat
  usage : Nat
  gen : Nat
  mat : List Nat
deriving DecidableEq, Repr

/-- A slot at cold start. -/
def KeySlot.reset : KeySlot := { full := false, era := 0, typ := 0, usage := 0, gen := 0, mat := [] }

/-- One cipher core (R308, R315): the epoch it has adopted, its count, and the slots whose expanded keys it caches. -/
structure CipherCore where
  epoch : Nat
  count : Nat
  cache : List Nat
deriving DecidableEq, Repr

/-- A core at cold start. -/
def CipherCore.reset : CipherCore := { epoch := 0, count := 0, cache := [] }

/-- Where a cipher request stands. -/
inductive CipherStage where
  | queued | started (core : Nat) | ended (status : Nat)
deriving DecidableEq, Repr

/-- One cipher request (R309): its partition, queue (0xFFFF for CP2), ring index and words; the key it took at its start;
host bytes still to be read and those read, by place·2^26 + offset (0 SRC, 1 AUX, 2 CTX, 3 RES). -/
structure CipherReq where
  id : Nat
  part : Nat
  queue : Nat
  idx : Nat
  words : List Nat
  stage : CipherStage
  key : Option KeySlot
  missing : Nat
  host : Tab Byte
  info : Nat
  silent : Bool
deriving DecidableEq, Repr

/-- A packet of a connection that waits for a nonce: connection, path slot, partition (R316). -/
structure HeldPkt where
  conn : Nat
  slot : Nat
  part : Nat
  pkt : RktPkt
deriving DecidableEq, Repr

/-- The cipher engine: key slots by partition·512 + slot, partition and export keys, and the words written of an export key
before its commit, by partition·8 + word (R320). -/
structure Ciph where
  keys : Tab KeySlot
  partKeys : Tab (Option (List Nat))
  exportKeys : Tab (Option (List Nat))
  ekWords : Tab Nat
  cores : Tab CipherCore
  reqs : List CipherReq
  nextId : Nat
  lastPart : Nat
  lastQueue : Tab Nat
  heldPkts : List HeldPkt
  /-- AUX_LEN of the FIRST request of a SHAKE256 chain, by context address·64 + partition. -/
  shake : Tab Nat
  /-- An alarm has erased the keys and new partition keys are still to be made (R328). -/
  alarm : Bool
deriving DecidableEq, Repr

/-- The cipher engine at cold start. -/
def Ciph.reset : Ciph :=
  { keys := [], partKeys := [], exportKeys := [], ekWords := [], cores := [], reqs := [], nextId := 0, lastPart := 0, lastQueue := [], heldPkts := [], shake := [], alarm := false }

/-! ## Power (chapter 14) -/

/-- A request of PWR_REQ, an entry or a return under way (R361, R367, R368). -/
inductive Transit where
  /-- Entering a state: 2 Sleep, 3 Deep sleep, 4 Off; when the request came. -/
  | entering (target : Nat)
  /-- Leaving Sleep (false) or Deep sleep (true); the next step of Table 14.4, 0-3. -/
  | returning (deep : Bool) (step : Nat)
deriving DecidableEq, Repr

/-- What the power block keeps beside its registers. Blocks of Table 14.2 by index: engine slots 0-17, tending cores 18-89,
copy engines 90-111, I/O cores 112-143. -/
structure Pwr where
  /-- Gated blocks, whole bells without work, blocks that have had work since the last edge (R360). -/
  gated : Tab Bool
  idle : Tab Nat
  touched : Tab Bool
  transit : Option Transit
  /-- The module is in Off: PF BAR0 does not answer (R359). -/
  off : Bool
  /-- ME_MAP of both dies as Deep sleep found it, and the failed slots of both (R363). -/
  savedMap : List Nat
  /-- The ports on whose first lane a vesper detector listens in Deep sleep, with their MAC addresses (R366). -/
  vesper : List (Nat × Nat)
  /-- Engine clock in use of the compute dies in 25 MHz units, and supply in place in mV (R369, R371). -/
  clock : Nat
  volt : Nat
  /-- Pace that a clock change held for the voltage waits for (R369). -/
  wanted : Option Nat
  /-- Input power samples of 10 µs in W, newest first, at most one TAU of them; energy not yet in PWR_ENERGY,
  1e-7 mJ (R374). -/
  samples : List Nat
  energy : Nat
  /-- The good bells of R374, and for how many samples the average has been above the cap at cap pace 16. -/
  capGood : Nat
  overCount : Nat
  /-- Edges since the thermal pace last fell, and edges with every sensor 5 °C below its throttle limit (R378). -/
  hot : Nat
  cool : Nat
  /-- Sources of FLOOR that hold or have not been clear for ALERT_HOLD µs: 0 alert pin, 1 regulators, 2 input, 3 sensors (R376). -/
  floors : List Nat
  /-- Bell and millivolts of the pre-bias in force (R380). -/
  prebias : Option (Nat × Nat)
  /-- Dies whose clock is stretched (R381): since when. -/
  stretch : Tab Nat
  /-- AUX_OUT is up, and the AUX converter runs (R427, R429); the hot-swap switch has opened (R430). -/
  auxOut : Bool
  aux : Bool
  switchOpen : Bool
  /-- Frames held in the ingress buffers until LOGIC_RDY: port and bytes (R365). -/
  held : List (Nat × List Nat)
  /-- Engine clocks lost in this bell to a rail that was late at its edge, and since when they are being lost (R370). -/
  lost : Nat
  lostFrom : Option Nat
  /-- The engine clocks that were in use before, newest first: until when, and the pace (R106, R114). -/
  paces : List (Nat × Nat)
deriving DecidableEq, Repr

/-- The power block at cold start. -/
def Pwr.reset : Pwr :=
  { gated := [], idle := [], touched := [], transit := none, off := false, savedMap := [], vesper := [], clock := 64, volt := 750, wanted := none,
    samples := [], energy := 0, capGood := 0, overCount := 0, hot := 0, cool := 0, floors := [], prebias := none, stretch := [],
    auxOut := true, aux := true, switchOpen := false, held := [], lost := 0, lostFrom := none, paces := [] }

/-! ## Saved partitions (chapter 06) -/

/-! ## The Reeve, flash and AUX storage (chapter 15) -/

/-- A firmware package in use or verified (R400): version fields and its components as (type, digest, bytes). -/
structure Firmware where
  major : Nat
  minor : Nat
  patch : Nat
  svn : Nat
  comps : List (Nat × List Nat × List Nat)
deriving DecidableEq, Repr

/-- The Reeve, its flash and AUX storage. -/
structure Reeve where
  /-- The AUX key register holds the secret (R407). -/
  auxKey : Bool
  /-- Cached repair results under their sealed tag (R398, R399). -/
  cache : Option Repair
  /-- Flash: owner record, configuration slots, SVN floor, end of the last leaf reservation and last clean leaf (R390, R409). -/
  owner : List Nat
  slotA : List Nat
  slotB : List Nat
  svnFloor : Nat
  leafEnd : Nat
  leafClean : Option Nat
  /-- Epochs recorded in flash (R316). -/
  epoch : Nat
  /-- Image in use, none in recovery; access lists of the I/O cores (R382). -/
  image : Option (List Nat)
  access : Tab Nat
  /-- A start step has failed and a cold start follows (R396), 100 ms after this time. -/
  retry : Bool
  retryFrom : Nat
  /-- Operational firmware: running, and in the second bank (R403). -/
  fw : Option Firmware
  staged : Option Firmware
  /-- Watchdog started at; times of the Reeve resets (R383); cause of the last (Table 15.1); STATECMP. -/
  wdogAt : Nat
  resets : List Nat
  cause : Nat
  stateCmp : Bool
  /-- The heartbeat watch is suspended by a Reeve reset (R385). -/
  hbHeld : Bool
  /-- Commands written during a Reeve reset (R385): power requests by target and their sideband mark; firmware commands as 100
  and their code, configuration writes as 110 and their slot. -/
  waiting : List (Nat × Bool)
  /-- Least and greatest value of each sensor and of the input power (index 66) since the last sideband read (R386). -/
  extremes : Tab (Option (Int × Int))
  /-- I3C: dynamic address, static address; MCTP endpoint (R387, R388). -/
  dynAddr : Option Nat
  staticAddr : Nat
  eid : Nat
  /-- The report last signed for the sideband (R410). -/
  report : List Nat
  /-- Tending cores whose handler image is still to be rewritten by a switch-over (R404): 4 times the engine, plus the core. -/
  handlers : List Nat
deriving DecidableEq, Repr

/-- The Reeve before its first start: nothing in flash, nothing in AUX storage. -/
def Reeve.reset : Reeve :=
  { auxKey := false, cache := none, owner := [], slotA := [], slotB := [], svnFloor := 0, leafEnd := 0, leafClean := some 0, epoch := 0,
    image := none, access := [], retry := false, retryFrom := 0, fw := none, staged := none, wdogAt := 0, resets := [], cause := 0, stateCmp := true,
    hbHeld := false, waiting := [], extremes := [], dynAddr := none, staticAddr := 0x4C, eid := 0, report := [], handlers := [] }

/-! ## Test and perturbation (chapter 16) -/

/-- What test and perturbation keep beside the TST_ registers. -/
structure Tst where
  /-- Forced lateness arms: engine, first bell, bells, backlog (R422). -/
  late : Option (Nat × Nat × Nat × Nat)
  /-- An injected fault that waits: its bell, and the class and partition decided at ARM for a cause that the owner of its
  address classes (R423); and the fault that is being taken is injected (its event-log entry says so). -/
  inject : Option (Nat × Nat × Nat)
  injecting : Bool
  /-- The LFSR of R421. -/
  lfsr : Nat
  /-- Bytes of the loop buffers of R416: instance·2^44 + offset; and when the loop of each instance began (R419). -/
  loopBytes : Tab Byte
  loopAt : Tab Nat
  /-- The self-test that runs: its code, unit and die (R424). -/
  bist : Option (Nat × Nat × Nat)
deriving DecidableEq, Repr

/-- Nothing armed. -/
def Tst.reset : Tst := { late := none, inject := none, injecting := false, lfsr := 1, loopBytes := [], loopAt := [], bist := none }

/-! ## The whole state -/

/-- Why a run stops with a fault. No command of this block stops so: the spec gives every row an effect. -/
inductive Fault where
  /-- Raised by nobody. Safe: it stops a run and claims nothing. -/
  | none
deriving DecidableEq, Repr

/-- Why a command is refused. -/
inductive Refusal where
  /-- Raised by exec for a row that has no meaning yet. Safe: the run stops. -/
  | notModelled (mnemonic : String)
deriving DecidableEq, Repr

/-- The state of the module. -/
structure State where
  /-- Commands that wait, first in, first out. -/
  pending : List Instr
  /-- Outputs put on the boundary, oldest first. -/
  out : List Out
  /-- Time since cold start in 0.25 ns units; the empty queue's step advances it. -/
  now : Nat
  /-- Free values drawn so far: the model's own field (notes/assumptions/3.md). -/
  free : Nat
  /-- Every software-visible register field, by bit address, as its value XOR its reset value (R2, R4). -/
  regs : Tab Nat
  /-- Held low words and latched high words of 64-bit registers, by register address (R5): value + 1. -/
  heldLow : Tab Nat
  latchedHigh : Tab Nat
  /-- The module's memories by byte address (Table 1.10; I/O core and Reeve memories above 2^48). -/
  mem : Tab Byte
  bell : Bell
  /-- Engine slots by physical slot die·9 + s. -/
  slots : Tab Slot
  /-- Credits in engine clocks by logical engine·64 + partition (R77). -/
  credits : Tab Int
  /-- Shares in force by logical engine·64 + partition (R76). -/
  shares : Tab Nat
  /-- Completion counters by partition·2^16 + the counter identifier of R113. -/
  counters : Tab Nat
  /-- Contexts: tending cores (slot·16 + core·4 + c), I/O cores 288 + i, the Reeve 320. -/
  ctxs : Tab Ctx
  heavy : List Heavy
  /-- Copy engines: slots 0-17, HC0-HC3 18-21. -/
  copies : Tab CopyEng
  cpdId : Nat
  memSt : MemSt
  dports : Tab DPort
  parts : Tab Part
  /-- Partition commands in the order of their writes: checked or not (R161). -/
  partCmds : List PartCmd
  /-- Queues by (partition·4 + class)·4096 + number. -/
  queues : Tab Queue
  pci : Pci
  /-- Interrupts of blocks that the Reeve has not taken, by PF vector number (R182). -/
  reeveInts : List Nat
  conns : Tab Conn
  paths : Tab PathSt
  /-- Fetched work requests by partition·4096 + queue: send queues, receive queues. -/
  wqes : Tab (List Wqe)
  recvs : Tab (List Wqe)
  /-- Region entries by partition·2^18 + index. -/
  regions : Tab Region
  flt : Flt
  fab : Fab
  blk : Blk
  ciph : Ciph
  evlog : EvLog
  pwr : Pwr
  rv : Reeve
  tst : Tst
  /-- Saved partitions in host memory, by host address (R173, R174). -/
  hostBlobs : Tab (Option Blob)
deriving DecidableEq, Repr

/-- The state at cold start (R4): every register field at its Reset column, nothing queued, nothing listed. -/
def State.reset : State :=
  { pending := [], out := [], now := 0, free := 0, regs := [], heldLow := [], latchedHigh := [], mem := [], bell := Bell.reset,
    slots := [], credits := [], shares := [], counters := [], ctxs := [], heavy := [], copies := [], cpdId := 0,
    memSt := MemSt.reset, dports := [], parts := [], partCmds := [], queues := [], pci := Pci.reset, reeveInts := [],
    conns := [], paths := [], wqes := [], recvs := [], regions := [], flt := Flt.reset, fab := Fab.reset,
    blk := Blk.reset, ciph := Ciph.reset, evlog := EvLog.reset, pwr := Pwr.reset, rv := Reeve.reset, tst := Tst.reset, hostBlobs := [] }

end Sys2Proof.Machine
end

