-- ==== Sys2Proof/Machine/Ops.lean ====
section
/-! DEFINITION. The named operations over registers, events, memory, partitions and completion queues that the meanings
share: each is said once here. -/

namespace Sys2Proof.Machine

/-! ## Answering -/

/-- A command's answer. Its operands name units the module has (`c`, as Instr.wf has it), or no such command reaches the module
and nothing changes (notes/assumptions/53.md). -/
def State.guarded (s : State) (c : Bool) (t : State) : Host.Outcome State Fault Refusal := .next (if c then t else s)

/-- `f s` when `c` holds, else `s`. -/
def State.when (s : State) (c : Bool) (f : State → State) : State := if c then f s else s

/-- `f` applied for 0, 1, ... n - 1 in turn. -/
def State.each (s : State) (n : Nat) (f : Nat → State → State) : State := (List.range n).foldl (fun t i => f i t) s

/-- An output put on the boundary. -/
def State.emit (s : State) (o : Out) : State := { s with out := s.out ++ [o] }

/-- The next free number, and the state with the draw counted (notes/assumptions/3.md). -/
def State.draw (s : State) : Nat × State := (Config.freeNat s.free, { s with free := s.free + 1 })

/-! ## Register fields -/

/-- The value a register field holds. -/
def State.rd (s : State) (f : Fld) : Nat := Tab.get 0 s.regs f.key ^^^ f.rst

/-- A register field set to the low bits of a value. -/
def State.wr (s : State) (f : Fld) (v : Nat) : State :=
  { s with regs := Tab.set 0 s.regs f.key ((v % 2 ^ f.w) ^^^ f.rst) }

/-- A one-bit field is 1. -/
def State.on (s : State) (f : Fld) : Bool := s.rd f == 1

/-- A counter field that wraps advanced by `n`. -/
def State.inc (s : State) (f : Fld) (n : Nat) : State := s.wr f (s.rd f + n)

/-- A counter field that saturates advanced by `n`. -/
def State.incSat (s : State) (f : Fld) (n : Nat) : State := s.wr f (satAdd f.w (s.rd f) n)

/-! ## Time -/

/-- Engine clock in use, 25 MHz units: the pace of the bell in progress, or less where local control holds it (R371). -/
def State.pace (s : State) : Nat := s.pwr.clock

/-- Bell counter. -/
def State.count (s : State) : Nat := s.rd Reg.BELL_COUNT_COUNT

/-- The time from `lo` to `hi` weighted by the pace in use at each moment: pace `p` now, and before it those of the list, newest
first, each with the time until which it was in use. -/
def paceArea : List (Nat × Nat) → Nat → Nat → Nat → Nat
  | [], p, lo, hi => (hi - lo) * p
  | (u, q) :: r, p, lo, hi => if u ≤ lo then (hi - lo) * p else (hi - u) * p + paceArea r q lo (min hi u)

/-- What the down-spread of the ENG PLL leaves of the mean clock, in 1/800: −0.25 % lowers it by 0.125 %, −0.5 % by 0.25 % (R438). -/
def State.engSpread (s : State) : Nat := 800 - s.rd Reg.HUB_SSC_ENG

/-- Engine clocks from one time to another, in 0.25 ns units, each at the pace in use then: one clock is 160 / pace units, longer by the
spread. -/
def State.engClocks (s : State) (lo hi : Nat) : Nat := paceArea s.pwr.paces s.pace lo hi * s.engSpread / 128000

/-- Time of a number of engine clocks, in 0.25 ns units. -/
def State.engTime (s : State) (clocks : Nat) : Nat := ceilDiv (clocks * 128000) (max s.pace 1 * s.engSpread)

/-- HUB clocks in a time of 0.25 ns units: 1.2 GHz (Table 0.5), less with the HUB PLL's down-spread (R438). -/
def State.hubClocks (s : State) (dt : Nat) : Nat := dt * 3 * (800 - s.rd Reg.HUB_SSC_HUB) / 8000

/-- The bell a 16-bit BELL_LO names when the counter is `c` (R56). -/
def bellOf (c lo : Nat) : Nat := trunc 64 ((c : Int) + sext 16 ((lo + (2 ^ 64 - c % 2 ^ 64)) % 2 ^ 16))

/-! ## Units by index -/

def State.slot (s : State) (ps : Nat) : Slot := Tab.get Slot.reset s.slots ps
def State.setSlot (s : State) (ps : Nat) (x : Slot) : State := { s with slots := Tab.set Slot.reset s.slots ps x }
def State.ctx (s : State) (c : Nat) : Ctx := Tab.get Ctx.reset s.ctxs c
def State.setCtx (s : State) (c : Nat) (x : Ctx) : State := { s with ctxs := Tab.set Ctx.reset s.ctxs c x }
def State.copy (s : State) (u : Nat) : CopyEng := Tab.get CopyEng.reset s.copies u
def State.setCopy (s : State) (u : Nat) (x : CopyEng) : State := { s with copies := Tab.set CopyEng.reset s.copies u x }
def State.part (s : State) (p : Nat) : Part := Tab.get Part.reset s.parts p
def State.setPart (s : State) (p : Nat) (x : Part) : State := { s with parts := Tab.set Part.reset s.parts p x }
/-- Index of queue `q` of class `cls` of partition `p`. -/
def qkey (p cls q : Nat) : Nat := (p * 4 + cls) * 4096 + q
def State.queue (s : State) (p cls q : Nat) : Queue := Tab.get Queue.reset s.queues (qkey p cls q)
def State.setQueue (s : State) (p cls q : Nat) (x : Queue) : State := { s with queues := Tab.set Queue.reset s.queues (qkey p cls q) x }

/-- State of a partition; P0 is always in RUN (R160). -/
def State.partState (s : State) (p : Nat) : PartState := if p = 0 then .run else (s.part p).state

/-- Counter of a partition by the identifier of R113. -/
def State.counter (s : State) (p id : Nat) : Nat := Tab.get 0 s.counters (p * 65536 + id)

/-- One added to a counter, modulo 2^32 (R66, R140, R249). -/
def State.bump (s : State) (p id : Nat) : State :=
  { s with counters := Tab.set 0 s.counters (p * 65536 + id) ((s.counter p id + 1) % 2 ^ 32) }

/-! ## A change of the engine clock -/

/-- A time that lies ahead, after the clock goes from pace `p` to pace `q` at `now`. -/
def retime (now p q t : Nat) : Nat := if t ≤ now then t else now + ceilDiv ((t - now) * p) (max q 1)

/-- What runs on a slot ends later or earlier with the clock (R68 to R73). -/
def Slot.retime (x : Slot) (f : Nat → Nat) : Slot :=
  { x with
    queue := x.queue.map (fun m => { m with lastStep := f m.lastStep, portEnd := f m.portEnd, viewEnd := f m.viewEnd })
    chain := x.chain.map (fun c => { c with waitFrom := c.waitFrom.map f })
    lastStep := x.lastStep.map f
    portFree := f x.portFree }

/-- The engine clock goes to pace `w`: the pace before it is kept for what counts clocks, and what runs on the slots is timed anew. -/
def State.setClock (s : State) (w : Nat) : State :=
  if w = s.pwr.clock then s
  else
    { s with
      pwr := { s.pwr with clock := w, paces := (s.now, s.pwr.clock) :: s.pwr.paces }
      slots := s.slots.foldl (fun t e => Tab.set Slot.reset t e.1 (e.2.retime (Machine.retime s.now s.pwr.clock w))) [] }

/-! ## Logical engines and slots (R10, R82) -/

/-- The ME_MAP field of logical engine `n`: 0xF when offline. -/
def meMapFld (n : Nat) : Fld :=
  { addr := dieBase (n / 8), lsb := 4 * (n % 8), w := 4, rst := n % 8 }

/-- The physical slot that serves logical engine `n`, none when it is offline (R84). -/
def State.slotOf (s : State) (n : Nat) : Option Nat :=
  let v := s.rd (meMapFld n)
  if v < 9 then some (n / 8 * 9 + v) else none

/-- The logical engine that physical slot `ps` serves. -/
def State.engineOf (s : State) (ps : Nat) : Option Nat :=
  (List.range 8).findSome? (fun l =>
    let n := ps / 9 * 8 + l
    if s.slotOf n = some ps then some n else none)

/-- Copy engine unit of a CE value: a logical engine's slot, or a hub copy engine; none when reserved or offline (R139). -/
def State.ceUnit (s : State) (ce : Nat) : Option Nat :=
  if ce < 16 then s.slotOf ce else if ce < 20 then some (ce + 2) else none

/-! ## Contexts -/

/-- Context `c` is one of a tending core. -/
def isTc (c : Nat) : Bool := decide (c < 288)
/-- Physical slot, core and index of a tending-core context. -/
def ctxSlot (c : Nat) : Nat := c / 16
def ctxCore (c : Nat) : Nat := c / 4 % 4
def ctxIdx (c : Nat) : Nat := c % 4

/-- Partition a context belongs to: its binding's, or P0 for I/O cores and the Reeve (R124, R141). -/
def State.ctxPart (s : State) (c : Nat) : Nat :=
  if isTc c then s.rd (Reg.TC_CTX_BIND_PART (ctxSlot c) (ctxCore c) (ctxIdx c)) else 0

/-- The context is bound for use (TC_CTX_BIND.EN). -/
def State.ctxBound (s : State) (c : Nat) : Bool :=
  if isTc c then s.on (Reg.TC_CTX_BIND_EN (ctxSlot c) (ctxCore c) (ctxIdx c)) else true

/-- The bound tending-core contexts of a partition. -/
def State.ctxsOf (s : State) (p : Nat) : List Nat :=
  (List.range 288).filter (fun c => s.ctxBound c && s.ctxPart c == p)

/-- First byte and length of a tending-core context's window in its core's local memory (R124). -/
def State.ctxWindow (s : State) (c : Nat) : Nat × Nat :=
  (s.rd (Reg.TC_CTX_BIND_BASE (ctxSlot c) (ctxCore c) (ctxIdx c)) * 4096,
   (s.rd (Reg.TC_CTX_BIND_SIZE (ctxSlot c) (ctxCore c) (ctxIdx c)) + 1) * 4096)

/-! ## Module addresses (Table 1.10) -/

def gddrSize : Nat := 0x1200000000
def tileBase (n : Nat) : Nat := 0x800000000000 + n * 0x2000000
def tileSize : Nat := 0x1800000
def tcBase (n k : Nat) : Nat := 0xA00000000000 + (4 * n + k) * 0x40000
def commonsBase : Nat := 0xC00000000000
def commonsSize : Nat := 0x6000000
/-- I/O core local memories, the Reeve's RAM and ROM: outside the 48-bit module address space (notes/assumptions/5.md). -/
def iocBase (i : Nat) : Nat := 2 ^ 48 + i * 0x20000
def reeveRam : Nat := 2 ^ 48 + 0x800000
def reeveRom : Nat := 2 ^ 48 + 0x1000000

/-- What a module address names. -/
inductive Space where
  | gddr (off : Nat)
  | tile (n off : Nat)
  | tcLocal (n k off : Nat)
  | commons (off : Nat)
  | reserved
deriving DecidableEq, Repr

/-- Table 1.10. -/
def spaceOf (a : Nat) : Space :=
  if a < gddrSize then .gddr a
  else if 0x800000000000 ≤ a ∧ a < 0x800000000000 + 16 * 0x2000000 then
    let o := a - 0x800000000000
    if o % 0x2000000 < tileSize then .tile (o / 0x2000000) (o % 0x2000000) else .reserved
  else if 0xA00000000000 ≤ a ∧ a < 0xA00000000000 + 64 * 0x40000 then
    let o := a - 0xA00000000000
    .tcLocal (o / 0x100000) (o / 0x40000 % 4) (o % 0x40000)
  else if commonsBase ≤ a ∧ a < commonsBase + commonsSize then .commons (a - commonsBase)
  else .reserved

/-! ## Bytes of memory -/

/-- The cell of a loop buffer that an access to a GDDR7 address goes to while its group is looped (R416, R418): at depth 2 the
64 KiB buffer of its channel by caddr, at depth 1 the line last written on the channel (notes/assumptions/24.md). -/
def State.loopCell (s : State) (a : Nat) : Option Nat :=
  if gddrSize ≤ a then none
  else
    let c := a / 256 % 96
    let i := 35 + c / 24
    if !s.on (Reg.TST_LOOP_ACTIVE i) then none
    else if s.rd (Reg.TST_LOOP_DEPTH i) = 2 then some (i * 2 ^ 44 + c * 2 ^ 16 + (a / 256 / 96 * 256 + a % 256) % 2 ^ 16)
    else some (i * 2 ^ 44 + c * 2 ^ 16 + a % 64)

/-- The byte at a module address. -/
def State.byte (s : State) (a : Nat) : Nat :=
  match s.loopCell a with
  | none => (Tab.get (0 : Byte) s.mem a).toNat
  | some k => (Tab.get (0 : Byte) s.tst.loopBytes k).toNat

/-- `n` bytes from an address. -/
def State.bytes (s : State) (a n : Nat) : List Nat := (List.range n).map (fun i => s.byte (a + i))

/-- The little-endian number of `n` bytes at an address. -/
def State.ld (s : State) (a n : Nat) : Nat := leNat (s.bytes a n)

/-- One byte stored. -/
def State.setByte (s : State) (a v : Nat) : State :=
  match s.loopCell a with
  | none => { s with mem := Tab.set (0 : Byte) s.mem a (BitVec.ofNat 8 v) }
  | some k => { s with tst := { s.tst with loopBytes := Tab.set (0 : Byte) s.tst.loopBytes k (BitVec.ofNat 8 v) } }

/-- Bytes stored at ascending addresses. -/
def State.setBytes (s : State) (a : Nat) : List Nat → State
  | [] => s
  | v :: r => State.setBytes (s.setByte a v) (a + 1) r

/-- A list of (address, byte) stores in order. -/
def State.setCells (s : State) (l : List (Nat × Nat)) : State := l.foldl (fun t e => t.setByte e.1 e.2) s

/-- `n` little-endian bytes of a number stored. -/
def State.stNat (s : State) (a n v : Nat) : State := s.setBytes a (leBytes n v)

/-! ### Units with an error that cannot be corrected (R448) -/

/-- Bytes of the unit that one error affects at an address: 64 in GDDR7, 4 in a tile store, 8 elsewhere. -/
def unitLen (a : Nat) : Nat :=
  match spaceOf a with
  | .gddr _ => 64
  | .tile _ _ => 4
  | _ => 8

/-- First bytes of the units of length `u` that `n` bytes at `a` touch. -/
def unitsOf (a n u : Nat) : List Nat :=
  if n = 0 then [] else (List.range ((a + n - 1) / u - a / u + 1)).map (fun i => (a / u + i) * u)

/-- The marks after a write of `n` bytes at `a`: a unit covered whole reads normally, a lost granule covered whole loses its
mark, a GDDR7 line covered in part that fails its merge read has its granule marked lost (R448). -/
def MemSt.afterWrite (m : MemSt) (a n : Nat) : MemSt :=
  let u := unitLen a
  let m1 := (unitsOf a n u).foldl (fun m b =>
    if a ≤ b ∧ b + u ≤ a + n then { m with bad := Tab.set false m.bad b false }
    else if Tab.get false m.bad b && u == 64 then { m with lostGranule := Tab.set false m.lostGranule (b / 256) true }
    else m) m
  if u = 64 then
    (unitsOf a n 256).foldl (fun m b =>
      if a ≤ b ∧ b + 256 ≤ a + n then
        { m with lostGranule := Tab.set false m.lostGranule (b / 256) false, rewritten := Tab.set false m.rewritten (b / 256) true }
      else m) m1
  else m1

/-- Bytes stored with fresh check bits: a unit that they cover whole reads normally from then on (R448). -/
def State.putBytes (s : State) (a : Nat) (bs : List Nat) : State :=
  { (s.setBytes a bs) with memSt := s.memSt.afterWrite a bs.length }

/-- A list with the bytes `bs` at offset `o`, padded with zeros up to it. -/
def overlay (l : List Nat) (o : Nat) (bs : List Nat) : List Nat :=
  (List.range o).map (fun i => l.getD i 0) ++ bs ++ l.drop (o + bs.length)

/-! ## Interrupts and events (R182, R446) -/

/-- The function may issue a request now: link up, Bus Master Enable 1, and for the PF not D3hot (R181, R190, R194). -/
def State.mayRequest (s : State) (func : Nat) : Bool :=
  s.on Reg.PCI_STATUS_LINK_UP && Tab.get false s.pci.bme func && (func != 0 || decide (s.pci.dstate = .d0))

/-- The state with a function's vector replaced. -/
def State.setVector (s : State) (func vec : Nat) (v : Vector) : State :=
  { s with pci := { s.pci with vectors := Tab.set Vector.reset s.pci.vectors (func * 4096 + vec) v } }

/-- A function's vector. -/
def State.vector (s : State) (func vec : Nat) : Vector := Tab.get Vector.reset s.pci.vectors (func * 4096 + vec)

/-- A vector raised: sent, or its pending bit kept while it is masked or the function may not request (R182, R190). -/
def State.sendMsix (s : State) (func vec : Nat) : State :=
  if s.mayRequest func && Tab.get false s.pci.msixEnable func && !Tab.get false s.pci.funcMask func && !(s.vector func vec).masked then
    (s.setVector func vec { (s.vector func vec) with pending := false }).emit (.msix func vec (s.vector func vec).addr (s.vector func vec).data)
  else s.setVector func vec { (s.vector func vec) with pending := true }

/-- The block of a register address, in the order of R382 (Table 1.9). -/
def blockOf (addr : Nat) : Nat :=
  ([0x40000, 0x80000, 0xC0000, 0x100000, 0x200000, 0x280000, 0x300000, 0x380000, 0x400000, 0x480000, 0x500000, 0x600000, 0x680000,
    0x700000, 0x800000, 0xC00000, 0x1000000, 0x1800000].filter (fun b => decide (b ≤ addr))).length

/-- An entry of the event log (Table 15.2): in the ring at MGT_LOG_BASE, and not yet in flash. The
overwriting of an entry nobody has read is counted (R386). -/
def State.logEntry (s : State) (block severity code data : Nat) : State :=
  let i := s.rd Reg.MGT_LOG_INDEX
  let k := i % 8192
  let bytes := leBytes 4 i ++ [block, severity] ++ leBytes 2 code ++ leBytes 8 s.count ++ leBytes 8 (s.now / 4) ++ leBytes 8 data
  let base := s.rd Reg.MGT_LOG_BASE_ADDR
  let t := if commonsBase ≤ base ∧ base < commonsBase + commonsSize then s.putBytes (base + 32 * k) bytes else s
  let t := t.when (decide (8192 ≤ i) && !Tab.get false s.evlog.seen k) (fun t => t.incSat Reg.MGT_LOG_LOST 1)
  { t with evlog := { t.evlog with seen := Tab.set false t.evlog.seen k false, waiting := t.evlog.waiting ++ [bytes] } }.inc
    Reg.MGT_LOG_INDEX 1

/-- The I3C target answers: not in Off, not in Deep sleep (R387). -/
def State.sidebandUp (s : State) : Bool := !s.pwr.off && s.rd Reg.PWR_STATE_STATE != 3

/-- MGT_EVENT's interrupt: vector 6 of Table 7.4 and the sideband's in-band interrupt, its data byte the low byte of MGT_EVENT
(R389). It is not routed to the Reeve. -/
def State.raiseMgt (s : State) (vec : Nat) : State :=
  (s.sendMsix 0 vec).when s.sidebandUp (fun t =>
    t.emit (.sideband 0xFF [((List.range 8).map (fun i => t.rd ⟨Reg.MGT_EVENT, i, 1, 0⟩ * 2 ^ i)).sum]))

/-- A block's interrupt: to the PF and the Reeve by the PF vector of Table 7.4, the Reeve's interrupt of that block, and an
event-log entry, whose code and data the spec leaves to the block (free values; fault handling writes its own, R329). -/
def State.raiseBlock (s : State) (vec addr : Nat) : State :=
  let t := s.sendMsix 0 vec
  let t := if vec ∈ t.reeveInts then t else { t with reeveInts := t.reeveInts ++ [vec] }
  if blockOf addr = 13 then t
  else
    let c := t.draw
    let d := c.2.draw
    d.2.logEntry (blockOf addr) 0 (c.1 % 2 ^ 16) (d.1 % 2 ^ 64)

/-- One interrupt of the event register at an address (R446). -/
def State.raise (s : State) (vec addr : Nat) : State := if addr = Reg.MGT_EVENT then s.raiseMgt vec else s.raiseBlock vec addr

/-- Hardware sets an event bit `f` whose enable is the bit of the same place of `en`: an interrupt on a change from 0 to 1
while enabled, nothing further when it is already 1 (R446). -/
def State.event (s : State) (f en : Fld) (vec : Nat) : State :=
  if s.rd f = 1 then s
  else
    let t := s.wr f 1
    if bit (t.rd en) f.lsb then t.raise vec f.addr else t

/-- BELL_EVENT bits go to vector 1. -/
def State.bellEvent (s : State) (f : Fld) : State := s.event f Reg.BELL_EVENT_EN_EN 1

/-- A missed target of a bell-scheduled action (R24). -/
def State.missedTarget (s : State) : State := s.bellEvent Reg.BELL_EVENT_MISSED_TARGET

/-- Minimal mode, or recovery that no test unlock has opened (R397). -/
def State.restricted (s : State) : Bool := s.on Reg.HUB_START_MINIMAL && !(s.on Reg.HUB_START_RECOVERY && s.rd Reg.TST_STATUS_MODE == 2)

/-- A register block of PF BAR0 (in the order of R382) answers the PF: not in Off (R359), not in D3hot (R181), and in recovery that
no test unlock has opened only MGT_, TST_ and DPORT0 (R397). -/
def State.pfOpen (s : State) (b : Nat) : Bool :=
  !s.pwr.off && decide (s.pci.dstate = .d0) && (!s.on Reg.HUB_START_RECOVERY || s.rd Reg.TST_STATUS_MODE == 2 || b == 2 || b == 17 || b == 18)

/-- A command that the PF gives by an access of block `b`: without effect while the block does not answer. -/
def State.fromPf (s : State) (b : Nat) : Host.Outcome State Fault Refusal → Host.Outcome State Fault Refusal
  | .next t => .next (if s.pfOpen b then t else s)
  | o => o

/-! ## AER and the unsupported-access error (R188, R189) -/

/-- Reset value of a configuration register that software may write: the masks and severities of AER and the read request size of
Device Control are the base specification's, but a VF's Uncorrectable Internal Error is not fatal (R188, Table 7.6;
notes/assumptions/23.md). -/
def cfgDefault (f reg : Nat) : Nat :=
  match reg with
  | 0x68 => 0x2000
  | 0x108 => 0x00400000
  | 0x10C => if f = 0 then 0x00462030 else 0x00062030
  | 0x114 => 0x0000E000
  | _ => 0

/-- What a configuration register of a function that software writes holds. -/
def State.cfgWord (s : State) (f reg : Nat) : Nat := Tab.get 0 s.pci.cfg (f * 4096 + reg) ^^^ cfgDefault f reg

/-- Register and bit of each AER error that the module reports (Table 7.6, the base specification). -/
def aerBits : List (String × Nat × Nat) :=
  [("Poisoned TLP Received", 0x104, 12), ("Completion Timeout", 0x104, 14), ("Completer Abort", 0x104, 15), ("Unexpected Completion", 0x104, 16),
    ("Unsupported Request", 0x104, 20), ("Uncorrectable Internal Error", 0x104, 22), ("Advisory Non-Fatal Error", 0x110, 13),
    ("Corrected Internal Error", 0x110, 14)]

/-- The AER register and the bit of an error. -/
def aerBit (err : String) : Nat × Nat := ((aerBits.find? (fun e => e.1 == err)).map (·.2)).getD (0x104, 0)

/-- A header is recorded for an error of a function: one, or up to four while multiple header recording is enabled; one more sets
Header Log Overflow (R189). -/
def State.logHeader (s : State) (func : Nat) (err : String) (h : List Nat) : State :=
  let log := Tab.get [] s.pci.aerLog func
  if log.length < (if bit (s.cfgWord func 0x118) 10 then 4 else 1) then
    { s with pci := { s.pci with aerLog := Tab.set [] s.pci.aerLog func (log ++ [{ err := err, header := h }]) } }
  else { s with pci := { s.pci with aerOverflow := Tab.set false s.pci.aerOverflow func true } }

/-- An error message of a function of a severity, 0 correctable, 1 non-fatal, 2 fatal, when Device Control or, for the uncorrectable
ones, SERR# Enable lets it (notes/assumptions/23.md). -/
def State.errorMessage (s : State) (func sev : Nat) : State :=
  s.when (s.on Reg.PCI_STATUS_LINK_UP && (bit (s.cfgWord func 0x68) sev || (sev != 0 && bit (s.cfgWord func 0x04) 8))) (fun t => t.emit (.errorMessage func sev))

/-- An AER error of a function, with the header of what caused it when it has one (R188, R189): its status bit; unless it is masked,
its header is recorded and its message sent, by the severity of its register. An advisory one is reported as correctable. -/
def State.aerAs (s : State) (func : Nat) (err : String) (header : Option (List Nat)) (advisory : Bool) : State :=
  let b := aerBit err
  let st := Tab.get [] s.pci.aerStatus func
  let t : State := { s with pci := { s.pci with aerStatus := Tab.set [] s.pci.aerStatus func (if err ∈ st then st else st ++ [err]) } }
  if bit (s.cfgWord func (b.1 + 4)) b.2 then t
  else
    let t := header.elim t (t.logHeader func err)
    if advisory then t
    else t.errorMessage func (if b.1 = 0x110 then 0 else if bit (s.cfgWord func 0x10C) b.2 then 2 else 1)

/-- An AER error of a function that is not advisory. -/
def State.aer (s : State) (func : Nat) (err : String) (header : Option (List Nat)) : State := s.aerAs func err header false

/-- PCI_EVENT bits go to vector 4. -/
def State.pciEvent (s : State) (f : Fld) : State := s.event f Reg.PCI_EVENT_EN_EN 4

/-- The function that an access is reported on: a core's or the Reeve's access on the PF (notes/assumptions/12.md). -/
def Src.func : Src → Nat
  | .vf n => n
  | _ => 0

/-- Completer Abort for an access whose row gives no header (R7, R188): the four logged words are free. -/
def State.freeAbort (s : State) (func : Nat) : State :=
  let a := s.draw
  let b := a.2.draw
  let c := b.2.draw
  let d := c.2.draw
  d.2.aer func "Completer Abort" (some ([a.1, b.1, c.1, d.1].map (fun x => x % 2 ^ 32)))

/-- The unsupported-access error of an access at a BAR offset (R7, R26, R188). -/
def State.unsup (s : State) (src : Src) (off : Nat) (write : Bool) : State :=
  let t := ((s.wr Reg.PCI_UNSUP_INFO_OFFSET off).wr Reg.PCI_UNSUP_INFO_WRITE (b2n write)).wr Reg.PCI_UNSUP_INFO_FUNC src.func
  (t.aer src.func "Corrected Internal Error" none).pciEvent Reg.PCI_EVENT_UNSUP_ACCESS

/-! ### Lost granules and failing units (R136, R448) -/

/-- Logical device that a GDDR7 address falls in (R132). -/
def ldOf (a : Nat) : Nat := a / 256 % 96 / 4

/-- Physical position that serves a logical device; LDn is served by PDn at cold start (R130). -/
def State.pdOf (s : State) (ld : Nat) : Nat := Tab.get 0 s.memSt.ldMap ld ^^^ ld

/-- Granules of a 3 GiB device (R130). -/
def deviceGranules : Nat := 12582912

/-- MEM_DEV.LOST: lost granules are marked on the position that serves a logical device (R136); a device whose every granule was lost
has them until each has been written whole. -/
def State.devLost (s : State) (pd : Nat) : Bool :=
  let ld := s.rd (Reg.MEM_DEV_LD pd)
  s.memSt.lostGranule.any (fun e => e.1 % 96 / 4 == ld) ||
    (Tab.get false s.memSt.lostDev ld && decide ((s.memSt.rewritten.filter (fun e => e.1 % 96 / 4 == ld)).length < deviceGranules))

/-- The granule at a GDDR7 address is lost (R136). -/
def State.lost (s : State) (a : Nat) : Bool :=
  Tab.get false s.memSt.lostGranule (a / 256) ||
    (Tab.get false s.memSt.lostDev (ldOf a) && !Tab.get false s.memSt.rewritten (a / 256))

/-- The unit at an address fails to read: it is marked, its granule is lost, or its device failed with no standby left
(R136, R137, R448). -/
def State.failing (s : State) (a : Nat) : Bool :=
  Tab.get false s.memSt.bad (a / unitLen a * unitLen a) ||
    (match spaceOf a with
      | .gddr _ => s.lost a || s.rd (Reg.MEM_DEV_ROLE (s.pdOf (ldOf a))) == 3
      | _ => false)

/-- No unit that `n` bytes at `a` touch fails. -/
def State.readable (s : State) (a n : Nat) : Bool := (unitsOf a n 4).all (fun u => !s.failing u)

/-- Slot size of a hosted granary: what its length leaves for each of two slots behind the control block (R349). -/
def State.granSlot (s : State) (g : Nat) : Nat := (s.rd (Reg.CKP_GRAN_LEN g) - 1) / 2 * 2 ^ 26

/-- The hosted granary that holds a module address, and the generation slot; none of the slots for its control block. -/
def State.granaryOf (s : State) (a : Nat) : Option (Nat × Option Nat) :=
  ((List.range 4).find? (fun g => s.on (Reg.CKP_GRAN_EN g) && decide (s.rd (Reg.CKP_GRAN_BASE g) ≤ a) &&
    decide (a < s.rd (Reg.CKP_GRAN_BASE g) + s.rd (Reg.CKP_GRAN_LEN g) * 2 ^ 26))).map (fun g =>
      let o := a - s.rd (Reg.CKP_GRAN_BASE g)
      (g, if o < 65536 then none else if o < 65536 + s.granSlot g then some 0 else some 1))

/-- The lost marks of generation slots (R330) after a write: one whose first byte, its shard header's, is written anew holds a new
generation (notes/assumptions/19.md). -/
def State.lostAfter (s : State) (a n : Nat) : Tab Bool :=
  s.flt.granLost.filter (fun e =>
    let first := s.rd (Reg.CKP_GRAN_BASE (e.1 / 2)) + 65536 + e.1 % 2 * s.granSlot (e.1 / 2)
    !(decide (a ≤ first) && decide (first < a + n)))

/-- Bytes placed in memory by a write that no interlock holds. -/
def State.place (s : State) (a : Nat) (bs : List Nat) : State :=
  { (s.setBytes a bs) with memSt := s.memSt.afterWrite a bs.length, flt := { s.flt with granLost := s.lostAfter a bs.length } }

/-! ### The write interlock (R151 to R153) -/

/-- Key of a chunk of an interlock region. -/
def chunkKey (region chunk : Nat) : Nat := region * 2 ^ 21 + chunk

/-- The first unreached chunk of an armed region that `n` bytes at a GDDR7 address touch. -/
def State.ilkHit (s : State) (a n : Nat) : Option (Nat × Nat) :=
  if gddrSize ≤ a then none
  else
    (unitsOf a n 65536).findSome? (fun b =>
      (List.range 4).findSome? (fun r =>
        let base := s.rd (Reg.MEM_ILK_BASE_BASE r) * 65536
        let ch := (b - base) / 65536
        if s.on (Reg.MEM_ILK_CTRL_EN r) && decide (base ≤ b) && decide (ch < s.rd (Reg.MEM_ILK_CTRL_CHUNKS r)) &&
            !Tab.get false s.memSt.reached (chunkKey r ch) then some (r, ch) else none))

/-- A write is held on a chunk: it waits in the list of held writes, and the region counts it (R151, R153). -/
def State.holdWrite (s : State) (h : HeldWrite) : State :=
  let t := (s.incSat (Reg.MEM_ILK_STATUS_HELD h.region) 1).event Reg.MEM_ERR_ILK_HELD Reg.MEM_ERR_EN_EN 3
  { t with memSt := { t.memSt with held := t.memSt.held ++ [h] } }

/-- A write to module memory by any agent that reaches a controller group: placed, or held by the interlock (R151). -/
def State.write (s : State) (a : Nat) (bs : List Nat) (who : Writer) : State :=
  match s.ilkHit a bs.length with
  | none => s.place a bs
  | some (r, c) =>
    s.holdWrite { region := r, chunk := c, since := s.now, bytes := (List.range bs.length).map (fun i => (a + i, bs.getD i 0)), who := who }

/-! ## What a partition reaches (R157, R159, R169) -/

/-- The module address of a partition GDDR7 address through a segment table (R159). -/
def translate (segs : List Seg) (pa : Nat) : Option Nat :=
  (segs.find? (fun g => g.len != 0 && decide (g.pbase ≤ pa / 2 ^ 26) && decide (pa / 2 ^ 26 < g.pbase + g.len))).map
    (fun g => g.mbase * 2 ^ 26 + (pa - g.pbase * 2 ^ 26))

/-- The grants that acceptance checks of a partition use: a decrease that waits for its work counts from its edge (R163). -/
def State.bounds (s : State) (p : Nat) : Grants := ((s.part p).shrink).getD (s.part p).grants

/-- Grants hold the byte at a module address. -/
def Grants.holds (g : Grants) (a : Nat) : Bool :=
  match spaceOf a with
  | .gddr o => g.segs.any (fun x => decide (x.mbase * 2 ^ 26 ≤ o) && decide (o < (x.mbase + x.len) * 2 ^ 26))
  | .tile n o => decide (g.tsBase.getD n 0 * 65536 ≤ o) && decide (o < (g.tsBase.getD n 0 + g.tsLen.getD n 0) * 65536)
  | .commons o => decide (g.commonsBase * 65536 ≤ o) && decide (o < (g.commonsBase + g.commonsLen) * 65536)
  | _ => false

/-- A tenant partition holds the byte at a module address, by its grants in force or by those a decrease leads to (R158, R163). -/
def State.heldByTenant (s : State) (a : Nat) : Bool :=
  s.parts.any (fun e => e.1 != 0 && (e.2.grants.holds a || e.2.shrink.elim false (fun g => g.holds a)))

/-- The window of some context of partition `p` on core `k` of engine `n` holds offset `o`. -/
def State.inWindow (s : State) (p n k o : Nat) : Bool :=
  match s.slotOf n with
  | none => false
  | some ps => (List.range 4).any (fun i =>
      let c := ps * 16 + k * 4 + i
      s.ctxBound c && s.ctxPart c == p && decide ((s.ctxWindow c).1 ≤ o) && decide (o < (s.ctxWindow c).1 + (s.ctxWindow c).2))

/-- The window of some tenant's context on core `k` of engine `n` holds offset `o`. -/
def State.tenantWindow (s : State) (n k o : Nat) : Bool :=
  match s.slotOf n with
  | none => false
  | some ps => (List.range 4).any (fun i =>
      let c := ps * 16 + k * 4 + i
      s.ctxBound c && s.ctxPart c != 0 && decide ((s.ctxWindow c).1 ≤ o) && decide (o < (s.ctxWindow c).1 + (s.ctxWindow c).2))

/-- P0 holds the byte at a module address: no tenant does (R157, notes/assumptions/9.md). -/
def State.heldByP0 (s : State) (a : Nat) : Bool :=
  match spaceOf a with
  | .reserved => false
  | .tcLocal n k o => !s.tenantWindow n k o
  | _ => !s.heldByTenant a

/-- The module address that address `a` of partition `p` names under grants `g`, none outside what `p` holds by them (R157, R159).
P0 owns what no tenant holds, at module addresses (R157, notes/assumptions/9.md). -/
def State.mapIn (s : State) (g : Grants) (p a : Nat) : Option Nat :=
  if p = 0 then (if s.heldByP0 a then some a else none)
  else
    match spaceOf a with
    | .gddr o => translate g.segs o
    | .tile n o => if g.tsBase.getD n 0 * 65536 ≤ o ∧ o < (g.tsBase.getD n 0 + g.tsLen.getD n 0) * 65536 then some a else none
    | .tcLocal n k o => if s.inWindow p n k o then some a else none
    | .commons o => if g.commonsBase * 65536 ≤ o ∧ o < (g.commonsBase + g.commonsLen) * 65536 then some a else none
    | .reserved => none

/-- The module address that work of partition `p` reaches with address `a`: by its grants in force, and while a decrease waits for
work accepted before it, by those that it leads to as well (R163, notes/assumptions/72.md). -/
def State.mapByte (s : State) (p a : Nat) : Option Nat :=
  (s.mapIn (s.part p).grants p a).orElse (fun _ => (s.part p).shrink.bind (fun g => s.mapIn g p a))

/-- As `mapByte`; at level F or M the whole module address space but the reserved ranges, untranslated (R141). -/
def State.mapFor (s : State) (p : Nat) (levelP : Bool) (a : Nat) : Option Nat :=
  if levelP then s.mapByte p a else if spaceOf a = .reserved then none else some a

/-- Work may be accepted that touches the byte: acceptance uses the grants that a decrease leads to from its edge on (R163). -/
def State.openByte (s : State) (p : Nat) (levelP : Bool) (a : Nat) : Bool :=
  if levelP then (s.mapIn (s.bounds p) p a).isSome else decide (spaceOf a ≠ .reserved)

/-- Every byte of a range is open to acceptance: bounds are multiples of 4 KiB, so one byte of each 4 KiB touched decides. -/
def State.openRange (s : State) (p : Nat) (levelP : Bool) (a n : Nat) : Bool :=
  (unitsOf a n 4096).all (fun b => s.openByte p levelP (max a b))

/-- Bytes of a partition's range, read through its map. -/
def State.readVia (s : State) (p : Nat) (levelP : Bool) (a n : Nat) : List Nat :=
  (List.range n).map (fun i => match s.mapFor p levelP (a + i) with | some m => s.byte m | none => 0)

/-- No unit of a partition's range fails. -/
def State.readableVia (s : State) (p : Nat) (levelP : Bool) (a n : Nat) : Bool :=
  (List.range n).all (fun i => match s.mapFor p levelP (a + i) with | some m => !s.failing m | none => true)

/-- MEM_ERR bits go to vector 3. -/
def State.memErr (s : State) (f : Fld) : State := s.event f Reg.MEM_ERR_EN_EN 3

/-- An uncorrectable GDDR7 access at an address is recorded (R134). -/
def State.noteAccess (s : State) (a : Nat) : State :=
  ((s.wr Reg.MEM_ERR_ADDR_ADDR a).wr Reg.MEM_ERR_ADDR_PD (s.pdOf (ldOf a))).memErr Reg.MEM_ERR_UNCORRECTABLE

/-- An uncorrectable GDDR7 read at an address: recorded, with LOST_READ when its granule is lost (R134). -/
def State.uncorrectable (s : State) (a : Nat) : State := (s.noteAccess a).when (s.lost a) (fun t => t.memErr Reg.MEM_ERR_LOST_READ)

/-- The unit at an address has an error that cannot be corrected (R448). -/
def State.markBad (s : State) (a : Nat) : State :=
  { s with memSt := { s.memSt with bad := Tab.set false s.memSt.bad (a / unitLen a * unitLen a) true } }

/-- Bytes at module addresses are read: each failing GDDR7 line among them is an uncorrectable access, recorded at its first
byte read (R134, R136). -/
def State.noteReads (s : State) (ms : List Nat) : State :=
  ((ms.filter (fun m => decide (m < gddrSize) && s.failing m)).foldl (fun (r : State × Option Nat) m =>
    if r.2 = some (m / 64) then r else (r.1.uncorrectable m, some (m / 64))) (s, none)).1

/-- A chunk is marked reached: its bytes as they stand go to a staging slot when `stage`, those of a line that fails to read not among
them (R135, R151, R152). -/
def State.reachChunk (s : State) (r c : Nat) (stage : Bool) : State :=
  let k := chunkKey r c
  if Tab.get false s.memSt.reached k then s
  else
    let base := s.rd (Reg.MEM_ILK_BASE_BASE r) * 65536 + c * 65536
    let m := { s.memSt with reached := Tab.set false s.memSt.reached k true }
    let cells := (s.mem.filter (fun e => decide (base ≤ e.1) && decide (e.1 < base + 65536))).map (fun e => (k * 65536 + (e.1 - base), e.2))
    let bad := if stage then (unitsOf base 65536 64).filter s.failing else []
    let m := if stage then { m with staged := m.staged ++ [k], stagedBytes := m.stagedBytes ++ cells,
                                    stagedBad := m.stagedBad ++ bad.map (fun b => k * 65536 + (b - base)) } else m
    ({ s with memSt := m }.noteReads bad).incSat (Reg.MEM_ILK_STATUS_REACHED r) 1

/-- A partition's range is read (R134). -/
def State.noteVia (s : State) (p a n : Nat) : State := s.noteReads ((List.range n).filterMap (fun i => s.mapFor p true (a + i)))

/-- Bytes written for a writer to a partition's range through its map, piece by piece of 4 KiB (interlock included). -/
def State.writeFor (s : State) (who : Writer) (p : Nat) (levelP : Bool) (a : Nat) (bs : List Nat) : State :=
  (unitsOf a bs.length 4096).foldl (fun t b =>
    let lo := max a b
    let hi := min (a + bs.length) (b + 4096)
    match s.mapFor p levelP lo with
    | some m => t.write m ((bs.drop (lo - a)).take (hi - lo)) who
    | none => t) s

/-- As `writeFor`, for a writer whose completion no rule ties to the interlock. -/
def State.writeVia (s : State) (p : Nat) (levelP : Bool) (a : Nat) (bs : List Nat) : State := s.writeFor .other p levelP a bs

/-- A GDDR7 range of a sliced queue lies in the slice's window (R169); slice 0x7FF reaches all of the partition's GDDR7. -/
def State.sliceOpen (s : State) (p slice a n : Nat) : Bool :=
  match spaceOf a with
  | .gddr o =>
    slice == 0x7FF ||
      (decide (s.rd (Reg.PART_SLICE_WBASE p slice) * 0x200000 ≤ o) &&
        decide (o + n ≤ (s.rd (Reg.PART_SLICE_WBASE p slice) + s.rd (Reg.PART_SLICE_WLEN p slice)) * 0x200000))
  | _ => true

/-- PASID of a queue's requests: its slice's, or none (R169); none while the PF's PASID capability, which controls it for every
function, is not enabled (R180, notes/assumptions/72.md). -/
def State.pasidOf (s : State) (p slice : Nat) : Option Nat :=
  if slice = 0x7FF ∨ !bit (s.cfgWord 0 0x284) 16 then none else some (s.rd (Reg.PART_SLICE_PASID p slice))

/-- PCI function that carries a partition's host requests: the PF for P0, the bound VF otherwise. -/
def State.funcOf (s : State) (p : Nat) : Option Nat := if p = 0 then some 0 else (s.part p).vf

/-! ## Requests to the host -/

/-- Dirty-page logging of a memory write of a partition (R171, R172): each range that matches sets the page bits in the
shadow and owes the bitmap words; a write that matches none is counted. -/
def State.logWrite (s : State) (p : Nat) (pasid : Option Nat) (a n : Nat) : State :=
  let x := s.part p
  if !x.logging || n = 0 then s
  else
    let hit := (List.range 8).filter (fun r =>
      s.on (Reg.PART_LOG_EN p r) &&
      (if s.on (Reg.PART_LOG_HAS_PASID p r) then pasid == some (s.rd (Reg.PART_LOG_PASID p r)) else pasid == none) &&
      decide (s.rd (Reg.PART_LOG_START p r) * 4096 ≤ a) && decide (a < s.rd (Reg.PART_LOG_START p r) * 4096 + (s.rd (Reg.PART_LOG_PAGES p r) + 1) * 4096))
    if hit.isEmpty then s.incSat (Reg.PART_LOG_MISS_COUNT p) 1
    else
      hit.foldl (fun t r =>
        let st := t.rd (Reg.PART_LOG_START p r) * 4096
        ((unitsOf (a - st) n 4096).filter (fun b => decide (b / 4096 ≤ t.rd (Reg.PART_LOG_PAGES p r)))).foldl (fun t b =>
          let page := b / 4096
          let x := t.part p
          let k := r * 2 ^ 22 + page / 64
          t.setPart p { x with
            shadow := Tab.set 0 x.shadow k (Tab.get 0 x.shadow k ||| 2 ^ (page % 64)),
            bitmapDue := if { range := r, word := page / 64, mapB := x.activeB } ∈ x.bitmapDue then x.bitmapDue
              else x.bitmapDue ++ [{ range := r, word := page / 64, mapB := x.activeB }] }) t) s

/-- Requests of a function are served from the host link's loop buffer (R416). -/
def State.hostLooped (s : State) (f : Nat) : Bool := s.on (Reg.TST_LOOP_ACTIVE 32) && s.rd (Reg.TST_LOOP_DEPTH 32) == 2 && s.rd (Reg.TST_LOOP_FUNC 32) == f

/-- The cell of the loop buffer of 1 MiB that a host address falls on. -/
def hostLoopCell (a : Nat) : Nat := 32 * 2 ^ 44 + a % 2 ^ 20

/-- `n` bytes at a host address cut into requests of at most `max` bytes that cross no 4 KiB boundary, which the base specification
forbids: offset and length of each. `fuel` bounds their number. -/
def cutRequest (max a : Nat) : Nat → Nat → Nat → List (Nat × Nat)
  | 0, _, _ => []
  | fuel + 1, o, n =>
    if n = 0 then []
    else
      let k := min n (min max (4096 - (a + o) % 4096))
      (o, k) :: cutRequest max a fuel (o + k) (n - k)

/-- Max_Payload_Size of the PF's Device Control, which holds for its VFs too, and at most the 512 bytes that the module supports
(R183, notes/assumptions/72.md). -/
def State.maxPayload (s : State) : Nat := min 512 (128 * 2 ^ bits (s.cfgWord 0 0x68) 5 3)

/-- Max_Read_Request_Size, as `maxPayload`: at most 4,096 bytes (R183). -/
def State.maxRead (s : State) : Nat := min 4096 (128 * 2 ^ bits (s.cfgWord 0 0x68) 12 3)

/-- One posted write to host memory for a partition: to the loop buffer while its function is looped; dropped and counted while the
link is down (R194), nothing without a function, logged under R171 and put on the boundary otherwise. Held while Bus Master Enable
is 0 (R190). -/
def State.postWrite (s : State) (p : Nat) (pasid : Option Nat) (a : Nat) (data : Bool) (bs : List Nat) : State :=
  match s.funcOf p with
  | none => s
  | some f =>
    if s.hostLooped f then { s with tst := { s.tst with loopBytes := bs.zipIdx.foldl (fun m e => Tab.set (0 : Byte) m (hostLoopCell (a + e.2)) (BitVec.ofNat 8 e.1)) s.tst.loopBytes } }
    else if !s.on Reg.PCI_STATUS_LINK_UP then s.incSat Reg.PCI_DROPPED_COUNT 1
    else
      let ro := data && s.on Reg.PCI_CPL_CFG_RO_DATA && Tab.get true s.pci.roEnable f
      let o := Out.hostWrite f pasid a ro bs
      if s.mayRequest f then (s.logWrite p pasid a bs.length).emit o
      else { s with pci := { s.pci with heldReqs := s.pci.heldReqs ++ [(p, o)] } }

/-- Bytes written to host memory for a partition: data in writes of up to Max_Payload_Size (R183); a completion entry, an index or an
interrupt as one write (R247). -/
def State.hostWrite (s : State) (p : Nat) (pasid : Option Nat) (a : Nat) (data : Bool) (bs : List Nat) : State :=
  if data then (cutRequest s.maxPayload a bs.length 0 bs.length).foldl (fun t k => t.postWrite p pasid (a + k.1) true ((bs.drop k.1).take k.2)) s
  else s.postWrite p pasid a false bs

/-- The completion timer in 0.25 ns units (Table 7.5). -/
def cplTimer (v : Nat) : Nat :=
  4 * (match v with
    | 1 => 90000 | 2 => 9000000 | 5 => 50000000 | 6 => 200000000 | 9 => 850000000 | 10 => 3200000000
    | 13 => 12000000000 | 14 => 60000000000 | _ => 40000000)

/-- Tags in use: 14 bits in Flit mode, else 10 (R175, Table 7.1). -/
def State.tags (s : State) : Nat := if s.on Reg.PCI_STATUS_FLIT then 16384 else 1024

/-- The first tag from the next one on that is neither outstanding nor in quarantine. -/
def State.freeTag (s : State) : Option Nat :=
  (List.range s.tags).findSome? (fun i =>
    let t := (s.pci.nextTag + i) % s.tags
    if Tab.get none s.pci.reads t = none ∧ Tab.get none s.pci.quarantine t = none then some t else none)

/-- A read of host memory for a partition's operation: a tag is taken and the request put on the boundary, at most 2,048
outstanding (R183); held while Bus Master Enable is 0 (R190). A looped function's read is answered from the loop buffer. -/
def State.hostRead (s : State) (p : Nat) (pasid : Option Nat) (a n : Nat) (use : ReadFor) : State :=
  match s.funcOf p with
  | none => s
  | some f =>
    let ro := s.on Reg.PCI_CPL_CFG_RO_DATA && Tab.get true s.pci.roEnable f
    if !s.mayRequest f || decide (2048 ≤ s.pci.reads.length) then { s with pci := { s.pci with heldReads := s.pci.heldReads ++ [(p, pasid, a, n, use)] } }
    else match s.freeTag with
      | none => { s with pci := { s.pci with heldReads := s.pci.heldReads ++ [(p, pasid, a, n, use)] } }
      | some t =>
        let r : HostRead := { func := f, pasid := pasid, addr := a, len := n, got := 0, use := use, issuedAt := s.now }
        let u : State := { s with pci := { s.pci with reads := Tab.set none s.pci.reads t (some r), nextTag := (t + 1) % 16384 } }
        if s.hostLooped f then u else u.emit (.hostRead f pasid a n t ro)

/-- Outstanding and held reads whose use `f` names bring nothing any more. -/
def State.dropReads (s : State) (f : ReadFor → Option Nat) : State :=
  let g (u : ReadFor) : ReadFor := match f u with
    | some p => .gone p
    | none => u
  { s with pci := { s.pci with
    reads := s.pci.reads.map (fun e => (e.1, e.2.map (fun r => { r with use := g r.use })))
    heldReads := s.pci.heldReads.filter (fun h => (f h.2.2.2.2).isNone) } }

/-! ## Completion queues (R246 to R248, R260) -/

/-- A CQE before its phase (Table 9.7). -/
structure Cqe where
  status : Nat
  kind : Nat
  op : Nat
  imm : Bool
  queue : Nat
  index : Nat
  info : Nat
  user : Nat
deriving DecidableEq, Repr

/-- The sixteen bytes of a CQE (Table 9.7). -/
def Cqe.bytes (e : Cqe) (phase : Bool) : List Nat :=
  leBytes 16 (e.status % 256 + e.kind % 256 * 2 ^ 8 + b2n phase * 2 ^ 16 + b2n e.imm * 2 ^ 17 + e.op % 16 * 2 ^ 20 +
    e.queue % 65536 * 2 ^ 32 + e.index % 65536 * 2 ^ 48 + e.info % 2 ^ 32 * 2 ^ 64 + e.user % 2 ^ 32 * 2 ^ 96)

/-- Queues of a class that a partition holds: its grant, or all the pool allows one partition for P0 (Table 6.1). -/
def State.queueCount (s : State) (p cls : Nat) : Nat :=
  if p = 0 then 4096
  else match cls with
    | 0 | 1 => (s.part p).grants.qp
    | 2 => (s.part p).grants.cq
    | _ => 4096

/-- The record number is within the grant: class 3 holds block queues 0-2,047 and cipher queues from 2,048 (Table 6.5). -/
def State.queueGranted (s : State) (p cls q : Nat) : Bool :=
  if cls < 3 then decide (q < s.queueCount p cls)
  else if p = 0 then decide (q < 4096)
  else if q < 2048 then decide (q < (s.part p).grants.blk) else decide (q - 2048 < (s.part p).grants.ciph)

/-- `n` bytes of a ring at an offset are open: those of a ring in module memory in the partition's grants and the slice's window
(R169, Table 6.6). -/
def State.ringOpen (s : State) (p : Nat) (q : Queue) (off n : Nat) : Bool :=
  decide (q.base < 2 ^ 63) || (s.openRange p true (q.base % 2 ^ 48 + off) n && s.sliceOpen p q.slice (q.base % 2 ^ 48 + off) n)

/-- Bytes written to a ring, in host memory or in the partition's (Table 6.6); outside its slice's window none is (R169). -/
def State.ringWrite (s : State) (p : Nat) (q : Queue) (off : Nat) (bs : List Nat) : State :=
  if q.base < 2 ^ 63 then s.hostWrite p (s.pasidOf p q.slice) (q.base + off) false bs
  else s.when (s.ringOpen p q off bs.length) (fun t => t.writeVia p true (q.base % 2 ^ 48 + off) bs)

/-- Bit 10:0 of word 4 names a vector of the partition's function (Tables 7.4 and 9.2). -/
def cqVector (p w4 : Nat) : Option Nat :=
  let v := bits w4 0 11
  if p = 0 then (if 16 ≤ v then some v else none) else if 1 ≤ v ∧ v < 1024 then some v else none

/-- A CQE posted to an enabled queue, without the overflow event: the state and whether the queue overflowed just now. -/
def State.postRaw (s : State) (p cq : Nat) (e : Cqe) : State × Bool :=
  let q := s.queue p 2 cq
  if !s.queueGranted p 2 cq || !q.en || q.overflow then (s, false)
  else if 2 ^ q.logN ≤ q.used then (s.setQueue p 2 cq { q with overflow := true }, true)
  else
    let idx := q.pi % 2 ^ q.logN
    let t := s.ringWrite p q (16 * idx) (e.bytes (!q.oddPass))
    let last := idx + 1 = 2 ^ q.logN
    let send := (cqVector p q.w4).isSome && !q.irqOut && (s.funcOf p).isSome
    let q1 := { q with pi := (q.pi + 1) % 65536, used := q.used + 1, oddPass := if last then !q.oddPass else q.oddPass, irqOut := q.irqOut || send }
    let t := t.setQueue p 2 cq q1
    match cqVector p q.w4, s.funcOf p with
    | some v, some f => (if send then t.sendMsix f v else t, false)
    | _, _ => (t, false)

/-- The partition's lowest-numbered enabled completion queue with EVENTS = 1 (R260). -/
def State.eventQueue (s : State) (p : Nat) : Option Nat :=
  (s.queues.find? (fun e => e.1 / 4096 == p * 4 + 2 && e.2.en && bit e.2.w4 11)).map (fun e => e.1 % 4096)

/-- An asynchronous event of a partition (R260); dropped without an event queue. -/
def State.asyncEvent (s : State) (p code qp info : Nat) : State :=
  match s.eventQueue p with
  | none => s
  | some cq => (s.postRaw p cq { status := code, kind := 7, op := 0, imm := false, queue := qp, index := 0, info := info, user := s.count % 2 ^ 32 }).1

/-- A CQE posted to a completion queue, with CQ_OVERFLOW raised when it overflows (R248). -/
def State.postCqe (s : State) (p cq : Nat) (e : Cqe) : State :=
  let r := s.postRaw p cq e
  if r.2 then r.1.asyncEvent p 0x0A 0xFFFF cq else r.1

end Sys2Proof.Machine
end

