-- ==== Sys2Proof/Machine/Gate.lean ====
section
/-! DEFINITION. Clock gating of idle blocks (R360): what ungates a block, and its bells without work. -/

namespace Sys2Proof.Machine

/-- Blocks of Table 14.2: engine slot `ps`, core `k` of slot `ps`, copy engine `u`, I/O core `i`. -/
def slotBlock (ps : Nat) : Nat := ps
def coreBlock (c : Nat) : Nat := 18 + c / 4
def copyBlock (u : Nat) : Nat := 90 + u
def iocBlock (i : Nat) : Nat := 112 + i
def blockCount : Nat := 144

/-- Work arrives for a block: it is ungated, and this bell is not one without work. -/
def State.ungate (s : State) (b : Nat) : State :=
  { s with pwr := { s.pwr with
      gated := Tab.set false s.pwr.gated b false, idle := Tab.set 0 s.pwr.idle b 0, touched := Tab.set false s.pwr.touched b true } }

/-- The block holds work now. -/
def State.blockBusy (s : State) (b : Nat) : Bool :=
  if b < 18 then !(s.slot b).queue.isEmpty
  else if b < 90 then (List.range 4).any (fun i => match (s.ctx ((b - 18) * 4 + i)).run with | .running | .waiting _ _ => true | _ => false)
  else if b < 112 then !(s.copy (b - 90)).queue.isEmpty
  else match (s.ctx (288 + (b - 112))).run with | .running | .waiting _ _ => true | _ => false

/-- A bell ends: each block that had no work in it counts one more idle bell (R360). -/
def State.idleBells (s : State) : State :=
  (List.range blockCount).foldl (fun t b =>
    let n := if Tab.get false t.pwr.touched b || t.blockBusy b then 0 else Tab.get 0 t.pwr.idle b + 1
    { t with pwr := { t.pwr with idle := Tab.set 0 t.pwr.idle b (min n 255), touched := Tab.set false t.pwr.touched b (t.blockBusy b) } }) s

/-- PWR_STATE in Run or Idle: every engine slot, tending core and copy engine is gated (R359). -/
def State.allGated (s : State) : Bool := (List.range 112).all (fun b => Tab.get false s.pwr.gated b)

end Sys2Proof.Machine
end

