-- ==== Sys2Proof/Machine/Commit.lean ====
section
/-! DEFINITION. The commit of bells (R14) and what a commit releases (R149). -/

namespace Sys2Proof.Machine

/-- The context runs or waits (TC_STATUS.RUNNING). -/
def Ctx.alive (x : Ctx) : Bool := match x.run with
  | .running | .waiting _ _ => true
  | _ => false

/-- The bell a context's program still owes: the bell it works in, the bell a WAITBELL waits for, the target of a
WAITBELLT; none for one that is stopped, halted or frozen (R109, R162; notes/assumptions/8.md). -/
def Ctx.owes (x : Ctx) : Option Nat :=
  if x.frozen then none
  else match x.run with
    | .stopped | .halted => none
    | .waiting .bell _ => some (x.pb.toNat + 1)
    | .waiting (.bellT t _) _ => some t
    | _ => some x.pb.toNat

/-- Bells that some work scheduled for them, or a contained fault, still holds (R14). -/
def State.heldBells (s : State) : List Nat :=
  (s.slots.map (fun e => e.2.queue.map (·.bell))).flatten ++
  (s.copies.map (fun e => e.2.queue.map (·.bell))).flatten ++
  s.ctxs.filterMap (fun e => if e.1 < 288 then e.2.owes else none) ++
  s.bell.faultBells.map (·.2)

/-- BELL_COMMIT.NEXT after every bell that can commit has: the lowest bell that is still in progress or held, never back. -/
def State.commitNext (s : State) : Nat :=
  max (s.rd Reg.BELL_COMMIT_NEXT) (s.heldBells.foldl min s.count)

/-- The replay log of a copy engine after the bells below `next` have committed: a LOG entry of bell B goes when bell B+1
commits, an ONLY entry when bell B does (R149). -/
def CopyEng.release (x : CopyEng) (next : Nat) : CopyEng :=
  { x with log := x.log.filter (fun l => if l.only then decide (next ≤ l.bell) else decide (next ≤ l.bell + 1)) }

/-- Every list of a table filtered. -/
def Tab.filterAll {α : Type} [DecidableEq α] (t : Tab (List α)) (f : α → Bool) : Tab (List α) :=
  t.foldl (fun c e => Tab.set [] c e.1 (e.2.filter f)) []

/-- The snapshots, MOP-log entries and posted completions that still stand after the bells below `next` have committed
(R332, R333, R336), and the replays that count against an uncommitted bell (R331). -/
def Flt.release (f : Flt) (next : Nat) : Flt :=
  { f with
    snaps := Tab.filterAll f.snaps (fun x => decide (next ≤ x.bell))
    mopLogs := Tab.filterAll f.mopLogs (fun x => decide (next ≤ x.bell))
    posted := Tab.filterAll f.posted (fun x => decide (next ≤ x.bell))
    tries := Tab.filterAll f.tries (fun d => decide (next ≤ d)) }

/-- Bells commit in order as far as they can (R14), and what they held is released (R149, R332, R333). -/
def State.commitBells (s : State) : State :=
  let next := s.commitNext
  let t := s.wr Reg.BELL_COMMIT_NEXT next
  { t with
    copies := t.copies.foldl (fun c e => Tab.set CopyEng.reset c e.1 (e.2.release next)) []
    flt := t.flt.release next }

end Sys2Proof.Machine
end

