-- ==== Sys2Proof/Machine/Replay.lean ====
section
/-! DEFINITION. The logs that a replay runs from, what it suppresses, and its end (R332 to R336). -/

namespace Sys2Proof.Machine

def State.replayOf (s : State) (n : Nat) : Option Replay := Tab.get none s.flt.replays n
def State.setReplay (s : State) (n : Nat) (r : Option Replay) : State := { s with flt := { s.flt with replays := Tab.set none s.flt.replays n r } }
def State.mopLog (s : State) (n : Nat) : List LogMop := Tab.get [] s.flt.mopLogs n
def State.setMopLog (s : State) (n : Nat) (l : List LogMop) : State := { s with flt := { s.flt with mopLogs := Tab.set [] s.flt.mopLogs n l } }

/-- FLT_EVENT bits go to vector 0. -/
def State.fltEvent (s : State) (f : Fld) : State := s.event f Reg.FLT_EVENT_EN_EN 0

/-- One completion on engine `n`, or its copy engine, for a partition (R336): suppressed while the replay has not repeated
the first run's completions; else recorded, and the second part says that it posts. -/
def State.tally (s : State) (n part : Nat) (bump : Option Nat) : State × Bool :=
  match s.replayOf n with
  | some r =>
    if 0 < Tab.get 0 r.left part then
      let r1 := { r with left := Tab.set 0 r.left part (Tab.get 0 r.left part - 1) }
      let r2 := match bump with
        | some id => { r1 with hidden := Tab.set 0 r1.hidden (part * 65536 + id) (Tab.get 0 r1.hidden (part * 65536 + id) - 1) }
        | none => r1
      (s.setReplay n (some r2), false)
    else ({ s with flt := { s.flt with posted := Tab.set [] s.flt.posted n (Tab.get [] s.flt.posted n ++ [{ part := part, bell := s.count, bump := bump }]) } }, true)
  | none =>
    ({ s with flt := { s.flt with posted := Tab.set [] s.flt.posted n (Tab.get [] s.flt.posted n ++ [{ part := part, bell := s.count, bump := bump }]) } }, true)

/-- The value of a counter that a context sees: less the bumps that its engine's replay has not yet repeated (R336). -/
def State.counterSeen (s : State) (c p id : Nat) : Nat :=
  let v := s.counter p id
  if !isTc c then v
  else match s.engineOf (ctxSlot c) with
    | none => v
    | some n =>
      match s.replayOf n with
      | some r => if r.begun && decide (c % 16 ∈ r.ctxs) then (v + 2 ^ 32 - Tab.get 0 r.hidden (p * 65536 + id)) % 2 ^ 32 else v
      | none => v

/-- The replay of engine `n` has completed its last bell: nothing logged is left to run, nothing it queued is left, and its
contexts work in a later bell. -/
def State.replayDone (s : State) (n ps : Nat) (r : Replay) : Bool :=
  r.begun && (s.mopLog n).all (fun e => e.released) && !(s.slot ps).queue.any (fun m => m.replay) &&
  (s.copy ps).log.all (fun e => e.released) && !(s.copy ps).queue.any (fun d => decide (d.src = .replay)) &&
  r.ctxs.all (fun k => match (s.ctx (ps * 16 + k)).owes with
    | some b => decide (r.d < b)
    | none => true)

/-- Partitions with work in a replay. -/
def State.replayParts (s : State) (n ps : Nat) (r : Replay) : List Nat :=
  ((s.mopLog n).map (·.part) ++ (s.copy ps).log.map (·.part) ++ r.ctxs.map (fun k => s.ctxPart (ps * 16 + k)) ++ r.left.map (·.1)).eraseDups

/-- The contained fault of engine `n` is outstanding no more, or against bell `b0` (R14). -/
def State.holdBell (s : State) (n : Nat) (b0 : Option Nat) : State :=
  { s with bell := { s.bell with faultBells := s.bell.faultBells.filter (fun e => e.1 != n) ++ (b0.map (fun b => (n, b))).toList } }

/-- The contexts of slot `ps` that the fence stopped and no restart brought back go on with what they did (R336). -/
def State.unpark (s : State) (ps : Nat) : State :=
  s.each 16 (fun k t =>
    let x := t.ctx (ps * 16 + k)
    match x.parked with
    | some r => t.setCtx (ps * 16 + k) { x with run := if x.run = .stopped then r else x.run, parked := none }
    | none => t)

/-- Resumption (R336): REPLAY_DONE, event 0x10 to every partition with work in the replay, and the bells may commit. -/
def State.tryResume (s : State) (n : Nat) : State :=
  match s.replayOf n, s.slotOf n with
  | some r, some ps =>
    if !s.replayDone n ps r then s
    else
      let parts := s.replayParts n ps r
      let t := ((s.setReplay n none).holdBell n none).unpark ps
      let t := (t.wr Reg.FLT_REPLAY_ACTIVE 0).wr Reg.FLT_STATUS_REPLAYING (b2n (t.flt.replays.any (fun e => e.2.isSome)))
      let t := parts.foldl (fun t p => t.asyncEvent p 0x10 0xFFFF (r.b0 % 2 ^ 32)) (t.fltEvent Reg.FLT_EVENT_REPLAY_DONE)
      t.commitBells
  | _, _ => s

end Sys2Proof.Machine
end

