-- ==== Sys2Proof/Machine/Engine.lean ====
section
/-! DEFINITION. Matrix engines (chapter 03, R53 to R84): acceptance, choice, stream, load, drain, completion, shares,
mapping and lateness. -/

namespace Sys2Proof.Machine

/-! ## MOP fields (Table 3.1) -/

def Mop.fld (m : Mop) (i lo w : Nat) : Nat := bits (m.words.getD i 0) lo w
def Mop.bsA (m : Mop) : Nat := 16 * 2 ^ m.fld 0 16 2
def Mop.bsB (m : Mop) : Nat := 16 * 2 ^ m.fld 0 18 2
def Mop.accMode (m : Mop) : Nat := m.fld 0 20 2
def Mop.chain (m : Mop) : Bool := m.fld 0 22 1 == 1
def Mop.drain (m : Mop) : Bool := m.fld 0 23 1 == 1
def Mop.round (m : Mop) : Nat := m.fld 0 24 2
def Mop.layout (m : Mop) : Nat := m.fld 0 26 2
def Mop.outBs (m : Mop) : Nat := 16 * 2 ^ m.fld 0 28 2
def Mop.tgt (m : Mop) : Bool := m.fld 0 30 1 == 1
def Mop.notify (m : Mop) : Bool := m.fld 0 31 1 == 1
def Mop.kLen (m : Mop) : Nat := 16 * m.fld 1 0 16
def Mop.rows (m : Mop) : Nat := m.fld 1 16 7 + 1
def Mop.cols (m : Mop) : Nat := m.fld 1 23 9 + 1
def Mop.eacc (m : Mop) : Int := sext 8 (m.fld 3 0 8)
def Mop.qs (m : Mop) : Int := sext 8 (m.fld 3 8 8)
def Mop.addr (m : Mop) (i : Nat) : Nat := m.fld i 0 25
def Mop.keep (m : Mop) : Bool := m.accMode == 1
def Mop.load (m : Mop) : Bool := m.accMode == 2
/-- Formats of A, B and the output; a reserved code never reaches a use of these (R59). -/
def Mop.fmtA (m : Mop) : Fmt := (Fmt.ofCode (m.fld 0 4 4)).getD .s8
def Mop.fmtB (m : Mop) : Fmt := (Fmt.ofCode (m.fld 0 8 4)).getD .s8
def Mop.fmtOut (m : Mop) : Fmt := (Fmt.ofCode (m.fld 0 12 4)).getD .s8
/-- Unit length u (R42). -/
def Mop.unitK (m : Mop) : Nat := min m.bsA m.bsB
/-- Units of the MOP. -/
def Mop.units (m : Mop) : Nat := m.kLen / m.unitK
def Mop.bbA (m : Mop) : Nat := m.fmtA.blockBytes m.bsA
def Mop.bbB (m : Mop) : Nat := m.fmtB.blockBytes m.bsB
def Mop.obb (m : Mop) : Nat := m.fmtOut.blockBytes m.outBs
/-- Bytes of an element of the load source (R61). -/
def Mop.loadW (m : Mop) : Nat := 3 + m.fld 4 20 1

/-- A MOP as the engine first sees it. -/
def Mop.fresh (words : List Nat) (part bell now : Nat) : Mop :=
  { words := words, part := part, bell := bell, rej := none, stage := .queued, chosenAt := now, buf := 0, loaded := false,
    lent := false, firstStep := 0, lastStep := 0, ramped := false, unitEnds := [], unitSteps := [], paid := 0, portEnd := 0, view := [],
    viewEnd := 0, start := [], accSat := 0, outSat := 0, fmtErr := 0, skipped := 0, out := [], satEnds := [], replay := false, since := 0, cut := false }

/-! ## Acceptance (R59, Table 3.2) -/

/-- REJ_RESERVED: a reserved encoding or a non-zero reserved field. -/
def Mop.reservedBad (m : Mop) : Bool :=
  m.fld 0 0 4 != 1 || m.fld 0 4 4 == 15 || m.fld 0 8 4 == 15 || m.fld 0 12 4 == 15 ||
  !m.fmtA.multiplicand || !m.fmtB.multiplicand || (m.drain && !m.fmtOut.drainable) || m.round == 3 || m.accMode == 3 ||
  (m.layout == 0 && m.fld 0 28 2 != 0) || ((m.layout == 1 || m.layout == 2) && m.addr 12 != 0) ||
  (!m.load && (m.addr 13 != 0 || m.fld 4 20 1 != 0)) || (!m.drain && m.fld 0 12 4 != 0) ||
  (!m.drain && m.fld 4 5 2 != 0) || (m.fld 14 20 1 == 0 && m.fld 14 0 20 != 0) ||
  m.fld 3 28 4 != 0 || m.fld 4 21 11 != 0 || m.fld 14 21 11 != 0 ||
  [5, 6, 7, 8, 9, 10, 11, 12, 13].any (fun i => m.fld i 25 7 != 0)

/-- REJ_SHAPE; `open_` is the partition's open chain as accepted, and `broken` a pending break, which lifts the chain's
own checks. -/
def Mop.shapeBad (m : Mop) (open_ : Option (Nat × Nat)) (broken : Bool) : Bool :=
  m.kLen == 0 || m.kLen % max m.bsA m.bsB != 0 || decide (16 < m.fld 4 0 5) ||
  (!broken && (match open_ with
    | none => m.keep
    | some rc => !m.keep || rc.1 != m.rows || rc.2 != m.cols)) ||
  (!m.chain && !m.drain) ||
  (m.drain && ((m.layout != 0 && (m.fmtOut == .s24 || m.fmtOut == .s32)) ||
    (m.layout == 0 && m.cols % m.fmtOut.group != 0) || (m.layout == 1 && m.cols % m.outBs != 0) ||
    ((m.layout == 2 || m.layout == 3) && m.rows % m.outBs != 0))) ||
  m.addr 5 % 64 != 0 || m.addr 6 % 64 != 0 || m.addr 7 % 64 != 0 || m.addr 8 % 64 != 0 ||
  (m.drain && m.fld 4 5 1 == 1 && m.addr 9 % 64 != 0) || (m.drain && m.fld 4 6 1 == 1 && m.addr 10 % 64 != 0) ||
  (m.drain && m.addr 11 % 64 != 0) || m.addr 12 % 64 != 0 || (m.load && m.addr 13 % 64 != 0) ||
  (m.fld 14 20 1 == 1 && m.fld 14 0 18 % 16 != 0)

/-- The elements that the stream reads, A's blocks and then B's: tile-store offset and length (Table 3.3). -/
def Mop.elemReads (m : Mop) : List (Nat × Nat) :=
  (List.range (m.kLen / m.bsA)).map (fun b => (m.addr 5 + b * 128 * m.bbA, m.rows * m.bbA)) ++
  (List.range (m.kLen / m.bsB)).map (fun b => (m.addr 6 + b * 512 * m.bbB, m.cols * m.bbB))

/-- The block scale words that the stream reads. -/
def Mop.wordReads (m : Mop) : List (Nat × Nat) :=
  (List.range (m.kLen / m.bsA)).map (fun b => (m.addr 7 + b * 256, m.rows * 2)) ++
  (List.range (m.kLen / m.bsB)).map (fun b => (m.addr 8 + b * 1024, m.cols * 2))

/-- The tile scale words that the drain reads. -/
def Mop.tileReads (m : Mop) : List (Nat × Nat) :=
  (if m.drain && m.fld 4 5 1 == 1 then [(m.addr 9, 2 * m.rows)] else []) ++
  (if m.drain && m.fld 4 6 1 == 1 then [(m.addr 10, 2 * m.cols)] else [])

/-- The load source (R61). -/
def Mop.loadReads (m : Mop) : List (Nat × Nat) := if m.load then [(m.addr 13, m.rows * m.cols * m.loadW)] else []

/-- All that the MOP reads. -/
def Mop.reads (m : Mop) : List (Nat × Nat) := m.elemReads ++ m.wordReads ++ m.tileReads ++ m.loadReads

/-- Regions that the MOP's drain writes. -/
def Mop.writes (m : Mop) : List (Nat × Nat) :=
  if !m.drain then []
  else match m.layout with
    | 0 => (List.range m.rows).map (fun i => (m.addr 11 + i * m.addr 12, m.cols * m.fmtOut.width / 8))
    | 1 => (List.range (m.cols / m.outBs)).map (fun b => (m.addr 11 + b * 128 * m.obb, m.rows * m.obb))
    | 2 => (List.range (m.rows / m.outBs)).map (fun b => (m.addr 11 + b * 512 * m.obb, m.cols * m.obb))
    | _ => ((List.range (ceilDiv m.cols 128)).map (fun q => (List.range (m.rows / m.outBs)).map (fun b =>
        (m.addr 11 + q * m.addr 12 + b * 128 * m.obb, min 128 (m.cols - q * 128) * m.obb)))).flatten

/-- The status record's place lies in the partition's tending-core memory (R59, R65). -/
def State.statusOpen (s : State) (n : Nat) (m : Mop) : Bool :=
  s.inWindow m.part n (m.fld 14 18 2) (m.fld 14 0 18) && s.inWindow m.part n (m.fld 14 18 2) (m.fld 14 0 18 + 15)

/-- REJ_BOUNDS: a byte outside the partition's tile-store allocation, or the status record outside its memory. P0's
allocation is what no tenant holds. -/
def State.mopBoundsBad (s : State) (n : Nat) (m : Mop) : Bool :=
  (m.reads ++ m.writes).any (fun r => !s.openRange m.part true (tileBase n + r.1) r.2 || decide (tileSize < r.1 + r.2)) ||
  (m.fld 14 20 1 == 1 && !s.statusOpen n m)

/-- The first of the rejection conditions that holds, as the status of Table 3.4. -/
def State.mopReject (s : State) (n ps : Nat) (m : Mop) : Option Nat :=
  let x := s.slot ps
  let broken := Tab.get false x.broken m.part
  if m.reservedBad then some 1
  else if m.shapeBad (Tab.get none x.accepted m.part) broken then some 3
  else if s.mopBoundsBad n m then some 2
  else if m.keep && broken then some 5
  else if m.tgt && !m.replay && decide (m.bell ≤ s.count) then some 4
  else none

/-- ME_ERR bits go to vector 3. -/
def State.meErr (s : State) (ps : Nat) (f : Nat → Fld) : State := s.event (f ps) (Reg.ME_ERR_EN_EN ps) 3

/-- The records a rejection makes: REJECT and ME_REJECT_INFO, CHAIN_BROKEN, or MISSED_TARGET (R59). -/
def State.mopRejected (s : State) (ps : Nat) (m : Mop) (st : Nat) : State :=
  if st = 5 then s.meErr ps Reg.ME_ERR_CHAIN_BROKEN
  else if st = 4 then (s.meErr ps Reg.ME_ERR_MISSED_TARGET).missedTarget
  else
    (((s.wr (Reg.ME_REJECT_INFO_CODE ps) st).wr (Reg.ME_REJECT_INFO_PART ps) m.part).wr
      (Reg.ME_REJECT_INFO_USER ps) (m.fld 15 0 16)).meErr ps Reg.ME_ERR_REJECT

/-- MOP `m` of partition `p` waits to be chosen. -/
def Mop.waits (m : Mop) (p : Nat) : Bool := m.part == p && decide (m.stage = .queued) && m.rej.isNone

/-- A ZERO or LOAD MOP of partition `p` waits: it starts a new chain, and so ends a break that is pending (R64). -/
def startWaits (p : Nat) (q : List Mop) : Bool := q.any (fun m => m.waits p && !m.keep)

/-- The KEEP MOPs of `p` that wait before its first ZERO or LOAD MOP complete with CHAIN_BROKEN (R64). -/
def breakHead (p : Nat) : List Mop → List Mop
  | [] => []
  | m :: r => if !m.waits p then m :: breakHead p r else if m.keep then { m with rej := some 5, cut := true } :: breakHead p r else m :: r

/-- The KEEP MOPs of `p` that wait after its last ZERO or LOAD MOP complete with CHAIN_BROKEN (R64). -/
def breakTail (p : Nat) : List Mop → List Mop
  | [] => []
  | m :: r => (if m.waits p && m.keep && !startWaits p r then { m with rej := some 5, cut := true } else m) :: breakTail p r

/-- The chain that the engine serves ends, if it is `p`'s: its buffer is discarded, but for a MOP already chosen or
streaming, which keeps its values (R64). -/
def Slot.dropChain (x : Slot) (p : Nat) : Slot :=
  let mine := x.chain.elim false (fun c => c.part == p)
  let buf := x.chain.elim 0 (·.buf)
  let used := x.queue.any (fun m => m.buf == buf && (decide (m.stage = .chosen) || decide (m.stage = .streaming)))
  { x with
    chain := if mine then none else x.chain
    buf0 := if mine && buf == 0 && !used then [] else x.buf0
    buf1 := if mine && buf == 1 && !used then [] else x.buf1 }

/-- A break is pending for partition `p`, and it has no open chain (R64). -/
def Slot.pendBreak (x : Slot) (p : Nat) : Slot :=
  { x with accepted := Tab.set none x.accepted p none, broken := Tab.set false x.broken p true }

/-- The chain that the engine serves for `p` breaks (R64): its KEEP MOPs that are queued complete with CHAIN_BROKEN, and the
break stays pending unless a ZERO or LOAD MOP of `p` is queued already. -/
def Slot.breakChain (x : Slot) (p : Nat) : Slot :=
  let y := { x.dropChain p with queue := breakHead p x.queue }
  if startWaits p x.queue then y else y.pendBreak p

/-- The last chain that `p` opened breaks, because a MOP that would continue it is rejected (R64): it is the one the engine
serves, or one whose first MOP still waits. -/
def Slot.cutChain (x : Slot) (p : Nat) : Slot :=
  let y := if startWaits p x.queue then x else x.dropChain p
  { y with queue := breakTail p x.queue }.pendBreak p

/-- A break of partition `p`'s chain on slot `ps`, with ME_ERR.CHAIN_BROKEN (R64). -/
def State.breakChain (s : State) (ps p : Nat) : State :=
  (s.setSlot ps ((s.slot ps).breakChain p)).meErr ps Reg.ME_ERR_CHAIN_BROKEN

/-- A break by a rejected MOP, with ME_ERR.CHAIN_BROKEN (R64). -/
def State.cutChain (s : State) (ps p : Nat) : State :=
  (s.setSlot ps ((s.slot ps).cutChain p)).meErr ps Reg.ME_ERR_CHAIN_BROKEN

/-- MOPs accepted and not yet chosen (ME_SLOT_STATUS.QDEPTH; R55). -/
def Slot.depth (x : Slot) : Nat := (x.queue.filter (fun m => decide (m.stage = .queued))).length
/-- Those of one partition. -/
def Slot.depthOf (x : Slot) (p : Nat) : Nat := (x.queue.filter (fun m => decide (m.stage = .queued) && m.part == p)).length

/-- The engine's queue and its MOP log have room for a MOP of partition `p` (R55, R333); an offline engine has none (R84). -/
def State.mopRoom (s : State) (n p : Nat) : Bool :=
  match s.slotOf n with
  | none => false
  | some ps => decide ((s.slot ps).depth < 64) && decide ((s.slot ps).depthOf p < 32) && decide ((s.mopLog n).length < 256)

/-- The engine accepts a MOP (R59): checked, queued or kept to complete with its rejection in order. A ZERO or LOAD MOP that is
itself rejected leaves a pending break pending (notes/assumptions/70.md). -/
def State.acceptMop (s : State) (n ps p : Nat) (words : List Nat) (bell : Nat) (replay : Bool) : State :=
  let m0 := { Mop.fresh words p bell s.now with replay := replay, since := s.count }
  let rej := s.mopReject n ps m0
  let m := { m0 with rej := rej }
  let s := s.ungate (slotBlock ps)
  let x := s.slot ps
  let opened := (Tab.get none x.accepted p).isSome
  match rej with
  | some st =>
    let t := (s.setSlot ps { x with queue := x.queue ++ [m] }).mopRejected ps m st
    t.when (opened && st != 5) (fun t => t.cutChain ps p)
  | none =>
    s.setSlot ps { x with
      queue := x.queue ++ [m]
      accepted := Tab.set none x.accepted p (if m.chain then some (m.rows, m.cols) else none)
      broken := if m.keep then x.broken else Tab.set false x.broken p false }

/-- An issuing context's logged MOP that its replay has not yet issued: the first, of bell B0 or later by its pb (R336). -/
def awaits (r : Replay) (k : Nat) (ctx : Option Nat) (pb : Nat) (released : Bool) : Bool :=
  r.begun && decide (k ∈ r.ctxs) && ctx == some k && decide (r.b0 ≤ pb) && !released

/-- A MOP issued by a context, `k` as core·4 + context with program bell `pb`: while the context replays and a logged MOP of
it has not been issued again, the enqueue is absorbed and the logged copy runs; else the MOP is accepted and logged (R333,
R336). -/
def State.issueMop (s : State) (n ps p : Nat) (words : List Nat) (k pb : Nat) : State :=
  let absorbed := (s.replayOf n).bind (fun r => (s.mopLog n).findIdx? (fun e => awaits r k e.ctx e.pb e.released))
  match absorbed.bind (fun i => ((s.mopLog n)[i]?).map (fun e => (i, e))) with
  | some (i, e) => ((s.setMopLog n ((s.mopLog n).set i { e with released := true })).acceptMop n ps e.part e.words e.bell true).tryResume n
  | none =>
    let bell := bellOf s.count (bits (words.getD 2 0) 0 16)
    (s.setMopLog n (s.mopLog n ++ [{ words := words, part := p, bell := bell, ctx := some k, pb := pb, released := true }])).acceptMop n ps p words bell false

/-! ## Shares and credits (R76, R77) -/

/-- The engine's slot, if it has one, and the effect there. -/
def State.onSlot (s : State) (n : Nat) (f : Nat → State) : State := (s.slotOf n).elim s f

/-- `f` applied to the first MOP of a queue that `p` names. -/
def updFirst (p : Mop → Bool) (f : Mop → Mop) : List Mop → List Mop
  | [] => []
  | m :: r => if p m then f m :: r else m :: updFirst p f r

/-- Eight times the engine clocks Q of the bell in progress: PERIOD in 125 ns units, PACE in 25 MHz units (R76). -/
def State.bellClocks8 (s : State) : Nat := s.rd Reg.BELL_PERIOD_CURRENT * s.rd Reg.BELL_PACE_CURRENT * 25

/-- Quota of partition `p` on engine `n` in the bell in progress. -/
def State.quota (s : State) (n p : Nat) : Nat := s.bellClocks8 * Tab.get 0 s.shares (n * 64 + p) / (8 * 64)

def State.credit (s : State) (n p : Nat) : Int := Tab.get 0 s.credits (n * 64 + p)
def State.setCredit (s : State) (n p : Nat) (v : Int) : State := { s with credits := Tab.set 0 s.credits (n * 64 + p) v }

/-- The oldest MOP of a partition that waits to be chosen. -/
def Slot.oldest (x : Slot) (p : Nat) : Option Mop := x.queue.find? (fun m => m.waits p)

/-- A chain whose partition's next MOP starts a new chain, or whose break is pending, waits for nothing any more. -/
def Slot.closeStale (x : Slot) : Slot :=
  match x.chain with
  | some c =>
    if c.waitFrom.isSome && (match x.oldest c.part with | some m => !m.keep | none => Tab.get false x.broken c.part) then { x with chain := none } else x
  | none => x

/-- The clocks up to the edge that a chain on engine `n` has waited for its next MOP are charged to its partition (R77). -/
def State.chargeWait (s : State) (n : Nat) : State :=
  match s.slotOf n with
  | none => s
  | some ps =>
    match (s.slot ps).closeStale.chain with
    | none => s
    | some c =>
      match c.waitFrom with
      | none => s
      | some w =>
        if s.bell.edgeAt ≤ w then s
        else (s.setSlot ps { s.slot ps with chain := some { c with waitFrom := some s.bell.edgeAt } }).setCredit n c.part
          (s.credit n c.part - s.engClocks w s.bell.edgeAt)

/-- The edge of the bell of MOP `m`, when it is the bell in progress or the one before; 0 for an older bell. -/
def State.edgeTime (s : State) (m : Mop) : Nat :=
  if m.bell = s.count then s.bell.edgeAt else if m.bell + 1 = s.count then s.bell.prevEdgeAt else 0

/-- From when a MOP that may issue its first step is charged: its choice, the clock after the previous last step, its edge
(R77), or the last edge, at which what went before was charged. -/
def State.chargeFrom (s : State) (x : Slot) (m : Mop) : Nat :=
  max (max m.chosenAt m.paid) (max (x.lastStep.getD 0) (s.edgeTime m))

/-- What the chosen MOP of engine `n` has cost up to the edge by waiting for its first step is charged to its partition (R77). -/
def State.chargeGap (s : State) (n : Nat) : State :=
  s.onSlot n (fun ps =>
    let x := s.slot ps
    match x.queue.find? (fun m => decide (m.stage = .chosen)) with
    | none => s
    | some m =>
      (s.setSlot ps { x with queue := updFirst (fun q => decide (q.stage = .chosen)) (fun q => { q with paid := s.bell.edgeAt }) x.queue }).setCredit
        n m.part (s.credit n m.part - (if m.lent then 0 else (s.engClocks (s.chargeFrom x m) s.bell.edgeAt : Int))))

/-- The partition whose stream on engine `n` goes on past the edge, and its clocks after the edge: charged at its first step
(notes/assumptions/70.md), they belong to the bell that begins (R77). -/
def State.carried (s : State) (n : Nat) : Option (Nat × Nat) :=
  (s.slotOf n).bind (fun ps => ((s.slot ps).queue.find? (fun m => decide (m.stage = .streaming) && !m.lent && decide (s.bell.edgeAt < m.lastStep))).map
    (fun m => (m.part, s.engClocks s.bell.edgeAt m.lastStep)))

/-- At an edge the written share of partition `p` on engine `n` comes into force, and its credit becomes min(credit, 0) + quota
(R76, R77); `after` are the clocks of its stream after the edge. -/
def State.newCredit (s : State) (n p after : Nat) : State :=
  let t := { s with shares := Tab.set 0 s.shares (n * 64 + p) (s.rd (Reg.ME_SHARE_SHARE n p)) }
  t.setCredit n p (min (t.credit n p + after) 0 + (t.quota n p : Int) - after)

/-- The credits of every engine at an edge, after the waits of the bell that ends have been charged (R76, R77). -/
def State.updateCredits (s : State) : State :=
  (s.each 16 (fun n t => (t.chargeWait n).chargeGap n)).each 16 (fun n t =>
    let c := t.carried n
    t.each 64 (fun p t => t.newCredit n p (c.elim 0 (fun c => if c.1 = p then c.2 else 0))))

/-- Sum of the shares as written on engine `n` (R76). -/
def State.shareSum (s : State) (n : Nat) : Nat := ((List.range 64).map (fun p => s.rd (Reg.ME_SHARE_SHARE n p))).sum

/-- Sum of the shares in force (ME_LOG_STATUS.SHARE_SUM). -/
def State.shareSumInForce (s : State) (n : Nat) : Nat := ((List.range 64).map (fun p => Tab.get 0 s.shares (n * 64 + p))).sum

/-- A share write: refused when the sum would exceed 64 or the engine is offline (R76, R84); in force at once while the bell
generator is off. -/
def State.writeShare (s : State) (n p value : Nat) : State :=
  let v := bits value 0 7
  if 64 < s.shareSum n - s.rd (Reg.ME_SHARE_SHARE n p) + v || (s.slotOf n).isNone then s.wr (Reg.ME_DIE_STATUS_SHARE_OVER (n / 8)) 1
  else
    (s.wr (Reg.ME_SHARE_SHARE n p) v).when (!s.on Reg.BELL_CTRL_EN) (fun t => { t with shares := Tab.set 0 t.shares (n * 64 + p) v })

/-! ## Choice (R71, R78) -/

/-- A MOP that its edge no longer holds: the edge has come, or comes within 24 clocks (R56, R71, R78). -/
def State.mopReady (s : State) (m : Mop) : Bool :=
  decide (m.bell ≤ s.count) || (m.bell == s.count + 1 && s.on Reg.BELL_CTRL_EN && decide (s.bell.nextAt ≤ s.now + s.engTime 24))

/-- The partition whose oldest MOP is chosen next round robin after `last`, by the test `ok`. -/
def State.roundRobin (s : State) (x : Slot) (last : Nat) (ok : Nat → Bool) : Option Nat :=
  (List.range 64).findSome? (fun i =>
    let p := (last + 1 + i) % 64
    match x.oldest p with
    | some m => if s.mopReady m && ok p then some p else none
    | none => none)

/-- The partition to choose and whether its MOP is lent (R78): the open chain's, else one with credit, else with LEND one
without. The later MOPs and the waits of a chain begun on lent clocks are charged (notes/assumptions/70.md). -/
def State.choice (s : State) (n : Nat) (x : Slot) : Option (Nat × Bool) :=
  match x.chain with
  | some c =>
    match x.oldest c.part with
    | some m => if m.keep && s.mopReady m then some (c.part, false) else none
    | none => none
  | none =>
    let last := s.rd (Reg.ME_LOG_STATUS_LAST_PART n)
    match s.roundRobin x last (fun p => decide (0 < s.credit n p)) with
    | some p => some (p, false)
    | none => if s.on (Reg.ME_LOG_CTRL_LEND n) then (s.roundRobin x last (fun _ => true)).map (fun p => (p, true)) else none

/-- The oldest MOP of partition `p` in the queue is chosen (R71, R78): its buffer, the chain it opens, the credit its chain's wait cost. -/
def State.chosenMop (s : State) (n ps p : Nat) (lent : Bool) : State :=
  let x := (s.slot ps).closeStale
  let buf := x.chain.elim (1 - x.lastBuf) (·.buf)
  let waited := (x.chain.bind (·.waitFrom)).elim 0 (fun t => s.engClocks t s.now)
  let pick (m : Mop) : Bool := m.part == p && decide (m.stage = .queued) && m.rej.isNone
  let first := (x.oldest p).elim (0, 0) (fun m => (m.rows, m.cols))
  let x1 := { x with
    queue := updFirst pick (fun m => { m with stage := .chosen, chosenAt := s.now, buf := buf, lent := lent }) x.queue
    lastBuf := buf
    chain := match x.chain with
      | some c => some { c with waitFrom := none }
      | none => some { part := p, rows := first.1, cols := first.2, buf := buf, waitFrom := none } }
  ((s.setSlot ps x1).setCredit n p (s.credit n p - waited)).wr (Reg.ME_LOG_STATUS_LAST_PART n) p

/-- A MOP streams whose first step lies a clock or more back (R71). -/
def State.midStream (s : State) (x : Slot) : Bool :=
  x.queue.any (fun m => decide (m.stage = .streaming) && decide (s.now < m.lastStep) && decide (0 < s.engClocks m.firstStep s.now))

/-- The engine chooses its next MOP, if none is already chosen: in the clock in which the current MOP issues its first step, or while
none is streaming (R71, R78); the clocks a chain has waited are charged to its partition (R77). -/
def State.chooseMop (s : State) (n ps : Nat) : State :=
  let x := (s.slot ps).closeStale
  if x.fenced || x.queue.any (fun m => decide (m.stage = .chosen)) || s.midStream x then s
  else match s.choice n x with
    | none => s
    | some (p, lent) =>
      s.chosenMop n ps p lent

/-! ## Stream (R68 to R71, R74, R80) -/

/-- A tile-store byte of engine `n`. -/
def State.tileByte (s : State) (n off : Nat) : Nat := s.byte (tileBase n + off)
/-- A scale word. -/
def State.tileWord (s : State) (n off : Nat) : Nat := s.tileByte n off + 256 * s.tileByte n (off + 1)

/-- Scale word of A block `b` of row `i`, of B block `b` of column `j` (Table 3.3). -/
def State.scaleA (s : State) (n : Nat) (m : Mop) (b i : Nat) : Nat := s.tileWord n (m.addr 7 + 2 * (b * 128 + i))
def State.scaleB (s : State) (n : Nat) (m : Mop) (b j : Nat) : Nat := s.tileWord n (m.addr 8 + 2 * (b * 512 + j))

/-- Every active row, or every active column, has the scale word 0 in the unit (R43). -/
def State.skipA (s : State) (n : Nat) (m : Mop) (t : Nat) : Bool :=
  (List.range m.rows).all (fun i => s.scaleA n m (t * m.unitK / m.bsA) i == 0)
def State.skipB (s : State) (n : Nat) (m : Mop) (t : Nat) : Bool :=
  (List.range m.cols).all (fun j => s.scaleB n m (t * m.unitK / m.bsB) j == 0)
def State.skipUnit (s : State) (n : Nat) (m : Mop) (t : Nat) : Bool := s.skipA n m t || s.skipB n m t

/-- Element `k` of row `i` of A, of column `j` of B. -/
def State.elemA (s : State) (n : Nat) (m : Mop) (i k : Nat) : Int :=
  m.fmtA.elem (fun x => s.tileByte n (m.addr 5 + (k / m.bsA * 128 + i) * m.bbA + x)) (k % m.bsA)
def State.elemB (s : State) (n : Nat) (m : Mop) (j k : Nat) : Int :=
  m.fmtB.elem (fun x => s.tileByte n (m.addr 6 + (k / m.bsB * 512 + j) * m.bbB + x)) (k % m.bsB)

/-- The accumulator of cell (i, j) after the first `u` units of the stream, with its saturations (R44, R45). -/
def State.cellAcc (s : State) (n : Nat) (m : Mop) (u i j : Nat) (a : Int) : Int × Nat :=
  (List.range u).foldl (fun r t =>
    let k0 := t * m.unitK
    let p := ((List.range m.unitK).map (fun e => s.elemA n m i (k0 + e) * s.elemB n m j (k0 + e))).sum
    accUnit m.eacc (s.scaleA n m (k0 / m.bsA) i) (s.scaleB n m (k0 / m.bsB) j) p r) (a, 0)

/-- Bytes of 243 or more in the T2 blocks that the MOP reads in units that `skip` does not name, each counted once (R37). -/
def t2Errors (m : Mop) (f : Fmt) (bs n : Nat) (scale : Nat → Nat → Nat) (byte : Nat → Nat → Nat → Nat) (skip : Nat → Bool) : Nat :=
  if f ≠ .t2 then 0
  else ((List.range (m.kLen / bs)).map (fun b => ((List.range n).map (fun i =>
    if scale b i = 0 then 0
    else ((List.range (ceilDiv bs 5)).filter (fun x =>
      decide (243 ≤ byte b i x) &&
        (List.range 5).any (fun d => decide (5 * x + d < bs) && !skip ((b * bs + 5 * x + d) / m.unitK)))).length)).sum)).sum

/-- Format errors of the first `u` units of the MOP (R37). -/
def State.mopFmtErr (s : State) (n : Nat) (m : Mop) (u : Nat) : Nat :=
  let skip (t : Nat) : Bool := decide (u ≤ t) || s.skipUnit n m t
  t2Errors m m.fmtA m.bsA m.rows (fun b i => s.scaleA n m b i) (fun b i x => s.tileByte n (m.addr 5 + (b * 128 + i) * m.bbA + x)) skip +
  t2Errors m m.fmtB m.bsB m.cols (fun b j => s.scaleB n m b j) (fun b j x => s.tileByte n (m.addr 6 + (b * 512 + j) * m.bbB + x)) skip

/-- Element clocks per 16 elements of K (R68, Table 3.5). -/
def Mop.elemClocks16 (m : Mop) : Nat :=
  max (max m.fmtA.classClocks m.fmtB.classClocks) (ceilDiv (2 * m.fmtA.width + 8 * m.fmtB.width) 5)

/-- Element clocks of one unit. -/
def Mop.unitClocks (m : Mop) : Nat := m.unitK / 16 * m.elemClocks16

/-- One unit's clocks (R69, R70) from which A and B blocks have had their scale words read so far: the clocks and the blocks
read after it (block + 1, 0 none). -/
def State.unitTime (s : State) (n : Nat) (m : Mop) (t : Nat) (r : Nat × Nat) : Nat × (Nat × Nat) :=
  let ba := t * m.unitK / m.bsA + 1
  let bb := t * m.unitK / m.bsB + 1
  let ca := if r.1 = ba then 0 else 1
  let cb := if r.2 = bb then 0 else 4
  if s.skipA n m t then (max 1 ca, (ba, r.2))
  else if s.skipB n m t then (max 1 (ca + cb), (ba, bb))
  else (max m.unitClocks (ca + cb), (ba, bb))

/-- Clocks at which the units end, at full rate. -/
def State.unitEnds (s : State) (n : Nat) (m : Mop) : List Nat :=
  ((List.range m.units).foldl (fun (r : List Nat × Nat × (Nat × Nat)) t =>
    let u := s.unitTime n m t r.2.2
    (r.1 ++ [r.2.1 + u.1], r.2.1 + u.1, u.2)) ([], 0, (0, 0))).1

/-- The array has issued no step for RAMP_IDLE or more clocks before one at this moment (R79, R80). -/
def State.arrayIdle (s : State) (n : Nat) (x : Slot) : Bool :=
  match x.lastStep with
  | none => true
  | some t => decide (s.rd (Reg.ME_LOG_CTRL_RAMP_IDLE n) ≤ s.engClocks t s.now)

/-- Full-rate clocks delivered in the first `e` clocks of a ramped stream (Table 3.9). -/
def rampWork (e : Nat) : Nat :=
  if 64 ≤ e then e - 28 else [0, 1, 3, 6, 10, 15, 21, 28].getD (e / 8) 0 + e % 8 * (e / 8 + 1) / 8

/-- Two byte ranges overlap. -/
def overlaps (a b : Nat × Nat) : Bool := decide (a.1 < b.1 + b.2) && decide (b.1 < a.1 + a.2)

/-- A drain that is pending, or runs still (R72, R74). -/
def State.drainOpen (s : State) (d : Mop) : Bool :=
  (decide (d.stage = .streaming) && d.drain) || (decide (d.stage = .draining) && decide (s.now < d.portEnd))

/-- MOP `m` is held for its edge: it was chosen before it (R56, R71; notes/assumptions/70.md). -/
def State.held (s : State) (m : Mop) : Bool := decide (m.chosenAt < s.edgeTime m)

/-- ⌈STAGGER / clock period⌉ of engine `n`, STAGGER in 0.25 ns units (R79). -/
def State.staggerClocks (s : State) (n : Nat) : Nat := ceilDiv (s.rd (Reg.ME_LOG_CTRL_STAGGER n) * s.pace) 160

/-- MOP `m` may step by decode and fill, the array, the stagger, and a switch-over under way (R71, R79, R83). -/
def State.stepReady (s : State) (n : Nat) (x : Slot) (m : Mop) : Bool :=
  decide (x.lastStep.getD 0 ≤ s.now) && decide (x.readyAt ≤ s.now) &&
    (if s.held m then decide (24 ≤ s.engClocks m.chosenAt s.now) && decide (s.edgeTime m ≤ s.now) && decide (s.staggerClocks n ≤ s.engClocks (s.edgeTime m) s.now)
     else decide (24 + (if s.arrayIdle n x then s.staggerClocks n else 0) ≤ s.engClocks m.chosenAt s.now))

/-- The MOP may issue its first step (R71, R74): its edge has come, its decode, fill and stagger are over, the array and its
buffer are free, its load has ended, and no drain pending or running writes what it reads. -/
def State.mayStream (s : State) (n : Nat) (x : Slot) (m : Mop) : Bool :=
  decide (m.bell ≤ s.count) && s.stepReady n x m && (!m.load || (m.loaded && decide (m.portEnd ≤ s.now))) && !x.fenced &&
  !x.queue.any (fun d => s.drainOpen d && (d.buf == m.buf || d.writes.any (fun w => m.reads.any (overlaps w))))

/-- The first byte in its block, and the number of bytes, of the elements from `e` on of a unit of `u` elements (R36, R37). -/
def Fmt.span (f : Fmt) (e u : Nat) : Nat × Nat :=
  if f = .t2 then (e / 5, (e + u - 1) / 5 - e / 5 + 1) else (e * f.width / 8, ceilDiv ((e + u) * f.width) 8 - e * f.width / 8)

/-- `n` bytes at an offset of the tile store read without a parity error. -/
def State.tileReadable (s : State) (n off len : Nat) : Bool := s.readable (tileBase n + off) len

/-- The parity error that unit `t` of MOP `m` meets in what the engine reads for it (R37, R43, R70, R128): 1 in its scale words,
2 in its elements, 0 none. Of a skipped unit, and of a block whose scale word is 0, no element is read. -/
def State.unitBad (s : State) (n : Nat) (m : Mop) (t : Nat) : Nat :=
  let ba := t * m.unitK / m.bsA
  let bb := t * m.unitK / m.bsB
  let sa := m.fmtA.span (t * m.unitK % m.bsA) m.unitK
  let sb := m.fmtB.span (t * m.unitK % m.bsB) m.unitK
  if !s.tileReadable n (m.addr 7 + ba * 256) (2 * m.rows) then 1
  else if s.skipA n m t then 0
  else if !s.tileReadable n (m.addr 8 + bb * 1024) (2 * m.cols) then 1
  else if s.skipB n m t then 0
  else if (List.range m.rows).any (fun i => s.scaleA n m ba i != 0 && !s.tileReadable n (m.addr 5 + (ba * 128 + i) * m.bbA + sa.1) sa.2) ||
      (List.range m.cols).any (fun j => s.scaleB n m bb j != 0 && !s.tileReadable n (m.addr 6 + (bb * 512 + j) * m.bbB + sb.1) sb.2) then 2
  else 0

/-- The first parity error of MOP `m`'s stream: in a scale word (1), in an element (2), none (0). -/
def State.firstBad (s : State) (n : Nat) (m : Mop) : Nat := ((List.range m.units).map (s.unitBad n m)).find? (· != 0) |>.getD 0
def State.operandBad (s : State) (n : Nat) (m : Mop) : Bool := s.firstBad n m == 2
def State.scaleBad (s : State) (n : Nat) (m : Mop) : Bool := s.firstBad n m == 1

/-- The bytes of tile-store regions of engine `n` as they stand. -/
def State.viewOf (s : State) (n : Nat) (rs : List (Nat × Nat)) : List (Nat × Nat) :=
  (rs.map (fun r => (List.range r.2).map (fun i => (tileBase n + r.1 + i, s.byte (tileBase n + r.1 + i))))).flatten

/-- What the first `u` units of MOP `m`'s stream leave in each cell of a buffer that began as `start`, with its saturations, its
operands as `s` holds them (R44, R45). -/
def State.streamCells (s : State) (n : Nat) (m : Mop) (u : Nat) (start : Tab Int) : List (Nat × (Int × Nat)) :=
  ((List.range m.rows).map (fun i => (List.range m.cols).map (fun j => (512 * i + j, s.cellAcc n m u i j (Tab.get 0 start (512 * i + j)))))).flatten

/-- A buffer of the slot, and the slot with it replaced. -/
def Slot.buffer (x : Slot) (b : Nat) : Tab Int := if b = 0 then x.buf0 else x.buf1
def Slot.setBuffer (x : Slot) (b : Nat) (v : Tab Int) : Slot := { x with buf0 := if b = 0 then v else x.buf0, buf1 := if b = 0 then x.buf1 else v }

/-- The slot after the stream of MOP `m` by the operands that `src` holds: its buffer, and the counts of its record. -/
def State.streamed (src : State) (n : Nat) (m : Mop) (x : Slot) (sel : Mop → Bool) : Slot :=
  let cells := src.streamCells n m m.units m.start
  let skipped := ((List.range m.units).filter (src.skipUnit n m)).length
  { x.setBuffer m.buf (cells.foldl (fun b c => Tab.set 0 b c.1 c.2.1) m.start) with
    queue := updFirst sel (fun _ => { m with accSat := min 65535 (cells.map (fun c => c.2.2)).sum, fmtErr := min 65535 (src.mopFmtErr n m m.units),
                                             skipped := min 65535 skipped }) x.queue }

/-- Clocks of each unit in which the array issues a step (ME_STEP_CLOCKS): none of a skipped unit; a 1/4× pair steps once every
four clocks (R68; notes/assumptions/70.md). -/
def State.unitSteps (s : State) (n : Nat) (m : Mop) : List Nat :=
  (List.range m.units).map (fun t => if s.skipUnit n m t then 0 else m.unitK / 16 * min 16 m.elemClocks16)

/-- MOP `m` streams (R68 to R74): the accumulators, the units' ends, the credit it costs, the counters. The whole stream is charged
here, and a ramp adds its 28 clocks to a stream that ends inside it too (notes/assumptions/70.md). -/
def State.streamedMop (s : State) (n ps : Nat) (m : Mop) : State :=
  let x := s.slot ps
  let ends := s.unitEnds n m
  let steps := s.unitSteps n m
  let ramp := s.on (Reg.ME_LOG_CTRL_RAMP_EN n) && s.arrayIdle n x
  let clocks := ends.getLastD 0 + (if ramp then 28 else 0)
  let last := s.now + s.engTime clocks
  let m1 := { m with stage := .streaming, firstStep := s.now, lastStep := last, ramped := ramp, unitEnds := ends, unitSteps := steps,
                     start := if m.accMode = 0 then [] else x.buffer m.buf, view := s.viewOf n (m.elemReads ++ m.wordReads), viewEnd := last }
  let x1 : Slot := { s.streamed n m1 x (fun q => decide (q.stage = .chosen)) with
    lastStep := some last
    chain := if m.chain then x.chain.map (fun c => { c with waitFrom := some last }) else none }
  let t := (s.setSlot ps x1.closeStale).setCredit n m.part
    (s.credit n m.part - (if m.lent then 0 else ((s.engClocks (s.chargeFrom x m) s.now + clocks : Nat) : Int)))
  ((((t.inc (Reg.ME_STEP_CLOCKS_COUNT ps) steps.sum).inc (Reg.ME_SKIP_UNITS_COUNT ps) (steps.count 0)).when ramp
    (fun t => t.incSat (Reg.ME_RAMPS_COUNT ps) 1)).wr (Reg.ME_SLOT_STATUS_PART ps) m.part)

/-- An error stops the slot's array until fault handling acts (R128, R135). -/
def State.stopArray (s : State) (ps : Nat) (f : Nat → Fld) : State := (s.setSlot ps { s.slot ps with fenced := true }).meErr ps f

/-- The chosen MOP issues its first step: the accumulators its stream leaves, its counts, its clocks and its charge (R44,
R68 to R71, R77, R80). A parity error on an operand stops the MOP and the array until fault handling acts (R128, R135). -/
def State.streamMop (s : State) (n ps : Nat) : State :=
  let x := s.slot ps
  match x.queue.find? (fun m => decide (m.stage = .chosen)) with
  | none => s
  | some m =>
    if !s.mayStream n x m then s
    else if s.operandBad n m then s.stopArray ps Reg.ME_ERR_OPERAND_PARITY
    else if s.scaleBad n m then s.stopArray ps Reg.ME_ERR_SCALE_PARITY
    else
      s.streamedMop n ps m

/-- The drain port, the buffer or the bytes that the load of MOP `m` needs are still in use (R73, R74). -/
def State.loadBlocked (s : State) (x : Slot) (m : Mop) : Bool :=
  decide (s.now < x.portFree) || x.queue.any (fun d => s.drainOpen d && (d.buf == m.buf || d.writes.any (fun w => m.loadReads.any (overlaps w))))

/-- The accumulators that a load gives, its source as `s` holds it (R46, R61). -/
def State.loadCells (s : State) (n : Nat) (m : Mop) : Tab Int :=
  let cell (i j : Nat) : Int :=
    let a := m.addr 13 + (i * m.cols + j) * m.loadW
    satI 48 (sext (8 * m.loadW) (s.ld (tileBase n + a) m.loadW) * (2 ^ m.fld 4 0 5 : Nat))
  ((List.range m.rows).map (fun i => (List.range m.cols).map (fun j => (512 * i + j, cell i j)))).flatten.foldl
    (fun b c => Tab.set 0 b c.1 c.2) []

/-- Clocks of the drain port for `rows` × `cols` elements of `w` bits (R72, R73). -/
def portClocks (rows cols w : Nat) : Nat := 8 + rows * max (ceilDiv cols 128) (ceilDiv (cols * w) 2048)

/-- The accumulators of MOP `m` are loaded from the tile store (R60, R73). -/
def State.loadedMop (s : State) (n ps : Nat) (m : Mop) : State :=
  let x := s.slot ps
  let done := s.now + s.engTime (portClocks m.rows m.cols (8 * m.loadW))
  s.setSlot ps { x.setBuffer m.buf (s.loadCells n m) with
    queue := updFirst (fun q => decide (q.stage = .chosen))
      (fun q => { q with loaded := true, portEnd := done, view := s.viewOf n m.loadReads, viewEnd := done }) x.queue
    portFree := done }

/-- Regions of the tile store that a parity error lies in. -/
def State.anyBad (s : State) (n : Nat) (rs : List (Nat × Nat)) : Bool := rs.any (fun r => !s.tileReadable n r.1 r.2)

/-- The chosen MOP's accumulator load, when its buffer and the drain port are free (R46, R73). A parity error stops the array. -/
def State.loadMop (s : State) (n ps : Nat) : State :=
  let x := s.slot ps
  match x.queue.find? (fun m => decide (m.stage = .chosen)) with
  | none => s
  | some m =>
    if !m.load || m.loaded || x.fenced || s.loadBlocked x m then s
    else if s.anyBad n m.loadReads then s.stopArray ps Reg.ME_ERR_OPERAND_PARITY
    else
      s.loadedMop n ps m

/-! ## Drain (R47, R60, R72) -/

/-- Row and column tile scale words (R47). -/
def State.tileScaleRow (s : State) (n : Nat) (m : Mop) (i : Nat) : Nat := if m.fld 4 5 1 = 1 then s.tileWord n (m.addr 9 + 2 * i) else 0x200
def State.tileScaleCol (s : State) (n : Nat) (m : Mop) (j : Nat) : Nat := if m.fld 4 6 1 = 1 then s.tileWord n (m.addr 10 + 2 * j) else 0x200

/-- The output element of a cell, with whether it saturated (R47, R48, R49). P0, which no command creates, has the seed base 0
(notes/assumptions/70.md). -/
def State.outElem (s : State) (n : Nat) (m : Mop) (buf : Tab Int) (i j : Nat) : Int × Bool :=
  let r := if m.round = 2 then lfsrValue (mopSeed (s.part m.part).grants.seed m.bell n (m.fld 2 16 16)) i j else 0
  satFmt m.fmtOut (drainValue (Tab.get 0 buf (512 * i + j)) (s.tileScaleRow n m i) (s.tileScaleCol n m j) (m.fld 3 16 12) m.qs m.round r)

/-- The output in packed runs: the offset of each run and its cells in order (Table 3.3). -/
def Mop.runs (m : Mop) : List (Nat × List (Nat × Nat)) :=
  let ob := m.outBs
  match m.layout with
  | 0 => (List.range m.rows).map (fun i => (m.addr 11 + i * m.addr 12, (List.range m.cols).map (fun j => (i, j))))
  | 1 => ((List.range (m.cols / ob)).map (fun b => (List.range m.rows).map (fun i =>
      (m.addr 11 + (b * 128 + i) * m.obb, (List.range ob).map (fun e => (i, b * ob + e)))))).flatten
  | 2 => ((List.range (m.rows / ob)).map (fun b => (List.range m.cols).map (fun j =>
      (m.addr 11 + (b * 512 + j) * m.obb, (List.range ob).map (fun e => (b * ob + e, j)))))).flatten
  | _ => ((List.range (m.rows / ob)).map (fun b => (List.range m.cols).map (fun j =>
      (m.addr 11 + j / 128 * m.addr 12 + (b * 128 + j % 128) * m.obb, (List.range ob).map (fun e => (b * ob + e, j)))))).flatten

/-- Element codes packed as R36 packs a block: the bytes of one little-endian integer. -/
def packCodes (w : Nat) (codes : List Nat) : List Nat :=
  leBytes (codes.length * w / 8) (codes.foldr (fun c acc => c % 2 ^ w + 2 ^ w * acc) 0)

/-- The output of MOP `m` as bytes to be stored, its tile scales as `s` holds them (R47, R60, R72). -/
def State.outCells (s : State) (n : Nat) (m : Mop) (buf : Tab Int) : List (Nat × Nat) :=
  (m.runs.map (fun r =>
    (packCodes m.fmtOut.width (r.2.map (fun c => m.fmtOut.code (s.outElem n m buf c.1 c.2).1))).zipIdx.map
      (fun b => (tileBase n + r.1 + b.2, b.1)))).flatten

/-- Where in the output bytes of MOP `m` each element that saturated ends (R48). -/
def State.satEnds (s : State) (n : Nat) (m : Mop) (buf : Tab Int) : List Nat :=
  let w := m.fmtOut.width
  (m.runs.foldl (fun (r : List Nat × Nat) q =>
    (r.1 ++ (q.2.zipIdx.filter (fun c => (s.outElem n m buf c.1.1 c.1.2).2)).map (fun c => r.2 + ceilDiv ((c.2 + 1) * w) 8),
      r.2 + q.2.length * w / 8)) ([], 0)).1

/-- MOP `m` with its output bytes and what saturated in them (R47, R48). -/
def State.withOut (s : State) (n : Nat) (m : Mop) (buf : Tab Int) : Mop :=
  let l := s.satEnds n m buf
  { m with out := s.outCells n m buf, satEnds := l, outSat := min 65535 l.length }

/-- Clocks of the MOP's drain (R72). -/
def Mop.drainClocks (m : Mop) : Nat := portClocks m.rows m.cols m.fmtOut.width

/-- MOP `m` drains: its output elements as bytes to be stored, and how many saturated (R47, R60, R72). -/
def State.drainingMop (s : State) (n ps : Nat) (m : Mop) : State :=
  let x := s.slot ps
  let start (_ : Mop) : Mop :=
    { s.withOut n m (x.buffer m.buf) with
      stage := .draining, portEnd := s.now + s.engTime m.drainClocks, view := s.viewOf n m.tileReads, viewEnd := s.now + s.engTime 8 }
  s.setSlot ps { x with queue := updFirst (fun q => decide (q = m)) start x.queue, portFree := s.now + s.engTime m.drainClocks }

/-- The MOP that drains next: of those that stream and drain, the one that ends its stream first (R72). -/
def Slot.drainNext (x : Slot) : Option Mop :=
  (x.queue.filter (fun m => decide (m.stage = .streaming) && m.drain)).foldl
    (fun b m => match b with
      | some c => if m.lastStep < c.lastStep then some m else b
      | none => some m) none

/-- A drain starts: the MOP that ended its stream first and drains, when its accumulators are final and the port is free (R72). A
parity error in the tile scales stops the array. What it will have written is fixed here and lands when it ends. -/
def State.startDrain (s : State) (n ps : Nat) : State :=
  let x := s.slot ps
  if x.fenced then s
  else match x.drainNext with
    | none => s
    | some m =>
      if s.engClocks m.lastStep s.now < 12 ∨ s.now < x.portFree then s
      else if s.anyBad n m.tileReads then s.stopArray ps Reg.ME_ERR_SCALE_PARITY
      else
        s.drainingMop n ps m

/-! ## What ends by time alone (R72, R74) -/

/-- Bytes that a drain stores, one by one: a unit that they cover whole reads normally again (R448). -/
def State.storeCells (s : State) (l : List (Nat × Nat)) : State :=
  { s.setCells l with memSt := { s.memSt with bad := s.memSt.bad.filter (fun e =>
      !(List.range (unitLen e.1)).all (fun i => l.any (fun c => c.1 == e.1 + i))) } }

/-- What a phase read whose region was written while it read (R74): of each 32-byte word that changed, its old contents or its
new, a free choice. The first part is the state to read from, the second the state with the draws counted. -/
def State.mixed (s : State) (view : List (Nat × Nat)) : State × State :=
  let words := ((view.filter (fun c => s.byte c.1 != c.2)).map (fun c => c.1 / 32)).eraseDups
  words.foldl (fun (r : State × State) w =>
    let d := r.2.draw
    (r.1.when (d.1 % 2 == 1) (fun t => t.storeCells (view.filter (fun c => c.1 / 32 == w))), d.2)) (s, s)

/-- MOP `m` has read what its phase reads. -/
def State.viewDone (s : State) (m : Mop) : Bool := !m.view.isEmpty && decide (m.viewEnd ≤ s.now)

/-- A region that MOP `m` read in the phase that has ended was written meanwhile (R74). -/
def State.viewChanged (s : State) (m : Mop) : Bool := m.view.any (fun c => s.byte c.1 != c.2)

/-- The load, the stream and the drain of slot `ps` whose reading has ended: where what they read changed meanwhile, their
results are those of the mixed contents (R74). -/
def State.settleLoad (s : State) (n ps : Nat) : State :=
  let x := s.slot ps
  let sel (m : Mop) : Bool := decide (m.stage = .chosen) && s.viewDone m
  match x.queue.find? sel with
  | none => s
  | some m =>
    let x1 := { x with queue := updFirst sel (fun q => { q with view := [] }) x.queue }
    if !s.viewChanged m then s.setSlot ps x1
    else
      let r := s.mixed m.view
      r.2.setSlot ps (x1.setBuffer m.buf (r.1.loadCells n m))

def State.settleStream (s : State) (n ps : Nat) : State :=
  let x := s.slot ps
  let sel (m : Mop) : Bool := decide (m.stage = .streaming) && s.viewDone m
  match x.queue.find? sel with
  | none => s
  | some m =>
    if !s.viewChanged m then s.setSlot ps { x with queue := updFirst sel (fun q => { q with view := [] }) x.queue }
    else
      let r := s.mixed m.view
      let skips := ((List.range m.units).filter (r.1.skipUnit n m)).length
      (r.2.setSlot ps (r.1.streamed n { m with view := [] } x sel)).inc (Reg.ME_SKIP_UNITS_COUNT ps) (2 ^ 64 - m.unitSteps.count 0 + skips)

def State.settleDrain (s : State) (n ps : Nat) : State :=
  let x := s.slot ps
  let sel (m : Mop) : Bool := decide (m.stage = .draining) && s.viewDone m
  match x.queue.find? sel with
  | none => s
  | some m =>
    if !s.viewChanged m then s.setSlot ps { x with queue := updFirst sel (fun q => { q with view := [] }) x.queue }
    else
      let r := s.mixed m.view
      r.2.setSlot ps { x with queue := updFirst sel (fun q =>
        { r.1.withOut n q (x.buffer m.buf) with view := [] }) x.queue }

/-- A drain that has ended has written its last byte (R72). -/
def State.landDrain (s : State) (ps : Nat) : State :=
  let x := s.slot ps
  let sel (m : Mop) : Bool := decide (m.stage = .draining) && !m.out.isEmpty && decide (m.portEnd ≤ s.now)
  match x.queue.find? sel with
  | none => s
  | some m => (s.storeCells m.out).setSlot ps { x with queue := updFirst sel (fun q => { q with out := [] }) x.queue }

/-- Time has passed: on every slot that is not fenced, what has ended by now. -/
def State.settleEngines (s : State) : State :=
  s.each 18 (fun ps t =>
    if (t.slot ps).queue.isEmpty || (t.slot ps).fenced then t
    else (t.engineOf ps).elim t (fun n => ((((t.settleLoad n ps).settleStream n ps).settleDrain n ps).landDrain ps)))

/-- Time moves on to `t` when `t` is later: a command that names the time of an arrival, of an edge or of a timer's end. -/
def State.atTime (s : State) (t : Nat) : State := ({ s with now := max s.now t } : State).settleEngines

/-! ## Completion (R65, R66) -/

/-- The status record of Table 3.4. -/
def Mop.record (m : Mop) (st : Nat) : List Nat :=
  [st, 0] ++ leBytes 2 m.accSat ++ leBytes 2 m.outSat ++ leBytes 2 m.fmtErr ++ leBytes 2 m.skipped ++ [0, 0] ++ leBytes 4 (m.fld 15 0 32)

/-- The status record written, when it may be (R59, R65). -/
def State.writeStatus (s : State) (n : Nat) (m : Mop) (st : Nat) : State :=
  s.when (m.fld 14 20 1 == 1 && s.statusOpen n m && m.fld 14 0 18 % 16 == 0)
    (fun t => t.place (tcBase n (m.fld 14 18 2) + m.fld 14 0 18) (m.record st))

/-- What a MOP posts when it completes with a status other than ABORTED (R65, R66). -/
def State.postMop (s : State) (n ps : Nat) (m : Mop) (st : Nat) : State :=
  let r := (s.writeStatus n m st).tally n m.part (if st = 0 ∧ m.notify then some n else none)
  let t := r.1
  let t := t.when (r.2 && m.fld 4 7 1 == 1) (fun t => t.postCqe m.part (m.fld 4 8 12)
    { status := st, kind := 3, op := 0, imm := false, queue := n, index := 0, info := 0, user := m.fld 15 0 32 })
  let t := t.when (r.2 && st == 0 && m.notify) (fun t => t.bump m.part n)
  let t := t.when (st == 0) (fun t => t.inc (Reg.ME_MOP_COUNT_COUNT ps) 1)
  t.when (decide (0 < m.fmtErr)) (fun t => t.meErr ps Reg.ME_ERR_FORMAT)

/-- MOP `m` may complete by the clock (R65): four clocks after its drain writes its last byte, or, without a drain, four clocks
after its accumulators are final. -/
def State.doneClocks (s : State) (m : Mop) : Bool :=
  if m.drain then decide (4 ≤ s.engClocks m.portEnd s.now) else decide (16 ≤ s.engClocks m.lastStep s.now)

/-- MOP `m`'s phases have ended. -/
def State.mopDone (s : State) (m : Mop) : Bool := decide (m.stage = if m.drain then .draining else .streaming) && s.doneClocks m

/-- A rejected MOP waits behind every MOP accepted before it; one whose chain broke while it was queued, behind those of its
partition (R64, R65). -/
def Slot.turnOf (x : Slot) (m : Mop) : Bool := m.cut || decide (x.queue.head? = some m)

/-- The oldest MOP of the partition completes, when its phases have ended or it was rejected (R65); bells that it held
commit (R14). -/
def State.completeMop (s : State) (n ps p : Nat) : State :=
  let x := s.slot ps
  match x.queue.find? (fun m => m.part == p) with
  | none => s
  | some m =>
    let t := s.setSlot ps { x with queue := x.queue.eraseP (fun m => m.part == p) }
    match m.rej with
    | some st => if x.fenced || !x.turnOf m then s else (t.postMop n ps m st).commitBells.tryResume n
    | none => if x.fenced || !s.mopDone m then s else ((t.storeCells m.out).postMop n ps m 0).commitBells.tryResume n

/-- Clocks after the first step at which unit end `u` of a stream lies, in a ramped stream by Table 3.9. -/
def Mop.endClock (m : Mop) (u : Nat) : Nat :=
  if !m.ramped then u else ((List.range 65).find? (fun e => decide (u ≤ rampWork e))).getD (u + 28)

/-- The streaming MOP `m` stops at the next unit boundary (R67): the array's last step is there, and neither the steps and skips
after it are counted nor the clocks charged. The second part is the MOP with what its record counts, of the units that ran: the
saturations (R45), the format errors (R37) and the units skipped; of operands written meanwhile the mixed contents (R74). -/
def State.cutStream (s : State) (n ps : Nat) (m : Mop) : State × Mop :=
  let e := s.engClocks m.firstStep s.now
  let all := m.unitEnds.map m.endClock
  match all.findIdx? (fun u => decide (e ≤ u)) with
  | none => (s, m)
  | some k =>
    let u := all.getD k 0
    let saved := m.endClock (m.unitEnds.getLastD 0) - u
    let rest := m.unitSteps.drop (k + 1)
    let r := s.mixed (if s.viewChanged m then m.view else [])
    let t := r.2.setSlot ps { r.2.slot ps with lastStep := some (s.now + s.engTime (u - e)) }
    (((t.inc (Reg.ME_STEP_CLOCKS_COUNT ps) (2 ^ 64 - rest.sum)).inc (Reg.ME_SKIP_UNITS_COUNT ps) (2 ^ 64 - rest.count 0)).setCredit n m.part
        (t.credit n m.part + (if m.lent then 0 else (saved : Int))),
      { m with skipped := min 65535 ((m.unitSteps.take (k + 1)).count 0),
               accSat := min 65535 ((r.1.streamCells n m (k + 1) m.start).map (fun c => c.2.2)).sum,
               fmtErr := min 65535 (r.1.mopFmtErr n m (k + 1)) })

/-- The drain of MOP `m` stops at its next write (R67, R335): the bytes already written stay, a free length of them in the order of
the output (notes/assumptions/39.md). The second part is the MOP with the saturated elements among those it drained. -/
def State.cutDrain (s : State) (m : Mop) : State × Mop :=
  let d := s.draw
  let k := d.1 % (m.out.length + 1)
  if m.out.isEmpty then (s, m)
  else (d.2.storeCells (m.out.take k), { m with outSat := min 65535 (m.satEnds.filter (fun e => decide (e ≤ k))).length })

/-- One MOP discarded is cut in its stream or its drain, and completes with ABORTED (R67). Its OUT_SAT counts the saturated elements
that it drained, and its format errors set ME_ERR.FORMAT (DESIGN CHOICE for OUT_SAT, notes/assumptions/70.md). -/
def State.abortMop (s : State) (n ps : Nat) (m : Mop) : State :=
  let r := if m.stage = .draining then s.cutDrain m
    else if m.stage = .streaming ∧ s.now < m.lastStep then s.cutStream n ps m
    else (s, m)
  (r.1.writeStatus n r.2 6).when (decide (0 < r.2.fmtErr)) (fun t => t.meErr ps Reg.ME_ERR_FORMAT)

/-- The drain port is free at once of a load or drain that a discarded MOP of partition `p` had on it (R67). -/
def State.portAfter (s : State) (x : Slot) (p : Nat) : Nat :=
  if x.queue.any (fun m => m.part == p && decide (m.portEnd = x.portFree)) then min x.portFree s.now else x.portFree

/-- The engine discards a partition's MOPs (R67): each completes with ABORTED and writes its record; its chain breaks (R64). -/
def State.abortMops (s : State) (n ps p : Nat) : State :=
  let x := s.slot ps
  let t := s.setSlot ps { x with queue := x.queue.filter (fun m => m.part != p), portFree := s.portAfter x p }
  let t := (x.queue.filter (fun m => m.part == p)).foldl (fun t m => t.abortMop n ps m) t
  t.when ((Tab.get none x.accepted p).isSome || x.chain.elim false (fun c => c.part == p)) (fun t => t.breakChain ps p)

/-! ## Lateness (R81) -/

/-- Clocks of a full drain of the array in the MOP's output format: 520, 776 or 1,032 (R72). -/
def Mop.fullDrain (m : Mop) : Nat := portClocks 128 512 m.fmtOut.width

/-- Clocks of a late MOP that remain: its units not yet done at full element clocks, and a full drain unless its drain has ended
(R81). -/
def State.mopRemaining (s : State) (m : Mop) : Nat :=
  let left := match m.stage with
    | .queued | .chosen => m.units
    | .streaming =>
      let e := s.engClocks m.firstStep s.now
      (m.unitEnds.filter (fun u => decide (e < m.endClock u))).length
    | _ => 0
  let drained := decide (m.stage = .draining) && decide (m.portEnd ≤ s.now)
  if m.rej.isSome then 0 else left * m.unitClocks + (if m.drain && !drained then m.fullDrain else 0)

/-- MOPs of a logged engine whose replay has not released them again: they have not completed (R81, R336). -/
def State.toReplay (s : State) (n : Nat) : List Mop :=
  ((s.mopLog n).filter (fun e => !e.released)).map (fun e =>
    let m := Mop.fresh e.words e.part e.bell s.now
    { m with rej := if m.reservedBad || m.shapeBad none true || s.mopBoundsBad n m then some 1 else none })

/-- Engine `n` at the edge that ends bell `k`: late when a MOP of bell k or earlier has not completed, one that a replay has still to
run included; whether it is late, and its backlog. -/
def State.engineLate (s : State) (n k : Nat) : State × Bool × Nat :=
  match s.slotOf n with
  | none => (s, false, 0)
  | some ps =>
    let late := ((s.slot ps).queue ++ s.toReplay n).filter (fun m => decide (m.bell ≤ k))
    if late.isEmpty then (s, false, 0)
    else
      (((s.wr Reg.BELL_LATE_ME 1).meErr ps Reg.ME_ERR_LATE).wr (Reg.ME_LATE_BELL_BELL ps) k, true, (late.map s.mopRemaining).sum)

/-! ## Mapping and spares (R82 to R84) -/

/-- Slots of a die that no logical engine is mapped to and that have not failed, lowest first (R82). -/
def State.heldSlots (s : State) (d : Nat) : List Nat :=
  (List.range 9).filter (fun i => !(List.range 8).any (fun l => s.rd (meMapFld (8 * d + l)) == i) &&
    !bit (s.rd (Reg.ME_DIE_STATUS_FAILED d)) i)

/-- STATE and LOGICAL of every slot of a die, and SPARE_SLOT, as the map and the failures make them (R82). -/
def State.refreshSlots (s : State) (d : Nat) : State :=
  let t := s.each 9 (fun i t =>
    let ps := 9 * d + i
    let e := t.engineOf ps
    let st := match e with
      | some _ => 0
      | none => if bit (t.rd (Reg.ME_DIE_STATUS_FAILED d)) i then 2 else if (t.heldSlots d).head? = some i then 1 else 3
    (t.wr (Reg.ME_SLOT_STATUS_STATE ps) st).wr (Reg.ME_SLOT_STATUS_LOGICAL ps) (e.getD 15))
  t.wr (Reg.ME_DIE_STATUS_SPARE_SLOT d) ((t.heldSlots d).headD 15)

/-- A write of ME_MAP is refused: locked, a slot named twice, or a value from 9 to 14. -/
def State.mapBad (s : State) (d value : Nat) : Bool :=
  let f := (List.range 8).map (fun l => bits value (4 * l) 4)
  s.on (Reg.ME_DIE_CTRL_MAP_LOCK d) || f.any (fun v => decide (8 < v) && decide (v < 15)) ||
  (List.range 8).any (fun i => (List.range i).any (fun j => f.getD i 15 == f.getD j 15 && decide (f.getD i 15 < 9)))

/-- A write of ME_MAP (R82). -/
def State.writeMap (s : State) (src : Src) (d value : Nat) : State :=
  if s.mapBad d value then s.unsup src (Reg.ME_MAP d) true
  else (s.each 8 (fun l t => t.wr (meMapFld (8 * d + l)) (bits value (4 * l) 4))).refreshSlots d

/-! ## Meanings -/

/-- MOP_CHOOSE (R78). -/
def execMopChoose (n : Nat) (s : State) : Host.Outcome State Fault Refusal := s.guarded (n < 16) (s.onSlot n (fun ps => s.chooseMop n ps))

/-- MOP_STREAM_START (R71). -/
def execMopStreamStart (n : Nat) (s : State) : Host.Outcome State Fault Refusal := s.guarded (n < 16) (s.onSlot n (fun ps => s.streamMop n ps))

/-- ACC_LOAD_START (R73). -/
def execAccLoadStart (n : Nat) (s : State) : Host.Outcome State Fault Refusal := s.guarded (n < 16) (s.onSlot n (fun ps => s.loadMop n ps))

/-- DRAIN_START (R72). -/
def execDrainStart (n : Nat) (s : State) : Host.Outcome State Fault Refusal := s.guarded (n < 16) (s.onSlot n (fun ps => s.startDrain n ps))

/-- MOP_COMPLETE (R65). -/
def execMopComplete (n p : Nat) (s : State) : Host.Outcome State Fault Refusal := s.guarded (n < 16 && p < 64) (s.onSlot n (fun ps => s.completeMop n ps p))

/-- The clocks that chain `h` has waited up to now, taken from its partition's credit (R64, R77). -/
def State.waitedCredit (s : State) (n : Nat) (h : Chain) (w : Nat) : Int := s.credit n h.part - s.engClocks w s.now

/-- CHAIN_BREAK (R64): while the engine waits for the chain's next MOP, the clocks it has waited bring its partition's credit to -Q or below. -/
def execChainBreak (n : Nat) (s : State) : Host.Outcome State Fault Refusal :=
  s.guarded (n < 16) (s.onSlot n (fun ps =>
    let x := (s.slot ps).closeStale
    match x.chain.bind (fun h => h.waitFrom.map (fun w => (h, w))) with
    | some (h, w) =>
      if (s.choice n x).isNone && decide (w ≤ s.now) && decide (8 * s.waitedCredit n h w ≤ -(s.bellClocks8 : Int)) then
        (s.setCredit n h.part (s.waitedCredit n h w)).breakChain ps h.part
      else s
    | none => s))

/-- ME_SHARE_WRITE (R76). -/
def execMeShareWrite (n p value : Nat) (s : State) : Host.Outcome State Fault Refusal := s.fromPf 15 (s.guarded (n < 16 && p < 64) (s.writeShare n p value))

/-- ME_MAP_WRITE (R82). -/
def execMeMapWrite (d value : Nat) (s : State) : Host.Outcome State Fault Refusal := s.fromPf 15 (s.guarded (d < 2) (s.writeMap .pf d value))

/-- MAP_LOCK_SET (R82). -/
def execMapLockSet (d : Nat) (s : State) : Host.Outcome State Fault Refusal := s.fromPf 15 (s.guarded (d < 2) (s.wr (Reg.ME_DIE_CTRL_MAP_LOCK d) 1))

end Sys2Proof.Machine
end

