-- ==== Sys2Proof/Machine/Crypto.lean ====
section
/-! DEFINITION. The functions of Table 12.1, on lists of bytes: AES (FIPS 197), GCM (SP 800-38D), XTS (IEEE 1619), KW (SP
800-38F), SHA3-256 and SHAKE256 (FIPS 202). The spec names the standards and not their text (notes/assumptions/17.md). -/

namespace Sys2Proof.Machine

/-- Bitwise exclusive or of two byte strings, as long as the first. -/
def xorBytes (a b : List Nat) : List Nat := a.zipWith (fun x y => x ^^^ y) (b ++ List.replicate (a.length - b.length) 0)

/-! ## AES (FIPS 197) -/

/-- Multiplication by x in GF(2^8). -/
def xtime (a : Nat) : Nat := (2 * a % 256) ^^^ (if 128 ≤ a then 0x1b else 0)

/-- Multiplication in GF(2^8). -/
def gmul (a b : Nat) : Nat :=
  ((List.range 8).foldl (fun (r : Nat × Nat) i => (if bit b i then r.1 ^^^ r.2 else r.1, xtime r.2)) (0, a)).1

/-- The inverse in GF(2^8), 0 of 0: a^254 as the product of a^2, a^4, ... a^128. -/
def ginv (a : Nat) : Nat :=
  ((List.range 7).foldl (fun (r : Nat × Nat) _ => let q := gmul r.2 r.2; (gmul r.1 q, q)) (1, a)).1

/-- Rotation of a byte to the left. -/
def rotl8 (x n : Nat) : Nat := (x * 2 ^ n) % 256 + x / 2 ^ (8 - n)

def subByte (x : Nat) : Nat := let b := ginv x; b ^^^ rotl8 b 1 ^^^ rotl8 b 2 ^^^ rotl8 b 3 ^^^ rotl8 b 4 ^^^ 0x63
def invSubByte (x : Nat) : Nat := ginv (rotl8 x 1 ^^^ rotl8 x 3 ^^^ rotl8 x 6 ^^^ 0x05)

/-- Rounds for a key of `n` bytes. -/
def aesRounds (n : Nat) : Nat := n / 4 + 6

/-- Word `i` of the key schedule from the words before it, newest first. -/
def keyWord (nk i : Nat) (prev : List (List Nat)) : List Nat :=
  let temp := prev.headD [0, 0, 0, 0]
  let t :=
    if i % nk = 0 then
      let r := (temp.drop 1 ++ temp.take 1).map subByte
      xorBytes r [Nat.repeat xtime (i / nk - 1) 1]
    else if 6 < nk ∧ i % nk = 4 then temp.map subByte
    else temp
  xorBytes (prev.getD (nk - 1) [0, 0, 0, 0]) t

/-- The round keys, first round first, sixteen bytes each. -/
def keySchedule (key : List Nat) : List (List Nat) :=
  let nk := key.length / 4
  let first := (List.range nk).foldl (fun l i => (key.drop (4 * i)).take 4 :: l) []
  let total := 4 * (aesRounds key.length + 1)
  let ws := ((List.range (total - nk)).foldl (fun l i => keyWord nk (nk + i) l :: l) first).reverse
  (List.range (aesRounds key.length + 1)).map (fun r => ((ws.drop (4 * r)).take 4).flatten)

/-- Row shifts of the state held by columns. -/
def shiftRows (b : List Nat) : List Nat := (List.range 16).map (fun i => b.getD ((i + 4 * (i % 4)) % 16) 0)
def invShiftRows (b : List Nat) : List Nat := (List.range 16).map (fun i => b.getD ((i + 16 - 4 * (i % 4)) % 16) 0)

/-- Columns multiplied by a circulant matrix whose first row is `m`. -/
def mixWith (m : List Nat) (b : List Nat) : List Nat :=
  (List.range 16).map (fun i =>
    let c := i / 4 * 4
    (List.range 4).foldl (fun r j => r ^^^ gmul (b.getD (c + j) 0) (m.getD ((j + 4 - i % 4) % 4) 0)) 0)

/-- One block encrypted under expanded round keys. -/
def aesEnc (rk : List (List Nat)) (blk : List Nat) : List Nat :=
  let n := rk.length - 1
  let b0 := xorBytes blk (rk.getD 0 [])
  let b1 := (List.range (n - 1)).foldl (fun b r => xorBytes (mixWith [2, 3, 1, 1] (shiftRows (b.map subByte))) (rk.getD (r + 1) [])) b0
  xorBytes (shiftRows (b1.map subByte)) (rk.getD n [])

/-- One block decrypted under expanded round keys. -/
def aesDec (rk : List (List Nat)) (blk : List Nat) : List Nat :=
  let n := rk.length - 1
  let b0 := xorBytes blk (rk.getD n [])
  let b1 := (List.range (n - 1)).foldl (fun b r =>
    mixWith [14, 11, 13, 9] (xorBytes ((invShiftRows b).map invSubByte) (rk.getD (n - 1 - r) []))) b0
  xorBytes ((invShiftRows b1).map invSubByte) (rk.getD 0 [])

/-- A byte string in blocks of `n` bytes; the last may be short. -/
def chunksOf (n : Nat) (l : List Nat) : List (List Nat) := (List.range (ceilDiv l.length (max n 1))).map (fun i => (l.drop (n * i)).take n)

/-! ## GCM (SP 800-38D) -/

/-- Multiplication in GF(2^128) on big-endian numbers whose most significant bit is the coefficient of x^0. -/
def gf128 (x y : Nat) : Nat :=
  ((List.range 128).foldl (fun (r : Nat × Nat) i =>
    (if bit x (127 - i) then r.1 ^^^ r.2 else r.1, (r.2 / 2) ^^^ (if r.2 % 2 = 1 then 0xe1 * 2 ^ 120 else 0))) (0, y)).1

/-- GHASH of bytes padded with zeros to whole blocks, from a value. -/
def ghash (h : Nat) (y : Nat) (bs : List Nat) : Nat :=
  (chunksOf 16 bs).foldl (fun y b => gf128 (y ^^^ (beNat b * 2 ^ (8 * (16 - b.length)))) h) y

/-- The hash key. -/
def gcmH (rk : List (List Nat)) : Nat := beNat (aesEnc rk (List.replicate 16 0))

/-- The counter block after `n` increments of its low 32 bits. -/
def inc32 (c n : Nat) : Nat := c / 2 ^ 32 * 2 ^ 32 + (c % 2 ^ 32 + n) % 2 ^ 32

/-- Counter-mode encryption from a counter block on. -/
def gctr (rk : List (List Nat)) (c : Nat) (bs : List Nat) : List Nat :=
  let cs := chunksOf 16 bs
  ((List.range cs.length).map (fun i => xorBytes (cs.getD i []) (aesEnc rk (beBytes 16 (inc32 c i))))).flatten

/-- The first counter block J0 of a 96-bit IV. -/
def gcmJ0 (iv : List Nat) : Nat := beNat iv * 2 ^ 32 + 1

/-- The tag from the hash so far and the lengths in bytes. -/
def gcmTag (rk : List (List Nat)) (iv : List Nat) (y aadLen textLen : Nat) : List Nat :=
  xorBytes (beBytes 16 (gf128 (y ^^^ (aadLen * 8 * 2 ^ 64 + textLen * 8)) (gcmH rk))) (aesEnc rk (beBytes 16 (gcmJ0 iv)))

/-- Authenticated encryption of a whole text: ciphertext and tag. -/
def gcmSeal (key iv aad text : List Nat) : List Nat × List Nat :=
  let rk := keySchedule key
  let c := gctr rk (inc32 (gcmJ0 iv) 1) text
  (c, gcmTag rk iv (ghash (gcmH rk) (ghash (gcmH rk) 0 aad) c) aad.length text.length)

/-- Authenticated decryption: the text when the tag verifies. -/
def gcmOpen (key iv aad text tag : List Nat) : Option (List Nat) :=
  let rk := keySchedule key
  if gcmTag rk iv (ghash (gcmH rk) (ghash (gcmH rk) 0 aad) text) aad.length text.length = tag then some (gctr rk (inc32 (gcmJ0 iv) 1) text) else none

/-! ## XTS (IEEE 1619) -/

/-- The tweak multiplied by the primitive element, little-endian. -/
def xtsNext (t : Nat) : Nat := (2 * t % 2 ^ 128) ^^^ (if 2 ^ 127 ≤ t then 0x87 else 0)

/-- One data unit, a multiple of sixteen bytes; the key's first half is the data key, its second the tweak key. -/
def xtsUnit (enc : Bool) (key : List Nat) (unit : Nat) (bs : List Nat) : List Nat :=
  let h := key.length / 2
  let rk := keySchedule (key.take h)
  let t0 := leNat (aesEnc (keySchedule (key.drop h)) (leBytes 16 unit))
  ((chunksOf 16 bs).foldl (fun (r : List Nat × Nat) b =>
    let tw := leBytes 16 r.2
    let x := xorBytes b tw
    (r.1 ++ xorBytes (if enc then aesEnc rk x else aesDec rk x) tw, xtsNext r.2)) ([], t0)).1

/-- Consecutive data units of `n` bytes numbered from `unit`. -/
def xts (enc : Bool) (key : List Nat) (n unit : Nat) (bs : List Nat) : List Nat :=
  let us := chunksOf n bs
  ((List.range us.length).map (fun i => xtsUnit enc key ((unit + i) % 2 ^ 64) (us.getD i []))).flatten

/-! ## Key wrap (SP 800-38F, KW) -/

/-- The integrity check value of KW. -/
def kwIv : List Nat := List.replicate 8 0xA6

/-- KW of a multiple of eight bytes: eight bytes longer. -/
def kwWrap (key text : List Nat) : List Nat :=
  let rk := keySchedule key
  let n := text.length / 8
  let r := (List.range (6 * n)).foldl (fun (r : List Nat × List (List Nat)) j =>
    let i := j % n
    let b := aesEnc rk (r.1 ++ r.2.getD i [])
    (xorBytes (b.take 8) (beBytes 8 (j + 1)), r.2.set i (b.drop 8))) (kwIv, chunksOf 8 text)
  r.1 ++ r.2.flatten

/-- The text of a wrapped string, none when its integrity check fails. -/
def kwUnwrap (key text : List Nat) : Option (List Nat) :=
  let rk := keySchedule key
  let n := text.length / 8 - 1
  let r := (List.range (6 * n)).foldl (fun (r : List Nat × List (List Nat)) k =>
    let j := 6 * n - 1 - k
    let i := j % n
    let b := aesDec rk (xorBytes r.1 (beBytes 8 (j + 1)) ++ r.2.getD i [])
    (b.take 8, r.2.set i (b.drop 8))) (text.take 8, chunksOf 8 (text.drop 8))
  if r.1 = kwIv then some r.2.flatten else none

/-! ## Keccak (FIPS 202) -/

def rotl64 (x n : Nat) : Nat := (x * 2 ^ n) % 2 ^ 64 + x / 2 ^ (64 - n)

/-- Rotation offsets by lane x + 5y. -/
def keccakRot : List Nat := [0, 1, 62, 28, 27, 36, 44, 6, 55, 20, 3, 10, 43, 25, 39, 41, 45, 15, 21, 8, 18, 2, 61, 56, 14]

/-- Round constants. -/
def keccakRc : List Nat :=
  [0x0000000000000001, 0x0000000000008082, 0x800000000000808A, 0x8000000080008000, 0x000000000000808B, 0x0000000080000001,
   0x8000000080008081, 0x8000000000008009, 0x000000000000008A, 0x0000000000000088, 0x0000000080008009, 0x000000008000000A] ++
  [0x000000008000808B, 0x800000000000008B, 0x8000000000008089, 0x8000000000008003, 0x8000000000008002, 0x8000000000000080,
   0x000000000000800A, 0x800000008000000A, 0x8000000080008081, 0x8000000000008080, 0x0000000080000001, 0x8000000080008008]

/-- One round on the 25 lanes. -/
def keccakRound (a : List Nat) (rc : Nat) : List Nat :=
  let g (l : List Nat) (i : Nat) : Nat := l.getD i 0
  let c := (List.range 5).map (fun x => g a x ^^^ g a (x + 5) ^^^ g a (x + 10) ^^^ g a (x + 15) ^^^ g a (x + 20))
  let th := (List.range 25).map (fun i => g a i ^^^ g c ((i + 4) % 5) ^^^ rotl64 (g c ((i + 1) % 5)) 1)
  let pi := (List.range 25).map (fun i =>
    let x := i % 5
    let y := i / 5
    let src := (x + 3 * y) % 5 + 5 * x
    rotl64 (g th src) (g keccakRot src))
  let ch := (List.range 25).map (fun i =>
    let y := i / 5 * 5
    g pi i ^^^ Nat.land (2 ^ 64 - 1 - g pi (y + (i + 1) % 5)) (g pi (y + (i + 2) % 5)))
  ch.set 0 (g ch 0 ^^^ rc)

/-- Keccak-f[1600] on a state of 200 bytes. -/
def keccakF (b : List Nat) : List Nat :=
  ((keccakRc.foldl keccakRound ((List.range 25).map (fun i => leNat ((b.drop (8 * i)).take 8)))).map (leBytes 8)).flatten

/-- Whole blocks of 136 bytes absorbed. -/
def absorb (st : List Nat) (bs : List Nat) : List Nat :=
  (chunksOf 136 bs).foldl (fun st b => keccakF (xorBytes st b)) st

/-- The empty sponge. -/
def keccakZero : List Nat := List.replicate 200 0

/-- The last input absorbed with its padding: domain bits 0x06 for SHA3-256, 0x1F for SHAKE256. -/
def finish (st : List Nat) (domain : Nat) (bs : List Nat) : List Nat :=
  let whole := bs.length / 136 * 136
  let rest := bs.drop whole
  let pad := xorBytes (rest ++ [domain] ++ List.replicate (135 - rest.length) 0) (List.replicate 135 0 ++ [0x80])
  keccakF (xorBytes (absorb st (bs.take whole)) pad)

/-- `n` bytes squeezed. -/
def squeeze (st : List Nat) (n : Nat) : List Nat :=
  let k := ceilDiv n 136
  (((List.range k).foldl (fun (r : List Nat × List Nat) _ => (r.1 ++ r.2.take 136, keccakF r.2)) ([], st)).1).take n

/-- SHA3-256. -/
def sha3 (bs : List Nat) : List Nat := squeeze (finish keccakZero 0x06 bs) 32
/-- SHAKE256 with `n` bytes of output. -/
def shake (bs : List Nat) (n : Nat) : List Nat := squeeze (finish keccakZero 0x1F bs) n

end Sys2Proof.Machine
end

