-- ==== Sys2Proof/Machine/Keys.lean ====
section
/-! DEFINITION. Key slots, the choice of a cipher core and the nonces of GCM encryption (R308, R315 to R317). -/

namespace Sys2Proof.Machine

/-! ## Key slots (R317) -/

/-- A slot of a partition. -/
def State.keySlot (s : State) (p k : Nat) : KeySlot := Tab.get KeySlot.reset s.ciph.keys (p * 512 + k)
def State.setKeySlot (s : State) (p k : Nat) (x : KeySlot) : State := { s with ciph := { s.ciph with keys := Tab.set KeySlot.reset s.ciph.keys (p * 512 + k) x } }

/-- Slots a partition holds: its grant, or 512 for P0 (Table 6.1, notes/assumptions/18.md). -/
def State.keyCount (s : State) (p : Nat) : Nat := if p = 0 then 512 else (s.part p).grants.keys

/-- CIPH_STATUS.SLOTS: slots that hold a key. -/
def State.keysHeld (s : State) : Nat := (s.ciph.keys.filter (fun e => e.2.full)).length

/-- Bytes of key material of a type (Table 12.5). -/
def keyBytes (typ : Nat) : Nat := match typ with
  | 0 => 16 | 3 => 64 | _ => 32

/-- The material of a slot that may do GCM in a direction: usage bit 0 encrypts, bit 1 decrypts. -/
def KeySlot.gcm (x : KeySlot) (enc : Bool) : Option (List Nat) := if x.full && decide (x.typ < 2) && bit x.usage (if enc then 0 else 1) then some x.mat else none

/-- The material of a slot that may do XTS. -/
def KeySlot.xts (x : KeySlot) : Option (List Nat) := if x.full && decide (2 ≤ x.typ) && bit x.usage 2 then some x.mat else none

/-- CIPH_EVENT bits go to vector 8. -/
def State.ciphEvent (s : State) (f : Fld) : State := s.event f Reg.CIPH_EVENT_EN_EN 8

/-! ## Cores (R308) -/

def State.cipherCore (s : State) (i : Nat) : CipherCore := Tab.get CipherCore.reset s.ciph.cores i
def State.setCipherCore (s : State) (i : Nat) (x : CipherCore) : State := { s with ciph := { s.ciph with cores := Tab.set CipherCore.reset s.ciph.cores i x } }

/-- Pieces of work on a core. -/
def State.coreLoad (s : State) (i : Nat) : Nat := (s.ciph.reqs.filter (fun r => decide (r.stage = .started i))).length

/-- The core for work on a slot: one that caches it with fewer than four pieces, else one with the fewest, a looped core left out (R420);
which of several is a free value (notes/assumptions/3.md). -/
def State.pickCore (s : State) (p k : Nat) : State × Nat :=
  let key := p * 512 + k
  let cores := (List.range 16).filter (fun i => !s.on (Reg.TST_LOOP_ACTIVE (39 + i)))
  let cached := cores.filter (fun i => decide (key ∈ (s.cipherCore i).cache) && decide (s.coreLoad i < 4))
  let least := (cores.map s.coreLoad).foldl min (s.coreLoad (cores.headD 0))
  let ok := if cached.isEmpty then cores.filter (fun i => s.coreLoad i == least) else cached
  if ok.length ≤ 1 then (s, ok.getD 0 0) else (s.draw.2, ok.getD (s.draw.1 % ok.length) 0)

/-- The core caches a slot's expanded key; it holds four, and which one goes is a free value. -/
def State.cacheKey (s : State) (i p k : Nat) : State :=
  let key := p * 512 + k
  let x := s.cipherCore i
  if key ∈ x.cache then s
  else if x.cache.length < 4 then s.setCipherCore i { x with cache := x.cache ++ [key] }
  else s.draw.2.setCipherCore i { x with cache := x.cache.eraseIdx (s.draw.1 % 4) ++ [key] }

/-- A piece of work on a slot is given to a core, which caches the slot's key. -/
def State.takeCore (s : State) (p k : Nat) : State × Nat :=
  let r := s.pickCore p k
  (r.1.cacheKey r.2 p k, r.2)
def State.useCore (s : State) (p k : Nat) : State := (s.takeCore p k).1

/-! ## Nonces (R315, R316) -/

/-- A nonce of core `i` for a partition's encryption: its twelve bytes and the low half of its counter, none while the core
holds. The core adopts a newer epoch and starts its count at 0. -/
def State.nonce (s : State) (i p : Nat) : State × Option (List Nat × Nat) :=
  let x := s.cipherCore i
  let e := s.rd Reg.CIPH_EPOCH_EPOCH
  let x := if x.epoch < e then { x with epoch := e, count := 0 } else x
  if 2 ^ 40 - 1 ≤ x.count then ((s.setCipherCore i x).ciphEvent Reg.CIPH_EVENT_NONCE_HOLD, none)
  else
    let ident := p * 2 ^ 26 + i * 2 ^ 22 + s.rd Reg.CIPH_CFG_NONCE_ID
    let ctr := x.epoch * 2 ^ 40 + x.count
    let t := s.setCipherCore i { x with count := x.count + 1 }
    let t := t.when (x.count + 1 == 2 ^ 39) (fun t => t.ciphEvent Reg.CIPH_EVENT_COUNT_HIGH)
    let t := t.when (x.count + 1 == 2 ^ 40 - 1) (fun t => t.ciphEvent Reg.CIPH_EVENT_NONCE_HOLD)
    (t, some (beBytes 4 ident ++ beBytes 8 ctr, ctr % 2 ^ 32))

/-- A first epoch has been written since the start (R316). -/
def State.epochValid (s : State) : Bool := s.on Reg.CIPH_EPOCH_VALID

/-- `n` bytes of the random bit generator (Table 12.1): a free value. -/
def State.random (s : State) (n : Nat) : State × List Nat := ({ s with free := s.free + 1 }, leBytes n (Config.freeBytes s.free n))

end Sys2Proof.Machine
end

