-- ==== Sys2Proof/Machine/Tx.lean ====
section
/-! DEFINITION. Frames that wait at the fabric ports (R210, R279, R282). -/

namespace Sys2Proof.Machine

def State.conn (s : State) (c : Nat) : Conn := Tab.get Conn.reset s.conns c
def State.setConn (s : State) (c : Nat) (x : Conn) : State := { s with conns := Tab.set Conn.reset s.conns c x }
def State.path (s : State) (i : Nat) : PathSt := Tab.get PathSt.reset s.paths i
def State.setPath (s : State) (i : Nat) (x : PathSt) : State := { s with paths := Tab.set PathSt.reset s.paths i x }

def State.port (s : State) (l : Nat) : PortSt := Tab.get PortSt.reset s.fab.ports l
def State.setPort (s : State) (l : Nat) (x : PortSt) : State := { s with fab := { s.fab with ports := Tab.set PortSt.reset s.fab.ports l x } }

/-- A packet answers a READ of a granary that this module hosts (R342). -/
def State.ofGranary (s : State) (k : RktPkt) (d : TxDest) : Bool :=
  k.typ == 4 && d.conn.elim false (fun c => ((s.conn c).msgs.find? (fun m => m.msn == k.msn)).elim false (fun m => (s.granaryOf (m.laddr % 2 ^ 48)).isSome))

/-- What a module sends after a module-fatal fault: PROBE_RESP, and granary READ answers of P0 connections (R342). -/
def State.maySendFatal (s : State) (f : TxFrame) : Bool :=
  match f.body with
  | .rkt _ k d => k.typ == 0xB || (f.part == 0 && s.on Reg.FLT_STATUS_GRAN_SERVE && s.ofGranary k d)
  | _ => false

/-- A frame waits at a port; after a module-fatal fault only what may still be sent. -/
def State.pushTx (s : State) (l : Nat) (f : TxFrame) : State :=
  if s.on Reg.FLT_STATUS_MODULE_FATAL && !s.maySendFatal f then s
  else
    let x := s.port l
    s.setPort l { x with
      waiting := x.waiting ++ [f]
      arrived := if x.waiting.any (fun g => g.cls == f.cls) then x.arrived else Tab.set 0 x.arrived f.cls (s.now + 1) }

/-- Bytes of the extension of an RKT type (Table 8.5). -/
def extBytes (typ : Nat) : Nat :=
  match typ with
  | 1 => 16 | 2 => 4 | 3 => 24 | 4 => 4 | 5 => 32 | 6 => 12 | 7 => 32 | 8 => 28 | 9 => 32 | 10 => 16 | 11 => 16 | 12 => 8 | _ => 0

/-- Length of an RKT frame from destination MAC address through FCS, on a path table entry (R210 to R212, R324). -/
def State.rktLen (s : State) (path typ payload : Nat) (enc : Bool) : Nat :=
  14 + (if s.on (Reg.RKT_PATH_VLAN_EN path) then 4 else 0) + (if s.on (Reg.RKT_LADDR_V6 (s.rd (Reg.RKT_PATH_LADDR path))) then 40 else 20) +
    8 + 32 + extBytes typ + payload + (if enc then 28 else 0) + 4

/-- An RKT packet waits at the port of its path table entry, in a traffic class and charged to a partition. -/
def State.sendRkt (s : State) (path cls part : Nat) (k : RktPkt) (d : TxDest) : State :=
  s.pushTx (s.rd (Reg.RKT_PATH_PORT path)) { cls := cls, part := part, len := s.rktLen path k.typ k.payload.length k.enc, body := .rkt path k d }

/-- Where the packets of a connection go: to its peer, sealed with a key where it is encrypted (R210, R324). -/
def State.connDest (s : State) (c : Nat) (key : Option (List Nat)) : TxDest :=
  let k := (s.conn c).part * 512 + s.rd (Reg.RKT_CONN_KEY_SLOT c)
  { addr := s.rd (Reg.RKT_PEER_ADDR (s.rd (Reg.RKT_CONN_PEER c))), conn := some c, key := key, slot := key.map (fun _ => (k, (s.keySlot (s.conn c).part (s.rd (Reg.RKT_CONN_KEY_SLOT c))).era)) }

/-- A packet of a connection waits in the connection's class (R279). -/
def State.sendConn (s : State) (c slot : Nat) (part : Nat) (k : RktPkt) (key : Option (List Nat)) : State :=
  s.sendRkt (s.rd (Reg.RKT_CONN_PATH_BASE c) + slot) (s.rd (Reg.RKT_CONN_TCLASS c)) part k (s.connDest c key)

/-- A PROBE or its answer waits in the control class (R227). -/
def State.sendControl (s : State) (path : Nat) (k : RktPkt) (addr : Nat) : State :=
  s.sendRkt path 8 0 k { addr := addr, conn := none, key := none }

/-- A packet of a type with nothing in its fields, which unconnected types leave 0 (R212). -/
def RktPkt.plain (typ : Nat) (ext : List Nat) : RktPkt :=
  { ver := 1, typ := typ, ackReq := false, last := false, retx := false, enc := false, imm := false, rsv := false, path := 0, cepoch := 0,
    dstConn := 0xFFFFFF, psn := 0, msn := 0, offset := 0, msgLen := 0, ppsn := 0, tstamp := 0, ext := ext, payload := [], iv := 0, authTag := 0,
    srcAddr := 0, ce := false }

end Sys2Proof.Machine
end

