-- ==== Sys2Proof/Machine/RktSeal.lean ====
section
/-! DEFINITION. Encryption of RKT packets (R212, R324): the bytes of the base header and the extension, sealing, opening. -/

namespace Sys2Proof.Machine

/-- The 32 bytes of a base header (Table 8.4). -/
def RktPkt.header (k : RktPkt) : List Nat :=
  [k.ver * 16 + k.typ, b2n k.ackReq * 128 + b2n k.last * 64 + b2n k.retx * 32 + b2n k.enc * 16 + b2n k.imm * 8, k.path * 16, k.cepoch] ++
  beBytes 3 k.dstConn ++ [0] ++ beBytes 4 k.psn ++ beBytes 4 k.msn ++ beBytes 4 k.offset ++ beBytes 4 k.msgLen ++ beBytes 2 k.ppsn ++ [0, 0] ++
  beBytes 4 k.tstamp

/-- Widths in bytes of a type's extension fields (Tables 8.5, 8.6, 8.8 and 8.9), reserved bytes among them. -/
def extWidths (typ : Nat) : List Nat :=
  match typ with
  | 1 => [4, 8, 4] | 2 => [4] | 3 => [4, 8, 4, 8] | 4 => [4] | 5 => [4, 4, 8, 8, 8] | 6 => [4, 8] | 7 => [4, 8, 4, 4, 4, 4, 1, 3]
  | 8 => [1, 1, 1, 1, 8, 2, 2, 1, 1, 2, 4, 4] | 9 => [1, 1, 2, 8, 4, 2, 2, 2, 2, 2, 2, 4]
  | 10 => [4, 4, 4, 4] | 11 => [4, 4, 4, 4] | 12 => [4, 4] | _ => []

/-- The bytes of an extension. -/
def RktPkt.extBytes (k : RktPkt) : List Nat :=
  let ws := extWidths k.typ
  ((List.range ws.length).map (fun i => beBytes (ws.getD i 0) (k.ext.getD i 0))).flatten

/-- What sealing a packet came to. -/
inductive Sealing where
  | sealed (t : State) (iv key : List Nat)
  /-- No nonce may be made yet (R316). -/
  | wait (t : State)
  | noKey
deriving DecidableEq, Repr

/-- A packet of a connection gets a nonce of its own and the key of the connection's slot (R315, R324), with which it is sealed as
it leaves, its TSTAMP being authenticated too. -/
def State.sealPkt (s : State) (c : Nat) : Sealing :=
  let p := (s.conn c).part
  let slot := s.rd (Reg.RKT_CONN_KEY_SLOT c)
  if !s.epochValid then .wait s
  else match (s.keySlot p slot).gcm true with
    | none => .noKey
    | some key =>
      let r := s.takeCore p slot
      let n := r.1.nonce r.2 0
      match n.2 with
      | none => .wait n.1
      | some (iv, _) => .sealed n.1 iv key

/-- A packet sealed: the base header and the extension are authenticated, the payload is encrypted (R324). -/
def RktPkt.seal (k : RktPkt) (key : List Nat) : RktPkt :=
  let e := gcmSeal key (beBytes 12 k.iv) (k.header ++ k.extBytes) k.payload
  { k with payload := e.1, authTag := beNat e.2 }

/-- The bytes of a packet (R211, R212, R324). -/
def RktPkt.bytes (k : RktPkt) : List Nat :=
  k.header ++ k.extBytes ++ (if k.enc then beBytes 12 k.iv ++ k.payload ++ beBytes 16 k.authTag else k.payload)

/-- The core that opens an encrypted connection's packet caches the slot's key (R308). -/
def State.openCore (s : State) (c : Nat) : State :=
  let p := (s.conn c).part
  let k := s.rd (Reg.RKT_CONN_KEY_SLOT c)
  s.when (s.on (Reg.RKT_CONN_ENC c) && ((s.keySlot p k).gcm false).isSome) (fun t => t.useCore p k)

/-- An arriving packet opened: as it is on a plain connection; on an encrypted one its plaintext when the tag verifies and
the slot may decrypt (R324). -/
def State.openPkt (s : State) (c : Nat) (k : RktPkt) : Option RktPkt :=
  if !s.on (Reg.RKT_CONN_ENC c) then (if k.enc then none else some k)
  else match (s.keySlot (s.conn c).part (s.rd (Reg.RKT_CONN_KEY_SLOT c))).gcm false with
    | none => none
    | some key =>
      if !k.enc then none
      else (gcmOpen key (beBytes 12 k.iv) (k.header ++ k.extBytes) k.payload (beBytes 16 k.authTag)).map (fun t => { k with payload := t })

end Sys2Proof.Machine
end

