-- ==== Sys2Proof/Machine/Rkt.lean ====
section
/-! DEFINITION. The Ranuk transport (chapter 08, R210 to R230): connections, packets, acknowledgement, retransmission,
congestion windows, resync, paths and probes; and what a message does when it is delivered (chapter 09, R235 to R251). -/

namespace Sys2Proof.Machine

/-! ## Sequence arithmetic and names -/

/-- (s32)(a - b) for 32-bit sequence numbers (R213, R256). -/
def sdiff (a b : Nat) : Int := sext 32 ((a + 2 ^ 32 - b % 2 ^ 32) % 2 ^ 32)
/-- `a` lies before `b` in a 32-bit sequence. -/
def seqLt (a b : Nat) : Bool := decide (sdiff a b < 0)
/-- One more, modulo 2^32. -/
def seqAdd (a n : Nat) : Nat := (a + n) % 2 ^ 32

/-- Time in ns as TSTAMP carries it (Table 8.4). -/
def State.ns (s : State) : Nat := s.now / 4 % 2 ^ 32

/-- Segment size of a connection in bytes (R213). -/
def State.seg (s : State) (c : Nat) : Nat := 1024 * 2 ^ s.rd (Reg.RKT_CONN_SEG c)

/-- Packets of a message (R213). -/
def packetsOf (seg len : Nat) : Nat := if len = 0 then 1 else ceilDiv len seg

/-- The connection in RTS of a queue pair (R232, R258). -/
def State.connFor (s : State) (p qp : Nat) : Option Nat :=
  (s.conns.find? (fun e => e.2.part == p && e.2.qp == qp && decide (e.2.state = .rts))).map Prod.fst

/-- Path table entry of a connection's slot, and whether it is up (R215). -/
def State.pathOf (s : State) (c slot : Nat) : Nat := s.rd (Reg.RKT_CONN_PATH_BASE c) + slot
def State.slotUp (s : State) (c slot : Nat) : Bool :=
  decide (slot ≤ s.rd (Reg.RKT_CONN_PATH_N c)) && s.on (Reg.RKT_PATH_UP (s.pathOf c slot))

def Conn.slot (x : Conn) (i : Nat) : PathSlot := Tab.get PathSlot.reset x.slots i
def Conn.setSlot (x : Conn) (i : Nat) (v : PathSlot) : Conn := { x with slots := Tab.set PathSlot.reset x.slots i v }

/-- Bytes in flight on a slot (R216). -/
def Conn.flying (x : Conn) (slot : Nat) : Nat :=
  ((x.flights.filter (fun f => f.slot == slot && !f.acked && !f.lost)).map (·.bytes)).sum

/-- RKT_EVENT bits go to vector 7. -/
def State.rktEvent (s : State) (f : Fld) : State := s.event f Reg.RKT_EVENT_EN_EN 7

/-- A dropped packet counted under its reason (R214). -/
def State.rktDrop (s : State) (f : Fld) : State := (s.incSat f 1).rktEvent Reg.RKT_EVENT_DROP

/-- A connection's state and its STATE field (R233). -/
def State.connState (s : State) (c : Nat) (st : ConnState) : State :=
  let t := s.setConn c { s.conn c with state := st }
  t.wr (Reg.RKT_CONN_STATE c) (match st with | .reset => 0 | .rts => 1 | .error => 2)

/-- A connection's epoch and its CEPOCH field (R222). -/
def State.connEpoch (s : State) (c e : Nat) : State := (s.setConn c { s.conn c with epoch := e % 256 }).wr (Reg.RKT_CONN_CEPOCH c) e

/-! ## Local memory of requests and regions (R169, R241) -/

/-- Bytes of a local address that the module holds; host bytes come by reads. -/
def State.localRead (s : State) (p laddr n : Nat) : List Nat :=
  if laddr < 2 ^ 63 then List.replicate n 0 else s.readVia p true (laddr % 2 ^ 48) n

/-- Where the staged bytes of a command stand in the block service's region of the commons, whose place the spec leaves to the
configuration image (R129, R295, notes/assumptions/59.md). -/
def stagingAt (id : Nat) : Nat := commonsBase + (Config.fuse "block staging" % 512 + id % 64 * 16) * 65536

/-- Bytes placed in the block-service staging region, `k` being command·2^21 + offset (R295, R305); the units that they cover read normally
from then on (R448). -/
def State.stageBytes (s : State) (k : Nat) (bs : List Nat) : State :=
  let a := stagingAt (k / 2 ^ 21) + k % 2 ^ 21
  { s with
    memSt := { s.memSt with bad := s.memSt.bad.filter (fun e => !(decide (a ≤ e.1) && decide (e.1 + 8 ≤ a + bs.length))) }
    blk := { s.blk with stage := (List.range bs.length).foldl (fun m i => Tab.set (0 : Byte) m (k + i) (BitVec.ofNat 8 (bs.getD i 0))) s.blk.stage } }

/-- Bytes placed for a writer at a local address: from 2^65 on at a module address, which a GET of level F or M names (R141); from 2^64
on in staging (an answer to a remote volume's READ); in the partition's memory; or on the host under the slice (R169). -/
def State.localWrite (s : State) (who : Writer) (p slice laddr : Nat) (bs : List Nat) : State :=
  if bs.isEmpty then s
  else if 2 ^ 65 ≤ laddr then s.writeFor who p false (laddr - 2 ^ 65) bs
  else if 2 ^ 64 ≤ laddr then s.stageBytes (laddr - 2 ^ 64) bs
  else if laddr < 2 ^ 63 then s.hostWrite p (s.pasidOf p slice) laddr true bs
  else s.writeFor who p true (laddr % 2 ^ 48) bs

/-- A local range lies in the partition's grants and the queue's slice (R243). A host range stays below bit 63 and is otherwise the
host's to check. -/
def State.localOpen (s : State) (p slice laddr n : Nat) : Bool :=
  if laddr < 2 ^ 63 then decide (laddr + n ≤ 2 ^ 63)
  else (s.openRange p true (laddr % 2 ^ 48) n && s.sliceOpen p slice (laddr % 2 ^ 48) n)

/-- A payload in module memory is read when its message is handed over; an uncorrectable read ends the request with MEM_ERR
(R135, Table 9.5). -/
def State.payloadOk (s : State) (p laddr n : Nat) : Bool := laddr < 2 ^ 63 || s.readableVia p true (laddr % 2 ^ 48) n

/-- Reads of host memory for an operation's data, of at most Max_Read_Request_Size each (R183). -/
def State.readHostFor (s : State) (p slice addr n : Nat) (use : Nat → ReadFor) : State :=
  (cutRequest s.maxRead addr n 0 n).foldl (fun t k => t.hostRead p (t.pasidOf p slice) (addr + k.1) k.2 (use k.1)) s

/-! ## Handing a message to the sender (R213, R234) -/

/-- The connection may take another message (R234). -/
def State.mayHand (s : State) (c : Nat) : Bool := decide (sdiff (s.conn c).nextMsn (s.conn c).firstMsn < 1024)

/-- A message taken by the connection's sender: the next MSN and the next PSNs (R213). A payload on the host is read. -/
def State.handMessage (s : State) (c : Nat) (m : TxMsg) (hostSrc : Option Nat) : State :=
  let x := s.conn c
  let m1 := { m with msn := x.nextMsn, psn := x.nextPsn, since := s.count, missing := if hostSrc.isSome then m.len else 0 }
  let wire := if m.typ = 3 then 0 else m.len
  let t := s.setConn c { x with
    nextMsn := seqAdd x.nextMsn 1
    nextPsn := seqAdd x.nextPsn (packetsOf (s.seg c) wire)
    msgs := x.msgs ++ [m1] }
  match hostSrc with
  | some a => t.readHostFor x.part m.slice a m.len (fun o => .message c m1.msn o)
  | none => t

/-- A message of a type with its extension, before it has its numbers. -/
def TxMsg.new (typ : Nat) (ext : List Nat) (len : Nat) (data : List Nat) (owner : MsgOwner) (laddr slice : Nat) : TxMsg :=
  { msn := 0, typ := typ, ext := ext, imm := false, len := len, data := data, missing := 0, psn := 0, owner := owner, laddr := laddr,
    slice := slice, answered := false, since := 0 }

/-! ## Completing requests in ring order (R242, R246, R249) -/

/-- Fetched requests of a send queue. -/
def State.wqesOf (s : State) (p q : Nat) : List Wqe := Tab.get [] s.wqes (p * 4096 + q)
def State.setWqes (s : State) (p q : Nat) (l : List Wqe) : State := { s with wqes := Tab.set [] s.wqes (p * 4096 + q) l }

/-- Payload length that a message's packets carry: a READ_REQ and an ATOMIC carry none (Table 8.5). -/
def TxMsg.wireLen (m : TxMsg) : Nat := if m.typ = 3 || m.typ = 5 || m.typ = 6 then 0 else m.len

/-- A message that no packet has been sent of leaves its connection's sender: later messages take its numbers
(notes/assumptions/21.md). -/
def State.withdrawMsg (s : State) (c : Nat) (m : TxMsg) : State :=
  let x := s.conn c
  let n := packetsOf (s.seg c) m.wireLen
  let back (a k : Nat) : Nat := (a + 2 ^ 32 - k % 2 ^ 32) % 2 ^ 32
  let x1 : Conn := { x with
    msgs := (x.msgs.filter (fun y => y.msn != m.msn)).map (fun y => if seqLt m.msn y.msn then { y with msn := back y.msn 1, psn := back y.psn n } else y)
    nextMsn := back x.nextMsn 1
    nextPsn := back x.nextPsn n }
  let t := s.dropReads (fun u => match u with
    | .message d k _ => if d = c ∧ k = m.msn then some x.part else none
    | _ => none)
  let g (u : ReadFor) : ReadFor := match u with
    | .message d k o => if d = c ∧ seqLt m.msn k then .message d (back k 1) o else u
    | _ => u
  { (t.setConn c x1) with pci := { t.pci with
    reads := t.pci.reads.map (fun e => (e.1, e.2.map (fun r => { r with use := g r.use })))
    heldReads := t.pci.heldReads.map (fun h => (h.1, h.2.1, h.2.2.1, h.2.2.2.1, g h.2.2.2.2)) } }

/-- Messages of connection `c` whose owner `f` names lose it: one of which no packet was sent is withdrawn, and the others run on, what
they bring dropped. -/
def State.disownAt (s : State) (c : Nat) (f : MsgOwner → Bool) : State :=
  ((s.conn c).msgs.reverse.filter (fun m => f m.owner)).foldl (fun t m =>
    if !m.ended && decide (0 ≤ sdiff m.psn (t.conn c).sendPsn) then t.withdrawMsg c m
    else t.setConn c { t.conn c with msgs := (t.conn c).msgs.map (fun y => if y.msn == m.msn then { y with owner := .gone } else y) }) s

/-- The messages of a partition whose owner `f` names lose it. -/
def State.disown (s : State) (p : Nat) (f : MsgOwner → Bool) : State :=
  ((s.conns.filter (fun e => e.2.part == p)).map Prod.fst).foldl (fun t c => t.disownAt c f) s

/-- What one completed request posts: its bump, DONE_COUNT, its CQE, and, with a request's last firing, the consumer index (R242,
R246, R249, R253). -/
def State.postWqe (s : State) (p q : Nat) (w : Wqe) (st : Nat) : State :=
  let w0 := w.words.getD 0 0
  let rec0 := s.queue p 0 q
  let t := s.when (st == 0) (fun t => t.setQueue p 0 q { (t.queue p 0 q) with w5 := ((t.queue p 0 q).w5 + 1) % 2 ^ 32 })
  let t := t.when (st == 0 && bit w0 5) (fun t => t.bump p (0x200 + bits w0 6 6))
  let t := t.when (bit w0 4 || bit rec0.w4 12) (fun t => t.postCqe p (bits rec0.w4 0 12)
    { status := st, kind := 1, op := bits w0 0 4, imm := false, queue := q, index := w.idx % 2 ^ rec0.logN, info := w.info, user := w.words.getD 3 0 })
  if (t.wqesOf p q).any (fun e => e.idx == w.idx) then t
  else t.setQueue p 0 q { (t.queue p 0 q) with ci := (w.idx + 1) % 65536 }

/-- The finished requests at the front of a list posted in order; `fuel` bounds the walk by the list's length. -/
def State.postFront (s : State) (p q : Nat) : Nat → State
  | 0 => s
  | fuel + 1 =>
    match s.wqesOf p q with
    | w :: r =>
      match w.stage with
      | .finished st => State.postFront ((s.setWqes p q r).postWqe p q w st) p q fuel
      | _ => s
    | [] => s

/-- A request that its trigger has set going and that has not completed (R252, R254). -/
def Wqe.fired (w : Wqe) : Bool := bits (w.words.getD 0 0) 12 2 != 0 && decide (w.stage = .waiting ∨ w.stage = .running)

/-- Every request of the list that has not completed ends with FLUSHED (R254, Table 9.5). -/
def flushed (l : List Wqe) : List Wqe := l.map (fun w => match w.stage with
  | .finished _ => w
  | _ => { w with stage := .finished 3 })

/-- Raw SENDs of a queue whose host bytes are still being read are gone. -/
def State.dropRaws (s : State) (p q : Nat) : State :=
  let t := s.dropReads (fun u => match u with
    | .raw p2 q2 _ _ _ => if p2 = p ∧ q2 = q then some p else none
    | _ => none)
  { t with fab := { t.fab with raws := t.fab.raws.filter (fun r => !(r.p == p && r.q == q)) } }

/-- The read of a queue's next entry is outstanding no more for it (R193, R240). -/
def State.dropEntry (s : State) (p cls q : Nat) : State :=
  s.dropReads (fun u => if u = .entry p cls q then some p else none)

/-- The indices of a queue at 0 and nothing latched (Table 6.6, notes/assumptions/15.md). -/
def Queue.idle (r : Queue) : Queue := { r with en := false, latched := none, pi := 0, ci := 0, fetchAt := 0, closing := false }

/-- A send queue is reset (R254): every request not completed ends with FLUSHED, with no bump; what its messages, copies and INVALs still
do concerns the queue no more. -/
def State.flushSend (s : State) (p q : Nat) : State :=
  let l := flushed (s.wqesOf p q)
  let t := (((s.dropEntry p 0 q).dropRaws p q).setWqes p q l).postFront p q l.length
  let t := t.disown p (fun o => match o with
    | .wqe p2 q2 _ _ => p2 == p && q2 == q
    | _ => false)
  let t : State := { t with
    copies := t.copies.map (fun e => (e.1, { e.2 with queue := e.2.queue.map (fun d => match d.src with
      | .wqe p2 q2 _ => if p2 = p ∧ q2 = q then { d with src := .gone } else d
      | _ => d) }))
    regions := t.regions.map (fun e => if e.1 / 2 ^ 18 = p then (e.1, { e.2 with inval := e.2.inval.filter (fun v => v.q != q) }) else e) }
  t.setQueue p 0 q (t.queue p 0 q).idle

/-- The send queue's reset follows its last fired request (R254). -/
def State.settleSend (s : State) (p q : Nat) : State :=
  if (s.queue p 0 q).closing && !(s.wqesOf p q).any Wqe.fired then s.flushSend p q else s

/-- A request ends with a status and its information word, and what can be posted in ring order is. -/
def State.endWqe (s : State) (p q idx firing st info : Nat) : State :=
  let l := (s.wqesOf p q).map (fun w =>
    if w.idx == idx && w.firing == firing && decide (w.stage = .running ∨ w.stage = .waiting) then { w with stage := .finished st, info := info } else w)
  ((s.setWqes p q l).postFront p q l.length).settleSend p q

/-- The owner of a message learns how it ended (R242, R258): the request's status, or REMOTE_ERR for a copy. -/
def State.endOwner (s : State) (o : MsgOwner) (st info : Nat) : State :=
  match o with
  | .wqe p q idx f => s.endWqe p q idx f st info
  | .cpd u id =>
    let x := s.copy u
    s.setCopy u { x with queue := x.queue.map (fun d => if d.id == id then { d with stage := .finished (if st = 0 then 0 else 8) } else d) }
  | .blk id =>
    { s with blk := { s.blk with cmds := s.blk.cmds.map (fun d =>
        if d.id == id then
          { d with left := d.left - 1, failed := d.failed || st != 0, stage := if d.left ≤ 1 then .back (if d.failed || st != 0 then 8 else 0) 0 else d.stage }
        else d) } }
  | .response => s
  | .gone => s

/-! ## Errors of a connection (R233), and region entries (R235) -/

def rgKey (p i : Nat) : Nat := p * 2 ^ 18 + i
def State.region (s : State) (p i : Nat) : Region := Tab.get Region.reset s.regions (rgKey p i)
def State.setRegion (s : State) (p i : Nat) (r : Region) : State := { s with regions := Tab.set Region.reset s.regions (rgKey p i) r }

/-- Region entries of a partition (R235). -/
def State.regionCount (s : State) (p : Nat) : Nat := 64 * s.queueCount p 0

/-- A message is bound to generation `g` of region entry `i` (R239). -/
def RxMsg.boundTo (m : RxMsg) (i g : Nat) : Bool := m.bound.elim false (fun b => b.idx == i && b.gen == g)

/-- The answer to a READ of generation `g` of region entry `i` still waits for bytes of the host (R239). -/
def TxMsg.boundTo (m : TxMsg) (i g : Nat) : Bool := m.missing != 0 && m.bound.elim false (fun b => b.idx == i && b.gen == g)

/-- A write to host memory inside a range is held for partition `p` (R190). -/
def State.heldInto (s : State) (p base len : Nat) : Bool :=
  s.pci.heldReqs.any (fun h => h.1 == p && (match h.2 with
    | .hostWrite _ _ a _ bs => decide (a < base + len) && decide (base < a + bs.length)
    | _ => false))

/-- Held writes into the range are dropped (R239). -/
def State.dropHeldInto (s : State) (p base len : Nat) : State :=
  { s with pci := { s.pci with heldReqs := s.pci.heldReqs.filter (fun h => !(h.1 == p && (match h.2 with
      | .hostWrite _ _ a _ bs => decide (a < base + len) && decide (base < a + bs.length)
      | _ => false))) } }

/-- What an INVAL waits for (R239): an open inbound message bound to generation `g` of region entry `i`, the bytes of the host for the
answer to one that was delivered, and writes of peers into the region that are held (notes/assumptions/73.md). -/
def State.boundTo (s : State) (p i : Nat) (v : Inval) : Bool :=
  s.conns.any (fun e => e.2.part == p && (e.2.opens.any (fun m => m.boundTo i v.gen) || e.2.msgs.any (fun m => m.boundTo i v.gen))) ||
  (decide (v.base < 2 ^ 63) && s.heldInto p v.base v.len)

/-- Every INVAL of the partition whose generation of its entry no open message is bound to any more completes (R239). -/
def State.settleInvals (s : State) (p : Nat) : State :=
  (s.regions.filter (fun e => e.1 / 2 ^ 18 == p)).foldl (fun (t : State) e =>
    e.2.inval.foldl (fun (t : State) v =>
      let i := e.1 % 2 ^ 18
      if t.boundTo p i v then t
      else (t.setRegion p i { t.region p i with inval := (t.region p i).inval.erase v }).endWqe p v.q v.idx v.firing 0 0) t) s

/-! ## Receive queues (R242, R250, R251) -/

def State.recvsOf (s : State) (p q : Nat) : List Wqe := Tab.get [] s.recvs (p * 4096 + q)
def State.setRecvs (s : State) (p q : Nat) (l : List Wqe) : State := { s with recvs := Tab.set [] s.recvs (p * 4096 + q) l }

/-- The name of a RECV: its ring index and its firing (R241, R253). -/
def Wqe.key (w : Wqe) : Nat := w.idx + 65536 * w.firing

/-- One completed RECV posted: its CQE of KIND 0x2, and with its last firing the consumer index (R242, R246). Word 3 holds the USER
or the IMM returned. -/
def State.postRecv (s : State) (p q : Nat) (w : Wqe) (st : Nat) : State :=
  let w0 := w.words.getD 0 0
  let rec1 := s.queue p 1 q
  let t := s.when (bit w0 4) (fun t => t.postCqe p (bits rec1.w4 0 12)
    { status := st, kind := 2, op := bits w0 0 4, imm := w.imm, queue := q, index := w.idx % 2 ^ rec1.logN, info := w.info, user := w.words.getD 3 0 })
  if (t.recvsOf p q).any (fun e => e.idx == w.idx) then t
  else t.setQueue p 1 q { (t.queue p 1 q) with ci := (w.idx + 1) % 65536 }

/-- The finished RECVs at the front posted in ring order (R242). -/
def State.postRecvFront (s : State) (p q : Nat) : Nat → State
  | 0 => s
  | fuel + 1 =>
    match s.recvsOf p q with
    | w :: r =>
      match w.stage with
      | .finished st => State.postRecvFront ((s.setRecvs p q r).postRecv p q w st) p q fuel
      | _ => s
    | [] => s

/-- A RECV ends (R249, R250): its bump at delivery, and its CQE when those before it have ended. -/
def State.endRecv (s : State) (p q key st bytes : Nat) (imm : Option Nat) : State :=
  match (s.recvsOf p q).find? (fun w => w.key == key && decide (w.stage = .waiting)) with
  | none => s
  | some w =>
    let w0 := w.words.getD 0 0
    let done : Wqe := { w with stage := .finished st, info := bytes, imm := imm.isSome, words := w.words.set 3 (imm.getD (w.words.getD 3 0)) }
    let t := s.when (st == 0 && bit w0 5) (fun t => t.bump p (0x200 + bits w0 6 6))
    let l := (s.recvsOf p q).map (fun v => if v.key == key && decide (v.stage = .waiting) then done else v)
    (t.setRecvs p q l).postRecvFront p q l.length

/-- A receive queue is reset (R254): every request not completed ends with FLUSHED, and the SENDs that took one keep none. -/
def State.flushRecv (s : State) (p q : Nat) : State :=
  let l := flushed (s.recvsOf p q)
  let t := ((s.dropEntry p 1 q).setRecvs p q l).postRecvFront p q l.length
  let t : State := { t with conns := t.conns.map (fun e =>
    if e.2.part = p ∧ e.2.qp = q then (e.1, { e.2 with opens := e.2.opens.map (fun m => { m with recv := none }), kept := [] }) else e) }
  t.setQueue p 1 q (t.queue p 1 q).idle

/-! ## What ends with a connection (R233, R239) -/

/-- Held writes of a connection's messages are not carried out: what they belong to is discarded (R222, R239,
notes/assumptions/73.md). -/
def State.dropHeldOf (s : State) (c : Nat) : State :=
  { s with memSt := { s.memSt with held := s.memSt.held.filter (fun h => match h.who with
      | .msg d _ => d != c
      | _ => true) } }

/-- What a connection `x` that leaves RTS had under way ends: each request handed over and not completed, `st` for the message that
caused it and FLUSHED for every other; and the RECVs that its undelivered SENDs took, with FLUSHED (R233). -/
def State.flushConn (s : State) (c : Nat) (x : Conn) (cause : Option Nat) (st : Nat) : State :=
  let t := (x.msgs.filter (fun m => !m.ended)).foldl (fun t m => t.endOwner m.owner (if some m.msn = cause then st else 3) 0) (s.dropHeldOf c)
  (x.opens.filterMap (·.recv) ++ x.kept.map (·.2)).foldl (fun t r => t.endRecv x.part x.qp r.1 3 0 none) t

/-- The connection enters ERROR (R233); INVALs that waited for its messages are not yet settled. -/
def State.connBreak (s : State) (c : Nat) (cause : Option Nat) (st : Nat) : State :=
  let x := s.conn c
  let t := (s.setConn c { x with msgs := [], flights := [], opens := [], kept := [], got := [], resync := none, nakHold := false, ackHeld := none }).connState c .error
  (t.flushConn c x cause st).rktEvent Reg.RKT_EVENT_CONN_ERROR

/-- The connection enters ERROR: the request that caused it ends with `st`, every other with FLUSHED. -/
def State.connFail (s : State) (c : Nat) (cause : Option Nat) (st : Nat) : State := (s.connBreak c cause st).settleInvals (s.conn c).part

/-- As `connFail`, with the asynchronous event `code` (Table 9.9). -/
def State.connError (s : State) (c : Nat) (cause : Option Nat) (st code info : Nat) : State :=
  (s.connFail c cause st).asyncEvent (s.conn c).part code (s.conn c).qp info

/-! ## Inline encryption of packets (R316, R324) -/

/-- A packet of a connection sent on a slot: with a nonce and a key for an encrypted connection; held while no nonce may be made;
with no key that may encrypt, the connection enters ERROR with PROTOCOL_ERROR and every request is FLUSHED (R324). -/
def State.sealSend (s : State) (c slot part : Nat) (k : RktPkt) : State :=
  if !k.enc then s.sendConn c slot part k none
  else match s.sealPkt c with
    | .sealed t iv key => t.sendConn c slot part { k with iv := beNat iv } (some key)
    | .wait t => { t with ciph := { t.ciph with heldPkts := t.ciph.heldPkts ++ [{ conn := c, slot := slot, part := part, pkt := k }] } }
    | .noKey => s.connError c none 3 7 c

/-! ## Sending packets (R210 to R216) -/

/-- The message whose packets include a PSN. -/
def State.msgOfPsn (s : State) (c psn : Nat) : Option TxMsg :=
  (s.conn c).msgs.find? (fun m => decide (0 ≤ sdiff psn m.psn) && decide (sdiff psn m.psn < packetsOf (s.seg c) m.wireLen))

/-- The packet of a PSN on a slot (R211 to R213); its TSTAMP is written as it leaves. -/
def State.mkPacket (s : State) (c : Nat) (m : TxMsg) (psn slot ppsn : Nat) (retx : Bool) : RktPkt :=
  let o := (sdiff psn m.psn).toNat * s.seg c
  let n := min (s.seg c) (m.wireLen - o)
  let last := decide (m.wireLen ≤ o + s.seg c)
  { ver := 1, typ := m.typ, ackReq := last, last := last, retx := retx, enc := s.on (Reg.RKT_CONN_ENC c), imm := m.imm, rsv := false,
    path := slot, cepoch := (s.conn c).epoch, dstConn := s.rd (Reg.RKT_CONN_PEER_CONN c), psn := psn, msn := m.msn, offset := o,
    msgLen := m.wireLen, ppsn := ppsn, tstamp := 0, ext := m.ext, payload := (m.data.drop o).take n, iv := 0, authTag := 0, srcAddr := 0, ce := false }

/-- The next slot after `last`, round robin, that is up and has room for `bytes` more (R216). -/
def State.pickSlot (s : State) (c last bytes : Nat) : Option Nat :=
  let x := s.conn c
  (List.range 16).findSome? (fun i =>
    let k := (last + 1 + i) % 16
    if s.slotUp c k && decide (x.flying k + bytes ≤ (x.slot k).cwnd) then some k else none)

/-- The next slot after `last` that is up. -/
def State.nextUp (s : State) (c last : Nat) : Option Nat :=
  (List.range 16).findSome? (fun i => if s.slotUp c ((last + 1 + i) % 16) then some ((last + 1 + i) % 16) else none)

/-- A packet of a PSN put on a slot: the next PPSN, the record of R216, the packet sealed and sent. -/
def State.putPacket (s : State) (c psn slot tries : Nat) (retx : Bool) : State :=
  match s.msgOfPsn c psn with
  | none => s
  | some m =>
    let x := s.conn c
    let ps := x.slot slot
    let pkt := s.mkPacket c m psn slot ps.nextPpsn retx
    let f : Flight := { psn := psn, slot := slot, ppsn := ps.nextPpsn, sentAt := s.now, tries := tries, bytes := pkt.payload.length, lost := false, refused := false, acked := false }
    let x1 := { (x.setSlot slot { ps with nextPpsn := (ps.nextPpsn + 1) % 65536 }) with
      flights := x.flights.filter (fun g => g.psn != psn) ++ [f]
      lastSlot := slot }
    let t := s.setConn c x1
    t.sealSend c slot x.part pkt

/-- RKT_PACKET_SEND: the sender's next PSN goes on the next slot with room; below CREDIT, its message within 1,024 of the lowest
not known to be delivered, not held by NAK or resync, its bytes read (R216, R220, R222, R234). With every slot down the connection
holds its packets (R223). -/
def State.sendNext (s : State) (c : Nat) : State :=
  let x := s.conn c
  if x.state ≠ .rts ∨ x.nakHold ∨ x.resync.isSome ∨ x.sendPsn = x.nextPsn ∨ !seqLt x.sendPsn x.credit then s
  else match s.msgOfPsn c x.sendPsn with
    | none => s
    | some m =>
      if m.missing ≠ 0 ∨ 1024 ≤ sdiff m.msn x.firstMsn then s
      else
        let o := (sdiff x.sendPsn m.psn).toNat * s.seg c
        match s.pickSlot c x.lastSlot (min (s.seg c) (m.wireLen - o)) with
        | none => if (s.nextUp c x.lastSlot).isNone && x.downSince.isNone then s.setConn c { x with downSince := some s.now } else s
        | some k =>
          let t := s.putPacket c x.sendPsn k 1 false
          t.setConn c { t.conn c with sendPsn := seqAdd x.sendPsn 1, downSince := none }

/-- A lost PSN sent again with RETX = 1 on the next slot after its own that has room, else on the same slot; with every slot
down it stays marked lost (R220, R223). A hold by NAK or a resync sends it later (R220, R222). One that was refused by NAK = 1 is not
counted toward RETRY_LIMIT (R250). -/
def State.resend (s : State) (c psn : Nat) : State :=
  let x := s.conn c
  if x.nakHold ∨ x.resync.isSome then s
  else match x.flights.find? (fun f => f.psn == psn) with
  | none => s
  | some f =>
    let tries := if f.refused then f.tries else f.tries + 1
    let k := match s.pickSlot c f.slot f.bytes with
      | some k => some k
      | none => if s.slotUp c f.slot then some f.slot else s.nextUp c f.slot
    match k with
    | some k => (s.putPacket c psn k tries true).inc Reg.RKT_RETX_COUNT 1
    | none => s.setConn c { x with downSince := x.downSince.getD s.now }

/-! ## Round-trip time and congestion windows (R221, R225) -/

/-- RTO of a connection in ns (R221). -/
def State.rto (s : State) (c : Nat) : Nat :=
  match (s.conn c).srtt with
  | none => 64000
  | some t => max (s.rd Reg.RKT_TIMING_RTO_MIN * 1000) (min (t + 4 * (s.conn c).rttvar) (s.rd Reg.RKT_TIMING_RTO_MAX * 1000000))

/-- A round-trip sample with gains 1/8 and 1/4 (R221); the first sample sets srtt (notes/assumptions/14.md). -/
def Conn.sample (x : Conn) (rtt : Nat) : Conn :=
  match x.srtt with
  | none => { x with srtt := some rtt, rttvar := rtt / 2 }
  | some t =>
    let d : Int := (rtt : Int) - t
    { x with srtt := some ((t : Int) + d / 8).toNat, rttvar := ((x.rttvar : Int) + (d.natAbs - x.rttvar) / 4).toNat }

/-- R225, once for a slot on which an ACK acknowledged bytes. Times in ns; u32 arithmetic wraps (R9). -/
def PathSlot.onAck (q : PathSlot) (now srtt acked ce rtt target seg cmax : Nat) : PathSlot :=
  let q1 :=
    if q.winEnd ≤ now then
      let f : Int := sext 32 (q.ceWin * 1024 / max q.ackedWin 1 % 2 ^ 32)
      let alpha := trunc 32 (sext 32 q.alpha + Int.tdiv (sext 32 (trunc 32 (f - sext 32 q.alpha))) 16)
      let cw :=
        if q.ceWin ≠ 0 then trunc 32 ((q.cwnd : Int) - (q.cwnd * alpha / 2048 % 2 ^ 32 : Nat))
        else if target < q.minRtt then q.cwnd - q.cwnd / 8
        else q.cwnd
      { q with alpha := alpha, cwnd := max cw seg, ackedWin := 0, ceWin := 0, minRtt := 0xffffffff, winEnd := now + srtt }
    else q
  let q2 := { q1 with ackedWin := (q1.ackedWin + acked) % 2 ^ 32, ceWin := (q1.ceWin + ce) % 2 ^ 32, minRtt := min q1.minRtt rtt }
  if ce = 0 ∧ rtt ≤ target then { q2 with cwnd := min ((q2.cwnd + seg * acked / max q2.cwnd 1 % 2 ^ 32) % 2 ^ 32) cmax } else q2

/-- The window with which a slot of a connection starts: CWND_INIT, between SEG and CWND_MAX (R225). -/
def State.cwndStart (s : State) (c : Nat) : Nat :=
  max (s.seg c) (min (s.rd Reg.RKT_CC_CWND_INIT * 4096) (s.rd Reg.RKT_CC_CWND_MAX * 4096))

/-- A declared loss halves the slot's window, at most once per round trip, never below SEG (R220, R225). -/
def PathSlot.halve (q : PathSlot) (now srtt seg : Nat) : PathSlot :=
  if now < q.halvedTill then q else { q with cwnd := max (q.cwnd / 2) seg, halvedTill := now + srtt }

/-- RESYNC is sent, on a slot that is up: the new epoch, NEW_PSN and FIRST_MSN (R222 step 2); with every slot down it waits (R223). -/
def State.sendResync (s : State) (c : Nat) : State :=
  let x := s.conn c
  match s.nextUp c x.lastSlot with
  | none => s.setConn c { x with resync := some (x.resync.getD 0), downSince := some (x.downSince.getD s.now) }
  | some k =>
  let pkt : RktPkt := { RktPkt.plain 0xC [x.resyncPsn, x.firstMsn] with
    enc := s.on (Reg.RKT_CONN_ENC c), path := k, cepoch := x.epoch, dstConn := s.rd (Reg.RKT_CONN_PEER_CONN c) }
  (s.setConn c { x with resync := some (x.resync.getD 0 + 1), resyncAt := s.now }).sealSend c k x.part pkt

/-- Resync starts: the next epoch, and NEW_PSN, the next PSN of the sender (R222 step 1). -/
def State.startResync (s : State) (c : Nat) : State :=
  let t := (s.connEpoch c (((s.conn c).epoch + 1) % 256)).rktEvent Reg.RKT_EVENT_RESYNC
  (t.setConn c { t.conn c with resyncPsn := (t.conn c).nextPsn }).sendResync c

/-- A PSN declared lost on its slot: the window halved and the PSN sent again (R220); after RETRY_LIMIT transmissions a resync starts
(R221). -/
def State.declareLost (s : State) (c psn : Nat) : State :=
  let x := s.conn c
  match x.flights.find? (fun f => f.psn == psn) with
  | none => s
  | some f =>
    let x1 := { (x.setSlot f.slot ((x.slot f.slot).halve (s.now / 4) (x.srtt.getD 64000) (s.seg c))) with
      flights := x.flights.map (fun g => if g.psn == psn then { g with lost := true } else g) }
    let t := s.setConn c x1
    if x.resync.isSome then t
    else if s.rd Reg.RKT_RETRY_RETRY_LIMIT ≤ f.tries then t.startResync c
    else t.resend c psn

/-! ## Acknowledgements sent (R219) -/

/-- Receiver window (R217). -/
def State.win (s : State) : Nat := s.rd Reg.RKT_RETRY_WIN

/-- An ACK packet of a connection, with a NAK code (Table 8.6), on the slot of its cause or the next that is up; with every slot down it
waits (R219, R223). PATH names the slot of the cause, whose CE_BYTES it carries, also where the ACK goes on another (DESIGN CHOICE,
notes/assumptions/73.md). -/
def State.sendAck (s : State) (c nak : Nat) : State :=
  let x := s.conn c
  match if s.slotUp c x.ackSlot then some x.ackSlot else s.nextUp c x.ackSlot with
  | none => s.setConn c { x with ackHeld := some nak }
  | some slot =>
  let sack := ((List.range 64).map (fun i => if seqAdd x.cum (1 + i) ∈ x.got then 2 ^ i else 0)).sum
  let credit := seqAdd x.cum s.win
  let pkt : RktPkt :=
    { RktPkt.plain 7 [x.cum, sack, credit, x.dlv, x.ackEcho, (x.slot x.ackSlot).ceBytes, nak] with
      enc := s.on (Reg.RKT_CONN_ENC c), path := x.ackSlot, cepoch := x.epoch, dstConn := s.rd (Reg.RKT_CONN_PEER_CONN c) }
  let x1 := { (x.setSlot x.ackSlot { (x.slot x.ackSlot) with ceBytes := 0 }) with ackHeld := none, sinceAck := 0, firstUnacked := none, creditSent := credit }
  (s.setConn c x1).sealSend c slot x.part pkt

/-! ## Regions and atomics (R235, R238, R244) -/

/-- R238: the region entry that a key opens to an operation (access bit `right`) on queue pair `qp`, for `n` bytes at `addr`. -/
def State.keyCheck (s : State) (p key right qp addr n : Nat) : Option Nat :=
  let i := bits key 0 18
  let r := s.region p i
  if decide (i < s.regionCount p) && bits key 18 6 == 0 && r.valid && r.gen == bits key 24 8 && bit r.rights right &&
      (!bit r.rights 3 || r.qp == qp) && (n == 0 || decide (addr + n ≤ r.len)) then some i else none

/-- What a message binds to: a region entry as it stands (R238, R239). -/
def State.bindTo (s : State) (p i : Nat) : Bound :=
  let r := s.region p i
  { idx := i, gen := r.gen, base := r.base, len := r.len, slice := r.slice }

/-- The local address of a byte offset in a bound region (R236). -/
def Bound.addr (b : Bound) (addr : Nat) : Nat := (b.base + addr) % 2 ^ 64

/-- A key names the region that a message is bound to (R238, R239). -/
def Bound.named (b : Bound) (key : Nat) : Bool := bits key 0 18 == b.idx && bits key 18 6 == 0 && bits key 24 8 == b.gen

/-- The new value of an atomic (Table 9.6). -/
def atomicNew (op w old operand compare : Nat) : Nat :=
  let m := 2 ^ (8 * w)
  let sg (v : Nat) : Int := sext (8 * w) v
  match op with
  | 1 => (old + operand) % m
  | 2 => if old = compare % m then operand % m else old
  | 3 => operand % m
  | 4 => if sg old < sg operand then operand % m else old
  | 5 => if sg operand < sg old then operand % m else old
  | 6 => Nat.land old (operand % m)
  | 7 => Nat.lor old (operand % m)
  | _ => old

/-- A refusal with NAK = 2: both ends enter ERROR (R233, R238). -/
def State.nak2 (s : State) (c code info : Nat) : State := (s.sendAck c 2).connError c none 4 code info

/-! ## Delivery (R218, R242 to R251) -/

/-- A READ or ATOMIC of a peer whose bytes cannot be read delivers nothing: the error is recorded and the peer refused (R135;
notes/assumptions/68.md). -/
def State.refuseRead (s : State) (c p a n : Nat) : State := (s.noteVia p (a % 2 ^ 48) n).nak2 c 7 c

/-- The local address that word `i` of a bound message's extension names as an offset (R238). -/
def RxMsg.place (m : RxMsg) (i : Nat) : Nat := m.bound.elim 0 (fun b => b.addr (m.ext.getD i 0))

/-- Bytes of an ATOMIC's operand (Table 9.6). -/
def RxMsg.atomicLen (m : RxMsg) : Nat := if bit (m.ext.getD 0 0) 8 then 8 else 4

/-- The READ or ATOMIC with an MSN whose answer is still to come. -/
def Conn.asked (x : Conn) (msn : Nat) : Option TxMsg := x.msgs.find? (fun r => r.msn == msn && (r.typ == 3 || r.typ == 5) && !r.ended)

/-- Effects of a message delivered in MSN order. -/
def State.deliver (s : State) (c : Nat) (m : RxMsg) : State :=
  let x := s.conn c
  let p := x.part
  match m.typ with
  | 1 =>
    let q := s.queue p 1 x.qp
    if !m.imm then s
    else
      let imm := m.ext.getD 2 0
      let t := s.when (bit q.w4 19) (fun t => t.bump p (0x200 + bits q.w4 13 6))
      t.when (bit q.w4 12) (fun t => t.postCqe p (bits q.w4 0 12)
        { status := 0, kind := 2, op := 1, imm := true, queue := x.qp, index := 0, info := m.len, user := imm })
  | 2 =>
    match m.recv with
    | none => s
    | some (key, _, _, _) =>
      s.endRecv p x.qp key 0 m.len (if m.imm then some (m.ext.getD 0 0) else none)
  | 3 =>
    let a := m.place 1
    let n := m.ext.getD 2 0
    if !s.payloadOk p a n then s.refuseRead c p a n
    else s.handMessage c { (TxMsg.new 4 [m.msn] n (s.localRead p a n) .response a (m.bound.elim 0x7FF (·.slice))) with bound := m.bound } (if a < 2 ^ 63 then some a else none)
  | 5 =>
    let o := m.ext.getD 0 0
    let w := m.atomicLen
    let a := m.place 2
    let old := leNat (s.localRead p a w)
    let t := s.localWrite .other p 0x7FF a (leBytes w (atomicNew (bits o 0 8) w old (m.ext.getD 3 0) (m.ext.getD 4 0)))
    if !s.payloadOk p a w then s.refuseRead c p a w
    else t.handMessage c (TxMsg.new 6 [m.msn, old] 0 [] .response 0 0x7FF) none
  | 4 | 6 =>
    match x.asked (m.ext.getD 0 0) with
    | none => s
    | some r =>
      let t := s.setConn c { x with msgs := x.msgs.map (fun y => if y.msn == r.msn then { y with ended := true } else y) }
      t.endOwner r.owner 0 (if m.typ = 6 then m.ext.getD 1 0 % 2 ^ 32 else 0)
  | _ => s

/-- The chunk of the write interlock that a complete message must wait for before its delivery: of an ATOMIC that has not executed, the
word's (R151, R244). -/
def State.mustHold (s : State) (c : Nat) (m : RxMsg) : Option (Nat × Nat) :=
  if m.typ ≠ 5 ∨ m.place 2 < 2 ^ 63 then none
  else (s.mapFor (s.conn c).part true (m.place 2 % 2 ^ 48)).bind (fun a => s.ilkHit a m.atomicLen)

/-- Completed messages delivered in MSN order, each once every byte of it is in memory (R245): one of which the interlock holds a write
waits, and so does an ATOMIC whose word lies in an unreached chunk, which is then held whole (R244). `fuel` bounds the walk by the
number of open messages. -/
def State.deliverAll (s : State) (c : Nat) : Nat → State
  | 0 => s
  | fuel + 1 =>
    let x := s.conn c
    match x.opens.find? (fun m => m.msn == x.dlv && m.complete) with
    | none => s
    | some m =>
      if s.memSt.held.any (fun h => decide (h.who = .msg c m.msn)) then s
      else match s.mustHold c m with
        | some (r, k) => s.holdWrite { region := r, chunk := k, since := s.now, bytes := [], who := .msg c m.msn }
        | none =>
          let t := s.setConn c { x with opens := x.opens.filter (fun y => y.msn != m.msn), dlv := seqAdd x.dlv 1, kept := x.kept.filter (fun k => k.1 != m.msn) }
          State.deliverAll (t.deliver c m) c fuel

/-! ## Arriving packets (R214, R217, R219, R238, R250, R256) -/

/-- A TYPE that Table 8.5 reserves. -/
def reservedType (typ : Nat) : Bool := typ == 0 || decide (13 ≤ typ)

/-- The packet is malformed (R214): its version, a reserved TYPE or field, its length, offset or payload. -/
def RktPkt.malformed (k : RktPkt) (seg : Nat) : Bool :=
  k.ver != 1 || reservedType k.typ || k.rsv || decide (2 ^ 31 < k.msgLen) || k.offset % seg != 0 ||
  decide (k.offset ≠ 0 ∧ k.msgLen ≤ k.offset) || k.payload.length != min seg (k.msgLen - k.offset)

/-- SEG of the connection that a packet names; the least for one that names none, whose OFFSET and payload must be right for some
connection (R214, notes/assumptions/73.md). -/
def State.segOf (s : State) (k : RktPkt) : Nat := if k.dstConn < 16384 then s.seg k.dstConn else 1024

/-- The checks of R214 on a packet of a connection up to its epoch: the field of RKT_DROP that counts it, none when it passes. `stale`
says that its CEPOCH is not one the packet may carry. -/
def State.refused (s : State) (k : RktPkt) (stale : Bool) : Option Fld :=
  let c := k.dstConn
  let peer := s.rd (Reg.RKT_CONN_PEER c)
  if k.malformed (s.segOf k) then some Reg.RKT_DROP_MALFORMED
  else if decide (16384 ≤ c) || !s.on (Reg.RKT_CONN_EN c) || !s.on (Reg.RKT_PEER_EN peer) || k.srcAddr != s.rd (Reg.RKT_PEER_ADDR peer) ||
      k.srcV6 != s.on (Reg.RKT_PEER_V6 peer) then some Reg.RKT_DROP_NO_CONN
  else if (s.conn c).state ≠ .rts ∨ stale then some Reg.RKT_DROP_STALE
  else none

/-- A packet of a connection that passes R214, its payload opened, is taken by `f`; any other is dropped and counted. -/
def State.receive (s : State) (k : RktPkt) (stale : Bool) (f : State → Nat → RktPkt → State) : State :=
  match s.refused k stale with
  | some r => s.rktDrop r
  | none =>
    let s := s.openCore k.dstConn
    match s.openPkt k.dstConn k with
    | none => s.rktDrop Reg.RKT_DROP_AUTH
    | some k => f s k.dstConn k

/-- An open message for a packet: what R238 and R250 answer. -/
inductive Opening where
  | ok (m : RxMsg) (takes : Bool)
  | refuse
  | noRecv
  | tooLong (w : Wqe)
deriving DecidableEq, Repr

/-- The message a packet opens: bound to its region entry, or to a RECV (R238, R239, R250). -/
def State.openMsg (s : State) (c : Nat) (k : RktPkt) : Opening :=
  let x := s.conn c
  let base : RxMsg := { msn := k.msn, typ := k.typ, len := k.msgLen, placed := 0, ext := k.ext, imm := k.imm, bound := none, recv := none, complete := false, since := s.count }
  let bind (o : Option Nat) : Opening := match o with
    | some i => .ok { base with bound := some (s.bindTo x.part i) } false
    | none => .refuse
  match k.typ with
  | 1 => bind (s.keyCheck x.part (k.ext.getD 0 0) 0 x.qp (k.ext.getD 1 0 + k.offset) k.payload.length)
  | 3 => bind (s.keyCheck x.part (k.ext.getD 0 0) 1 x.qp (k.ext.getD 1 0) (k.ext.getD 2 0))
  | 5 =>
    let w := if bit (k.ext.getD 0 0) 8 then 8 else 4
    if k.ext.getD 2 0 % w ≠ 0 then .refuse else bind (s.keyCheck x.part (k.ext.getD 1 0) 2 x.qp (k.ext.getD 2 0) w)
  | 2 =>
    match x.kept.find? (fun r => r.1 == k.msn) with
    | some r => .ok { base with recv := some r.2 } false
    | none =>
      let taken := x.opens.filterMap (fun m => m.recv.map Prod.fst) ++ x.kept.map (fun r => r.2.1)
      match (s.recvsOf x.part x.qp).find? (fun w => decide (w.stage = .waiting) && !(w.key ∈ taken)) with
      | none => .noRecv
      | some w =>
        let len := w.words.getD 6 0
        let la := (w.words.getD 4 0 + w.words.getD 5 0 * 2 ^ 32 + w.firing % 2 * w.words.getD 7 0) % 2 ^ 64
        if len < k.msgLen then .tooLong w
        else .ok { base with recv := some (w.key, la, len, w.words.getD 3 0) } true
  | _ => .ok base false

/-- The region that a packet of a WRITE reaches: the one its message is bound to when its key names it, also after an INVAL (R239),
else the one its own key opens (R238); none when a check of R238 fails. -/
def State.writeBound (s : State) (c : Nat) (m : RxMsg) (k : RktPkt) : Option Bound :=
  let x := s.conn c
  let a := k.ext.getD 1 0 + k.offset
  match m.bound with
  | none => none
  | some b =>
    if b.named (k.ext.getD 0 0) then (if k.payload.isEmpty ∨ a + k.payload.length ≤ b.len then some b else none)
    else (s.keyCheck x.part (k.ext.getD 0 0) 0 x.qp a k.payload.length).map (s.bindTo x.part)

/-- Where the bytes of a packet go: slice, local address and bytes, none for a message that places nothing. An ATOMIC_RESP places its
value as soon as it arrives (R217, R245). An answer whose request has ended places nothing. -/
def State.placeAt (s : State) (c : Nat) (m : RxMsg) (k : RktPkt) : Option (Nat × Nat × List Nat) :=
  let x := s.conn c
  match m.typ with
  | 1 => (s.writeBound c m k).map (fun b => (b.slice, b.addr (k.ext.getD 1 0 + k.offset), k.payload))
  | 2 => m.recv.map (fun r => ((s.queue x.part 1 x.qp).slice, r.2.1 + k.offset, k.payload))
  | 4 => ((x.asked (m.ext.getD 0 0)).filter (fun r => r.owner != .gone)).map (fun r => (r.slice, r.laddr + k.offset, k.payload))
  | 6 => ((x.asked (m.ext.getD 0 0)).filter (fun r => r.owner != .gone)).map (fun r => (r.slice, r.laddr, leBytes (if bit (r.ext.getD 0 0) 8 then 8 else 4) (m.ext.getD 1 0)))
  | _ => none

/-- CUM past the PSNs received, and the PSNs above it that remain (R217); `fuel` bounds the walk by the window. -/
def advanceCum (cum : Nat) (got : List Nat) : Nat → Nat × List Nat
  | 0 => (cum, got)
  | fuel + 1 => if cum ∈ got then advanceCum (seqAdd cum 1) (got.filter (· != cum)) fuel else (cum, got)

/-- What R219 makes of a packet taken: an ACK now, or the delay started. -/
def State.maybeAck (s : State) (c : Nat) (k : RktPkt) (hole advanced : Bool) : State :=
  let x := s.conn c
  let delay := s.rd Reg.RKT_TIMING_ACK_DELAY * 500
  let holeNow := hole && decide (x.lastHoleAck + delay ≤ s.now)
  if k.ackReq || decide (s.rd Reg.RKT_TIMING_ACK_COALESCE ≤ x.sinceAck) || holeNow || advanced then
    (s.setConn c { x with lastHoleAck := if holeNow then s.now else x.lastHoleAck }).sendAck c 0
  else s.setConn c { x with firstUnacked := some (x.firstUnacked.getD s.now) }

/-- Delivery goes as far as it can, and the INVALs that waited for what was delivered complete; the second part says that CREDIT may
have advanced by an eighth of WIN (R218, R219, R239, R245). -/
def State.deliverOn (s : State) (c : Nat) : State × Bool :=
  let x := s.conn c
  let t := s.deliverAll c x.opens.length
  (t, x.dlv != (t.conn c).dlv && decide ((s.win : Int) ≤ 8 * sdiff (seqAdd (t.conn c).cum s.win) (t.conn c).creditSent))

/-- A write of a connection's message that the interlock held has gone ahead: what waited for it is delivered (R244, R245). -/
def State.deliverNow (s : State) (c : Nat) : State :=
  let r := s.deliverOn c
  (r.1.when (r.2 && decide ((r.1.conn c).state = .rts)) (fun t => t.sendAck c 0)).settleInvals (s.conn c).part

/-- A packet of an open or opening message is placed at once and counted once; the message may complete and deliver
(R217, R218). -/
def State.placePacket (s : State) (c : Nat) (m : RxMsg) (k : RktPkt) : State :=
  let t := match s.placeAt c m k with
    | some (sl, a, bs) => s.localWrite (.msg c m.msn) (s.conn c).part sl a bs
    | none => s
  let x := t.conn c
  let m1 := { m with placed := m.placed + k.payload.length, complete := decide (m.placed + k.payload.length = m.len) }
  let hole := k.psn != x.cum
  let w := advanceCum x.cum (x.got ++ [k.psn]) (x.got.length + 1)
  let x1 := { x with
    opens := x.opens.filter (fun y => y.msn != m.msn) ++ [m1]
    cum := w.1
    got := w.2
    sinceAck := x.sinceAck + 1 }
  let r := (t.setConn c x1).deliverOn c
  if (r.1.conn c).state ≠ ConnState.rts then r.1.settleInvals x.part
  else (r.1.maybeAck c k hole r.2).settleInvals x.part

/-- The transport operations of a partition have ended: every message handed over has completed, and every open inbound one has been
delivered or discarded (R259). -/
def State.transportEnded (s : State) (p : Nat) : Bool :=
  s.conns.all (fun e => e.2.part != p || (e.2.msgs.all (·.ended) && e.2.opens.isEmpty))

/-- The partition's transport operations have ended for a frozen partition: arriving packets are answered with NAK = 1
(R259). -/
def State.transportFrozen (s : State) (p : Nat) : Bool :=
  decide (s.partState p = .frozen) || (decide (s.partState p = .freezing) && s.transportEnded p)

/-- A packet that passed R214 counts in CE_BYTES of its slot when it is marked, and unless it is dropped an ACK that it causes goes on
its slot with its TSTAMP (R219, Table 8.6). -/
def Conn.heard (x : Conn) (k : RktPkt) (causes : Bool) : Conn :=
  let ps := x.slot k.path
  let y := x.setSlot k.path { ps with ceBytes := (ps.ceBytes + (if k.ce then k.payload.length else 0)) % 2 ^ 32 }
  if causes then { y with ackSlot := k.path, ackEcho := k.tstamp } else y

/-- A good data packet is taken (R215 to R218, R220, R243): its place in the sequence, its message, what it is answered with. -/
def State.rktTaken (s : State) (c : Nat) (k : RktPkt) : State :=
  let x := s.conn c
  let d := sdiff k.msn x.dlv
  let off := sdiff k.psn x.cum
  let frozen := s.transportFrozen x.part
  let old := off < 0 || k.psn ∈ x.got
  if x.opens.any (fun m => m.msn == k.msn && m.len != k.msgLen) then (s.rktDrop Reg.RKT_DROP_MALFORMED).asyncEvent x.part 7 x.qp c
  else
  let s := s.setConn c (x.heard k (frozen || old || decide (off < (s.win : Int))))
  let x := s.conn c
  if frozen then s.sendAck c 1
  else if old then (s.inc Reg.RKT_DUP_COUNT 1).sendAck c 0
  else if (s.win : Int) ≤ off then s
  else if d < -1024 then s.nak2 c 7 c
  else if d < 0 then
    let w := advanceCum x.cum (x.got ++ [k.psn]) (x.got.length + 1)
    (s.setConn c { x with cum := w.1, got := w.2 }).sendAck c 0
  else match x.opens.find? (fun m => m.msn == k.msn) with
    | some m =>
      if m.typ = 1 && (s.writeBound c m k).isNone then
        s.nak2 c 8 (k.ext.getD 0 0)
      else s.placePacket c m k
    | none =>
      match s.openMsg c k with
      | .ok m _ => s.placePacket c m k
      | .refuse => s.nak2 c 8 (if k.typ = 5 then k.ext.getD 1 0 else k.ext.getD 0 0)
      | .noRecv => s.sendAck c 1
      | .tooLong w =>
        (s.endRecv x.part x.qp w.key 7 0 none).nak2 c 7 c

/-- RKT_PACKET_RECEIVED for a sequenced type: the checks of R214 in order, duplicates of R217 and R256, the checks and
placement of R238 and R250, and the acknowledgement of R219. -/
def State.rktReceive (s : State) (k : RktPkt) : State :=
  s.receive k (k.cepoch != (s.conn k.dstConn).epoch) State.rktTaken

/-! ## Acknowledgements received (R220 to R222, R233, R242) -/

/-- A PSN is acknowledged by CUM_PSN and SACK (R220). -/
def ackCovers (cum sack psn : Nat) : Bool :=
  seqLt psn cum || (decide (0 < sdiff psn cum) && decide (sdiff psn cum ≤ 64) && bit sack ((sdiff psn cum).toNat - 1))

/-- The flights after an ACK, with those newly acknowledged marked. -/
def Conn.markAcked (x : Conn) (cum sack : Nat) : Conn :=
  { x with flights := x.flights.map (fun f => if ackCovers cum sack f.psn then { f with acked := true } else f) }

/-- PSNs that an ACK shows lost: one sent later on the same slot, REORDER or more PPSNs higher, is acknowledged (R220). -/
def Conn.lostBy (x : Conn) (reorder : Nat) : List Nat :=
  (x.flights.filter (fun f => !f.acked && !f.lost && x.flights.any (fun g => g.acked && g.slot == f.slot &&
    decide ((reorder : Int) ≤ sext 16 ((g.ppsn + 65536 - f.ppsn) % 65536))))).map (·.psn)

/-- The connection's messages renumbered from a new PSN and sent again from offset 0 (R222 step 3). -/
def renumber (seg : Nat) : Nat → List TxMsg → List TxMsg × Nat
  | psn, [] => ([], psn)
  | psn, m :: r =>
    let t := renumber seg (seqAdd psn (packetsOf seg m.wireLen)) r
    ({ m with psn := psn } :: t.1, t.2)

/-- The message is not needed any more: its owner knows its end, its delivery is known, and all its packets are sent and
acknowledged. -/
def Conn.retired (x : Conn) (seg : Nat) (m : TxMsg) : Bool :=
  let n := packetsOf seg m.wireLen
  m.ended && seqLt m.msn x.firstMsn && decide ((n : Int) ≤ sdiff x.sendPsn m.psn) &&
    !x.flights.any (fun f => !f.acked && decide (0 ≤ sdiff f.psn m.psn) && decide (sdiff f.psn m.psn < n))

/-- Requests whose messages the peer has delivered complete; READ and ATOMIC wait for their answers (R242). -/
def State.delivered (s : State) (c dlv : Nat) : State :=
  let x := s.conn c
  let isDone (m : TxMsg) : Bool := seqLt m.msn dlv && !m.ended
  let waits (m : TxMsg) : Bool := m.typ == 3 || m.typ == 5
  let y := { x with
    msgs := x.msgs.map (fun m => if isDone m then { m with answered := true, ended := !waits m } else m)
    firstMsn := if seqLt x.firstMsn dlv then dlv else x.firstMsn }
  let t := s.setConn c { y with msgs := y.msgs.filter (fun m => !y.retired (s.seg c) m) }
  (x.msgs.filter (fun m => isDone m && !waits m)).foldl (fun t m => t.endOwner m.owner 0 0) t

/-- The answer to a RESYNC: every message from FIRST_MSN on is sent again from offset 0, with new PSNs from NEW_PSN (R222 step 3). -/
def State.resyncAnswered (s : State) (c dlv credit : Nat) : State :=
  let x := s.conn c
  let r := renumber (s.seg c) x.resyncPsn (x.msgs.filter (fun m => !seqLt m.msn x.firstMsn))
  (s.setConn c { x with
    resync := none, msgs := x.msgs.filter (fun m => seqLt m.msn x.firstMsn && !m.ended) ++ r.1, flights := [], sendPsn := x.resyncPsn,
    nextPsn := r.2, credit := credit }).delivered c dlv

/-- What the NAK code of an ACK does (Table 8.6): 1 holds the connection, its packet to be sent again after the hold, and after RNR_LIMIT
holds in a row the connection enters ERROR (R220, R250); 2 puts it in ERROR (R233). `echo` is the TSTAMP of the packet refused. -/
def State.nakTaken (s : State) (c nak echo : Nat) : State :=
  let y := s.conn c
  let hit (f : Flight) : Bool := f.sentAt / 4 % 2 ^ 32 == echo && !f.acked
  let cause := ((y.flights.find? hit).bind (fun f => (s.msgOfPsn c f.psn).map (·.msn))).getD y.firstMsn
  if nak = 1 then
    let lim : Nat := s.rd (Reg.RKT_CONN_RNR_LIMIT c)
    if lim != 15 && decide (lim ≤ y.rnrCount) && !y.nakHold then s.connError c (some cause) 6 9 c
    else s.setConn c { y with
      nakHold := true, nakAt := s.now, rnrCount := if y.nakHold then y.rnrCount else y.rnrCount + 1
      flights := y.flights.map (fun f => if hit f then { f with lost := true, refused := true } else f) }
  else if nak = 2 then s.connError c (some cause) 4 7 c
  else s.when (!y.nakHold) (fun t => t.setConn c { y with rnrCount := 0 })

/-- A good acknowledgement is taken (R219 to R222). -/
def State.ackTaken (s : State) (c : Nat) (k : RktPkt) : State :=
  let x := s.conn c
  let cum := k.ext.getD 0 0
  let sack := k.ext.getD 1 0
  let dlv := k.ext.getD 3 0
  let echo := k.ext.getD 4 0
  let ce := k.ext.getD 5 0
  let nak := k.ext.getD 6 0
  match x.resync with
  | some _ => (s.resyncAnswered c dlv (k.ext.getD 2 0)).nakTaken c nak echo
  | none =>
    let rtt := (s.ns + 2 ^ 32 - echo) % 2 ^ 32
    let fresh (i : Nat) : Nat := ((x.flights.filter (fun f => f.slot == i && !f.acked && ackCovers cum sack f.psn)).map (·.bytes)).sum
    let x1 := (List.range 16).foldl (fun y i =>
      if x.flights.any (fun f => f.slot == i && !f.acked && ackCovers cum sack f.psn) && decide (0 < fresh i) then
        y.setSlot i ((y.slot i).onAck (s.now / 4) (x.srtt.getD 64000) (fresh i) (if k.path = i then ce else 0) rtt
          (s.rd Reg.RKT_CC_TARGET * 1000) (s.seg c) (s.rd Reg.RKT_CC_CWND_MAX * 4096))
      else y) x
    let x2 := (if echo ∈ x.retxStamps then x1 else x1.sample rtt).markAcked cum sack
    let x3 := { x2 with credit := k.ext.getD 2 0 }
    let lost := x3.lostBy (s.rd Reg.RKT_TIMING_REORDER)
    let t := s.setConn c x3
    let t := lost.foldl (fun t psn => t.declareLost c psn) t
    let t := t.setConn c { t.conn c with flights := (t.conn c).flights.filter (fun f => !f.acked || seqLt cum f.psn) }
    -- path entries that carried an acknowledged packet have answered (R223)
    let t := (List.range 16).foldl (fun (t : State) i =>
      t.when (x.flights.any (fun f => f.slot == i && !f.acked && ackCovers cum sack f.psn)) (fun t => t.setPath (t.pathOf c i) { t.path (t.pathOf c i) with rtos := 0 })) t
    (t.delivered c dlv).nakTaken c nak echo

/-- ACK_RECEIVED: acknowledgements, windows, losses, credit, deliveries, NAKs and the answer to a RESYNC (R220 to R225). -/
def State.ackReceive (s : State) (k : RktPkt) : State := s.receive k (k.cepoch != (s.conn k.dstConn).epoch) State.ackTaken

/-! ## Timers (R219 to R223) -/

/-- Connections in RTS with a slot on a path table entry (R215). -/
def State.pathUsers (s : State) (i : Nat) : List (Nat × Conn) :=
  s.conns.filter (fun e => decide (e.2.state = .rts) && decide (s.rd (Reg.RKT_CONN_PATH_BASE e.1) ≤ i) &&
    decide (i ≤ s.rd (Reg.RKT_CONN_PATH_BASE e.1) + s.rd (Reg.RKT_CONN_PATH_N e.1)))

/-- A path table entry is marked down: RKT_PATH.UP 0, and its events (R223). -/
def State.pathMark (s : State) (i : Nat) : State :=
  let t := ((s.wr (Reg.RKT_PATH_UP i) 0).setPath i { s.path i with probeAt := s.now }).rktEvent Reg.RKT_EVENT_PATH_DOWN
  (((t.pathUsers i).map (fun e => e.2.part)).eraseDups).foldl (fun t p => t.asyncEvent p 3 0xFFFF i) t

/-- Every PSN in flight on a path table entry is lost, and sent again on slots that are up (R223). -/
def State.pathLose (s : State) (i : Nat) : State :=
  (s.pathUsers i).foldl (fun t e =>
    let slot := i - s.rd (Reg.RKT_CONN_PATH_BASE e.1)
    ((e.2.flights.filter (fun f => f.slot == slot && !f.acked && !f.lost)).map (·.psn)).foldl (fun t psn => t.declareLost e.1 psn) t) s

/-- Path table entries that are up go down: all of them first, then what was in flight on them is sent again elsewhere (R223). -/
def State.pathsDown (s : State) (l : List Nat) : State :=
  let l := l.filter (fun i => s.on (Reg.RKT_PATH_UP i))
  l.foldl State.pathLose (l.foldl State.pathMark s)

/-- A path table entry goes down (R223). -/
def State.pathDown (s : State) (i : Nat) : State := s.pathsDown [i]

/-- The RTO of a PSN in flight (R219, R222, R223). -/
def State.retransmit (s : State) (c psn : Nat) (f : Flight) : State :=
  let e := s.pathOf c f.slot
  let t := (s.setPath e { s.path e with rtos := (s.path e).rtos + 1 }).declareLost c psn
  if s.rd Reg.RKT_RETRY_PATH_FAIL ≤ (s.path e).rtos + 1 then t.pathDown e else t

/-- RTO_EXPIRY: a PSN unacknowledged for RTO, whose end is then, is lost and sent again, a resync starts when it has been sent
RETRY_LIMIT times; a RESYNC without its answer is sent again up to RETRY_LIMIT times, then the connection enters ERROR (R220 to R223). -/
def State.rtoExpire (s : State) (c psn : Nat) : State :=
  let x := s.conn c
  let limit := s.rd Reg.RKT_RETRY_RETRY_LIMIT
  if x.state ≠ .rts then s
  else match x.resync with
    | some n =>
      if n = 0 then s
      else
        let t := s.atTime (x.resyncAt + 4 * s.rto c)
        if limit < n then t.connError c (some x.firstMsn) 5 6 c else t.sendResync c
    | none =>
      match x.flights.find? (fun f => f.psn == psn && !f.acked && !f.lost) with
      | none => s
      | some f => (s.atTime (f.sentAt + 4 * s.rto c)).retransmit c psn f

/-- A good RESYNC of a newer epoch is taken (R222). -/
def State.resyncTaken (s : State) (c : Nat) (k : RktPkt) : State :=
  let x := s.conn c
  let kept := x.opens.filterMap (fun m => m.recv.map (fun r => (m.msn, r)))
  let t := (s.dropHeldOf c).setConn c { x with opens := [], got := [], cum := k.ext.getD 0 0, ackSlot := k.path, ackEcho := k.tstamp, kept := x.kept ++ kept }
  ((((t.connEpoch c k.cepoch).rktEvent Reg.RKT_EVENT_RESYNC).asyncEvent x.part 0x0C x.qp c).sendAck c 0).settleInvals x.part

/-- RESYNC_RECEIVED: a newer epoch is taken, undelivered open messages are discarded, CUM becomes NEW_PSN, and the answer
is an ACK in the new epoch (R222). A RECV that a discarded SEND took stays with its MSN (R250). -/
def State.resyncReceive (s : State) (k : RktPkt) : State :=
  let x := s.conn k.dstConn
  let newer := decide (0 < (k.cepoch + 256 - x.epoch) % 256) && decide ((k.cepoch + 256 - x.epoch) % 256 < 128)
  s.receive k (!newer && k.cepoch != x.epoch) (fun t c k => if newer then t.resyncTaken c k else (t.setConn c ((t.conn c).heard k true)).sendAck c 0)

/-- A PROBE packet on a path table entry to an address, with the next ID of the entry; T1 is written as it leaves (R224, R228). -/
def State.sendProbe (s : State) (i addr : Nat) : State :=
  let n := ((s.path i).probeId + 1) % 2 ^ 32
  (s.setPath i { s.path i with probeId := n }).sendControl i (RktPkt.plain 0xA [n, 0, 0, 0]) addr

/-- A down entry whose port is up is probed, to the peer of one connection that uses it, the lowest in number (R224,
notes/assumptions/73.md). A probe that was not answered ends a run of answers. -/
def State.probePath (s : State) (i : Nat) : State :=
  match (s.pathUsers i).head? with
  | none => s
  | some e =>
    let t := s.sendProbe i (s.connDest e.1 none).addr
    t.setPath i { t.path i with probeAt := t.now, probeOut := some (t.path i).probeId, answers := if (s.path i).probeOut.isSome then 0 else (t.path i).answers }

/-- One answer of the link-delay measurement (R228): the least of 64 goes to BELL_ALIGN.DELAY, or sets DELAY_RANGE. -/
def State.delayAnswer (s : State) (d : Nat) : State :=
  let b := s.bell
  let least := if b.delayCount = 0 then d else min b.delayMin d
  if b.delayCount + 1 < 64 then { s with bell := { b with delayCount := b.delayCount + 1, delayMin := least } }
  else
    let t := { s with bell := { b with delayCount := 0, delayMin := 0 } }
    if least ≤ 0xFFFF then t.wr Reg.BELL_ALIGN_DELAY least else t.bellEvent Reg.BELL_EVENT_DELAY_RANGE

/-- A path table entry comes up after RESTORE answers: its windows start at CWND_INIT and its events are raised (R224). -/
def State.pathUp (s : State) (i : Nat) : State :=
  let t := ((s.wr (Reg.RKT_PATH_UP i) 1).rktEvent Reg.RKT_EVENT_PATH_UP).setPath i { s.path i with answers := 0, rtos := 0, probeOut := none }
  let users := t.pathUsers i
  let t := ((users.map (fun e => e.2.part)).eraseDups).foldl (fun t p => t.asyncEvent p 4 0xFFFF i) t
  users.foldl (fun t e =>
    let slot := i - s.rd (Reg.RKT_CONN_PATH_BASE e.1)
    let y := t.conn e.1
    let t := t.setConn e.1 { (y.setSlot slot { y.slot slot with cwnd := t.cwndStart e.1 }) with downSince := none }
    let t := y.ackHeld.elim t (fun nak => t.sendAck e.1 nak)
    let t := t.when (y.resync.isSome && y.downSince.isSome) (fun t => t.sendResync e.1)
    ((y.flights.filter (fun f => f.lost && !f.acked)).map (·.psn)).foldl (fun t psn => t.resend e.1 psn) t) t

/-! ## Meanings -/

/-- RKT_PACKET_RECEIVED (R217): a packet of a sequenced type, or of a reserved one; the others have rows of their own. -/
def execRktPacketReceived (k : RktPkt) (s : State) : Host.Outcome State Fault Refusal := s.guarded (k.typ ≤ 6 || 12 < k.typ) (s.rktReceive k)

/-- RKT_PACKET_SEND (R216). -/
def execRktPacketSend (c : Nat) (s : State) : Host.Outcome State Fault Refusal := s.guarded (c < 16384) (s.sendNext c)

/-- ACK_RECEIVED (R220). -/
def execAckReceived (k : RktPkt) (s : State) : Host.Outcome State Fault Refusal := s.guarded (k.typ == 7) (s.ackReceive k)

/-- ACK_DELAY_EXPIRY (R219): ACK_DELAY has passed since the first packet not acknowledged. -/
def execAckDelayExpiry (c : Nat) (s : State) : Host.Outcome State Fault Refusal :=
  s.guarded (c < 16384) (match (s.conn c).firstUnacked with
    | none => s
    | some t => s.when (decide ((s.conn c).state = .rts)) (fun u => (u.atTime (t + u.rd Reg.RKT_TIMING_ACK_DELAY * 500)).sendAck c 0))

/-- RTO_EXPIRY (R221). -/
def execRtoExpiry (c psn : Nat) (s : State) : Host.Outcome State Fault Refusal := s.guarded (c < 16384) (s.rtoExpire c psn)

/-- NAK_HOLD_END (R220): the hold ends RTO_MIN after its NAK, and the packets refused or lost meanwhile are sent again. -/
def execNakHoldEnd (c : Nat) (s : State) : Host.Outcome State Fault Refusal :=
  s.guarded (c < 16384) (
    if !(s.conn c).nakHold then s
    else
      let t := s.atTime ((s.conn c).nakAt + s.rd Reg.RKT_TIMING_RTO_MIN * 4000)
      let t := t.setConn c { t.conn c with nakHold := false }
      (((s.conn c).flights.filter (fun f => f.lost && !f.acked)).map (·.psn)).foldl (fun t psn => t.resend c psn) t)

/-- RESYNC_RECEIVED (R222). -/
def execResyncReceived (k : RktPkt) (s : State) : Host.Outcome State Fault Refusal := s.guarded (k.typ == 0xC) (s.resyncReceive k)

/-- ALL_PATHS_DOWN (R223): a connection that holds its packets, all its slots having stayed down for RTO_MAX, enters ERROR. -/
def execAllPathsDown (c : Nat) (s : State) : Host.Outcome State Fault Refusal :=
  s.guarded (c < 16384) (s.when (decide ((s.conn c).state = .rts) && (s.nextUp c 0).isNone) (fun t =>
    (t.conn c).downSince.elim t (fun d => (t.atTime (d + t.rd Reg.RKT_TIMING_RTO_MAX * 4000000)).connError c none 3 5 c)))

/-- PATH_PROBE (R224): a down entry whose port is up is probed, PROBE_MS after its last probe or after it went down. -/
def execPathProbe (i : Nat) (s : State) : Host.Outcome State Fault Refusal :=
  s.guarded (i < 4096) (s.when (!s.on (Reg.RKT_PATH_UP i) && s.on (Reg.FAB_PORT_STATUS_LINK_UP (s.rd (Reg.RKT_PATH_PORT i)))) (fun t =>
    (t.atTime ((t.path i).probeAt + t.rd Reg.RKT_RETRY_PROBE_MS * 4000000)).probePath i))

/-- A PROBE is answered with its ID and T1, and the time of its arrival; T3 is written as the answer leaves (R224). -/
def State.answerProbe (s : State) (i : Nat) (k : RktPkt) : State :=
  s.sendControl i (RktPkt.plain 0xB [k.ext.getD 0 0, k.ext.getD 1 0, s.now % 2 ^ 32, 0]) k.srcAddr

/-- PROBE_RECEIVED (R224). -/
def execProbeReceived (i : Nat) (k : RktPkt) (s : State) : Host.Outcome State Fault Refusal :=
  s.guarded (i < 4096) (if k.typ ≠ 0xA then s else if k.malformed 1024 then s.rktDrop Reg.RKT_DROP_MALFORMED else s.answerProbe i k)

/-- The answer to the measurement's probe gives one value of the link delay (R228). -/
def State.probeDelay (s : State) (i : Nat) (k : RktPkt) : State :=
  let m := 2 ^ 32
  let d := (((s.now % m + m - k.ext.getD 1 0) % m + m - (k.ext.getD 3 0 + m - k.ext.getD 2 0) % m) % m) / 2
  s.when (decide ((i, k.ext.getD 0 0) ∈ s.bell.delayProbe) && s.on Reg.RKT_BELL_CFG_AUTO_DELAY)
    (fun t => ({ t with bell := { t.bell with delayProbe := t.bell.delayProbe.erase (i, k.ext.getD 0 0) } } : State).delayAnswer d)

/-- The answer to the last probe of a path that is down counts, and the path is up at RESTORE of them in a row (R224). -/
def State.probeAnswered (s : State) (i : Nat) (k : RktPkt) : State :=
  if s.on (Reg.RKT_PATH_UP i) ∨ (s.path i).probeOut ≠ some (k.ext.getD 0 0) then s
  else if s.rd Reg.RKT_RETRY_RESTORE ≤ (s.path i).answers + 1 then s.pathUp i
  else s.setPath i { s.path i with answers := (s.path i).answers + 1, probeOut := none }

/-- PROBE_RESP_RECEIVED (R224, R228): counted toward bringing a down entry up; on the parent's entry it is one answer of the
link-delay measurement. -/
def execProbeRespReceived (i : Nat) (k : RktPkt) (s : State) : Host.Outcome State Fault Refusal :=
  s.guarded (i < 4096) (
    if k.typ ≠ 0xB then s else if k.malformed 1024 then s.rktDrop Reg.RKT_DROP_MALFORMED else (s.probeDelay i k).probeAnswered i k)

/-- The fields of RKT_CONN taken together when EN is set (R6, R232), as bits of the 128-bit register image. -/
def State.connWrite (s : State) (c v : Nat) : State :=
  [Reg.RKT_CONN_PART c, Reg.RKT_CONN_QP c, Reg.RKT_CONN_SEG c, Reg.RKT_CONN_ENC c, Reg.RKT_CONN_PEER c, Reg.RKT_CONN_PEER_CONN c,
    Reg.RKT_CONN_PATH_BASE c, Reg.RKT_CONN_PATH_N c, Reg.RKT_CONN_KEY_SLOT c, Reg.RKT_CONN_TCLASS c, Reg.RKT_CONN_RNR_LIMIT c,
    Reg.RKT_CONN_CEPOCH_INIT c].foldl (fun t f => t.wr f (bits v f.lsb f.w)) s

/-- An EN write that R232 and R271 refuse: a queue pair beyond the grant, a raw one, or one that an enabled entry names. P0 has
connections (R342, CKP_TARGET; notes/assumptions/16.md). -/
def State.connBad (s : State) (c v : Nat) : Bool :=
  let p := bits v 0 6
  let qp := bits v 6 12
  decide (s.queueCount p 0 ≤ qp) || (decide (s.rd (Reg.PKT_RAW_BASE p) ≤ qp) && decide (qp < s.rd (Reg.PKT_RAW_BASE p) + s.rd (Reg.PKT_RAW_COUNT p))) || s.conns.any (fun e => e.1 != c && decide (e.2.state ≠ .reset) && e.2.part == p && e.2.qp == qp)

/-- A connection as it stands when it is enabled (R209, R210). -/
def State.connReady (s : State) (c value : Nat) : State :=
  let t := (s.connWrite c value).wr (Reg.RKT_CONN_EN c) 1
  let slots := (List.range (bits value 72 4 + 1)).foldl (fun q i => Tab.set PathSlot.reset q i { PathSlot.reset with cwnd := t.cwndStart c }) []
  let t := t.setConn c { Conn.reset with part := bits value 0 6, qp := bits value 6 12, slots := slots, credit := s.win, creditSent := s.win }
  (t.connEpoch c (bits value 100 8)).connState c .rts

/-- A write of word 0 with EN = 1 (R233): the fields are taken, the connection enters RTS with CEPOCH_INIT; its windows start at
CWND_INIT (R225) and its numbers at 0 (notes/assumptions/14.md). -/
def State.connEnable (s : State) (c value : Nat) : State :=
  if s.on (Reg.RKT_CONN_EN c) then s
  else if s.connBad c value then (s.connWrite c value).unsup .pf (Reg.RKT_CONN c) true
  else
    s.connReady c value

/-- A connection put in RESET: every request handed over and not completed ends with FLUSHED, its messages and those open
are gone (R233). -/
def State.connReset (s : State) (c : Nat) : State :=
  let x := s.conn c
  let t := (s.setConn c { Conn.reset with part := x.part, qp := x.qp, epoch := x.epoch }).connState c .reset
  let t := t.dropReads (fun u => match u with
    | .message d _ _ => if d = c then some x.part else none
    | _ => none)
  (t.flushConn c x none 3).settleInvals x.part

/-- A write of EN = 0 (R233), which takes the entry's other fields with it (R232). -/
def State.connDisable (s : State) (c value : Nat) : State :=
  s.when (s.on (Reg.RKT_CONN_EN c)) (fun t => ((t.connReset c).wr (Reg.RKT_CONN_EN c) 0).connWrite c value)

/-- CONN_ENABLE (R233): `value` is the 128-bit register image. -/
def execConnEnable (c value : Nat) (s : State) : Host.Outcome State Fault Refusal := s.fromPf 6 (s.guarded (c < 16384) (s.connEnable c value))

/-- CONN_DISABLE (R233): `value` is the 128-bit register image. -/
def execConnDisable (w : ConnWrite) (s : State) : Host.Outcome State Fault Refusal := s.fromPf 6 (s.guarded (w.conn < 16384) (s.connDisable w.conn w.value))

end Sys2Proof.Machine
end

