-- ==== Sys2Proof/Machine/Copy.lean ====
section
/-! DEFINITION. Planned copies, the write interlock, device sparing, scrubbing and the data ports (chapter 05). -/

namespace Sys2Proof.Machine

/-! ## CPD fields (Table 5.4) -/

def cpdFld (w : List Nat) (i lo n : Nat) : Nat := bits (w.getD i 0) lo n
def cpdKind (w : List Nat) : Nat := cpdFld w 0 0 4
def cpdCe (w : List Nat) : Nat := cpdFld w 0 4 5
def cpdTgt (w : List Nat) : Bool := cpdFld w 0 9 1 == 1
def cpdReplay (w : List Nat) : Nat := cpdFld w 0 13 2
def cpdSrc (w : List Nat) : Nat := cpdFld w 2 0 32 + cpdFld w 3 0 16 * 2 ^ 32
def cpdDst (w : List Nat) : Nat := cpdFld w 4 0 32 + cpdFld w 5 0 16 * 2 ^ 32
def cpdSrcStride (w : List Nat) : Nat := cpdFld w 3 16 16
def cpdDstStride (w : List Nat) : Nat := cpdFld w 5 16 16
def cpdRowLen (w : List Nat) : Nat := cpdFld w 6 0 20
/-- Rows (R142). -/
def cpdRows (w : List Nat) : Nat := cpdFld w 6 20 12 + 1
/-- TARGET of a PUT or GET. -/
def cpdTarget (w : List Nat) : Nat := if cpdKind w = 3 then cpdDstStride w else cpdSrcStride w

/-! ## Acceptance (R143, Table 5.5) -/

/-- REJ_RESERVED; `own` is the issuing tending core's logical engine when it must be named. -/
def State.cpdReservedBad (s : State) (w : List Nat) (levelP : Bool) (own : Option Nat) : Bool :=
  !(cpdKind w == 2 || cpdKind w == 3 || cpdKind w == 4) || (s.ceUnit (cpdCe w)).isNone || own.elim false (fun n => n != cpdCe w) ||
  cpdReplay w == 3 || cpdFld w 0 24 8 != 0 || cpdFld w 1 28 4 != 0 || (cpdFld w 0 15 1 == 0 && cpdFld w 0 16 2 != 0) ||
  (cpdFld w 0 15 1 == 1 && levelP) || (cpdKind w != 2 && cpdTarget w / 4096 != 0)

/-- A module address lies in a tile store or a tending core's local memory. -/
def inSlotMemory (a : Nat) : Bool :=
  match spaceOf a with
  | .tile _ _ => true
  | .tcLocal _ _ _ => true
  | _ => false

/-- REJ_SHAPE. REPLAY other than NONE is judged by the memory in which the first byte of DST lies (DESIGN CHOICE,
notes/assumptions/55.md). -/
def cpdShapeBad (w : List Nat) : Bool :=
  cpdRowLen w == 0 ||
  (cpdKind w == 2 && decide (1 < cpdRows w) && (cpdDstStride w == 0 || decide (cpdDstStride w * 64 < cpdRowLen w))) ||
  (cpdKind w == 2 && cpdRows w == 1 && (cpdSrcStride w != 0 || cpdDstStride w != 0)) ||
  (cpdKind w != 2 && decide (1 < cpdRows w)) ||
  (cpdReplay w != 0 && (cpdKind w == 3 || !inSlotMemory (cpdDst w)))

/-- REJ_BOUNDS: a byte outside what the partition or the level reaches, or a TARGET without a connection in RTS (R258). -/
def State.cpdBoundsBad (s : State) (p : Nat) (levelP : Bool) (w : List Nat) : Bool :=
  (cpdKind w != 3 && (List.range (cpdRows w)).any (fun r => !s.openRange p levelP (cpdDst w + 64 * cpdDstStride w * (if cpdKind w = 2 then r else 0)) (cpdRowLen w))) ||
  (cpdKind w != 4 && (List.range (cpdRows w)).any (fun r => !s.openRange p levelP (cpdSrc w + 64 * cpdSrcStride w * (if cpdKind w = 2 then r else 0)) (cpdRowLen w))) ||
  (cpdKind w != 2 && (decide (s.queueCount p 0 ≤ cpdTarget w) || (s.connFor p (cpdTarget w)).isNone))

/-- The status of a CPD that fails a check, in the order of R143. -/
def State.cpdReject (s : State) (p : Nat) (levelP : Bool) (own : Option Nat) (bell : Nat) (w : List Nat) : Option Nat :=
  if s.cpdReservedBad w levelP own then some 1
  else if cpdShapeBad w then some 3
  else if s.cpdBoundsBad p levelP w then some 2
  else if cpdTgt w && decide (bell ≤ s.count) then some 4
  else none

/-- CPY_ERR bits go to vector 3. -/
def State.cpyErr (s : State) (u : Nat) (f : Nat → Fld) : State := s.event (f u) (Reg.CPY_ERR_EN_EN u) 3

/-- CPY_ERR_INFO records a CPD that does not end DONE (R143). -/
def State.cpyInfo (s : State) (u st p user : Nat) : State :=
  ((s.wr (Reg.CPY_ERR_INFO_CODE u) st).wr (Reg.CPY_ERR_INFO_PART u) p).wr (Reg.CPY_ERR_INFO_USER u) user

/-- CPDs queued, of all partitions and of one (R139). -/
def CopyEng.depth (x : CopyEng) : Nat := (x.queue.filter (fun d => decide (d.stage = .queued))).length
def CopyEng.depthOf (x : CopyEng) (p : Nat) : Nat := (x.queue.filter (fun d => decide (d.stage = .queued) && d.part == p)).length
/-- CPDs in flight (R139). -/
def CopyEng.flying (x : CopyEng) : Nat := (x.queue.filter (fun d => decide (d.stage = .inflight))).length

/-- The copy engine has room for a CPD of partition `p` (R139, R149): queue, partition's part, and the replay log for a CPD
that is logged. -/
def State.cpdRoom (s : State) (u p : Nat) (w : List Nat) : Bool :=
  let x := s.copy u
  decide (x.depth < 128) && decide (x.depthOf p < 64) && (cpdReplay w == 0 || decide (x.log.length < 2048))

/-- The replay log, and nothing else, keeps a CPD of partition `p` out (CPY_ERR.LOG_FULL, R149). -/
def State.logFull (s : State) (u p : Nat) (w : List Nat) : Bool :=
  decide ((s.copy u).depth < 128) && decide ((s.copy u).depthOf p < 64) && cpdReplay w != 0 && decide (2048 ≤ (s.copy u).log.length)

/-- The unit whose queue a CPD enters: its CE's, or HC0 when CE is reserved or offline (R139). -/
def State.cpdUnit (s : State) (w : List Nat) : Nat := (s.ceUnit (cpdCe w)).getD 18

/-- The logical engine whose logs cover a copy engine: the one its slot serves. -/
def State.engineOfUnit (s : State) (u : Nat) : Option Nat := if u < 18 then s.engineOf u else none

/-- Who issued a logged CPD: core·4 + context of the unit's own slot, or none for any other issuer (R336). -/
def CpdSource.key (src : CpdSource) (u : Nat) : Option Nat :=
  match src with
  | .context c => if c / 16 = u then some (c % 16) else none
  | _ => none

/-- A CPD enters a copy engine's queue with the status it was rejected with, or to run. -/
def State.queueCpd (s : State) (u p : Nat) (levelP : Bool) (src : CpdSource) (bell : Nat) (w : List Nat) (rej : Option Nat) : State :=
  let x := s.copy u
  let d : Cpd := { id := s.cpdId, words := w, part := p, levelP := levelP, bell := bell, src := src,
                   stage := rej.elim .queued .finished, held := none, since := s.count }
  let t := ({ s with cpdId := s.cpdId + 1 }.ungate (copyBlock u)).setCopy u { x with queue := x.queue ++ [d] }
  match rej with
  | none => t
  | some 4 => (t.cpyErr u Reg.CPY_ERR_MISSED_TARGET).missedTarget
  | some _ => t.cpyErr u Reg.CPY_ERR_REJECT

/-- A copy engine accepts a CPD (R143): checked and queued, or kept to complete with its rejection in order; logged under
R149. `pb` is the issuing context's program bell, or the bell counter. -/
def State.acceptCpd (s : State) (u p : Nat) (levelP : Bool) (own : Option Nat) (src : CpdSource) (bell pb : Nat) (w : List Nat) : State :=
  let rej := s.cpdReject p levelP own bell w
  let x := s.copy u
  let e : LogCpd := { words := w, part := p, levelP := levelP, bell := bell, only := cpdReplay w = 2, ctx := src.key u, pb := pb, released := true }
  let log := if cpdReplay w = 1 ∨ cpdReplay w = 2 then x.log ++ [e] else x.log
  (s.setCopy u { x with log := log }).queueCpd u p levelP src bell w rej

/-- A logged CPD runs again in a replay: no log entry and no missed target (R336). -/
def State.rerunCpd (s : State) (u : Nat) (e : LogCpd) : State :=
  s.queueCpd u e.part e.levelP .replay e.bell e.words (match s.cpdReject e.part e.levelP none e.bell e.words with | some 4 => none | r => r)

/-- Log entries that no context issued run when every entry logged before them has run (R336); `fuel` is the log's length. -/
def State.releaseLog (s : State) (u : Nat) : Nat → State
  | 0 => s
  | fuel + 1 =>
    let l := (s.copy u).log
    match l.findIdx? (fun e => !e.released) with
    | none => s
    | some i =>
      match l[i]? with
      | some e =>
        if e.ctx.isSome then s
        else State.releaseLog ((s.setCopy u { s.copy u with log := l.set i { e with released := true } }).rerunCpd u e) u fuel
      | none => s

/-- A CPD issued by context `c`: absorbed while the context replays and a logged CPD of it has not been issued again, when
its REPLAY is not NONE; else accepted (R149, R336). -/
def State.issueCpd (s : State) (u p : Nat) (levelP : Bool) (own : Option Nat) (c bell pb : Nat) (w : List Nat) : State :=
  let src : CpdSource := .context c
  let n := s.engineOfUnit u
  let absorbed :=
    if cpdReplay w = 0 then none
    else (src.key u).bind (fun k => (n.bind s.replayOf).bind (fun r => (s.copy u).log.findIdx? (fun e => awaits r k e.ctx e.pb e.released)))
  match absorbed.bind (fun i => ((s.copy u).log[i]?).map (fun e => (i, e))) with
  | some (i, e) =>
    let x := s.copy u
    let t := (s.setCopy u { x with log := x.log.set i { e with released := true } }).rerunCpd u e
    n.elim t (fun n => (t.releaseLog u x.log.length).tryResume n)
  | none => s.acceptCpd u p levelP own src bell pb w

/-! ## Start (R145, R147, R151) -/

/-- The oldest CPD of a partition on the unit that still waits to start. -/
def CopyEng.head (x : CopyEng) (p : Nat) : Option Cpd := x.queue.find? (fun d => decide (d.stage = .queued) && d.part == p)

/-- Everything the partition gave the unit before `d` has completed (R147 ORDER). -/
def CopyEng.earlierDone (x : CopyEng) (d : Cpd) : Bool :=
  !x.queue.any (fun e => e.part == d.part && decide (e.id < d.id) && (match e.stage with | .finished _ => false | _ => true))

/-- The head CPD may start: its edge has come, ORDER holds, a PUT or GET has a connection that may take it (R145, R234). -/
def State.cpdReady (s : State) (x : CopyEng) (d : Cpd) : Bool :=
  decide (d.bell ≤ s.count) && (cpdFld d.words 0 12 1 == 0 || x.earlierDone d) &&
  (cpdKind d.words == 2 || (match s.connFor d.part (cpdTarget d.words) with | some c => s.mayHand c | none => true))

/-- What may start and complete now: during a restore only what the restore runs again, one entry after another (R335). -/
def CopyEng.startable (x : CopyEng) : CopyEng :=
  if x.restore then { x with queue := (x.queue.filter (fun d => decide (d.src = .replay))).take 1 } else x

/-- Round robin from the partition after the one taken last (R145). -/
def State.cpdChoice (s : State) (x : CopyEng) : Option Cpd :=
  (List.range 64).findSome? (fun i =>
    match x.head ((x.lastPart + 1 + i) % 64) with
    | some d => if s.cpdReady x d then some d else none
    | none => none)

/-- The pieces a LOCAL copy writes in module memory: of each row, each run inside 4 KiB. -/
def State.cpdPieces (s : State) (d : Cpd) : List (Nat × Nat) :=
  ((List.range (cpdRows d.words)).map (fun r =>
    let a := cpdDst d.words + 64 * cpdDstStride d.words * r
    (unitsOf a (cpdRowLen d.words) 4096).filterMap (fun b =>
      (s.mapFor d.part d.levelP (max a b)).map (fun m => (m, min (a + cpdRowLen d.words) (b + 4096) - max a b))))).flatten

/-- The first unreached interlocked chunk a copy would write (R151). -/
def State.cpdHit (s : State) (d : Cpd) : Option (Nat × Nat) :=
  if cpdReplay d.words = 2 && d.src ≠ .replay then none else (s.cpdPieces d).findSome? (fun q => s.ilkHit q.1 q.2)

def CopyEng.upd (x : CopyEng) (id : Nat) (f : Cpd → Cpd) : CopyEng := { x with queue := x.queue.map (fun d => if d.id == id then f d else d) }

/-- The background copy of an interlock region reaches the chunks it takes; a staged chunk's slot is freed (R152). -/
def State.ilkTake (s : State) (r a n : Nat) : State :=
  let base := s.rd (Reg.MEM_ILK_BASE_BASE r) * 65536
  (unitsOf a n 65536).foldl (fun t b =>
    let ch := (b - base) / 65536
    let k := chunkKey r ch
    if base ≤ b && decide (ch < t.rd (Reg.MEM_ILK_CTRL_CHUNKS r)) then
      let t := t.reachChunk r ch false
      { t with memSt := { t.memSt with
        staged := t.memSt.staged.filter (· != k)
        stagedBytes := t.memSt.stagedBytes.filter (fun e => e.1 / 65536 != k)
        stagedBad := t.memSt.stagedBad.filter (fun e => e / 65536 != k) } }
    else t) s

/-- Source bytes of a background copy: a staged chunk's from its slot, else from GDDR7 (R152). -/
def State.ilkByte (s : State) (r a : Nat) : Nat × Bool :=
  let base := s.rd (Reg.MEM_ILK_BASE_BASE r) * 65536
  let k := chunkKey r ((a - base) / 65536)
  let o := k * 65536 + (a - base) % 65536
  if base ≤ a && decide (k ∈ s.memSt.staged) then ((Tab.get (0 : Byte) s.memSt.stagedBytes o).toNat, !s.memSt.stagedBad.contains (o / 64 * 64))
  else (s.byte a, !s.failing a)

/-- Byte `i` of row `r` of a copy's source: its module address, itself, and whether it reads without error. -/
def State.cpdByte (s : State) (d : Cpd) (r i : Nat) : Option Nat × Nat × Bool :=
  match s.mapFor d.part d.levelP (cpdSrc d.words + 64 * cpdSrcStride d.words * r + i) with
  | some m =>
    let b := if cpdFld d.words 0 15 1 = 1 then s.ilkByte (cpdFld d.words 0 16 2) m else (s.byte m, !s.failing m)
    (some m, b.1, b.2)
  | none => (none, 0, true)

/-- The first `n` bytes of a row of a copy's source. -/
def State.cpdSource (s : State) (d : Cpd) (r n : Nat) : List (Option Nat × Nat × Bool) := (List.range n).map (fun i => s.cpdByte d r i)

/-- What a checkpoint context sends beside its data: the shard's header, its digest table, its trailer (R347, R348). -/
def State.ckpBytes (s : State) (k kind : Nat) : List Nat :=
  match (Tab.get Ckp.reset s.flt.ckps k).run with
  | none => []
  | some r => if kind = 0 then r.header else if kind = 2 then r.table else r.trailer

/-- A CPD that reads or writes a peer goes out as a message of its queue pair (R140, R146, R253). -/
def State.startRemote (s : State) (u : Nat) (d : Cpd) : State :=
  let x1 := { s.copy u with lastPart := d.part }
  let qp := cpdTarget d.words
  match s.connFor d.part qp with
  | none => (s.setCopy u (x1.upd d.id (fun e => { e with stage := .finished 8 })))
  | some c =>
    let key := (s.queue d.part 0 qp).w6
    let len := cpdRowLen d.words
    let src := match d.src with
      | .ckp k kind _ => if kind = 1 then s.cpdSource d 0 len else (s.ckpBytes k kind).map (fun b => (none, b, true))
      | _ => s.cpdSource d 0 len
    if cpdKind d.words = 3 then
      if src.any (fun b => !b.2.2) then (s.noteReads (src.filterMap (·.1))).setCopy u (x1.upd d.id (fun e => { e with stage := .finished 7 }))
      else
        -- the slot of a staged chunk is freed when the chunk is sent on (R152)
        let s := s.when (cpdFld d.words 0 15 1 == 1) (fun t =>
          (t.mapFor d.part d.levelP (cpdSrc d.words)).elim t (fun m => t.ilkTake (cpdFld d.words 0 16 2) m len))
        (s.setCopy u (x1.upd d.id (fun e => { e with stage := .remote }))).handMessage c
        (TxMsg.new 1 [key, cpdDst d.words, 0] len (src.map (·.2.1)) (.cpd u d.id) 0 0x7FF) none
    else
      (s.setCopy u (x1.upd d.id (fun e => { e with stage := .remote }))).handMessage c
        (TxMsg.new 3 [key, cpdSrc d.words, len] len [] (.cpd u d.id) ((if d.levelP then 2 ^ 63 else 2 ^ 65) + cpdDst d.words) 0x7FF) none

/-- A queued CPD starts (R145): in flight, held by the interlock, or handed to the transport (R258). -/
def State.startCpd (s : State) (u : Nat) : State :=
  let x := s.copy u
  if 8 ≤ x.flying then s
  else match s.cpdChoice x.startable with
    | none => s
    | some d =>
      let x1 := { x with lastPart := d.part }
      if cpdReplay d.words = 2 ∧ d.src ≠ .replay then s.setCopy u (x1.upd d.id (fun e => { e with stage := .inflight }))
      else if cpdKind d.words = 2 then
        let t := s.setCopy u (x1.upd d.id (fun e => { e with stage := .inflight, held := s.cpdHit d }))
        match s.cpdHit d with
        | some (r, c) => t.holdWrite { region := r, chunk := c, since := s.now, bytes := [], who := .other }
        | none => t
      else
        s.startRemote u d

/-! ## Completion (R147) -/

/-- The maximal runs of true entries, each with its first index, counted from `i`, and its length. -/
def goodRuns : List Bool → Nat → List (Nat × Nat)
  | [], _ => []
  | false :: r, i => goodRuns r (i + 1)
  | true :: r, i => match goodRuns r (i + 1) with
    | (a, n) :: q => if a = i + 1 then (i, n + 1) :: q else (i, 1) :: (a, n) :: q
    | [] => [(i, 1)]

/-- The first `n` bytes of row `r` of a LOCAL copy, moved one after another in ascending address (R142): those of a failing
source unit stay unwritten (R135, R448). The result is the state, the bytes written, and whether every byte was read. -/
def State.moveRow (s : State) (d : Cpd) (r n : Nat) : State × Nat × Bool :=
  let a := cpdDst d.words + 64 * cpdDstStride d.words * r
  let src := s.cpdSource d r n
  let good := src.map (·.2.2)
  let t := (List.range n).foldl (fun (t : State) i =>
    let b := t.cpdByte d r i
    if b.2.2 then (t.mapFor d.part d.levelP (a + i)).elim t (fun m => t.setByte m b.2.1) else t) s
  let marks := (goodRuns good 0).foldl (fun (m : MemSt) g =>
    (unitsOf (a + g.1) g.2 4096).foldl (fun (m : MemSt) b =>
      let lo := max (a + g.1) b
      match s.mapFor d.part d.levelP lo with
      | some q => m.afterWrite q (min (a + g.1 + g.2) (b + 4096) - lo)
      | none => m) m) t.memSt
  (({ t with memSt := marks } : State).when (good.any (!·)) (fun _ =>
    { (s.noteReads (src.filterMap (·.1))) with mem := t.mem, memSt := marks }), (good.filter (·)).length, good.all (·))

/-- A LOCAL copy's rows moved in ascending order, as far as `limit` bytes in all (R142). -/
def State.moveRows (s : State) (d : Cpd) (limit : Nat) : State × Nat × Bool :=
  (List.range (cpdRows d.words)).foldl (fun (r : State × Nat × Bool) i =>
    let q := r.1.moveRow d i (min (cpdRowLen d.words) (limit - i * cpdRowLen d.words))
    (q.1, r.2.1 + q.2.1, r.2.2 && q.2.2)) (s, 0, true)

/-- The posting of a CPD that ended with `st` (R140, R143, R147). -/
def State.postCpd (s : State) (u : Nat) (d : Cpd) (st : Nat) : State :=
  let w := d.words
  let id := 0x100 + cpdFld w 0 18 6
  let notify := st == 0 && cpdFld w 0 10 1 == 1
  let r := match s.engineOfUnit u with
    | some n => s.tally n d.part (if notify then some id else none)
    | none => (s, true)
  let t := r.1.when (r.2 && notify) (fun t => t.bump d.part id)
  let t := t.when (r.2 && cpdFld w 0 11 1 == 1) (fun t => t.postCqe d.part (cpdFld w 1 16 12)
    { status := st, kind := 4, op := 0, imm := false, queue := cpdCe w, index := 0, info := 0, user := w.getD 7 0 })
  let t := t.when (st != 0) (fun t => t.cpyInfo u st d.part (cpdFld w 7 0 16))
  let t := t.when (st == 7) (fun t => t.cpyErr u Reg.CPY_ERR_MEM_ERR)
  let t := t.when (st == 8) (fun t => t.cpyErr u Reg.CPY_ERR_REMOTE_ERR)
  match d.src with
  | .wqe p q idx => t.endWqe p q (idx % 65536) (idx / 65536) (if st = 0 then 0 else 0xB) (if st = 0 then 0 else st)
  | _ => t

/-- The rows of a local CPD copied, counted, and taken from a write interlock's region where it says so (R140, R152); whether every
read was good. -/
def State.copyRows (s : State) (u : Nat) (d : Cpd) : State × Bool :=
  let r := s.moveRows d (cpdRows d.words * cpdRowLen d.words)
  let t := r.1.inc (Reg.CPY_BYTES_COUNT u) r.2.1
  (t.when (cpdFld d.words 0 15 1 == 1) (fun t => (List.range (cpdRows d.words)).foldl (fun t i =>
    match t.mapFor d.part d.levelP (cpdSrc d.words + 64 * cpdSrcStride d.words * i) with
    | some m => t.ilkTake (cpdFld d.words 0 16 2) m (cpdRowLen d.words)
    | none => t) t), r.2.2)

/-- A CPD leaves its copy engine and posts its completion; the bell commits and a replay that it may end follow (R14, R147, R336). -/
def State.endCpd (s : State) (u : Nat) (d : Cpd) (st : Nat) : State :=
  let t := ((s.setCopy u { s.copy u with queue := (s.copy u).queue.filter (fun e => e.id != d.id) }).postCpd u d st).commitBells
  (t.engineOfUnit u).elim t (fun n => t.tryResume n)

/-- A CPD in flight is held by the interlock on a chunk (R151). -/
def State.holdCpd (s : State) (u : Nat) (d : Cpd) (q : Nat × Nat) : State :=
  (s.setCopy u ((s.copy u).upd d.id (fun e => { e with held := some q }))).holdWrite { region := q.1, chunk := q.2, since := s.now, bytes := [], who := .other }

/-- The oldest CPD of the partition on the unit ends and is posted, when it may: rejected or ended remotely, or in flight
and not held (R147); one that would write a chunk of a region armed meanwhile is held first (R151). Bells it held commit (R14). -/
def State.completeCpd (s : State) (u p : Nat) : State :=
  let x := s.copy u
  match x.startable.queue.find? (fun d => d.part == p) with
  | none => s
  | some d =>
    if decide (u < 18) && (s.slot u).fenced && decide (d.src ≠ .replay) then s else
    match d.stage with
    | .finished st => s.endCpd u d st
    | .inflight =>
      if d.held.isSome then s
      else if cpdReplay d.words = 2 ∧ d.src ≠ .replay then s.endCpd u d 0
      else match s.cpdHit d with
        | some q => s.holdCpd u d q
        | none =>
          let r := s.copyRows u d
          r.1.endCpd u d (if r.2 then 0 else 7)
    | _ => s

/-- A copy in flight that moves bytes inside the module and is not held. -/
def Cpd.moving (d : Cpd) : Bool :=
  decide (d.stage = .inflight) && d.held.isNone && cpdKind d.words == 2 && !(cpdReplay d.words == 2 && decide (d.src ≠ .replay))

/-- A copy in flight stops at a multiple of `piece` bytes, or at its end: what it has written stays, a free number of pieces
(R148, R335; notes/assumptions/39.md). -/
def State.cutCopy (s : State) (u piece : Nat) (d : Cpd) : State :=
  let total := cpdRows d.words * cpdRowLen d.words
  let k := s.draw
  let r := k.2.moveRows d (min total (piece * (k.1 % (ceilDiv total piece + 1))))
  r.1.inc (Reg.CPY_BYTES_COUNT u) r.2.1

/-- The copy engine discards a partition's CPDs (R148): each completes with ABORTED, posts nothing, and its log entries are
dropped. A copy in flight keeps the 4 KiB pieces already written. A COPY work request whose CPD is discarded ends with it (R242).
The message of a PUT or GET is withdrawn when no packet of it was sent; else it runs on and a GET's answer places nothing more. -/
def State.abortCpds (s : State) (u p : Nat) : State :=
  let x := s.copy u
  let s1 := (x.queue.filter (fun d => d.part == p && d.moving)).foldl (fun t d => t.cutCopy u 4096 d) s
  let last := (x.queue.filter (fun d => d.part == p)).getLast?
  let s2 := match last with
    | some d => s1.cpyInfo u 6 p (cpdFld d.words 7 0 16)
    | none => s1
  let s3 := s2.setCopy u { x with queue := x.queue.filter (fun d => d.part != p), log := x.log.filter (fun l => l.part != p) }
  let s4 := (x.queue.filter (fun d => d.part == p)).foldl (fun t d => match d.src with
    | .wqe p q idx => t.endWqe p q (idx % 65536) (idx / 65536) 0xB 6
    | _ => t) s3
  s4.disown p (fun o => match o with
    | .cpd v _ => v == u
    | _ => false)

/-! ## Lateness (R146) -/

/-- Copy engine `u` at the edge that ends bell `k`: late when a CPD of bell k or earlier has not completed, one that a replay has
still to run included (R336); whether it is late, and as its backlog the late bytes left in 128-byte clocks; an ONLY CPD of a first
run moves none (R149). -/
def State.copyLate (s : State) (u k : Nat) : State × Bool × Nat :=
  let late := (s.copy u).queue.filter (fun d => decide (d.bell ≤ k))
  let again := (s.copy u).log.filter (fun e => !e.released && decide (e.bell ≤ k))
  if late.isEmpty && again.isEmpty then (s, false, 0)
  else
    let bytes := (late.map (fun d => match d.stage with
      | .finished _ => 0
      | _ => if cpdReplay d.words = 2 ∧ d.src ≠ .replay then 0 else cpdRows d.words * cpdRowLen d.words)).sum +
      (again.map (fun e => cpdRows e.words * cpdRowLen e.words)).sum
    (((s.wr Reg.BELL_LATE_CPY 1).cpyErr u Reg.CPY_ERR_LATE).wr (Reg.CPY_LATE_BELL_BELL u) k, true, ceilDiv bytes 128)

/-! ## Release of a held write (R152, R153) -/

/-- The chunk of a held write is reached already, or its region is armed no more. -/
def State.chunkFree (s : State) (h : HeldWrite) : Bool :=
  !s.on (Reg.MEM_ILK_CTRL_EN h.region) || Tab.get false s.memSt.reached (chunkKey h.region h.chunk)

/-- The CPDs in flight that wait on the chunk of `h` go on, or are held on their next unreached chunk. -/
def State.releaseCpds (s : State) (h : HeldWrite) : State :=
  (List.range 22).foldl (fun t u =>
    (t.copy u).queue.foldl (fun t d =>
      if d.held = some (h.region, h.chunk) then
        match t.cpdHit d with
        | some q => t.holdCpd u d q
        | none => t.setCopy u ((t.copy u).upd d.id (fun e => { e with held := none }))
      else t) t) s

/-- A held write of a data port shows in its status (R155). -/
def State.portHeld (s : State) (i : Nat) : State :=
  let h := b2n (s.memSt.held.any (fun g => decide (g.who = .port i)))
  (s.wr (Reg.DPORT_STATUS_HELD i) h).wr (Reg.DPORT_STATUS_BUSY i) h

/-! ## Scrubbing and sparing (R129, R134, R136, R137) -/

/-- The standby that covers a position (Table 5.2). -/
def standbyOf (pd : Nat) : Nat := if pd < 12 then 24 else 25

/-- The standby is free: it serves no logical device, and no promotion is to give it one. -/
def State.standbyFree (s : State) (sb : Nat) : Bool := s.rd (Reg.MEM_DEV_ROLE sb) == 1 && s.rd (Reg.MEM_DEV_LD sb) == 31 &&
  !(s.memSt.promoting ++ s.memSt.sudden).any (fun q => q.2 == sb)

/-- Retirement with no standby left: the position is failed and NO_STANDBY set (R137). -/
def State.noStandby (s : State) (pd : Nat) : State := (s.wr (Reg.MEM_DEV_ROLE pd) 3).memErr Reg.MEM_ERR_NO_STANDBY

/-- The planned promotions in progress, shown in BUSY. -/
def State.setPromoting (s : State) (l : List (Nat × Nat)) : State :=
  { s with memSt := { s.memSt with promoting := l } }.wr Reg.MEM_PROMOTE_BUSY (b2n !l.isEmpty)

/-- A position that serves a device is retired: its planned promotion starts, or no standby is left; none is left for a standby
that serves (R136, R137). -/
def State.startPromotion (s : State) (pd : Nat) : State :=
  if s.rd (Reg.MEM_DEV_ROLE pd) ≠ 0 ∨ (s.memSt.promoting ++ s.memSt.sudden).any (fun q => q.1 == pd) then s
  else if 24 ≤ pd ∨ !s.standbyFree (standbyOf pd) then s.noStandby pd
  else s.setPromoting (s.memSt.promoting ++ [(pd, standbyOf pd)])

/-- A position's corrected count advances; reaching MEM_CE_LIMIT retires it (R134, R136). -/
def State.corrected (s : State) (pd : Nat) : State :=
  let t := (s.incSat (Reg.MEM_DEV_CE_COUNT pd) 1).memErr Reg.MEM_ERR_CORRECTED
  let lim := t.rd Reg.MEM_CE_LIMIT_LIMIT
  t.when (lim != 0 && t.rd (Reg.MEM_DEV_CE_COUNT pd) == lim) (fun t => t.startPromotion pd)

/-- The logical device of `pd` moves to the standby `sb` (R136). -/
def State.moveDevice (s : State) (pd sb : Nat) : State :=
  let ld := s.rd (Reg.MEM_DEV_LD pd)
  let t := { s with memSt := { s.memSt with ldMap := Tab.set 0 s.memSt.ldMap ld (sb ^^^ ld) } }
  let t := ((t.wr (Reg.MEM_DEV_ROLE pd) 2).wr (Reg.MEM_DEV_LD pd) 31)
  ((t.wr (Reg.MEM_DEV_ROLE sb) 0).wr (Reg.MEM_DEV_LD sb) ld).memErr Reg.MEM_ERR_PROMOTE_DONE

/-- The granules of logical device `ld` with a line that cannot be corrected are lost on the standby (R136). -/
def State.loseBadLines (s : State) (ld : Nat) : State :=
  let l := s.memSt.bad.filter (fun e => decide (e.1 < gddrSize) && ldOf e.1 == ld)
  let lost := l.foldl (fun m e => Tab.set false m (e.1 / 256) true) s.memSt.lostGranule
  { s with memSt := { s.memSt with lostGranule := lost, bad := s.memSt.bad.filter (fun e => !(decide (e.1 < gddrSize) && ldOf e.1 == ld)) } }

/-- Every granule of the standby's device is lost (R136, sudden promotion). -/
def State.loseDevice (s : State) (ld : Nat) : State :=
  { s with memSt := { s.memSt with
      lostDev := Tab.set false s.memSt.lostDev ld true
      rewritten := s.memSt.rewritten.filter (fun e => e.1 % 96 / 4 != ld) } }

/-- The oldest planned promotion switches, its copy ended and its edge come (R136). -/
def State.switchDevice (s : State) : State :=
  match s.memSt.promoting with
  | [] => s
  | (pd, sb) :: r => ((s.setPromoting r).moveDevice pd sb).loseBadLines (s.rd (Reg.MEM_DEV_LD pd))

/-- A position stops answering (R136): its device's granules are lost, and it moves at the next edge; with no standby left it is
failed (R137). A planned promotion of it ends. MEM_ERR.TRAIN_FAIL is set (DESIGN CHOICE, notes/assumptions/71.md). -/
def State.suddenLoss (s : State) (pd : Nat) : State :=
  if s.rd (Reg.MEM_DEV_ROLE pd) ≠ 0 ∨ s.memSt.sudden.any (fun q => q.1 == pd) then s
  else
    let t := (s.setPromoting (s.memSt.promoting.filter (fun q => q.1 != pd))).memErr Reg.MEM_ERR_TRAIN_FAIL
    if 24 ≤ pd ∨ !t.standbyFree (standbyOf pd) then t.noStandby pd
    else ({ t with memSt := { t.memSt with sudden := t.memSt.sudden ++ [(pd, standbyOf pd)] } } : State).loseDevice (t.rd (Reg.MEM_DEV_LD pd))

/-- At an edge the devices of positions that stopped answering move to their standbys, every granule lost (R136). -/
def State.suddenEdge (s : State) : State :=
  s.memSt.sudden.foldl (fun t q =>
    let ld := t.rd (Reg.MEM_DEV_LD q.1)
    (t.moveDevice q.1 q.2).loseDevice ld) { s with memSt := { s.memSt with sudden := [] } }

/-! ## Data ports (R155, R156) -/

/-- A range that a data port reaches: what P0 owns, and the open ranges of MGT_OPEN (R155, Table 15.16). -/
def State.dportOpen (s : State) (a n : Nat) : Bool :=
  (unitsOf a n 4096).all (fun b => s.openByte 0 true (max a b) || (List.range 4).any (fun i => s.on (Reg.MGT_OPEN_EN i) &&
    decide (s.rd (Reg.MGT_OPEN_BASE i) ≤ max a b) && decide (max a b < s.rd (Reg.MGT_OPEN_BASE i) + s.rd (Reg.MGT_OPEN_LEN i))))

/-- The port's address, in bytes. -/
def State.dportAddr (s : State) (i : Nat) : Nat := s.rd (Reg.DPORT_ADDR_ADDR i) * 4

/-- Entries of the event log that a read covers whole have been read (R386). -/
def State.markSeen (s : State) (a n : Nat) : State :=
  let base := s.rd Reg.MGT_LOG_BASE_ADDR
  { s with evlog := { s.evlog with seen := (List.range (n / 32 + 1)).foldl (fun m i =>
      let e := ceilDiv (a - base) 32 + i
      if base ≤ a + 31 ∧ base + 32 * (e + 1) ≤ a + n ∧ a ≤ base + 32 * e ∧ e < 8192 then Tab.set false m e true else m) s.evlog.seen } }

/-- A read of `n` bytes through a port: the bytes, and the state with ADDR advanced; closed ranges read 0 and set BOUNDS
without advancing, a failing read is 0 and sets MEM_ERR. -/
def State.dportRead (s : State) (i n : Nat) : State × List Nat :=
  let a := s.dportAddr i
  if !s.on (Reg.DPORT_CTRL_EN i) then (s, List.replicate n 0)
  else if !s.dportOpen a n then (s.wr (Reg.DPORT_STATUS_BOUNDS i) 1, List.replicate n 0)
  else
    let t := s.wr (Reg.DPORT_ADDR_ADDR i) ((a + n) / 4)
    if s.readable a n then (t.markSeen a n, s.bytes a n)
    else
      ((t.wr (Reg.DPORT_STATUS_MEM_ERR i) 1).noteReads ((List.range n).map (a + ·)), List.replicate n 0)

/-- Bytes written at a data port's address, which moves on past them; HELD and BUSY show a write that an interlock holds (R155). -/
def State.dportStore (s : State) (i : Nat) (bs : List Nat) : State :=
  let a := s.dportAddr i
  ((s.wr (Reg.DPORT_ADDR_ADDR i) ((a + bs.length) / 4)).write a bs (.port i)).portHeld i

/-- A write of bytes through a port (R155, R156), subject to the interlock. -/
def State.dportWrite (s : State) (i : Nat) (bs : List Nat) : State :=
  let a := s.dportAddr i
  if !s.on (Reg.DPORT_CTRL_EN i) then s
  else if !s.dportOpen a bs.length then s.wr (Reg.DPORT_STATUS_BOUNDS i) 1
  else s.dportStore i bs

/-- Prefetched bytes of a port. -/
def State.dport (s : State) (i : Nat) : DPort := Tab.get { ahead := 0 } s.dports i
def State.setAhead (s : State) (i n : Nat) : State :=
  { s with dports := Tab.set { ahead := 0 } s.dports i { ahead := n } }.wr (Reg.DPORT_STATUS_AHEAD i) n

/-! ## Writes of MEM_PROMOTE (R136) -/

/-- A planned promotion ends before its switch and mirroring stops: that of MEM_PROMOTE.PD, else the oldest
(notes/assumptions/71.md). -/
def State.abortPromotion (s : State) : State :=
  let l := s.memSt.promoting
  match l.find? (fun q => q.1 == s.rd Reg.MEM_PROMOTE_PD) with
  | some q => s.setPromoting (l.erase q)
  | none => s.setPromoting l.tail

/-- A write of MEM_PROMOTE: PD and RATE in their ranges (R447), then ABORT and START. -/
def State.writePromote (s : State) (src : Src) (value : Nat) : State :=
  let pd := bits value 0 5
  let rate := bits value 8 8
  let bad := decide (rate = 0) || decide (64 < rate) || decide (23 < pd)
  let t := s.when (decide (0 < rate) && decide (rate ≤ 64)) (fun t => t.wr Reg.MEM_PROMOTE_RATE rate)
  let t := t.when (decide (pd ≤ 23)) (fun t => t.wr Reg.MEM_PROMOTE_PD pd)
  let t := t.when bad (fun t => t.unsup src Reg.MEM_PROMOTE true)
  let t := t.when (bit value 6) (fun t => t.abortPromotion)
  t.when (bit value 5 && decide (pd ≤ 23)) (fun t => t.startPromotion pd)

/-! ## Meanings -/

/-- CPD_START (R145). -/
def execCpdStart (u : Nat) (s : State) : Host.Outcome State Fault Refusal := s.guarded (u < 22) (s.startCpd u)

/-- PATROL_SCRUB (R134): the next granule is read; a corrected one is rewritten and counted; of one that cannot be corrected a line,
a free one of its four, is recorded and fails from then on (R448, notes/assumptions/71.md). -/
def execPatrolScrub (r : MemRead) (s : State) : Host.Outcome State Fault Refusal :=
  .next (
    if !s.on Reg.MEM_SCRUB_EN then s
    else
      let a := s.memSt.scrubAt * 256
      let t := { s with memSt := { s.memSt with scrubAt := (s.memSt.scrubAt + 1) % (gddrSize / 256) } }
      match r with
      | .ok => t
      | .corrected => t.corrected (s.pdOf (ldOf a))
      | .uncorrectable =>
        let d := t.draw
        let line := a + 64 * (d.1 % 4)
        { d.2 with memSt := { d.2.memSt with bad := Tab.set false d.2.memSt.bad line true } }.uncorrectable line)

/-- COMMONS_SCRUB (R129): the next word of the commons is read, a corrected one is rewritten, one that cannot be corrected
fails from then on (R448). -/
def execCommonsScrub (r : MemRead) (s : State) : Host.Outcome State Fault Refusal :=
  .next (
    let a := commonsBase + s.memSt.commonsScrubAt * 8
    let t := { s with memSt := { s.memSt with commonsScrubAt := (s.memSt.commonsScrubAt + 1) % (commonsSize / 8) } }
    match r with
    | .ok => t
    | .corrected => t.memErr Reg.MEM_ERR_CORRECTED
    | .uncorrectable => { t with memSt := { t.memSt with bad := Tab.set false t.memSt.bad a true } })

/-- POSITION_RETIRE (R136): the standby of the position is promoted by a planned promotion. -/
def execPositionRetire (pd : Nat) (s : State) : Host.Outcome State Fault Refusal := s.guarded (pd < 24) (s.startPromotion pd)

/-- PLANNED_PROMOTION_START (R136): a write of MEM_PROMOTE with START. -/
def execPlannedPromotionStart (value : Nat) (s : State) : Host.Outcome State Fault Refusal :=
  s.fromPf 14 (.next (s.writePromote .pf (setBits value 5 1 1)))

/-- PROMOTION_ABORT (R136). -/
def execPromotionAbort (s : State) : Host.Outcome State Fault Refusal := s.fromPf 14 (.next s.abortPromotion)

/-- PROMOTION_SWITCH (R136): the copy has ended and its edge has come; the device moves with no data lost but the granules that
could not be read. -/
def execPromotionSwitch (s : State) : Host.Outcome State Fault Refusal := .next s.switchDevice

/-- SUDDEN_PROMOTION (R136). -/
def execSuddenPromotion (pd : Nat) (s : State) : Host.Outcome State Fault Refusal := s.guarded (pd < 24) (s.suddenLoss pd)

/-- An access through data port `i`: of the PF through DPORT0, of the Reeve through DPORT1, which the PF does not drive. -/
def State.viaPort (s : State) (i : Nat) (o : Host.Outcome State Fault Refusal) : Host.Outcome State Fault Refusal :=
  if i = 0 then s.fromPf 17 o else if s.pwr.off then .next s else o

/-- Bytes read through a data port are returned: to the PF by a completion, to the Reeve inside the module. -/
def State.portReturn (s : State) (i : Nat) (bs : List Nat) : State := s.when (i == 0) (fun t => t.emit (.completion 0 0 (leNat bs) bs.length))

/-- The agent that drives data port `i`. -/
def portSrc (i : Nat) : Src := if i = 0 then .pf else .reeve

/-- DPORT_DATA_READ (R155): four bytes at ADDR are returned and ADDR advances by 4. -/
def execDportDataRead (i : Nat) (s : State) : Host.Outcome State Fault Refusal :=
  s.viaPort i (s.guarded (i < 2) ((s.dportRead i 4).1.portReturn i (s.dportRead i 4).2))

/-- DPORT_DATA_WRITE (R155): four bytes stored at ADDR, and ADDR advances by 4. -/
def execDportDataWrite (i value : Nat) (s : State) : Host.Outcome State Fault Refusal :=
  s.viaPort i (s.guarded (i < 2) (s.dportWrite i (leBytes 4 value)))

/-- DPORT_APERTURE_READ (R155, R156): the burst is returned, with up to 4 KiB fetched ahead when PREFETCH is set. A length
that is not a multiple of 4 is refused whole. AHEAD shows 4,096 after every aperture read with PREFETCH on, a refused one too (DESIGN
CHOICE, notes/assumptions/55.md). -/
def execDportApertureRead (i len : Nat) (s : State) : Host.Outcome State Fault Refusal :=
  s.viaPort i (s.guarded (i < 2) (
    if len % 4 ≠ 0 then s.unsup (portSrc i) (0x1001000 + 0x10000 * i) false
    else
      let r := s.dportRead i len
      (r.1.when (s.on (Reg.DPORT_CTRL_PREFETCH i) && s.on (Reg.DPORT_CTRL_EN i)) (fun t => t.setAhead i 4096)).portReturn i r.2))

/-- DPORT_APERTURE_WRITE (R155): the payload is placed at ADDR in TLP byte order and ADDR advances by its length. -/
def execDportApertureWrite (i : Nat) (bytes : List Nat) (s : State) : Host.Outcome State Fault Refusal :=
  s.viaPort i (s.guarded (i < 2) (
    if bytes.length % 4 ≠ 0 then s.unsup (portSrc i) (0x1001000 + 0x10000 * i) true else s.dportWrite i bytes))

/-- DPORT_FLUSH (R156): prefetched bytes are discarded. -/
def execDportFlush (i : Nat) (s : State) : Host.Outcome State Fault Refusal := s.viaPort i (s.guarded (i < 2) (s.setAhead i 0))

end Sys2Proof.Machine
end

