-- ==== Sys2Proof/Machine/Rma.lean ====
section
/-! DEFINITION. Work requests of send and receive queues (chapter 09, R236 to R258). -/

namespace Sys2Proof.Machine

/-! ## WQE fields (Table 9.3) -/

def wqeFld (w : List Nat) (i lo n : Nat) : Nat := bits (w.getD i 0) lo n
def wqeOp (w : List Nat) : Nat := wqeFld w 0 0 4
def wqeArm (w : List Nat) : Nat := wqeFld w 0 12 2
def wqeTrig (w : List Nat) : Nat := wqeFld w 1 0 12
def wqeRepeat (w : List Nat) : Nat := wqeFld w 1 20 8
def wqeLen (w : List Nat) : Nat := wqeFld w 6 0 32
def wqeAlt (w : List Nat) : Nat := wqeFld w 7 0 32
/-- A 64-bit field of two words. -/
def wqe64 (w : List Nat) (i : Nat) : Nat := wqeFld w i 0 32 + wqeFld w (i + 1) 0 32 * 2 ^ 32
/-- LADDR of firing `f` (R253). -/
def wqeLaddr (w : List Nat) (f : Nat) : Nat := (wqe64 w 4 + f % 2 * wqeAlt w) % 2 ^ 64
/-- RADDR of firing `f` (R253). -/
def wqeRaddr (w : List Nat) (f : Nat) : Nat := (wqe64 w 8 + f % 2 * wqeAlt w) % 2 ^ 64

/-- The CPD of a COPY request at firing `f`: SRC and DST plus ALT on odd firings (R253). -/
def wqeCpd (w : List Nat) (f : Nat) : List Nat :=
  let c := (List.range 8).map (fun i => wqeFld w (8 + i) 0 32)
  let d := f % 2 * wqeAlt w
  let s := cpdSrc c + d
  let t := cpdDst c + d
  [c.getD 0 0, c.getD 1 0, s % 2 ^ 32, s / 2 ^ 32 % 2 ^ 16 + cpdSrcStride c * 2 ^ 16, t % 2 ^ 32, t / 2 ^ 32 % 2 ^ 16 + cpdDstStride c * 2 ^ 16, c.getD 6 0, c.getD 7 0]

/-! ## Checks at fetch (R8, R243, R255) -/

/-- The counter identifier names a defined counter (R113). -/
def counterDefined (id : Nat) : Bool := (id / 256 == 0 && decide (id < 16)) || (decide (1 ≤ id / 256) && decide (id / 256 ≤ 4) && decide (id % 256 < 64))

/-- The queue pair is one of the partition's raw queue pairs (R271). -/
def State.isRaw (s : State) (p q : Nat) : Bool :=
  decide (s.rd (Reg.PKT_RAW_BASE p) ≤ q) && decide (q < s.rd (Reg.PKT_RAW_BASE p) + s.rd (Reg.PKT_RAW_COUNT p))

/-- Words that no form of the operation uses are 0 (R241); a raw SEND uses RADDR and RKEY as R273 says. -/
def wqeUnusedOk (raw : Bool) (w : List Nat) : Bool :=
  let z (l : List Nat) : Bool := l.all (fun i => wqeFld w i 0 32 == 0)
  match wqeOp w with
  | 1 => z [12, 13, 14, 15]
  | 2 => z (if raw then [12, 13, 14, 15] else [8, 9, 10, 12, 13, 14, 15])
  | 3 => z [11, 12, 13, 14, 15]
  | 4 => z [11]
  | 5 => z [6, 8, 9, 11, 15] && wqeFld w 14 16 16 == 0
  | 6 => z [4, 5, 6, 7, 8, 9, 11, 12, 13, 14, 15]
  | 7 => z [4, 5, 6, 7, 8, 9, 10, 11, 12, 13, 14, 15]
  | 8 => z [4, 5, 6]
  | _ => z [8, 9, 10, 11, 12, 13, 14, 15]

/-- REJ_RESERVED of a request `w` by the rules that every queue shares; `own` is the send queue that a QWAIT may not name. -/
def wqeReservedBad (raw : Bool) (w : List Nat) (own : Option Nat) : Bool :=
  wqeArm w == 3 || wqeFld w 0 20 12 != 0 || wqeFld w 1 28 4 != 0 || !wqeUnusedOk raw w ||
  (if wqeOp w = 4 then wqeFld w 0 16 4 == 0 || decide (7 < wqeFld w 0 16 4) || !(wqeLen w == 4 || wqeLen w == 8) else wqeFld w 0 16 4 != 0) ||
  decide (2 ^ 31 < wqeLen w) || (wqeArm w == 1 && wqeRepeat w != 0 && wqeFld w 1 12 8 == 0) ||
  (wqeArm w == 2 && (wqeFld w 1 12 8 != 0 || wqeRepeat w != 0 || wqeAlt w != 0 || own == some (wqeTrig w))) ||
  (wqeOp w == 5 && (wqe64 w 12 == 0 || decide (2 ^ 40 < wqe64 w 12)))

/-- The operation belongs to the class of its queue (R242): 0x1 to 0x8 to a send queue, class 0, and 0x9 to a receive queue. -/
def wqeClassOk (cls : Nat) (w : List Nat) : Bool := if cls = 0 then decide (1 ≤ wqeOp w) && decide (wqeOp w ≤ 8) else wqeOp w == 9

/-- REJ_BOUNDS: a local range outside the grants or the slice, a TRIG that names nothing, a COPY whose CPD fails R143. Both
halves that ALT alternates are checked for a request that fires more than once. -/
def State.wqeBoundsBad (s : State) (p cls q : Nat) (w : List Nat) : Bool :=
  let halves := if wqeArm w = 1 ∧ wqeRepeat w ≠ 0 then [0, 1] else [0]
  (wqeArm w == 1 && !counterDefined (wqeTrig w)) || (wqeArm w == 2 && decide (s.queueCount p 0 ≤ wqeTrig w)) ||
  ((wqeOp w == 1 || wqeOp w == 2 || wqeOp w == 3 || wqeOp w == 4 || wqeOp w == 9) &&
    halves.any (fun f => !s.localOpen p (s.queue p cls q).slice (wqeLaddr w f) (wqeLen w))) ||
  (wqeOp w == 8 && halves.any (fun f => ((s.cpdReject p true none (s.count + 1) (wqeCpd w f)).isSome)))

/-! ## Fetching (R199, R240, R242, R243, R252) -/

/-- Host rings of the partition are quiesced (R199). -/
def State.quiesced (s : State) (p : Nat) : Bool := bit (s.rd Reg.PCI_QUIESCED_PARTS) p

/-- The host read of the queue's next entry is outstanding or held (R185). -/
def State.readingEntry (s : State) (p cls q : Nat) : Bool :=
  s.pci.reads.any (fun e => e.2.elim false (fun r => decide (r.use = .entry p cls q))) || s.pci.heldReads.any (fun h => decide (h.2.2.2.2 = .entry p cls q))

/-- The queue may take an entry, of 64 bytes in every class: enabled, granted, its partition in RUN, entries produced and not taken; one
in module memory only where the entry is open to the queue (R160, R169). -/
def State.mayTake (s : State) (p cls q : Nat) : Bool :=
  let r := s.queue p cls q
  decide (s.partState p = .run) && s.queueGranted p cls q && r.en && r.fetchAt != r.pi && s.ringOpen p r (r.fetchAt % 2 ^ r.logN * 64) 64

/-- The queue may fetch an entry now; from a host ring only while it is not quiesced, its function may request and no read of the entry is
under way (R185, R190, R199). -/
def State.mayFetch (s : State) (p cls q : Nat) : Bool :=
  s.mayTake p cls q &&
  (decide (2 ^ 63 ≤ (s.queue p cls q).base) ||
    (!s.quiesced p && !s.readingEntry p cls q && (s.funcOf p).elim false (fun f => s.mayRequest f)))

/-- Where the next entry lies in the ring. -/
def Queue.entryAt (r : Queue) : Nat := r.base % 2 ^ 63 % (if r.base < 2 ^ 63 then 2 ^ 63 else 2 ^ 48) + r.fetchAt % 2 ^ r.logN * 64

/-- Words of the ring entry fetched next: from module memory for a ring there, else the words the host's read returned
(notes/assumptions/7.md). -/
def State.ringWords (s : State) (p cls q : Nat) (host : List Nat) : List Nat :=
  let r := s.queue p cls q
  if r.base < 2 ^ 63 then (List.range 16).map (fun i => host.getD i 0 % 2 ^ 32)
  else (List.range 16).map (fun i => leNat (s.readVia p true (r.entryAt + 4 * i) 4))

/-- The fetch of an entry (R185, R240): its words go to `take`; a read that fails gives no words and its cause, true for an uncorrectable
read of module memory (R135), false for a host read that failed. With no words the command is the host read itself, whose completion takes
the entry (notes/assumptions/7.md). -/
def State.fetchEntry (s : State) (p cls q : Nat) (host : List Nat) (take : State → List Nat → Option Bool → State) : State :=
  let r := s.queue p cls q
  if r.base < 2 ^ 63 ∧ host = [] then s.hostRead p (s.pasidOf p r.slice) r.entryAt 64 (.entry p cls q)
  else if 2 ^ 63 ≤ r.base ∧ !s.readableVia p true r.entryAt 64 then take (s.noteVia p r.entryAt 64) (List.replicate 16 0) (some true)
  else take s (s.ringWords p cls q host) none

/-- The status of a request whose entry could not be read (Table 9.5). -/
def entryStatus : Option Bool → Option Nat
  | none => none
  | some true => some 9
  | some false => some 8

/-- The entry at the fetch index is taken: the index advances. -/
def State.tookEntry (s : State) (p cls q : Nat) : State :=
  s.setQueue p cls q { (s.queue p cls q) with fetchAt := ((s.queue p cls q).fetchAt + 1) % 65536 }

/-- A request as it is fetched: ended by a read that failed, rejected by its checks, armed, or ready to run (R242, R243, R252). -/
def State.checkedWqe (s : State) (p cls q : Nat) (w : List Nat) (fail : Option Bool) : Wqe :=
  let stage : WqeStage :=
    match entryStatus fail with
    | some st => .finished st
    | none =>
      if !wqeClassOk cls w || wqeReservedBad (cls == 0 && s.isRaw p q) w (if cls = 0 then some q else none) then .finished 1
      else if s.wqeBoundsBad p cls q w then .finished 2
      else if wqeArm w = 0 then .waiting else .armed
  { idx := (s.queue p cls q).fetchAt, words := w, firing := 0, trigVal := wqeFld w 2 0 32, bell := s.count, since := s.count, stage := stage, info := 0 }

/-- The next request of a send queue is taken with its checks (R240, R242, R252). -/
def State.takeWqe (s : State) (p q : Nat) (w : List Nat) (fail : Option Bool) : State :=
  let l := s.wqesOf p q ++ [s.checkedWqe p 0 q w fail]
  ((s.tookEntry p 0 q).setWqes p q l).postFront p q l.length

/-- A send queue's head is held: by an armed request, or by one whose last firing has not been handed to its block (R252, R253). -/
def State.headHeld (s : State) (p q : Nat) : Bool :=
  (s.wqesOf p q).any (fun w => decide (w.stage = .armed) || (wqeArm w.words != 0 && decide (w.stage = .waiting)))

/-- WQE_FETCH: one request fetched and checked; no request is fetched behind one that holds the head (R243, R252, R253, R255). -/
def State.fetchWqe (s : State) (p q : Nat) (host : List Nat) : State :=
  if !s.mayFetch p 0 q || s.headHeld p q then s
  else s.fetchEntry p 0 q host (fun t w e => t.takeWqe p q w e)

/-! ## Running a fetched request (R233, R234, R242) -/

/-- The request at ring index `idx` of the queue that waits to run with operation `op`: everything before it has started,
its FENCE holds, and its partition is in RUN. -/
def State.wqeReady (s : State) (p q idx op : Nat) : Option Wqe :=
  let l := s.wqesOf p q
  match l.findIdx? (fun w => w.idx == idx && decide (w.stage = .waiting)) with
  | none => none
  | some i =>
    match l[i]? with
    | none => none
    | some w =>
      let before := l.take i
      if wqeOp w.words = op && decide (s.partState p = .run) && before.all (fun e => decide (e.stage ≠ .waiting)) &&
          (wqeFld w.words 0 14 1 == 0 || before.all (fun e => !(wqeOp e.words == 3 || wqeOp e.words == 4) || decide (e.stage ≠ .running)))
      then some w else none

/-- The request is running. -/
def State.startWqe (s : State) (p q : Nat) (w : Wqe) : State :=
  s.setWqes p q ((s.wqesOf p q).map (fun e => if e.idx == w.idx && e.firing == w.firing && decide (e.stage = .waiting) then { e with stage := .running } else e))

/-- The request of an operation runs `f` when it is ready. -/
def State.runWqe (s : State) (p q idx op : Nat) (f : State → Wqe → State) : State :=
  match s.wqeReady p q idx op with
  | none => s
  | some w => f s w

/-- The request's message is handed to its connection; FLUSHED with no connection in RTS, waiting under R234. -/
def State.onConn (s : State) (p q : Nat) (w : Wqe) (f : State → Nat → State) : State :=
  match s.connFor p q with
  | none => s.endWqe p q w.idx w.firing 3 0
  | some c => if s.mayHand c then f (s.startWqe p q w) c else s

/-- A WRITE or SEND: a message of LEN bytes from LADDR (R242). -/
def State.sendWqe (s : State) (p q : Nat) (w : Wqe) (typ : Nat) (ext : List Nat) : State :=
  let la := wqeLaddr w.words w.firing
  let n := wqeLen w.words
  let slice := (s.queue p 0 q).slice
  s.onConn p q w (fun t c =>
    if !s.payloadOk p la n then (t.noteVia p (la % 2 ^ 48) n).endWqe p q w.idx w.firing 9 0
    else t.handMessage c { (TxMsg.new typ ext n (s.localRead p la n) (.wqe p q w.idx w.firing) la slice) with imm := wqeFld w.words 0 15 1 == 1 }
      (if la < 2 ^ 63 ∧ n ≠ 0 then some la else none))

/-- A READ or an ATOMIC: a request whose answer is placed at LADDR (R242, R244). -/
def State.askWqe (s : State) (p q : Nat) (w : Wqe) (typ : Nat) (ext : List Nat) : State :=
  s.onConn p q w (fun t c =>
    t.handMessage c (TxMsg.new typ ext (if typ = 3 then wqeLen w.words else 0) [] (.wqe p q w.idx w.firing) (wqeLaddr w.words w.firing) (s.queue p 0 q).slice) none)

/-- R236: REG fails. A region lies in GDDR7, the commons, a tile store or host memory, not in a tending core's local memory. -/
def State.regBad (s : State) (p q : Nat) (w : Wqe) : Bool :=
  let i := bits (w.words.getD 10 0) 0 18
  let la := wqeLaddr w.words w.firing
  let n := wqe64 w.words 12
  (s.region p i).valid || decide (s.regionCount p ≤ i) || !s.localOpen p (s.queue p 0 q).slice la n ||
  (decide (2 ^ 63 ≤ la) && (match spaceOf (la % 2 ^ 48) with
    | .tcLocal _ _ _ => true
    | _ => false)) ||
  (wqeFld w.words 14 2 1 == 1 && (decide (la < 2 ^ 63) || !(match spaceOf (la % 2 ^ 48) with
    | .gddr _ => true
    | .commons _ => true
    | _ => false)))

/-- REG makes the region entry valid under its next generation and answers its key (R236). -/
def State.registerRegion (s : State) (p q : Nat) (w : Wqe) : State :=
  let i := bits (w.words.getD 10 0) 0 18
  let g := ((s.region p i).gen + 1) % 256
  let r : Region := { gen := g, valid := true, base := wqeLaddr w.words w.firing, len := wqe64 w.words 12, rights := wqeFld w.words 14 0 4,
                      qp := wqeFld w.words 14 4 12, slice := (s.queue p 0 q).slice, inval := (s.region p i).inval }
  (s.setRegion p i r).endWqe p q w.idx w.firing 0 (g * 2 ^ 24 + i)

/-- REG (R236): the entry takes the next generation, base, length and rights, and becomes valid; the key is returned. -/
def State.regWqe (s : State) (p q : Nat) (w : Wqe) : State :=
  if s.regBad p q w then s.endWqe p q w.idx w.firing 0xA 0
  else
    s.registerRegion p q w

/-- INVAL (R236, R239): a valid entry whose key matches is cleared; the request ends when no open message is bound to its
generation. -/
def State.invalWqe (s : State) (p q : Nat) (w : Wqe) : State :=
  let key := w.words.getD 10 0
  let i := bits key 0 18
  let r := s.region p i
  if !r.valid || r.gen != bits key 24 8 || bits key 18 6 != 0 || decide (s.regionCount p ≤ i) then s.endWqe p q w.idx w.firing 0xA 0
  else ((s.startWqe p q w).setRegion p i
    { r with valid := false, inval := r.inval ++ [{ q := q, idx := w.idx, firing := w.firing, gen := r.gen, base := r.base, len := r.len, since := s.now }] }).settleInvals p

/-- COPY (R253): the embedded CPD enters its copy engine's queue with the bell in progress at its firing, for an unarmed request the
bell of its fetch (notes/assumptions/72.md); it waits while the queue or the log has no room (R144, R149). -/
def State.copyWqe (s : State) (p q : Nat) (w : Wqe) : State :=
  let c := wqeCpd w.words w.firing
  let u := s.cpdUnit c
  let bell := trunc 64 ((w.bell : Int) + sext 16 (cpdFld c 1 0 16))
  if !s.cpdRoom u p c then s.when (s.logFull u p c) (fun t => t.cpyErr u Reg.CPY_ERR_LOG_FULL)
  else (s.startWqe p q w).acceptCpd u p true none (.wqe p q (w.idx + 65536 * w.firing)) bell s.count c

/-! ## Receiving (R242, R243, R250) -/

/-- The next request of a receive queue is taken with its checks (R242, R250, R252). -/
def State.takeRecv (s : State) (p q : Nat) (w : List Nat) (fail : Option Bool) : State :=
  let l := s.recvsOf p q ++ [s.checkedWqe p 1 q w fail]
  ((s.tookEntry p 1 q).setRecvs p q l).postRecvFront p q l.length

/-- RECV: a receive buffer fetched and checked; refused ones complete in ring order. None is fetched behind an armed one (R252). -/
def State.postRecvWqe (s : State) (p q : Nat) (host : List Nat) : State :=
  if !s.mayFetch p 1 q || (s.recvsOf p q).any (fun w => decide (w.stage = .armed)) then s
  else s.fetchEntry p 1 q host (fun t w e => t.takeRecv p q w e)

/-! ## Armed requests (R252 to R255) -/

/-- One firing of the armed request at the head in bell `bell`: an entry that waits to run, with the firing's number; the armed entry
keeps the rest, and goes with its last firing (R253). -/
def fireHead (bell : Nat) : List Wqe → List Wqe
  | [] => []
  | w :: r =>
    if decide (w.stage = .armed) then
      let fired : Wqe := { w with stage := .waiting, bell := bell }
      if wqeArm w.words ≠ 1 ∨ (w.firing = wqeRepeat w.words ∧ wqeRepeat w.words ≠ 255) then fired :: r
      else fired :: { w with firing := w.firing + 1, trigVal := (w.trigVal + wqeFld w.words 1 12 8) % 2 ^ 32 } :: r
    else w :: fireHead bell r

/-- The armed request of a list of fetched ones. -/
def armedOf (l : List Wqe) : Option Wqe := l.find? (fun w => decide (w.stage = .armed))

/-- The armed request's trigger is met and its partition is in RUN (R252, R254, R255). -/
def State.trigMet (s : State) (p : Nat) (w : Wqe) : Bool :=
  decide (s.partState p = .run) &&
  (if wqeArm w.words = 1 then decide (0 ≤ sdiff (s.counter p (wqeTrig w.words)) w.trigVal)
   else decide (0 ≤ sdiff (s.queue p 0 (wqeTrig w.words)).w5 w.trigVal))

/-- The armed request of a list of fetched ones fires when its kind is `arm` and its trigger is met. -/
def State.fired (s : State) (p arm : Nat) (l : List Wqe) : List Wqe :=
  match armedOf l with
  | none => l
  | some w => if wqeArm w.words = arm ∧ s.trigMet p w then fireHead s.count l else l

/-- The armed request of a send queue, or of a receive queue, fires (R252 to R255). -/
def State.fire (s : State) (p q arm : Nat) (recv : Bool) : State :=
  if recv then s.setRecvs p q (s.fired p arm (s.recvsOf p q)) else s.setWqes p q (s.fired p arm (s.wqesOf p q))

/-- EN of a send queue is cleared (R254): a trigger that is met fires, and what fired and has not been handed over completes before the
reset takes effect. -/
def State.clearSend (s : State) (p q : Nat) : State :=
  let t := (s.fire p q 1 false).fire p q 2 false
  if (t.wqesOf p q).any (fun w => wqeArm w.words != 0 && decide (w.stage = .waiting)) then
    t.setQueue p 0 q { t.queue p 0 q with en := false, latched := none, closing := true }
  else t.flushSend p q

/-- EN of a receive queue is cleared: a trigger that is met posts its buffer, and the reset takes effect (notes/assumptions/15.md). -/
def State.clearRecv (s : State) (p q : Nat) : State := ((s.fire p q 1 true).fire p q 2 true).flushRecv p q

/-! ## Meanings -/

/-- WQE_FETCH (R243). -/
def execWqeFetch (p q : Nat) (words : List Nat) (s : State) : Host.Outcome State Fault Refusal := s.guarded (p < 64 && q < 4096) (s.fetchWqe p q words)

/-- WRITE (R242): a message of LEN bytes from LADDR to RADDR under RKEY. -/
def execWrite (p q idx : Nat) (s : State) : Host.Outcome State Fault Refusal :=
  s.guarded (p < 64 && q < 4096) (s.runWqe p q idx 1 (fun t w => t.sendWqe p q w 1 [w.words.getD 10 0, wqeRaddr w.words w.firing, w.words.getD 11 0]))

/-- SEND (R250): a message of LEN bytes from LADDR to the peer's receive buffer; a raw queue pair has its own row. -/
def execSend (p q idx : Nat) (s : State) : Host.Outcome State Fault Refusal :=
  s.guarded (p < 64 && q < 4096) (if s.isRaw p q then s else s.runWqe p q idx 2 (fun t w => t.sendWqe p q w 2 [w.words.getD 11 0]))

/-- READ (R242): LEN bytes from RADDR under RKEY, placed at LADDR. -/
def execRead (p q idx : Nat) (s : State) : Host.Outcome State Fault Refusal :=
  s.guarded (p < 64 && q < 4096) (s.runWqe p q idx 3 (fun t w => t.askWqe p q w 3 [w.words.getD 10 0, wqeRaddr w.words w.firing, wqeLen w.words]))

/-- ATOMIC (R244): an atomic at the responder; the old value is written to LADDR. -/
def execAtomic (p q idx : Nat) (s : State) : Host.Outcome State Fault Refusal :=
  s.guarded (p < 64 && q < 4096) (s.runWqe p q idx 4 (fun t w =>
    t.askWqe p q w 5 [wqeFld w.words 0 16 4 + (if wqeLen w.words = 8 then 256 else 0), w.words.getD 10 0, wqeRaddr w.words w.firing, wqe64 w.words 12, wqe64 w.words 14]))

/-- REG (R236). -/
def execReg (p q idx : Nat) (s : State) : Host.Outcome State Fault Refusal :=
  s.guarded (p < 64 && q < 4096) (s.runWqe p q idx 5 (fun t w => t.regWqe p q w))

/-- INVAL (R239). -/
def execInval (p q idx : Nat) (s : State) : Host.Outcome State Fault Refusal :=
  s.guarded (p < 64 && q < 4096) (s.runWqe p q idx 6 (fun t w => t.invalWqe p q w))

/-- WQE_NOP (R242): completes at once. -/
def execWqeNop (p q idx : Nat) (s : State) : Host.Outcome State Fault Refusal :=
  s.guarded (p < 64 && q < 4096) (s.runWqe p q idx 7 (fun t w => t.endWqe p q w.idx w.firing 0 0))

/-- COPY (R253): the embedded CPD is queued. -/
def execCopy (p q idx : Nat) (s : State) : Host.Outcome State Fault Refusal :=
  s.guarded (p < 64 && q < 4096) (s.runWqe p q idx 8 (fun t w => t.copyWqe p q w))

/-- RECV (R250): a receive buffer is posted. -/
def execRecv (p q : Nat) (words : List Nat) (s : State) : Host.Outcome State Fault Refusal := s.guarded (p < 64 && q < 4096) (s.postRecvWqe p q words)

/-- ARMED_FIRE (R252): the counter of the armed request of a send or receive queue has met its trigger; the request runs. -/
def execArmedFire (p : Nat) (q : WorkQueue) (s : State) : Host.Outcome State Fault Refusal := s.guarded (p < 64 && q.num < 4096) (s.fire p q.num 1 q.isRecv)

/-- QWAIT_FIRE (R255): DONE_COUNT of the named send queue has met the trigger; the request runs. -/
def execQwaitFire (p : Nat) (q : WorkQueue) (s : State) : Host.Outcome State Fault Refusal := s.guarded (p < 64 && q.num < 4096) (s.fire p q.num 2 q.isRecv)

/-- INVAL_WAIT_EXPIRY (R239): for the INVAL of the entry that has waited longest, connections that still hold an open message bound to
its generation enter ERROR, INVAL_FORCED is raised, and then the INVAL completes. -/
def execInvalWaitExpiry (p idx : Nat) (s : State) : Host.Outcome State Fault Refusal :=
  s.guarded (p < 64 && idx < 262144) (
    match (s.region p idx).inval with
    | [] => s
    | v :: _ =>
      let cs := (s.conns.filter (fun e => e.2.part == p && (e.2.opens.any (fun m => m.boundTo idx v.gen) || e.2.msgs.any (fun m => m.boundTo idx v.gen)))).map Prod.fst
      let t := cs.foldl (fun t c => t.connBreak c none 3) (s.atTime (v.since + s.rd Reg.RKT_RMA_CFG_INVAL_WAIT * 4000000))
      let t := t.when (decide (v.base < 2 ^ 63)) (fun t => t.dropHeldInto p v.base v.len)
      (t.asyncEvent p 0x0B 0xFFFF (v.gen * 2 ^ 24 + idx)).settleInvals p)

end Sys2Proof.Machine
end

