-- ==== Sys2Proof/Machine/Block.lean ====
section
/-! DEFINITION. The block service and the media ports (chapter 11). -/

namespace Sys2Proof.Machine

/-! ## Fields of a command (Table 11.2) -/

def bscFld (w : List Nat) (i lo n : Nat) : Nat := bits (w.getD i 0) lo n
def bscOp (w : List Nat) : Nat := bscFld w 0 0 8
def bscVol (w : List Nat) : Nat := bscFld w 1 0 10
def bscSlba (w : List Nat) : Nat := bscFld w 2 0 32 + bscFld w 3 0 32 * 2 ^ 32
def bscNlb (w : List Nat) : Nat := bscFld w 4 0 16 + 1
def bscDaddr (w : List Nat) : Nat := bscFld w 6 0 32 + bscFld w 7 0 32 * 2 ^ 32
def bscList (w : List Nat) : Nat := bscFld w 8 0 32 + bscFld w 9 0 32 * 2 ^ 32
def bscPaged (w : List Nat) : Bool := bscFld w 0 17 2 == 1
def bscRanges (w : List Nat) : Nat := bscFld w 10 0 8 + 1

/-- Block size of a volume (R288). -/
def State.volBlock (s : State) (v : Nat) : Nat := if s.on (Reg.BLK_VOL_BS v) then 4096 else 512

/-- Bytes that a command moves to or from its buffer; the ranges of a TRIM are its buffer. -/
def State.bscBytes (s : State) (w : List Nat) : Nat :=
  match bscOp w with
  | 1 | 2 => bscNlb w * s.volBlock (bscVol w)
  | 4 => 16 * bscRanges w
  | 5 => bscFld w 11 0 32
  | _ => 0

/-- Entries of the page list: one for each 4 KiB page after the first. -/
def bscPages (w : List Nat) (n : Nat) : Nat := ceilDiv (n - (4096 - bscDaddr w % 4096)) 4096

/-- The pieces of the buffer, in order: local address and length (R292). -/
def bscPieces (w list : List Nat) (n : Nat) : List (Nat × Nat) :=
  if n = 0 then []
  else if bscPaged w then
    let first := min n (4096 - bscDaddr w % 4096)
    (bscDaddr w, first) :: (List.range (bscPages w n)).map (fun i => (list.getD i 0, min 4096 (n - first - 4096 * i)))
  else [(bscDaddr w, n)]

/-- Where a command's page list stands and how many 8-byte entries it has (R292). -/
def State.bscListAt (s : State) (w : List Nat) : Nat × Nat :=
  if bscPaged w && (bscOp w == 1 || bscOp w == 2 || bscOp w == 4 || bscOp w == 5) then (bscList w, bscPages w (s.bscBytes w)) else (0, 0)

/-- Little-endian 8-byte words of a list of bytes. -/
def dwords (bs : List Nat) : List Nat := (List.range (bs.length / 8)).map (fun i => leNat ((bs.drop (8 * i)).take 8))

/-- `n` 8-byte entries of a list in module memory. -/
def State.listWords (s : State) (p a n : Nat) : List Nat := dwords (s.readVia p true (a % 2 ^ 48) (8 * n))

/-- The bytes of a buffer's pieces: those in module memory, and those of the host in order from `host`. -/
def State.pieceBytes (s : State) (p : Nat) : List (Nat × Nat) → List Nat → List Nat
  | [], _ => []
  | x :: r, host =>
    if x.1 < 2 ^ 63 then (List.range x.2).map (fun i => host.getD i 0 % 256) ++ s.pieceBytes p r (host.drop x.2)
    else s.readVia p true (x.1 % 2 ^ 48) x.2 ++ s.pieceBytes p r host

/-- Bytes of the host among a buffer's pieces. -/
def hostBytes (ps : List (Nat × Nat)) : Nat := ((ps.filter (fun x => decide (x.1 < 2 ^ 63))).map (·.2)).sum

/-- The pieces of module memory read without error (R135). -/
def State.piecesOk (s : State) (p : Nat) (ps : List (Nat × Nat)) : Bool :=
  ps.all (fun x => decide (x.1 < 2 ^ 63) || s.readableVia p true (x.1 % 2 ^ 48) x.2)

/-- Their failing lines are recorded (R134). -/
def State.notePieces (s : State) (p : Nat) (ps : List (Nat × Nat)) : State :=
  ps.foldl (fun t x => t.when (decide (2 ^ 63 ≤ x.1)) (fun t => t.noteVia p (x.1 % 2 ^ 48) x.2)) s

/-! ## Checks at fetch (R293) -/

/-- Words that the opcode does not use are 0 (R292). -/
def bscUnusedOk (w : List Nat) : Bool :=
  let z (l : List Nat) : Bool := l.all (fun i => bscFld w i 0 32 == 0)
  let pages := if bscPaged w then [] else [8, 9]
  z [12, 13, 14, 15] && (match bscOp w with
    | 1 | 2 => z ([10, 11] ++ pages)
    | 3 => z [2, 3, 4, 6, 7, 8, 9, 10, 11]
    | 4 => z ([2, 3, 4, 11] ++ pages)
    | 5 => z ([2, 3, 4] ++ pages)
    | _ => z [2, 3, 4, 6, 7, 8, 9, 11])

def bscReservedBad (w : List Nat) : Bool :=
  bscOp w == 0 || decide (6 < bscOp w) || bscFld w 0 19 13 != 0 || decide (2 ≤ bscFld w 0 17 2) || bscFld w 1 10 22 != 0 ||
  bscFld w 4 16 16 != 0 || bscFld w 10 20 12 != 0 || !bscUnusedOk w ||
  (bscOp w == 6 && !(bscFld w 10 16 4 == 1 || bscFld w 10 16 4 == 2 || bscFld w 10 16 4 == 15))

def State.bscBoundsBad (s : State) (p slice : Nat) (w list ranges : List Nat) : Bool :=
  let v := bscVol w
  let cap := s.rd (Reg.BLK_VOL_CAP v)
  let a := s.bscListAt w
  !s.on (Reg.BLK_VOL_EN v) || s.rd (Reg.BLK_VOL_PART v) != p ||
  ((bscOp w == 1 || bscOp w == 2) && decide (cap < bscSlba w + bscNlb w)) ||
  (bscOp w == 4 && (List.range (bscRanges w)).any (fun i => decide (cap < ranges.getD (2 * i) 0 + max (ranges.getD (2 * i + 1) 0) 1))) ||
  !(a.2 == 0 || s.localOpen p slice a.1 (8 * a.2)) ||
  (bscPieces w list (s.bscBytes w)).any (fun x => !s.localOpen p slice x.1 x.2)

def State.bscShapeBad (s : State) (w : List Nat) : Bool :=
  decide (2 ^ 20 < s.bscBytes w) || (bscPaged w && bscDaddr w % 4 != 0) ||
  (bscOp w == 5 && (!(bscFld w 10 8 8 == 1 || bscFld w 10 8 8 == 2 || bscFld w 10 8 8 == 6) ||
    s.bscBytes w % 4 != 0 || s.bscBytes w == 0 || decide (65536 < s.bscBytes w)))

def State.bscDenied (s : State) (w : List Nat) : Bool :=
  (bscOp w == 5 || bscOp w == 6) && (!s.on (Reg.BLK_VOL_ADMIN (bscVol w)) || decide (2 ≤ s.rd (Reg.BLK_VOL_BACKING (bscVol w))))

/-- The status of a command that fails a check, in the order of R293; MEM_ERR when its page list or its ranges cannot be read (R135). -/
def State.bscReject (s : State) (p slice : Nat) (w list ranges : List Nat) : Option Nat :=
  let a := s.bscListAt w
  if bscReservedBad w then some 1
  else if (2 ^ 63 ≤ a.1 && !s.readableVia p true (a.1 % 2 ^ 48) (8 * a.2)) ||
      (bscOp w == 4 && !s.piecesOk p (bscPieces w list (s.bscBytes w))) then some 6
  else if s.bscBoundsBad p slice w list ranges then some 2
  else if s.bscShapeBad w then some 3
  else if s.bscDenied w then some 0xB
  else none

/-! ## The set of fetched commands -/

def State.blkCmd (s : State) (id : Nat) : Option BlkCmd := s.blk.cmds.find? (fun d => d.id == id)
def State.setBlk (s : State) (d : BlkCmd) : State := { s with blk := { s.blk with cmds := s.blk.cmds.map (fun e => if e.id == d.id then d else e) } }

/-- Backing of a command's volume: 0 and 1 the media ports, 2 remote. -/
def State.backing (s : State) (d : BlkCmd) : Nat := s.rd (Reg.BLK_VOL_BACKING (bscVol d.words))

/-- MED_STATUS.OUTSTANDING: commands on an SSD. -/
def State.ssdLoad (s : State) (m : Nat) : Nat :=
  (s.blk.cmds.filter (fun d => decide (d.stage = .dispatched) && bscOp d.words != 6 && s.backing d == m)).length

/-- BLK_STATUS.STAGE: staging in use, 64 KiB units. -/
def State.blkStaged (s : State) : Nat :=
  (s.blk.cmds.map (fun d =>
    if d.stage = .listing ∨ (d.stage = .fetched ∧ d.missing = 0) then 0 else if bscOp d.words = 1 ∨ bscOp d.words = 2 ∨ bscOp d.words = 5 then ceilDiv (s.bscBytes d.words) 65536 else 0)).sum

/-- RESETTING of a queue (R299): a command of it that was fetched before its reset has not ended. -/
def State.blkResetting (s : State) (p q : Nat) : Bool :=
  s.blk.cmds.any (fun d => d.part == p && d.queue == q && (d.kill.isSome || !(s.queue p 3 q).en))

/-- BLK_EVENT and MED_EVENT bits go to vector 8. -/
def State.blkEvent (s : State) (f : Fld) : State := s.event f Reg.BLK_EVENT_EN_EN 8
def State.medEvent (s : State) (m : Nat) (f : Nat → Fld) : State := s.event (f m) (Reg.MED_EVENT_EN_EN m) 8

/-- Test time passes only while the SSD has no command outstanding (R306): it is brought up to now. -/
def State.settleTests (s : State) : State :=
  s.each 2 (fun m t =>
    match Tab.get none t.blk.tests m with
    | none => t
    | some x =>
      let n := x.time + (if t.ssdLoad m = 0 then t.now - x.since else 0)
      { t with blk := { t.blk with tests := Tab.set none t.blk.tests m (some { x with time := n, since := t.now }) } }.wr (Reg.MED_TEST_TEST_TIME m) (n / 4000000000))

/-- The interlock holds bytes of the command's buffer (R151, R295). -/
def State.blkHeld (s : State) (id : Nat) : Bool := s.memSt.held.any (fun h => decide (h.who = .blk id))

/-- A command ends, once (R294, R300): its reset's status in place of its own, its records and events, its bump, its CQE. -/
def State.blkEnd (s : State) (d : BlkCmd) (st0 nvme : Nat) : State :=
  let st := d.kill.getD st0
  let w0 := d.words.getD 0 0
  let r := s.queue d.part 3 d.queue
  let s := s.settleTests
  let t := { s with blk := { s.blk with cmds := s.blk.cmds.filter (fun e => e.id != d.id), stage := s.blk.stage.filter (fun e => e.1 / 2 ^ 21 != d.id) } }
  let t := t.when (st == 4) (fun t => t.incSat Reg.BLK_STATS_ABORTED 1)
  let t := t.when (st != 0) (fun t =>
    ((((t.wr Reg.BLK_ERR_INFO_STATUS st).wr Reg.BLK_ERR_INFO_PART d.part).wr Reg.BLK_ERR_INFO_NVME (if st = 7 then nvme else 0)).wr
      Reg.BLK_ERR_INFO_VOL (bscVol d.words)).wr Reg.BLK_ERR_INFO_QUEUE d.queue)
  let t := match st with
    | 6 => t.blkEvent Reg.BLK_EVENT_MEM_ERR
    | 7 => t.blkEvent Reg.BLK_EVENT_MEDIA_ERR
    | 8 => t.blkEvent Reg.BLK_EVENT_REMOTE_ERR
    | 1 | 2 | 3 | 0xB => t.blkEvent Reg.BLK_EVENT_REJECT
    | _ => t
  if d.silent then t
  else
    let t := t.when (st == 0 && bit w0 9) (fun t => t.bump d.part (0x300 + bits w0 10 6))
    t.when (bit w0 8) (fun t => t.postCqe d.part (bits r.w4 0 12)
      { status := st, kind := 5, op := 0, imm := false, queue := d.queue, index := 0, info := 0, user := d.words.getD 5 0 })

/-- `f` on a fetched command of an operation, when it is one. -/
def State.onBlk (s : State) (id op : Nat) (f : BlkCmd → State) : State :=
  match s.blkCmd id with
  | none => s
  | some d => if bscOp d.words = op then f d else s

/-! ## Arbitration (R297, R298) -/

/-- Time at which the doorbell that made ring index `idx` visible came: the first whose index lies beyond it, counted from the fetch
index (R298). -/
def State.blkAge (s : State) (p q idx : Nat) : Nat :=
  let at0 := (s.queue p 3 q).fetchAt
  let far (i : Nat) : Nat := (i + 65536 - at0) % 65536
  ((Tab.get [] s.blk.bells (qkey p 3 q)).find? (fun e => decide (far idx < (far e.1 + 65535) % 65536 + 1))).elim 0 (·.2)

/-- Class of a queue's head: 0 for an URGENT queue or a promoted command, else the queue's class. -/
def State.headClass (s : State) (p q : Nat) : Nat :=
  let r := s.queue p 3 q
  if bits r.w4 12 2 = 0 ∨ r.fetchAt ∈ Tab.get [] s.blk.promoted (qkey p 3 q) then 0 else bits r.w4 12 2

/-- Submission queues with a command to fetch. -/
def State.blkHeads (s : State) : List (Nat × Nat) :=
  if 8192 ≤ s.blk.cmds.length then []
  else s.queues.filterMap (fun e =>
    let p := e.1 / 4096 / 4
    let q := e.1 % 4096
    if e.1 / 4096 % 4 = 3 ∧ q < 2048 ∧ s.mayFetch p 3 q then some (p, q) else none)

/-- The number after `last` in a list, round robin. -/
def nextAfter (l : List Nat) (last : Nat) : Nat :=
  let hi := l.filter (fun x => decide (last < x))
  if hi.isEmpty then l.foldl min (l.headD 0) else hi.foldl min (hi.headD 0)

/-- The class served next and what is then left of its weight, from a class and what is left of it; `fuel` is the number of
classes to try. -/
def weighted (weight : Nat → Nat) (has : Nat → Bool) : Nat → Nat → Nat → Option (Nat × Nat)
  | _, _, 0 => none
  | c, left, fuel + 1 => if has c && decide (0 < left) then some (c, left - 1) else weighted weight has (c % 3 + 1) (weight (c % 3 + 1)) fuel

/-- The queue whose head is fetched next: the oldest URGENT head, else by weighted round robin of the classes, then of their
partitions, then of their queues. -/
def State.blkPick (s : State) : Option (State × Nat × Nat) :=
  let heads := s.blkHeads
  let age (h : Nat × Nat) : Nat := s.blkAge h.1 h.2 (s.queue h.1 3 h.2).fetchAt
  let urgent := heads.filter (fun h => s.headClass h.1 h.2 == 0)
  match urgent with
  | h :: r => let b := r.foldl (fun b x => if age x < age b then x else b) h; some (s, b.1, b.2)
  | [] =>
    let ofClass (c : Nat) : List (Nat × Nat) := heads.filter (fun h => s.headClass h.1 h.2 == c)
    let weight (c : Nat) : Nat := match c with
      | 1 => s.rd Reg.BLK_CFG_WH
      | 2 => s.rd Reg.BLK_CFG_WM
      | _ => s.rd Reg.BLK_CFG_WL
    match weighted weight (fun c => !(ofClass c).isEmpty) s.blk.roundClass s.blk.roundLeft 4 with
    | none => none
    | some (c, left) =>
      let p := nextAfter ((ofClass c).map (·.1)) (Tab.get 64 s.blk.lastPart c)
      let q := nextAfter (((ofClass c).filter (fun h => h.1 == p)).map (·.2)) (Tab.get 4096 s.blk.lastQueue (c * 64 + p))
      some ({ s with blk := { s.blk with
        roundClass := c
        roundLeft := left
        lastPart := Tab.set 64 s.blk.lastPart c p
        lastQueue := Tab.set 4096 s.blk.lastQueue (c * 64 + p) q } }, p, q)

/-- A fetched command whose list and ranges are known is checked; one that fails a check ends with its status (R289 to R293). -/
def State.checkBsc (s : State) (d0 : BlkCmd) : State :=
  let d := { d0 with stage := .fetched, missing := 0, raw := [] }
  let a := s.bscListAt d.words
  let t := s.setBlk d
  match t.bscReject d.part (t.queue d.part 3 d.queue).slice d.words d.list d.ranges with
  | some st => (t.when (st == 6) (fun t => (t.noteVia d.part (a.1 % 2 ^ 48) (8 * a.2)).when (bscOp d.words == 4)
      (fun t => t.notePieces d.part (bscPieces d.words d.list (t.bscBytes d.words))))).blkEnd d st 0
  | none => t

/-- The ranges of a TRIM are read, as `host` gives those of host memory, or by reads of the host where it gives none (R292). -/
def State.readRanges (s : State) (d : BlkCmd) (host : List Nat) : State :=
  let ps := bscPieces d.words d.list (s.bscBytes d.words)
  let slice := (s.queue d.part 3 d.queue).slice
  if bscOp d.words ≠ 4 then s.checkBsc d
  else if hostBytes ps = 0 ∨ host ≠ [] then s.checkBsc { d with ranges := dwords (s.pieceBytes d.part ps (host.flatMap (leBytes 8))) }
  else
    (ps.foldl (fun (r : State × Nat) x =>
      (r.1.when (decide (x.1 < 2 ^ 63)) (fun t => t.readHostFor d.part slice x.1 x.2 (fun o => .block d.id (r.2 + o))), r.2 + x.2))
      (s.setBlk { d with stage := .listing, missing := hostBytes ps, raw := s.pieceBytes d.part ps [] }, 0)).1

/-- The page list is read, and then the ranges of a TRIM (R292); a command with a reserved encoding is not read further. -/
def State.readList (s : State) (d : BlkCmd) (host : List Nat) : State :=
  let a := s.bscListAt d.words
  if bscReservedBad d.words then s.checkBsc d
  else if a.2 = 0 then s.readRanges d host
  else if 2 ^ 63 ≤ a.1 then s.readRanges { d with list := s.listWords d.part a.1 a.2 } host
  else if host ≠ [] then s.readRanges { d with list := (host.take a.2).map (· % 2 ^ 64) } (host.drop a.2)
  else (s.setBlk { d with stage := .listing, missing := 8 * a.2, raw := [] }).readHostFor d.part (s.queue d.part 3 d.queue).slice a.1 (8 * a.2)
    (fun o => .block d.id o)

/-- The command at the head of a queue as it is taken. -/
def State.newBsc (s : State) (p q : Nat) (w : List Nat) : BlkCmd :=
  let r := s.queue p 3 q
  { id := s.blk.nextId, part := p, queue := q, idx := r.fetchAt, words := w, list := [], age := s.blkAge p q r.fetchAt,
    urgent := s.headClass p q == 0, stage := .fetched, missing := 0, left := 0, failed := false, landed := false,
    kill := none, silent := false, sentAt := 0 }

/-- The BSC at the head of queue `q` is taken (R297); one whose entry could not be read ends at once (R135, R185). A list that the host
holds comes with the command only while the function may request (R190). -/
def State.takeBsc (s : State) (p q : Nat) (w list : List Nat) (fail : Option Bool) : State :=
  let k := qkey p 3 q
  let r := s.queue p 3 q
  let d := s.newBsc p q w
  let t := s.tookEntry p 3 q
  let t := { t with blk := { t.blk with
    cmds := t.blk.cmds ++ [d]
    nextId := t.blk.nextId + 1
    bells := Tab.set [] t.blk.bells k ((Tab.get [] t.blk.bells k).filter (fun e => e.1 != (r.fetchAt + 1) % 65536))
    promoted := Tab.set [] t.blk.promoted k ((Tab.get [] t.blk.promoted k).filter (fun i => i != r.fetchAt)) } }
  let t := t.setQueue p 3 q { t.queue p 3 q with ci := (r.fetchAt + 1) % 65536 }
  match fail with
  | some mem => t.blkEnd d (if mem then 6 else 5) 0
  | none => t.readList d (if (s.funcOf p).elim false (fun f => s.mayRequest f) then list else [])

/-- BSC_FETCH: the arbiter's choice is fetched and checked; one that fails a check ends at once (R293, R297). -/
def State.fetchBsc (s : State) (words list : List Nat) : State :=
  match s.blkPick with
  | none => s
  | some (t, p, q) => t.fetchEntry p 3 q words (fun u w e => u.takeBsc p q w list e)

/-- AGE_PROMOTION (R298): the time comes at which the age of a command not dispatched reaches AGE_LIMIT; it is promoted, at whichever
point it waits, and counted. -/
def State.promoteBsc (s : State) (p q idx : Nat) : State :=
  let r := s.queue p 3 q
  let k := qkey p 3 q
  let due (age : Nat) (t : State) : State := t.atTime (age + s.rd Reg.BLK_CFG_AGE_LIMIT * 400000)
  let note (t : State) : State := (t.blkEvent Reg.BLK_EVENT_PROMOTED).incSat Reg.BLK_STATS_PROMOTED 1
  match s.blk.cmds.find? (fun d => d.part == p && d.queue == q && d.idx == idx && !d.urgent && decide (d.stage = .listing ∨ d.stage = .fetched ∨ d.stage = .ready)) with
  | some d => note (due d.age (s.setBlk { d with urgent := true }))
  | none =>
    let waits := decide ((idx + 65536 - r.fetchAt) % 65536 < (r.pi + 65536 - r.fetchAt) % 65536)
    if r.en && waits && bits r.w4 12 2 != 0 && !(idx ∈ Tab.get [] s.blk.promoted k) then
      note (due (s.blkAge p q idx) { s with blk := { s.blk with promoted := Tab.set [] s.blk.promoted k (Tab.get [] s.blk.promoted k ++ [idx]) } })
    else s

/-! ## Data (R290, R295) -/

/-- The key that an encrypted volume uses, none when its slot is empty or lacks XTS usage (R290, R325). -/
def State.volKey (s : State) (v : Nat) : Option (List Nat) := (s.keySlot (s.rd (Reg.BLK_VOL_PART v)) (s.rd (Reg.BLK_VOL_KEY_SLOT v))).xts

/-- The command's volume is encrypted and has no key. -/
def State.volKeyless (s : State) (d : BlkCmd) : Bool := s.on (Reg.BLK_VOL_ENC (bscVol d.words)) && (s.volKey (bscVol d.words)).isNone

/-- Blocks on their way to the backing or back from it: encrypted or decrypted with the volume block number as tweak. -/
def State.volCrypt (s : State) (enc : Bool) (d : BlkCmd) (bs : List Nat) : List Nat :=
  let v := bscVol d.words
  if s.on (Reg.BLK_VOL_ENC v) then xts enc ((s.volKey v).getD []) (s.volBlock v) (bscSlba d.words) bs else bs

/-- The core that encrypts or decrypts a volume's blocks caches the slot's key (R308). -/
def State.volCore (s : State) (d : BlkCmd) : State :=
  let v := bscVol d.words
  s.when (s.on (Reg.BLK_VOL_ENC v)) (fun t => t.useCore (t.rd (Reg.BLK_VOL_PART v)) (t.rd (Reg.BLK_VOL_KEY_SLOT v)))

/-- Staged bytes of a command. -/
def State.staged (s : State) (d : BlkCmd) : List Nat :=
  (List.range (s.bscBytes d.words)).map (fun i => (Tab.get (0 : Byte) s.blk.stage (d.id * 2 ^ 21 + i)).toNat)

/-- A staged byte of the command stands in a unit of the commons that fails to read (R135, R448). -/
def State.stagingBad (s : State) (d : BlkCmd) : Bool :=
  s.memSt.bad.any (fun e => e.2 && decide (stagingAt d.id ≤ e.1) && decide (e.1 < stagingAt d.id + s.bscBytes d.words))

/-- Bytes written over the pieces of a command's buffer in order. -/
def State.toBuffer (s : State) (d : BlkCmd) (bs : List Nat) : State :=
  ((bscPieces d.words d.list bs.length).foldl (fun (r : State × List Nat) x =>
    (r.1.localWrite (.blk d.id) d.part (r.1.queue d.part 3 d.queue).slice x.1 (r.2.take x.2), r.2.drop x.2)) (s, bs)).1

/-- BLK_WRITE: the data is read from the buffer into staging (R295); host bytes come with their completions. -/
def State.stageWrite (s : State) (d : BlkCmd) : State :=
  if d.stage ≠ .fetched ∨ d.missing ≠ 0 then s
  else
    let ps := bscPieces d.words d.list (s.bscBytes d.words)
    let slice := (s.queue d.part 3 d.queue).slice
    if s.volKeyless d then s.blkEnd d 6 0
    else if !s.piecesOk d.part ps then (s.notePieces d.part ps).blkEnd d 6 0
    else
      let host := hostBytes ps
      let s1 := s.setBlk (if host = 0 then { d with stage := .ready } else { d with missing := host })
      (ps.foldl (fun (r : State × Nat) x =>
        (if x.1 < 2 ^ 63 then r.1.readHostFor d.part slice x.1 x.2 (fun o => .block d.id (r.2 + o))
         else r.1.stageBytes (d.id * 2 ^ 21 + r.2) (r.1.localRead d.part x.1 x.2), r.2 + x.2)) (s1, 0)).1

/-- Host bytes of a command arrive: those of a WRITE are placed in staging, and the command is ready when they are all there; those of a
list or of ranges are kept until it is whole (R292, R295). -/
def State.blkHostData (s : State) (id off : Nat) (bs : List Nat) : State :=
  match s.blkCmd id with
  | none => s
  | some d =>
    if d.stage = .listing then
      let e := { d with raw := overlay d.raw off bs, missing := d.missing - bs.length }
      if e.missing ≠ 0 then s.setBlk e
      else if d.list = [] ∧ (s.bscListAt d.words).2 ≠ 0 then s.readRanges { e with list := dwords e.raw, raw := [] } []
      else s.checkBsc { e with ranges := dwords e.raw }
    else
      let t := s.stageBytes (id * 2 ^ 21 + off) bs
      t.setBlk { d with missing := d.missing - bs.length, stage := if d.missing ≤ bs.length then .ready else d.stage }

/-- A read of a WRITE's data, of a list or of ranges fails: HOST_ERR, and no block is changed (R295, R301). -/
def State.blkHostFail (s : State) (id : Nat) : State :=
  match s.blkCmd id with
  | none => s
  | some d => if d.stage = .fetched ∨ d.stage = .listing then s.blkEnd d 5 0 else s

/-- BLK_READ: the blocks from the backing are decrypted and written to the buffer, unless a reset has struck (R295, R299). -/
def State.landRead (s : State) (d : BlkCmd) (data : List Nat) : State :=
  let remote := s.backing d == 2
  let come := if remote then decide (d.stage = .back 0 0) else decide (d.stage = .dispatched)
  if !come || d.landed then s
  else if s.volKeyless d || (remote && s.stagingBad d) then s.blkEnd d 6 0
  else
    let raw := if remote then s.staged d else (List.range (s.bscBytes d.words)).map (fun i => data.getD i 0 % 256)
    let t := s.setBlk { d with landed := true }
    if d.kill.isSome then t else (t.volCore d).toBuffer d (t.volCrypt false d raw)

/-- GET_LOG: the log page's bytes are written to the buffer. -/
def State.landLog (s : State) (d : BlkCmd) (data : List Nat) : State :=
  if d.stage ≠ .dispatched ∨ d.landed then s
  else
    let t := s.setBlk { d with landed := true }
    if d.kill.isSome then t else t.toBuffer d ((List.range (s.bscBytes d.words)).map (fun i => data.getD i 0 % 256))

/-! ## Dispatch and end (R294, R297, R304, R305) -/

/-- The command may be dispatched: a READ or GET_LOG as fetched, others once they are ready; an encrypted volume's only after
the first epoch (R316). -/
def State.dispatchable (s : State) (d : BlkCmd) : Bool :=
  (match d.stage with
    | .ready => true
    | .fetched => bscOp d.words == 1 || bscOp d.words == 5
    | _ => false) && (!s.on (Reg.BLK_VOL_ENC (bscVol d.words)) || s.epochValid)

/-- The command of a backing that goes next: URGENT ones oldest first, then the others in fetch order. -/
def State.dispatchNext (s : State) (m : Nat) : Option BlkCmd :=
  let l := s.blk.cmds.filter (fun d => s.backing d == m && s.dispatchable d)
  match l.filter (fun d => d.urgent) with
  | h :: r => some (r.foldl (fun b x => if x.age < b.age then x else b) h)
  | [] => l.head?

/-- The command of Table 11.6 that an SSD is given: NVMe opcode and words. -/
def State.nvmeWords (s : State) (d : BlkCmd) : Nat × List Nat :=
  let v := bscVol d.words
  let ns := s.rd (Reg.BLK_VOL_NSID v)
  let lba := s.rd (Reg.BLK_VOL_BASE v) + bscSlba d.words
  match bscOp d.words with
  | 1 => (2, [ns, lba, bscNlb d.words])
  | 2 => (1, [ns, lba, bscNlb d.words, bscFld d.words 0 16 1] ++ s.volCrypt true d (s.staged d))
  | 3 => (0, [ns])
  | 4 => (9, ns :: (List.range d.ranges.length).map (fun i => d.ranges.getD i 0 + (if i % 2 = 0 then s.rd (Reg.BLK_VOL_BASE v) else 0)))
  | 5 => (2, [bscFld d.words 10 8 8, s.bscBytes d.words])
  | _ => (0x14, [ns, bscFld d.words 10 16 4])

/-- A remote volume's READ or WRITE as a message of P0's queue pair (R305). -/
def State.dispatchRemote (s : State) (d : BlkCmd) : State :=
  let v := bscVol d.words
  let n := s.bscBytes d.words
  let a := s.rd (Reg.BLK_VOL_BASE v) + bscSlba d.words * s.volBlock v
  let key := s.rd (Reg.BLK_VOL_RKEY v)
  match s.connFor 0 (bits (s.rd (Reg.BLK_VOL_NSID v)) 0 12) with
  | none => s.blkEnd d 8 0
  | some c =>
    if !s.mayHand c then s
    else
      let t := s.setBlk { d with stage := .dispatched, left := 1, sentAt := s.now }
      if bscOp d.words = 1 then t.handMessage c (TxMsg.new 3 [key, a, n] n [] (.blk d.id) (2 ^ 64 + d.id * 2 ^ 21) 0x7FF) none
      else (t.volCore d).handMessage c (TxMsg.new 1 [key, a, 0] n (t.volCrypt true d (t.staged d)) (.blk d.id) 0 0x7FF) none

/-- BSC_DISPATCH on backing `m` (R297, R304). -/
def State.dispatchBsc (s : State) (m : Nat) : State :=
  match s.dispatchNext m with
  | none => s
  | some d =>
    if s.volKeyless d || (bscOp d.words == 2 && s.stagingBad d) then s.blkEnd d 6 0
    else if m = 2 then s.dispatchRemote d
    else if !s.on (Reg.MED_STATUS_READY m) then s.blkEnd d 7 0
    else if s.rd (Reg.MED_CFG_DEPTH m) ≤ s.ssdLoad m then s
    else ((s.settleTests.setBlk { d with stage := .dispatched, sentAt := s.now }).when (bscOp d.words == 2) (fun t => t.volCore d)).emit (.nvme m (s.nvmeWords d).1 (s.nvmeWords d).2)

/-- The running test of an SSD ends, its command with `st` and the NVMe status of it (R304, R306). -/
def State.endTest (s : State) (m st nvme : Nat) : State :=
  match Tab.get none s.blk.tests m with
  | none => s
  | some x =>
    let t := ({ s with blk := { s.blk with tests := Tab.set none s.blk.tests m none } }.wr (Reg.MED_TEST_STATE m) 0).blkEvent Reg.BLK_EVENT_TEST_DONE
    match t.blkCmd x.cmd with
    | some d => t.blkEnd d st nvme
    | none => t

/-- BACKING_COMPLETE: a command ends at its backing; a READ or GET_LOG only once its data has been written, and while the interlock holds
bytes of it its ending waits for them (R295). -/
def State.completeBsc (s : State) (d : BlkCmd) (nvme : Nat) : State :=
  let wants := (bscOp d.words == 1 || bscOp d.words == 5) && !d.landed && d.kill.isNone
  match d.stage with
  | .dispatched =>
    if s.backing d == 2 then s
    else if bscOp d.words == 6 then (if nvme = 0 then s else s.endTest (s.backing d) 7 nvme)
    else if nvme ≠ 0 then s.blkEnd d 7 nvme
    else if wants then s
    else if s.blkHeld d.id then s.settleTests.setBlk { d with stage := .back 0 0 }
    else s.blkEnd d 0 0
  | .back st nv => if (st = 0 && wants) || s.blkHeld d.id then s else s.blkEnd d st nv
  | _ => s

/-- The interlock has let a write of a command go: one whose backing has ended and whose data is all written ends (R295). -/
def State.blkReleased (s : State) (id : Nat) : State :=
  match s.blkCmd id with
  | none => s
  | some d =>
    match d.stage with
    | .back st nv => if d.landed && !s.blkHeld id then s.blkEnd d st nv else s
    | _ => s

/-- A queue's reset (R299) or the abort of its partition (R302): unfetched commands are discarded, fetched ones end with `st`,
at once or when their backing has ended; one whose backing's completion came before a reset keeps its own status (R300); `silent`
posts nothing. -/
def State.blkReset (s : State) (p q st : Nat) (silent : Bool) : State :=
  let k := qkey p 3 q
  let t : State := { s with blk := { s.blk with
    cmds := s.blk.cmds.map (fun (d : BlkCmd) => if d.part == p && d.queue == q then
        let came := match d.stage with
          | .back _ _ => true
          | _ => false
        { d with kill := if came && !silent then d.kill else some (d.kill.getD st), silent := d.silent || silent }
      else d)
    bells := Tab.set [] s.blk.bells k []
    promoted := Tab.set [] s.blk.promoted k [] } }
  let t := t.setQueue p 3 q { t.queue p 3 q with fetchAt := (t.queue p 3 q).pi, latched := none }
  (t.blk.cmds.filter (fun d => d.part == p && d.queue == q && decide (d.stage = .listing ∨ d.stage = .fetched ∨ d.stage = .ready))).foldl (fun t d => t.blkEnd d st 0) t

/-! ## Media ports and self-tests (R303, R304, R306) -/

/-- A controller reset by CC.EN: every command on the SSD ends with MEDIA_ERR (R304). -/
def State.resetMedia (s : State) (m : Nat) : State :=
  let t := ((s.emit (.nvmeEnable m false)).wr (Reg.MED_STATUS_READY m) 0).wr (Reg.MED_STATUS_RESETTING m) 1
  let t := (t.blk.cmds.filter (fun d => decide (d.stage = .dispatched) && s.backing d == m)).foldl (fun t d => t.blkEnd d 7 0) t
  match Tab.get none t.blk.tests m with
  | none => t
  | some _ => ({ t with blk := { t.blk with tests := Tab.set none t.blk.tests m none } }.wr (Reg.MED_TEST_STATE m) 0).blkEvent Reg.BLK_EVENT_TEST_DONE

/-- A self-test starts on an SSD (R306). -/
def State.startTest (s : State) (d : BlkCmd) (m stc : Nat) : State :=
  let t := (s.setBlk { d with stage := .dispatched, sentAt := s.now }).emit (.nvme m (s.nvmeWords d).1 (s.nvmeWords d).2)
  ({ t with blk := { t.blk with tests := Tab.set none t.blk.tests m (some { cmd := d.id, extended := stc == 2, time := 0, since := s.now }) } }.wr (Reg.MED_TEST_STATE m) stc).wr
    (Reg.MED_TEST_TEST_TIME m) 0

/-- SELF_TEST: a test starts, a second one is BUSY at once, STC 0xF stops the running one, whose command ends with MEDIA_ERR: it has not
passed (notes/assumptions/59.md). -/
def State.selfTest (s : State) (d : BlkCmd) : State :=
  let m := s.backing d
  let stc := bscFld d.words 10 16 4
  if d.stage ≠ .fetched then s
  else if s.volKeyless d then s.blkEnd d 6 0
  else if !s.on (Reg.MED_STATUS_READY m) then s.blkEnd d 7 0
  else if stc = 15 then ((s.emit (.nvme m (s.nvmeWords d).1 (s.nvmeWords d).2)).settleTests.endTest m 7 0).blkEnd d 0 0
  else if (Tab.get none s.blk.tests m).isSome then s.blkEnd d 9 0
  else
    s.startTest d m stc

/-- The SSD's capacity in whole TB rounded up: of its namespaces (DEDUCED, notes/assumptions/59.md). -/
def State.ssdTb (s : State) (m : Nat) : Nat :=
  ceilDiv (((Tab.get [] s.blk.spaces m).map (fun n => n.size * (if n.big then 4096 else 512))).sum) 1000000000000

/-- Test time at which a test is stopped, 0.25 ns units: 2 min, or 40 min for each TB (R306). -/
def State.testLimit (s : State) (m : Nat) (x : SsdTest) : Nat := (if x.extended then 2400 * s.ssdTb m else 120) * 4000000000

/-- The running test of SSD `m` reaches its limit: the time comes, unless an outstanding command keeps the test time still. -/
def State.stopTest (s : State) (m : Nat) : State :=
  match Tab.get none s.settleTests.blk.tests m with
  | none => s
  | some x =>
    let left := s.testLimit m x - x.time
    if left ≠ 0 ∧ s.ssdLoad m ≠ 0 then s
    else ((s.atTime (s.now + left)).settleTests.emit (.nvme m 0x14 [0, 15])).endTest m 0xA 0

/-! ## Volumes (R288, R289) -/

/-- A run of an enabled volume meets that of volume `v`, on the same namespace, or the same TARGET and RKEY. -/
def State.volOverlap (s : State) (v : Nat) : Bool :=
  let unit (x : Nat) : Nat := if s.rd (Reg.BLK_VOL_BACKING x) = 2 then s.volBlock x else 1
  let lo (x : Nat) : Nat := s.rd (Reg.BLK_VOL_BASE x)
  let hi (x : Nat) : Nat := s.rd (Reg.BLK_VOL_BASE x) + s.rd (Reg.BLK_VOL_CAP x) * unit x
  (List.range 1024).any (fun x => x != v && s.on (Reg.BLK_VOL_EN x) && s.rd (Reg.BLK_VOL_BACKING x) == s.rd (Reg.BLK_VOL_BACKING v) &&
    s.rd (Reg.BLK_VOL_NSID x) == s.rd (Reg.BLK_VOL_NSID v) &&
    (s.rd (Reg.BLK_VOL_BACKING v) != 2 || s.rd (Reg.BLK_VOL_RKEY x) == s.rd (Reg.BLK_VOL_RKEY v)) &&
    decide (lo x < hi v) && decide (lo v < hi x))

/-- The namespace of a local volume. -/
def State.volSpace (s : State) (v : Nat) : Option Namespace :=
  (Tab.get [] s.blk.spaces (s.rd (Reg.BLK_VOL_BACKING v))).find? (fun n => n.nsid == s.rd (Reg.BLK_VOL_NSID v))

/-- A volume that may not be enabled (R289). -/
def State.volBad (s : State) (v : Nat) : Bool :=
  s.volOverlap v ||
  (if s.rd (Reg.BLK_VOL_BACKING v) = 2 then
    s.rd (Reg.BLK_VOL_NSID v) / 4096 != 0 || (s.connFor 0 (s.rd (Reg.BLK_VOL_NSID v))).isNone || s.rd (Reg.BLK_VOL_BASE v) % s.volBlock v != 0
  else match s.volSpace v with
    | none => true
    | some n => decide (n.size < s.rd (Reg.BLK_VOL_BASE v) + s.rd (Reg.BLK_VOL_CAP v)) || n.big != s.on (Reg.BLK_VOL_BS v) || n.metadata)

/-- VOLUME_WRITE: a write of a word of an entry (R289): fields only while EN is 0, EN after its checks, no clearing while a
fetched command names the volume. -/
def State.writeVolume (s : State) (v word value : Nat) : State :=
  let half (f : Fld) (lo : Nat) : State := s.wr f (setBits (s.rd f) lo 32 value)
  if s.on (Reg.BLK_VOL_EN v) then
    if word ≠ 0 ∨ bit value 6 ∨ s.blk.cmds.any (fun d => bscVol d.words == v) then s else s.wr (Reg.BLK_VOL_EN v) 0
  else match word with
    | 0 =>
      let bad := bits value 7 2 == 3
      let t := s.when bad (fun t => t.unsup .pf (Reg.BLK_VOL v) true)
      let t := if bad then t else t.wr (Reg.BLK_VOL_BACKING v) (bits value 7 2)
      let t := ((((t.wr (Reg.BLK_VOL_PART v) (bits value 0 6)).wr (Reg.BLK_VOL_BS v) (bits value 9 1)).wr (Reg.BLK_VOL_ADMIN v) (bits value 10 1)).wr
        (Reg.BLK_VOL_ENC v) (bits value 11 1)).wr (Reg.BLK_VOL_KEY_SLOT v) (bits value 13 9)
      if !bit value 6 then t
      else if t.volBad v then t.unsup .pf (Reg.BLK_VOL v) true
      else (t.wr (Reg.BLK_VOL_EN v) 1).wr (Reg.BLK_VOL_TRIM_ZERO v)
        (b2n (t.rd (Reg.BLK_VOL_BACKING v) != 2 && (t.volSpace v).elim false (fun n => n.trimZero)))
    | 1 => s.wr (Reg.BLK_VOL_NSID v) value
    | 2 => half (Reg.BLK_VOL_BASE v) 0
    | 3 => half (Reg.BLK_VOL_BASE v) 32
    | 4 => half (Reg.BLK_VOL_CAP v) 0
    | 5 => half (Reg.BLK_VOL_CAP v) 32
    | 6 => s.wr (Reg.BLK_VOL_RKEY v) value
    | _ => s

/-! ## Meanings -/

/-- VOLUME_WRITE (R289). -/
def execVolumeWrite (v word value : Nat) (s : State) : Host.Outcome State Fault Refusal := s.fromPf 9 (s.guarded (v < 1024 && word < 8) (s.writeVolume v word value))

/-- BSC_FETCH (R297). -/
def execBscFetch (words list : List Nat) (s : State) : Host.Outcome State Fault Refusal := .next (s.fetchBsc words list)

/-- BLK_READ (R292, R295). -/
def execBlkRead (id : Nat) (data : List Nat) (s : State) : Host.Outcome State Fault Refusal := .next (s.onBlk id 1 (fun d => s.landRead d data))

/-- BLK_WRITE (R295). -/
def execBlkWrite (id : Nat) (s : State) : Host.Outcome State Fault Refusal := .next (s.onBlk id 2 (fun d => s.stageWrite d))

/-- FLUSH (R296): a remote volume's writes that ended were delivered, so it ends with DONE; a local one goes to the SSD. -/
def execFlush (id : Nat) (s : State) : Host.Outcome State Fault Refusal :=
  .next (s.onBlk id 3 (fun d =>
    if d.stage ≠ .fetched then s else if s.volKeyless d then s.blkEnd d 6 0 else if s.backing d = 2 then s.blkEnd d 0 0 else s.setBlk { d with stage := .ready }))

/-- TRIM (R296): nothing is issued and the blocks keep their contents when TRIM_ZERO is 0. -/
def execTrim (id : Nat) (s : State) : Host.Outcome State Fault Refusal :=
  .next (s.onBlk id 4 (fun d =>
    if d.stage ≠ .fetched then s
    else if s.volKeyless d then s.blkEnd d 6 0
    else if s.on (Reg.BLK_VOL_TRIM_ZERO (bscVol d.words)) then s.setBlk { d with stage := .ready } else s.blkEnd d 0 0))

/-- GET_LOG (Table 11.3). -/
def execGetLog (id : Nat) (data : List Nat) (s : State) : Host.Outcome State Fault Refusal := .next (s.onBlk id 5 (fun d => s.landLog d data))

/-- SELF_TEST (R306). -/
def execSelfTest (id : Nat) (s : State) : Host.Outcome State Fault Refusal := .next (s.onBlk id 6 (fun d => s.selfTest d))

/-- BSC_DISPATCH (R297). -/
def execBscDispatch (m : Nat) (s : State) : Host.Outcome State Fault Refusal := s.guarded (m < 3) (s.dispatchBsc m)

/-- BACKING_COMPLETE (R294). -/
def execBackingComplete (id nvme : Nat) (s : State) : Host.Outcome State Fault Refusal :=
  .next (match s.blkCmd id with
    | some d => s.completeBsc d nvme
    | none => s)

/-- AGE_PROMOTION (R298). -/
def execAgePromotion (p q idx : Nat) (s : State) : Host.Outcome State Fault Refusal := s.guarded (p < 64 && q < 2048) (s.promoteBsc p q idx)

/-- When the oldest command on an SSD reaches CMD_TIMEOUT, none when the SSD has none (R304). -/
def State.ssdDue (s : State) (m : Nat) : Option Nat :=
  match (s.blk.cmds.filter (fun d => decide (d.stage = .dispatched) && bscOp d.words != 6 && s.backing d == m)).map (·.sentAt) with
  | [] => none
  | a :: r => some (r.foldl min a + s.rd (Reg.MED_CFG_CMD_TIMEOUT m) * 4000000000)

/-- SSD_TIMEOUT (R304): the time comes at which a command has been on the SSD for CMD_TIMEOUT. -/
def execSsdTimeout (m : Nat) (s : State) : Host.Outcome State Fault Refusal :=
  s.guarded (m < 2) (match s.ssdDue m with
    | none => s
    | some t => ((s.atTime t).resetMedia m).medEvent m Reg.MED_EVENT_TIMEOUT)

/-- SSD_CONTROLLER_FATAL (R304). -/
def execSsdControllerFatal (m : Nat) (s : State) : Host.Outcome State Fault Refusal := s.guarded (m < 2) ((s.resetMedia m).medEvent m Reg.MED_EVENT_CTRL_FATAL)

/-- The link of a media port goes down (R304). -/
def State.mediaDown (s : State) (m : Nat) : State := ((s.wr (Reg.MED_STATUS_LINK_UP m) 0).resetMedia m).medEvent m Reg.MED_EVENT_LINK_DOWN

/-- MEDIA_LINK_DOWN (R304). -/
def execMediaLinkDown (m : Nat) (s : State) : Host.Outcome State Fault Refusal := s.guarded (m < 2) (s.mediaDown m)

/-- MEDIA_RESET (R304): MED_CTRL.RESET. -/
def execMediaReset (m : Nat) (s : State) : Host.Outcome State Fault Refusal := s.fromPf 10 (s.guarded (m < 2) (s.resetMedia m))

/-- The lanes that a media port may use. -/
def State.mediaLanes (s : State) (m : Nat) : Nat := match s.rd (Reg.MED_CTRL_WIDTH_CAP m) with
  | 0 => 4
  | 1 => 2
  | _ => 1

/-- The admin commands that bring a controller up, in order: CC.EN set, Identify of the controller, its namespace list and each namespace,
the queue count by Get and Set Features, and sixteen completion and submission queues of 1,024 entries (R303, Table 11.6). -/
def State.bringUp (s : State) (m : Nat) (spaces : List Namespace) : State :=
  let cmds := [(6, [1]), (6, [2])] ++ spaces.map (fun n => (6, [0, n.nsid])) ++ [(10, [7]), (9, [7, 15 * 65536 + 15])] ++
    (List.range 16).map (fun q => (5, [q + 1, 1023])) ++ (List.range 16).map (fun q => (1, [q + 1, 1023, q + 1]))
  cmds.foldl (fun t c => t.emit (.nvmeAdmin m c.1 c.2)) (s.emit (.nvmeEnable m true))

/-- A media reset that ended: the link is up, the SSD ready, and its name spaces are known (R304, R305). An SSD that requires a host memory
buffer, or whose namespaces all carry metadata, offers none (R303). -/
def State.mediaBack (s : State) (m : Nat) (spaces : List Namespace) (width speed : Nat) : State :=
  let s := s.bringUp m spaces
  let spaces := if spaces.any (·.hostBuffer) ∨ spaces.all (·.metadata) then [] else spaces
  let t := ((((s.wr (Reg.MED_STATUS_LINK_UP m) 1).wr (Reg.MED_STATUS_WIDTH m) width).wr (Reg.MED_STATUS_SPEED m) speed).wr
    (Reg.MED_STATUS_READY m) 1).wr (Reg.MED_STATUS_RESETTING m) 0
  { t with blk := { t.blk with spaces := Tab.set [] t.blk.spaces m spaces } }.medEvent m Reg.MED_EVENT_RESET_DONE

/-- MEDIA_RESET_DONE (R303, R304): the controller is ready again on a link of `width` lanes at speed code `speed`, at most those of
MED_CTRL, and its namespaces are known. A port that is not enabled trains nothing, and in minimal mode the media ports are off (R397). -/
def execMediaResetDone (m : Nat) (spaces : List Namespace) (width speed : Nat) (s : State) : Host.Outcome State Fault Refusal :=
  s.guarded (m < 2) (
    let width := min width (s.mediaLanes m)
    let speed := min speed (s.rd (Reg.MED_CTRL_SPEED_CAP m))
    let t := (s.mediaBack m spaces width speed).when (decide (width < s.mediaLanes m) || decide (speed < s.rd (Reg.MED_CTRL_SPEED_CAP m)))
      (fun t => t.medEvent m Reg.MED_EVENT_DOWNTRAINED)
    if s.restricted || !s.on (Reg.MED_CTRL_EN m) then s else t)

/-- SELF_TEST_RESULT (R306): 0 is a pass; the test time stands as it is. -/
def execSelfTestResult (m result : Nat) (s : State) : Host.Outcome State Fault Refusal :=
  s.guarded (m < 2) (s.when (Tab.get none s.blk.tests m).isSome (fun t =>
    (t.settleTests.wr (Reg.MED_TEST_RESULT m) result).endTest m (if result = 0 then 0 else 7) 0))

/-- SELF_TEST_TIMEOUT (R306): the test is stopped. -/
def execSelfTestTimeout (m : Nat) (s : State) : Host.Outcome State Fault Refusal :=
  s.guarded (m < 2) (s.stopTest m)

end Sys2Proof.Machine
end

