-- ==== Sys2Proof/Machine/Cipher.lean ====
section
/-! DEFINITION. The cipher engine's requests, keys, epochs and alarms (chapter 12). -/

namespace Sys2Proof.Machine

/-! ## Fields of a request (Table 12.2) -/

def ciFld (w : List Nat) (i lo n : Nat) : Nat := bits (w.getD i 0) lo n
def ci64 (w : List Nat) (i : Nat) : Nat := ciFld w i 0 32 + ciFld w (i + 1) 0 32 * 2 ^ 32
def ciOp (w : List Nat) : Nat := ciFld w 0 0 4
def ciSeg (w : List Nat) : Nat := ciFld w 0 12 2
def ciSlot (w : List Nat) : Nat := ciFld w 0 14 9
def ciParam (w : List Nat) : Nat := ciFld w 0 23 4
def ciUnit (w : List Nat) : Nat := (ciFld w 1 0 12 + 1) * 16
def ciUsage (w : List Nat) : Nat := ciFld w 1 12 5
def ciLen (w : List Nat) : Nat := ciFld w 3 0 32
def ciSrc (w : List Nat) : Nat := ci64 w 4
def ciDst (w : List Nat) : Nat := ci64 w 6
def ciAux (w : List Nat) : Nat := ci64 w 8
def ciAuxLen (w : List Nat) : Nat := ciFld w 10 0 17
def ciRes (w : List Nat) : Nat := ci64 w 12
def ciCtx (w : List Nat) : Nat := ci64 w 14
def ciGcm (w : List Nat) : Bool := ciOp w == 1 || ciOp w == 2
def ciXts (w : List Nat) : Bool := ciOp w == 3 || ciOp w == 4
def ciShake (w : List Nat) : Bool := ciOp w == 5 && ciParam w == 1
/-- The request begins a message, and ends one. -/
def ciBegins (w : List Nat) : Bool := ciSeg w == 0 || ciSeg w == 1
def ciEnds (w : List Nat) : Bool := ciSeg w == 0 || ciSeg w == 3

/-- Bytes written to DST. -/
def ciOut (w : List Nat) : Nat :=
  match ciOp w with
  | 1 | 2 | 3 | 4 => ciLen w
  | 5 => if ciEnds w then (if ciShake w then ciAuxLen w else 32) else 0
  | 9 => 80
  | _ => 0

/-- Inputs: place, address and length. Places are 0 SRC, 1 AUX, 2 CTX, 3 RES. -/
def ciInputs (w : List Nat) : List (Nat × Nat × Nat) :=
  ((match ciOp w with
    | 1 | 2 | 3 | 4 | 5 | 6 => [(0, ciSrc w, ciLen w)]
    | 10 => [(0, ciSrc w, 80)]
    | _ => []) ++
   (if ciGcm w && ciBegins w then [(1, ciAux w, ciAuxLen w)] else []) ++
   (if (ciGcm w || ciOp w == 5) && !ciBegins w then [(2, ciCtx w, 256)] else []) ++
   (if ciOp w == 2 && ciSeg w != 2 then [(3, ciRes w, 32)] else [])).filter (fun x => x.2.2 != 0)

/-! ## Checks at fetch (R309, R310) -/

/-- Words that the operation does not use are 0; CP2 names its completion queue in AUX_LEN (R311). -/
def ciUnusedOk (w : List Nat) (cp2 : Bool) : Bool :=
  let z (l : List Nat) : Bool := l.all (fun i => ciFld w i 0 32 == 0)
  let aux := if cp2 then [] else [10]
  (match ciOp w with
    | 1 | 2 => z [11] && ciFld w 1 0 24 == 0
    | 3 | 4 => z (aux ++ [11])
    | 5 => z ((if ciShake w then [] else aux) ++ [8, 9, 11]) && ciFld w 1 0 24 == 0
    | 6 => z (aux ++ [6, 7, 8, 9, 11])
    | 7 => z (aux ++ [3, 4, 5, 6, 7, 8, 9, 11])
    | 8 => z (aux ++ [3, 4, 5, 6, 7, 8, 9, 11]) && ciFld w 1 0 24 == 0
    | 9 => z (aux ++ [3, 4, 5, 8, 9, 11]) && ciFld w 1 0 24 == 0
    | _ => z (aux ++ [3, 6, 7, 8, 9, 11]) && ciFld w 1 0 24 == 0) &&
  (ciSeg w != 0 || z [14, 15])

/-- A type and usage that Table 12.5 rejects. -/
def keyKindBad (typ usage : Nat) : Bool :=
  decide (3 < typ) || bit usage 4 || (decide (typ < 2) && bit usage 2) || (decide (2 ≤ typ) && (bit usage 0 || bit usage 1))

/-- REJ_RESERVED. -/
def State.ciReservedBad (s : State) (w : List Nat) (cp2 : Bool) : Bool :=
  ciOp w == 0 || decide (10 < ciOp w) || ciFld w 0 27 5 != 0 || ciFld w 1 17 7 != 0 || ciFld w 1 30 2 != 0 || ciFld w 10 17 15 != 0 ||
  !ciUnusedOk w cp2 || (ciOp w == 5 && (ciSlot w != 0 || decide (1 < ciParam w))) ||
  (if ciOp w = 6 ∨ ciOp w = 7 then keyKindBad (ciParam w) (ciUsage w) else ciOp w != 5 && ciParam w != 0) ||
  (if cp2 then ciFld w 1 24 6 == 0 || decide (s.partState (ciFld w 1 24 6) = .free) else ciFld w 1 24 6 != 0)

/-- REJ_BOUNDS. -/
def State.ciBoundsBad (s : State) (p slice : Nat) (w : List Nat) : Bool :=
  let ok (a n : Nat) : Bool := n == 0 || s.localOpen p slice a n
  (ciInputs w).any (fun x => !ok x.2.1 x.2.2) || !ok (ciDst w) (ciOut w) ||
  !(if ciGcm w || ciRes w != 0 then ok (ciRes w) 32 else true) || !(ciSeg w == 0 || ok (ciCtx w) 256) ||
  (ciOp w != 5 && decide (s.keyCount p ≤ ciSlot w))

/-- REJ_SHAPE. -/
def ciShapeBad (w : List Nat) : Bool :=
  decide (2 ^ 24 < ciLen w) || (ciXts w && ciLen w % ciUnit w != 0) || (!ciGcm w && ciOp w != 5 && ciSeg w != 0) ||
  (ciGcm w && !ciEnds w && ciLen w % 16 != 0) || (ciOp w == 5 && !ciEnds w && ciLen w % 136 != 0) ||
  (ciGcm w && (decide (65536 < ciAuxLen w) || (!ciBegins w && ciAuxLen w != 0))) ||
  (ciShake w && (if ciBegins w then ciAuxLen w == 0 || decide (65536 < ciAuxLen w) else ciAuxLen w != 0)) ||
  (ciOp w == 6 && ciLen w != keyBytes (ciParam w)) || ciRes w % 32 != 0 || ciCtx w % 64 != 0

/-- The status of a request `w` that fails a check, in the order of Table 12.4; `w1` are its words with the length that it writes. -/
def State.ciReject (s : State) (p slice : Nat) (w w1 : List Nat) (cp2 : Bool) : Option Nat :=
  if s.ciReservedBad w cp2 then some 1 else if s.ciBoundsBad p slice w1 then some 2 else if ciShapeBad w then some 3 else none

/-! ## The fetched requests -/

def State.ciReq (s : State) (id : Nat) : Option CipherReq := s.ciph.reqs.find? (fun r => r.id == id)
def State.setCiReq (s : State) (r : CipherReq) : State := { s with ciph := { s.ciph with reqs := s.ciph.reqs.map (fun e => if e.id == r.id then r else e) } }

/-- Slice of a request's addresses: its queue's, none for CP2. -/
def State.ciSlice (s : State) (r : CipherReq) : Nat := if r.queue = 0xFFFF then 0x7FF else (s.queue r.part 3 (2048 + r.queue)).slice

/-- Bytes written for a request. -/
def State.ciWrite (s : State) (r : CipherReq) (a : Nat) (bs : List Nat) : State := s.localWrite (.cipher r.id) r.part (s.ciSlice r) a bs

/-- The result record of a request that ends with `st` (R309): GCM_ENC writes it whole, a nonce or a tag that was not made being a free
value; the others write STATUS, those outside GCM only where RES_ADDR is not 0. A record that is misaligned or out of reach is not
written (notes/assumptions/74.md). -/
def State.ciRecord (s : State) (r : CipherReq) (st : Nat) (iv tag : Option (List Nat)) : State :=
  let a := ciRes r.words
  if a % 32 != 0 || !s.localOpen r.part (s.ciSlice r) a 32 then s
  else if ciOp r.words = 1 then
    let g := s.random 28
    g.1.ciWrite r a (iv.getD (g.2.take 12) ++ [st, 0, 0, 0] ++ tag.getD (g.2.drop 12))
  else s.when (ciOp r.words == 2 || a != 0) (fun t => t.ciWrite r (a + 12) [st])

/-- The request ends with `st`, its nonce `iv` if it has one: its result record is written and it waits to be posted. -/
def State.ciEndWith (s : State) (r : CipherReq) (st : Nat) (iv : Option (List Nat)) : State :=
  (s.ciRecord r st iv none).setCiReq { r with stage := .ended st }

/-- The request ends with `st` and no nonce. -/
def State.ciDone (s : State) (r : CipherReq) (st : Nat) : State := s.ciEndWith r st none

/-- The request has not ended. -/
def CipherReq.runs (r : CipherReq) : Bool := match r.stage with
  | .ended _ => false
  | _ => true

/-- Every request that `which` names ends with `st`. -/
def State.endReqs (s : State) (which : CipherReq → Bool) (st : Nat) : State := (s.ciph.reqs.filter which).foldl (fun t r => t.ciDone r st) s

/-- Bytes that the last request of a chain of SHAKE256 makes: AUX_LEN of its FIRST request, which the engine keeps by context; a free
number within Table 12.1 where it has seen none (notes/assumptions/74.md). -/
def State.shakeLen (s : State) (p : Nat) (w : List Nat) : Nat :=
  match Tab.get 0 s.ciph.shake (ciCtx w * 64 + p) with
  | 0 => 1 + s.draw.1 % 65536
  | n => n

/-- A request taken: checked, and ended with its rejection or queued to start (R310); one whose entry could not be read ends with `fail`
(R135, R185). -/
def State.acceptCipher (s : State) (p q idx slice : Nat) (w : List Nat) (cp2 : Bool) (fail : Option Nat) : State :=
  let last := ciShake w && ciSeg w == 3
  let w1 := if last then w.set 10 (s.shakeLen p w) else w
  let s := if last then s.draw.2 else s
  let bad := if fail.isSome then none else s.ciReject p slice w w1 cp2
  let r : CipherReq := { id := s.ciph.nextId, part := p, queue := q, idx := idx, words := w1, stage := .queued,
                         key := none, missing := 0, host := [], info := 0, silent := false }
  let t := { s with ciph := { s.ciph with
    reqs := s.ciph.reqs ++ [r], nextId := s.ciph.nextId + 1
    shake := if ciShake w && ciSeg w == 1 then Tab.set 0 s.ciph.shake (ciCtx w * 64 + p) (ciAuxLen w) else s.ciph.shake } }
  match bad.or fail with
  | none => t
  | some st => (t.when bad.isSome (fun t => t.ciphEvent Reg.CIPH_EVENT_REJECT)).ciDone r st

/-- The descriptor at the head of queue `q` is taken (R311); one whose entry could not be read ends at once (R135, R185). -/
def State.takeCipher (s : State) (p q : Nat) (w : List Nat) (fail : Option Bool) : State :=
  let r := s.queue p 3 (2048 + q)
  let t := (s.tookEntry p 3 (2048 + q)).acceptCipher p q r.fetchAt r.slice w false (fail.map (fun mem => if mem then 9 else 0xA))
  t.setQueue p 3 (2048 + q) { t.queue p 3 (2048 + q) with ci := (r.fetchAt + 1) % 65536 }

/-- CIPHER_FETCH on request queue `q` of a partition. -/
def State.fetchCipher (s : State) (p q : Nat) (words : List Nat) : State :=
  if !s.mayFetch p 3 (2048 + q) then s else s.fetchEntry p 3 (2048 + q) words (fun t w e => t.takeCipher p q w e)

/-- RESETTING of a request queue (R313): its EN is clear and a fetched request has not ended. -/
def State.ciResetting (s : State) (p q : Nat) : Bool :=
  !(s.queue p 3 (2048 + q)).en && s.ciph.reqs.any (fun r => r.part == p && r.queue == q)

/-! ## Start (R308, R310, R312) -/

/-- The first request of a queue that waits to start, when it may: a MIDDLE or LAST one only after the earlier requests of its
queue with the same context have ended, which is when they are posted (R311). -/
def State.ciHead (s : State) (p q : Nat) : Option CipherReq :=
  let l := s.ciph.reqs.filter (fun r => r.part == p && r.queue == q)
  match l.find? (fun r => decide (r.stage = .queued)) with
  | none => none
  | some r =>
    if (ciSeg r.words = 2 ∨ ciSeg r.words = 3) ∧
        l.any (fun e => decide (e.id < r.id) && ciCtx e.words == ciCtx r.words) then none
    else some r

/-- The request that starts next: partitions round robin, then the queues of each in turn. -/
def State.ciNext (s : State) : Option CipherReq :=
  let hs := (s.ciph.reqs.map (fun r => (r.part, r.queue))).eraseDups.filterMap (fun x => s.ciHead x.1 x.2)
  if hs.isEmpty then none
  else
    let after (l : List Nat) (last : Nat) : Nat :=
      let hi := l.filter (fun x => decide (last < x))
      if hi.isEmpty then l.foldl min (l.headD 0) else hi.foldl min (hi.headD 0)
    let p := after (hs.map (·.part)) s.ciph.lastPart
    let q := after ((hs.filter (fun r => r.part == p)).map (·.queue)) (Tab.get 65536 s.ciph.lastQueue p)
    hs.find? (fun r => r.part == p && r.queue == q)

/-- An alarm condition that keeps keys out (R328). -/
def State.alarmed (s : State) : Bool := s.on Reg.CIPH_ALARM_ACTIVE || s.on Reg.CIPH_ALARM_SHIELD

/-- The status with which a request ends instead of starting (Table 12.4). -/
def State.ciStartBad (s : State) (r : CipherReq) : Option Nat :=
  let w := r.words
  let x := s.keySlot r.part (ciSlot w)
  match ciOp w with
  | 1 => if !x.full then some 4 else if (x.gcm true).isNone then some 5 else if !s.epochValid then some 0xD else none
  | 2 => if !x.full then some 4 else if (x.gcm false).isNone then some 5 else none
  | 3 | 4 => if !x.full then some 4 else if x.xts.isNone then some 5 else none
  | 6 | 7 | 10 => if s.alarmed then some 4 else if x.full then some 8 else none
  | 9 => if !x.full then some 4 else if !bit x.usage 3 then some 5 else none
  | _ => none

/-- A started request takes its key and asks for the host bytes it needs. -/
def State.beginCipher (s : State) (r : CipherReq) (core : Nat) : State :=
  let w := r.words
  let x := s.keySlot r.part (ciSlot w)
  let host := (ciInputs w).filter (fun i => decide (i.2.1 < 2 ^ 63))
  let keyed := ciGcm w || ciXts w || ciOp w == 9
  let t := s.setCiReq { r with stage := .started core, key := if keyed then some x else none, missing := (host.map (·.2.2)).sum }
  host.foldl (fun t i => t.readHostFor r.part (s.ciSlice r) i.2.1 i.2.2 (fun o => .cipher r.id (i.1 * 2 ^ 26 + o))) t

/-- A good request starts on a core (R308, R315, R317). -/
def State.startOn (t : State) (r : CipherReq) : State :=
  let c := if ciOp r.words = 5 then t.pickCore r.part (ciSlot r.words) else t.takeCore r.part (ciSlot r.words)
  let x := c.1.cipherCore c.2
  if ciOp r.words = 1 ∧ c.1.rd Reg.CIPH_EPOCH_EPOCH ≤ x.epoch ∧ 2 ^ 40 - 1 ≤ x.count then c.1.ciphEvent Reg.CIPH_EVENT_NONCE_HOLD
  else c.1.beginCipher r c.2

/-- CIPHER_START: the next request starts on a core, or ends as Table 12.4 says. A core that holds its GCM encryptions starts
none (R316). -/
def State.startCipher (s : State) : State :=
  match s.ciNext with
  | none => s
  | some r =>
    let t := { s with ciph := { s.ciph with lastPart := r.part, lastQueue := Tab.set 65536 s.ciph.lastQueue r.part r.queue } }
    match t.ciStartBad r with
    | some st => t.ciDone r st
    | none => t.startOn r

/-! ## Running (R309, R318 to R323) -/

/-- Bytes of an input of a request: from the host's answers, or from the partition's memory. -/
def State.ciInput (s : State) (r : CipherReq) (place : Nat) : List Nat :=
  match (ciInputs r.words).find? (fun i => i.1 == place) with
  | none => []
  | some i =>
    if i.2.1 < 2 ^ 63 then (List.range i.2.2).map (fun o => (Tab.get (0 : Byte) r.host (place * 2 ^ 26 + o)).toNat)
    else s.localRead r.part i.2.1 i.2.2

/-- A started request of an operation whose inputs are all there runs `f`; one that cannot be read ends with MEM_ERR (R135). -/
def State.runCipher (s : State) (id op : Nat) (f : CipherReq → Nat → State) : State :=
  match s.ciReq id with
  | none => s
  | some r =>
    match r.stage with
    | .started core =>
      if ciOp r.words ≠ op ∨ r.missing ≠ 0 then s
      else if (ciInputs r.words).any (fun i => 2 ^ 63 ≤ i.2.1 && !s.readableVia r.part true (i.2.1 % 2 ^ 48) i.2.2) then ((ciInputs r.words).foldl (fun t i => t.when (decide (2 ^ 63 ≤ i.2.1)) (fun t => t.noteVia r.part (i.2.1 % 2 ^ 48) i.2.2)) s).ciDone r 9
      else f r core
    | _ => s

/-- The chaining state of a GCM message (R322). -/
structure GcmCtx where
  slot : Nat
  gen : Nat
  dec : Bool
  iv : List Nat
  ctr : Nat
  y : Nat
  aad : Nat
  text : Nat
deriving DecidableEq, Repr

/-- The 256 bytes of a GCM context wrapped under a partition key (R322). -/
def GcmCtx.bytes (x : GcmCtx) (pk : List Nat) : List Nat :=
  let body := leBytes 2 x.slot ++ [x.gen, b2n x.dec, 0, 0, 0, 0] ++ x.iv ++ [0, 0, 0, 0] ++ beBytes 16 x.ctr ++ beBytes 16 x.y ++ leBytes 8 x.aad ++ leBytes 8 x.text
  let wrapped := [0x4C, 0x44, 0x58, 0x43, 1, 0, 0, 0] ++ kwWrap pk body
  wrapped ++ List.replicate (256 - wrapped.length) 0

/-- A GCM context read back, none when it fails to unwrap (R322). -/
def GcmCtx.ofBytes (b pk : List Nat) : Option GcmCtx :=
  if b.take 8 ≠ [0x4C, 0x44, 0x58, 0x43, 1, 0, 0, 0] ∨ (b.drop 88).any (fun x => x != 0) then none
  else (kwUnwrap pk ((b.drop 8).take 80)).map (fun t =>
    { slot := leNat (t.take 2), gen := t.getD 2 0, dec := t.getD 3 0 == 1, iv := (t.drop 8).take 12, ctr := beNat ((t.drop 24).take 16),
      y := beNat ((t.drop 40).take 16), aad := leNat ((t.drop 56).take 8), text := leNat ((t.drop 64).take 8) })

def State.partKey (s : State) (p : Nat) : Option (List Nat) := Tab.get none s.ciph.partKeys p

/-- The context with which a segment of a GCM message begins: made at FIRST and WHOLE from a nonce, read back after that;
else the status with which the request ends. -/
def State.gcmBegin (s : State) (r : CipherReq) (dec : Bool) (iv : List Nat) (key : List Nat) : Except Nat GcmCtx :=
  let w := r.words
  let x := s.keySlot r.part (ciSlot w)
  let gen := r.key.elim x.gen (·.gen)
  if ciBegins w then
    if ciSeg w = 1 ∧ s.partKey r.part = none then .error 4
    else
      let aad := s.ciInput r 1
      let rk := keySchedule key
      .ok { slot := ciSlot w, gen := gen, dec := dec, iv := iv, ctr := inc32 (gcmJ0 iv) 1, y := ghash (gcmH rk) 0 aad, aad := aad.length, text := 0 }
  else match s.partKey r.part with
    | none => .error 7
    | some pk =>
      match GcmCtx.ofBytes (s.ciInput r 2) pk with
      | none => .error 7
      | some c =>
        if c.slot ≠ ciSlot w ∨ c.gen ≠ gen ∨ c.dec ≠ dec then .error 7
        else if 2 ^ 36 - 32 < c.text + ciLen w then .error 3
        else .ok c

/-- The context after a segment whose ciphertext is `ct`. -/
def GcmCtx.after (c : GcmCtx) (key ct : List Nat) : GcmCtx :=
  { c with ctr := inc32 c.ctr (ceilDiv ct.length 16), y := ghash (gcmH (keySchedule key)) c.y ct, text := c.text + ct.length }

/-- The context of a segment that another follows is written back. -/
def State.gcmKeep (s : State) (r : CipherReq) (c : GcmCtx) : State :=
  if ciEnds r.words then s else s.ciWrite r (ciCtx r.words) (c.bytes ((s.partKey r.part).getD []))

/-- The body of GCM_ENC under an IV: output, tag or context, result and INFO (R318). -/
def State.gcmSeal (t : State) (r : CipherReq) (iv : List Nat) (info : Nat) : State :=
  let w := r.words
  let key := r.key.elim [] (·.mat)
  match t.gcmBegin r false iv key with
  | .error st => t.ciEndWith r st (if iv.isEmpty then none else some iv)
  | .ok c =>
    let ct := gctr (keySchedule key) c.ctr (t.ciInput r 0)
    let c2 := c.after key ct
    let t := t.ciWrite r (ciDst w) ct
    let tag := if ciEnds w then some (gcmTag (keySchedule key) c.iv c2.y c2.aad c2.text) else none
    ((t.gcmKeep r c2).ciRecord r 0 (some c.iv) tag).setCiReq { r with stage := .ended 0, info := info }

/-- GCM_ENC (R315, R322). The tag of a segment that is not the last is a free value (notes/assumptions/3.md). -/
def State.gcmEnc (s : State) (r : CipherReq) (core : Nat) : State :=
  let w := r.words
  if !ciBegins w then
    match (s.partKey r.part).bind (fun pk => GcmCtx.ofBytes (s.ciInput r 2) pk) with
    | none => s.ciDone r 7
    | some c => s.gcmSeal r [] (beNat (c.iv.drop 8))
  else
    let n := s.nonce core r.part
    match n.2 with
    | none => n.1
    | some (iv, lo) => n.1.gcmSeal r iv lo

/-- GCM_DEC (R322, R323): the plaintext is written as it runs; zeros over DST and AUTH_FAIL when the tag does not match. -/
def State.gcmDec (s : State) (r : CipherReq) : State :=
  let w := r.words
  let key := r.key.elim [] (·.mat)
  let res := s.ciInput r 3
  match s.gcmBegin r true (res.take 12) key with
  | .error st => s.ciDone r st
  | .ok c =>
    let ct := s.ciInput r 0
    let c2 := c.after key ct
    let t := s.ciWrite r (ciDst w) (gctr (keySchedule key) c.ctr ct)
    if ciEnds w && gcmTag (keySchedule key) c.iv c2.y c2.aad c2.text != (res.drop 16).take 16 then
      (t.ciWrite r (ciDst w) (List.replicate ct.length 0)).ciDone r 6
    else (t.gcmKeep r c2).ciDone r 0

/-- XTS_ENC and XTS_DEC: data units numbered from AUX. -/
def State.xtsRun (s : State) (r : CipherReq) (enc : Bool) : State :=
  (s.ciWrite r (ciDst r.words) (xts enc (r.key.elim [] (·.mat)) (ciUnit r.words) (ciAux r.words) (s.ciInput r 0))).ciDone r 0

/-- HASH (R322): the context holds the Keccak state in the clear. -/
def State.hashRun (s : State) (r : CipherReq) : State :=
  let w := r.words
  let c := s.ciInput r 2
  if !ciBegins w && (c.getD 200 0 != ciParam w) then s.ciDone r 7
  else
    let st := if ciBegins w then keccakZero else c.take 200
    let n := if ciBegins w then 0 else leNat ((c.drop 208).take 8)
    let inp := s.ciInput r 0
    if ciEnds w then
      (s.ciWrite r (ciDst w) (squeeze (finish st (if ciShake w then 0x1F else 0x06) inp) (ciOut w))).ciDone r 0
    else
      (s.ciWrite r (ciCtx w) (absorb st inp ++ [ciParam w, 0, 0, 0, 0, 0, 0, 0] ++ leBytes 8 (n + inp.length) ++ List.replicate 40 0)).ciDone r 0

/-- The 72 bytes of a slot that KW wraps (R320; their order is the model's, notes/assumptions/18.md). -/
def KeySlot.text (x : KeySlot) : List Nat := [x.typ, x.usage, x.gen, 0, 0, 0, 0, 0] ++ x.mat ++ List.replicate (64 - x.mat.length) 0
/-- The slot that 72 such bytes fill; `era` counts the erasures of the slot they go to. -/
def KeySlot.ofText (era : Nat) (t : List Nat) : KeySlot :=
  { full := true, era := era, typ := t.getD 0 0, usage := t.getD 1 0, gen := t.getD 2 0, mat := (t.drop 8).take (keyBytes (t.getD 0 0)) }

/-- A slot filled (R318). -/
def State.fillSlot (s : State) (r : CipherReq) (mat : List Nat) : State :=
  let k := ciSlot r.words
  let x := s.keySlot r.part k
  if x.full then s.ciDone r 8
  else (s.setKeySlot r.part k { x with full := true, typ := ciParam r.words, usage := ciUsage r.words, gen := (x.gen + 1) % 256, mat := mat }).ciDone r 0

/-- ERASE (R319): the slot is empty for everything that has not started with it. -/
def State.eraseSlot (s : State) (p k : Nat) : State :=
  let x := s.keySlot p k
  s.setKeySlot p k { KeySlot.reset with gen := (x.gen + 1) % 256, era := x.era + 1 }

/-- The slots of a partition from slot `k` on, which enter its grant or leave it, are erased (R158, R317). -/
def State.eraseSlots (s : State) (p k : Nat) : State :=
  let mine := fun (x : Nat) => x / 512 == p && decide (k ≤ x % 512)
  let t : State := { s with ciph := { s.ciph with keys := s.ciph.keys.map (fun e => if mine e.1 then (e.1, { KeySlot.reset with gen := (e.2.gen + 1) % 256, era := e.2.era + 1 }) else e) } }
  t.each 16 (fun i t => t.setCipherCore i { t.cipherCore i with cache := (t.cipherCore i).cache.filter (fun x => !mine x) })

/-- Every core erases its cached copy of a slot's key (R319). -/
def State.uncache (s : State) (p k : Nat) : State :=
  s.each 16 (fun i t => t.setCipherCore i { t.cipherCore i with cache := (t.cipherCore i).cache.filter (fun y => y != p * 512 + k) })

/-- WRAP and UNWRAP under the partition key (R320); a partition without one has KEY_EMPTY. -/
def State.wrapRun (s : State) (r : CipherReq) : State :=
  match s.partKey r.part, r.key with
  | some pk, some x => (s.ciWrite r (ciDst r.words) (kwWrap pk x.text)).ciDone r 0
  | _, _ => s.ciDone r 4
def State.unwrapRun (s : State) (r : CipherReq) : State :=
  match s.partKey r.part with
  | none => s.ciDone r 4
  | some pk =>
    match kwUnwrap pk (s.ciInput r 0) with
    | none => s.ciDone r 6
    | some t => if (s.keySlot r.part (ciSlot r.words)).full then s.ciDone r 8 else (s.setKeySlot r.part (ciSlot r.words) (KeySlot.ofText (s.keySlot r.part (ciSlot r.words)).era t)).ciDone r 0

/-! ## End (R311, R319) -/

/-- Started work still holds the key that an ERASE took away, one from before the slot's last erasure: a request, or a packet that
waits to leave and is sealed then. -/
def State.keyInUse (s : State) (r : CipherReq) : Bool :=
  let k := ciSlot r.words
  let era := (s.keySlot r.part k).era
  ciOp r.words == 8 &&
    (s.ciph.reqs.any (fun e => e.id != r.id && e.part == r.part && ciSlot e.words == k && e.key.elim false (fun x => x.era != era) &&
      (match e.stage with | .started _ => true | _ => false)) ||
     (List.range 26).any (fun l => (s.port l).waiting.any (fun f => match f.body with
      | .rkt _ _ d => d.slot.elim false (fun x => x.1 == r.part * 512 + k && x.2 != era)
      | _ => false)))

/-- CIPHER_COMPLETE: the request's records, its bump and its CQE. -/
def State.completeCipher (s : State) (r : CipherReq) (st : Nat) : State :=
  let w := r.words
  let cp2 := r.queue == 0xFFFF
  let t := { s with ciph := { s.ciph with reqs := s.ciph.reqs.filter (fun e => e.id != r.id) } }
  let t := t.when (ciOp w == 8 && st == 0) (fun t => t.uncache r.part (ciSlot w))
  let t := t.when (st != 0) (fun t => (((t.wr Reg.CIPH_ERR_INFO_STATUS st).wr Reg.CIPH_ERR_INFO_PART r.part).wr Reg.CIPH_ERR_INFO_QUEUE r.queue).wr
    Reg.CIPH_ERR_INFO_USER (ciFld w 2 0 32))
  let t := match st with
    | 6 => t.ciphEvent Reg.CIPH_EVENT_AUTH_FAIL
    | 9 => t.ciphEvent Reg.CIPH_EVENT_MEM_ERR
    | _ => t
  if r.silent then t
  else
    let t := t.when (st == 0 && bit (w.getD 0 0) 5) (fun t => t.bump r.part (0x400 + ciFld w 0 6 6))
    let cq := if cp2 then ciFld w 10 0 12 else bits (s.queue r.part 3 (2048 + r.queue)).w4 0 12
    let logN := (s.queue r.part 3 (2048 + r.queue)).logN
    t.when (bit (w.getD 0 0) 4 && !(cp2 && (ciGcm w || ciShake w))) (fun t => t.postCqe r.part cq
      { status := st, kind := 6, op := 0, imm := false, queue := r.queue, index := if cp2 then 0 else r.idx % 2 ^ logN,
        info := if ciOp w = 1 then r.info else 0, user := ciFld w 2 0 32 })

/-- Host bytes of an input arrive, or their read fails with HOST_ERR (R185). -/
def State.cipherHostData (s : State) (id off : Nat) (bs : List Nat) : State :=
  match s.ciReq id with
  | none => s
  | some r => s.setCiReq { r with
      missing := r.missing - bs.length
      host := (List.range bs.length).foldl (fun m i => Tab.set (0 : Byte) m (off + i) (BitVec.ofNat 8 (bs.getD i 0))) r.host }
def State.cipherHostFail (s : State) (id : Nat) : State :=
  match s.ciReq id with
  | none => s
  | some r => (match r.stage with
    | .started _ => s.ciDone r 0xA
    | _ => s)

/-! ## Resets, partitions and alarms (R313, R314, R317, R320, R321, R327, R328) -/

/-- Clearing EN of a request queue: unfetched requests go, those not started end with ABORTED (R313). -/
def State.cipherReset (s : State) (p q : Nat) : State :=
  let t := s.setQueue p 3 (2048 + q) { s.queue p 3 (2048 + q) with fetchAt := (s.queue p 3 (2048 + q)).pi, latched := none }
  t.endReqs (fun r => r.part == p && r.queue == q && decide (r.stage = .queued)) 0xB

/-- STOP (R314): requests that have not started go; started ones run to their end and post nothing. -/
def State.cipherStop (s : State) (p : Nat) : State :=
  { s with ciph := { s.ciph with
    reqs := (s.ciph.reqs.filter (fun r => !(r.part == p && decide (r.stage = .queued)))).map (fun r => if r.part == p then { r with silent := true } else r) } }

/-- A partition key made at CREATE, while no alarm forbids it (R320, R328). -/
def State.makePartKey (s : State) (p : Nat) : State :=
  if s.alarmed then s
  else
    let r := s.random 32
    ({ r.1 with ciph := { r.1.ciph with partKeys := Tab.set none r.1.ciph.partKeys p (some r.2) } }).wr (Reg.CIPH_PART_PK_SET p) 1

/-- Every key of a partition erased (R158, R317). -/
def State.dropKeys (s : State) (p : Nat) : State :=
  let t := { s with ciph := { s.ciph with
    keys := s.ciph.keys.filter (fun e => e.1 / 512 != p)
    partKeys := Tab.set none s.ciph.partKeys p none
    exportKeys := Tab.set none s.ciph.exportKeys p none
    ekWords := s.ciph.ekWords.filter (fun e => e.1 / 8 != p)
    shake := s.ciph.shake.filter (fun e => e.1 % 64 != p) } }
  let t := (t.wr (Reg.CIPH_PART_PK_SET p) 0).wr (Reg.CIPH_PART_EK_SET p) 0
  t.each 16 (fun i t => t.setCipherCore i { t.cipherCore i with cache := (t.cipherCore i).cache.filter (fun y => y / 512 != p) })

/-- When no alarm bit is left set and ACTIVE is 0 after an alarm, every tenant partition that exists gets a new partition key (R328). -/
def State.rekey (s : State) : State :=
  if s.alarmed || s.on Reg.CIPH_ALARM_VOLT || s.on Reg.CIPH_ALARM_CLOCK || s.on Reg.CIPH_ALARM_TEMP then s
  else if !s.ciph.alarm then s
  else ({ s with ciph := { s.ciph with alarm := false } } : State).each 63 (fun i t => if t.partState (i + 1) = .free then t else t.makePartKey (i + 1))

/-- Packets that wait to leave and the keys that would seal them go (R327): their connections find no key and enter ERROR (R324,
notes/assumptions/74.md). -/
def State.dropSealed (s : State) : State :=
  let sealed (f : TxFrame) : Option Nat := match f.body with
    | .rkt _ _ d => if d.key.isSome then d.conn else none
    | _ => none
  let cs := ((s.fab.ports.map (fun e => e.2.waiting.filterMap sealed)).flatten).eraseDups
  let t : State := { s with fab := { s.fab with ports := s.fab.ports.foldl (fun m e =>
    Tab.set PortSt.reset m e.1 { e.2 with waiting := e.2.waiting.filter (fun f => (sealed f).isNone) }) [] } }
  cs.foldl (fun t c => if (t.conn c).state = .rts then t.connError c none 3 7 c else t) t

/-- Every key and every core's working state erased; started requests end with KEY_ERASED, decryptions after zeros over
their DST (R327). -/
def State.eraseAll (s : State) : State :=
  let started := s.ciph.reqs.filter (fun r => match r.stage with | .started _ => true | _ => false)
  let t := started.foldl (fun t r =>
    (t.when (ciOp r.words == 2 || ciOp r.words == 4) (fun t => t.ciWrite r (ciDst r.words) (List.replicate (ciLen r.words) 0))).ciDone
      { r with key := none } 0xC) s
  let t : State := { t with ciph := { t.ciph with
    keys := t.ciph.keys.foldl (fun m e => Tab.set KeySlot.reset m e.1 { KeySlot.reset with gen := e.2.gen, era := e.2.era + 1 }) []
    partKeys := []
    exportKeys := []
    ekWords := []
    alarm := true
    cores := t.ciph.cores.foldl (fun m e => Tab.set CipherCore.reset m e.1 { e.2 with cache := [] }) [] } }
  (t.each 64 (fun p t => (t.wr (Reg.CIPH_PART_PK_SET p) 0).wr (Reg.CIPH_PART_EK_SET p) 0)).dropSealed

/-- SLOT_BASE of every partition: the tenants' ranges one after another in partition order (R317, notes/assumptions/18.md). -/
def State.packKeys (s : State) : State :=
  ((List.range 63).foldl (fun (r : State × Nat) i => (r.1.wr (Reg.CIPH_PART_SLOT_BASE (i + 1)) r.2, r.2 + (r.1.part (i + 1)).grants.keys)) (s, 0)).1

/-- The export key of a partition, and the slots of a partition wrapped under it (R321). -/
def State.exportKey (s : State) (p : Nat) : Option (List Nat) := Tab.get none s.ciph.exportKeys p

/-- A word of an export key, the last of which sets the key (R321). -/
def State.exportKeyWord (s : State) (p word value : Nat) : State :=
  let t := { s with ciph := { s.ciph with ekWords := Tab.set 0 s.ciph.ekWords (p * 8 + word) (value % 2 ^ 32) } }
  if word ≠ 7 then t
  else
    let key := ((List.range 8).map (fun i => leBytes 4 (Tab.get 0 t.ciph.ekWords (p * 8 + i)))).flatten
    { t with ciph := { t.ciph with exportKeys := Tab.set none t.ciph.exportKeys p (some key) } }.wr (Reg.CIPH_PART_EK_SET p) 1

/-- A write of word `word` of CIPH_PART_EK (R320): held, taken whole at the last word; refused outside READY and FROZEN. -/
def State.writeExportKey (s : State) (p word value : Nat) : State :=
  if !(s.partState p = .ready ∨ s.partState p = .frozen) then s.unsup .pf (Reg.CIPH_PART_EK p + 4 * word) true
  else
    s.exportKeyWord p word value

/-- A write of the epoch by the Reeve (R316): a higher epoch, which it has recorded in flash, is taken, and packets that waited for a nonce are sealed and sent. -/
def State.writeEpoch (s : State) (value : Nat) : State :=
  if value % 2 ^ 24 ≤ s.rd Reg.CIPH_EPOCH_EPOCH then s
  else
    let t := (s.wr Reg.CIPH_EPOCH_EPOCH value).wr Reg.CIPH_EPOCH_VALID 1
    let t : State := { t with rv := { t.rv with epoch := max t.rv.epoch (value % 2 ^ 24) } }
    t.ciph.heldPkts.foldl (fun t h => t.sealSend h.conn h.slot h.part h.pkt) { t with ciph := { t.ciph with heldPkts := [] } }

/-- A write of CIPH_CFG.NONCE_ID: discarded and recorded while any slot holds a key (R315). -/
def State.writeNonceId (s : State) (src : Src) (value : Nat) : State :=
  if s.keysHeld ≠ 0 then s.unsup src Reg.CIPH_CFG true else s.wr Reg.CIPH_CFG_NONCE_ID value

/-! ## Meanings -/

/-- CIPHER_FETCH (R310). -/
def execCipherFetch (p q : Nat) (words : List Nat) (s : State) : Host.Outcome State Fault Refusal := s.guarded (p < 64 && q < 2048) (s.fetchCipher p q words)

/-- CIPHER_START (R308). -/
def execCipherStart (s : State) : Host.Outcome State Fault Refusal := .next s.startCipher

/-- GCM_ENC (R315). -/
def execGcmEnc (id : Nat) (s : State) : Host.Outcome State Fault Refusal := .next (s.runCipher id 1 (fun r core => s.gcmEnc r core))

/-- GCM_DEC (R323). -/
def execGcmDec (id : Nat) (s : State) : Host.Outcome State Fault Refusal := .next (s.runCipher id 2 (fun r _ => s.gcmDec r))

/-- XTS_ENC (R309). -/
def execXtsEnc (id : Nat) (s : State) : Host.Outcome State Fault Refusal := .next (s.runCipher id 3 (fun r _ => s.xtsRun r true))

/-- XTS_DEC (R309). -/
def execXtsDec (id : Nat) (s : State) : Host.Outcome State Fault Refusal := .next (s.runCipher id 4 (fun r _ => s.xtsRun r false))

/-- HASH (R309). -/
def execHash (id : Nat) (s : State) : Host.Outcome State Fault Refusal := .next (s.runCipher id 5 (fun r _ => s.hashRun r))

/-- LOAD (R318). -/
def execLoad (id : Nat) (s : State) : Host.Outcome State Fault Refusal := .next (s.runCipher id 6 (fun r _ => s.fillSlot r (s.ciInput r 0)))

/-- GENKEY (R318): the key is a free value. -/
def execGenkey (id : Nat) (s : State) : Host.Outcome State Fault Refusal :=
  .next (s.runCipher id 7 (fun r _ => (s.random (keyBytes (ciParam r.words))).1.fillSlot r (s.random (keyBytes (ciParam r.words))).2))

/-- ERASE (R319). -/
def execErase (id : Nat) (s : State) : Host.Outcome State Fault Refusal :=
  .next (s.runCipher id 8 (fun r _ => (s.eraseSlot r.part (ciSlot r.words)).ciDone r 0))

/-- WRAP (R320). -/
def execWrap (id : Nat) (s : State) : Host.Outcome State Fault Refusal := .next (s.runCipher id 9 (fun r _ => s.wrapRun r))

/-- UNWRAP (R320). -/
def execUnwrap (id : Nat) (s : State) : Host.Outcome State Fault Refusal := .next (s.runCipher id 10 (fun r _ => s.unwrapRun r))

/-- CIPHER_COMPLETE (R311): an ended request is posted once every byte that it wrote is visible; an ERASE once no started work holds
the key (R319). -/
def execCipherComplete (id : Nat) (s : State) : Host.Outcome State Fault Refusal :=
  .next (match s.ciReq id with
    | none => s
    | some r =>
      match r.stage with
      | .ended st => if s.keyInUse r || s.memSt.held.any (fun h => decide (h.who = .cipher r.id)) then s else s.completeCipher r st
      | _ => s)

/-- EPOCH_WRITE (R316). -/
def execEpochWrite (value : Nat) (s : State) : Host.Outcome State Fault Refusal :=
  .next (s.writeEpoch value)

/-- EXPORT_KEY_WRITE (R320): the write of the commit word. -/
def execExportKeyWrite (p value : Nat) (s : State) : Host.Outcome State Fault Refusal := s.fromPf 11 (s.guarded (0 < p && p < 64) (s.writeExportKey p 7 value))

/-- NONCE_ID_WRITE (R315). -/
def execNonceIdWrite (value : Nat) (s : State) : Host.Outcome State Fault Refusal :=
  s.fromPf 11 (.next (s.writeNonceId .pf value))

/-- ALARM_CLEAR (R328): the conditions are over, and new partition keys are made when no alarm bit is left. -/
def execAlarmClear (s : State) : Host.Outcome State Fault Refusal := .next (s.wr Reg.CIPH_ALARM_ACTIVE 0).rekey

end Sys2Proof.Machine
end

