-- ==== Sys2Proof/Machine/Fault.lean ====
section
/-! DEFINITION. Fault handling: the record and class of a fault, fence and restore, replay, switch-over (R329 to R343). -/

namespace Sys2Proof.Machine

/-! ## Class (R329, R330, Table 13.1) -/

/-- The class of a cause: 0 corrected, 1 contained, 2 partition-fatal, 3 module-fatal; none for a code the table does not hold.
Causes classed by the owner of the granule are decided by `byOwner`. -/
def faultClass (code : Nat) : Option Nat :=
  if (1 ≤ code ∧ code ≤ 7) ∨ code = 0xA ∨ code = 0x11 ∨ code = 0x20 ∨ code = 0x32 then some 1
  else if code = 8 ∨ code = 0x40 ∨ code = 0x50 then some 0
  else if code = 9 ∨ code = 0x30 ∨ code = 0x31 then some 2
  else if code = 0x12 ∨ code = 0x13 ∨ code = 0x21 ∨ code = 0x22 ∨ code = 0x41 then some 3
  else if code = 0x10 ∨ code = 0x14 then some 3
  else none

/-- The tenant partition whose grant holds a module address (R158). -/
def State.tenantOf (s : State) (a : Nat) : Option Nat :=
  (List.range 63).findSome? (fun i =>
    let g := (s.part (i + 1)).grants
    let mine := match spaceOf a with
      | .gddr o => g.segs.any (fun x => decide (x.mbase * 2 ^ 26 ≤ o) && decide (o < (x.mbase + x.len) * 2 ^ 26))
      | .commons o => decide (g.commonsBase * 65536 ≤ o) && decide (o < (g.commonsBase + g.commonsLen) * 65536)
      | _ => false
    if mine then some (i + 1) else none)

/-- The class of an error in memory, by the owner of the unit that failed: the class, and the partition it is fatal for. -/
def State.byOwner (s : State) (a : Nat) : Nat × Nat :=
  match s.tenantOf a with
  | some p => (2, p)
  | none => if (s.granaryOf a).isSome then (0, 0) else (3, 0)

/-- CKP_EVENT bits go to vector 0. -/
def State.ckpEvent (s : State) (f : Fld) : State := s.event f Reg.CKP_EVENT_EN_EN 0

/-- The generation slot that holds the address is marked lost (R330). -/
def State.loseGranary (s : State) (a : Nat) : State :=
  match s.granaryOf a with
  | some (g, some k) => { s with flt := { s.flt with granLost := Tab.set false s.flt.granLost (g * 2 + k) true } }.ckpEvent Reg.CKP_EVENT_GRANARY_LOST
  | _ => s

/-- The record of a fault with its final cause and class (R329): FLT_CAUSE, the class count, the class event, the event log. -/
def State.recordFault (s : State) (code cls part engine unit : Nat) : State :=
  let t := (((((s.wr Reg.FLT_CAUSE_CODE code).wr Reg.FLT_CAUSE_CLASS cls).wr Reg.FLT_CAUSE_PART part).wr Reg.FLT_CAUSE_ENGINE engine).wr
    Reg.FLT_CAUSE_UNIT unit).wr Reg.FLT_CAUSE_BELL s.count
  let t := match cls with
    | 0 => (t.incSat Reg.FLT_COUNT_CORRECTED 1).fltEvent Reg.FLT_EVENT_CORRECTED
    | 1 => (t.incSat Reg.FLT_COUNT_CONTAINED 1).fltEvent Reg.FLT_EVENT_CONTAINED
    | 2 => (t.incSat Reg.FLT_COUNT_PART_FATAL 1).fltEvent Reg.FLT_EVENT_PART_FATAL
    | _ => (t.incSat Reg.FLT_COUNT_MODULE_FATAL 1).fltEvent Reg.FLT_EVENT_MODULE_FATAL
  let d := t.draw
  let t := d.2.logEntry 13 (cls + 1) code (if s.tst.injecting then d.1 % 2 ^ 64 / 2 * 2 + 1 else d.1 % 2 ^ 64)
  if cls < 2 then t.aer 0 "Corrected Internal Error" (some [code, 0, 0, 0])
  else if cls = 3 then t.aer 0 "Uncorrectable Internal Error" (some [code, 0, 0, 0])
  else t

/-! ## Partition-fatal and module-fatal faults (R341, R342) -/

/-- A partition enters FATAL at the next edge. -/
def State.partFatal (s : State) (p : Nat) : State :=
  if p = 0 ∨ p ∈ s.flt.fatalDue then s else { s with flt := { s.flt with fatalDue := s.flt.fatalDue ++ [p] } }

/-- A partition-fatal fault of partition `p`, reported on its VF (R188, R341). -/
def State.partFault (s : State) (code p : Nat) : State :=
  ((s.part p).vf.elim s (fun f => s.aer f "Uncorrectable Internal Error" (some [code, 0, 0, 0]))).partFatal p

/-- A module-fatal fault (R342). -/
def State.moduleFatal (s : State) (code : Nat) : State :=
  let serve := !(code = 0x12 ∨ code = 0x13 ∨ code = 0x22 ∨ code = 0x41)
  let t := (s.wr Reg.FLT_STATUS_MODULE_FATAL 1).wr Reg.FLT_STATUS_GRAN_SERVE (b2n serve)
  let t := t.each 63 (fun i t => if t.partState (i + 1) = .free then t else t.partFatal (i + 1))
  { t with fab := { t.fab with ports := t.fab.ports.foldl (fun m e =>
      Tab.set PortSt.reset m e.1 { e.2 with waiting := e.2.waiting.filter (fun f => t.maySendFatal f) }) [] } }

/-! ## Fence, switch-over and restore (R83, R331, R334, R335) -/

/-- Partitions with work in the bells that a replay of engine `n` would run. -/
def State.workParts (s : State) (n ps : Nat) : List Nat :=
  ((s.mopLog n).map (·.part) ++ (s.copy ps).log.map (·.part) ++ (s.slot ps).queue.map (·.part) ++ (s.copy ps).queue.map (·.part) ++
    ((List.range 16).filter (fun k => s.ctxBound (ps * 16 + k))).map (fun k => s.ctxPart (ps * 16 + k))).eraseDups

/-- The snapshot from which context `k` (core·4 + context) of engine `n` restarts in a replay of bells `b0` to `d` (R336). -/
def State.restartFrom (s : State) (n k b0 d : Nat) : Option Snap :=
  let l := (Tab.get [] s.flt.snaps (n * 16 + k)).filter (fun x => decide (b0 ≤ x.bell) && decide (x.bell ≤ d))
  match l with
  | [] => none
  | h :: r => some (r.foldl (fun b x => if x.bell < b.bell then x else b) h)

/-- The slot's contexts stop (R122). One that waits and that no snapshot from bell `b0` on restarts goes on at resumption (R336,
notes/assumptions/51.md). -/
def State.stopSlot (s : State) (n ps b0 : Nat) : State :=
  s.each 16 (fun k t =>
    let x := t.ctx (ps * 16 + k)
    if !x.alive then t
    else t.setCtx (ps * 16 + k)
      { x with run := .stopped, late := false, parked := if (s.restartFrom n k b0 s.count).isSome then none else some x.run })

/-- What a slot's copy engine keeps at a fence: requests that no replayed program issues again, which run again from their
queue (Table 13.2; notes/assumptions/19.md). -/
def CopyEng.atFence (x : CopyEng) (u : Nat) : CopyEng :=
  { x with
    restore := true
    queue := (x.queue.filter (fun d => cpdReplay d.words == 0 && (d.src.key u).isNone && decide (d.src ≠ .replay))).map (fun d =>
      match d.stage with
      | .inflight => { d with stage := .queued, held := none }
      | _ => d) }

/-- The byte at a module address stands in the tile store or a tending-core memory of engine `n`. -/
def slotByte (n a : Nat) : Bool :=
  match spaceOf a with
  | .tile m _ => m == n
  | .tcLocal m _ _ => m == n
  | _ => false

/-- Context `i` of slot `ps`, with its control registers, stands in slot `q` (R83). -/
def State.moveCtx (s : State) (ps q i : Nat) : State :=
  let k := i / 4
  let c := i % 4
  let mv (t : State) (f : Nat → Fld) : State := t.wr (f q) (t.rd (f ps))
  let t := [fun x => Reg.TC_CTX_BIND_PART x k c, fun x => Reg.TC_CTX_BIND_LEVEL x k c, fun x => Reg.TC_CTX_BIND_EN x k c, fun x => Reg.TC_CTX_BIND_BASE x k c,
    fun x => Reg.TC_CTX_BIND_SIZE x k c, fun x => Reg.TC_CTX_PC_START_PC x k c].foldl mv s
  t.setCtx (q * 16 + i) (t.ctx (ps * 16 + i))

/-- Slot `q` of die `d` takes the place of slot `ps`: its event enables, contexts and copy engine (R83). -/
def State.takePlace (s : State) (d ps q : Nat) : State :=
  let t := (s.wr (Reg.ME_ERR_EN_EN q) (s.rd (Reg.ME_ERR_EN_EN ps))).wr (Reg.ME_DIE_STATUS_SPARE_AVAIL d) 0
  let t := t.each 16 (fun i t => t.moveCtx ps q i)
  t.setCopy q (t.copy ps)

/-- Nothing is left in slot `ps`. -/
def State.leaveSlot (s : State) (ps : Nat) : State :=
  let t := s.each 16 (fun i t => (t.wr (Reg.TC_CTX_BIND_EN ps (i / 4) (i % 4)) 0).setCtx (ps * 16 + i) Ctx.reset)
  (t.setCopy ps CopyEng.reset).setSlot ps Slot.reset

/-- The bytes of logical engine `n`'s slot memories and their marks are gone. -/
def State.loseSlotBytes (s : State) (n : Nat) : State :=
  { s with mem := s.mem.filter (fun e => !slotByte n e.1), memSt := { s.memSt with bad := s.memSt.bad.filter (fun e => !slotByte n e.1) } }

/-- The switch-over of R83: the logical engine moves to the spare slot, its control registers, contexts and logs with it; what
stood in the slot's memories is lost. -/
def State.switchOver (s : State) (n ps : Nat) (dest : Option Nat) : State :=
  let d := n / 8
  let t := s.wr (Reg.ME_DIE_STATUS_FAILED d) (Nat.lor (s.rd (Reg.ME_DIE_STATUS_FAILED d)) (2 ^ (ps % 9)))
  let t := (t.wr (meMapFld n) (dest.elim 15 (fun q => q % 9))).loseSlotBytes n
  let t := dest.elim t (t.takePlace d ps)
  (t.leaveSlot ps).refreshSlots d

/-- A log entry that runs again behind those before it: it moves its bytes, or has already ended with status `st`. -/
def State.queueRestore (s : State) (u : Nat) (d : Cpd) (st : Option Nat) : State :=
  let x := s.copy u
  { s with cpdId := s.cpdId + 1 }.setCopy u { x with queue := x.queue ++ [{ d with id := s.cpdId, stage := st.elim .queued .finished }] }

/-- One entry runs again on copy engine `u`, after the words 2 to 6 in `done` have run: at once while nothing that was asked of a peer
is outstanding, else behind it, since the entries run in their original order (R335); the second part is `done` with its own. -/
def State.restoreOne (s : State) (u b0 : Nat) (done : List (List Nat)) (e : LogCpd) : State × List (List Nat) :=
  let key := (e.words.drop 2).take 5
  let own := decide (b0 ≤ e.bell)
  let d : Cpd := { id := s.cpdId, words := e.words, part := e.part, levelP := e.levelP, bell := e.bell, src := .replay, stage := .inflight,
                   held := none, since := s.count }
  let rej := (s.cpdReject e.part e.levelP none e.bell e.words).filter (fun st => st != 4)
  let silent : Cpd := if own then d else { d with words := e.words.set 0 (setBits (setBits (e.words.getD 0 0) 10 1 0) 11 1 0) }
  let ended := if e.only && decide (key ∈ done) then some 0 else rej
  let next := if ended.isSome then done else done ++ [key]
  if cpdKind e.words ≠ 2 ∨ (s.copy u).queue.any (fun c => decide (c.src = .replay)) then (s.queueRestore u silent ended, next)
  else match ended with
    | some st => (s.when own (fun t => t.postCpd u d st), next)
    | none =>
      let m := s.moveRows d (cpdRows d.words * cpdRowLen d.words)
      ((m.1.inc (Reg.CPY_BYTES_COUNT u) m.2.1).when own (fun t => t.postCpd u d (if m.2.2 then 0 else 7)), next)

/-- Log entries issued before the release of bell `b0` run again in order (R335): LOCAL copies move at once, an ONLY entry with
the words 2 to 6 of one already run moves nothing, a GET is asked again. Those of a bell before `b0` post nothing. -/
def State.restoreLog (s : State) (u b0 : Nat) : State :=
  (((s.copy u).log.filter (fun e => decide (e.pb < b0))).foldl (fun (r : State × List (List Nat)) e => r.1.restoreOne u b0 r.2 e) (s, [])).1

/-- First-run completions since the release of bell `b0`: by partition, and bumps by counter (R336). -/
def State.firstRun (s : State) (n b0 : Nat) : Tab Nat × Tab Nat :=
  ((Tab.get [] s.flt.posted n).filter (fun x => decide (b0 ≤ x.bell))).foldl (fun (r : Tab Nat × Tab Nat) x =>
    (Tab.set 0 r.1 x.part (Tab.get 0 r.1 x.part + 1),
     match x.bump with
     | some id => Tab.set 0 r.2 (x.part * 65536 + id) (Tab.get 0 r.2 (x.part * 65536 + id) + 1)
     | none => r.2)) ([], [])

/-- The drains and copies of slot `ps` in progress write no further byte (R335): those written stay. -/
def State.cutSlot (s : State) (ps : Nat) : State :=
  let t := ((s.slot ps).queue.filter (fun m => decide (m.stage = .draining))).foldl (fun t m => (t.cutDrain m).1) s
  ((s.copy ps).queue.filter Cpd.moving).foldl (fun t d => t.cutCopy ps 64 d) t

/-- The fence of engine `n` (R335): its contexts stop, its array and copy engine hold their results, its logged MOPs are to run
again, and the bells from `b0` on do not commit. -/
def State.fenceEngine (s : State) (n ps b0 : Nat) : State :=
  let t := (s.cutSlot ps).stopSlot n ps b0
  let t := t.setCopy ps ((t.copy ps).atFence ps)
  let t := t.setSlot ps { Slot.reset with fenced := true, lastStep := (s.slot ps).lastStep }
  (t.setMopLog n ((t.mopLog n).map (fun e => { e with released := false }))).holdBell n (some b0)

/-- Counted replays of engine `n` that ran bell `b0`: each that began at or before it, as every one does whose last bell is not below
it (R331). -/
def State.triesOf (s : State) (n b0 : Nat) : Nat := ((Tab.get [] s.flt.tries n).filter (fun d => decide (b0 ≤ d))).length

/-- The replay of bells `b0` to `d` of engine `n` is ordered (R334, R335): its slot is fenced, its spare taken when `dest` names
one, ready to step 200 ns later (R83), its logs are set back, and the restore runs. -/
def State.orderReplay (s : State) (n ps : Nat) (dest : Option Nat) (b0 d : Nat) (counted : Bool) : State :=
  let q := dest.getD ps
  let tries := s.triesOf n b0 + b2n counted
  let t := s.fenceEngine n ps b0
  let t := if dest.isSome then ((t.switchOver n ps dest).setSlot q { Slot.reset with fenced := true, readyAt := s.now + 800 }).fltEvent Reg.FLT_EVENT_SWITCHED
    else t
  let run := t.firstRun n b0
  let r : Replay := { b0 := b0, d := d, begun := false, left := run.1, hidden := run.2,
                      ctxs := (List.range 16).filter (fun k => (t.restartFrom n k b0 d).isSome) }
  let t := t.setReplay n (some r)
  let t := t.setCopy q { t.copy q with log := (t.copy q).log.map (fun e => { e with released := decide (e.pb < b0) }) }
  let t := { t with
    flt := { t.flt with
      tries := if counted then Tab.set [] t.flt.tries n (Tab.get [] t.flt.tries n ++ [d]) else t.flt.tries
      lastFault := if counted then Tab.set 0 t.flt.lastFault ps (d + 1) else t.flt.lastFault } }
  let t := ((((t.wr Reg.FLT_REPLAY_FIRST b0).wr Reg.FLT_REPLAY_ENGINE n).wr Reg.FLT_REPLAY_BELLS (min 15 (d + 1 - b0))).wr Reg.FLT_REPLAY_TRIES
    (min 15 tries)).wr Reg.FLT_REPLAY_ACTIVE 1
  (t.wr Reg.FLT_STATUS_REPLAYING 1).restoreLog q b0

/-- A replay on the spare slot `q`; a planned switch-over takes the old slot out of service (R340). -/
def State.replayOn (s : State) (q ps : Nat) (w : SpareWait) : State :=
  let t := s.orderReplay w.n ps (some q) w.b0 w.d w.counted
  { t with flt := { t.flt with planned := Tab.set false t.flt.planned ps w.planned } }

/-- The spare slots of a die that no switch-over waits for (R82). -/
def State.freeSpares (s : State) (d : Nat) : List Nat := (s.heldSlots d).drop (s.flt.waitSpare.filter (fun w => w.n / 8 == d)).length

/-- A replay that needs a spare: at once on one that is ready, else the engine stays fenced until SPARE_AVAIL rises (R82). -/
def State.orderSpare (s : State) (q ps : Nat) (w : SpareWait) : State :=
  if s.on (Reg.ME_DIE_STATUS_SPARE_AVAIL (w.n / 8)) then s.replayOn q ps w
  else
    let t := s.fenceEngine w.n ps w.b0
    { t with flt := { t.flt with waitSpare := t.flt.waitSpare ++ [w] } }

/-- A switch-over that waited for its spare goes on with it, slot `q`. -/
def State.goOn (s : State) (q : Nat) (w : SpareWait) : State :=
  let t := { s with flt := { s.flt with waitSpare := s.flt.waitSpare.erase w } }
  (t.slotOf w.n).elim t (fun ps => t.replayOn q ps w)

/-- The lowest-numbered slot still held is ready as the spare: SPARE_AVAIL rises, and the first switch-over that waits for it goes
on (R82). -/
def State.spareReady (s : State) (d : Nat) : State :=
  match (s.heldSlots d).head? with
  | none => s
  | some i =>
    let t := (s.refreshSlots d).wr (Reg.ME_DIE_STATUS_SPARE_AVAIL d) 1
    match t.flt.waitSpare.find? (fun w => w.n / 8 == d) with
    | none => t
    | some w => t.goOn (d * 9 + i) w

/-- The replay of an engine is given up, and its slot goes on (R331: the fault has become partition-fatal). -/
def State.dropReplay (s : State) (n ps : Nat) : State :=
  match s.replayOf n with
  | none => s
  | some _ =>
    let t := (s.setReplay n none).setSlot ps { s.slot ps with fenced := false }
    let t := (t.holdBell n none).setCopy ps { t.copy ps with restore := false }
    (t.wr Reg.FLT_REPLAY_ACTIVE 0).wr Reg.FLT_STATUS_REPLAYING (b2n (t.flt.replays.any (fun e => e.2.isSome)))

/-- A contained fault against logical engine `n` (R331): its replay on the same slot or the spare, or its escalation. -/
def State.contain (s : State) (n code part unit : Nat) : State :=
  match s.slotOf n with
  | none => s
  | some ps =>
    let planned := code == 0x32
    let b0 := (s.replayOf n).elim (s.rd Reg.BELL_COMMIT_NEXT) (·.b0)
    let last := Tab.get 0 s.flt.lastFault ps
    let quiet := last == 0 || decide (s.rd Reg.FLT_CFG_WINDOW ≤ s.count + 1 - last)
    let stay := code == 0x11 || ((code == 1 || code == 2 || code == 4 || code == 6 || code == 7) && s.on Reg.FLT_CFG_SAME_SLOT && quiet)
    let spare := (s.freeSpares (n / 8)).head?.map (fun i => n / 8 * 9 + i)
    if s.flt.waitSpare.any (fun w => w.n == n) then s.recordFault code 1 part n unit
    else if !planned && decide (s.rd Reg.FLT_CFG_REPLAY_LIMIT ≤ s.triesOf n b0) then
      let t := (s.recordFault 0x31 2 part n unit).fltEvent Reg.FLT_EVENT_ESCALATED
      ((s.workParts n ps).foldl (fun t p => t.partFault 0x31 p) t).dropReplay n ps
    else if stay then (s.recordFault code 1 part n unit).orderReplay n ps none b0 s.count (!planned)
    else match spare with
      | none =>
        let t := (s.recordFault 0x30 2 part n unit).fltEvent Reg.FLT_EVENT_ESCALATED
        let t := (List.range 64).foldl (fun t p => if Tab.get 0 t.shares (n * 64 + p) = 0 then t else t.partFault 0x30 p) t
        (((t.stopSlot n ps b0).dropReplay n ps).switchOver n ps none).fltEvent Reg.FLT_EVENT_SWITCHED
      | some q =>
        (s.recordFault code 1 part n unit).orderSpare q ps { n := n, d := s.count, b0 := b0, counted := !planned, planned := planned }

/-- The check that a cause is found by, shown in its block (Table 13.1). -/
def State.showCheck (s : State) (code n : Nat) : State :=
  match s.slotOf n with
  | none => s
  | some ps =>
    match code with
    | 1 => s.meErr ps Reg.ME_ERR_OPERAND_PARITY
    | 2 => s.meErr ps Reg.ME_ERR_SCALE_PARITY
    | 3 => s.meErr ps Reg.ME_ERR_ARRAY_CHECK
    | 4 => s.meErr ps Reg.ME_ERR_ACC_PARITY
    | 5 => s.meErr ps Reg.ME_ERR_DRAIN_CHECK
    | _ => s

/-- The access whose error fault handling receives: its unit fails from then on, a GDDR7 access is recorded in MEM_ERR, and the position
of an uncorrectable GDDR7 read is retired (R128, R134, R136, R448; notes/assumptions/71.md). -/
def State.markFault (s : State) (code a : Nat) : State :=
  match code, spaceOf a with
  | 0x06, .tile _ _ => s.markBad a
  | 0x07, .tcLocal _ _ _ => s.markBad a
  | 0x14, .commons _ => s.markBad a
  | 0x10, .gddr _ => ((s.markBad a).uncorrectable a).startPromotion (s.pdOf (ldOf a))
  | 0x11, .gddr _ => (s.markBad a).noteAccess a
  | _, _ => s

/-- A fault with its code, the partition, engine (16 none), unit and failing address that apply, and the class and partition that
the owner of that address gives it (R329, R330). An error that an access to GDDR7 met and that was corrected counts for its
position (R134). -/
def State.faultBy (s : State) (code part engine unit a : Nat) (o : Nat × Nat) : State :=
  match faultClass code with
  | none => s
  | some cls =>
    let s := s.markFault code a
    if code = 0x10 ∨ code = 0x14 ∨ (code = 0x11 ∧ engine = 16) then
      let t := (s.when (code == 0x11) (fun t => t.startPromotion unit)).recordFault code o.1 o.2 engine unit
      match o.1 with
      | 0 => t.loseGranary a
      | 2 => t.partFault code o.2
      | _ => t.moduleFatal code
    else match cls with
      | 0 => (s.when (code == 8 && engine == 16 && decide (a < gddrSize)) (fun t => t.corrected (t.pdOf (ldOf a)))).recordFault code 0 part engine unit
      | 1 =>
        if code = 0xA ∨ code = 0x20 then s.recordFault code 1 part engine unit
        else ((s.when (code == 0x11) (fun t => t.startPromotion unit)).showCheck code engine).contain engine code part unit
      | 2 => (s.recordFault code 2 part engine unit).partFault code part
      | _ => (s.recordFault code 3 part engine unit).moduleFatal code

/-- FAULT_DETECTED (R329). -/
def State.fault (s : State) (code part engine unit a : Nat) : State := s.faultBy code part engine unit a (s.byOwner a)

/-! ## Replay (R336) -/

/-- A replay begins: the contexts restart from their logs and the logged MOPs and CPDs return to their queues (R336). -/
def State.beginReplay (s : State) (n ps : Nat) (r : Replay) : State :=
  let t := s.setReplay n (some { r with begun := true })
  let t := t.setSlot ps { t.slot ps with fenced := false }
  let t := t.setCopy ps { t.copy ps with restore := false }
  let t := r.ctxs.foldl (fun t k => match t.restartFrom n k r.b0 r.d with
    | some x => t.setCtx (ps * 16 + k) { x.ctx with run := .running }
    | none => t) t
  let first (e : LogMop) : Bool := decide (e.pb < r.b0) || !(e.ctx.elim false (fun k => decide (k ∈ r.ctxs)))
  let l := t.mopLog n
  let t := t.setMopLog n (l.map (fun e => { e with released := e.released || first e }))
  let t := (l.filter first).foldl (fun t e => t.acceptMop n ps e.part e.words e.bell true) t
  let t := t.setCopy ps { t.copy ps with log := (t.copy ps).log.map (fun e =>
    if e.ctx.elim true (fun k => decide (k ∈ r.ctxs)) then e else { e with ctx := none }) }
  (t.releaseLog ps (t.copy ps).log.length).tryResume n

/-- REPLAY_START: the contexts restart from their snapshots, and MOPs issued before the release of B0 are enqueued again in
acceptance order, with those whose issuer does not restart. -/
def State.startReplay (s : State) (n : Nat) : State :=
  match s.replayOf n, s.slotOf n with
  | some r, some ps =>
    if r.begun || (s.copy ps).queue.any (fun d => decide (d.src = .replay)) then s
    else
      s.beginReplay n ps r
  | _, _ => s

/-! ## Planned switch-over (R340) -/

/-- A write of FLT_SWITCH: GO arms a switch-over for the bell of FLT_SWITCH_BELL, a missed target when that bell has begun;
nothing while one is armed. -/
def State.armSwitch (s : State) (value : Nat) : State :=
  if s.on Reg.FLT_SWITCH_ARMED then s
  else
    let t := s.wr Reg.FLT_SWITCH_ENGINE (bits value 0 4)
    if !bit value 4 then t
    else if t.rd Reg.FLT_SWITCH_BELL_BELL ≤ t.count then t.missedTarget
    else t.wr Reg.FLT_SWITCH_ARMED 1

/-! ## Meanings -/

/-- SPARE_READY (R82). -/
def execSpareReady (d : Nat) (s : State) : Host.Outcome State Fault Refusal := s.guarded (d < 2) (s.spareReady d)

/-- REPLAY_START (R336). -/
def execReplayStart (n : Nat) (s : State) : Host.Outcome State Fault Refusal := s.guarded (n < 16) (s.startReplay n)

/-- SWITCH_ARM (R340). -/
def execSwitchArm (value : Nat) (s : State) : Host.Outcome State Fault Refusal := s.fromPf 13 (.next (s.armSwitch value))

/-- PLANNED_SWITCH (R340): at edge T the write is a fault of cause 0x32. -/
def execPlannedSwitch (s : State) : Host.Outcome State Fault Refusal :=
  .next (if s.on Reg.FLT_SWITCH_ARMED && decide (s.rd Reg.FLT_SWITCH_BELL_BELL ≤ s.count) then
      let n := s.rd Reg.FLT_SWITCH_ENGINE
      (s.wr Reg.FLT_SWITCH_ARMED 0).fault 0x32 0 n ((s.slotOf n).getD 0) 0
    else s)

/-- CIPHER_ALARM (R327): source 0 voltage, 1 clock, 2 temperature, 3 shield, whose break also clears the AUX key register (R407);
the alarm is a fault of code 0x40, a shield break one of code 0x41 (Table 13.1). -/
def execCipherAlarm (source : Nat) (s : State) : Host.Outcome State Fault Refusal :=
  s.guarded (source < 4) (
    let s : State := if source = 3 then { s with rv := { s.rv with auxKey := false } } else s
    let f := match source with
      | 0 => Reg.CIPH_ALARM_VOLT
      | 1 => Reg.CIPH_ALARM_CLOCK
      | 2 => Reg.CIPH_ALARM_TEMP
      | _ => Reg.CIPH_ALARM_SHIELD
    ((((s.eraseAll.wr f 1).wr Reg.CIPH_ALARM_ACTIVE 1).incSat Reg.CIPH_ALARM_COUNT 1).ciphEvent Reg.CIPH_EVENT_ALARM).fault
      (if source = 3 then 0x41 else 0x40) 0 16 0 0)

end Sys2Proof.Machine
end

