-- ==== Sys2Proof/Machine/Packet.lean ====
section
/-! DEFINITION. Packet parsing, classification, raw queue pairs and fragments (chapter 10, R261 to R278). -/

namespace Sys2Proof.Machine

/-! ## The header summary (Table 10.2) -/

/-- The fields of a header summary. -/
structure Summary where
  dmac : Nat
  tag1 : Bool
  tag2 : Bool
  ipv4 : Bool
  ipv6 : Bool
  fragFirst : Bool
  fragLater : Bool
  udp : Bool
  tcp : Bool
  vxlan : Bool
  rkt : Bool
  stop : Bool
  bcast : Bool
  mcast : Bool
  own : Bool
  tci1 : Nat
  tci2 : Nat
  etype : Nat
  proto : Nat
  tos : Nat
  sip : List Nat
  dip : List Nat
  sport : Nat
  dport : Nat
  tcpf : Nat
  vni : Nat
  fid : Nat
  port : Nat
  hops : Nat
  flen : Nat
deriving DecidableEq, Repr

/-- Nothing reached. -/
def Summary.empty : Summary :=
  { dmac := 0, tag1 := false, tag2 := false, ipv4 := false, ipv6 := false, fragFirst := false, fragLater := false, udp := false, tcp := false,
    vxlan := false, rkt := false, stop := false, bcast := false, mcast := false, own := false, tci1 := 0, tci2 := 0, etype := 0, proto := 0,
    tos := 0, sip := List.replicate 16 0, dip := List.replicate 16 0, sport := 0, dport := 0, tcpf := 0, vni := 0, fid := 0, port := 0, hops := 0, flen := 0 }

/-- FLAGS. -/
def Summary.flags (h : Summary) : Nat :=
  b2n h.tag1 + b2n h.tag2 * 2 + b2n h.ipv4 * 4 + b2n h.ipv6 * 8 + b2n h.fragFirst * 16 + b2n h.fragLater * 32 + b2n h.udp * 64 + b2n h.tcp * 128 +
  b2n h.vxlan * 256 + b2n h.rkt * 512 + b2n h.stop * 1024 + b2n h.bcast * 2048 + b2n h.mcast * 4096 + b2n h.own * 8192

/-- The 64 bytes of a summary, multi-byte fields in network byte order. -/
def Summary.bytes (h : Summary) : List Nat :=
  beBytes 6 h.dmac ++ beBytes 2 h.flags ++ beBytes 2 h.tci1 ++ beBytes 2 h.tci2 ++ beBytes 2 h.etype ++ [h.proto, h.tos] ++ h.sip ++ h.dip ++
  beBytes 2 h.sport ++ beBytes 2 h.dport ++ [h.tcpf] ++ beBytes 3 h.vni ++ beBytes 4 h.fid ++ [h.port, h.hops] ++ beBytes 2 h.flen

/-- The fields that 64 bytes give (R278). -/
def Summary.ofBytes (b : List Nat) : Summary :=
  let n (o k : Nat) : Nat := beNat ((b.drop o).take k)
  let f := n 6 2
  { dmac := n 0 6, tag1 := bit f 0, tag2 := bit f 1, ipv4 := bit f 2, ipv6 := bit f 3, fragFirst := bit f 4, fragLater := bit f 5, udp := bit f 6,
    tcp := bit f 7, vxlan := bit f 8, rkt := bit f 9, stop := bit f 10, bcast := bit f 11, mcast := bit f 12, own := bit f 13, tci1 := n 8 2,
    tci2 := n 10 2, etype := n 12 2, proto := n 14 1, tos := n 15 1, sip := (b.drop 16).take 16, dip := (b.drop 32).take 16, sport := n 48 2,
    dport := n 50 2, tcpf := n 52 1, vni := n 53 3, fid := n 56 4, port := n 60 1, hops := n 61 1, flen := n 62 2 }

/-- Summary word i. -/
def sumWord (bs : List Nat) (i : Nat) : Nat := beNat ((bs.drop (4 * i)).take 4)

/-! ## Parsing (R261, R262) -/

/-- Why the parser drops a frame. -/
inductive ParseDrop where
  | malformed | csum
deriving DecidableEq, Repr

/-- Ones'-complement sum of 16-bit words in network order, an odd last byte padded, carries folded (R117). -/
def onesSum (init : Nat) (bs : List Nat) : Nat :=
  let raw := init + ((List.range ((bs.length + 1) / 2)).map (fun i => 256 * bs.getD (2 * i) 0 + bs.getD (2 * i + 1) 0)).sum
  let fold (v : Nat) : Nat := v % 65536 + v / 65536
  fold (fold (fold raw))

/-- The parser at an offset: the summary so far, whether parsing goes on, and the next header it would read. -/
structure Parsing where
  off : Nat
  next : Nat
  go : Bool
  /-- End of the IP payload. -/
  ipEnd : Nat
  exts : Nat
  h : Summary
deriving DecidableEq, Repr

/-- Parsing stops with STOP. -/
def Parsing.halt (r : Parsing) : Parsing := { r with go := false, h := { r.h with stop := true } }

/-- A header of `n` bytes at the offset: past byte 256 parsing stops, past the end of the frame the frame is malformed. -/
def Parsing.need (r : Parsing) (len n : Nat) (f : Except ParseDrop Parsing) : Except ParseDrop Parsing :=
  if !r.go then .ok r
  else if len < r.off + n then .error .malformed
  else if 256 < r.off + n then .ok r.halt
  else f

/-- Ethernet and tags; `inner` frames do not set the outer fields. -/
def parseL2 (b : List Nat) (r : Parsing) : Except ParseDrop Parsing :=
  let n16 (o : Nat) : Nat := 256 * b.getD o 0 + b.getD (o + 1) 0
  r.need b.length 14 (
    let t := n16 (r.off + 12)
    let done (r : Parsing) (off ty : Nat) : Parsing :=
      let r := { r with off := off, next := ty, h := { r.h with etype := ty } }
      if ty < 0x600 then r.halt else r
    if t = 0x8100 then
      r.need b.length 18 (.ok (done { r with h := { r.h with tag1 := true, tci1 := n16 (r.off + 14) } } (r.off + 18) (n16 (r.off + 16))))
    else if t = 0x88A8 ∧ n16 (r.off + 16) = 0x8100 then
      r.need b.length 22 (.ok (done { r with h := { r.h with tag1 := true, tag2 := true, tci1 := n16 (r.off + 14), tci2 := n16 (r.off + 18) } } (r.off + 22) (n16 (r.off + 20))))
    else .ok (done r (r.off + 14) t))

/-- IPv4 and IPv6. -/
def parseL3 (b : List Nat) (r : Parsing) : Except ParseDrop Parsing :=
  let g (o : Nat) : Nat := b.getD (r.off + o) 0
  let n16 (o : Nat) : Nat := 256 * g o + g (o + 1)
  if !r.go then .ok r
  else if r.next = 0x800 then
    r.need b.length 20 (
      let ihl := g 0 % 16
      if ihl < 5 then .error .malformed
      else r.need b.length (4 * ihl) (
        if onesSum 0 ((b.drop r.off).take (4 * ihl)) ≠ 65535 ∨ b.length < r.off + n16 2 then .error .malformed
        else
          let fo := n16 6 % 8192
          let more := bit (n16 6) 13
          .ok { r with
            off := r.off + 4 * ihl
            next := g 9
            ipEnd := r.off + n16 2
            h := { r.h with ipv4 := true, proto := g 9, tos := g 1, hops := g 8, fid := n16 4, fragFirst := fo == 0 && more, fragLater := fo != 0,
                            sip := (b.drop (r.off + 12)).take 4 ++ List.replicate 12 0, dip := (b.drop (r.off + 16)).take 4 ++ List.replicate 12 0 } }))
  else if r.next = 0x86DD then
    r.need b.length 40 (
      if b.length < r.off + 40 + n16 4 then .error .malformed
      else .ok { r with
        off := r.off + 40
        next := g 6
        ipEnd := r.off + 40 + n16 4
        h := { r.h with ipv6 := true, proto := g 6, tos := g 0 % 16 * 16 + g 1 / 16, hops := g 7, fid := g 1 % 16 * 65536 + n16 2,
                        sip := (b.drop (r.off + 8)).take 16, dip := (b.drop (r.off + 24)).take 16 } })
  else .ok r.halt

/-- One IPv6 extension header, when one stands next. -/
def parseExt (b : List Nat) (r : Parsing) : Except ParseDrop Parsing :=
  let g (o : Nat) : Nat := b.getD (r.off + o) 0
  if !r.go || !r.h.ipv6 then .ok r
  else if r.next = 44 then
    if r.exts = 2 then .ok r.halt
    else r.need b.length 8 (
      let v := 256 * g 2 + g 3
      .ok { r with
        off := r.off + 8
        next := g 0
        exts := r.exts + 1
        h := { r.h with proto := g 0, fid := beNat ((b.drop (r.off + 4)).take 4), fragFirst := v / 8 == 0 && bit v 0, fragLater := v / 8 != 0 } })
  else if r.next = 0 ∨ r.next = 43 ∨ r.next = 60 then
    if r.exts = 2 then .ok r.halt
    else r.need b.length 8 (r.need b.length (8 * (g 1 + 1)) (.ok { r with off := r.off + 8 * (g 1 + 1), next := g 0, exts := r.exts + 1, h := { r.h with proto := g 0 } }))
  else .ok r

/-- The L4 checksum over the pseudo-header verifies. -/
def l4Ok (b : List Nat) (r : Parsing) (len : Nat) : Bool :=
  let a := if r.h.ipv4 then r.h.sip.take 4 ++ r.h.dip.take 4 else r.h.sip ++ r.h.dip
  onesSum (onesSum (r.next + len) a) ((b.drop r.off).take len) == 65535

/-- UDP and TCP; checksums only of the outermost L4 header of a whole datagram. -/
def parseL4 (b : List Nat) (outer : Bool) (r : Parsing) : Except ParseDrop Parsing :=
  let g (o : Nat) : Nat := b.getD (r.off + o) 0
  let n16 (o : Nat) : Nat := 256 * g o + g (o + 1)
  let whole := outer && !r.h.fragFirst
  if !r.go || r.h.fragLater then .ok { r with go := false }
  else if r.next = 17 then
    r.need b.length 8 (
      if n16 4 < 8 ∨ (!r.h.fragFirst ∧ r.ipEnd < r.off + n16 4) then .error .malformed
      else if whole && n16 6 != 0 && !l4Ok b r (n16 4) then .error .csum
      else .ok { r with off := r.off + 8, h := { r.h with udp := true, sport := n16 0, dport := n16 2 } })
  else if r.next = 6 then
    r.need b.length 20 (
      if g 12 / 16 < 5 then .error .malformed
      else r.need b.length (4 * (g 12 / 16)) (
        if whole && !l4Ok b r (r.ipEnd - r.off) then .error .csum
        else .ok { r with off := r.off + 4 * (g 12 / 16), go := false, h := { r.h with tcp := true, sport := n16 0, dport := n16 2, tcpf := g 13 } }))
  else .ok r.halt

/-- One frame from L2 through L4. -/
def parseOne (b : List Nat) (off : Nat) (outer : Bool) : Except ParseDrop Parsing := do
  let r ← parseL2 b { off := off, next := 0, go := true, ipEnd := 0, exts := 0, h := Summary.empty }
  let r ← parseL3 b r
  let r ← parseExt b r
  let r ← parseExt b r
  let r ← (if r.go && r.h.ipv6 && (r.next == 0 || r.next == 43 || r.next == 44 || r.next == 60) then .ok r.halt else .ok r)
  parseL4 b outer r

/-- The header summary of a frame (without its FCS) that came in on a port (R261 to R264). A broadcast does not set MCAST; with
VXLAN the address flags are the outer frame's, the others the inner's (DEDUCED, notes/assumptions/57.md). -/
def State.parse (s : State) (port : Nat) (b : List Nat) : Except ParseDrop Summary := do
  let r ← parseOne b 0 true
  let dmac := beNat (b.take 6)
  let mark (h : Summary) : Summary :=
    { h with dmac := dmac, port := port, flen := b.length + 4, bcast := dmac == 2 ^ 48 - 1, mcast := bit (b.getD 0 0) 0 && dmac != 2 ^ 48 - 1,
             own := dmac == s.rd (Reg.FAB_PORT_MAC_MAC port) }
  if r.h.udp && s.on Reg.PKT_CFG_VXLAN_EN && r.h.dport == s.rd Reg.PKT_CFG_VXLAN_PORT then
    if b.length < r.off + 8 then .error .malformed
    else if 256 < r.off + 8 then .ok (mark r.halt.h)
    else
      let i ← parseOne b (r.off + 8) false
      .ok (mark { i.h with vxlan := true, vni := beNat ((b.drop (r.off + 4)).take 3) })
  else if r.h.udp && r.h.dport == s.rd Reg.RKT_CFG_UDP_PORT then
    if b.length < r.off + 32 then .error .malformed
    else if 256 < r.off + 32 then .ok (mark r.halt.h)
    else .ok (mark { r.h with rkt := true })
  else .ok (mark r.h)

/-- The priority of a DSCP, the high six bits of `tos` (R265). -/
def State.dscpPrio (s : State) (tos : Nat) : Nat := bits (s.rd (Reg.PKT_DSCP_MAP_PRIO (tos / 32))) (3 * (tos / 4 % 8)) 3

/-! ## The decision (R266 to R270, R274) -/

/-- The field a comparator looks at, none when it is absent (R267). -/
def Summary.rangeField (h : Summary) (f : Nat) : Option Nat :=
  match f with
  | 0 => if h.udp || h.tcp then some h.sport else none
  | 1 => if h.udp || h.tcp then some h.dport else none
  | 2 => some h.flen
  | 3 => if h.tag1 then some (h.tci1 % 4096) else none
  | 4 => if h.tag2 then some (h.tci2 % 4096) else none
  | 5 => if h.ipv4 || h.ipv6 then some h.hops else none
  | 6 => if h.ipv4 || h.ipv6 then some (h.tos / 4) else none
  | _ => none

/-- An enabled comparator of a rule agrees with the frame; one that is not in use never does (DEDUCED, notes/assumptions/58.md). -/
def State.rangeOk (s : State) (h : Summary) (n : Nat) (inv : Bool) : Bool :=
  match h.rangeField (s.rd (Reg.PKT_RANGE_FIELD n)) with
  | none => false
  | some v => (s.on (Reg.PKT_RANGE_EN n) && decide (s.rd (Reg.PKT_RANGE_LOW n) ≤ v) && decide (v ≤ s.rd (Reg.PKT_RANGE_HIGH n))) != inv

/-- Rule `r` matches (R268); a reserved ACTION never matches. -/
def State.ruleMatches (s : State) (h : Summary) (bs : List Nat) (r : Nat) : Bool :=
  s.on (Reg.PKT_RULE_VALID r) && s.rd (Reg.PKT_RULE_ACTION r) != 3 &&
  (List.range 6).all (fun k =>
    !bit (s.rd (Reg.PKT_RULE_SEL_EN r)) k ||
      (let vm := bits (s.rd (Reg.PKT_RULE_VAL_MASK r)) (64 * k) 64
       Nat.land (sumWord bs (bits (s.rd (Reg.PKT_RULE_SEL r)) (4 * k) 4)) (vm / 2 ^ 32) == vm % 2 ^ 32)) &&
  (!s.on (Reg.PKT_RULE_RA_EN r) || s.rangeOk h (s.rd (Reg.PKT_RULE_RANGE_A r)) (s.on (Reg.PKT_RULE_RA_INV r))) &&
  (!s.on (Reg.PKT_RULE_RB_EN r) || s.rangeOk h (s.rd (Reg.PKT_RULE_RANGE_B r)) (s.on (Reg.PKT_RULE_RB_INV r)))

/-- The lowest rule that matches. -/
def State.firstRule (s : State) (h : Summary) : Option Nat := (List.range 4096).find? (fun r => s.ruleMatches h h.bytes r)

/-- The Toeplitz hash of R117: one bit of the input at a time, the key window moving with it. -/
def toeplitz (key inp : List Nat) : Nat :=
  let k := beNat (key.take (inp.length + 4))
  let n := 8 * (inp.length + 4)
  (List.range (8 * inp.length)).foldl (fun h i =>
    if bit (inp.getD (i / 8) 0) (7 - i % 8) then Nat.xor h (k / 2 ^ (n - 32 - i) % 2 ^ 32) else h) 0

/-- The hash input of a partition (R274). -/
def State.hashInput (s : State) (p : Nat) (h : Summary) : List Nat :=
  let a (l : List Nat) : List Nat := if h.ipv4 then l.take 4 else if h.ipv6 then l else []
  let l4 := h.udp || h.tcp
  (if s.on (Reg.PKT_HASH_SIP p) then a h.sip else []) ++ (if s.on (Reg.PKT_HASH_DIP p) then a h.dip else []) ++
  (if s.on (Reg.PKT_HASH_SPORT p) && l4 then beBytes 2 h.sport else []) ++ (if s.on (Reg.PKT_HASH_DPORT p) && l4 then beBytes 2 h.dport else [])

/-- A decision with its hash applied (R270, R274). -/
def State.decide_ (s : State) (h : Summary) (action part queue : Nat) (hash : Bool) : Decision :=
  if action = 1 ∧ hash then
    let key := leBytes 40 (s.rd (Reg.PKT_HASH_KEY part))
    let e := toeplitz key (s.hashInput part h) % 512
    { action := action, part := part, queue := s.rd (Reg.PKT_IND_QUEUE part e), badEntry := !s.on (Reg.PKT_IND_VALID part e) }
  else { action := action, part := part, queue := queue, badEntry := false }

/-- The decision of PKT_DEFAULT. -/
def State.defaultDecision (s : State) (h : Summary) : Decision :=
  s.decide_ h (s.rd Reg.PKT_DEFAULT_ACTION) (s.rd Reg.PKT_DEFAULT_PART) (s.rd Reg.PKT_DEFAULT_QUEUE) (s.on Reg.PKT_DEFAULT_HASH)

/-- The decision of rule `r`. -/
def State.ruleDecision (s : State) (h : Summary) (r : Nat) : Decision :=
  s.decide_ h (s.rd (Reg.PKT_RULE_ACTION r)) (s.rd (Reg.PKT_RULE_PART r)) (s.rd (Reg.PKT_RULE_QUEUE r)) (s.on (Reg.PKT_RULE_HASH r))

/-- The result word of PCLS (R278): steps 4 to 6 of R266 on a summary. -/
def State.classify (s : State) (h : Summary) : Nat :=
  match s.firstRule h with
  | some r =>
    let d := s.ruleDecision h r
    d.part + d.action * 64 + d.queue * 256 + r * 2 ^ 20
  | none =>
    let d := s.defaultDecision h
    if h.mcast then 2 ^ 33 else d.part + d.action * 64 + d.queue * 256 + 2 ^ 32

/-! ## Carrying out a decision (R270 to R272) -/

/-- PKT_EVENT bits go to vector 7. -/
def State.pktEvent (s : State) (f : Fld) : State := s.event f Reg.PKT_EVENT_EN_EN 7

/-- A frame dropped as TARGET. -/
def State.dropTarget (s : State) : State := (s.incSat Reg.PKT_DROP2_TARGET 1).pktEvent Reg.PKT_EVENT_TARGET

/-- The interlock holds bytes of a raw receive buffer. -/
def State.recvHeld (s : State) (p q key : Nat) : Bool := s.memSt.held.any (fun h => decide (h.who = .recv p q key))

/-- A raw receive buffer ends once the interlock holds none of its bytes (R151, R272). -/
def State.rawDone (s : State) (p q key : Nat) : State :=
  match s.fab.rawHeld.find? (fun r => r.1 == p && r.2.1 == q && r.2.2.1 == key) with
  | none => s
  | some r => if s.recvHeld p q key then s else ({ s with fab := { s.fab with rawHeld := s.fab.rawHeld.erase r } } : State).endRecv p q key 0 r.2.2.2 none

/-- RAW_RECEIVE (R272): the head RECV of a raw queue takes the frame, without its FCS; it ends when its bytes are written. -/
def State.rawReceive (s : State) (p q : Nat) (b : List Nat) : State :=
  let r := s.queue p 1 q
  let host := decide (r.base < 2 ^ 63)
  match (s.recvsOf p q).find? (fun w => decide (w.stage = .waiting) && !s.fab.rawHeld.any (fun r => r.1 == p && r.2.1 == q && r.2.2.1 == w.key)) with
  | none => s.incSat Reg.PKT_DROP2_NO_BUFFER 1
  | some w =>
    if host && s.quiesced p then s.incSat Reg.PKT_DROP2_NO_BUFFER 1
    else if wqeLen w.words < b.length then s.endRecv p q w.key 7 0 none
    else
      let t := s.localWrite (.recv p q w.key) p r.slice (wqeLaddr w.words w.firing) b
      ({ t with fab := { t.fab with rawHeld := t.fab.rawHeld ++ [(p, q, w.key, b.length)] } } : State).rawDone p q w.key

/-- The decision of step 5 of R266, which a first fragment's entry keeps like any other (R276). -/
def noRule : Decision := { action := 4, part := 0, queue := 0, badEntry := false }

/-- A frame follows a decision (R270). No decision has the reserved ACTION 3: PKT_DEFAULT does not
take it (R447), and a rule that holds it never matches (R268). -/
def State.follow (s : State) (d : Decision) (b : List Nat) : State :=
  match d.action with
  | 0 => s.incSat Reg.PKT_DROP_RULE_DROP 1
  | 1 =>
    if d.badEntry || !s.isRaw d.part d.queue || !(s.queue d.part 1 d.queue).en || decide (s.partState d.part ≠ .run) then s.dropTarget
    else s.rawReceive d.part d.queue b
  | 2 => { s with fab := { s.fab with service := s.fab.service ++ [(d.part, d.queue, b)] } }
  | 4 => s.incSat Reg.PKT_DROP_NO_RULE 1
  | _ => s

/-! ## Fragments (R276, R277) -/

/-- Key of a datagram's fragments. -/
def Summary.fragKey (h : Summary) : List Nat := h.sip ++ h.dip ++ (if h.ipv4 then [h.proto, h.fid] else [256, h.fid])

/-- PKT_FRAG_STATUS shows the table and the holding buffer. -/
def State.fragStatus (s : State) : State :=
  (s.wr Reg.PKT_FRAG_STATUS_ENTRIES s.fab.frags.length).wr Reg.PKT_FRAG_STATUS_HELD s.fab.heldFrags.length

/-- The fragment table's entry of a key. -/
def State.fragEntry (s : State) (key : List Nat) : Option FragEntry := s.fab.frags.find? (fun e => e.key == key)

/-- The entry's last use is now. -/
def State.useFrag (s : State) (key : List Nat) : State :=
  { s with fab := { s.fab with frags := s.fab.frags.map (fun e => if e.key == key then { e with lastUse := s.now } else e) } }

/-- A frame takes the default decision (R277). -/
def State.followDefault (s : State) (b : List Nat) : State :=
  s.follow (match s.parse 0 b with
    | .ok h => s.defaultDecision h
    | .error _ => s.defaultDecision Summary.empty) b

/-- A later fragment held for longer than HOLD takes PKT_DEFAULT and is counted (R277). -/
def State.expireFrag (s : State) (b : List Nat) : State :=
  ((s.incSat Reg.PKT_FRAG_COUNT_EXPIRED 1).pktEvent Reg.PKT_EVENT_FRAG_EXPIRED).followDefault b

/-- A first fragment's decision: an earlier entry's, or its own, which is recorded; held later fragments of the key follow
it, but those that have waited for longer than HOLD (R276, R277). -/
def State.firstFragment (s : State) (h : Summary) (d : Decision) (b : List Nat) : State :=
  let key := h.fragKey
  match s.fragEntry key with
  | some e => (s.useFrag key).follow e.decision b
  | none =>
    let full := decide (1024 ≤ s.fab.frags.length)
    let t := if full then (s.incSat Reg.PKT_FRAG_COUNT_FULL 1).pktEvent Reg.PKT_EVENT_FRAG_FULL
             else { s with fab := { s.fab with frags := s.fab.frags ++ [{ key := key, decision := d, lastUse := s.now }] } }
    let t := t.follow d b
    let mine := t.fab.heldFrags.filter (fun f => f.key == key)
    let t := { t with fab := { t.fab with heldFrags := t.fab.heldFrags.filter (fun f => f.key != key) } }
    let late (f : HeldFrag) : Bool := decide (f.heldAt + s.rd Reg.PKT_FRAG_CFG_HOLD * 4000 < s.now)
    (mine.foldl (fun t f => if late f then t.expireFrag f.bytes else t.follow d f.bytes) t).fragStatus

/-- A later fragment: its entry's decision, or held, or PKT_DEFAULT when the holding buffer is full (R277). -/
def State.laterFragment (s : State) (h : Summary) (b : List Nat) : State :=
  match s.fragEntry h.fragKey with
  | some e => (s.useFrag h.fragKey).follow e.decision b
  | none =>
    if 512 ≤ s.fab.heldFrags.length ∨ 262144 < ((s.fab.heldFrags.map (fun f => f.bytes.length)).sum + b.length) then
      (((s.incSat Reg.PKT_FRAG_COUNT_HOLD_FULL 1).pktEvent Reg.PKT_EVENT_HOLD_FULL).follow (s.defaultDecision h) b)
    else (({ s with fab := { s.fab with heldFrags := s.fab.heldFrags ++ [{ key := h.fragKey, bytes := b, heldAt := s.now }] } } : State)).fragStatus

/-- PACKET_DECISION (R266) on a frame that the parser takes. An RKT frame for an enabled local address goes to the transport,
whose own rows take its packet from there. -/
def State.decideFrame (s : State) (h : Summary) (b : List Nat) : State :=
  let frag := h.fragFirst || h.fragLater
  let mine := (List.range 8).any (fun a => s.on (Reg.RKT_LADDR_EN a) && (s.on (Reg.RKT_LADDR_V6 a) == h.ipv6) &&
    s.rd (Reg.RKT_LADDR_ADDR a) == (if h.ipv4 then beNat (h.dip.take 4) else beNat h.dip))
  if h.rkt && mine && !frag then s
  else if h.fragLater then s.laterFragment h b
  else match s.firstRule h with
    | some r =>
      let t := s.inc (Reg.PKT_HITS_COUNT r) 1
      if h.fragFirst then t.firstFragment h (t.ruleDecision h r) b else t.follow (t.ruleDecision h r) b
    | none =>
      let d := if h.mcast then noRule else s.defaultDecision h
      if h.fragFirst then s.firstFragment h d b else s.follow d b

/-- The parser's answer and the decision (R262, R266). -/
def State.pipeline (s : State) (port : Nat) (b : List Nat) : State :=
  match s.parse port b with
  | .error .malformed => (s.incSat Reg.PKT_DROP_MALFORMED 1).pktEvent Reg.PKT_EVENT_MALFORMED
  | .error .csum => s.incSat Reg.PKT_DROP_CSUM 1
  | .ok h => s.decideFrame h b

/-! ## Raw sends (R273) -/

/-- The quad mode of a lane's quad, and whether the lane begins a port (R201); in minimal mode every quad is off (R397). -/
def State.qmode (s : State) (l : Nat) : Nat := bits (s.rd Reg.FAB_CFG_QMODE) (2 * (l / 4)) 2
def State.portExists (s : State) (l : Nat) : Bool :=
  decide (l < 32) && !s.restricted && (match s.qmode l with
    | 0 => l % 4 == 0
    | 1 => l % 2 == 0
    | 2 => true
    | _ => false)
/-- Lanes of a port at its full width. -/
def State.fullWidth (s : State) (l : Nat) : Nat :=
  match s.qmode l with
  | 0 => 4
  | 1 => 2
  | _ => 1

/-- The whole frame of a raw SEND is at hand: checked and put in its class, or REJ_BOUNDS (R273). -/
def State.launchRaw (s : State) (p q idx firing port cls : Nat) (b : List Nat) : State :=
  if p ≠ 0 ∧ beNat ((b.drop 6).take 6) ≠ s.rd (Reg.FAB_PORT_MAC_MAC port) then s.endWqe p q idx firing 2 0
  else s.pushTx port { cls := cls, part := p, len := max 60 b.length + 4, body := .raw p q idx firing b }

/-- A raw SEND (R273). -/
def State.rawSend (s : State) (p q : Nat) (w : Wqe) : State :=
  let ra := wqeRaddr w.words w.firing
  let port := bits ra 0 5
  let cls := bits ra 8 3
  let n := wqeLen w.words
  let la := wqeLaddr w.words w.firing
  let slice := (s.queue p 0 q).slice
  let t := s.startWqe p q w
  if ra ≠ port + cls * 256 ∨ w.words.getD 10 0 ≠ 0 ∨ wqeFld w.words 0 15 1 ≠ 0 then t.endWqe p q w.idx w.firing 1 0
  else if !s.portExists port || decide (n < 14) || decide (s.rd (Reg.FAB_PORT_CTRL_MTU port) < n + 4) then t.endWqe p q w.idx w.firing 2 0
  else if la < 2 ^ 63 then
    (({ t with fab := { t.fab with raws := t.fab.raws ++ [{ p := p, q := q, idx := w.idx, firing := w.firing, port := port, cls := cls, bytes := List.replicate n 0, missing := n, since := s.count }] } } : State)).readHostFor
      p slice la n (fun o => .raw p q w.idx w.firing o)
  else if !s.payloadOk p la n then (t.noteVia p (la % 2 ^ 48) n).endWqe p q w.idx w.firing 9 0
  else t.launchRaw p q w.idx w.firing port cls (s.localRead p la n)

/-! ## Writes of the tables (R269, R271, R275) -/

/-- VAL bits outside MASK in some selector. -/
def valOutsideMask (vm : Nat) : Bool := (List.range 6).any (fun k =>
  let v := bits vm (64 * k) 64
  Nat.land (v % 2 ^ 32) (v / 2 ^ 32) != v % 2 ^ 32)

/-- A write of word `i` of rule `r` (R269). -/
def State.writeRule (s : State) (r i value : Nat) : State :=
  let off := Reg.PKT_RULE r + 4 * i
  if i = 0 then
    if bits value 6 1 = 1 ∧ valOutsideMask (s.rd (Reg.PKT_RULE_VAL_MASK r)) then s.unsup .pf off true
    else ((((s.wr (Reg.PKT_RULE_PART r) (bits value 0 6)).wr (Reg.PKT_RULE_VALID r) (bits value 6 1)).wr (Reg.PKT_RULE_HASH r) (bits value 7 1)).wr
      (Reg.PKT_RULE_ACTION r) (bits value 8 2)).wr (Reg.PKT_RULE_QUEUE r) (bits value 10 12)
  else if s.on (Reg.PKT_RULE_VALID r) then s.unsup .pf off true
  else if i = 1 then
    (((((s.wr (Reg.PKT_RULE_RANGE_A r) (bits value 0 6)).wr (Reg.PKT_RULE_RA_EN r) (bits value 6 1)).wr (Reg.PKT_RULE_RA_INV r) (bits value 7 1)).wr
      (Reg.PKT_RULE_RANGE_B r) (bits value 8 6)).wr (Reg.PKT_RULE_RB_EN r) (bits value 14 1)).wr (Reg.PKT_RULE_RB_INV r) (bits value 15 1)
  else if i = 2 then (s.wr (Reg.PKT_RULE_SEL r) (bits value 0 24)).wr (Reg.PKT_RULE_SEL_EN r) (bits value 24 6)
  else if i = 3 then s
  else s.wr (Reg.PKT_RULE_VAL_MASK r) (setBits (s.rd (Reg.PKT_RULE_VAL_MASK r)) (32 * (i - 4)) 32 value)

/-- A write of word `i` of PKT_HASH of partition `p`: words 1 to 10 to the shadow, word 0 with COMMIT makes all take effect
together (R275); without COMMIT word 0 keeps its bits (DEDUCED, notes/assumptions/58.md). -/
def State.writeHash (s : State) (p i value : Nat) : State :=
  if i = 0 then
    if bits value 31 1 = 0 then s
    else
      let key := ((List.range 10).map (fun k => Tab.get 0 s.fab.hashShadow (p * 16 + k + 1) * 2 ^ (32 * k))).sum
      ((((s.wr (Reg.PKT_HASH_SIP p) (bits value 0 1)).wr (Reg.PKT_HASH_DIP p) (bits value 1 1)).wr (Reg.PKT_HASH_SPORT p) (bits value 2 1)).wr
        (Reg.PKT_HASH_DPORT p) (bits value 3 1)).wr (Reg.PKT_HASH_KEY p) key
  else { s with fab := { s.fab with hashShadow := Tab.set 0 s.fab.hashShadow (p * 16 + i) (value % 2 ^ 32) } }

/-- A write of PKT_RAW (R271). -/
def State.writeRaw (s : State) (p value : Nat) : State :=
  let st := s.partState p
  if !(st = .free ∨ st = .ready) then s.unsup .pf (Reg.PKT_RAW p) true
  else
    let t := s.wr (Reg.PKT_RAW_BASE p) (bits value 0 12)
    if bits value 0 12 + bits value 12 13 ≤ s.rd (Reg.PART_QCOUNT_QP p) then t.wr (Reg.PKT_RAW_COUNT p) (bits value 12 13)
    else t.unsup .pf (Reg.PKT_RAW p) true

/-! ## Meanings -/

/-- RAW_SEND (R273). -/
def execRawSend (p q idx : Nat) (s : State) : Host.Outcome State Fault Refusal :=
  s.guarded (p < 64 && q < 4096) (if s.isRaw p q then s.runWqe p q idx 2 (fun t w => t.rawSend p q w) else s)

/-- FRAGMENT_HOLD_EXPIRY (R277): the time comes at which the oldest held fragment has waited HOLD; it takes PKT_DEFAULT. -/
def execFragmentHoldExpiry (s : State) : Host.Outcome State Fault Refusal :=
  .next (match s.fab.heldFrags with
    | [] => s
    | f :: rest =>
      let s := s.atTime (f.heldAt + s.rd Reg.PKT_FRAG_CFG_HOLD * 4000)
      let t := { s with fab := { s.fab with heldFrags := rest } }
      (t.expireFrag f.bytes).fragStatus)

/-- FRAGMENT_ENTRY_EXPIRY (R276): the time comes at which entry `i` of the table was last used LIFE ago, and it is removed. -/
def execFragmentEntryExpiry (i : Nat) (s : State) : Host.Outcome State Fault Refusal :=
  .next (match s.fab.frags[i]? with
    | none => s
    | some e =>
      let t := s.atTime (e.lastUse + s.rd Reg.PKT_FRAG_CFG_LIFE * 4000)
      (({ t with fab := { t.fab with frags := t.fab.frags.eraseIdx i } } : State).fragStatus))

/-- RULE_WRITE (R269): a write of word `word` of rule `r`. -/
def execRuleWrite (r word value : Nat) (s : State) : Host.Outcome State Fault Refusal := s.fromPf 7 (s.guarded (r < 4096 && word < 16) (s.writeRule r word value))

/-- HASH_COMMIT (R275): a write of word 0 of PKT_HASH with COMMIT. -/
def execHashCommit (p value : Nat) (s : State) : Host.Outcome State Fault Refusal :=
  s.fromPf 7 (s.guarded (p < 64) (s.writeHash p 0 (setBits value 31 1 1)))

/-- RAW_CONFIG_WRITE (R271). -/
def execRawConfigWrite (p value : Nat) (s : State) : Host.Outcome State Fault Refusal := s.fromPf 7 (s.guarded (p < 64) (s.writeRaw p value))

end Sys2Proof.Machine
end

