-- ==== Sys2Proof/Machine/Interlock.lean ====
section
/-! DEFINITION. The release of the writes that the write interlock holds, and what waited for them (R151 to R153). -/

namespace Sys2Proof.Machine

/-- The held write `h` goes ahead, its chunk copied to a staging slot first when it is unreached; it may be held again on the next
unreached chunk that it touches. The time it was held counts (R152, R153). What waited for it follows: a data port's status (R155), the
delivery of a message (R244, R245), the end of a raw receive buffer or of a block-service command (R272, R295); a cipher request is
posted by its own row (R311). -/
def State.releaseOne (s : State) (h : HeldWrite) : State :=
  let t := if s.chunkFree h then s else s.reachChunk h.region h.chunk true
  let total := Tab.get 0 t.memSt.heldTime h.region + (s.now - h.since)
  let t := { t with memSt := { t.memSt with held := t.memSt.held.erase h, heldTime := Tab.set 0 t.memSt.heldTime h.region total } }
  let t := t.wr (Reg.MEM_ILK_STATUS_HELD_US h.region) (min 65535 (total / 4000))
  let t := match h.bytes with
    | [] => t.releaseCpds h
    | b :: _ => t.write b.1 (h.bytes.map Prod.snd) h.who
  match h.who with
  | .other => t
  | .port i => t.portHeld i
  | .msg c _ => t.deliverNow c
  | .recv p q key => t.rawDone p q key
  | .blk id => t.blkReleased id
  | .cipher _ => t

/-- The first held write that may go ahead: its chunk is reached, or one of the 64 staging slots is free (R153). -/
def State.releaseHeld (s : State) : State :=
  (s.memSt.held.find? (fun h => s.chunkFree h || decide (s.memSt.staged.length < 64))).elim s s.releaseOne

/-- ILK_WRITE_RELEASE (R153). -/
def execIlkWriteRelease (s : State) : Host.Outcome State Fault Refusal := .next s.releaseHeld

/-! ## Writers of GDDR7 outside the engines (R338) -/

/-- Some of the `n` bytes at an address of a partition stands at module address `a`. -/
def State.coversAt (s : State) (p : Nat) (levelP : Bool) (x n a : Nat) : Bool :=
  (unitsOf x n 4096).any (fun b => (s.mapFor p levelP (max x b)).elim false (fun m => decide (m ≤ a) && decide (a < m + (min (x + n) (b + 4096) - max x b))))

/-- The same of a local address: host memory holds none (R236). -/
def State.localCovers (s : State) (p x n a : Nat) : Bool := decide (2 ^ 63 ≤ x) && decide (x < 2 ^ 64) && s.coversAt p true (x % 2 ^ 48) n a

/-- The copies of the hub's engines under way that write at `a` end with MEM_ERR. -/
def State.endHubCopies (s : State) (a : Nat) : State :=
  (List.range 4).foldl (fun t h =>
    ((t.copy (18 + h)).queue.filter (fun d => d.moving && (t.cpdPieces d).any (fun x => decide (x.1 ≤ a) && decide (a < x.1 + x.2)))).foldl
      (fun t d => t.endCpd (18 + h) d 7) t) s

/-- The block-service commands under way whose buffer a READ or GET_LOG writes at `a` end with MEM_ERR (Table 11.4). -/
def State.endBlkWriters (s : State) (a : Nat) : State :=
  (s.blk.cmds.filter (fun d => (bscOp d.words == 1 || bscOp d.words == 5) && d.landed &&
    (bscPieces d.words d.list (s.bscBytes d.words)).any (fun x => s.localCovers d.part x.1 x.2 a))).foldl (fun t d => t.blkEnd d 6 0) s

/-- Of a connection, the READs whose answers are written at `a`, and the RECVs whose SENDs are, end with MEM_ERR (Table 9.5). -/
def State.endConnWriters (s : State) (a c : Nat) : State :=
  let x := s.conn c
  let asks := x.msgs.filter (fun m => m.typ == 3 && m.answered && !m.ended && s.localCovers x.part m.laddr (m.ext.getD 2 0) a)
  let takes := (x.opens.filterMap (·.recv)).filter (fun r => s.localCovers x.part r.2.1 r.2.2.1 a)
  let t := s.setConn c { x with
    msgs := x.msgs.map (fun m => if m ∈ asks then { m with owner := .gone } else m)
    opens := x.opens.map (fun m => if m.recv.elim false (· ∈ takes) then { m with recv := none } else m) }
  takes.foldl (fun t r => t.endRecv x.part x.qp r.1 9 0 none) (asks.foldl (fun t m => t.endOwner m.owner 9 0) t)

/-- A GDDR7 write of the hub that fails for good at `a` ends its writer's operation with MEM_ERR (R338): a hub copy, a block-service
command, an answer or a SEND that the transport places, or an access of the data port that last reached the line at `a`
(notes/assumptions/71.md). -/
def State.endHubWriters (s : State) (a : Nat) : State :=
  let t := s.conns.foldl (fun t e => t.endConnWriters a e.1) ((s.endHubCopies a).endBlkWriters a)
  t.each 2 (fun i t => t.when (t.on (Reg.DPORT_CTRL_EN i) && decide ((t.dportAddr i - 1) / 64 = a / 64) && decide (t.dportAddr i ≠ 0)) (fun t => t.wr (Reg.DPORT_STATUS_MEM_ERR i) 1))

/-- FAULT_DETECTED (R330): `engine` 16 with cause 0x11 is a hub writer, whose operation ends before the fault is classed (R338). -/
def execFaultDetected (code part engine unit addr : Nat) (s : State) : Host.Outcome State Fault Refusal :=
  s.guarded (part < 64 && engine < 17 && unit < 32) ((s.when (code == 0x11 && engine == 16) (fun t => t.endHubWriters addr)).fault code part engine unit addr)

end Sys2Proof.Machine
end

