-- ==== Sys2Proof/Machine/Ckpt.lean ====
section
/-! DEFINITION. Checkpoints, the granary and the restore (R345 to R356). -/

namespace Sys2Proof.Machine

def State.ckp (s : State) (k : Nat) : Ckp := Tab.get Ckp.reset s.flt.ckps k
def State.setCkp (s : State) (k : Nat) (x : Ckp) : State := { s with flt := { s.flt with ckps := Tab.set Ckp.reset s.flt.ckps k x } }

/-- Enabled regions of a checkpoint context. -/
def State.ckpRegions (s : State) (k : Nat) : List Nat := (List.range 4).filter (fun r => s.on (Reg.CKP_REGION_EN k r))
def State.ckpLen (s : State) (k r : Nat) : Nat := s.rd (Reg.CKP_REGION_CHUNKS k r) * 65536

/-- The module address of a region: it lies within one segment of the partition (R347). -/
def State.ckpBase (s : State) (k r : Nat) : Option Nat :=
  let pa := s.rd (Reg.CKP_REGION_PBASE k r) * 65536
  let n := s.ckpLen k r
  let p := s.rd (Reg.CKP_CTRL_PART k)
  if p = 0 then some pa
  else (((s.part p).grants.segs.find? (fun g => g.len != 0 && decide (g.pbase * 2 ^ 26 ≤ pa) && decide (pa + n ≤ (g.pbase + g.len) * 2 ^ 26))).map
    (fun g => g.mbase * 2 ^ 26 + (pa - g.pbase * 2 ^ 26)))

/-- Slot size in bytes and the first byte of a slot in the granary (R349). -/
def State.ckpSlotAt (s : State) (k g : Nat) : Nat := 65536 + g * (s.rd (Reg.CKP_TARGET_SLOTLEN k) * 2 ^ 26)

/-! ## Shard format (R352, R353) -/

/-- The shard header (Table 13.5). -/
def State.ckpHeader (s : State) (k step bell d : Nat) : List Nat :=
  let rs := s.ckpRegions k
  let region (i : Nat) : List Nat := match rs[i]? with
    | some r => leBytes 8 (s.ckpLen k r) ++ [s.rd (Reg.CKP_REGION_AXIS k r), 0, 0, 0] ++ leBytes 4 (s.rd (Reg.CKP_REGION_TAG k r))
    | none => List.replicate 16 0
  [0x43, 0x4C, 0x58, 0x41, 0, 0, 1, 0] ++ leBytes 8 (s.rd (Reg.CKP_JOB_JOB k)) ++ leBytes 8 step ++ leBytes 8 bell ++
  [s.rd Reg.BELL_COORD_X, s.rd Reg.BELL_COORD_Y, s.rd Reg.BELL_COORD_Z, rs.length, s.rd (Reg.CKP_SHAPE_NX k), s.rd (Reg.CKP_SHAPE_NY k),
    s.rd (Reg.CKP_SHAPE_NZ k), 0] ++ leBytes 8 d ++ leBytes 4 (ceilDiv d (2 ^ 26)) ++ List.replicate 12 0 ++
  ((List.range 4).map region).flatten ++ s.readVia (s.rd (Reg.CKP_CTRL_PART k)) true (s.rd (Reg.CKP_USER_ADDR k) * 64) 1024 ++ List.replicate 2944 0

/-- The data of a shard: its regions in order. -/
def State.ckpData (s : State) (k : Nat) : List Nat :=
  ((s.ckpRegions k).map (fun r => s.bytes ((s.ckpBase k r).getD 0) (s.ckpLen k r))).flatten

/-- The segment digest table of data bytes. -/
def segTable (data : List Nat) : List Nat := ((chunksOf (2 ^ 26) data).map (fun b => shake b 32)).flatten

/-- The trailer (R353). -/
def ckpTrailer (header table : List Nat) (d : Nat) : List Nat :=
  shake (header ++ table) 32 ++ [0x43, 0x4C, 0x58, 0x45] ++ leBytes 8 d ++ List.replicate 20 0

/-! ## Sending a shard (R347, R348) -/

/-- The words of a PUT CPD of a checkpoint: source, interlock region (none: no ILK_EN), unit, destination, length. -/
def State.ckpWords (s : State) (k u src dst len : Nat) (ilk : Option Nat) : List Nat :=
  let w0 := 3 + (u - 2) * 2 ^ 4 + (if ilk.isSome then 2 ^ 15 + ilk.getD 0 * 2 ^ 16 else 0)
  [w0, 0, src % 2 ^ 32, src / 2 ^ 32 % 2 ^ 16, dst % 2 ^ 32, dst / 2 ^ 32 % 2 ^ 16 + s.rd (Reg.CKP_TARGET_QP k) * 2 ^ 16, len, 0]

/-- A PUT handed to HC0, HC1 or HC2 (unit `u`). -/
def State.ckpPut (s : State) (k kind u src dst len : Nat) (ilk : Option Nat) : State :=
  match (s.ckp k).run with
  | none => s
  | some r =>
    (s.setCkp k { s.ckp k with run := some { r with waiting := r.waiting + 1 } }).queueCpd u 0 false (.ckp k kind r.no) r.bell
      (s.ckpWords k u src dst len ilk) none

/-- Data PUTs handed over while HC0 to HC2 have room, one unit after another; `fuel` is the number that wait. -/
def State.ckpFeed (s : State) (k : Nat) : Nat → State
  | 0 => s
  | fuel + 1 =>
    match (s.ckp k).run with
    | none => s
    | some r =>
      match r.todo, [18, 19, 20].find? (fun u => s.cpdRoom u 0 [0]) with
      | (a, n, ilk, off) :: rest, some _ =>
        let us := [18, 19, 20].filter (fun u => s.cpdRoom u 0 [0])
        let u := us.foldl (fun b u => if (s.copy u).depth < (s.copy b).depth then u else b) (us.headD 18)
        State.ckpFeed ((s.setCkp k { s.ckp k with run := some { r with todo := rest } }).ckpPut k 1 u a (s.ckpSlotAt k r.slot + off) n (some ilk)) k fuel
      | _, _ => s

/-- A copy's message waits at its connection, and no packet of it has been sent. -/
def State.unsentCpd (s : State) (u id : Nat) : Bool :=
  s.conns.any (fun e => e.2.msgs.any (fun m => decide (m.owner = .cpd u id) && decide (0 ≤ sdiff m.psn e.2.sendPsn)))

/-- The PUTs of checkpoint context `k` that wait: queued at a hub copy engine, or handed to a connection that has sent no packet of
them. -/
def State.waitingPuts (s : State) (k u : Nat) : List Cpd :=
  (s.copy u).queue.filter (fun d => match d.src with
    | .ckp k2 _ _ => k2 == k && (decide (d.stage = .queued) || s.unsentCpd u d.id)
    | _ => false)

/-- They are withdrawn (R351). -/
def State.withdrawPuts (s : State) (k : Nat) : State :=
  [18, 19, 20].foldl (fun t u =>
    let l := t.waitingPuts k u
    let v := t.setCopy u { t.copy u with queue := (t.copy u).queue.filter (fun d => !l.any (fun e => e.id == d.id)) }
    v.disown 0 (fun o => match o with
      | .cpd w id => w == u && l.any (fun e => e.id == id)
      | _ => false)) s

/-- A checkpoint ends without a trailer (R351): its interlock regions are disarmed at the next edge, PUTs that wait are
withdrawn. -/
def State.ckpAbort (s : State) (k : Nat) : State :=
  match (s.ckp k).run with
  | none => s
  | some _ =>
    let t := s.setCkp k { s.ckp k with run := none, disarm := (s.ckpRegions k).map (fun r => s.rd (Reg.CKP_REGION_ILK k r)) }
    let t := t.withdrawPuts k
    (t.wr (Reg.CKP_STATUS_STATE k) 0).ckpEvent Reg.CKP_EVENT_ABORTED

/-- A PUT of run `no` of a checkpoint context has ended (R348): the rest of the data, then the digest table, then the trailer; the
shard commits when the trailer's PUT completes. A PUT that an aborted run left behind moves nothing on. -/
def State.ckpEnded (s : State) (k kind no st : Nat) : State :=
  match (s.ckp k).run with
  | none => s
  | some r =>
    if r.no ≠ no then s
    else if st ≠ 0 then s.ckpAbort k
    else
      let r1 := { r with waiting := r.waiting - 1 }
      let t := (s.setCkp k { s.ckp k with run := some r1 }).ckpFeed k 192
      match (t.ckp k).run with
      | none => t
      | some r2 =>
        let d := leNat ((r.header.drop 40).take 8)
        let at0 := t.ckpSlotAt k r.slot
        if r2.waiting ≠ 0 ∨ r2.todo ≠ [] then t
        else if r.phase = 0 then
          (((t.setCkp k { t.ckp k with run := some { r2 with phase := 1 } }).wr (Reg.CKP_STATUS_STATE k) 2)).ckpPut k 2 18 0 (at0 + 4096 + d) r.table.length none
        else if r.phase = 1 then
          (t.setCkp k { t.ckp k with run := some { r2 with phase := 2 } }).ckpPut k 3 18 0 (at0 + 4096 + d + r.table.length) 64 none
        else if kind = 3 then
          let x := t.ckp k
          let t := t.setCkp k { x with
            run := none
            step0 := if r.slot = 0 then some r.step else x.step0
            step1 := if r.slot = 1 then some r.step else x.step1
            disarm := (t.ckpRegions k).map (fun i => t.rd (Reg.CKP_REGION_ILK k i)) }
          let t := (((t.wr (Reg.CKP_LAST_STEP k) r.step).wr (Reg.CKP_LAST_BELL k) r.bell).wr (Reg.CKP_LAST_SLOT k) r.slot).wr (Reg.CKP_LAST_DIGEST k)
            (leNat (r.trailer.take 32))
          (t.wr (Reg.CKP_STATUS_STATE k) 0).ckpEvent Reg.CKP_EVENT_DONE
        else t

/-! ## Trigger (R346, R347) -/

/-- The last step a partition announced; a free value before any (notes/assumptions/3.md). -/
def State.lastStep (s : State) (p : Nat) : State × Nat :=
  let v := Tab.get 0 s.flt.steps p
  if v = 0 then (s.draw.2, s.draw.1 % 2 ^ 64) else (s, v - 1)

/-- What triggers the context at the edge that has just passed: a command or step announced for it, or the timer. -/
def State.ckpDue (s : State) (k : Nat) : Option (State × Nat) :=
  let p := s.rd (Reg.CKP_CTRL_PART k)
  let timer := !s.on (Reg.CKP_CTRL_MODE k) && (s.ckp k).seen != some s.count && ((s.count : Int) - (s.rd (Reg.CKP_PHASE_PHASE k) : Int)) % (s.rd (Reg.CKP_PERIOD_PERIOD k) : Int) == 0
  if !s.on (Reg.CKP_CTRL_EN k) then none
  else match (s.ckp k).due with
    | some (e, step) =>
      let t := s.setCkp k { s.ckp k with due := none, seen := some s.count }
      if s.count < e then none
      else match step with
        | some v => some (t, v)
        | none => some (t.lastStep p)
    | none => if timer then some ((s.setCkp k { s.ckp k with seen := some s.count }).lastStep p) else none

/-- Work of the partition for a bell before the one in progress is late or under replay (R347). -/
def State.workBehind (s : State) (p : Nat) : Bool :=
  s.slots.any (fun e => e.2.queue.any (fun m => m.part == p && decide (m.bell < s.count))) ||
  s.copies.any (fun e => e.2.queue.any (fun d => d.part == p && decide (d.bell < s.count))) ||
  (s.ctxsOf p).any (fun c => (s.ctx c).owes.elim false (fun b => decide (b < s.count))) ||
  s.flt.replays.any (fun e => match e.2, s.slotOf e.1 with
    | some r, some ps => decide (p ∈ s.replayParts e.1 ps r)
    | _, _ => false) ||
  s.flt.waitSpare.any (fun w => (s.slotOf w.n).elim false (fun ps => decide (p ∈ s.workParts w.n ps)))

/-- The slot written next: the one whose committed generation is older, the one not committed last, slot 0 first (R349). -/
def State.ckpNext (s : State) (k : Nat) : Nat :=
  match (s.ckp k).step0, (s.ckp k).step1 with
  | none, _ => 0
  | some _, none => 1
  | some _, some _ => 1 - s.rd (Reg.CKP_LAST_SLOT k)

/-- The interlock region of a checkpoint region armed over its chunks (R151, R347). -/
def State.ilkArm (s : State) (i base chunks : Nat) : State :=
  let t := ((s.wr (Reg.MEM_ILK_BASE_BASE i) (base / 65536)).wr (Reg.MEM_ILK_CTRL_CHUNKS i) chunks).wr (Reg.MEM_ILK_CTRL_EN i) 1
  let t := ((t.wr (Reg.MEM_ILK_STATUS_REACHED i) 0).wr (Reg.MEM_ILK_STATUS_HELD i) 0).wr (Reg.MEM_ILK_STATUS_HELD_US i) 0
  { t with memSt := { t.memSt with reached := t.memSt.reached.filter (fun e => e.1 / 2 ^ 21 != i), heldTime := Tab.set 0 t.memSt.heldTime i 0 } }

/-- An interlock region disarmed: its staging slots are free (R348). -/
def State.ilkDisarm (s : State) (i : Nat) : State :=
  let t := s.wr (Reg.MEM_ILK_CTRL_EN i) 0
  { t with memSt := { t.memSt with
    reached := t.memSt.reached.filter (fun e => e.1 / 2 ^ 21 != i)
    staged := t.memSt.staged.filter (fun k => k / 2 ^ 21 != i)
    stagedBytes := t.memSt.stagedBytes.filter (fun e => e.1 / 65536 / 2 ^ 21 != i)
    stagedBad := t.memSt.stagedBad.filter (fun e => e / 65536 / 2 ^ 21 != i) } }

/-- The pieces of 512 KiB in which a shard's data is sent: address, length, interlock region, offset in the slot. -/
def State.ckpPieces (s : State) (k : Nat) : List (Nat × Nat × Nat × Nat) :=
  ((s.ckpRegions k).foldl (fun (r : List (Nat × Nat × Nat × Nat) × Nat) i =>
    let n := s.ckpLen k i
    let base := (s.ckpBase k i).getD 0
    (r.1 ++ (List.range (ceilDiv n 524288)).map (fun j =>
      (base + j * 524288, min 524288 (n - j * 524288), s.rd (Reg.CKP_REGION_ILK k i), r.2 + j * 524288)), r.2 + n)) ([], 4096)).1

/-- A checkpoint begins: header, segment table and trailer are made, its regions armed and its first writes put (R347, R348). -/
def State.beginCkp (s : State) (k step : Nat) : State :=
  let x := s.ckp k
  let g := s.ckpNext k
  let data := s.ckpData k
  let header := s.ckpHeader k step s.count data.length
  let table := segTable data
  let run : CkpRun := { bell := s.count, step := step, slot := g, header := header, table := table, trailer := ckpTrailer header table data.length,
                        todo := s.ckpPieces k, waiting := 0, phase := 0, no := x.runs + 1 }
  let t := (s.ckpRegions k).foldl (fun t r => t.ilkArm (t.rd (Reg.CKP_REGION_ILK k r)) ((t.ckpBase k r).getD 0) (t.rd (Reg.CKP_REGION_CHUNKS k r))) s
  let t := ((t.setCkp k { x with run := some run, runs := x.runs + 1 }).wr (Reg.CKP_STATUS_STATE k) 1).wr (Reg.CKP_STATUS_SLOT k) g
  (t.ckpPut k 0 18 0 (t.ckpSlotAt k g) 4096 none).ckpFeed k 192

/-- CKP_TRIGGER: the context triggers, is deferred, or aborts on a region without one segment; `hold` is the control block's
first byte, read from the buddy with a GET (R347, R350). -/
def State.ckpTrigger (s : State) (k hold : Nat) : State :=
  match s.ckpDue k with
  | none => s
  | some (s, step) =>
    let p := s.rd (Reg.CKP_CTRL_PART k)
    let x := s.ckp k
    let g := s.ckpNext k
    let other := if g = 0 then x.step1 else x.step0
    let busy := x.run.isSome
    if busy || decide (s.partState p ≠ .run) || s.workBehind p || bit hold g || other.elim false (fun o => decide (s.rd (Reg.CKP_SAFE_SAFE_STEP k) < o)) then
      ((s.when busy (fun t => t.wr Reg.BELL_LATE_CKP 1)).incSat (Reg.CKP_STATUS_DEFERRED k) 1).ckpEvent Reg.CKP_EVENT_DEFERRED
    else if (s.ckpRegions k).any (fun r => (s.ckpBase k r).isNone) then s.ckpEvent Reg.CKP_EVENT_ABORTED
    else
      s.beginCkp k step

/-! ## Restore (R355, R356) -/

/-- A field of a restore-list entry. -/
def entryNum (e : List Nat) (lo n : Nat) : Nat := leNat ((e.drop lo).take n)

/-- A shard image as read from its source: header, table, data length, and whether its digest is the expected one. -/
def imageOk (image expected : List Nat) : Bool :=
  let d := leNat ((image.drop 40).take 8)
  let n := 32 * leNat ((image.drop 48).take 4)
  let header := image.take 4096
  let table := (image.drop (4096 + d)).take n
  let trailer := (image.drop (4096 + d + n)).take 64
  image.take 4 == [0x43, 0x4C, 0x58, 0x41] && trailer.length == 64 && (trailer.drop 32).take 4 == [0x43, 0x4C, 0x58, 0x45] &&
  shake (header ++ table) 32 == trailer.take 32 && trailer.take 32 == expected

/-- Every segment that a piece touches agrees with the table. -/
def pieceOk (image : List Nat) (off len : Nat) : Bool :=
  let d := leNat ((image.drop 40).take 8)
  len == 0 || (List.range ((off + len - 1) / 2 ^ 26 - off / 2 ^ 26 + 1)).all (fun j =>
    let i := off / 2 ^ 26 + j
    let seg := (image.drop (4096 + i * 2 ^ 26)).take (min (2 ^ 26) (d - i * 2 ^ 26))
    shake seg 32 == (image.drop (4096 + d + 32 * i)).take 32)

/-- A list that breaks the rules of Table 13.6: BAD_ARG. -/
def State.restoreBad (s : State) (k : Nat) (es : List (List Nat)) (images : List (Option (List Nat))) : Bool :=
  let srcs := es.filter (fun e => e.headD 0 == 1)
  es.isEmpty || es.length != s.rd (Reg.CKP_RESTORE_N_COUNT k) || srcs.length != images.length ||
  es.any (fun e =>
    if e.headD 0 = 1 then !(e.getD 1 0 == 1 || e.getD 1 0 == 2) || ((e.drop 4).take 4).any (· != 0) || ((e.drop 16).take 16).any (· != 0)
    else if e.headD 0 = 2 then
      let src := images.getD (e.getD 1 0) none
      let d := src.elim (2 ^ 64) (fun b => leNat ((b.drop 40).take 8))
      decide (srcs.length ≤ e.getD 1 0) || decide (3 < e.getD 2 0) || !s.on (Reg.CKP_REGION_EN k (e.getD 2 0)) ||
      ((e.drop 3).take 5).any (· != 0) || (e.drop 32).any (· != 0) ||
      entryNum e 8 8 % 65536 != 0 || entryNum e 16 8 % 65536 != 0 || entryNum e 24 8 % 65536 != 0 ||
      decide (d < entryNum e 8 8 + entryNum e 16 8) || decide (s.ckpLen k (e.getD 2 0) < entryNum e 24 8 + entryNum e 16 8) ||
      (s.ckpBase k (e.getD 2 0)).isNone
    else true)

/-- The end of a RESTORE with its result; FAIL_SRC names a source. The context leaves RESTORING. -/
def State.restoreEnd (s : State) (k result src : Nat) : State :=
  ((((s.when (s.rd (Reg.CKP_STATUS_STATE k) == 3) (fun t => t.wr (Reg.CKP_STATUS_STATE k) 0)).wr (Reg.CKP_CMD_BUSY k) 0).wr (Reg.CKP_CMD_RESULT k) result).wr (Reg.CKP_CMD_FAIL_SRC k) src).ckpEvent
    (if result = 0 then Reg.CKP_EVENT_RESTORE_DONE else Reg.CKP_EVENT_RESTORE_FAIL)

/-- The first source that cannot be read, or does not verify: its number and the result. -/
def sourceFail (srcs : List (List Nat)) (images : List ImageRead) : Option (Nat × Nat) :=
  (List.range srcs.length).findSome? (fun i =>
    match images.getD i (.failed false) with
    | .failed m => some (i, if m then 5 else 4)
    | .image b => if imageOk b (((srcs.getD i []).drop 32).take 32) then none else some (i, 3))

/-- Good sources are restored: the user record and each piece, up to a piece that fails its digest (R356). -/
def State.restoreFrom (s : State) (k : Nat) (es : List (List Nat)) (images : List (Option (List Nat))) : State :=
  let p := s.rd (Reg.CKP_CTRL_PART k)
  let pieces := es.filter (fun e => e.headD 0 == 2)
  let first := (images.getD 0 none).getD []
  let s1 := s.writeVia p true (s.rd (Reg.CKP_USER_ADDR k) * 64) ((first.drop 128).take 1024)
  let r := pieces.foldl (fun (r : State × Option Nat) e =>
    let b := (images.getD (e.getD 1 0) none).getD []
    if r.2.isSome then r
    else if !pieceOk b (entryNum e 8 8) (entryNum e 16 8) then (r.1, some (e.getD 1 0))
    else (r.1.write (((r.1.ckpBase k (e.getD 2 0)).getD 0) + entryNum e 24 8) ((b.drop (4096 + entryNum e 8 8)).take (entryNum e 16 8)) .other, none)) (s1, none)
  match r.2 with
  | some i => r.1.restoreEnd k 3 i
  | none => r.1.restoreEnd k 0 0

/-- A restore list that is known, and its sources, are checked and restored (R355, R356). -/
def State.restoreList (s : State) (k : Nat) (es : List (List Nat)) (images : List ImageRead) : State :=
  let srcs := es.filter (fun e => e.headD 0 == 1)
  if s.restoreBad k es (images.map ImageRead.bytes) then s.restoreEnd k 2 0
  else match sourceFail srcs images with
    | some (i, r) => s.restoreEnd k r i
    | none => s.restoreFrom k es (images.map ImageRead.bytes)

/-- CKP_CMD RESTORE (R355): the list as the command gives it, or, where it gives none, as the host returned it to an earlier one, which made
the reads (R185); the command is under way, the context in RESTORING, until it has come (notes/assumptions/7.md). -/
def State.ckpRestore (s : State) (k : Nat) (es : List (List Nat)) (images : List ImageRead) : State :=
  let st := s.partState (s.rd (Reg.CKP_CTRL_PART k))
  let c := s.ckp k
  let n := s.rd (Reg.CKP_RESTORE_N_COUNT k)
  if !(st = .ready ∨ st = .frozen ∨ st = .stopped) then s.restoreEnd k 1 0
  else if es ≠ [] ∧ s.mayRequest 0 then s.restoreList k es images
  else if n = 0 then s.restoreList k [] images
  else if c.listMissing ≠ 0 then s
  else if c.list ≠ [] then
    (s.setCkp k { c with list := [] }).restoreList k ((List.range n).map (fun i => (c.list.drop (64 * i)).take 64)) images
  else (((s.setCkp k { c with listMissing := 64 * n }).when c.run.isNone (fun t => t.wr (Reg.CKP_STATUS_STATE k) 3)).wr (Reg.CKP_CMD_BUSY k) 1).readHostFor 0 0x7FF (s.rd (Reg.CKP_RESTORE_ADDR_ADDR k) * 64) (64 * n)
    (fun o => .restore k o)

/-- Bytes of a restore list arrive. -/
def State.restoreData (s : State) (k off : Nat) (bs : List Nat) : State :=
  let c := s.ckp k
  s.setCkp k { c with list := overlay c.list off bs, listMissing := c.listMissing - bs.length }

/-- A read of a restore list fails: the command ends with REMOTE_ERR, its list unread (notes/assumptions/61.md). -/
def State.restoreFail (s : State) (k : Nat) : State :=
  if (s.ckp k).listMissing = 0 then s
  else ((s.setCkp k { s.ckp k with list := [], listMissing := 0 }).dropReads (fun u => match u with
    | .restore j _ => if j = k then some 0 else none
    | _ => none)).restoreEnd k 4 0

/-! ## The granary (R350) -/

/-- The HOLD bits of a granary, in the register and in the control block's first byte (R350). -/
def State.granHold (t : State) (g b : Nat) : State :=
  (t.wr (Reg.CKP_GRAN_HOLD g) b).write (t.rd (Reg.CKP_GRAN_BASE g)) [setBits (t.byte (t.rd (Reg.CKP_GRAN_BASE g))) 0 2 b] .other

/-- GRANARY_DRAIN: the ward has committed a generation to a slot, and for every DRAIN_EVERY-th one the hold bit of the slot is set and
the drain of its image to the volume starts; or the drain ends and the bit is cleared. A slot marked lost holds no generation (R351). -/
def State.granaryDrain (s : State) (g slot : Nat) (done : Option Bool) : State :=
  let base := s.rd (Reg.CKP_GRAN_BASE g)
  let n := s.granSlot g
  let v := s.rd (Reg.CKP_GRAN_DRAIN_VOL g)
  let hold := s.rd (Reg.CKP_GRAN_HOLD g)
  if !s.on (Reg.CKP_GRAN_EN g) then s
  else match done with
    | none =>
      let n1 := Tab.get 0 s.flt.granGens g + 1
      let every := s.rd (Reg.CKP_GRAN_DRAIN_EVERY g)
      let lost := Tab.get false s.flt.granLost (g * 2 + slot)
      let s := if lost then s else { s with flt := { s.flt with granGens := Tab.set 0 s.flt.granGens g n1 } }
      if every = 0 ∨ bit hold slot ∨ lost ∨ n1 % every ≠ 0 then s
      else (s.granHold g (Nat.lor hold (2 ^ slot))).emit (.drain v (s.rd (Reg.CKP_GRAN_DRAIN_LBA g) + slot * n / (if s.on (Reg.BLK_VOL_BS v) then 4096 else 512))
        (s.bytes (base + 65536 + slot * n) n))
    | some ok => if !bit hold slot then s else (s.granHold g (hold ^^^ 2 ^ slot)).when (!ok) (fun t => t.ckpEvent Reg.CKP_EVENT_DRAIN_FAIL)

/-- CKP_CMD TRIGGER (R346): a trigger of an enabled context at the next edge, with the last step announced by then; BAD_STATE for one
that is not enabled, which triggers at no edge (DEDUCED, notes/assumptions/61.md). -/
def State.ckpTriggerCmd (s : State) (k : Nat) : State :=
  if s.on (Reg.CKP_CTRL_EN k) then (s.setCkp k { s.ckp k with due := some (s.count + 1, none) }).wr (Reg.CKP_CMD_RESULT k) 0
  else s.wr (Reg.CKP_CMD_RESULT k) 1

/-- CKP_CMD ABORT (R351): BAD_STATE when no checkpoint runs. -/
def State.ckpAbortCmd (s : State) (k : Nat) : State :=
  if (s.ckp k).run.isSome then (s.ckpAbort k).wr (Reg.CKP_CMD_RESULT k) 0 else s.wr (Reg.CKP_CMD_RESULT k) 1

/-! ## Meanings -/

/-- CPD_COMPLETE (R147): the oldest CPD of the partition ends; a checkpoint's PUT moves its shard on (R348). -/
def execCpdComplete (u p : Nat) (s : State) : Host.Outcome State Fault Refusal :=
  s.guarded (u < 22 && p < 64) (
    let t := s.completeCpd u p
    match (s.copy u).queue.find? (fun d => d.part == p) with
    | none => t
    | some d =>
      if (t.copy u).queue.any (fun e => e.id == d.id) then t
      else match d.src with
        | .ckp k kind no => t.ckpEnded k kind no (match d.stage with
          | .finished st => st
          | _ => 0)
        | _ => t)

/-- CKP_TRIGGER (R347). -/
def execCkpTrigger (k hold : Nat) (s : State) : Host.Outcome State Fault Refusal := s.guarded (k < 4) (s.ckpTrigger k hold)

/-- CKP_TRIGGER_CMD (R346). -/
def execCkpTriggerCmd (k : Nat) (s : State) : Host.Outcome State Fault Refusal :=
  s.fromPf 12 (s.guarded (k < 4) (s.ckpTriggerCmd k))

/-- CKP_ABORT (R351). -/
def execCkpAbort (k : Nat) (s : State) : Host.Outcome State Fault Refusal :=
  s.fromPf 12 (s.guarded (k < 4) (s.ckpAbortCmd k))

/-- CKP_RESTORE (R356). -/
def execCkpRestore (k : Nat) (entries : List (List Nat)) (images : List ImageRead) (s : State) : Host.Outcome State Fault Refusal :=
  s.fromPf 12 (s.guarded (k < 4) (s.ckpRestore k entries images))

/-- GRANARY_DRAIN (R350). -/
def execGranaryDrain (g slot : Nat) (done : Option Bool) (s : State) : Host.Outcome State Fault Refusal :=
  s.guarded (g < 4 && slot < 2) (s.granaryDrain g slot done)

end Sys2Proof.Machine
end

