-- ==== Sys2Proof/Machine/Ident.lean ====
section
/-! DEFINITION. The identity of one module (R407, R408): what the Reeve derives from the secret. -/

namespace Sys2Proof.Machine

/-- The 256-bit secret of this part (R407): a free value, fixed for the part. -/
def secret : List Nat := leBytes 32 (Config.fuse "puf secret")

/-- SHAKE256 of the secret and a one-byte label (R408). -/
def derived (label : Nat) : List Nat := shake (secret ++ [label]) 32

/-- The identity key's public key: 68 bytes (R408). -/
def identityKey : List Nat := Config.xmssPublic (derived 1) (derived 2) (derived 3)

/-- The record key of R390. -/
def recordKey : List Nat := derived 4

/-- The serial number (R408). -/
def serialNumber : Nat := leNat ((sha3 identityKey).take 8)

/-- A signature of the identity key with a leaf (R408, R409). -/
def identitySign (leaf : Nat) (msg : List Nat) : List Nat := Config.xmssSign (derived 1) (derived 2) (derived 3) leaf msg

end Sys2Proof.Machine
end

