-- ==== Sys2Proof/Machine/Ctx.lean ====
section
/-! DEFINITION. Contexts: how one starts, stops, freezes and is bound, and its bell snapshots (R86, R122, R124, R162, R332). -/

namespace Sys2Proof.Machine

/-! ## Bell snapshots (R332) -/

/-- Place of a tending-core context's snapshots: logical engine·16 + core·4 + context. -/
def State.snapKey (s : State) (c : Nat) : Option Nat := if isTc c then (s.engineOf (ctxSlot c)).map (fun n => n * 16 + c % 16) else none

/-- A snapshot for a bell has a place: one exists for that bell, or fewer than eight are kept. -/
def State.snapRoom (s : State) (c bell : Nat) : Bool :=
  match s.snapKey c with
  | none => true
  | some k => let l := Tab.get [] s.flt.snaps k; l.any (fun e => e.bell == bell) || decide (l.length < 8)

/-- The context's registers copied into its snapshot for the bell of its pb. -/
def State.takeSnap (s : State) (c : Nat) : State :=
  match s.snapKey c with
  | none => s
  | some k =>
    let x := s.ctx c
    let b := x.pb.toNat
    let l := (Tab.get [] s.flt.snaps k).filter (fun e => e.bell != b)
    { s with flt := { s.flt with snaps := Tab.set [] s.flt.snaps k (l ++ [{ bell := b, ctx := x }]) } }

/-! ## Starting and stopping (R86, R122) -/

/-- A context starts at `pc` with `sp` and its level: A, B, X, Y are 0, pb is the bell counter, BLHINT 1,024, CYCLE 0 (R86,
Table 4.16); its other registers keep their values, and it has announced no step yet (notes/assumptions/8.md). -/
def Ctx.start (x : Ctx) (pc sp level pb : Nat) : Ctx :=
  { x with
    a := 0, b := 0, x := 0, y := 0
    sp := BitVec.ofNat 32 sp, pc := BitVec.ofNat 32 pc, st := BitVec.ofNat 32 (level * 256)
    cycle := 0, pb := BitVec.ofNat 64 pb, blHint := 1024, run := .running, frozen := false, lastStep := none, late := false, parked := none }

/-- A tending-core context starts: its window's top, TC_CTX_PC, the bound level (R86); it takes a snapshot (R332) and ungates
its core (R360). -/
def State.startTc (s : State) (c : Nat) : State :=
  let w := s.ctxWindow c
  let pc := 4 * s.rd (Reg.TC_CTX_PC_START_PC (ctxSlot c) (ctxCore c) (ctxIdx c))
  let level := s.rd (Reg.TC_CTX_BIND_LEVEL (ctxSlot c) (ctxCore c) (ctxIdx c))
  ((s.ungate (coreBlock c)).setCtx c ((s.ctx c).start pc (w.1 + w.2) level s.count)).takeSnap c

/-- A context stops at its instruction boundary: a wait or stall is abandoned, its registers are kept (R122). -/
def State.stopCtx (s : State) (c : Nat) : State :=
  let x := s.ctx c
  match x.run with
  | .halted => s
  | _ => s.setCtx c { x with run := .stopped, frozen := false, late := false, parked := none }

/-- A context stops for FREEZE with its PC and registers kept, to go on at THAW (R162); it stands since `since`, when its
abandoned wait began. -/
def State.freezeCtx (s : State) (c since : Nat) : State :=
  s.setCtx c { s.ctx c with run := .stopped, frozen := true, frozenAt := since, late := false }

/-- The partition freezes and a release for bell `b` is not to complete (R162). -/
def State.freezesAt (s : State) (p b : Nat) : Bool :=
  decide (s.partState p = .freezing) && decide ((s.part p).freezeAt.elim false (fun f => f ≤ b))

/-! ## Memory that enters or leaves a grant (R158) -/

/-- Address `a` lies in one of the ranges. -/
def inRanges (l : List (Nat × Nat)) (a : Nat) : Bool := l.any (fun r => decide (r.1 ≤ a) && decide (a < r.1 + r.2))

/-- Ranges of `rs` zeroed but where `keep` holds: the bytes are 0 and the marks of units and granules there are gone (R158). -/
def State.zero (s : State) (rs : List (Nat × Nat)) (keep : Nat → Bool) : State :=
  let gone := fun a => inRanges rs a && !keep a
  let fresh := if s.memSt.lostDev.isEmpty then [] else
    (rs.map (fun r => if r.1 < gddrSize then (unitsOf r.1 r.2 256).filter (fun b => Tab.get false s.memSt.lostDev (ldOf b) && !keep b) else [])).flatten
  { s with
    mem := s.mem.filter (fun e => !gone e.1)
    memSt := { s.memSt with
      bad := s.memSt.bad.filter (fun e => !gone e.1)
      lostGranule := s.memSt.lostGranule.filter (fun e => !gone (e.1 * 256))
      rewritten := fresh.foldl (fun m b => Tab.set false m (b / 256) true) s.memSt.rewritten } }

/-- Module range of a context's window. -/
def State.windowRange (s : State) (c : Nat) : List (Nat × Nat) :=
  match s.engineOf (ctxSlot c) with
  | some n => [(tcBase n (ctxCore c) + (s.ctxWindow c).1, (s.ctxWindow c).2)]
  | none => []

/-- The byte lies in a window of partition `p`. -/
def State.ownWindow (s : State) (p a : Nat) : Bool :=
  match spaceOf a with
  | .tcLocal n k o => s.inWindow p n k o
  | _ => false

/-! ## Binding (R124, R158) -/

/-- A TC_CTX_BIND value that R124 refuses for context `c`. -/
def State.bindBad (s : State) (c value : Nat) : Bool :=
  let base := bits value 8 6
  let size := bits value 16 6
  decide (64 < base + size + 1) ||
  (bit value 7 && (List.range 4).any (fun i =>
    let d := c / 4 * 4 + i
    d != c && s.ctxBound d && s.ctxPart d != bits value 0 6 &&
    decide ((s.ctxWindow d).1 < (base + size + 1) * 4096) && decide (base * 4096 < (s.ctxWindow d).1 + (s.ctxWindow d).2)))

/-- The fields of TC_CTX_BIND taken; a halted or frozen context that is rebound is stopped (R122, R168). -/
def State.bindCtx (s : State) (c value : Nat) : State :=
  let f := fun (g : Nat → Nat → Nat → Fld) => g (ctxSlot c) (ctxCore c) (ctxIdx c)
  let t := [f Reg.TC_CTX_BIND_PART, f Reg.TC_CTX_BIND_LEVEL, f Reg.TC_CTX_BIND_EN, f Reg.TC_CTX_BIND_BASE, f Reg.TC_CTX_BIND_SIZE].foldl
    (fun (t : State) g => t.wr g (bits value g.lsb g.w)) s
  t.setCtx c { t.ctx c with run := .stopped, frozen := false, late := false, parked := none }

/-- A context bound or unbound by a TC_CTX_BIND value: bytes that come into a tenant's windows are zeroed before, and bytes that leave them
after (R158). -/
def State.rebind (s : State) (c value : Nat) : State :=
  let tenant (t : State) : List (Nat × Nat) := if t.ctxBound c && t.ctxPart c != 0 then t.windowRange c else []
  let t := s.bindCtx c value
  (t.zero (tenant t) (s.ownWindow (t.ctxPart c))).zero (tenant s) (t.ownWindow (s.ctxPart c))

/-! ## Writes of TC_CTRL, TC_CTX_BIND and TC_CTX_PC (R122, R124) -/

/-- START acts on a bound context that neither runs nor waits, nor is halted under R168, of a partition in RUN; for any other
it has no effect and is recorded. -/
def State.tcStart (s : State) (src : Src) (c : Nat) : State :=
  let x := s.ctx c
  if s.ctxBound c && !x.alive && decide (x.run ≠ .halted) && decide (s.partState (s.ctxPart c) = .run) then s.startTc c
  else s.unsup src (Reg.TC_CTRL (ctxSlot c) (ctxCore c)) true

/-- STOP (R122): what the context owed to the bells is owed no more. -/
def State.tcStop (s : State) (c : Nat) : State :=
  if (s.ctx c).alive || (s.ctx c).parked.isSome then (s.stopCtx c).commitBells else s

/-- A write of TC_CTX_PC (`toPc`) or of TC_CTX_BIND: discarded and recorded while the context runs or waits, and when R124
refuses the binding. -/
def State.tcBind (s : State) (src : Src) (c : Nat) (toPc : Bool) (value : Nat) : State :=
  let ps := ctxSlot c
  let k := ctxCore c
  let i := ctxIdx c
  if toPc then
    if (s.ctx c).alive then s.unsup src (Reg.TC_CTX_PC ps k i) true
    else s.wr (Reg.TC_CTX_PC_START_PC ps k i) (bits value 2 16)
  else if (s.ctx c).alive || s.bindBad c value then s.unsup src (Reg.TC_CTX_BIND ps k i) true
  else s.rebind c value

/-! ## Meanings -/

/-- CONTEXT_START (R124). -/
def execContextStart (c : Nat) (s : State) : Host.Outcome State Fault Refusal := s.fromPf 15 (s.guarded (c < 288) (s.tcStart .pf c))

/-- CONTEXT_STOP (R122). -/
def execContextStop (c : Nat) (s : State) : Host.Outcome State Fault Refusal := s.fromPf 15 (s.guarded (c < 288) (s.tcStop c))

/-- TC_CTX_BIND_WRITE (R124). -/
def execTcCtxBindWrite (c : Nat) (toPc : Bool) (value : Nat) (s : State) : Host.Outcome State Fault Refusal :=
  s.fromPf 15 (s.guarded (c < 288) (s.tcBind .pf c toPc value))

end Sys2Proof.Machine
end

