-- ==== Sys2Proof/Machine/Partition.lean ====
section
/-! DEFINITION. Partitions (chapter 06): commands and states (R160 to R164), grants (R157, R158, R163), doorbells and queue
records (R165, R166), slices (R170), dirty-page logging (R171, R172), saving and restoring (R173, R174). -/

namespace Sys2Proof.Machine

/-! ## Registers and events of a partition -/

/-- Codes of Table 6.3. -/
def PartState.code : PartState → Nat
  | .free => 0 | .ready => 1 | .run => 2 | .freezing => 3 | .frozen => 4 | .stopped => 5 | .fatal => 6

/-- PART_EVENT bits go to vector 2. -/
def State.partEvent (s : State) (p : Nat) (f : Nat → Fld) : State := s.event (f p) (Reg.PART_EVENT_EN_EN p) 2

/-- The states in which a partition counts as stopped, for the ranges that the Reeve opens (R156, R160, R411). -/
def PartState.isStopped : PartState → Bool
  | .ready => true | .frozen => true | .stopped => true | .fatal => true
  | .free => false | .run => false | .freezing => false

/-- A partition enters a state: PART_STATE shows it and its VF is told by vector 0 (R160, Table 7.4); leaving the stopped states
closes the ranges that MGT_OPEN opens for it (R411). -/
def State.enterState (s : State) (p : Nat) (st : PartState) : State :=
  let t := (s.setPart p { s.part p with state := st }).wr (Reg.PART_STATE_STATE p) st.code
  let t := if st.isStopped then t else t.each 4 (fun i t => if t.rd (Reg.MGT_OPEN_PART i) = p then t.wr (Reg.MGT_OPEN_EN i) 0 else t)
  match (s.part p).vf with
  | some v => t.sendMsix v 0
  | none => t

/-- The Reeve's operational firmware runs (R161, R197, R361). -/
def State.fwRuns (s : State) : Bool := s.rd Reg.MGT_STATUS_STATE == 2 || s.rd Reg.MGT_STATUS_STATE == 3

/-- The firmware runs and carries out partition commands: not in minimal mode, but in recovery opened by a test unlock
(R161, R397). -/
def State.operational (s : State) : Bool := s.fwRuns && !s.restricted

/-! ## Memory that grants name (R158) -/

/-- Module ranges of grants: tile stores, GDDR7, commons. -/
def Grants.ranges (g : Grants) : List (Nat × Nat) :=
  (List.range 16).map (fun n => (tileBase n + g.tsBase.getD n 0 * 65536, g.tsLen.getD n 0 * 65536)) ++
  g.segs.map (fun x => (x.mbase * 2 ^ 26, x.len * 2 ^ 26)) ++ [(Sys2Proof.Machine.commonsBase + g.commonsBase * 65536, g.commonsLen * 65536)]

/-! ## Grants as written (R157, R161, R163) -/

/-- The grants that the window's registers hold. -/
def State.writtenGrants (s : State) (p : Nat) : Grants :=
  { seed := s.rd (Reg.PART_SEED_SEED p)
    tsBase := (List.range 16).map (fun e => s.rd (Reg.PART_TS_BASE p e))
    tsLen := (List.range 16).map (fun e => s.rd (Reg.PART_TS_LEN p e))
    share := (List.range 16).map (fun e => s.rd (Reg.PART_SHARE_SHARE p e))
    segs := (List.range 16).map (fun i => { pbase := s.rd (Reg.PART_SEG_PBASE p i), mbase := s.rd (Reg.PART_SEG_MBASE p i), len := s.rd (Reg.PART_SEG_LEN p i) })
    commonsBase := s.rd (Reg.PART_RES_COMMONS_BASE p), commonsLen := s.rd (Reg.PART_RES_COMMONS_LEN p)
    qp := s.rd (Reg.PART_QCOUNT_QP p), cq := s.rd (Reg.PART_QCOUNT_CQ p), blk := s.rd (Reg.PART_QCOUNT_BLK p), ciph := s.rd (Reg.PART_QCOUNT_CIPH p)
    keys := s.rd (Reg.PART_MISC_KEYS p), slices := s.rd (Reg.PART_MISC_SLICES p)
    guarantee := s.rd (Reg.PART_FABRIC_GUARANTEE p), ceiling := s.rd (Reg.PART_FABRIC_CEILING p) }

/-- Every grant register back at the value in force (R161). -/
def State.restoreGrants (s : State) (p : Nat) : State :=
  let g := s.bounds p
  let t := s.wr (Reg.PART_SEED_SEED p) g.seed
  let t := t.each 16 (fun e t => ((t.wr (Reg.PART_TS_BASE p e) (g.tsBase.getD e 0)).wr (Reg.PART_TS_LEN p e) (g.tsLen.getD e 0)).wr
    (Reg.PART_SHARE_SHARE p e) (g.share.getD e 0))
  let t := t.each 16 (fun i t =>
    let x : Seg := g.segs.getD i { pbase := 0, mbase := 0, len := 0 }
    ((t.wr (Reg.PART_SEG_PBASE p i) x.pbase).wr (Reg.PART_SEG_MBASE p i) x.mbase).wr (Reg.PART_SEG_LEN p i) x.len)
  [(Reg.PART_RES_COMMONS_BASE p, g.commonsBase), (Reg.PART_RES_COMMONS_LEN p, g.commonsLen), (Reg.PART_QCOUNT_QP p, g.qp), (Reg.PART_QCOUNT_CQ p, g.cq),
    (Reg.PART_QCOUNT_BLK p, g.blk), (Reg.PART_QCOUNT_CIPH p, g.ciph), (Reg.PART_MISC_KEYS p, g.keys), (Reg.PART_MISC_SLICES p, g.slices),
    (Reg.PART_FABRIC_GUARANTEE p, g.guarantee), (Reg.PART_FABRIC_CEILING p, g.ceiling)].foldl (fun (t : State) e => t.wr e.1 e.2) t

/-- Two ranges given by base and length meet. -/
def meets (a la b lb : Nat) : Bool := decide (a < b + lb) && decide (b < a + la)

/-- A grant lies outside its own bounds (Table 6.1 and the registers' ranges), or two segments name one partition unit. -/
def Grants.bad (g : Grants) : Bool :=
  (List.range 16).any (fun e => decide (384 < g.tsBase.getD e 0 + g.tsLen.getD e 0) || decide (64 < g.share.getD e 0)) ||
  g.segs.any (fun x => x.len != 0 && (decide (1152 < x.pbase + x.len) || decide (1152 < x.mbase + x.len))) ||
  g.segs.zipIdx.any (fun x => g.segs.zipIdx.any (fun y => decide (x.2 < y.2) && x.1.len != 0 && y.1.len != 0 &&
    (meets x.1.pbase x.1.len y.1.pbase y.1.len || meets x.1.mbase x.1.len y.1.mbase y.1.len))) ||
  decide (1536 < g.commonsBase + g.commonsLen) || decide (4096 < g.qp) || decide (4096 < g.cq) || decide (1024 < g.blk) || decide (1024 < g.ciph) ||
  decide (512 < g.keys) || decide (1024 < g.slices) || decide (3200 < g.guarantee) || decide (g.ceiling < g.guarantee) || decide (3200 < g.ceiling)

/-- Grants meet in some unit of memory. -/
def Grants.clash (g h : Grants) : Bool :=
  (List.range 16).any (fun e => meets (g.tsBase.getD e 0) (g.tsLen.getD e 0) (h.tsBase.getD e 0) (h.tsLen.getD e 0) &&
    g.tsLen.getD e 0 != 0 && h.tsLen.getD e 0 != 0) ||
  g.segs.any (fun x => h.segs.any (fun y => x.len != 0 && y.len != 0 && meets x.mbase x.len y.mbase y.len)) ||
  (g.commonsLen != 0 && h.commonsLen != 0 && meets g.commonsBase g.commonsLen h.commonsBase h.commonsLen)

/-- A firmware region within a memory of `total` units, whose place the spec leaves open, and whose size too where it gives none
(notes/assumptions/20.md). -/
def regionPlace (name : String) (size : Option Nat) (total : Nat) : Nat × Nat :=
  let base := Config.fuse (name ++ " place") % total
  (base, size.getD (Config.fuse (name ++ " units") % total + 1))

/-- The firmware regions of the commons that no register shows, in units of 64 KiB: transport staging, block-service buffers, the
parser's 256 KiB fragment buffer, cipher contexts and 4 MiB of interlock staging (R129), the lost marks of 24 devices at 1.5 MiB each
(R136), and the ring of the frame service (Table 10.3). -/
def hiddenCommons : List (Nat × Nat) :=
  ([("transport staging", none), ("block-service buffers", none), ("fragment buffer", some 4), ("cipher contexts", none),
    ("interlock staging", some 64), ("lost marks", some 576), ("frame service ring", none)] : List (String × Option Nat)).map (fun e => regionPlace e.1 e.2 1536)

/-- The firmware regions of the commons: those whose places the MGT_ registers show, the event log's ring, the firmware bank and the
last attestation report (R386, R403, R410), and the others. -/
def State.firmwareRegions (s : State) : List (Nat × Nat) :=
  [(s.rd Reg.MGT_LOG_BASE_ADDR, 0x40000), (s.rd Reg.MGT_FW_BANK_ADDR, 0x400000), (s.rd Reg.MGT_ATTEST_ADDR_ADDR, 2948)].filter (fun r => decide (commonsBase ≤ r.1)) ++
    hiddenCommons.map (fun r => (commonsBase + r.1 * 65536, r.2 * 65536))

/-- P0's regions of GDDR7 in units of 64 MiB: the region entries of R235, the 32 MiB shadow of the bitmaps (R172), and the granaries that
the module hosts (R349). -/
def State.firmwareUnits (s : State) : List (Nat × Nat) :=
  [regionPlace "region entries" none 1152, regionPlace "bitmap shadow" (some 1) 1152] ++
    ((List.range 4).filter (fun g => s.on (Reg.CKP_GRAN_EN g))).map (fun g => (s.rd (Reg.CKP_GRAN_BASE g) / 2 ^ 26, s.rd (Reg.CKP_GRAN_LEN g)))

/-- The pool cannot give partition `p` these grants (Table 6.1): a unit is another's or in a firmware region, or a pool is
exhausted. -/
def State.lacks (s : State) (p : Nat) (g : Grants) : Bool :=
  let others := s.parts.filter (fun e => e.1 != p && e.1 != 0)
  let sum := fun (f : Grants → Nat) => (others.map (fun e => f e.2.grants)).sum + f g
  others.any (fun e => g.clash e.2.grants || e.2.shrink.elim false (fun h => g.clash h)) ||
  (g.commonsLen != 0 && s.firmwareRegions.any (fun r => meets (commonsBase + g.commonsBase * 65536) (g.commonsLen * 65536) r.1 r.2)) ||
  g.segs.any (fun x => x.len != 0 && s.firmwareUnits.any (fun r => meets x.mbase x.len r.1 r.2)) ||
  decide (16384 < sum (·.qp)) || decide (16384 < sum (·.cq)) || decide (1024 < sum (·.blk)) || decide (1024 < sum (·.ciph)) ||
  decide (4096 < sum (·.keys)) || decide (4096 < sum (·.slices)) || decide (3200 < sum (·.guarantee)) ||
  (List.range 16).any (fun e => decide (64 < s.shareSum e - s.rd (Reg.ME_SHARE_SHARE e p) + g.share.getD e 0))

/-- A decrease of a count removes an enabled queue, a slot that holds a key, or an enabled slice (R163). -/
def State.stillUsed (s : State) (p : Nat) (g : Grants) : Bool :=
  s.queues.any (fun e => e.1 / 4096 / 4 == p && e.2.en && (
    let q := e.1 % 4096
    match e.1 / 4096 % 4 with
    | 0 | 1 => decide (g.qp ≤ q)
    | 2 => decide (g.cq ≤ q)
    | _ => if q < 2048 then decide (g.blk ≤ q) else decide (g.ciph ≤ q - 2048))) ||
  s.ciph.keys.any (fun e => e.1 / 512 == p && decide (g.keys ≤ e.1 % 512) && e.2.full) ||
  (List.range (s.part p).grants.slices).any (fun i => decide (g.slices ≤ i) && s.on (Reg.PART_SLICE_EN p i))

/-! ## Ending a command (R161, R164) -/

/-- A command of a partition ends with a result: PART_CMD_STATUS and CMD_DONE. A result other than OK restores the grant
registers. -/
def State.endCmd (s : State) (p code result : Nat) : State :=
  let t := s.when (result != 0) (fun t => t.restoreGrants p)
  let t := (((t.wr (Reg.PART_CMD_STATUS_BUSY p) 0).wr (Reg.PART_CMD_STATUS_DONE p) 1).wr (Reg.PART_CMD_STATUS_RESULT p) result).wr (Reg.PART_CMD_STATUS_CODE p) code
  t.partEvent p Reg.PART_EVENT_CMD_DONE

/-- States from which a command may run (Table 6.4). Codes 0x104, 0x10B and 0x20B are UNBIND_CTX, LOG_SWAP and LOG_STOP; 0x30B is a form
of 0x0B that the table does not have. -/
def fromStates (code : Nat) : List PartState :=
  match code with
  | 0x01 => [.free] | 0x02 => [.ready, .run, .frozen] | 0x03 => [.ready] | 0x04 | 0x104 => [.ready, .stopped] | 0x05 => [.ready, .stopped]
  | 0x06 => [.run] | 0x07 => [.frozen] | 0x08 => [.ready, .run, .freezing, .frozen] | 0x09 => [.run] | 0x0A => [.ready, .stopped, .fatal]
  | 0x0B | 0x10B | 0x20B | 0x30B => [.run, .freezing, .frozen] | 0x0C => [.frozen] | _ => [.ready]

/-- Context that PART_ARG names, none on an offline engine. -/
def State.argCtx (s : State) (arg : Nat) : Option Nat := (s.slotOf (bits arg 0 4)).map (fun ps => ps * 16 + bits arg 4 2 * 4 + bits arg 6 2)

/-- TC_CTX_BIND value of BIND_CTX: level P (PART_ARG). -/
def argBind (p arg : Nat) : Nat := p + 128 + bits arg 16 6 * 2 ^ 8 + bits arg 22 6 * 2 ^ 16

/-- Pages that the enabled logging ranges of a partition cover. -/
def State.logPages (s : State) (p : Nat) : Nat :=
  ((List.range 8).map (fun r => if s.on (Reg.PART_LOG_EN p r) then s.rd (Reg.PART_LOG_PAGES p r) + 1 else 0)).sum

/-- What the volumes of a partition are: number, block size, CAP, TRIM_ZERO, ENC (R302). -/
def State.ownVolumes (s : State) (p : Nat) : List (List Nat) :=
  (List.range 1024).filterMap (fun v =>
    if s.on (Reg.BLK_VOL_EN v) ∧ s.rd (Reg.BLK_VOL_PART v) = p then
      some [v, s.rd (Reg.BLK_VOL_BS v), s.rd (Reg.BLK_VOL_CAP v), s.rd (Reg.BLK_VOL_TRIM_ZERO v), s.rd (Reg.BLK_VOL_ENC v)]
    else none)

/-- Bound contexts of a partition as a blob names them: key, window base, window length. -/
def State.bindings (s : State) (p : Nat) : List (Nat × Nat × Nat) :=
  (s.ctxsOf p).map (fun c => (((s.engineOf (ctxSlot c)).getD 16) * 16 + c % 16, (s.ctxWindow c).1, (s.ctxWindow c).2))

/-- A blob does not fit its destination (R174, R302, R321). -/
def State.blobBad (s : State) (p : Nat) (b : Blob) : Bool :=
  let g := (s.part p).grants
  let h := b.grants
  decide (g.tsBase ≠ h.tsBase) || decide (g.tsLen ≠ h.tsLen) || decide (g.commonsBase ≠ h.commonsBase) || decide (g.commonsLen ≠ h.commonsLen) ||
  decide (g.segs.map (fun x => (x.pbase, x.len)) ≠ h.segs.map (fun x => (x.pbase, x.len))) ||
  decide ((g.qp, g.cq, g.blk, g.ciph, g.keys, g.slices) ≠ (h.qp, h.cq, h.blk, h.ciph, h.keys, h.slices)) ||
  !((b.ctxs.map (fun x => (x.key, x.base, x.size))).all (fun x => decide (x ∈ s.bindings p)) && b.ctxs.length == (s.bindings p).length) ||
  !(b.volumes.all (fun v => decide (v ∈ s.ownVolumes p))) ||
  (match s.exportKey p with
    | none => !b.keys.isEmpty || !b.partKey.isEmpty
    | some ek => b.keys.any (fun k => (kwUnwrap ek k.2).isNone) || (!b.partKey.isEmpty && (kwUnwrap ek b.partKey).isNone))

/-- Requests of a partition's function to the host wait for Bus Master Enable (R190). -/
def State.hostHeld (s : State) (p : Nat) : Bool :=
  s.on Reg.PCI_STATUS_LINK_UP && (s.funcOf p).elim false (fun f => !s.mayRequest f && !s.hostLooped f)

/-- The blob that a RESTORE finds at PART_MIG_ADDR: another module's, or one of this module's own (R174). -/
def State.restoreBlob (s : State) (x : PartCmd) : Option Blob :=
  if s.on Reg.PCI_STATUS_LINK_UP && (s.funcOf x.part).isSome then
    x.blob.orElse (fun _ => Tab.get none s.hostBlobs (s.rd (Reg.PART_MIG_ADDR_ADDR x.part) * 64))
  else none

/-- The Reeve's checks of a command in an allowed state: a result other than OK, or none. LOG_START while logging is on, and LOG_SWAP and
LOG_STOP while it is off, answer BAD_STATE (DESIGN CHOICE, notes/assumptions/49.md). -/
def State.cmdBad (s : State) (x : PartCmd) : Option Nat :=
  let p := x.part
  let g := s.writtenGrants p
  match x.code with
  | 0x01 => if g.bad then some 4 else if s.lacks p g then some 2 else none
  | 0x02 => if g.bad then some 4 else if s.lacks p g then some 2 else if s.stillUsed p g then some 1 else none
  | 0x03 =>
    let v := s.rd (Reg.PART_VF_VF p)
    if v = 0 ∨ 64 < v then some 4
    else if s.parts.any (fun e => e.1 != p && decide (e.2.vf = some v)) then some 2
    else if (s.part p).vf.isNone ∧ 63 ≤ (s.parts.filter (fun e => e.2.vf.isSome)).length then some 2
    else none
  | 0x04 =>
    match s.argCtx x.arg with
    | none => some 2
    | some c =>
      if 64 < bits x.arg 16 6 + bits x.arg 22 6 + 1 then some 4
      else if (s.ctxBound c && s.ctxPart c != p) || (!s.ctxBound c && decide (64 ≤ (s.ctxsOf p).length)) || s.bindBad c (argBind p x.arg) then some 2
      else none
  | 0x104 =>
    match s.argCtx x.arg with
    | none => some 4
    | some c => if s.ctxBound c ∧ s.ctxPart c = p then none else some 4
  | 0x0B => if (s.part p).logging then some 3 else if 2 ^ 28 < ((List.range 63).map (fun i => s.logPages (i + 1))).sum then some 2 else none
  | 0x10B | 0x20B => if (s.part p).logging then none else some 3
  | 0x0C => if (s.exportKey p).isNone then some 4 else none
  | 0x0D =>
    match s.restoreBlob x with
    | none => some 0xA
    | some b => if !x.digestOk then some 0xA else if x.major ≠ 1 ∨ 0 < x.minor then some 9 else if s.blobBad p b then some 4 else none
  | _ => if x.code ≤ 0x0D ∧ x.code ≠ 0 then none else some 4

/-- The Reeve's answer to the command at the head, unless it must wait for its edge (R161, R24). -/
def State.checkCmd (s : State) (x : PartCmd) : Option Nat :=
  if x.part = 0 ∨ !s.operational then some 5
  else if x.code % 256 = 0 ∨ 0x0D < x.code % 256 then some 4
  else if !(s.partState x.part ∈ fromStates x.code) then some 3
  else if x.tgt ∧ x.bell ≤ s.count then some 8
  else s.cmdBad x

/-- A command whose checks are passed waits for its edge before the rest `r`, with the grants, VF and blob that were checked (R160, R161). -/
def State.acceptCmd (s : State) (x : PartCmd) (r : List PartCmd) : State :=
  { s with partCmds := { x with checked := true, bell := if x.tgt then x.bell else s.count + 1, grants := s.writtenGrants x.part, vf := s.rd (Reg.PART_VF_VF x.part), blob := s.restoreBlob x } :: r }

/-- The commands at the head are checked in turn until one waits for its edge; during a Reeve reset they wait (R385), and a RESTORE whose
function may not read the host waits too (R190). `fuel` is
their number. -/
def State.pumpCmds (s : State) : Nat → State
  | 0 => s
  | fuel + 1 =>
    match s.partCmds with
    | [] => s
    | x :: r =>
      if x.checked || s.rd Reg.MGT_STATUS_STATE == 4 || (x.code == 0x0D && s.hostHeld x.part) then s
      else match s.checkCmd x with
        | some e => State.pumpCmds (({ s with partCmds := r }.when (e == 8) (fun t => t.missedTarget)).endCmd x.part (x.code % 256) e) fuel
        | none =>
          s.acceptCmd x r

/-- The command that a write of PART_CMD makes, with PART_ARG and the bell of PART_CMD_BELL (R160, Tables 6.3 and 6.4). -/
def State.newCmd (s : State) (p code : Nat) (tgt digestOk : Bool) (major minor : Nat) (blob : Option Blob) : PartCmd :=
  { part := p, code := code, tgt := tgt, bell := s.rd (Reg.PART_CMD_BELL_BELL p), grants := Grants.none, checked := false, digestOk := digestOk, major := major,
    minor := minor, blob := blob, vf := 0
    arg := s.rd (Reg.PART_ARG_ENGINE p) + s.rd (Reg.PART_ARG_CORE p) * 2 ^ 4 + s.rd (Reg.PART_ARG_CTX p) * 2 ^ 6 + s.rd (Reg.PART_ARG_BASE p) * 2 ^ 16 +
      s.rd (Reg.PART_ARG_SIZE p) * 2 ^ 22 + s.rd (Reg.PART_ARG_START_PC p) * 2 ^ 32 }

/-- A command is taken: BUSY, and last in the Reeve's order (R160, R161). -/
def State.takeCmd (s : State) (x : PartCmd) : State :=
  { (s.wr (Reg.PART_CMD_STATUS_BUSY x.part) 1) with partCmds := s.partCmds ++ [x] }

/-- A write of PART_CMD (R161, R164). -/
def State.partCmd (s : State) (p code : Nat) (tgt digestOk : Bool) (major minor : Nat) (blob : Option Blob) : State :=
  let x := s.newCmd p code tgt digestOk major minor blob
  if s.on (Reg.PART_CMD_STATUS_BUSY p) then
    match s.partCmds.find? (fun y => y.part == p) with
    | some y =>
      if code = 0x08 ∧ y.code ≠ 0x08 then
        let t := { s with partCmds := s.partCmds.filter (fun z => z.part != p) }.endCmd p (y.code % 256) 6
        let t := t.wr (Reg.PART_CMD_STATUS_BUSY p) 1
        let t := { t with partCmds := { x with tgt := false } :: t.partCmds }
        t.pumpCmds t.partCmds.length
      else s.partEvent p Reg.PART_EVENT_CMD_OVERRUN
    | none => s.partEvent p Reg.PART_EVENT_CMD_OVERRUN
  else
    let t := s.takeCmd x
    t.pumpCmds t.partCmds.length

/-! ## Doorbells (R165, R166, R240, R291) -/

/-- A doorbell's index taken by its queue: a producer index, or a completion queue's consumer index, which ends an outstanding
interrupt (R248). -/
def State.actDoorbell (s : State) (p cls q v : Nat) : State :=
  let r := s.queue p cls q
  if cls = 2 then s.setQueue p 2 q { r with ci := v, used := (r.pi + 65536 - v) % 65536, irqOut := r.irqOut && decide (v = r.ci) }
  else
    let t := s.setQueue p cls q { r with pi := v }
    if cls = 3 ∧ q < 2048 then
      { t with blk := { t.blk with bells := Tab.set [] t.blk.bells (qkey p 3 q) (Tab.get [] t.blk.bells (qkey p 3 q) ++ [(v, t.now)]) } }
    else t

/-- The latched doorbells of a partition in RUN are acted on, but those of host rings while it is quiesced (R166, R200). -/
def State.actLatched (s : State) (p : Nat) : State :=
  if s.partState p ≠ .run then s
  else (s.queues.filter (fun e => e.1 / 4096 / 4 == p && e.2.latched.isSome && !(s.quiesced p && decide (e.2.base < 2 ^ 63)))).foldl (fun t e =>
    let cls := e.1 / 4096 % 4
    let q := e.1 % 4096
    match (t.queue p cls q).latched with
    | none => t
    | some v => (t.setQueue p cls q { t.queue p cls q with latched := none }).actDoorbell p cls q v) s

/-- A doorbell discarded and counted (R165, R166). -/
def State.dropDoorbell (s : State) (p : Nat) : State := s.setPart p { s.part p with dropped := satAdd 32 (s.part p).dropped 1 }

/-- A doorbell write by its partition's state (R165, R166, R199). -/
def State.doorbell (s : State) (p cls q v : Nat) : State :=
  let r := s.queue p cls q
  if 65536 ≤ v ∨ !s.queueGranted p cls q ∨ !r.en then s.dropDoorbell p
  else match s.partState p with
    | .run => if s.quiesced p ∧ r.base < 2 ^ 63 then s.setQueue p cls q { r with latched := some v } else s.actDoorbell p cls q v
    | .ready | .freezing | .frozen => s.setQueue p cls q { r with latched := some v }
    | _ => s.dropDoorbell p

/-! ## Queue records (R165, Table 6.6) -/

/-- Bits of words 4 to 7 that the owning chapter makes writable (Tables 9.2 and 11.1, R309), and those reserved. -/
def recordMask (cls q word : Nat) : Nat :=
  match word, cls with
  | 4, 0 => 2 ^ 13 - 1
  | 4, 1 => 2 ^ 20 - 1
  | 4, 2 => 2 ^ 12 - 1
  | 4, _ => if q < 2048 then 2 ^ 14 - 1 else 2 ^ 12 - 1
  | 6, 0 => 2 ^ 32 - 1
  | _, _ => 0

/-- A record's queue reset by its owning chapter when EN is cleared (R248, R254, R299, R313; notes/assumptions/15.md). -/
def State.resetQueue (s : State) (p cls q st : Nat) : State :=
  let r := s.queue p cls q
  let off (t : State) : State := (t.dropEntry p cls q).setQueue p cls q { t.queue p cls q with en := false, latched := none }
  match cls with
  | 0 => s.flushSend p q
  | 1 => s.flushRecv p q
  | 2 => s.setQueue p 2 q { r.idle with oddPass := false, used := 0, overflow := false, irqOut := false }
  | _ => if q < 2048 then (off s).blkReset p q st false else (off s).cipherReset p (q - 2048)

/-- EN of a queue is cleared by a write of its record (R254, R299, R313). -/
def State.clearQueue (s : State) (p cls q : Nat) : State :=
  match cls with
  | 0 => s.clearSend p q
  | 1 => s.clearRecv p q
  | _ => s.resetQueue p cls q 4

/-- A set-up is invalid: LOG2N, a slice that is not enabled, a reserved field (Table 6.6); or the queue is still resetting
(R299, R313), which only discards it. -/
def State.setupBad (s : State) (p value : Nat) : Bool :=
  let n := bits value 0 5
  let sl := bits value 5 11
  decide (n < 4) || decide (16 < n) || bits value 17 15 != 0 ||
  !(sl == 0x7FF || (decide (sl < (s.part p).grants.slices) && s.on (Reg.PART_SLICE_EN p sl)))

/-- A record whose EN is set: its indices start at 0 and its phase at the first pass (R247). -/
def Queue.setUp (r : Queue) (logN slice w5 : Nat) : Queue :=
  { r with
    logN := logN, slice := slice, en := true, pi := 0, ci := 0, fetchAt := 0, oddPass := false, used := 0
    overflow := false, irqOut := false, w5 := w5 }

/-- The queue's reset has not ended: a request whose trigger was met still runs, or a fetched command or request has not ended (R254, R299,
R313). A write that sets EN is discarded. -/
def State.queueResetting (s : State) (p cls q : Nat) : Bool :=
  if cls = 3 then (if q < 2048 then s.blkResetting p q else s.ciResetting p (q - 2048)) else (s.queue p cls q).closing

/-- Commands or requests of a class 3 queue that were fetched and have not ended (R291, R308). -/
def State.outstanding (s : State) (p q : Nat) : Nat :=
  if q < 2048 then (s.blk.cmds.filter (fun d => d.part == p && d.queue == q)).length
  else (s.ciph.reqs.filter (fun r => r.part == p && r.queue == q - 2048)).length

/-- A write of one word of a queue record. -/
def State.writeRecord (s : State) (p cls q word value : Nat) : State :=
  let r := s.queue p cls q
  let v := value % 2 ^ 32
  if !s.queueGranted p cls q then s
  else match word with
    | 0 => if r.en then s else s.setQueue p cls q { r with base := setBits r.base 0 32 v }
    | 1 => if r.en then s else s.setQueue p cls q { r with base := setBits r.base 32 32 v }
    | 2 =>
      if r.en then if bit v 16 then s else s.clearQueue p cls q
      else if !bit v 16 then s.setQueue p cls q { r with logN := bits v 0 5, slice := bits v 5 11 }
      else if s.queueResetting p cls q then s
      else if s.setupBad p v then
        let t := s.setQueue p cls q { r with logN := bits v 0 5, slice := bits v 5 11 }
        t.setPart p { t.part p with rejected := satAdd 32 (t.part p).rejected 1 }
      else s.setQueue p cls q (r.setUp (bits v 0 5) (bits v 5 11) (if cls = 0 then r.w5 else 0))
    | 4 => s.setQueue p cls q { r with w4 := Nat.land v (recordMask cls q 4) }
    | 6 => s.setQueue p cls q { r with w6 := Nat.land v (recordMask cls q 6) }
    | _ => s

/-- A word of a queue record as a read shows it (Table 6.6); a queue that is not granted reads 0. -/
def State.recordWord (s : State) (p cls q word : Nat) : Nat :=
  let r := s.queue p cls q
  if !s.queueGranted p cls q then 0
  else match word with
    | 0 => r.base % 2 ^ 32
    | 1 => r.base / 2 ^ 32
    | 2 => r.logN + r.slice * 2 ^ 5 + b2n r.en * 2 ^ 16
    | 3 => r.pi % 2 ^ 16 + r.ci % 2 ^ 16 * 2 ^ 16
    | 4 =>
      if cls = 2 then r.w4 + b2n r.overflow * 2 ^ 12
      else if cls = 3 ∧ q < 2048 then r.w4 + b2n (s.queueResetting p 3 q) * 2 ^ 14
      else r.w4
    | 5 =>
      if cls ≠ 3 then r.w5
      else s.outstanding p q % 2 ^ 16 + (if q < 2048 then 0 else b2n (s.queueResetting p 3 q) * 2 ^ 16)
    | 6 => r.w6
    | _ => r.w7

/-! ## Slices (R170) -/

/-- A window of a slice beyond the partition's GDDR7: some 2 MiB unit of it is in no segment. -/
def State.sliceOutside (s : State) (p wbase wlen : Nat) : Bool :=
  (unitsOf (wbase * 0x200000) (wlen * 0x200000) (2 ^ 26)).any (fun b => (translate (s.bounds p).segs b).isNone)

/-- The fields of a slice taken from a written value, with EN (Table 6.7). -/
def State.putSlice (s : State) (p sl value en : Nat) : State :=
  (((s.wr (Reg.PART_SLICE_PASID p sl) (bits value 0 20)).wr (Reg.PART_SLICE_EN p sl) en).wr (Reg.PART_SLICE_WBASE p sl) (bits value 32 16)).wr
    (Reg.PART_SLICE_WLEN p sl) (bits value 48 16)

/-- A write of PART_SLICE (R170). -/
def State.writeSlice (s : State) (p sl value : Nat) : State :=
  if (s.part p).grants.slices ≤ sl then s
  else if s.on (Reg.PART_SLICE_EN p sl) then
    if bit value 20 ∨ s.queues.any (fun e => e.1 / 4096 / 4 == p && e.2.en && e.2.slice == sl) then s else s.putSlice p sl value 0
  else if !bit value 20 then s.putSlice p sl value 0
  else if s.sliceOutside p (bits value 32 16) (bits value 48 16) ||
      (List.range 1024).any (fun i => i != sl && s.on (Reg.PART_SLICE_EN p i) && s.rd (Reg.PART_SLICE_PASID p i) == bits value 0 20) then
    (s.putSlice p sl value 0).partEvent p Reg.PART_EVENT_SLICE_REJECT
  else s.putSlice p sl value 1

/-! ## Dirty-page logging (R171, R172) -/

/-- One bitmap word written from the shadow, with no PASID, relaxed ordering 0, and not logged itself. -/
def State.putBitmap (s : State) (p : Nat) (w : BitmapWrite) : State :=
  match s.funcOf p with
  | none => s
  | some f =>
    let a := s.rd (if w.mapB then Reg.PART_LOG_MAP_B p w.range else Reg.PART_LOG_MAP_A p w.range) + 8 * w.word
    if !s.on Reg.PCI_STATUS_LINK_UP then s.incSat Reg.PCI_DROPPED_COUNT 1
    else s.emit (.hostWrite f none a false (leBytes 8 (Tab.get 0 (s.part p).shadow (w.range * 2 ^ 22 + w.word))))

/-- The oldest bitmap word owed; with Bus Master Enable 0 it waits (R190). -/
def State.bitmapWrite (s : State) (p : Nat) : State :=
  match (s.part p).bitmapDue with
  | [] => s
  | w :: r => if s.hostHeld p then s else (s.putBitmap p w).setPart p { s.part p with bitmapDue := r }

/-- Every bitmap word of the ending generation issued (R172). -/
def State.flushBitmap (s : State) (p : Nat) : State :=
  let t := (s.part p).bitmapDue.foldl (fun t w => t.putBitmap p w) s
  t.setPart p { t.part p with bitmapDue := [] }

/-- Logging on or off, and the active bitmap, as PART_STATE shows them. -/
def State.setLogging (s : State) (p : Nat) (on b : Bool) : State :=
  ((s.setPart p { s.part p with logging := on, activeB := b, shadow := [] }).wr (Reg.PART_STATE_LOGGING p) (b2n on)).wr (Reg.PART_STATE_ACTIVE_B p) (b2n b)

/-! ## Discarding a partition's work (R164, R259, R302, R314) -/

/-- A queue whose unfetched entries and latched doorbell are gone. -/
def Queue.emptied (r : Queue) : Queue := { r with latched := none, fetchAt := r.pi }

/-- All work of a partition is discarded: contexts stop, MOPs and CPDs end with ABORTED, requests and commands go without CQEs
and bumps, connections are in RESET, checkpoints abort. -/
def State.stopWork (s : State) (p : Nat) : State :=
  let t := (s.ctxsOf p).foldl (fun t c => t.stopCtx c) s
  let t := t.each 16 (fun n t => t.onSlot n (fun ps => t.abortMops n ps p))
  let t := t.each 22 (fun u t => t.abortCpds u p)
  let t := (List.range 4).foldl (fun t k => if t.rd (Reg.CKP_CTRL_PART k) = p then t.ckpAbort k else t) t
  let t := (t.queues.filter (fun e => e.1 / 4096 == p * 4 + 3 && decide (e.1 % 4096 < 2048))).foldl (fun t e => t.blkReset p (e.1 % 4096) 4 true) t
  let t := t.cipherStop p
  let mine := fun (k : Nat) => k / 4096 == p
  let t : State := { t with
    wqes := t.wqes.filter (fun e => !mine e.1)
    recvs := t.recvs.filter (fun e => !mine e.1)
    queues := t.queues.foldl (fun m e => if e.1 / 4096 / 4 = p then Tab.set Queue.reset m e.1 e.2.emptied else m) t.queues
    fab := { t.fab with raws := t.fab.raws.filter (fun r => r.p != p), rawHeld := t.fab.rawHeld.filter (fun r => r.1 != p) }
    pci := { t.pci with heldReads := t.pci.heldReads.filter (fun r => r.1 != p || (match r.2.2.2.2 with
      | .cipher .. => true
      | _ => false)) }
    flt := { t.flt with
      mopLogs := Tab.filterAll t.flt.mopLogs (fun e => e.part != p)
      posted := Tab.filterAll t.flt.posted (fun e => e.part != p)
      snaps := t.flt.snaps.filter (fun e => !((t.slotOf (e.1 / 16)).elim false (fun ps => t.ctxPart (ps * 16 + e.1 % 16) == p && t.ctxBound (ps * 16 + e.1 % 16)))) } }
  let t := (t.conns.filter (fun e => e.2.part == p && decide (e.2.state ≠ .reset))).foldl (fun t e => (t.connReset e.1).wr (Reg.RKT_CONN_EN e.1) 0) t
  t.commitBells.each 16 (fun n t => t.tryResume n)

/-- A partition enters FATAL with the effects of STOP; a running command ends with FATAL (R164, R341). -/
def State.enterFatal (s : State) (p : Nat) : State :=
  if s.partState p = .free ∨ s.partState p = .fatal ∨ p = 0 then s
  else
    let t := (s.stopWork p).enterState p .fatal
    let t := match t.partCmds.find? (fun y => y.part == p) with
      | some y => { t with partCmds := t.partCmds.filter (fun z => z.part != p) }.endCmd p (y.code % 256) 7
      | none => t
    (t.partEvent p Reg.PART_EVENT_FATAL).pumpCmds t.partCmds.length

/-! ## Freezing (R162, R259, R302, R314) -/

/-- The partition's work has come to rest. -/
def State.atRest (s : State) (p : Nat) : Bool :=
  (s.ctxsOf p).all (fun c => !(s.ctx c).alive) &&
  s.slots.all (fun e => !e.2.queue.any (fun m => m.part == p)) && s.copies.all (fun e => !e.2.queue.any (fun d => d.part == p)) &&
  s.conns.all (fun e => e.2.part != p || (e.2.msgs.all (·.ended) && e.2.opens.isEmpty)) &&
  !s.blk.cmds.any (fun d => d.part == p) && !s.ciph.reqs.any (fun r => r.part == p) && !s.fab.raws.any (fun r => r.p == p) &&
  !s.pci.heldReqs.any (fun r => r.1 == p) && !s.pci.heldReads.any (fun r => r.1 == p) &&
  (match s.funcOf p with
    | none => true
    | some f => s.pci.reads.all (fun e => match e.2 with | some r => r.func != f | none => true))

/-- A freezing partition whose work has come to rest is FROZEN at this edge. -/
def State.tryFrozen (s : State) (p : Nat) : State :=
  if s.partState p = .freezing ∧ s.atRest p then
    (s.setPart p { s.part p with freezeAt := none, frozenBell := s.count }).enterState p .frozen
  else s

/-- FREEZE at edge F: contexts in a WAIT stop there. -/
def State.freeze (s : State) (p : Nat) : State :=
  let t := (s.setPart p { s.part p with freezeAt := some s.count }).enterState p .freezing
  let t := (t.ctxsOf p).foldl (fun t c => match (t.ctx c).run with
    | .waiting (.counter ..) since => t.freezeCtx c since
    | _ => t) t
  t.tryFrozen p

/-- THAW at edge T: frozen contexts go on with pb = T and a snapshot, requests a restore left running end with FLUSHED, latched
doorbells are acted on and met triggers fire (R162, R166, R254, R259, R332). -/
def State.thaw (s : State) (p : Nat) : State :=
  let t := s.enterState p .run
  let t := (t.ctxsOf p).foldl (fun t c =>
    let x := t.ctx c
    if x.frozen then ((t.ungate (coreBlock c)).setCtx c { x with frozen := false, run := .running, pb := BitVec.ofNat 64 t.count, cycle := x.cycle + BitVec.ofNat 64 (t.engClocks x.frozenAt t.now) }).takeSnap c else t) t
  let qs := (t.wqes.filter (fun e => e.1 / 4096 == p)).map (fun e => e.1 % 4096)
  let t := qs.foldl (fun t q =>
    let l := (t.wqesOf p q).map (fun w => if w.stage = .running then { w with stage := .finished 3 } else w)
    (t.setWqes p q l).postFront p q l.length) t
  let t := t.actLatched p
  let t := qs.foldl (fun t q => (t.fire p q 1 false).fire p q 2 false) t
  ((t.recvs.filter (fun e => e.1 / 4096 == p)).map (fun e => e.1 % 4096)).foldl (fun t q => (t.fire p q 1 true).fire p q 2 true) t

/-! ## Grants taken and changed (R158, R163, R281) -/

/-- New shares, queues and memory of a partition take effect. -/
def State.takeShares (s : State) (p : Nat) (g : Grants) : State :=
  s.each 16 (fun e t => if t.rd (Reg.ME_SHARE_SHARE e p) = g.share.getD e 0 then t else t.writeShare e p (g.share.getD e 0))

/-- CREATE: the memory is zeroed, the grants are taken, the seed base is PART_SEED, the buckets are empty, the partition key
is made (R158, R281, R320). -/
def State.createPart (s : State) (p : Nat) (g : Grants) : State :=
  let t := s.zero g.ranges (fun _ => false)
  let t : State := { t with
    counters := t.counters.filter (fun e => e.1 / 65536 != p)
    regions := t.regions.filter (fun e => e.1 / 2 ^ 18 != p)
    ciph := { t.ciph with keys := t.ciph.keys.filter (fun e => e.1 / 512 != p) }
    fab := { t.fab with gTokens := Tab.set 0 t.fab.gTokens p 0, cTokens := Tab.set 0 t.fab.cTokens p 0 } }
  let t := t.setPart p { Part.reset with grants := g, vf := (t.part p).vf }
  ((t.takeShares p g).makePartKey p).packKeys.enterState p .ready

/-- Some operation of the partition accepted before bell `k`, block-service command `blk` or cipher request `ciph` is outstanding; a
transport request counts from its fetch (R163). -/
def State.workBefore (s : State) (p k blk ciph : Nat) : Bool :=
  let old (since : Nat) : Bool := decide (since < k)
  s.slots.any (fun e => e.2.queue.any (fun m => m.part == p && old m.since)) || s.copies.any (fun e => e.2.queue.any (fun d => d.part == p && old d.since)) ||
  (s.wqes ++ s.recvs).any (fun e => e.1 / 4096 == p && e.2.any (fun w => old w.since)) ||
  s.conns.any (fun e => e.2.part == p && (e.2.msgs.any (fun m => !m.ended && old m.since) || e.2.opens.any (fun m => old m.since))) ||
  s.fab.raws.any (fun r => r.p == p && old r.since) ||
  s.blk.cmds.any (fun d => d.part == p && decide (d.id < blk)) || s.ciph.reqs.any (fun r => r.part == p && decide (r.id < ciph))

/-- Some operation of the partition accepted before the decrease's edge is outstanding (R163). -/
def State.oldWork (s : State) (p : Nat) : Bool := s.workBefore p (s.part p).shrinkAt (s.part p).shrinkBlk (s.part p).shrinkCiph

/-- A decrease takes effect: the removed bytes are zeroed (R163). -/
def State.settleShrink (s : State) (p : Nat) : State :=
  match (s.part p).shrink with
  | none => s
  | some g => if s.oldWork p then s else (s.zero (s.part p).grants.ranges (inRanges g.ranges)).setPart p { s.part p with grants := g, shrink := none }

/-- GRANT: increases are zeroed and taken, counts and shares change, a decrease of memory waits for earlier work (R163). -/
def State.changeGrants (s : State) (p : Nat) (g0 : Grants) : State :=
  let x := s.part p
  let old := x.grants
  let g := if x.state = .ready then g0 else { g0 with seed := old.seed }
  let t := s.zero g.ranges (fun a => inRanges old.ranges a || inRanges (s.bounds p).ranges a)
  let x1 : Part := { x with
    grants := { g with tsBase := old.tsBase, tsLen := old.tsLen, segs := old.segs, commonsBase := old.commonsBase, commonsLen := old.commonsLen }
    shrink := some g, shrinkAt := s.count, shrinkBlk := s.blk.nextId, shrinkCiph := s.ciph.nextId }
  (((t.setPart p x1).takeShares p g).eraseSlots p (min old.keys g.keys)).packKeys.settleShrink p

/-! ## Saving and restoring (R173, R174, R259, R302, R321) -/

/-- The blob of a frozen partition. -/
def State.makeBlob (s : State) (p : Nat) : Blob :=
  let ek := (s.exportKey p).getD []
  { frozenBell := (s.part p).frozenBell
    grants := (s.part p).grants
    ctxs := (s.ctxsOf p).map (fun c =>
      { key := ((s.engineOf (ctxSlot c)).getD 16) * 16 + c % 16, ctx := s.ctx c, base := (s.ctxWindow c).1, size := (s.ctxWindow c).2
        bytes := match s.windowRange c with
          | [] => []
          | r :: _ => (s.mem.filter (fun e => decide (r.1 ≤ e.1) && decide (e.1 < r.1 + r.2))).map (fun e => (e.1 - r.1, e.2)) })
    queues := (s.queues.filter (fun e => e.1 / 4096 / 4 == p)).map (fun e => (e.1 % 16384, e.2))
    counters := (s.counters.filter (fun e => e.1 / 65536 == p)).map (fun e => (e.1 % 65536, e.2))
    slices := (List.range (s.part p).grants.slices).map (fun i =>
      (i, [s.rd (Reg.PART_SLICE_PASID p i), s.rd (Reg.PART_SLICE_EN p i), s.rd (Reg.PART_SLICE_WBASE p i), s.rd (Reg.PART_SLICE_WLEN p i)]))
    regions := (s.regions.filter (fun e => e.1 / 2 ^ 18 == p)).map (fun e => (e.1 % 2 ^ 18, e.2))
    wqes := (s.wqes.filter (fun e => e.1 / 4096 == p)).map (fun e => (e.1 % 4096, e.2))
    recvs := (s.recvs.filter (fun e => e.1 / 4096 == p)).map (fun e => (e.1 % 4096, e.2))
    bells := (s.blk.bells.filter (fun e => e.1 / 4096 / 4 == p)).map (fun e => (e.1 % 16384, e.2))
    promoted := (s.blk.promoted.filter (fun e => e.1 / 4096 / 4 == p)).map (fun e => (e.1 % 16384, e.2))
    volumes := s.ownVolumes p
    keys := (s.ciph.keys.filter (fun e => e.1 / 512 == p && e.2.full)).map (fun e => (e.1 % 512, kwWrap ek e.2.text))
    partKey := ((s.partKey p).map (fun k => kwWrap ek k)).getD []
    logs := (List.range 8).map (fun r => [s.rd (Reg.PART_LOG_START p r), s.rd (Reg.PART_LOG_PAGES p r), s.rd (Reg.PART_LOG_PASID p r),
      s.rd (Reg.PART_LOG_HAS_PASID p r), s.rd (Reg.PART_LOG_EN p r), s.rd (Reg.PART_LOG_MAP_A p r), s.rd (Reg.PART_LOG_MAP_B p r)])
    logging := (s.part p).logging
    activeB := (s.part p).activeB
    vf := [s.rd (Reg.PART_VF_VF p), s.rd (Reg.PART_VF_BOUND p)]
    turns := (s.blk.lastQueue.filter (fun e => e.1 % 64 == p)).map (fun e => (e.1 / 64, e.2)) }

/-- Section 0x08: an entry of 88 bytes for each slot that holds a key, then the wrapped partition key (R321). -/
def Blob.keyBytes (b : Blob) : List Nat :=
  (b.keys.map (fun k => leBytes 2 k.1 ++ List.replicate 6 0 ++ k.2)).flatten ++ b.partKey

/-- The sections of a blob, by type, each within its bound (Table 6.8); the spec lays out only the key slots. -/
def Blob.sections (b : Blob) : List (Nat × List Nat) :=
  ([4096, 64 * 260 * 1024, 512 * 1024, 4096, 8192, 8 * 2 ^ 20, 2 ^ 20, 65536, 2 * 2 ^ 20, 256].zipIdx 1).map (fun e =>
    (e.2, (if e.2 = 8 then b.keyBytes else (Config.blobSection b e.2).map (·.toNat)).take e.1))

/-- The section table, sections following one another from offset `off`: 16 bytes each, whose division the spec leaves open
(notes/assumptions/20.md). -/
def blobTable : List (Nat × List Nat) → Nat → List Nat
  | [], _ => []
  | x :: r, off => leBytes 16 (Config.blobEntry x.1 off x.2.length) ++ blobTable r (off + x.2.length)

/-- The bytes of a blob (R173): header, section table, sections, and the SHA3-256 digest of them. -/
def Blob.bytes (b : Blob) : List Nat :=
  let secs := b.sections
  let body := blobTable secs (64 + 16 * secs.length) ++ (secs.map (·.2)).flatten
  let head := [0x4C, 0x44, 0x58, 0x42, 0, 0, 1, 0] ++ leBytes 4 (64 + body.length + 32) ++ leBytes 4 secs.length ++ leBytes 8 b.frozenBell ++ List.replicate 40 0
  head ++ body ++ sha3 (head ++ body)

/-- SAVE at its edge: the blob goes to the host when the buffer holds it, and its length to PART_MIG_LEN; else, and without a VF whose
request it could be, NO_RESOURCE (R173, notes/assumptions/20.md). -/
def State.savePart (s : State) (p : Nat) : State × Nat :=
  let b := s.makeBlob p
  let a := s.rd (Reg.PART_MIG_ADDR_ADDR p) * 64
  if (s.exportKey p).isNone then (s, 4)
  else if (s.funcOf p).isNone ∨ s.rd (Reg.PART_MIG_LEN_LEN p) < b.bytes.length then (s, 2)
  else
    let t := s.hostWrite p none a true b.bytes
    let t : State := if s.on Reg.PCI_STATUS_LINK_UP then { t with hostBlobs := Tab.set none t.hostBlobs a (some b) } else t
    (t.wr (Reg.PART_MIG_LEN_LEN p) b.bytes.length, 0)

/-- RESTORE at its edge: the saved contexts, records, counters, slices, regions, requests, keys and ranges are in place, every
connection is in RESET, and the partition is FROZEN. The partition keeps its own seed base, shares, fabric grant and VF; those saved in
section 0x01 are not put back (DESIGN CHOICE, notes/assumptions/20.md). -/
def State.restorePart (s : State) (p : Nat) (b : Blob) : State :=
  let t := (s.conns.filter (fun e => e.2.part == p && decide (e.2.state ≠ .reset))).foldl (fun t e => (t.connReset e.1).wr (Reg.RKT_CONN_EN e.1) 0) s
  let t := b.ctxs.foldl (fun t x =>
    match t.slotOf (x.key / 16) with
    | none => t
    | some ps =>
      let c := ps * 16 + x.key % 16
      let t := t.setCtx c x.ctx
      match t.windowRange c with
      | [] => t
      | r :: _ => (t.zero [r] (fun _ => false)).setCells (x.bytes.map (fun e => (r.1 + e.1, e.2.toNat)))) t
  let t := b.slices.foldl (fun t e =>
    (((t.wr (Reg.PART_SLICE_PASID p e.1) (e.2.getD 0 0)).wr (Reg.PART_SLICE_EN p e.1) (e.2.getD 1 0)).wr (Reg.PART_SLICE_WBASE p e.1) (e.2.getD 2 0)).wr
      (Reg.PART_SLICE_WLEN p e.1) (e.2.getD 3 0)) t
  let t := b.logs.zipIdx.foldl (fun (t : State) e =>
    (([Reg.PART_LOG_START p e.2, Reg.PART_LOG_PAGES p e.2, Reg.PART_LOG_PASID p e.2, Reg.PART_LOG_HAS_PASID p e.2, Reg.PART_LOG_EN p e.2, Reg.PART_LOG_MAP_A p e.2,
      Reg.PART_LOG_MAP_B p e.2].zip e.1).foldl (fun (t : State) f => t.wr f.1 f.2) t)) t
  let ek := (t.exportKey p).getD []
  let t := b.keys.foldl (fun t k => match kwUnwrap ek k.2 with
    | some x => t.setKeySlot p k.1 (KeySlot.ofText (t.keySlot p k.1).era x)
    | none => t) t
  let t := match kwUnwrap ek b.partKey with
    | some k => ({ t with ciph := { t.ciph with partKeys := Tab.set none t.ciph.partKeys p (some k) } }).wr (Reg.CIPH_PART_PK_SET p) 1
    | none => t
  let put {α : Type} [DecidableEq α] (d : α) (m l : Tab α) (k : Nat) : Tab α := l.foldl (fun m e => Tab.set d m (k + e.1) e.2) m
  let t : State := { t with
    queues := put Queue.reset t.queues b.queues (p * 16384)
    counters := put 0 t.counters b.counters (p * 65536)
    regions := put Region.reset t.regions b.regions (p * 2 ^ 18)
    wqes := put [] t.wqes b.wqes (p * 4096)
    recvs := put [] t.recvs b.recvs (p * 4096)
    blk := { t.blk with
      bells := put [] t.blk.bells b.bells (p * 16384), promoted := put [] t.blk.promoted b.promoted (p * 16384)
      lastQueue := b.turns.foldl (fun m e => Tab.set 4096 m (e.1 % 4 * 64 + p) e.2) t.blk.lastQueue } }
  (((t.setPart p { t.part p with frozenBell := b.frozenBell }).setLogging p b.logging b.activeB)).enterState p .frozen

/-! ## A command at its edge (R161, Table 6.4) -/

/-- A context bound by BIND_CTX (R158). -/
def State.bindArg (s : State) (p arg : Nat) : State :=
  match s.argCtx arg with
  | none => s
  | some c =>
    (s.rebind c (argBind p arg)).wr (Reg.TC_CTX_PC_START_PC (ctxSlot c) (ctxCore c) (ctxIdx c)) (bits arg 32 16)

/-- A context unbound: its binding, start address and registers are cleared, its window is zeroed. -/
def State.unbind (s : State) (c : Nat) : State :=
  ((s.rebind c 0).wr (Reg.TC_CTX_PC_START_PC (ctxSlot c) (ctxCore c) (ctxIdx c)) 0).setCtx c Ctx.reset

/-- DESTROY: VF and contexts unbound, keys erased, every resource returned zeroed (R158, R161, R317). -/
def State.destroyPart (s : State) (p : Nat) : State :=
  let t := s.stopWork p
  let t := (t.ctxsOf p).foldl (fun t c => t.unbind c) t
  let g := (t.part p).grants
  let t := (t.zero (g.ranges ++ (t.bounds p).ranges) (fun _ => false)).dropKeys p
  let t := t.takeShares p Grants.none
  let t := t.enterState p .free
  let t := (t.setPart p Part.reset).wr (Reg.PART_VF_BOUND p) 0
  let t := (t.wr (Reg.PART_STATE_LOGGING p) 0).wr (Reg.PART_STATE_ACTIVE_B p) 0
  let t : State := { t with
    counters := t.counters.filter (fun e => e.1 / 65536 != p)
    regions := t.regions.filter (fun e => e.1 / 2 ^ 18 != p)
    pci := { t.pci with heldReqs := t.pci.heldReqs.filter (fun r => r.1 != p), heldReads := t.pci.heldReads.filter (fun r => r.1 != p) }
    queues := t.queues.filter (fun e => e.1 / 4096 / 4 != p) }
  (t.each g.slices (fun i t => (((t.wr (Reg.PART_SLICE_PASID p i) 0).wr (Reg.PART_SLICE_EN p i) 0).wr (Reg.PART_SLICE_WBASE p i) 0).wr (Reg.PART_SLICE_WLEN p i) 0)).packKeys

/-- The effect of a checked command, and its result. FREEZE is done, with OK, at its edge F; FROZEN comes when all is at rest (DESIGN
CHOICE, notes/assumptions/49.md). -/
def State.applyCmd (s : State) (x : PartCmd) : State × Nat :=
  let p := x.part
  match x.code with
  | 0x01 => (s.createPart p x.grants, 0)
  | 0x02 => (s.changeGrants p x.grants, 0)
  | 0x03 => ((s.setPart p { s.part p with vf := some x.vf }).wr (Reg.PART_VF_BOUND p) 1, 0)
  | 0x04 => (s.bindArg p x.arg, 0)
  | 0x104 => ((s.argCtx x.arg).elim s (fun c => s.unbind c), 0)
  | 0x05 => (((s.ctxsOf p).foldl (fun t c => t.startTc c) (s.enterState p .run)).actLatched p, 0)
  | 0x06 => (s.freeze p, 0)
  | 0x07 => (s.thaw p, 0)
  | 0x08 => ((s.stopWork p).enterState p .stopped, 0)
  | 0x09 =>
    let t := s.when (bit x.arg 0) (fun t => t.each 16 (fun n t => t.onSlot n (fun ps => t.abortMops n ps p)))
    ((t.when (bit x.arg 1) (fun t => t.each 22 (fun u t => t.abortCpds u p))).commitBells, 0)
  | 0x0A => (s.destroyPart p, 0)
  | 0x0B => (s.setLogging p true false, 0)
  | 0x10B => ((s.flushBitmap p).setLogging p true (!(s.part p).activeB), 0)
  | 0x20B => ((s.flushBitmap p).setLogging p false (s.part p).activeB, 0)
  | 0x0C => s.savePart p
  | _ => match x.blob with
    | some b => (s.restorePart p b, 0)
    | none => (s, 0xA)

/-- The window of a context of the partition loses bytes when it is bound anew, or unbound. -/
def State.windowShrinks (s : State) (x : PartCmd) : Bool :=
  (s.argCtx x.arg).elim false (fun c => s.ctxBound c && (x.code == 0x104 ||
    decide ((s.ctxWindow c).1 < bits x.arg 16 6 * 4096) ||
    decide ((bits x.arg 16 6 + bits x.arg 22 6 + 1) * 4096 < (s.ctxWindow c).1 + (s.ctxWindow c).2)))

/-- A command at its edge waits on: DESTROY for the partition's fetched block-service commands (R302); a window's decrease for its
outstanding work, and a GRANT for the decrease of an earlier one (R163); SAVE, and LOG_SWAP and LOG_STOP with bitmap words to write, for
Bus Master Enable (R172, R190) (notes/assumptions/20.md). -/
def State.cmdWaits (s : State) (x : PartCmd) : Bool :=
  match x.code with
  | 0x0A => s.blk.cmds.any (fun d => d.part == x.part)
  | 0x02 => (s.part x.part).shrink.isSome
  | 0x04 | 0x104 => s.windowShrinks x && s.workBefore x.part (s.count + 1) s.blk.nextId s.ciph.nextId
  | 0x0C => s.hostHeld x.part
  | 0x10B | 0x20B => s.hostHeld x.part && !(s.part x.part).bitmapDue.isEmpty
  | _ => false

/-- PART_CMD_EDGE: the checked command at the head takes effect at its edge, or once it need not wait; its state may have changed since
it was checked. -/
def State.cmdEdge (s : State) : State :=
  match s.partCmds with
  | [] => s
  | x :: r =>
    if !x.checked ∨ s.count < x.bell then s
    else if s.cmdWaits x then s
    else
      let t := { s with partCmds := r }
      let u := if s.partState x.part ∈ fromStates x.code then t.applyCmd x else (t, 3)
      let v := u.1.endCmd x.part (x.code % 256) u.2
      v.pumpCmds v.partCmds.length

/-! ## Meanings -/

/-- CREATE (R161). -/
def execCreate (p : Nat) (tgt : Bool) (s : State) : Host.Outcome State Fault Refusal := s.fromPf 4 (s.guarded (p < 64) (s.partCmd p 0x01 tgt false 0 0 none))
/-- GRANT (R163). -/
def execGrant (p : Nat) (tgt : Bool) (s : State) : Host.Outcome State Fault Refusal := s.fromPf 4 (s.guarded (p < 64) (s.partCmd p 0x02 tgt false 0 0 none))
/-- BIND_VF (R161). -/
def execBindVf (p : Nat) (tgt : Bool) (s : State) : Host.Outcome State Fault Refusal := s.fromPf 4 (s.guarded (p < 64) (s.partCmd p 0x03 tgt false 0 0 none))
/-- BIND_CTX (R161). -/
def execBindCtx (p : Nat) (tgt : Bool) (s : State) : Host.Outcome State Fault Refusal := s.fromPf 4 (s.guarded (p < 64) (s.partCmd p 0x04 tgt false 0 0 none))
/-- UNBIND_CTX (R161). -/
def execUnbindCtx (p : Nat) (tgt : Bool) (s : State) : Host.Outcome State Fault Refusal := s.fromPf 4 (s.guarded (p < 64) (s.partCmd p 0x104 tgt false 0 0 none))
/-- START (R161). -/
def execStart (p : Nat) (tgt : Bool) (s : State) : Host.Outcome State Fault Refusal := s.fromPf 4 (s.guarded (p < 64) (s.partCmd p 0x05 tgt false 0 0 none))
/-- FREEZE (R162). -/
def execFreeze (p : Nat) (tgt : Bool) (s : State) : Host.Outcome State Fault Refusal := s.fromPf 4 (s.guarded (p < 64) (s.partCmd p 0x06 tgt false 0 0 none))
/-- THAW (R162). -/
def execThaw (p : Nat) (tgt : Bool) (s : State) : Host.Outcome State Fault Refusal := s.fromPf 4 (s.guarded (p < 64) (s.partCmd p 0x07 tgt false 0 0 none))
/-- STOP (R164). -/
def execStop (p : Nat) (tgt : Bool) (s : State) : Host.Outcome State Fault Refusal := s.fromPf 4 (s.guarded (p < 64) (s.partCmd p 0x08 tgt false 0 0 none))
/-- RESET_WORK (R161). -/
def execResetWork (p : Nat) (tgt : Bool) (s : State) : Host.Outcome State Fault Refusal := s.fromPf 4 (s.guarded (p < 64) (s.partCmd p 0x09 tgt false 0 0 none))
/-- DESTROY (R161). -/
def execDestroy (p : Nat) (tgt : Bool) (s : State) : Host.Outcome State Fault Refusal := s.fromPf 4 (s.guarded (p < 64) (s.partCmd p 0x0A tgt false 0 0 none))
/-- LOG_START (R171). -/
def execLogStart (p : Nat) (tgt : Bool) (s : State) : Host.Outcome State Fault Refusal := s.fromPf 4 (s.guarded (p < 64) (s.partCmd p 0x0B tgt false 0 0 none))
/-- LOG_SWAP (R171). -/
def execLogSwap (p : Nat) (tgt : Bool) (s : State) : Host.Outcome State Fault Refusal := s.fromPf 4 (s.guarded (p < 64) (s.partCmd p 0x10B tgt false 0 0 none))
/-- LOG_STOP (R171). -/
def execLogStop (p : Nat) (tgt : Bool) (s : State) : Host.Outcome State Fault Refusal := s.fromPf 4 (s.guarded (p < 64) (s.partCmd p 0x20B tgt false 0 0 none))
/-- SAVE (R173). -/
def execSave (p : Nat) (tgt : Bool) (s : State) : Host.Outcome State Fault Refusal := s.fromPf 4 (s.guarded (p < 64) (s.partCmd p 0x0C tgt false 0 0 none))
/-- RESTORE (R174): the blob and its version are what the read finds. -/
def execRestore (p : Nat) (tgt : Bool) (blob : BlobRead) (major minor : Nat) (s : State) : Host.Outcome State Fault Refusal :=
  s.fromPf 4 (s.guarded (p < 64) (s.partCmd p 0x0D tgt blob.digestOk major minor blob.foreign))

/-- PART_CMD_EDGE (R161). -/
def execPartCmdEdge (s : State) : Host.Outcome State Fault Refusal := .next s.cmdEdge

/-- FREEZE_SLOW (R162): FROZEN has not been reached PART_LIMITS.FREEZE bells after F; the partition stays FREEZING. -/
def execFreezeSlow (p : Nat) (s : State) : Host.Outcome State Fault Refusal :=
  s.guarded (p < 64) (match s.partState p, (s.part p).freezeAt with
    | .freezing, some f => if f + s.rd (Reg.PART_LIMITS_FREEZE p) ≤ s.count then s.partEvent p Reg.PART_EVENT_FREEZE_SLOW else s
    | _, _ => s)

/-- DOORBELL (R165). -/
def execDoorbell (p cls q value : Nat) (s : State) : Host.Outcome State Fault Refusal :=
  s.guarded (p < 64 && cls < 4 && q < 4096) (s.doorbell p cls q value)

/-- QUEUE_RECORD_WRITE (R165). -/
def execQueueRecordWrite (p cls q word value : Nat) (s : State) : Host.Outcome State Fault Refusal :=
  s.fromPf 4 (s.guarded (p < 64 && cls < 4 && q < 4096 && word < 8) (s.writeRecord p cls q word value))

/-- SLICE_WRITE (R170). -/
def execSliceWrite (p sl value : Nat) (s : State) : Host.Outcome State Fault Refusal := s.fromPf 4 (s.guarded (p < 64 && sl < 1024) (s.writeSlice p sl value))

/-- BITMAP_WRITE (R172). -/
def execBitmapWrite (p : Nat) (s : State) : Host.Outcome State Fault Refusal := s.guarded (p < 64) (s.bitmapWrite p)

end Sys2Proof.Machine
end

