-- ==== Sys2Proof/Machine/Pcie.lean ====
section
/-! DEFINITION. The host endpoint (chapter 07): completions of the module's reads (R185 to R187), errors (R188, R189), Bus
Master Enable (R190), resets (R191 to R194), configuration requests (R179, R180, R196), and the host driver (R197 to R200). -/

namespace Sys2Proof.Machine

/-! ## What an outstanding read brings (R183, R185) -/

/-- The entry that a read of a queue's ring brought, or whose read failed, is taken where the queue may still take it (R185, R240). -/
def State.takeEntry (s : State) (p cls q : Nat) (w : List Nat) (fail : Option Bool) : State :=
  if !s.mayTake p cls q then s
  else match cls with
    | 0 => s.takeWqe p q w fail
    | 1 => s.takeRecv p q w fail
    | _ => if q < 2048 then s.takeBsc p q w [] fail else s.takeCipher p (q - 2048) w fail

/-- Bytes of a read reach its operation, from the read's byte `got` on. -/
def State.readData (s : State) (use : ReadFor) (got : Nat) (bs : List Nat) : State :=
  match use with
  | .message c msn o =>
    let x := s.conn c
    (s.setConn c { x with msgs := x.msgs.map (fun m => if m.msn == msn then { m with data := overlay m.data (o + got) bs, missing := m.missing - bs.length } else m) }).settleInvals x.part
  | .raw p q idx firing o =>
    match s.fab.raws.find? (fun r => r.p == p && r.q == q && r.idx == idx && r.firing == firing) with
    | none => s
    | some r =>
      let r1 := { r with bytes := overlay r.bytes (o + got) bs, missing := r.missing - bs.length }
      let others := s.fab.raws.filter (fun e => e != r)
      if r1.missing = 0 then ({ s with fab := { s.fab with raws := others } } : State).launchRaw p q idx firing r.port r.cls r1.bytes
      else { s with fab := { s.fab with raws := others ++ [r1] } }
  | .block cmd o => s.blkHostData cmd (o + got) bs
  | .entry _ _ _ => s
  | .restore k o => s.restoreData k (o + got) bs
  | .cipher req o => s.cipherHostData req (o + got) bs
  | .gone _ => s

/-- The operation that made a read ends with the host-access error of its owning chapter (R185, R187, R193). -/
def State.readFailed (s : State) (use : ReadFor) : State :=
  match use with
  | .message c msn _ =>
    match (s.conn c).msgs.find? (fun m => m.msn == msn && m.missing != 0) with
    | none => s
    | some m => if m.owner = .response then s.nak2 c 7 c else (s.withdrawMsg c m).endOwner m.owner 8 0
  | .raw p q idx firing _ =>
    ({ s with fab := { s.fab with raws := s.fab.raws.filter (fun r => !(r.p == p && r.q == q && r.idx == idx && r.firing == firing)) } } : State).endWqe p q idx firing 8 0
  | .block cmd _ => s.blkHostFail cmd
  | .cipher req _ => s.cipherHostFail req
  | .entry p cls q => s.takeEntry p cls q (List.replicate 16 0) (some false)
  | .restore k _ => s.restoreFail k
  | .gone _ => s

/-- The read of a tag is outstanding no more. -/
def State.freeRead (s : State) (tag : Nat) : State := { s with pci := { s.pci with reads := Tab.set none s.pci.reads tag none } }

/-- A tag in quarantine from now on (R185, R193). -/
def State.quarantineTag (s : State) (tag func : Nat) (orphan : Bool) : State :=
  let q : Quarantine := { endsAt := s.now + s.rd Reg.PCI_CPL_CFG_QUAR * cplTimer s.pci.cplTimeout, orphan := orphan, func := func }
  { s with pci := { s.pci with quarantine := Tab.set none s.pci.quarantine tag (some q) } }

/-! ## Requests that were held (R181, R190) -/

/-- Held writes go out in order where they now may; while the link is down they are discarded and counted (R194). -/
def State.sendHeldWrites (s : State) : State :=
  s.pci.heldReqs.foldl (fun (t : State) h =>
    match h.2 with
    | .hostWrite f pasid a _ bs =>
      if !t.on Reg.PCI_STATUS_LINK_UP then t.incSat Reg.PCI_DROPPED_COUNT 1
      else if t.mayRequest f then (t.logWrite h.1 pasid a bs.length).emit h.2
      else { t with pci := { t.pci with heldReqs := t.pci.heldReqs ++ [h] } }
    | _ => t) { s with pci := { s.pci with heldReqs := [] } }

/-- Held reads are made in order where they now may. -/
def State.sendHeldReads (s : State) : State :=
  s.pci.heldReads.foldl (fun (t : State) h => t.hostRead h.1 h.2.1 h.2.2.1 h.2.2.2.1 h.2.2.2.2) { s with pci := { s.pci with heldReads := [] } }

/-- Pending interrupts of a function that may now be sent are (R182, R190). -/
def State.sendPending (s : State) (func : Nat) : State :=
  (s.pci.vectors.filter (fun e => e.1 / 4096 == func && e.2.pending && !e.2.masked)).foldl (fun t e => t.sendMsix func (e.1 % 4096)) s

/-- A function may request again: what was held goes out, and a RESTORE that waited is checked. -/
def State.releaseFunc (s : State) (func : Nat) : State :=
  let t := s.sendHeldWrites.sendHeldReads.sendPending func
  let t := ((t.regions.filter (fun e => e.2.inval != [])).map (fun e => e.1 / 2 ^ 18)).eraseDups.foldl (fun t p => t.settleInvals p) t
  t.pumpCmds t.partCmds.length

/-! ## Completions (R185 to R187) -/

/-- An Advisory Non-Fatal report with its header: its message is a correctable one (Table 7.6, the base specification). -/
def State.advisory (s : State) (func : Nat) (err : String) (header : List Nat) : State :=
  (s.aerAs func err (some header) true).aer func "Advisory Non-Fatal Error" none

/-- A late or stray completion (R186); after a function-level reset an orphan's is not reported (R193). -/
def State.lateCompletion (s : State) (func : Nat) (orphan : Bool) (header : List Nat) : State :=
  ((s.when (!orphan) (fun t => t.advisory func "Unexpected Completion" header)).incSat Reg.PCI_CPL_STATS_LATE 1).pciEvent Reg.PCI_EVENT_LATE_CPL

/-- A completion of a read: used, or discarded as late, stray, errored or poisoned; the loop buffer's bytes for a looped
function (R416). -/
def State.completion (s : State) (func tag status : Nat) (poisoned : Bool) (data header : List Nat) : State :=
  match Tab.get none s.pci.quarantine tag, Tab.get none s.pci.reads tag with
  | some q, _ => s.lateCompletion q.func q.orphan header
  | none, none => s.lateCompletion func false header
  | none, some r =>
    let loop := s.hostLooped r.func
    let data := if loop then (List.range (r.len - r.got)).map (fun i => (Tab.get (0 : Byte) s.tst.loopBytes (hostLoopCell (r.addr + r.got + i))).toNat) else data
    let poisoned := poisoned && !loop
    let status := if loop then 0 else status
    if poisoned then (((s.freeRead tag).readFailed r.use).advisory r.func "Poisoned TLP Received" header).sendHeldReads
    else if status ≠ 0 then (((s.freeRead tag).readFailed r.use).pciEvent Reg.PCI_EVENT_CPL_ERR).sendHeldReads
    else
      let bs := (data.take (r.len - r.got)).map (· % 256)
      if r.len ≤ r.got + bs.length then
        let t := s.freeRead tag
        (match r.use with
          | .entry p cls q =>
            let all := r.data ++ bs
            t.takeEntry p cls q ((List.range 16).map (fun i => leNat ((all.drop (4 * i)).take 4))) none
          | _ => t.readData r.use r.got bs).sendHeldReads
      else
        let t : State := { s with pci := { s.pci with reads := Tab.set none s.pci.reads tag (some { r with got := r.got + bs.length, data := r.data ++ bs }) } }
        t.readData r.use r.got bs

/-- The header of a read request in the Flit-mode layout of the base specification: type and length in doublewords, requester ID
(the bus number is the host's, a free value) and tag, address (R189; PRESUMED, notes/assumptions/23.md). -/
def HostRead.header (r : HostRead) (tag : Nat) (ro : Bool) : List Nat :=
  let n := (r.addr % 4 + r.len + 3) / 4 % 1024
  let dw0 (typ : Nat) : Nat := typ * 2 ^ 24 + b2n r.pasid.isSome * 2 ^ 16 + b2n ro * 2 ^ 11 + n
  let dw1 := (Config.fuse "bus number" % 256 * 256 + r.func) * 2 ^ 16 + tag
  if r.addr < 2 ^ 32 then [dw0 0x03, dw1, r.addr / 4 * 4, 0] else [dw0 0x20, dw1, r.addr / 2 ^ 32, r.addr % 2 ^ 32 / 4 * 4]

/-- A read's timer fires (R184, R185): its operation fails, its tag enters quarantine, and the timeout is reported with the header of the
request. -/
def State.readTimeout (s : State) (tag : Nat) : State :=
  match Tab.get none s.pci.reads tag with
  | none => s
  | some r =>
    if s.pci.cplDisable then s
    else
      let s := s.atTime (r.issuedAt + cplTimer s.pci.cplTimeout)
      let header := r.header tag (s.on Reg.PCI_CPL_CFG_RO_DATA && Tab.get true s.pci.roEnable r.func)
      let t := (((s.freeRead tag).quarantineTag tag r.func false).readFailed r.use).aer r.func "Completion Timeout" (some header)
      ((t.incSat Reg.PCI_CPL_STATS_TIMEOUTS 1).pciEvent Reg.PCI_EVENT_CPL_TIMEOUT).sendHeldReads

/-! ## Resets (R191 to R194) -/

/-- Outstanding and held reads of functions `of` end at once with the host-access error; their tags enter quarantine (R193). -/
def State.orphanReads (s : State) (fs : Nat → Bool) (flr : Bool) : State :=
  let outs := s.pci.reads.filterMap (fun e => match e.2 with
    | some r => if fs r.func then some (e.1, r.func) else none
    | none => none)
  let held := fun (t : State) => t.pci.heldReads.find? (fun h => (t.funcOf h.1).elim false fs)
  let t := outs.foldl (fun (t : State) e =>
    match Tab.get none t.pci.reads e.1 with
    | none => t
    | some r => ((t.freeRead e.1).quarantineTag e.1 e.2 flr).readFailed r.use) s
  t.each t.pci.heldReads.length (fun _ t => match held t with
    | none => t
    | some h => ({ t with pci := { t.pci with heldReads := t.pci.heldReads.filter (fun e => e != h) } } : State).readFailed h.2.2.2.2)

/-- Configuration space and MSI-X state of a function at their reset; AER status and headers stay (sticky). -/
def State.resetFunc (s : State) (f : Nat) : State :=
  let t : State := { s with pci := { s.pci with
    bme := Tab.set false s.pci.bme f false
    roEnable := Tab.set true s.pci.roEnable f true
    msixEnable := Tab.set false s.pci.msixEnable f false
    funcMask := Tab.set false s.pci.funcMask f false
    vectors := s.pci.vectors.filter (fun e => e.1 / 4096 != f)
    cfg := s.pci.cfg.filter (fun e => e.1 / 4096 != f) } }
  if f = 0 then
    { t with pci := { t.pci with vfEnable := false, numVfs := 0, cplTimeout := 0, cplDisable := false, dstate := .d0 } }.wr Reg.PCI_STATUS_PF_BME 0
  else t

/-- The operations of a partition's host-ring queues end with the host-access error, and their records' EN is cleared (R191,
R301, R313). -/
def State.failHostRings (s : State) (p : Nat) : State :=
  let mine := s.queues.filter (fun e => e.1 / 4096 / 4 == p && e.2.en && decide (e.2.base < 2 ^ 63))
  let one (t : State) (e : Nat × Queue) : State :=
    let cls := e.1 / 4096 % 4
    let q := e.1 % 4096
    let fail (l : List Wqe) : List Wqe := l.map (fun w => match w.stage with
      | .finished _ => w
      | _ => { w with stage := .finished 8 })
    match cls with
    | 0 =>
      let l := fail (t.wqesOf p q)
      (((t.dropRaws p q).setWqes p q l).postFront p q l.length).resetQueue p 0 q 5
    | 1 =>
      let l := fail (t.recvsOf p q)
      ((t.setRecvs p q l).postRecvFront p q l.length).resetQueue p 1 q 5
    | 3 =>
      if q < 2048 then t.resetQueue p 3 q 5
      else
        (t.endReqs (fun r => r.part == p && r.queue == q - 2048 && r.runs) 0xA).resetQueue p 3 q 5
    | _ => t
  let t := mine.foldl one s
  (mine.filter (fun e => e.1 / 4096 % 4 == 2)).foldl (fun t e => t.resetQueue p 2 (e.1 % 4096) 5) t

/-- A function-level reset of a VF (R191); what it still held of requests is abandoned with it. -/
def State.vfFlr (s : State) (v : Nat) : State :=
  let t := (s.resetFunc v).orphanReads (fun f => f == v) true
  let t := match (t.parts.find? (fun e => e.2.vf == some v)).map Prod.fst with
    | none => t
    | some p =>
      let t := t.failHostRings p
      { t with pci := { t.pci with heldReqs := t.pci.heldReqs.filter (fun h => h.1 != p) } }
  (t.wr Reg.PCI_VF_FLR_VFS (Nat.lor (t.rd Reg.PCI_VF_FLR_VFS) (2 ^ (v - 1)))).pciEvent Reg.PCI_EVENT_VF_FLR

/-- Partitions to quiesce, at the next bell edge; at once while the bell is off (R198, R199, notes/assumptions/22.md). -/
def State.quiesceSoon (s : State) (ps : List Nat) : State :=
  if s.on Reg.BELL_CTRL_EN then { s with pci := { s.pci with quiesceDue := s.pci.quiesceDue ++ ps.filter (fun p => !(s.pci.quiesceDue.contains p)) } }
  else s.wr Reg.PCI_QUIESCED_PARTS (ps.foldl (fun m p => Nat.lor m (2 ^ p)) (s.rd Reg.PCI_QUIESCED_PARTS))

/-- The partitions that exist: P0 and every one that is not FREE. -/
def State.allParts (s : State) : List Nat := (List.range 64).filter (fun p => decide (s.partState p ≠ .free))

/-- The pending quiesce takes effect (R199). -/
def State.quiesceNow (s : State) : State :=
  { (s.wr Reg.PCI_QUIESCED_PARTS (s.pci.quiesceDue.foldl (fun m p => Nat.lor m (2 ^ p)) (s.rd Reg.PCI_QUIESCED_PARTS))) with
    pci := { s.pci with quiesceDue := [] } }

/-- A PF function-level reset (`flr`), hot reset or link-down reset (R192): VF Enable clear, every function's configuration and
MSI-X state reset, host rings quiesced, or a quiesce that was due completed, reads orphaned, an attached driver orphaned. -/
def State.pfReset (s : State) (flr : Bool) : State :=
  let t := s.each 65 (fun f t => t.resetFunc f)
  let t := t.orphanReads (fun _ => true) flr
  let t := { t with pci := { t.pci with heldReqs := [] } }
  let t := if t.pci.quiesceDue.isEmpty then t.quiesceSoon t.allParts else t.quiesceNow
  (t.when (t.rd Reg.PCI_DRV_STATE == 1) (fun t => t.wr Reg.PCI_DRV_STATE 3)).pciEvent Reg.PCI_EVENT_PF_RESET

/-- What the loss of the host link does (R194). -/
def State.linkLost (s : State) : State :=
  let t := (s.wr Reg.PCI_STATUS_LINK_UP 0).pfReset false
  let t := t.incSat Reg.PCI_DROPPED_COUNT s.pci.heldReqs.length
  let t := (t.pciEvent Reg.PCI_EVENT_LINK_DOWN).event Reg.MGT_EVENT_LINK_DOWN Reg.MGT_EVENT_EN_EN 6
  t.allParts.foldl (fun t p => t.asyncEvent p 0x11 0xFFFF 0) t

/-- DL_Down (R194): the reset of R192, writes to the host discarded from now on, and the event told to the sideband's readers
and to every partition with an event queue (R260). -/
def State.linkDown (s : State) : State :=
  if !s.on Reg.PCI_STATUS_LINK_UP then s
  else s.linkLost

/-- The width, speed and mode that the link has trained to (R175, R176). -/
def State.trained (s : State) (width speed : Nat) (flit : Bool) : State :=
  let t := ((s.wr Reg.PCI_STATUS_WIDTH width).wr Reg.PCI_STATUS_SPEED speed).wr Reg.PCI_STATUS_FLIT (b2n (flit || speed == 5))
  t.when (decide (width < s.pci.capWidth) || decide (speed < s.pci.capSpeed)) (fun t => t.pciEvent Reg.PCI_EVENT_DOWNTRAINED)

/-- A width and speed the module supports, within its caps (R175). -/
def State.trainable (s : State) (width speed : Nat) : Bool :=
  (width == 1 || width == 4 || width == 8 || width == 16) && decide (width ≤ s.pci.capWidth) && decide (speed ≤ s.pci.capSpeed)

/-! ## Configuration space (R177 to R181, R196) -/

/-- Bus Master Enable of a function changes (R190). -/
def State.setBme (s : State) (f : Nat) (on : Bool) : State :=
  let t := { s with pci := { s.pci with bme := Tab.set false s.pci.bme f on } }
  let t := t.when (f == 0) (fun t => t.wr Reg.PCI_STATUS_PF_BME (b2n on))
  t.when on (fun t => t.releaseFunc f)

/-- The PF's power state changes; back in D0 what was held goes out (R181). -/
def State.setDState (s : State) (d : DState) : State :=
  let t := { s with pci := { s.pci with dstate := d } }
  if d = .d0 then t.releaseFunc 0 else t

/-- An AER status register. -/
def State.aerReg (s : State) (f reg : Nat) : Nat :=
  ((aerBits.filter (fun e => e.2.1 == reg && (Tab.get [] s.pci.aerStatus f).contains e.1)).map (fun e => 2 ^ e.2.2)).sum +
    (if reg = 0x110 ∧ Tab.get false s.pci.aerOverflow f then 2 ^ 15 else 0)

/-- Status bits written 1 are cleared, with the headers recorded for them. -/
def State.aerClear (s : State) (f reg v : Nat) : State :=
  let gone := (aerBits.filter (fun e => e.2.1 == reg && bit v e.2.2)).map Prod.fst
  { s with pci := { s.pci with
    aerStatus := Tab.set [] s.pci.aerStatus f ((Tab.get [] s.pci.aerStatus f).filter (fun e => !(gone.contains e)))
    aerLog := Tab.set [] s.pci.aerLog f ((Tab.get [] s.pci.aerLog f).filter (fun e => !(gone.contains e.err)))
    aerOverflow := if reg = 0x110 ∧ bit v 15 then Tab.set false s.pci.aerOverflow f false else s.pci.aerOverflow } }

/-- Capability lists of Table 7.3: offset, ID, in a VF's list. -/
def capList : List (Nat × Nat × Bool) :=
  [(0x040, 0x01, false), (0x050, 0x11, true), (0x060, 0x10, true), (0x100, 0x0001, true), (0x148, 0x000E, true), (0x150, 0x0003, false), (0x160, 0x0019, false),
    (0x180, 0x0025, false), (0x190, 0x0026, false), (0x1C0, 0x002A, false), (0x1E0, 0x0027, false), (0x220, 0x0031, false), (0x240, 0x0010, false),
    (0x280, 0x001B, false), (0x290, 0x0032, false)]

/-- The capabilities a function lists. -/
def capsOf (f : Nat) : List (Nat × Nat × Bool) := capList.filter (fun c => f == 0 || c.2.2)

/-- Header of a capability: ID and the place of the next in its list. -/
def capHeader (f off id : Nat) : Nat :=
  let next := ((capsOf f).find? (fun c => decide (off < c.1) && decide ((c.1 < 256) = (off < 256)))).elim 0 (fun c => c.1)
  if off < 256 then id + next * 256 else id + 2 ^ 16 + next * 2 ^ 20

/-- A BAR's low half: the address bits above its size, and the type of a 64-bit non-prefetchable range (Table 7.2). -/
def barLow (size w : Nat) : Nat := w / size * size + 4

/-- A configuration register: the fields that Tables 7.1 to 7.6 give, at their places in the base specification, and what was
written elsewhere (notes/assumptions/23.md). -/
def State.cfgRead (s : State) (f reg : Nat) : Nat :=
  let w := s.cfgWord f reg
  let log (i : Nat) : Nat := ((Tab.get [] s.pci.aerLog f).head?).elim 0 (fun e => e.header.getD i 0)
  match reg with
  | 0x00 => if f = 0 then 0x00961F3A else 0xFFFFFFFF
  | 0x04 => 0x00100000 + 4 * b2n (Tab.get false s.pci.bme f) + w % 4 + bits w 8 1 * 2 ^ 8
  | 0x08 => 0x12000000
  | 0x10 => if f = 0 then barLow 0x4000000 w else 0
  | 0x14 => if f = 0 then w else 0
  | 0x18 => if f = 0 then barLow 0x10000 w else 0
  | 0x1C => if f = 0 then w else 0
  | 0x20 => 0
  | 0x24 => 0
  | 0x30 => 0
  | 0x34 => ((capsOf f).head?).elim 0 (fun c => c.1)
  | 0x44 => if f = 0 then 8 + (if s.pci.dstate = .d3hot then 3 else 0) else w
  | 0x50 => capHeader f 0x50 0x11 + ((if f = 0 then 2047 else 1023) + b2n (Tab.get false s.pci.funcMask f) * 2 ^ 14 + b2n (Tab.get false s.pci.msixEnable f) * 2 ^ 15) * 2 ^ 16
  | 0x54 => 2
  | 0x58 => (if f = 0 then 0x8000 else 0x4000) + 2
  | 0x64 => 2 + 2 ^ 5 + 2 ^ 15 + 2 ^ 28
  | 0x84 => 0xF + 2 ^ 4 + 3 * 2 ^ 16
  | 0x68 => setBits w 4 1 (b2n (Tab.get true s.pci.roEnable f))
  | 0x6C => 6 + 16 * 2 ^ 4 + 2 * 2 ^ 10
  | 0x70 => bits w 0 16 + (s.rd Reg.PCI_STATUS_SPEED + 1 + s.rd Reg.PCI_STATUS_WIDTH * 2 ^ 4) * 2 ^ 16
  | 0x88 => s.pci.cplTimeout + 16 * b2n s.pci.cplDisable + bits w 9 1 * 2 ^ 9
  | 0x104 => s.aerReg f 0x104
  | 0x110 => s.aerReg f 0x110
  | 0x118 => ((Tab.get [] s.pci.aerLog f).head?).elim 0 (fun e => (aerBit e.err).2) + 2 ^ 9 + bits w 10 1 * 2 ^ 10
  | 0x11C => log 0
  | 0x120 => log 1
  | 0x124 => log 2
  | 0x128 => log 3
  | 0x284 => if f = 0 then 0x1400 + bits w 16 1 * 2 ^ 16 else w
  | 0x154 => if f = 0 then serialNumber % 2 ^ 32 else w
  | 0x158 => if f = 0 then serialNumber / 2 ^ 32 else w
  | 0x248 => if f = 0 then b2n s.pci.vfEnable + w / 2 * 2 else w
  | 0x24C => if f = 0 then 64 + 64 * 2 ^ 16 else w
  | 0x250 => if f = 0 then s.pci.numVfs else w
  | 0x254 => if f = 0 then 1 + 2 ^ 16 else w
  | 0x258 => if f = 0 then 0x0097 * 2 ^ 16 else w
  | 0x25C => if f = 0 then 1 else w
  | 0x260 => if f = 0 then 1 else w
  | 0x264 => if f = 0 then barLow 0x100000 w else w
  | 0x26C => if f = 0 then barLow 0x8000 w else w
  | 0x274 => if f = 0 then 0 else w
  | 0x278 => if f = 0 then 0 else w
  | _ => match (capsOf f).find? (fun c => c.1 == reg) with
    | some c => capHeader f reg c.2.1
    | none => w

/-- A configuration write. -/
def State.cfgWrite (s : State) (f reg v : Nat) : State :=
  let keep (t : State) : State := { t with pci := { t.pci with cfg := Tab.set 0 t.pci.cfg (f * 4096 + reg) (v % 2 ^ 32 ^^^ cfgDefault f reg) } }
  match reg with
  | 0x04 => if bit v 2 = Tab.get false s.pci.bme f then keep s else (keep s).setBme f (bit v 2)
  | 0x44 => if f ≠ 0 then s else if bits v 0 2 = 3 then s.setDState .d3hot else if bits v 0 2 = 0 then s.setDState .d0 else s
  | 0x50 => { s with pci := { s.pci with msixEnable := Tab.set false s.pci.msixEnable f (bit v 31), funcMask := Tab.set false s.pci.funcMask f (bit v 30) } }.sendPending f
  | 0x68 =>
    let t : State := { (keep s) with pci := { (keep s).pci with
      cfg := Tab.set 0 s.pci.cfg (f * 4096 + reg) (v % 2 ^ 15), roEnable := Tab.set true s.pci.roEnable f (bit v 4) } }
    if bit v 15 then (if f = 0 then t.pfReset true else t.vfFlr f) else t
  | 0x88 => if f = 0 then { (keep s) with pci := { (keep s).pci with cplTimeout := bits v 0 4, cplDisable := bit v 4 } } else keep s
  | 0x104 => s.aerClear f 0x104 v
  | 0x110 => s.aerClear f 0x110 v
  | 0x248 =>
    if f ≠ 0 then s
    else
      let t := keep { s with pci := { s.pci with vfEnable := bit v 0 } }
      if s.pci.vfEnable ∧ !bit v 0 then (t.each 64 (fun i t => t.resetFunc (i + 1))).orphanReads (fun g => g != 0) true else t
  | 0x250 => if f ≠ 0 ∨ s.pci.vfEnable ∨ 64 < bits v 0 16 then s else { s with pci := { s.pci with numVfs := bits v 0 16 } }
  | _ => if reg = 0x00 ∨ reg = 0x08 ∨ reg = 0x34 ∨ reg = 0x30 ∨ reg = 0x64 ∨ reg = 0x6C ∨ reg = 0x84 ∨ (0x11C ≤ reg ∧ reg ≤ 0x128) ∨ (0x24C ≤ reg ∧ reg ≤ 0x25C) ∨ (capsOf f).any (fun c => c.1 == reg) then s else keep s

/-- A function answers requests: the PF always, a VF while VF Enable is set and its number is within NumVFs; in minimal mode
VF Enable has no effect (R397). -/
def State.funcPresent (s : State) (f : Nat) : Bool := f == 0 || (s.pci.vfEnable && decide (f ≤ s.pci.numVfs) && !s.restricted)

/-! ## The host driver (R197 to R200) -/

/-- The next heartbeat period starts, with the PERIOD written now (R198). -/
def State.nextPeriod (s : State) : State :=
  { s with pci := { s.pci with hbStart := s.now, hbPeriod := s.rd Reg.PCI_HB_CFG_PERIOD, hbSeen := false } }

/-- A driver is attached in the next session (R197). -/
def State.attached (s : State) : State := (((s.inc Reg.PCI_DRV_SESSION 1).wr Reg.PCI_DRV_STATE 1).wr Reg.PCI_HB_CFG_MISSES 0).nextPeriod

/-- ATTACH (R197): discarded and recorded while a driver is attached or before the operational firmware runs. -/
def State.attach (s : State) : State :=
  if s.rd Reg.PCI_DRV_STATE = 1 ∨ !s.fwRuns then s.unsup .pf Reg.PCI_DRV true
  else s.attached

/-- Partitions in PCI_HB_SCOPE; P0 always is. -/
def State.hbScope (s : State) : List Nat := s.allParts.filter (fun p => p == 0 || bit (s.rd Reg.PCI_HB_SCOPE_PARTS) p)

/-- DETACH (R198). -/
def State.detach (s : State) : State := (s.wr Reg.PCI_DRV_STATE 2).quiesceSoon s.hbScope

/-- A heartbeat (R198): discarded outside ATTACHED. -/
def State.heartbeat (s : State) : State := s.when (s.rd Reg.PCI_DRV_STATE == 1) (fun t => { t with pci := { t.pci with hbSeen := true } })

/-- A heartbeat period ends (R198). -/
def State.hbEnd (s : State) : State :=
  if s.rd Reg.PCI_DRV_STATE ≠ 1 ∨ s.rv.hbHeld then s
  else
    let s := s.atTime (s.pci.hbStart + s.pci.hbPeriod * 4000000)
    if s.pci.hbSeen then (s.wr Reg.PCI_HB_CFG_MISSES 0).nextPeriod
    else
      let m := min (s.rd Reg.PCI_HB_CFG_MISSES + 1) 3
      let t := (s.wr Reg.PCI_HB_CFG_MISSES m).pciEvent Reg.PCI_EVENT_HB_MISS
      if m = 3 then (t.wr Reg.PCI_DRV_STATE 3).quiesceSoon t.hbScope else t.nextPeriod

/-- The pending resume takes effect: the latched doorbells are acted on (R200). -/
def State.resumeNow (s : State) : State :=
  let ps := s.pci.resumeDue.filter (fun p => s.quiesced p)
  let t := { s with pci := { s.pci with resumeDue := [] } }.wr Reg.PCI_QUIESCED_PARTS
    (ps.foldl (fun m p => if bit m p then m - 2 ^ p else m) (s.rd Reg.PCI_QUIESCED_PARTS))
  ps.foldl (fun t p => t.actLatched p) t

/-- The named partitions that are quiesced are due to go on (R200). -/
def State.resumeSoon (s : State) (parts : Nat) : State :=
  let ps := (List.range 64).filter (fun p => bit parts p && s.quiesced p)
  { s with pci := { s.pci with resumeDue := s.pci.resumeDue ++ ps.filter (fun p => !(s.pci.resumeDue.contains p)) } }

/-- PCI_RESUME (R200): at the next edge, at once while the bell is off. -/
def State.resumeParts (s : State) (parts : Nat) : State :=
  if s.rd Reg.PCI_DRV_STATE ≠ 1 then s
  else
    let t := s.resumeSoon parts
    if s.on Reg.BELL_CTRL_EN then t else t.resumeNow

/-! ## Meanings -/

/-- BAR_ACCESS_REJECTED (R7): not carried out; a read is answered with Completer Abort. In D3hot the PF answers no BAR access
(R181): it is an Unsupported Request there. -/
def execBarAccessRejected (func _off _len : Nat) (write : Bool) (header : List Nat) (s : State) : Host.Outcome State Fault Refusal :=
  s.guarded (func < 65) (
    let closed := func == 0 && decide (s.pci.dstate = .d3hot)
    (s.aer func (if closed then "Unsupported Request" else "Completer Abort") (some header)).when (!write) (fun t => t.emit (.completion func (if closed then 1 else 2) 0 0)))

/-- UNSUPPORTED_REQUEST (R188): answered as Unsupported Request unless it is posted. -/
def execUnsupportedRequest (func : Nat) (posted : Bool) (header : List Nat) (s : State) : Host.Outcome State Fault Refusal :=
  s.guarded (func < 65) ((s.aer func "Unsupported Request" (some header)).when (!posted) (fun t => t.emit (.completion func 1 0 0)))

/-- CONFIG_REQUEST (R196). -/
def execConfigRequest (func off : Nat) (write : Bool) (value : Nat) (s : State) : Host.Outcome State Fault Refusal :=
  s.guarded (func < 65 && off < 4096) (
    let r := off / 4 * 4
    if s.pci.perst then s
    else if !s.pci.configured then s.emit (.completion func 3 0 0)
    else if !s.funcPresent func then s.emit (.completion func 1 0 0)
    else if write then (s.emit (.completion func 0 0 0)).cfgWrite func r value
    else s.emit (.completion func 0 (s.cfgRead func r) 4))

/-- LINK_RETRAIN (R176). -/
def execLinkRetrain (width speed : Nat) (flit : Bool) (s : State) : Host.Outcome State Fault Refusal :=
  .next (s.when (s.on Reg.PCI_STATUS_LINK_UP && s.trainable width speed) (fun t => t.trained width speed flit))

/-- D3HOT_ENTRY (R181). -/
def execD3hotEntry (s : State) : Host.Outcome State Fault Refusal := .next (s.setDState .d3hot)

/-- COMPLETION_RECEIVED (R186). -/
def execCompletionReceived (func tag status : Nat) (poisoned : Bool) (data header : List Nat) (s : State) : Host.Outcome State Fault Refusal :=
  s.guarded (func < 65 && tag < 16384) (s.completion func tag status poisoned data header)

/-- POISONED_WRITE (R187). -/
def execPoisonedWrite (func : Nat) (header : List Nat) (s : State) : Host.Outcome State Fault Refusal :=
  s.guarded (func < 65) (s.aer func "Poisoned TLP Received" (some header))

/-- COMPLETION_TIMEOUT (R185). -/
def execCompletionTimeout (tag : Nat) (s : State) : Host.Outcome State Fault Refusal := s.guarded (tag < 16384) (s.readTimeout tag)

/-- QUARANTINE_END (R186): the tag may be used again, at the end of its time and not before. -/
def execQuarantineEnd (tag : Nat) (s : State) : Host.Outcome State Fault Refusal :=
  s.guarded (tag < 16384) (match Tab.get none s.pci.quarantine tag with
    | some q => if q.endsAt ≤ s.now then ({ s with pci := { s.pci with quarantine := Tab.set none s.pci.quarantine tag none } } : State).sendHeldReads else s
    | none => s)

/-- BUS_MASTER_ENABLE_CHANGE (R190). -/
def execBusMasterEnableChange (func : Nat) (on : Bool) (s : State) : Host.Outcome State Fault Refusal := s.guarded (func < 65) (s.setBme func on)

/-- VF_FLR (R191). -/
def execVfFlr (vf : Nat) (s : State) : Host.Outcome State Fault Refusal := s.guarded (0 < vf && vf < 65) (s.vfFlr vf)

/-- PF_RESET (R192). -/
def execPfReset (flr : Bool) (s : State) : Host.Outcome State Fault Refusal := .next (s.pfReset flr)

/-- LINK_DOWN (R194). -/
def execLinkDown (s : State) : Host.Outcome State Fault Refusal := .next s.linkDown

/-- HOST_LINK_UP (R194): the link trains to a width and speed (R175). -/
def execHostLinkUp (width speed : Nat) (flit : Bool) (s : State) : Host.Outcome State Fault Refusal :=
  .next (s.when (!s.on Reg.PCI_STATUS_LINK_UP && !s.pci.perst && s.trainable width speed && !(s.on (Reg.TST_LOOP_ACTIVE 32) && s.rd (Reg.TST_LOOP_DEPTH 32) == 1)) (fun t => (t.wr Reg.PCI_STATUS_LINK_UP 1).trained width speed flit))

/-- PERST_N holds the endpoint in reset (R191, R192, R194). -/
def State.hostReset (s : State) : State :=
  let t := if s.on Reg.PCI_STATUS_LINK_UP then s.linkDown else s.pfReset false
  { t with pci := { t.pci with perst := true, training := false } }

/-- PERST_ASSERT (R433): a low level of `low` 100 ns units; shorter than its filter it is ignored (R439). -/
def execPerstAssert (low : Nat) (s : State) : Host.Outcome State Fault Refusal :=
  .next (if low < s.rd Reg.HUB_FILTER_PERST ∨ s.pci.perst then s
    else s.hostReset)

/-- PERST_DEASSERT (R196): training begins; a module that has started configures its endpoint. -/
def execPerstDeassert (s : State) : Host.Outcome State Fault Refusal :=
  .next { s with pci := { s.pci with perst := false, training := true, configured := decide (5 ≤ s.rd Reg.HUB_START_STAGE) && !s.pwr.off } }

/-- ATTACH (R197). -/
def execAttach (s : State) : Host.Outcome State Fault Refusal := s.fromPf 0 (.next s.attach)

/-- DETACH (R198). -/
def execDetach (s : State) : Host.Outcome State Fault Refusal := s.fromPf 0 (.next s.detach)

/-- HEARTBEAT (R198). -/
def execHeartbeat (s : State) : Host.Outcome State Fault Refusal :=
  s.fromPf 0 (.next s.heartbeat)

/-- HEARTBEAT_PERIOD_END (R198). -/
def execHeartbeatPeriodEnd (s : State) : Host.Outcome State Fault Refusal := .next s.hbEnd

/-- QUIESCE (R199). -/
def execQuiesce (s : State) : Host.Outcome State Fault Refusal := .next s.quiesceNow

/-- PCI_RESUME (R200). -/
def execPciResume (parts : Nat) (s : State) : Host.Outcome State Fault Refusal := s.fromPf 0 (.next (s.resumeParts parts))

end Sys2Proof.Machine
end

