-- ==== Sys2Proof/Machine/Wire.lean ====
section
/-! DEFINITION. RKT packets as they leave: the Ethernet, IP and UDP headers of their frames (R210, R215), what is written into a packet
at its transmission (R211, R224, R226), and the packets of bell frames and reports (Tables 8.8 and 8.9). -/

namespace Sys2Proof.Machine

/-! ## Frames (R210, R215) -/

/-- A UDP datagram: its ports, length and checksum over the pseudo-header with `addrs`, 0 where none is computed. -/
def udpDatagram (sport dport : Nat) (addrs : List Nat) (check : Bool) (body : List Nat) : List Nat :=
  let n := 8 + body.length
  let head (c : Nat) : List Nat := beBytes 2 sport ++ beBytes 2 dport ++ beBytes 2 n ++ beBytes 2 c
  let c := 65535 - onesSum (onesSum (17 + n) addrs) (head 0 ++ body)
  head (if !check then 0 else if c = 0 then 65535 else c) ++ body

/-- An IPv4 header without options: DF = 1, no fragment, protocol UDP. -/
def ipv4Header (tos len id ttl : Nat) (src dst : List Nat) : List Nat :=
  let h (c : Nat) : List Nat := [0x45, tos] ++ beBytes 2 len ++ beBytes 2 id ++ [0x40, 0, ttl, 17] ++ beBytes 2 c ++ src ++ dst
  h (65535 - onesSum 0 (h 0))

/-- An IPv6 header with UDP next. -/
def ipv6Header (tos flow len hops : Nat) (src dst : List Nat) : List Nat :=
  [0x60 + tos / 16, tos % 16 * 16 + flow / 65536 % 16] ++ beBytes 2 flow ++ beBytes 2 len ++ [17, hops] ++ src ++ dst

/-- The frame, without its FCS, that carries an RKT packet on a path table entry to an address: next hop, VLAN tag, local address and
source port are the entry's, and its local address decides between IPv4 and IPv6 (R210, R215, notes/assumptions/73.md). -/
def State.rktFrame (s : State) (path addr dscp id flow : Nat) (body : List Nat) : List Nat :=
  let la := s.rd (Reg.RKT_PATH_LADDR path)
  let v6 := s.on (Reg.RKT_LADDR_V6 la)
  let n := if v6 then 16 else 4
  let src := beBytes n (s.rd (Reg.RKT_LADDR_ADDR la))
  let dst := beBytes n addr
  let tos := dscp % 64 * 4 + (if s.on Reg.RKT_CFG_ECN_EN then 2 else 0)
  let u := udpDatagram (s.rd (Reg.RKT_PATH_SPORT path)) (s.rd Reg.RKT_CFG_UDP_PORT) (src ++ dst) (v6 || s.on Reg.RKT_CFG_CSUM4) body
  let ip := if v6 then ipv6Header tos flow u.length (s.rd Reg.RKT_CFG_TTL) src dst else ipv4Header tos (20 + u.length) id (s.rd Reg.RKT_CFG_TTL) src dst
  let tag := if s.on (Reg.RKT_PATH_VLAN_EN path) then [0x81, 0x00] ++ beBytes 2 (s.rd (Reg.RKT_PATH_PCP path) * 8192 + s.rd (Reg.RKT_PATH_VID path)) else []
  beBytes 6 (s.rd (Reg.RKT_PATH_NH_MAC path)) ++ beBytes 6 (s.rd (Reg.FAB_PORT_MAC_MAC (s.rd (Reg.RKT_PATH_PORT path)))) ++ tag ++
    (if v6 then [0x86, 0xDD] else [0x08, 0x00]) ++ ip ++ u

/-! ## What is written at transmission (R211, R224) -/

/-- The extension of a packet that leaves at `now`: a PROBE's T1 and a PROBE_RESP's T3 are taken then (R224). -/
def stampExt (typ now : Nat) (ext : List Nat) : List Nat :=
  if typ = 10 then ext.set 1 (now % 2 ^ 32) else if typ = 11 then ext.set 3 (now % 2 ^ 32) else ext

/-- A packet as it leaves on a path, and its frame: TSTAMP is written and the packet sealed (R211, R324). `dscp` is its class's, none in
the control class. What the spec leaves open is free, digit by digit of one free value: the IPv4 identification, the flow label and DSCP
of a packet without a connection or class, and the PATH and CEPOCH of an unconnected type (notes/assumptions/73.md). -/
def State.wirePkt (s : State) (path : Nat) (dscp : Option Nat) (k : RktPkt) (d : TxDest) : State × RktPkt × List Nat :=
  let r := s.draw
  let k := { k with tstamp := s.ns, ext := stampExt k.typ s.now k.ext }
  let k := if d.conn.isSome then k else { k with path := r.1 / 2 ^ 50 % 16, cepoch := r.1 / 2 ^ 42 % 256 }
  let k := d.key.elim k k.seal
  let flow := d.conn.elim (r.1 / 2 ^ 16 % 2 ^ 20) (fun c => (c * 16 + k.path) % 2 ^ 20)
  (r.2, k, s.rktFrame path d.addr (dscp.getD (r.1 / 2 ^ 36 % 64)) (r.1 % 2 ^ 16) flow k.bytes)

/-- The record of a sequenced packet of a connection that leaves now: its time, and the TSTAMP of a retransmission (R216, R221). -/
def Conn.left (x : Conn) (k : RktPkt) (now : Nat) : Conn :=
  { x with
    flights := x.flights.map (fun f => if f.psn == k.psn && f.slot == k.path && f.ppsn == k.ppsn then { f with sentAt := now } else f)
    retxStamps := if k.retx then k.tstamp :: x.retxStamps.filter (fun t => decide ((k.tstamp + 2 ^ 32 - t) % 2 ^ 32 < 2 ^ 31)) else x.retxStamps }

/-- An RKT packet leaves on a path table entry. -/
def State.sendWire (s : State) (path : Nat) (dscp : Option Nat) (k : RktPkt) (d : TxDest) : State :=
  let r := s.wirePkt path dscp k d
  let t := r.1.emit (.rkt path r.2.1 r.2.2)
  match d.conn with
  | some c => t.when (decide (1 ≤ k.typ) && decide (k.typ ≤ 6)) (fun t => t.setConn c ((t.conn c).left r.2.1 t.now))
  | none => t

/-! ## Bell frames and reports (R226, R229) -/

/-- Coordinates as MASTER of Table 8.8 encodes them. -/
def packXyz (x y z : Nat) : Nat := x % 64 * 1024 + y % 64 * 16 + z % 16

/-- The packet of a bell frame (Table 8.8). -/
def BellFrame.pkt (f : BellFrame) : RktPkt :=
  RktPkt.plain 8 [f.tag, f.epoch, b2n f.handover, 0, f.count, f.periodCur % 1024, f.periodNext % 1024, f.paceCur % 128, f.paceNext % 128,
    packXyz f.masterX f.masterY f.masterZ, f.corr, 0]

/-- The packet of a bell report (Table 8.9): entries of MISSING_AT that are not used hold 0xFFFF. -/
def BellReport.pkt (r : BellReport) : RktPkt :=
  RktPkt.plain 9 ([r.tag, r.attainable % 128, r.modules, r.count, r.backlog, r.late, r.missing] ++
    (List.range 4).map (fun i => r.missingAt.getD i 0xFFFF) ++ [0])

/-- Where the packets for a RKT_BELL_PEER entry go. -/
def State.peerDest (s : State) (e : Nat) : TxDest := { addr := s.rd (Reg.RKT_BELL_PEER_ADDR e), conn := none, key := none }

end Sys2Proof.Machine
end

