-- ==== Sys2Proof/Machine/Sched.lean ====
section
/-! DEFINITION. The traffic scheduler: buckets, classes, almanac (R279 to R287). -/

namespace Sys2Proof.Machine

/-! ## Buckets (R280, R281, R287) -/

/-- Class settings as their registers hold them. -/
def State.classRegs (s : State) (l c : Nat) : ClassCfg :=
  { strict := s.on (Reg.SCH_CLASS_STRICT l c), weight := s.rd (Reg.SCH_CLASS_WEIGHT l c), rate := s.rd (Reg.SCH_CLASS_RATE l c),
    prio := s.rd (Reg.SCH_CLASS_PRIO l c), burst := s.rd (Reg.SCH_CLASS_BURST l c), dscp := s.rd (Reg.SCH_CLASS_DSCP l c) }

/-- Class settings in force: the reset values before the first refill. -/
def State.cls (s : State) (l c : Nat) : ClassCfg :=
  (Tab.get none s.fab.classCfg (l * 8 + c)).getD { strict := false, weight := 1, rate := 0, prio := c, burst := 64, dscp := 8 * c }

/-- Tokens after a refill of `dt` units of 125 ns (R280). -/
def refill (tokens : Int) (rate dt burst : Nat) : Int := min (tokens + (rate : Int) * 125 * dt) burst

/-- SHAPER_REFILL (R280, R287): the settings written since the last refill come into force, and every bucket adds its
tokens. -/
def State.refillAll (s : State) : State :=
  let dt := (s.now - s.fab.lastRefill) / 500
  let pb := s.rd Reg.SCH_CFG_PBURST
  let f := { s.fab with overhead := s.rd Reg.SCH_CFG_OVERHEAD, pburst := pb, fwClass := s.rd Reg.SCH_CFG_FW_CLASS, lastRefill := s.now }
  let f := (List.range 256).foldl (fun (f : Fab) i =>
    let c := s.classRegs (i / 8) (i % 8)
    { f with
      classCfg := Tab.set none f.classCfg i (some c)
      classTokens := Tab.set 0 f.classTokens i (refill (Tab.get 0 f.classTokens i) c.rate dt (c.burst * 8192)) }) f
  let f := (List.range 63).foldl (fun (f : Fab) i =>
    let p := i + 1
    let g := (s.part p).grants
    { f with
      gTokens := Tab.set 0 f.gTokens p (refill (Tab.get 0 f.gTokens p) g.guarantee dt (pb * 32768))
      cTokens := Tab.set 0 f.cTokens p (refill (Tab.get 0 f.cTokens p) g.ceiling dt (pb * 32768)) }) f
  { s with fab := f }

/-- Shaped length in bytes (R280). -/
def State.shaped (s : State) (f : TxFrame) : Nat := f.len + s.fab.overhead

/-! ## Almanac (R284 to R286) -/

def almGates (e : Nat) : Nat := bits e 0 8
def almBell (e : Nat) : Nat := bits e 8 3
def almEnd (e : Nat) : Nat := bits e 11 10
def almLast (e : Nat) : Bool := bits e 31 1 == 1

/-- The entries of a list up to its LAST one. -/
def almEntries (l : List Nat) : List Nat :=
  match l.findIdx? almLast with
  | some i => l.take (i + 1)
  | none => l

/-- The list keeps the order and the LAST rule of R284. -/
def almOk (l : List Nat) : Bool :=
  let e := almEntries l
  l.any almLast && decide ((l.filter almLast).length = 1) &&
  (List.range (e.length - 1)).all (fun i =>
    let a := e.getD i 0
    let b := e.getD (i + 1) 0
    decide (almBell a * 1024 + almEnd a < almBell b * 1024 + almEnd b))

/-- The almanac in force at a port. -/
def State.almanac (s : State) (l : Nat) : List Nat := almEntries ((List.range 32).map (fun k => s.rd (Reg.SCH_ALM_ACTIVE_ENTRY l k)))
/-- Entry `k` of the shadow list; its reserved bits are 0 (R2, R284). -/
def State.shadowEntry (s : State) (l k : Nat) : Nat := s.rd (Reg.SCH_ALM_SHADOW_ENTRY l k) + 2 ^ 31 * s.rd (Reg.SCH_ALM_SHADOW_LAST l k)
def State.shadowAlm (s : State) (l : Nat) : List Nat := (List.range 32).map (fun k => s.shadowEntry l k)

/-- Bell within the cycle, and offset from the edge in 125 ns units. -/
def State.almPos (s : State) (l : Nat) : Nat × Nat :=
  ((s.count - (s.port l).takenAt) % (s.rd (Reg.SCH_ALM_STATUS_CYCLE l) + 1), (s.now - s.bell.edgeAt) / 500)

/-- The entry in force: the first whose (BELL, END) lies later than now, else the LAST. -/
def State.almEntry (s : State) (l : Nat) : Nat :=
  let e := s.almanac l
  let p := s.almPos l
  (e.findIdx? (fun a => !almLast a && decide (p.1 < almBell a ∨ (p.1 = almBell a ∧ p.2 < almEnd a)))).getD (e.length - 1)

/-- The gate of a class is open (R284). -/
def State.gateOpen (s : State) (l c : Nat) : Bool :=
  !s.on (Reg.SCH_ALM_STATUS_EN l) || bit (almGates ((s.almanac l).getD (s.almEntry l) 0)) c

/-- When the entry `i` of the almanac ends, in 0.25 ns units: at its END in its bell, or with the cycle for the LAST one;
`laps` cycles lie between now and the entry's. Later bells are taken at the current period. -/
def State.almEndsAt (s : State) (l i laps : Nat) : Nat :=
  let cycle := s.rd (Reg.SCH_ALM_STATUS_CYCLE l) + 1
  let a := (s.almanac l).getD i 0
  let per := s.rd Reg.BELL_PERIOD_CURRENT * 500
  let bellsAhead (b : Nat) : Nat := laps * cycle + b - (s.almPos l).1
  if almLast a then s.bell.edgeAt + bellsAhead cycle * per else s.bell.edgeAt + bellsAhead (almBell a) * per + min (almEnd a * 500) per

/-- The next moment at which the almanac closes gate `c`, none when it never does; the gate is open now (R286). -/
def State.gateCloses (s : State) (l c : Nat) : Option Nat :=
  let e := s.almanac l
  let n := e.length
  let i0 := s.almEntry l
  if n = 0 ∨ !s.on (Reg.SCH_ALM_STATUS_EN l) then none
  else (List.range n).findSome? (fun j =>
    let k := i0 + j + 1
    if bit (almGates (e.getD (k % n) 0)) c then none else some (s.almEndsAt l ((k - 1) % n) ((k - 1) / n)))

/-- The frame, sent at the port's current rate, ends before the gate closes (R286). -/
def State.frameFits (s : State) (l : Nat) (f : TxFrame) : Bool :=
  match s.gateCloses l f.cls with
  | none => true
  | some t =>
    let rate := 100 * max (s.rd (Reg.FAB_PORT_STATUS_WIDTH l)) 1
    decide (s.shaped f * 32 < (t - s.now) * rate)

/-! ## Choosing (R282, R283) -/

/-- Deficit round robin over `n` places with quanta `q`; `len` gives the length of a place's next frame, none when it has
none. `fuel` bounds the visits. -/
def Drr.pick (n : Nat) (q : Nat → Nat) (len : Nat → Option Nat) : Nat → Drr → Option (Nat × Drr)
  | 0, _ => none
  | fuel + 1, r =>
    match len r.ptr with
    | none => Drr.pick n q len fuel { ptr := (r.ptr + 1) % n, fresh := true, deficit := Tab.set 0 r.deficit r.ptr 0 }
    | some k =>
      let d := Tab.get 0 r.deficit r.ptr + (if r.fresh then q r.ptr else 0)
      if k ≤ d then some (r.ptr, { ptr := r.ptr, fresh := false, deficit := Tab.set 0 r.deficit r.ptr (d - k) })
      else Drr.pick n q len fuel { ptr := (r.ptr + 1) % n, fresh := true, deficit := Tab.set 0 r.deficit r.ptr d }

/-- The partition's ceiling bucket admits; P0 and firmware are in no bucket. -/
def State.ceilingOk (s : State) (p : Nat) : Bool := p == 0 || decide (0 < Tab.get 0 s.fab.cTokens p)
/-- First tier: the guarantee bucket admits, or P0 and firmware. -/
def State.firstTier (s : State) (p : Nat) : Bool := p == 0 || decide (0 < Tab.get 0 s.fab.gTokens p)

/-- Index of the first frame of a class and partition that waits at a port. -/
def State.firstOf (s : State) (l c p : Nat) : Option Nat := (s.port l).waiting.findIdx? (fun f => f.cls == c && f.part == p)

/-- The frame at the head of a class (R282): its place in the waiting list, its tier, and the partitions' ring after it. -/
def State.classHead (s : State) (l c : Nat) : Option (Nat × Nat × Drr) :=
  let pick (tier : Nat) (ok : Nat → Bool) : Option (Nat × Nat × Drr) :=
    let ring := Tab.get Drr.reset (s.port l).parts (c * 2 + tier)
    let len (p : Nat) : Option Nat := if s.ceilingOk p && ok p then (s.firstOf l c p).bind (fun i => ((s.port l).waiting[i]?).map (·.len)) else none
    (Drr.pick 64 (fun _ => 9216) len 192 ring).bind (fun r => (s.firstOf l c r.1).map (fun i => (i, tier, r.2)))
  match pick 0 s.firstTier with
  | some r => some r
  | none => pick 1 (fun p => !s.firstTier p)

/-- A priority of a port is paused: a PFC frame paused it, and its quanta have not run out (R204). -/
def State.prioPaused (s : State) (l prio : Nat) : Bool :=
  Tab.get 0 (s.port l).paused prio != 0 && decide (s.now < Tab.get 0 (s.port l).pauseEnd prio)

/-- The class is paused by PFC on its priority (R204, R279). -/
def State.classPaused (s : State) (l c : Nat) : Bool := s.prioPaused l (s.cls l c).prio

/-- The class is eligible, and its head (R282). -/
def State.eligible (s : State) (l c : Nat) : Option (Nat × Nat × Drr) :=
  match s.classHead l c with
  | none => none
  | some r =>
    match (s.port l).waiting[r.1]? with
    | none => none
    | some f =>
      if !s.classPaused l c && s.gateOpen l c && s.frameFits l f &&
          ((s.cls l c).rate == 0 || decide (0 < Tab.get 0 s.fab.classTokens (l * 8 + c))) then some r else none

/-- Since when a class counts as eligible at this look, plus 1; 0 when it does not: since the last look at which it was, or since the
frame arrived that made it eligible (R283, notes/assumptions/58.md). -/
def State.eligibleSince (s : State) (l c : Nat) : Nat :=
  let x := s.port l
  let since := Tab.get 0 x.eligible c
  if since ≠ 0 then since else if (s.eligible l c).isSome then (if Tab.get 0 x.arrived c ≠ 0 then Tab.get 0 x.arrived c else s.now + 1) else 0

/-- The time for which each class has been eligible without a frame started is brought up to now: time in which it was not eligible adds
nothing (R283). -/
def State.ageClasses (s : State) (l : Nat) : State :=
  let x := s.port l
  s.setPort l { x with
    eligible := (List.range 8).foldl (fun t c => Tab.set 0 t c (if (s.eligible l c).isSome then s.now + 1 else 0)) x.eligible
    aged := (List.range 8).foldl (fun t c => if s.eligibleSince l c = 0 then t else Tab.set 0 t c (Tab.get 0 t c + (s.now + 1 - s.eligibleSince l c))) x.aged
    arrived := [] }

/-- Every port's ages brought up to now. -/
def State.ageAll (s : State) : State := s.fab.ports.foldl (fun t e => t.ageClasses e.1) s

/-- The aged class that has waited longest (R283). -/
def State.agedClass (s : State) (l : Nat) : Option Nat :=
  let age := s.rd (Reg.SCH_PORT_CTRL_AGE l)
  let aged (c : Nat) : Nat := Tab.get 0 (s.port l).aged c
  if age = 0 then none
  else (List.range 8).foldl (fun best c =>
    if age * 4000 ≤ aged c ∧ (s.eligible l c).isSome then
      match best with
      | some b => if aged b < aged c then some c else some b
      | none => some c
    else best) none

/-- A frame leaves a port: its output, and what its sending completes. TSTAMP and CORR are written as it leaves (R211, R226); the
bytes with which a raw frame is padded to 60 are free values (R273). -/
def State.transmit (s : State) (l : Nat) (f : TxFrame) : State :=
  match f.body with
  | .rkt path k d => s.sendWire path (if f.cls < 8 then some (s.cls l f.cls).dscp else none) k d
  | .raw p q idx firing b =>
    let r := if b.length < 60 then s.random (60 - b.length) else (s, [])
    (r.1.emit (.frame l f.cls (b ++ r.2))).endWqe p q idx firing 0 0
  | .firmware b => s.emit (.frame l f.cls b)
  | .bell e path b since =>
    let b := { b with corr := (b.corr + (s.now - since)) % 2 ^ 32 }
    let r := s.wirePkt path none b.pkt (s.peerDest e)
    r.1.emit (.bellFrame e b r.2.2)
  | .report e path r =>
    let w := s.wirePkt path none r.pkt (s.peerDest e)
    w.1.emit (.bellReport e r w.2.2)

/-- The frame at place `i` starts: charged under R282 in its tier, taken from the list, and sent. -/
def State.startFrame (s : State) (l i tier : Nat) : State :=
  match (s.port l).waiting[i]? with
  | none => s
  | some f =>
    let x := s.port l
    let t := s.setPort l { x with waiting := x.waiting.eraseIdx i }
    let cost : Int := 8 * (s.shaped f : Nat)
    let t := if f.cls = 8 then t
      else
        let fb := t.fab
        let fb := if (s.cls l f.cls).rate = 0 then fb else { fb with classTokens := Tab.set 0 fb.classTokens (l * 8 + f.cls) (Tab.get 0 fb.classTokens (l * 8 + f.cls) - cost) }
        let fb := if f.part = 0 then fb else { fb with cTokens := Tab.set 0 fb.cTokens f.part (Tab.get 0 fb.cTokens f.part - cost) }
        let fb := if f.part = 0 ∨ tier ≠ 0 then fb else { fb with gTokens := Tab.set 0 fb.gTokens f.part (Tab.get 0 fb.gTokens f.part - cost) }
        { t with fab := fb }
    let t := t.when (f.cls != 8) (fun t => t.inc (Reg.SCH_PART_BYTES f.part) (s.shaped f))
    t.transmit l f

/-- SCH_EVENT bits go to vector 7. -/
def State.schEvent (s : State) (f : Fld) : State := s.event f Reg.SCH_EVENT_EN_EN 7

/-- A class sends its head: its place in the partitions' ring and its age move on. -/
def State.sendClass (s : State) (l c : Nat) (r : Nat × Nat × Drr) : State :=
  let x := s.port l
  (s.setPort l { x with parts := Tab.set Drr.reset x.parts (c * 2 + r.2.1) r.2.2, eligible := Tab.set 0 x.eligible c 0, aged := Tab.set 0 x.aged c 0 }).startFrame l r.1 r.2.1

/-- At a frame boundary the port chooses and sends the next frame (R282, R283). -/
def State.selectFrame (s : State) (l : Nat) : State :=
  let s := s.ageClasses l
  match (s.port l).waiting.findIdx? (fun f => f.cls == 8) with
  | some i => s.startFrame l i 0
  | none =>
    match s.agedClass l with
    | some c =>
      match s.eligible l c with
      | some r => (s.sendClass l c r).schEvent Reg.SCH_EVENT_AGED
      | none => s
    | none =>
      match (List.range 8).reverse.findSome? (fun c => if (s.cls l c).strict then (s.eligible l c).map (fun r => (c, r)) else none) with
      | some (c, r) => s.sendClass l c r
      | none =>
        let len (c : Nat) : Option Nat := if (s.cls l c).strict then none else (s.eligible l c).bind (fun r => ((s.port l).waiting[r.1]?).map (·.len))
        match Drr.pick 8 (fun c => (s.cls l c).weight * 1024) len 128 (s.port l).classes with
        | none => s
        | some (c, ring) =>
          match s.eligible l c with
          | some r => (s.setPort l { s.port l with classes := ring }).sendClass l c r
          | none => s

/-! ## Take-over (R285) -/

/-- ARM (R285). -/
def State.armAlmanac (s : State) (l : Nat) : State :=
  if s.rd (Reg.SCH_ALM_TAKE_BELL l) ≤ s.count then (s.schEvent Reg.SCH_EVENT_MISSED_TARGET).missedTarget
  else if s.on (Reg.SCH_ALM_CMD_SH_EN l) && !almOk (s.shadowAlm l) then s.schEvent Reg.SCH_EVENT_BAD_LIST
  else s.wr (Reg.SCH_ALM_CMD_ARMED l) 1

/-- The shadow almanac is in force (R285). -/
def State.takeOver (s : State) (l : Nat) : State :=
  let en := s.rd (Reg.SCH_ALM_CMD_SH_EN l)
  let t := (s.wr (Reg.SCH_ALM_CMD_ARMED l) 0).wr (Reg.SCH_ALM_STATUS_EN l) en
  let t := t.wr (Reg.SCH_ALM_STATUS_CYCLE l) (s.rd (Reg.SCH_ALM_CMD_SH_CYCLE l))
  let t := t.each 32 (fun k t => t.wr (Reg.SCH_ALM_ACTIVE_ENTRY l k) (s.shadowEntry l k))
  let t := t.setPort l { t.port l with takenAt := s.rd (Reg.SCH_ALM_TAKE_BELL l) }
  (t.wr (Reg.SCH_ALM_STATUS_ENTRY l) (if en = 1 then t.almEntry l else 0)).schEvent Reg.SCH_EVENT_TAKEN

/-- At edge T the shadow becomes active, or the almanac ends (R285). -/
def State.takeAlmanac (s : State) (l : Nat) : State :=
  if !s.on (Reg.SCH_ALM_CMD_ARMED l) || decide (s.count < s.rd (Reg.SCH_ALM_TAKE_BELL l)) then s
  else (s.takeOver l).ageClasses l

/-! ## Meanings -/

/-- The next moment of a refill: the edge, or a multiple of REFILL after it (R280); now, when it is one that no refill has met. -/
def State.refillAt (s : State) : Nat :=
  let step := s.fab.refillEvery * 500
  let since := s.now - s.bell.edgeAt
  let next := s.bell.edgeAt + (since / step + 1) * step
  if since % step = 0 ∧ s.fab.lastRefill < s.now then s.now else if s.on Reg.BELL_CTRL_EN then min next s.bell.nextAt else next

/-- SHAPER_REFILL (R280): the time of the next refill comes. -/
def execShaperRefill (s : State) : Host.Outcome State Fault Refusal := .next (s.atTime s.refillAt).refillAll.ageAll

/-- TX_FRAME_SELECT (R282): on a port that exists and whose link is up. -/
def execTxFrameSelect (port : Nat) (s : State) : Host.Outcome State Fault Refusal :=
  s.guarded (port < 32) (s.when (s.portExists port && s.on (Reg.FAB_PORT_STATUS_LINK_UP port)) (fun t => (t.selectFrame port).ageClasses port))

/-- ALMANAC_ARM (R285). -/
def execAlmanacArm (port : Nat) (s : State) : Host.Outcome State Fault Refusal :=
  s.fromPf 8 (s.guarded (port < 32) (s.when (!s.on (Reg.SCH_ALM_CMD_ARMED port)) (fun t => t.armAlmanac port)))

/-- ALMANAC_CANCEL (R285). -/
def execAlmanacCancel (port : Nat) (s : State) : Host.Outcome State Fault Refusal := s.fromPf 8 (s.guarded (port < 32) (s.wr (Reg.SCH_ALM_CMD_ARMED port) 0))

/-- ALMANAC_TAKEOVER (R285). -/
def execAlmanacTakeover (port : Nat) (s : State) : Host.Outcome State Fault Refusal := s.guarded (port < 32) (s.takeAlmanac port)

/-- When the offset passes the END of the entry in force, where that lies in this bell; else now (R284). -/
def State.almAdvanceAt (s : State) (l : Nat) : Nat :=
  let a := (s.almanac l).getD (s.almEntry l) 0
  let t := s.almEndsAt l (s.almEntry l) 0
  if !almLast a && almBell a == (s.almPos l).1 && decide (t ≤ s.bell.nextAt) then t else s.now

/-- ALMANAC_ENTRY_ADVANCE (R284): the offset passes the END of the entry in force, and STATUS.ENTRY shows the next. -/
def execAlmanacEntryAdvance (port : Nat) (s : State) : Host.Outcome State Fault Refusal :=
  s.guarded (port < 32) (s.when (s.on (Reg.SCH_ALM_STATUS_EN port)) (fun t =>
    let t := t.atTime (t.almAdvanceAt port)
    (t.wr (Reg.SCH_ALM_STATUS_ENTRY port) (t.almEntry port)).ageClasses port))

end Sys2Proof.Machine
end

