-- ==== Sys2Proof/Machine/Port.lean ====
section
/-! DEFINITION. Fabric ports: frames in, priority flow control, lane sparing and retraining (R201 to R209, R231). -/

namespace Sys2Proof.Machine

/-- FAB_PORT_EVENT bits go to vector 7. -/
def State.fabEvent (s : State) (l : Nat) (f : Nat → Fld) : State := s.event (f l) (Reg.FAB_PORT_EVENT_EN_EN l) 7

/-- The port that a lane belongs to (R201). -/
def State.portOfLane (s : State) (l : Nat) : Nat :=
  match s.qmode l with
  | 0 => l / 4 * 4
  | 1 => l / 2 * 2
  | _ => l

/-- Quad lanes of a port at full width. -/
def State.portLanes (s : State) (l : Nat) : List Nat := (List.range (s.fullWidth l)).map (fun i => l % 4 + i)

/-- A set of quad lanes as a mask. -/
def laneMask (l : List Nat) : Nat := (l.map (fun i => 2 ^ i)).sum

/-! ## Frames in (R203, R204) -/

/-- The frame's ingress priority (R265): of its own outer tag or IP header, whether or not the rest of it parses. -/
def State.framePrio (s : State) (b : List Nat) : Nat :=
  match parseL2 b { off := 0, next := 0, go := true, ipEnd := 0, exts := 0, h := Summary.empty } with
  | .error _ => s.rd Reg.PKT_CFG_DEF_PRIO
  | .ok r =>
    let g (o : Nat) : Nat := b.getD (r.off + o) 0
    if r.h.tag1 then r.h.tci1 / 8192
    else if r.go && (r.next == 0x800 || r.next == 0x86DD) then s.dscpPrio (if r.next = 0x800 then g 1 else g 0 % 16 * 16 + g 1 / 16)
    else s.rd Reg.PKT_CFG_DEF_PRIO

/-- PFC toward the partner: XOFF when the priority's ingress buffer reaches PFC_XOFF KiB, XON when it has fallen to PFC_XON
(R204). -/
def State.pfcSend (s : State) (l prio occupied : Nat) : State :=
  let x := s.port l
  let off := Tab.get false x.xoff prio
  if !bit (s.rd (Reg.FAB_PFC_CFG_PFC_EN l)) prio then s
  else if !off ∧ s.rd (Reg.FAB_PFC_CFG_PFC_XOFF l) * 1024 ≤ occupied then (s.setPort l { x with xoff := Tab.set false x.xoff prio true }).emit (.pfc l prio true)
  else if off ∧ occupied ≤ s.rd (Reg.FAB_PFC_CFG_PFC_XON l) * 1024 then (s.setPort l { x with xoff := Tab.set false x.xoff prio false }).emit (.pfc l prio false)
  else s

/-- The module is in Sleep, or on its way back from it (R359, R367). -/
def State.asleep (s : State) : Bool := s.rd Reg.PWR_STATE_STATE == 2

/-- An RKT frame. What Sleep answers of RKT has its own rows (R362). -/
def State.isRkt (s : State) (l : Nat) (b : List Nat) : Bool :=
  match s.parse l b with
  | .ok h => h.rkt
  | .error _ => false

/-- A port counts a frame that it drops (R203). -/
def State.frameDrop (s : State) (l : Nat) : State := s.setPort l { s.port l with drops := (s.port l).drops + 1 }

/-- A PAUSE frame is counted and discarded (Table 8.2). -/
def State.pauseFrame (s : State) (l : Nat) : State :=
  (s.setPort l { s.port l with pauses := (s.port l).pauses + 1 }).fabEvent l Reg.FAB_PORT_EVENT_PAUSE_RX

/-- What a priority holds of the ingress buffer of a port, and PFC toward the partner by it (R204). -/
def State.occupy (s : State) (l prio n : Nat) : State :=
  (s.setPort l { s.port l with ingress := Tab.set 0 (s.port l).ingress prio n }).pfcSend l prio n

/-- The ingress buffers drain while time passes, by an amount that the spec leaves open; a priority that falls to PFC_XON is released
(R204, notes/assumptions/73.md). -/
def State.drainIngress (s : State) : State :=
  s.fab.ports.foldl (fun t e => e.2.ingress.foldl (fun t q => t.draw.2.occupy e.1 q.1 (q.2 - t.draw.1 % (q.2 + 1))) t) s

/-- A frame (without its FCS) reaches a port: dropped, discarded as PAUSE, or taken by the parse pipeline (R202, R203); one that
Sleep does not answer is held until LOGIC_RDY (R365). -/
def State.frameIn (s : State) (l : Nat) (b : List Nat) (fcsOk : Bool) (occupied : Nat) (full : Bool) : State :=
  let dst := beNat (b.take 6)
  let n := b.length + 4
  if !s.portExists l || !s.on (Reg.FAB_PORT_STATUS_LINK_UP l) then s
  else if !fcsOk || decide (n < 64) || decide (s.rd (Reg.FAB_PORT_CTRL_MTU l) < n) then s.frameDrop l
  else if dst = 0x0180C2000001 ∧ beNat ((b.drop 12).take 4) = 0x88080001 then s.pauseFrame l
  else if !(bit (b.getD 0 0) 0) && dst != s.rd (Reg.FAB_PORT_MAC_MAC l) then s.frameDrop l
  else
    let prio := s.framePrio b
    let t := s.occupy l prio occupied
    if full && (t.asleep || !bit (s.rd (Reg.FAB_PFC_CFG_PFC_EN l)) prio) then t
    else if t.asleep && !t.isRkt l b then { t with pwr := { t.pwr with held := t.pwr.held ++ [(l, b)] } }
    else t.pipeline l b

/-! ## Paths and ports (R206 to R209, R223) -/

/-- Every path table entry on the port goes down (R223). -/
def State.portPathsDown (s : State) (l : Nat) : State := s.pathsDown ((List.range 4096).filter (fun i => s.rd (Reg.RKT_PATH_PORT i) == l))

/-- A packet that the port carried is not acknowledged and has not been sent again elsewhere (R209). -/
def State.portCarries (s : State) (l : Nat) : Bool :=
  s.conns.any (fun e => e.2.flights.any (fun f => !f.acked && s.rd (Reg.RKT_PATH_PORT (s.pathOf e.1 f.slot)) == l))

/-- A port event goes once to each partition that has a connection with a path entry on the port (R260). -/
def State.portAsync (s : State) (l code info : Nat) : State :=
  let ps := (s.conns.filter (fun e => decide (e.2.state ≠ .reset) &&
    (List.range (s.rd (Reg.RKT_CONN_PATH_N e.1) + 1)).any (fun k => s.rd (Reg.RKT_PATH_PORT (s.rd (Reg.RKT_CONN_PATH_BASE e.1) + k)) == l))).map (fun e => e.2.part)
  ps.eraseDups.foldl (fun t p => t.asyncEvent p code 0xFFFF info) s

/-- The port is reported down. -/
def State.portDown (s : State) (l : Nat) : State :=
  let t := (((s.wr (Reg.FAB_PORT_STATUS_LINK_UP l) 0).wr (Reg.FAB_PORT_STATUS_TRAINING l) 0).wr (Reg.FAB_PORT_STATUS_WIDTH l) 0).wr (Reg.FAB_PORT_STATUS_LANES l) 0
  let t := t.wr (Reg.FAB_PORT_STATUS_DEGRADED l) 0
  ((t.fabEvent l Reg.FAB_PORT_EVENT_LINK_DOWN).portPathsDown l).portAsync l 1 l

/-- The lanes on which a port with failed lanes, its own and `partner`'s (R207), re-forms (Table 8.3), none when it goes down: in peer
mode any healthy lanes of the port, else only those from which the standard width starts. -/
def State.reformLanes (s : State) (l partner : Nat) : Option (List Nat) :=
  let failed := Nat.lor (s.rd (Reg.FAB_PORT_STATUS_FAILED l)) partner
  let used := s.rd (Reg.FAB_PORT_STATUS_LANES l)
  let ok (i : Nat) : Bool := !bit failed i
  let first := l % 4
  let peer := s.on (Reg.FAB_PORT_CTRL_PEER l)
  match s.rd (Reg.FAB_PORT_STATUS_WIDTH l) with
  | 4 => if peer then (let h := (s.portLanes l).filter ok
                       if 2 ≤ h.length then some (h.take 2) else none)
         else if ok first && ok (first + 1) then some [first, first + 1] else none
  | 2 => if peer then (let h := (s.portLanes l).filter (fun i => ok i && bit used i)
                       h.head?.map (fun i => [i]))
         else if ok first then some [first] else none
  | _ => none

/-- A lane shows as failed (R209). -/
def State.laneLost (s : State) (lane : Nat) : State :=
  let l := s.portOfLane lane
  (s.wr (Reg.FAB_PORT_STATUS_FAILED l) (Nat.lor (s.rd (Reg.FAB_PORT_STATUS_FAILED l)) (2 ^ (lane % 4)))).fabEvent l Reg.FAB_PORT_EVENT_LANE_FAIL

/-- The port re-forms: its link is down, and its paths with it (R207, R223). -/
def State.startReform (s : State) (l : Nat) : State := ((s.wr (Reg.FAB_PORT_STATUS_TRAINING l) 1).wr (Reg.FAB_PORT_STATUS_LINK_UP l) 0).portPathsDown l

/-- A lane fails (R206): recorded, the port's paths go down, and the port re-forms; a 100G port goes down. On
a looped port it is counted and not acted on (R417). -/
def State.laneFail (s : State) (lane : Nat) : State :=
  let l := s.portOfLane lane
  if !s.portExists l || !bit (s.rd (Reg.FAB_PORT_STATUS_LANES l)) (lane % 4) then s
  else if s.on (Reg.TST_LOOP_ACTIVE l) then s.incSat (Reg.TST_LOOP_ERRORS l) 1
  else
    let t := s.laneLost lane
    if s.rd (Reg.FAB_PORT_STATUS_WIDTH l) = 1 then t.portDown l else t.startReform l

/-- The lane in use with the most symbol errors in a run of codewords that the port could not correct; which of several is a free value
(R206, notes/assumptions/73.md). -/
def State.worstLane (s : State) (l : Nat) (errors : List Nat) : State × Nat :=
  let used := (List.range 4).filter (fun i => bit (s.rd (Reg.FAB_PORT_STATUS_LANES l)) i)
  let most := (used.map (fun i => errors.getD i 0)).foldl max 0
  let worst := used.filter (fun i => errors.getD i 0 == most)
  (s.draw.2, l / 4 * 4 + worst.getD (s.draw.1 % max worst.length 1) 0)

/-- Trouble on a lane, or on the port of a lane (R206): loss of signal or lock fails the lane; more than SYM_LIMIT symbol errors in one
window of 1 µs too; UNCORR_RUN codewords in a row that could not be corrected fail the worst lane of the port. The codewords count. -/
def State.laneTrouble (s : State) (lane : Nat) (why : LaneTrouble) : State :=
  let l := s.portOfLane lane
  if !s.portExists l then s
  else match why with
    | .lost => s.laneFail lane
    | .symbols errors corrected =>
      (s.inc (Reg.FAB_FEC_CORR_COUNT l) corrected).when (decide (s.rd Reg.FAB_LANE_LIMITS_SYM_LIMIT < errors)) (fun t => t.laneFail lane)
    | .uncorrectable run errors =>
      (s.inc (Reg.FAB_FEC_UNCORR_COUNT l) run).when (decide (s.rd Reg.FAB_LANE_LIMITS_UNCORR_RUN ≤ run)) (fun t => (t.worstLane l errors).1.laneFail (t.worstLane l errors).2)

/-- The port's link is up on a set of quad lanes. -/
def State.linkOn (s : State) (l : Nat) (lanes : List Nat) : State :=
  ((((s.wr (Reg.FAB_PORT_STATUS_LINK_UP l) 1).wr (Reg.FAB_PORT_STATUS_TRAINING l) 0).wr (Reg.FAB_PORT_STATUS_WIDTH l) lanes.length).wr
    (Reg.FAB_PORT_STATUS_LANES l) (laneMask lanes)).wr (Reg.FAB_PORT_STATUS_DEGRADED l) (b2n (decide (lanes.length < s.fullWidth l)))

/-- The partner re-forms the port for lanes of its own that have failed (R207): a port that was up on one of them re-forms with it. -/
def State.partnerReforms (s : State) (l partner : Nat) : State :=
  s.when (s.on (Reg.FAB_PORT_STATUS_LINK_UP l) && Nat.land (s.rd (Reg.FAB_PORT_STATUS_LANES l)) partner != 0) (fun t => t.startReform l)

/-- Re-forming ends (R207): the port is up at the width of Table 8.3, or is reported down. `partner` is the set of quad lanes that failed
at the partner. -/
def State.reformed (s : State) (l : Nat) (up : Bool) (partner : Nat) : State :=
  if !s.on (Reg.FAB_PORT_STATUS_TRAINING l) then s
  else match s.reformLanes l partner with
    | some lanes =>
      if up then ((s.linkOn l lanes).fabEvent l Reg.FAB_PORT_EVENT_REFORMED).portAsync l 2 (l + 256 * lanes.length) else s.portDown l
    | none => s.portDown l

/-- A write of the quad modes (R231): a quad whose mode changes while one of its ports is enabled keeps it. -/
def State.writeQuads (s : State) (value : Nat) : State :=
  (List.range 8).foldl (fun t q =>
    let old := bits (s.rd Reg.FAB_CFG_QMODE) (2 * q) 2
    let new := bits value (2 * q) 2
    if old = new then t
    else if (List.range 4).any (fun i => s.portExists (4 * q + i) && s.on (Reg.FAB_PORT_CTRL_EN (4 * q + i))) then t.unsup .pf Reg.FAB_CFG true
    else t.wr Reg.FAB_CFG_QMODE (setBits (t.rd Reg.FAB_CFG_QMODE) (2 * q) 2 new)) s

/-- A retrain that waits goes on once no packet that the port carried is outstanding: the link goes down and trains (R209). -/
def State.tryRetrain (s : State) (l : Nat) : State :=
  if !(s.port l).retraining ∨ s.portCarries l then s
  else
    (((s.setPort l { s.port l with retraining := false, widthBefore := s.rd (Reg.FAB_PORT_STATUS_WIDTH l) }).wr (Reg.FAB_PORT_STATUS_LINK_UP l) 0).wr
      (Reg.FAB_PORT_STATUS_TRAINING l) 1).fabEvent l Reg.FAB_PORT_EVENT_LINK_DOWN

/-- Every retrain that waits and may go on goes on. -/
def State.tryRetrains (s : State) : State := s.fab.ports.foldl (fun t e => t.tryRetrain e.1) s

/-- A write of FAB_RETRAIN.RESTORE (R209): the port's paths are withdrawn, their packets sent elsewhere, and when none is outstanding any
more the link retrains at full width. -/
def State.retrain (s : State) (l : Nat) : State :=
  s.when (s.portExists l && s.on (Reg.FAB_PORT_CTRL_EN l)) (fun t =>
    let t := t.portPathsDown l
    (t.setPort l { t.port l with retraining := true }).tryRetrain l)

/-! ## Meanings -/

/-- FRAME_RECEIVED (R203): `bytes` from destination MAC address without the FCS; `occupied` is what the frame's priority then
holds of the ingress buffer, `full` says that the buffer had no room. -/
def execFrameReceived (port : Nat) (bytes : List Nat) (fcsOk : Bool) (occupied : Nat) (full : Bool) (s : State) : Host.Outcome State Fault Refusal :=
  s.guarded (port < 32) (s.frameIn port bytes fcsOk occupied full)

/-- Time of a number of pause quanta, of 512 bit times each, at the port's rate (R204). -/
def State.quantaTime (s : State) (l quanta : Nat) : Nat := quanta * 2048 / (100 * max (s.rd (Reg.FAB_PORT_STATUS_WIDTH l)) 1)

/-- The 10 ms after a PFC storm of a priority are not over (R205). -/
def State.storming (s : State) (l i : Nat) : Bool := decide (s.now + 1 < Tab.get 0 (s.port l).stormEnd i)

/-- What a PFC frame does to priority `i` of port `l` (R204, R205): none of a priority that is off; after a storm it is counted and
ignored; 0 quanta releases the priority, others pause it from now on for the quanta given. -/
def State.pauseBy (s : State) (l i pauses quanta : Nat) : State :=
  let x := s.port l
  let q := bits quanta (16 * i) 16
  if !bit pauses i || !bit (s.rd (Reg.FAB_PFC_CFG_PFC_EN l)) i then s
  else if s.storming l i then s.setPort l { x with stormFrames := x.stormFrames + 1 }
  else if q = 0 then s.setPort l { x with paused := Tab.set 0 x.paused i 0 }
  else s.setPort l { x with
    paused := if s.prioPaused l i then x.paused else Tab.set 0 x.paused i (s.now + 1)
    pauseEnd := Tab.set 0 x.pauseEnd i (s.now + s.quantaTime l q) }

/-- PFC_FRAME_RECEIVED (R204, R205): for each priority of `pauses`, its 16-bit quanta stand in `quanta`; 0 quanta end a pause. -/
def execPfcFrameReceived (port pauses quanta : Nat) (s : State) : Host.Outcome State Fault Refusal :=
  s.guarded (port < 32) ((s.each 8 (fun i t => t.pauseBy port i pauses quanta)).ageClasses port)

/-- The pause of a priority ends (R204). -/
def State.endPause (s : State) (l i : Nat) : State := (s.setPort l { s.port l with paused := Tab.set 0 (s.port l).paused i 0 }).ageClasses l

/-- PFC_PAUSE_END (R204): the quanta run out. -/
def execPfcPauseEnd (port prio : Nat) (s : State) : Host.Outcome State Fault Refusal :=
  s.guarded (port < 32 && prio < 8) (s.when (Tab.get 0 (s.port port).paused prio != 0) (fun t =>
    (t.atTime (Tab.get 0 (t.port port).pauseEnd prio)).endPause port prio))

/-- The time at which a paused priority has been paused for longer than PFC_STORM µs (R205). -/
def State.stormAt (s : State) (l i : Nat) : Nat := Tab.get 0 (s.port l).paused i + s.rd (Reg.FAB_PFC_CFG_PFC_STORM l) * 4000

/-- A PFC storm begins: frames for the priority are ignored for 10 ms (R205). -/
def State.storm (s : State) (l i : Nat) : State :=
  (s.setPort l { s.port l with stormEnd := Tab.set 0 (s.port l).stormEnd i (s.now + 40000001) }).fabEvent l Reg.FAB_PORT_EVENT_PFC_STORM

/-- PFC_STORM (R205): the priority's egress has stayed paused for longer than PFC_STORM µs. -/
def execPfcStorm (port prio : Nat) (s : State) : Host.Outcome State Fault Refusal :=
  s.guarded (port < 32 && prio < 8) (s.when (Tab.get 0 (s.port port).paused prio != 0 && !s.storming port prio &&
      decide (s.stormAt port prio < Tab.get 0 (s.port port).pauseEnd prio))
    (fun t => (t.atTime (t.stormAt port prio)).storm port prio))

/-- The 10 ms of a storm are over (R205). -/
def State.endStorm (s : State) (l i : Nat) : State := s.setPort l { s.port l with stormEnd := Tab.set 0 (s.port l).stormEnd i 0 }

/-- PFC_STORM_END (R205). -/
def execPfcStormEnd (port prio : Nat) (s : State) : Host.Outcome State Fault Refusal :=
  s.guarded (port < 32 && prio < 8) (s.when (Tab.get 0 (s.port port).stormEnd prio != 0) (fun t =>
    (t.atTime (Tab.get 0 (t.port port).stormEnd prio - 1)).endStorm port prio))

/-- LANE_FAIL (R206): what the receiver or the FEC reports of a lane. -/
def execLaneFail (r : LaneReport) (s : State) : Host.Outcome State Fault Refusal := s.guarded (r.lane < 32) (s.laneTrouble r.lane r.cause)

/-- PORT_REFORMED (R207). -/
def execPortReformed (port : Nat) (r : Reform) (s : State) : Host.Outcome State Fault Refusal :=
  s.guarded (port < 32) ((s.partnerReforms port r.partner).reformed port r.up r.partner)

/-- FAB_RETRAIN_RESTORE (R209). -/
def execFabRetrainRestore (port : Nat) (s : State) : Host.Outcome State Fault Refusal := s.fromPf 5 (s.guarded (port < 32) (s.retrain port))

/-- A retrain ends: full width, or the width the port had before with RESTORE_FAIL (R209). -/
def State.retrained (s : State) (l : Nat) (ok : Bool) : State :=
  if ok then (s.wr (Reg.FAB_PORT_STATUS_FAILED l) (Nat.land (s.rd (Reg.FAB_PORT_STATUS_FAILED l)) (15 - laneMask (s.portLanes l)))).linkOn l (s.portLanes l)
  else if (s.port l).widthBefore = 0 then (s.wr (Reg.FAB_PORT_STATUS_TRAINING l) 0).fabEvent l Reg.FAB_PORT_EVENT_RESTORE_FAIL
  else (s.linkOn l ((List.range 4).filter (fun i => bit (s.rd (Reg.FAB_PORT_STATUS_LANES l)) i))).fabEvent l Reg.FAB_PORT_EVENT_RESTORE_FAIL

/-- RETRAIN_COMPLETE (R209): of a link that trains; one whose port still carries packets has not begun to. -/
def execRetrainComplete (port : Nat) (ok : Bool) (s : State) : Host.Outcome State Fault Refusal :=
  let t := s.tryRetrain port
  s.guarded (port < 32) (if t.on (Reg.FAB_PORT_STATUS_TRAINING port) then t.retrained port ok else s)

/-- FAB_CFG_WRITE (R231). -/
def execFabCfgWrite (value : Nat) (s : State) : Host.Outcome State Fault Refusal := s.fromPf 5 (.next (s.writeQuads value))

/-- FAB_PORT_LINK_UP (R207): an enabled port has finished training at its full width. -/
def execFabPortLinkUp (port : Nat) (s : State) : Host.Outcome State Fault Refusal :=
  s.guarded (port < 32) (s.when (s.portExists port && s.on (Reg.FAB_PORT_CTRL_EN port)) (fun t => t.linkOn port (t.portLanes port)))

end Sys2Proof.Machine
end

