-- ==== Sys2Proof/Machine/Power.lean ====
section
/-! DEFINITION. Power (chapter 14): idle gating (R360), power states (R361 to R364), waking and the return order (R365 to R368),
clock and voltage (R369 to R371), the cap (R374), emergencies (R376, R377), temperature (R378, R379), pre-bias and droop
(R380, R381), and the input supply (R427 to R430). -/

namespace Sys2Proof.Machine

/-- PWR_EVENT bits go to vector 5. -/
def State.pwrEvent (s : State) (f : Fld) : State := s.event f Reg.PWR_EVENT_EN_EN 5

/-- MGT_EVENT bits go to vector 6 and to the sideband (R389). -/
def State.mgtEvent (s : State) (f : Fld) : State := s.event f Reg.MGT_EVENT_EN_EN 6

/-! ## Clock and voltage (R369 to R371) -/

/-- The enabled points of PWR_VF: pace and millivolts. -/
def State.vfPoints (s : State) : List (Nat × Nat) :=
  (List.range 8).filterMap (fun i => if s.on (Reg.PWR_VF_EN i) then some (s.rd (Reg.PWR_VF_PACE i), s.rd (Reg.PWR_VF_MV i)) else none)

/-- Millivolts between two points, interpolated and rounded up. -/
def vfBetween (a b : Nat × Nat) (pace : Nat) : Nat :=
  trunc 32 ((a.2 : Int) + -((-(((b.2 : Int) - (a.2 : Int)) * ((pace : Int) - (a.1 : Int)))) / ((b.1 : Int) - (a.1 : Int))))

/-- Millivolts that a pace requires: the lowest point's below it; 0 with no point enabled (notes/assumptions/25.md). -/
def State.vfNeeds (s : State) (pace : Nat) : Nat :=
  let ps := s.vfPoints
  match ps.find? (fun p => decide (pace ≤ p.1)), ps.filter (fun p => decide (p.1 < pace)) with
  | some b, [] => b.2
  | some b, l => vfBetween (l.getLastD b) b pace
  | none, l => (l.getLastD (0, 0)).2

/-- Highest pace of the table: 72 with no point enabled. -/
def State.vfTop (s : State) : Nat := ((s.vfPoints.map Prod.fst).foldl max 0) + (if s.vfPoints.isEmpty then 72 else 0)

/-- The highest pace, 16 to 72, that a voltage supports. -/
def State.vfPace (s : State) (mv : Nat) : Nat := (((List.range 57).map (· + 16)).filter (fun p => decide (s.vfNeeds p ≤ mv))).foldl max 16

/-- The least of the five values of R373. -/
def State.attainable (s : State) : Nat :=
  let m := min (min (s.rd Reg.PWR_CTRL_PACE_MAX) s.vfTop) (min (s.rd Reg.PWR_STATUS_CAP_PACE) (s.rd Reg.PWR_STATUS_THERM_PACE))
  if s.on Reg.PWR_STATUS_FLOOR then min m 16 else m

/-- The clock that the pace mode asks for (R371): in deterministic mode the lower of the pace and what local control can hold,
in free mode ATTAINABLE; the floor holds in both (R376). -/
def State.wantedPace (s : State) : Nat :=
  if s.on Reg.PWR_STATUS_FLOOR then 16
  else if s.on Reg.PWR_CTRL_MODE then s.rd Reg.BELL_PACE_ATTAINABLE
  else min (s.rd Reg.BELL_PACE_CURRENT) s.attainable

/-- The clock moves to a pace: lower at once; higher only as far as the voltage in place supports, the rest waits (R369, R370). -/
def State.moveClock (s : State) (w : Nat) : State :=
  let now := if w ≤ s.pwr.clock then w else max s.pwr.clock (min w (s.vfPace s.pwr.volt))
  { s.setClock now with pwr := { (s.setClock now).pwr with wanted := if now < w then some w else none } }

/-- The clock moves to what is asked for now. -/
def State.seekPace (s : State) : State := s.moveClock s.wantedPace

/-- A higher pace announced for the next bell: its voltage is raised ahead of it (R370). -/
def State.announced (s : State) : Nat :=
  if s.on Reg.BELL_CTRL_EN && !s.on Reg.PWR_CTRL_MODE then min s.bell.nextPace s.attainable else 0

/-- The set-point of the rails: what the pace in use, waited for or announced requires, and the pre-bias. -/
def State.setPoint (s : State) : Nat :=
  s.vfNeeds (max (s.pwr.wanted.getD s.pwr.clock) s.announced) + s.pwr.prebias.elim 0 (fun b => b.2)

/-- The clocks lost to a late rail up to now (R370). -/
def State.clocksLost (s : State) : Nat :=
  s.pwr.lost + s.pwr.lostFrom.elim 0 (fun t => (s.now - t) * (s.pwr.wanted.getD s.pwr.clock - s.pwr.clock) / 160)

/-- The rail reaches its set-point: a clock change that was held is applied (R369). -/
def State.voltageReached (s : State) : State :=
  let v := s.setPoint
  let t := s.setClock (s.pwr.wanted.getD s.pwr.clock)
  { t with pwr := { t.pwr with volt := v, wanted := none, lost := s.clocksLost, lostFrom := none } }.emit (.power "voltage" v)

/-- The fields of PWR_CTRL, each taken in its range (R370, R376, R378, R381). -/
def State.takePwrCtrl (s : State) (src : Src) (v : Nat) : State :=
  let put (t : State) (f : Fld) (lo hi : Nat) : State :=
    let x := bits v f.lsb f.w
    if lo ≤ x ∧ x ≤ hi then t.wr f x else t.unsup src Reg.PWR_CTRL true
  let t := (s.wr Reg.PWR_CTRL_MODE (v % 2)).wr Reg.PWR_CTRL_PREBIAS_EN (bits v 1 1)
  let t := if bit v 2 ∨ t.rd Reg.TST_STATUS_MODE ≠ 0 then t.wr Reg.PWR_CTRL_DROOP_EN (bits v 2 1) else t.unsup src Reg.PWR_CTRL true
  let t := put (put (put (t.wr Reg.PWR_CTRL_ALERT_OUT_EN (bits v 3 1)) Reg.PWR_CTRL_PACE_MAX 16 72) Reg.PWR_CTRL_ALERT_HOLD 1 255) Reg.PWR_CTRL_THERM_STEP 1 255
  t.seekPace

/-- A write of PWR_CTRL (R371, R447): free mode only with SOURCE local and REPORT_EN 0; DROOP_EN takes 0 only in test mode or
under the debug unlock (R381). -/
def State.writePwrCtrl (s : State) (src : Src) (v : Nat) : State :=
  if bit v 0 ∧ (s.rd Reg.BELL_CTRL_SOURCE ≠ 0 ∨ s.on Reg.BELL_CTRL_REPORT_EN) then s.unsup src Reg.PWR_CTRL true
  else
    s.takePwrCtrl src v

/-! ## The cap (R374) -/

/-- One sample of input power: `mv` millivolts and `cur` in 10 mA units, 10 µs after the one before. -/
def State.powerSample (s : State) (mv cur : Nat) : State :=
  let now := mv * cur / 100000
  let n := s.rd Reg.PWR_CAP_TAU * 100
  let l := (now :: s.pwr.samples).take n
  let avg := l.sum / max l.length 1
  let e := s.pwr.energy + mv * cur
  let unmet := if s.rd Reg.PWR_CAP_WATTS < avg ∧ s.rd Reg.PWR_STATUS_CAP_PACE = 16 then s.pwr.overCount + 1 else 0
  let t : State := { s with pwr := { s.pwr with samples := l, energy := e % 10000000, overCount := unmet } }
  let t := (((t.wr Reg.PWR_INPUT_MV mv).wr Reg.PWR_INPUT_CURRENT cur).wr Reg.PWR_INPUT_NOW now).wr Reg.PWR_INPUT_AVG avg
  (t.inc Reg.PWR_ENERGY_MJ (e / 10000000)).when (decide (n ≤ unmet)) (fun t => t.pwrEvent Reg.PWR_EVENT_CAP_UNMET)

/-- The cap pace at an edge. -/
def State.capEdge (s : State) : State :=
  let avg := s.rd Reg.PWR_INPUT_AVG
  let cap := s.rd Reg.PWR_CAP_WATTS
  let p := s.rd Reg.PWR_STATUS_CAP_PACE
  let good (t : State) (n : Nat) : State := { t with pwr := { t.pwr with capGood := n } }
  let t :=
    if cap < avg then good (s.wr Reg.PWR_STATUS_CAP_PACE (max (p - 1) 16)) 0
    else if avg + s.rd Reg.PWR_CAP_HYST < cap then
      (if s.rd Reg.PWR_CAP_RAISE ≤ s.pwr.capGood + 1 then good (s.wr Reg.PWR_STATUS_CAP_PACE (min (p + 1) 72)) 0 else good s (s.pwr.capGood + 1))
    else good s 0
  t.when (decide (t.rd Reg.PWR_STATUS_CAP_PACE < t.rd Reg.PWR_CTRL_PACE_MAX)) (fun t => t.pwrEvent Reg.PWR_EVENT_CAP_ACTIVE)

/-! ## Emergencies (R376, R377) -/

/-- One of the five conditions of EMERG holds. -/
def State.emergHolds (s : State) : Bool :=
  s.on Reg.PWR_STATUS_ALERT_PIN || s.on Reg.PWR_STATUS_ALERT_REG || s.on Reg.PWR_STATUS_UNDERVOLT || s.on Reg.PWR_STATUS_THERM || s.on Reg.PWR_STATUS_FLOOR

/-- EMERG becomes 1 with any condition; it clears only at an edge. -/
def State.raiseEmerg (s : State) : State :=
  if s.emergHolds && !s.on Reg.PWR_STATUS_EMERG then
    (((s.wr Reg.PWR_STATUS_EMERG 1).wr Reg.PWR_STATUS_QUIET 0).pwrEvent Reg.PWR_EVENT_EMERG_ON).mgtEvent Reg.MGT_EVENT_EMERG
  else s

/-- EMERG and QUIET at an edge. -/
def State.emergEdge (s : State) : State :=
  if s.on Reg.PWR_STATUS_EMERG then
    if s.emergHolds then s else ((s.wr Reg.PWR_STATUS_EMERG 0).wr Reg.PWR_STATUS_QUIET 0).pwrEvent Reg.PWR_EVENT_EMERG_OFF
  else s.incSat Reg.PWR_STATUS_QUIET 1

/-- Two edges have passed since EMERG was last 1 (R405). -/
def State.quietEnough (s : State) : Bool := !s.on Reg.PWR_STATUS_EMERG && decide (2 ≤ s.rd Reg.PWR_STATUS_QUIET)

/-- An armed activation whose edge has come is deferred during an emergency and until two edges after it (R405). -/
def State.deferFirmware (s : State) : State := (s.wr Reg.MGT_FW_STATUS_DEFERRED 1).mgtEvent Reg.MGT_EVENT_DEFERRED

/-- FLOOR follows its sources; during a return its action waits for LOGIC_RDY (R368). -/
def State.applyFloor (s : State) : State :=
  match s.pwr.transit with
  | some (.returning _ _) => s.raiseEmerg
  | _ => ((s.wr Reg.PWR_STATUS_FLOOR (b2n (!s.pwr.floors.isEmpty))).raiseEmerg).when (!s.pwr.floors.isEmpty) (fun t => t.seekPace)

/-- A source of FLOOR begins to hold. -/
def State.floorOn (s : State) (src : Nat) : State :=
  { s with pwr := { s.pwr with floors := if s.pwr.floors.contains src then s.pwr.floors else s.pwr.floors ++ [src] } }.applyFloor

/-- Status bit of a source of FLOOR. -/
def floorBit (src : Nat) : Fld :=
  match src with
  | 0 => Reg.PWR_STATUS_ALERT_PIN
  | 1 => Reg.PWR_STATUS_ALERT_REG
  | 2 => Reg.PWR_STATUS_UNDERVOLT
  | _ => Reg.PWR_STATUS_THERM

/-- A source has been clear for ALERT_HOLD µs. Sensors are clear only while none is at its emergency limit; with the regulators'
over-current the module's own hold of PWR_ALERT_N ends. -/
def State.floorOff (s : State) (src : Nat) : State :=
  if src = 3 ∧ s.on Reg.PWR_STATUS_THERM then s
  else
    let s := s.when (src == 1 && s.on Reg.PWR_STATUS_ALERT_REG && s.on Reg.PWR_CTRL_ALERT_OUT_EN) (fun t => t.emit (.pin "PWR_ALERT_N" true))
    { (s.wr (floorBit src) 0) with pwr := { s.pwr with floors := s.pwr.floors.filter (· != src) } }.applyFloor

/-- The regulators signal over-current: the floor, and PWR_ALERT_N driven low when ALERT_OUT_EN is 1. -/
def State.overCurrent (s : State) : State :=
  let t := (s.wr Reg.PWR_STATUS_ALERT_REG 1).floorOn 1
  t.when (t.on Reg.PWR_CTRL_ALERT_OUT_EN) (fun t => (((t.emit (.pin "PWR_ALERT_N" false)).wr Reg.PWR_STATUS_ALERT_PIN 1).floorOn 0))

/-! ## Temperature (R378) -/

/-- Limit class of a sensor, none for the coolant sensors. -/
def sensorClass (i : Nat) : Option Nat := if i < 18 then some 0 else if i < 26 then some 1 else if i < 52 then some 2 else if i < 64 then some 3 else none

/-- The last sample of a sensor, in 0.25 °C. -/
def State.temp (s : State) (i : Nat) : Int := sext 11 (s.rd (Reg.PWR_TEMP_TEMP i))

/-- Some sensor with a sample stands `f` its limit of a kind. -/
def State.anySensor (s : State) (limit : Nat → Fld) (f : Int → Int → Bool) : Bool :=
  (List.range 64).any (fun i => s.on (Reg.PWR_TEMP_VALID i) && (sensorClass i).elim false (fun c => f (s.temp i) (4 * (s.rd (limit c) : Int))))

/-- A sensor is sampled. -/
def State.sensorSample (s : State) (i v : Nat) : State :=
  let t := (s.wr (Reg.PWR_TEMP_TEMP i) v).wr (Reg.PWR_TEMP_VALID i) 1
  let hot := t.anySensor Reg.PWR_THERM_LIM_EMERG (fun x l => decide (l ≤ x))
  (t.wr Reg.PWR_STATUS_THERM (b2n hot)).when hot (fun t => t.floorOn 3)

/-- Some sensor is above its throttle limit; every sensor is at least 5 °C below it. -/
def State.throttled (s : State) : Bool := s.anySensor Reg.PWR_THERM_LIM_THROTTLE (fun x l => decide (l < x))
def State.coolEnough (s : State) : Bool := !s.anySensor Reg.PWR_THERM_LIM_THROTTLE (fun x l => decide (l - 20 < x))

/-- Bells counted toward the next thermal step. -/
def State.thermEdge (s : State) : State :=
  { s with pwr := { s.pwr with hot := min (s.pwr.hot + 1) 255, cool := if s.coolEnough then min (s.pwr.cool + 1) 1020 else 0 } }

/-- The thermal pace falls or rises by one unit. -/
def State.thermStep (s : State) : State :=
  let p := s.rd Reg.PWR_STATUS_THERM_PACE
  let n := s.rd Reg.PWR_CTRL_THERM_STEP
  if s.throttled then
    if n ≤ s.pwr.hot ∧ 16 < p then ({ s with pwr := { s.pwr with hot := 0 } }.wr Reg.PWR_STATUS_THERM_PACE (p - 1)).pwrEvent Reg.PWR_EVENT_THROTTLE else s
  else if 4 * n ≤ s.pwr.cool ∧ p < 72 then { s with pwr := { s.pwr with cool := 0 } }.wr Reg.PWR_STATUS_THERM_PACE (p + 1)
  else s

/-! ## What a loss of power leaves (R4, R359, R363, R364) -/

/-- A register field of the AUX domain, or one that mirrors AUX storage. -/
def auxField (key : Nat) : Bool :=
  let a := key / 8
  (decide (0x40000 ≤ a) && decide (a < 0x40100)) || (decide (0x100 ≤ a) && decide (a < 0x10C)) || (decide (4 ≤ a) && decide (a < 12))

/-- A field that a warm start and Deep sleep leave: one of access type RWS, and the shield alarm and the alarm count, which only a cold
start clears (R328). -/
def rwsField (key : Nat) : Bool :=
  key == Reg.CIPH_ALARM_SHIELD.key || key == Reg.CIPH_ALARM_COUNT.key ||
  key == Reg.PCI_HB_CFG_PERIOD.key || key == Reg.PCI_HB_SCOPE_PARTS.key || (decide (0x680018 ≤ key / 8) && decide (key / 8 < 0x680020))

/-- A field of PWR_STATUS that shows a level outside the Reeve's reach: the alert pin, the regulators and the input, with the floor and
the emergency they hold (R368, R376; notes/assumptions/62.md). -/
def levelField (key : Nat) : Bool :=
  [Reg.PWR_STATUS_ALERT_PIN, Reg.PWR_STATUS_ALERT_REG, Reg.PWR_STATUS_UNDERVOLT, Reg.PWR_STATUS_FLOOR, Reg.PWR_STATUS_EMERG].any (fun f => f.key == key)

/-- The module with everything at its start values but AUX storage and AUX registers, flash, RWS values and the levels that still hold
when `warm`, and what stands outside the module. -/
def State.wipe (s : State) (warm : Bool) : State :=
  { State.reset with
    pending := s.pending, out := s.out, now := s.now, free := s.free
    regs := s.regs.filter (fun e => auxField e.1 || (warm && (rwsField e.1 || levelField e.1)))
    pci := { Pci.reset with perst := s.pci.perst, training := s.pci.training }
    evlog := { s.evlog with seen := [] }
    pwr := { Pwr.reset with
      savedMap := s.pwr.savedMap, auxOut := s.pwr.auxOut, aux := s.pwr.aux, switchOpen := s.pwr.switchOpen
      floors := if warm then s.pwr.floors.filter (· != 3) else [] }
    rv := { Reeve.reset with
      auxKey := s.rv.auxKey, cache := s.rv.cache, owner := s.rv.owner, slotA := s.rv.slotA, slotB := s.rv.slotB, svnFloor := s.rv.svnFloor
      leafEnd := s.rv.leafEnd, leafClean := s.rv.leafClean, epoch := s.rv.epoch, retry := s.rv.retry, retryFrom := s.rv.retryFrom }
    hostBlobs := s.hostBlobs }

/-- The module in Off: AUX storage is left, the AUX key register is clear (R364, R407). A requested Off leaves a clean record
of the next leaf (R409). -/
def State.enterOff (s : State) (cause sensor : Nat) : State :=
  let leaf := if cause = 0 then some (s.rd Reg.MGT_XMSS_NEXT) else s.rv.leafClean
  let t := s.wipe false
  let t : State := { t with pwr := { t.pwr with off := true, transit := none }, rv := { t.rv with auxKey := false, leafClean := leaf } }
  let t := ((t.wr Reg.PWR_LAST_OFF_CAUSE cause).wr Reg.PWR_LAST_OFF_SENSOR sensor).wr Reg.PWR_STATE_STATE 0
  ((t.wr Reg.PWR_STATE_TRANSIT 0).wr Reg.PWR_REQ_BUSY 0).emit (.power "core rails" 0)

/-- The 1 MiB tile-store units that PWR_DS_TS retains: first addresses. -/
def State.dsUnits (s : State) : List Nat :=
  ((List.range 32).map (fun u =>
    (if s.on (Reg.PWR_DS_TS_EN_A u) then [tileBase (s.rd (Reg.PWR_DS_TS_ENGINE_A u)) + s.rd (Reg.PWR_DS_TS_UNIT_A u) * 2 ^ 20] else []) ++
    (if s.on (Reg.PWR_DS_TS_EN_B u) then [tileBase (s.rd (Reg.PWR_DS_TS_ENGINE_B u)) + s.rd (Reg.PWR_DS_TS_UNIT_B u) * 2 ^ 20] else []))).flatten.eraseDups

/-- A module address survives Deep sleep (R363). -/
def State.dsKeeps (s : State) (a : Nat) : Bool :=
  match spaceOf a with
  | .gddr _ => bit (s.rd Reg.PWR_DS_MEM_PD) (s.pdOf (ldOf a))
  | .tile _ _ => s.dsUnits.any (fun b => decide (b ≤ a) && decide (a < b + 2 ^ 20))
  | _ => false

/-- The module in Deep sleep: the link is down, the constellation left, all but the retained memories and AUX storage lost; the
devices that were not retained are marked for the warm start (R363, R409). -/
def State.enterDeep (s : State) : State :=
  let u := s.linkDown
  let t := u.wipe true
  let lost := (List.range 24).filter (fun ld => !bit (s.rd Reg.PWR_DS_MEM_PD) (s.pdOf ld))
  let t : State := { t with
    mem := s.mem.filter (fun e => s.dsKeeps e.1)
    memSt := { MemSt.reset with
      ldMap := s.memSt.ldMap
      bad := s.memSt.bad.filter (fun e => s.dsKeeps e.1)
      lostGranule := s.memSt.lostGranule
      lostDev := lost.foldl (fun m ld => Tab.set false m ld true) s.memSt.lostDev
      rewritten := s.memSt.rewritten.filter (fun e => s.dsKeeps (e.1 * 256)) }
    pwr := { t.pwr with
      vesper := ((List.range 32).filter s.portExists).map (fun l => (l, s.rd (Reg.FAB_PORT_MAC_MAC l)))
      savedMap := [0, 1].map (fun d => ((List.range 8).map (fun l => s.rd (meMapFld (d * 8 + l)) * 2 ^ (4 * l))).sum) ++ [0, 1].map (fun d => s.rd (Reg.ME_DIE_STATUS_FAILED d)) }
    rv := { t.rv with leafClean := some (s.rd Reg.MGT_XMSS_NEXT) } }
  ((t.wr Reg.PWR_STATE_STATE 3).wr Reg.PWR_STATE_RDY 0).wr Reg.PWR_STATE_TRANSIT 0

/-! ## Requests and their end (R361 to R363) -/

/-- A request ends with a result. -/
def State.endReq (s : State) (result : Nat) : State := ((s.wr Reg.PWR_REQ_BUSY 0).wr Reg.PWR_REQ_RESULT result).pwrEvent Reg.PWR_EVENT_REQ_DONE

/-- A transition begins or ends. -/
def State.setTransit (s : State) (x : Option Transit) : State := { s with pwr := { s.pwr with transit := x } }.wr Reg.PWR_STATE_TRANSIT (b2n x.isSome)

/-- The conditions of R362. -/
def State.maySleep (s : State) : Bool :=
  s.parts.all (fun e => e.1 == 0 || !(decide (e.2.state = .run) || decide (e.2.state = .freezing))) &&
  s.ctxs.all (fun e => !isTc e.1 || !e.2.alive) && s.slots.all (fun e => e.2.queue.isEmpty) && s.copies.all (fun e => e.2.queue.isEmpty) &&
  s.blk.cmds.isEmpty && s.ciph.reqs.isEmpty && s.conns.all (fun e => e.2.msgs.all (·.ended) && e.2.opens.isEmpty) &&
  s.flt.replays.isEmpty && s.flt.ckps.all (fun e => e.2.run.isNone && s.rd (Reg.CKP_STATUS_STATE e.1) == 0)

/-- Every tenant partition is FREE. -/
def State.tenantsFree (s : State) : Bool := s.parts.all (fun e => e.1 == 0 || decide (e.2.state = .free))

/-- A request for a state is checked and its entry begins: 2 Sleep, 3 Deep sleep, 4 Off. -/
def State.carryOut (s : State) (target : Nat) (sideband : Bool) : State :=
  if target ≠ 4 ∧ !s.fwRuns then s.endReq 5
  else if target = 3 ∧ sideband then s.endReq 5
  else if target = 2 ∧ !s.maySleep then s.endReq 3
  else if target = 3 ∧ !(s.maySleep && s.tenantsFree) then s.endReq 3
  else if target = 3 ∧ (decide (64 < s.dsUnits.length) || (List.range 26).any (fun p => bit (s.rd Reg.PWR_DS_MEM_PD) p && s.devLost p)) then s.endReq 4
  else (s.wr Reg.PWR_REQ_BUSY 1).setTransit (some (.entering target))

/-- A write of PWR_REQ.TARGET: discarded while BUSY; during a Reeve reset it waits (R361, R385). -/
def State.powerReq (s : State) (target : Nat) (sideband : Bool) : State :=
  if s.pwr.off then s
  else if s.on Reg.PWR_REQ_BUSY then s.unsup .pf Reg.PWR_REQ true
  else if s.rd Reg.MGT_STATUS_STATE = 4 then { (s.wr Reg.PWR_REQ_BUSY 1) with rv := { s.rv with waiting := s.rv.waiting ++ [(target, sideband)] } }
  else s.carryOut target sideband

/-- The entry completes. -/
def State.entryDone (s : State) : State :=
  match s.pwr.transit with
  | some (.entering 2) => (((s.setTransit none).wr Reg.PWR_STATE_STATE 2).wr Reg.PWR_STATE_RDY 0).endReq 0
  | some (.entering 3) => (s.enterDeep).endReq 0
  | some (.entering _) => s.enterOff 0 0
  | _ => s

/-! ## Waking (R365 to R368) -/

/-- The module leaves Sleep or Deep sleep, or stops an entry; a wake from Idle ungates every block. -/
def State.wakeUp (s : State) (cause : Fld) : State :=
  let t := (s.wr cause 1).pwrEvent Reg.PWR_EVENT_WAKE
  match s.pwr.transit with
  | some (.entering _) => ((t.endReq 6).setTransit (some (.returning false 0))).wr Reg.PWR_STATE_RDY 0
  | some (.returning _ _) => t
  | none =>
    if s.rd Reg.PWR_STATE_STATE = 2 then t.setTransit (some (.returning false 0))
    else if s.rd Reg.PWR_STATE_STATE = 3 then t.setTransit (some (.returning true 0))
    else { t with pwr := { t.pwr with gated := [], idle := [] } }

/-- The module sleeps, sleeps deeply, or idles with every block gated, or is entering one of these (Table 14.3). -/
def State.inState (s : State) (n : Nat) : Bool :=
  match s.pwr.transit with
  | some (.entering m) => m == n
  | some (.returning _ _) => false
  | none => if n = 1 then s.rd Reg.PWR_STATE_STATE == 0 && s.allGated && !s.pwr.off else s.rd Reg.PWR_STATE_STATE == n

/-- A wake source acts: 0 a TLP or the host lanes, 1 a fabric frame, 2 a signal on a lane, 4 WAKE_N low for `low` 100 ns. -/
def State.wakeBy (s : State) (src lane low : Nat) : State :=
  let deep := s.inState 3
  let light := s.inState 1 || s.inState 2
  match src with
  | 0 => if s.on Reg.PWR_WAKE_EN_PCIE ∧ (deep ∨ light) then s.wakeUp Reg.PWR_WAKE_CAUSE_PCIE else s
  | 1 => if s.on Reg.PWR_WAKE_EN_FAB_FRAME ∧ light then (s.wakeUp Reg.PWR_WAKE_CAUSE_FAB_FRAME).wr Reg.PWR_WAKE_CAUSE_LANE lane else s
  | 2 => if bit (s.rd Reg.PWR_WAKE_EN_FAB_SIG) (lane / 4) ∧ deep then (s.wakeUp Reg.PWR_WAKE_CAUSE_FAB_SIG).wr Reg.PWR_WAKE_CAUSE_LANE lane else s
  | 4 =>
    if low < s.rd Reg.HUB_FILTER_WAKE then s
    else if s.pwr.off then s.wr Reg.PWR_WAKE_CAUSE_WAKE_N 1
    else if deep ∨ light ∨ s.inState 4 then s.wakeUp Reg.PWR_WAKE_CAUSE_WAKE_N
    else s
  | _ => s

/-- CRC of the vesper check: polynomial 0x1021, initial value 0xFFFF, no reflection, over the six target bytes (R366). -/
def vesperCrc (target : Nat) : Nat :=
  (List.range 48).foldl (fun c i =>
    let top := bits c 15 1 ^^^ bits target (47 - i) 1
    ((c * 2) % 65536) ^^^ (if top = 1 then 0x1021 else 0)) 0xFFFF

/-- The MAC address that the vesper detector of a port compares, none where no detector listens: of the ports of the quad modes in
force at entry (R366). -/
def State.vesperMac (s : State) (port : Nat) : Option Nat :=
  if s.rd Reg.PWR_STATE_STATE = 3 then (s.pwr.vesper.find? (fun e => e.1 == port)).map (·.2)
  else if s.portExists port then some (s.rd (Reg.FAB_PORT_MAC_MAC port)) else none

/-- A 96-bit sequence, first bit highest, is the pattern for a target that wakes the port. -/
def State.vesperOk (s : State) (port seq : Nat) : Bool :=
  let target := bits seq 16 48
  (s.vesperMac port).isSome &&
  bits seq 80 16 == 0xAAAA && bits seq 64 16 == 0x1F35 && bits seq 0 16 == vesperCrc target &&
  (s.vesperMac port == some target || (target == 2 ^ 48 - 1 && s.on Reg.PWR_WAKE_EN_VESPER_ANY))

/-- A ready signal of the return order rises; LOGIC_RDY ends the return: frames held go on, an emergency acts, the clock rises
from the floor (R367 to R369); the return from Deep sleep goes on with a warm start (R363). -/
def State.returnStep (s : State) : State :=
  match s.pwr.transit with
  | some (.returning deep k) =>
    let s := s.when (decide (3 ≤ k) && deep) (fun t => t.wr Reg.PWR_STATUS_FLOOR (b2n (!t.pwr.floors.isEmpty)))
    let t := s.wr Reg.PWR_STATE_RDY (Nat.lor (s.rd Reg.PWR_STATE_RDY) (2 ^ k))
    let t : State := if k = 0 then { t.setClock 16 with pwr := { (t.setClock 16).pwr with wanted := none, volt := t.vfNeeds 16 } } else t
    if k < 3 ∨ deep then { t with pwr := { t.pwr with transit := some (.returning deep (min (k + 1) 4)) } }
    else
      let t := ((t.setTransit none).wr Reg.PWR_STATE_STATE 0).applyFloor
      let frames := t.pwr.held
      (frames.foldl (fun (t : State) f => t.pipeline f.1 f.2) { t with pwr := { t.pwr with held := [] } }).seekPace
  | _ => s

/-! ## Pre-bias and droop (R380, R381) -/

/-- H(b): the levels announced for a bell over the logical engines. -/
def State.heavySum (s : State) (b : Nat) : Nat := ((s.heavy.filter (fun h => h.bell == b)).map (·.level)).sum

/-- When the pre-bias for the next bell begins: LEAD before its edge, or at the edge before it when LEAD is longer. -/
def State.prebiasAt (s : State) : Nat := max s.bell.edgeAt (s.bell.nextAt - s.rd Reg.PWR_HEAVY_LEAD * 500)

/-- The pre-bias for the next bell `b` begins, at its time, when H rises by MIN or more. -/
def State.prebiasOn (s : State) (b : Nat) : State :=
  let rise := s.heavySum b - (if b = 0 then 0 else s.heavySum (b - 1))
  if !s.on Reg.PWR_CTRL_PREBIAS_EN ∨ rise < s.rd Reg.PWR_HEAVY_MIN ∨ b ≠ s.count + 1 then s
  else
    let mv := min 16 (2 * (rise / 16))
    let s := s.atTime s.prebiasAt
    { s with pwr := { s.pwr with prebias := some (b, mv) } }.emit (.power "pre-bias" mv)

/-! ## Meanings -/

/-- CLOCK_GATE (R360). -/
def execClockGate (b : Nat) (s : State) : Host.Outcome State Fault Refusal :=
  s.guarded (b < 144) (if s.on Reg.PWR_IDLE_EN ∧ s.rd Reg.PWR_IDLE_BELLS ≤ Tab.get 0 s.pwr.idle b ∧ !s.blockBusy b ∧ !Tab.get false s.pwr.touched b then
    { s with pwr := { s.pwr with gated := Tab.set false s.pwr.gated b true } } else s)

/-- SLEEP_REQUEST (R362). -/
def execSleepRequest (s : State) : Host.Outcome State Fault Refusal := s.fromPf 1 (.next (s.powerReq 2 false))
/-- DEEP_SLEEP_REQUEST (R363). -/
def execDeepSleepRequest (sideband : Bool) (s : State) : Host.Outcome State Fault Refusal := .next (s.powerReq 3 sideband)
/-- OFF_REQUEST (R364). -/
def execOffRequest (s : State) : Host.Outcome State Fault Refusal := s.fromPf 1 (.next (s.powerReq 4 false))
/-- POWER_ENTRY_COMPLETE (R361). -/
def execPowerEntryComplete (s : State) : Host.Outcome State Fault Refusal := .next s.entryDone
/-- WAKE (R365). -/
def execWake (source lane low : Nat) (s : State) : Host.Outcome State Fault Refusal := s.guarded (source < 5 && lane < 32) (s.wakeBy source lane low)

/-- VESPER_DETECT (R366): two consecutive sequences on the first lane of a port. -/
def execVesperDetect (port seq1 seq2 : Nat) (s : State) : Host.Outcome State Fault Refusal :=
  s.guarded (port < 32) (if s.on Reg.PWR_WAKE_EN_VESPER ∧ s.vesperOk port seq1 ∧ s.vesperOk port seq2 ∧ (s.inState 2 ∨ s.inState 3) then
    (s.wakeUp Reg.PWR_WAKE_CAUSE_VESPER).wr Reg.PWR_WAKE_CAUSE_LANE port else s)

/-- RETURN_STEP_READY (R367). -/
def execReturnStepReady (s : State) : Host.Outcome State Fault Refusal := .next s.returnStep
/-- VOLTAGE_REACHED (R369). -/
def execVoltageReached (s : State) : Host.Outcome State Fault Refusal := .next s.voltageReached
/-- PACE_MODE_WRITE (R371): a write of PWR_CTRL. -/
def execPaceModeWrite (value : Nat) (s : State) : Host.Outcome State Fault Refusal := s.fromPf 1 (.next (s.writePwrCtrl .pf value))
/-- POWER_SAMPLE (R374). -/
def execPowerSample (mv current : Nat) (s : State) : Host.Outcome State Fault Refusal := s.guarded (mv < 65536 && current < 65536) (s.powerSample mv current)

/-- PWR_ALERT_ASSERT (R376): a low level of `low` 50 ns units; shorter than its filter it is ignored (R439). -/
def execPwrAlertAssert (low : Nat) (s : State) : Host.Outcome State Fault Refusal :=
  .next (if low < s.rd Reg.HUB_FILTER_ALERT then s else (s.wr Reg.PWR_STATUS_ALERT_PIN 1).floorOn 0)

/-- ALERT_HOLD_END (R376): 0 the alert pin, 1 the regulators, 2 the input, 3 the sensors. -/
def execAlertHoldEnd (source : Nat) (s : State) : Host.Outcome State Fault Refusal := s.guarded (source < 4) (s.floorOff source)
/-- REGULATOR_OVERCURRENT (R376, R430). -/
def execRegulatorOvercurrent (s : State) : Host.Outcome State Fault Refusal := .next s.overCurrent
/-- INPUT_UNDERVOLTAGE (R376). -/
def execInputUndervoltage (s : State) : Host.Outcome State Fault Refusal := .next ((s.wr Reg.PWR_STATUS_UNDERVOLT 1).floorOn 2)
/-- SENSOR_SAMPLE (R378): `value` in 0.25 °C, 11 bits. -/
def execSensorSample (i value : Nat) (s : State) : Host.Outcome State Fault Refusal := s.guarded (i < 66) (s.sensorSample i value)
/-- THERMAL_STEP (R378). -/
def execThermalStep (s : State) : Host.Outcome State Fault Refusal := .next s.thermStep
/-- THERMAL_SHUTDOWN (R379): the comparator of sensor `i` has met its shutdown limit. -/
def execThermalShutdown (i : Nat) (s : State) : Host.Outcome State Fault Refusal := s.guarded (i < 64) (s.enterOff 1 i)
/-- UNDERVOLTAGE_LOCKOUT (R427). -/
def execUndervoltageLockout (s : State) : Host.Outcome State Fault Refusal := .next (s.enterOff 2 0)
/-- HOTSWAP_TRIP (R430): the switch opens; the lockout that follows has its own row. -/
def execHotswapTrip (s : State) : Host.Outcome State Fault Refusal :=
  .next ({ s with pwr := { s.pwr with switchOpen := true } }.emit (.power "hot-swap switch" 0))
/-- PREBIAS_START (R380). -/
def execPrebiasStart (bell : Nat) (s : State) : Host.Outcome State Fault Refusal := .next (s.prebiasOn bell)
/-- PREBIAS_END (R380): the time comes that lies HOLD after edge `b`; not before that edge. -/
def execPrebiasEnd (s : State) : Host.Outcome State Fault Refusal :=
  .next (match s.pwr.prebias with
    | none => s
    | some b =>
      if s.count < b.1 then s
      else
        let s := if b.1 = s.count then s.atTime (s.bell.edgeAt + s.rd Reg.PWR_HEAVY_HOLD * 500) else s
        { s with pwr := { s.pwr with prebias := none } }.emit (.power "pre-bias" 0))
/-- DROOP_DETECT (R381). -/
def execDroopDetect (d : Nat) (s : State) : Host.Outcome State Fault Refusal :=
  s.guarded (d < 3) (if !s.on Reg.PWR_CTRL_DROOP_EN ∨ Tab.get 0 s.pwr.stretch d ≠ 0 then s
    else (({ s with pwr := { s.pwr with stretch := Tab.set 0 s.pwr.stretch d (s.now + 1) } }.incSat (Reg.PWR_DROOP_COUNT_EVENTS d) 1)).pwrEvent Reg.PWR_EVENT_DROOP)
/-- Where a time that lies ahead comes to lie when clocks that take `lost` units of time together took two periods each from `start`
on: within the stretch it lies twice as far from its start, behind it by the lost time later. -/
def stretched (now start lost t : Nat) : Nat :=
  if t ≤ max now start then t else if t - start ≤ lost then start + 2 * (t - start) else t + lost

/-- The stretch of die `d`'s clock is over: what runs on a compute die's slots ends later by the clocks lost (R381; R81). -/
def State.endStretch (s : State) (d lost : Nat) : State :=
  let start := Tab.get 0 s.pwr.stretch d - 1
  let time := lost * 128000 / (max 1 s.pwr.clock * s.engSpread)
  let t := { s with
    pwr := { s.pwr with stretch := Tab.set 0 s.pwr.stretch d 0 }
    slots := s.slots.foldl (fun (t : Tab Slot) (e : Nat × Slot) => Tab.set Slot.reset t e.1
      (if d < 2 ∧ e.1 / 9 = d then e.2.retime (stretched s.now start time) else e.2)) [] }
  (t.incSat (Reg.PWR_DROOP_COUNT_LOST d) lost).atTime (start + 2 * time)

/-- DROOP_END (R381): after `lost` stretched clocks, at least 16, each of which lost one clock. -/
def execDroopEnd (d lost : Nat) (s : State) : Host.Outcome State Fault Refusal :=
  s.guarded (d < 3) (if Tab.get 0 s.pwr.stretch d = 0 ∨ lost < 16 then s else s.endStretch d lost)
/-- AUX_OUT_SHORT (R429): AUX_OUT is down, the AUX domain is not affected. -/
def execAuxOutShort (s : State) : Host.Outcome State Fault Refusal := .next ({ s with pwr := { s.pwr with auxOut := false } }.emit (.pin "AUX_OUT" false))

end Sys2Proof.Machine
end

