-- ==== Sys2Proof/Machine/Bell.lean ====
section
/-! DEFINITION. The bell (chapter 01, R226 to R230, R343): edges, lateness, the master's computation, frames and reports,
sources, lock and holdover. -/

namespace Sys2Proof.Machine

/-! ## Sources (Table 1.4, R17) -/

/-- This module emits bell frames. -/
def State.isMaster (s : State) : Bool := s.on Reg.BELL_STATUS_MASTER_ACTIVE

/-- The source in force (Table 1.4): BELL_IN where SOURCE names it; for a master, and a deputy that took over, the module's own
generator in place of frames; fabric for a master that a newer epoch made a follower while SOURCE is local (R17,
notes/assumptions/26.md). -/
def State.source (s : State) : Nat :=
  if s.isMaster then (if s.rd Reg.BELL_CTRL_SOURCE = 1 then 0 else s.rd Reg.BELL_CTRL_SOURCE)
  else if s.rd Reg.BELL_CTRL_SOURCE = 0 ∧ s.rd Reg.BELL_CTRL_ROLE = 1 then 1
  else s.rd Reg.BELL_CTRL_SOURCE

/-! ## Peers, frames and reports (R226 to R230) -/

/-- The child entries in use: valid, and for ALT = 1 only under a master by handover (R226, R230). -/
def State.children (s : State) : List Nat :=
  if !s.on Reg.RKT_BELL_CFG_RELAY then []
  else ((List.range 16).map (· + 2)).filter (fun e => s.on (Reg.RKT_BELL_PEER_EN e) && (!s.on (Reg.RKT_BELL_PEER_ALT e) || s.bell.alternate))

/-- The path table entry of a peer: the secondary only while the primary is down (R227). -/
def State.peerPath (s : State) (e : Nat) : Nat :=
  let p := s.rd (Reg.RKT_BELL_PEER_PRIMARY e)
  if s.on (Reg.RKT_PATH_UP p) then p else s.rd (Reg.RKT_BELL_PEER_SECONDARY e)

/-- The parent's entry: the alternate since a handover, where entry 1 is valid (R230). -/
def State.parentEntry (s : State) : Nat := if s.bell.altParent && s.on (Reg.RKT_BELL_PEER_EN 1) then 1 else 0

/-- A frame or report waits in the control class at the port of a peer's path. -/
def State.pushPeer (s : State) (path typ : Nat) (body : TxBody) : State :=
  s.pushTx (s.rd (Reg.RKT_PATH_PORT path)) { cls := 8, part := 0, len := s.rktLen path typ 0 false, body := body }

/-- A bell frame to every child, its CORR counted on from `since`. -/
def State.sendFrame (s : State) (f : BellFrame) (since : Nat) : State :=
  s.children.foldl (fun (t : State) e => t.pushPeer (s.peerPath e) 8 (.bell e (s.peerPath e) f since)) s

/-- The bell's probe of the path to the parent, by which the link delay is measured (R228). -/
def State.measureDelay (s : State) : State :=
  let e := s.parentEntry
  let path := s.peerPath e
  if s.on Reg.RKT_BELL_CFG_RELAY && s.on Reg.RKT_BELL_CFG_AUTO_DELAY && s.on (Reg.RKT_BELL_PEER_EN e) && !s.isMaster then
    let t := s.sendProbe path (s.rd (Reg.RKT_BELL_PEER_ADDR e))
    { t with bell := { t.bell with delayProbe := t.bell.delayProbe ++ [(path, (t.path path).probeId)] } }
  else s

/-- The last report of a child entry. -/
def State.childReport (s : State) (e : Nat) : Option BellReport := Tab.get none s.bell.reports e

/-- The merge of R229 for bell `k`: the module's own values when it reports, and its children's. A child that sent none for
bell `k` counts as missing, with a backlog of 0 and its last ATTAINABLE, or the pace in use. -/
def State.mergeReports (s : State) (k : Nat) (own : Option (Bool × Nat × Nat)) : BellReport :=
  let r0 : BellReport :=
    { tag := s.rd Reg.BELL_CTRL_TAG, attainable := 127, modules := 0, count := k, backlog := 0, late := 0, missing := 0, missingAt := [] }
  let r1 := match own with
    | some (late, backlog, att) => { r0 with attainable := att, modules := 1, backlog := backlog, late := b2n late }
    | none => r0
  s.children.foldl (fun (r : BellReport) e =>
    let miss (att : Nat) : BellReport :=
      { r with attainable := min r.attainable att, missing := satAdd 16 r.missing 1, missingAt := (r.missingAt ++ [s.rd (Reg.RKT_BELL_PEER_XYZ e)]).take 4 }
    match s.childReport e with
    | none => miss (s.rd Reg.BELL_PACE_CURRENT)
    | some c =>
      if c.count ≠ k then miss c.attainable
      else { r with
        attainable := min r.attainable c.attainable, modules := satAdd 16 r.modules c.modules, backlog := max r.backlog c.backlog,
        late := satAdd 16 r.late c.late, missing := satAdd 16 r.missing c.missing, missingAt := (r.missingAt ++ c.missingAt).take 4 }) r1

/-! ## Lateness (R13, R81, R109, R146, R370, R422) -/

/-- The perturbation forces engine `n` late for bell `k`: its backlog (R422). -/
def State.forcedLate (s : State) (n k : Nat) : Option Nat :=
  match s.tst.late with
  | some (e, first, bells, backlog) => if e = n ∧ first ≤ k ∧ k < first + bells then some backlog else none
  | none => none

/-- One engine at the edge that ends bell `k`: its late flag and backlog. -/
def State.engineEdge (s : State) (n k : Nat) : State × Bool × Nat :=
  let r := s.engineLate n k
  match s.forcedLate n k with
  | some b => (r.1.wr Reg.BELL_LATE_FORCED 1, true, max b r.2.2)
  | none => r

/-- The context is late for its bell when bell `k` ends: it runs, has not reached its next WAITBELL or WAITBELLT, and its pb is `k`
or below (R109). -/
def Ctx.lateFor (x : Ctx) (k : Nat) : Bool :=
  (match x.run with
    | .running => true
    | .waiting .bell _ | .waiting (.bellT _ _) _ => false
    | .waiting _ _ => true
    | _ => false) && decide (x.pb.toNat ≤ k)

/-- One tending-core context at that edge: its late mark, and its BLHINT as backlog. -/
def State.ctxEdge (s : State) (c k : Nat) : State × Bool × Nat :=
  let x := s.ctx c
  let l := x.lateFor k
  let t := if x.late = l then s else s.setCtx c { x with late := l }
  if l then (t.wr Reg.BELL_LATE_TC 1, true, x.blHint.toNat) else (t, false, 0)

/-- The power block at that edge: the clocks lost to a late rail (R370). -/
def State.powerEdge (s : State) : State × Bool × Nat :=
  ({ s with pwr := { s.pwr with lost := 0, lostFrom := none } }, decide (0 < s.clocksLost), s.clocksLost)

/-- Every block at the edge that ends bell `k`: the bell is late when one is, with the largest backlog of any (R81). -/
def State.blocksEdge (s : State) (k : Nat) : State × Bool × Nat :=
  let step (f : State → Nat → State × Bool × Nat) (r : State × Bool × Nat) (i : Nat) : State × Bool × Nat :=
    let q := f r.1 i
    (q.1, r.2.1 || q.2.1, max r.2.2 q.2.2)
  let r := (List.range 16).foldl (step (fun t n => t.engineEdge n k)) (s, false, 0)
  let r := (List.range 22).foldl (step (fun t u => t.copyLate u k)) r
  let r := (List.range 288).foldl (step (fun t c => t.ctxEdge c k)) r
  step (fun t _ => t.powerEdge) r 0

/-- The lateness of bell `k` recorded: BELL_LATE_COUNT, the run of late bells (R23), and the module's own part of its report
(R20), which in Sleep is a backlog of 0 (R362). -/
def State.lateEdge (s : State) (k : Nat) : State :=
  let r := s.blocksEdge k
  let t := r.1.when r.2.1 (fun t => t.incSat Reg.BELL_LATE_COUNT_COUNT 1)
  let late := r.2.1 && !s.asleep
  { t with bell := { t.bell with
    lateRun := if r.2.1 then t.bell.lateRun + 1 else 0
    prevLate := t.bell.ownLate, prevBacklog := t.bell.ownBacklog
    ownLate := late, ownBacklog := if late then r.2.2 else 0 } }

/-! ## The master's computation (R22, R343) -/

/-- Runs of consecutive bells in which a module is listed missing, by its coordinates; at 65536 the run of bells with modules
counted but not listed, and at 65537 their number in the fourth. A run that has been recorded stands at 5 (R343). -/
def State.countMissing (s : State) (r : BellReport) : State :=
  let old := s.bell.missRuns
  let up (k : Nat) : Nat := if Tab.get 0 old k = 5 then 5 else min (Tab.get 0 old k + 1) 4
  let named := r.missingAt.eraseDups.foldl (fun (t : Tab Nat) c => Tab.set 0 t c (up c)) []
  let unnamed := r.missing - r.missingAt.length
  let t := if unnamed = 0 then named
    else Tab.set 0 (Tab.set 0 named 65536 (up 65536)) 65537 (if 4 ≤ Tab.get 0 old 65536 then Tab.get 0 old 65537 else unnamed)
  { s with bell := { s.bell with missRuns := t } }

/-- The parameters of the bell after the one in progress, from the reports `r` for bell k (R22). -/
def State.compute (s : State) (r : BellReport) : State :=
  let nom := s.rd Reg.BELL_PACE_NOMINAL
  let cur := s.rd Reg.BELL_PACE_CURRENT
  let att := min (max r.attainable 16) 72
  let good := if att < cur then 0 else if nom ≤ att then s.bell.good + 1 else 0
  let pace := if att < cur then att else if nom ≤ att ∧ s.rd Reg.BELL_LIMITS_RECOVER ≤ good then nom else cur
  let base := ceilDiv (s.rd Reg.BELL_PERIOD_PERIOD * nom) pace
  let str := min (ceilDiv (8 * r.backlog % 2 ^ 32) (25 * pace)) (s.rd Reg.BELL_LIMITS_STRETCH_MAX)
  { s with bell := { s.bell with good := good, nextPace := pace, nextPeriod := min (base + str) 512 } }

/-- The master at edge k + 2: the reports of bell k give the parameters of bell k + 3, from the first bell that began at its EN
write (R22). `att` is what it reported as attainable for bell k. A master that sends no report of its own is a source whose report
has not arrived: its last ATTAINABLE counts, or the pace in use. -/
def State.masterCompute (s : State) (att : Nat) : State :=
  let n := s.count
  if n < s.bell.enCount + 2 then
    { s with bell := { s.bell with nextPeriod := s.rd Reg.BELL_PERIOD_PERIOD, nextPace := s.rd Reg.BELL_PACE_NOMINAL } }
  else
    let own := if s.on Reg.BELL_CTRL_REPORT_EN then some (s.bell.prevLate, s.bell.prevBacklog, att) else none
    let r := s.mergeReports (n - 2) own
    let r := if own.isNone then { r with attainable := min r.attainable (s.bell.lastOwnAtt.getD (s.rd Reg.BELL_PACE_CURRENT)) } else r
    let t : State := if own.isSome then { s with bell := { s.bell with lastOwnAtt := some att } } else s
    ((t.when (decide (0 < r.missing) || own.isNone) (fun t => t.bellEvent Reg.BELL_EVENT_REPORT_MISSING)).countMissing r).compute r

/-- The frame of the edge that has just come, to every child; MASTER is this module (R19, R226). -/
def State.masterFrame (s : State) : State :=
  let x := s.rd Reg.BELL_COORD_X
  let y := s.rd Reg.BELL_COORD_Y
  let z := s.rd Reg.BELL_COORD_Z
  let f : BellFrame :=
    { tag := s.rd Reg.BELL_CTRL_TAG, epoch := s.rd Reg.BELL_STATUS_EPOCH, handover := s.bell.handover, count := s.count,
      periodCur := s.rd Reg.BELL_PERIOD_CURRENT, paceCur := s.rd Reg.BELL_PACE_CURRENT, periodNext := s.bell.nextPeriod,
      paceNext := s.bell.nextPace, masterX := x, masterY := y, masterZ := z, corr := 0 }
  let t := ((s.wr Reg.BELL_MASTER_X x).wr Reg.BELL_MASTER_Y y).wr Reg.BELL_MASTER_Z z
  { t with bell := { t.bell with handover := false } }.sendFrame f t.bell.edgeAt

/-! ## What a jump of the counter passes over (R18, R110) -/

/-- Targets strictly between the old count and the new one are passed over. -/
def passed (old new t : Nat) : Bool := decide (old < t) && decide (t < new)

/-- The chain of a slot when the MOP that was chosen for it is passed over: one that the MOP would have opened is not open, one that
it would have continued waits from now on. -/
def Slot.unchosen (x : Slot) (hit : Mop → Bool) (now : Nat) : Option Chain :=
  match x.queue.find? (fun m => hit m && decide (m.stage = .chosen)) with
  | some m => if m.keep then x.chain.map (fun c => { c with waitFrom := some now }) else none
  | none => x.chain

/-- MOPs and CPDs with TGT = 1 that have not begun, a MOP chosen and held for its edge among them, and whose bell is passed over
complete with MISSED_TARGET; a MOP's chain is not broken by it (notes/assumptions/70.md). -/
def State.jumpWork (s : State) (old new : Nat) : State :=
  let s := s.each 18 (fun ps t =>
    let hit (m : Mop) : Bool :=
      m.tgt && !m.replay && (decide (m.stage = .queued) || decide (m.stage = .chosen)) && m.rej.isNone && passed old new m.bell
    if !(t.slot ps).queue.any hit then t
    else
      let u := t.setSlot ps { t.slot ps with
        chain := (t.slot ps).unchosen hit t.now
        queue := (t.slot ps).queue.map (fun m => if hit m then { m with rej := some 4, stage := .queued } else m) }
      (u.meErr ps Reg.ME_ERR_MISSED_TARGET).missedTarget)
  s.each 22 (fun u t =>
    let hit (d : Cpd) : Bool := cpdTgt d.words && decide (d.src ≠ .replay) && decide (d.stage = .queued) && passed old new d.bell
    if !(t.copy u).queue.any hit then t
    else
      let v := t.setCopy u { t.copy u with queue := (t.copy u).queue.map (fun d => if hit d then { d with stage := .finished 4 } else d) }
      (v.cpyErr u Reg.CPY_ERR_MISSED_TARGET).missedTarget)

/-- An accepted partition command whose target is passed over ends as a missed target. -/
def State.jumpCmd (s : State) (old new : Nat) : State :=
  match s.partCmds with
  | x :: r =>
    if x.checked && x.tgt && passed old new x.bell then
      let t := { s with partCmds := r }.missedTarget.endCmd x.part (x.code % 256) 8
      t.pumpCmds t.partCmds.length
    else s
  | [] => s

/-- An armed almanac whose bell is passed over. -/
def State.jumpAlmanac (s : State) (old new l : Nat) : State :=
  if s.on (Reg.SCH_ALM_CMD_ARMED l) && passed old new (s.rd (Reg.SCH_ALM_TAKE_BELL l)) then
    ((s.wr (Reg.SCH_ALM_CMD_ARMED l) 0).schEvent Reg.SCH_EVENT_MISSED_TARGET).missedTarget
  else s

/-- A checkpoint trigger whose bell is passed over. -/
def State.jumpCkp (s : State) (old new k : Nat) : State :=
  match (s.ckp k).due with
  | some (e, _) => if passed old new e then (s.setCkp k { s.ckp k with due := none }).missedTarget else s
  | none => s

/-- A planned switch-over whose bell is passed over. -/
def State.jumpSwitch (s : State) (old new : Nat) : State :=
  if s.on Reg.FLT_SWITCH_ARMED && passed old new (s.rd Reg.FLT_SWITCH_BELL_BELL) then (s.wr Reg.FLT_SWITCH_ARMED 0).missedTarget else s

/-- A firmware activation whose bell is passed over. -/
def State.jumpFirmware (s : State) (old new : Nat) : State :=
  if s.on Reg.MGT_FW_STATUS_ARMED && passed old new (s.rd Reg.MGT_FW_BELL_BELL) && !s.on Reg.MGT_FW_STATUS_DEFERRED then
    (((s.wr Reg.MGT_FW_STATUS_ARMED 0).wr Reg.MGT_FW_STATUS_RESULT 6).event Reg.MGT_EVENT_FW_DONE Reg.MGT_EVENT_EN_EN 6).missedTarget
  else s

/-- Forced lateness whose first bell is passed over. -/
def State.jumpLate (s : State) (old new : Nat) : State :=
  match s.tst.late with
  | some (_, first, _, _) =>
    if passed old new first then ({ s with tst := { s.tst with late := none } }.wr Reg.TST_LATE_ARMED 0).missedTarget else s
  | none => s

/-- An injected fault whose bell is passed over. -/
def State.jumpInject (s : State) (old new : Nat) : State :=
  match s.tst.inject with
  | some (b, _) =>
    if passed old new b then
      (({ s with tst := { s.tst with inject := none } }.wr Reg.TST_INJECT_ARMED 0).wr Reg.TST_INJECT_RESULT 6).missedTarget
    else s
  | none => s

/-- A WAITBELLT whose bell is passed over. -/
def State.jumpWait (s : State) (old new c : Nat) : State :=
  match (s.ctx c).run with
  | .waiting (.bellT b _) _ => s.when (passed old new b) (fun t => t.missedTarget)
  | _ => s

/-- Armed actions whose target is passed over are not taken, and are reported: a partition command, the almanac, a checkpoint
trigger, a planned switch-over, firmware activation, forced lateness and an injected fault; a WAITBELLT is reported. -/
def State.jumpArmed (s : State) (old new : Nat) : State :=
  let t := ((s.jumpCmd old new).each 32 (fun l t => t.jumpAlmanac old new l)).each 4 (fun k t => t.jumpCkp old new k)
  ((((t.jumpSwitch old new).jumpFirmware old new).jumpLate old new).jumpInject old new).each 321 (fun c t => t.jumpWait old new c)

/-- Every context's pb below the new count less one is raised to it (R110). -/
def State.raisePb (s : State) (new : Nat) : State :=
  s.each 321 (fun c t =>
    let x := t.ctx c
    if x.pb.toNat < new - 1 then t.setCtx c { x with pb := BitVec.ofNat 64 (new - 1) } else t)

/-- The counter goes from `old` to `new`, `adopted` from a frame: what lies between is passed over, and R110 applies (R18). -/
def State.jump (s : State) (old new : Nat) (adopted : Bool) : State :=
  if !adopted then s else ((s.jumpWork old new).jumpArmed old new).raisePb new

/-! ## Edges (R12, R18, R22) -/

/-- The period and pace of the bell that begins: BELL_PACE.CURRENT shows ATTAINABLE in free mode (R371), and PACE_CHANGE is set
when the pace changed by the master's computation or by a frame. -/
def State.setBell (s : State) (period pace : Nat) : State :=
  let t := s.wr Reg.BELL_PERIOD_CURRENT period
  if s.on Reg.PWR_CTRL_MODE then t.wr Reg.BELL_PACE_CURRENT (t.rd Reg.BELL_PACE_ATTAINABLE)
  else (t.wr Reg.BELL_PACE_CURRENT pace).when (decide (s.rd Reg.BELL_PACE_CURRENT ≠ pace)) (fun t => t.bellEvent Reg.BELL_EVENT_PACE_CHANGE)

/-- The clock follows the bell's pace; a rail that is late at the edge is a late power step (R369 to R371). -/
def State.paceEdge (s : State) : State :=
  let t := s.seekPace
  if t.pwr.wanted.isSome then
    { ((t.wr Reg.BELL_LATE_PWR 1).pwrEvent Reg.PWR_EVENT_VOLT_HOLD) with pwr := { t.pwr with lostFrom := some t.bell.edgeAt } }
  else t

/-- An event-log entry of severity 0 with BLOCK TST_ (R414); its code and data are free values. -/
def State.tstLog (s : State) : State :=
  let c := s.draw
  let d := c.2.draw
  d.2.logEntry 18 0 (c.1 % 2 ^ 16) (d.1 % 2 ^ 64)

/-- The injection stands no longer, and what follows is its fault; the event log tells of it (R414). -/
def State.beginInject (s : State) : State := (({ s with tst := { s.tst with inject := none, injecting := true } } : State).wr Reg.TST_INJECT_ARMED 0).tstLog

/-- The injection's fault is done. -/
def State.endInject (s : State) : State := { s with tst := { s.tst with injecting := false } }

/-- A cause of Table 16.4 whose target has no data-path check: an I/O core, a lane, a position, a die link, the cipher engine (R423). -/
def edgeInjected (code : Nat) : Bool := code == 0xA || code == 0x12 || code == 0x13 || decide (0x20 ≤ code)

/-- The fault of such a cause, of owner `o`: an I/O core stops and a lane fails as in the real case. -/
def State.hitAtEdge (t : State) (o : Nat × Nat) : State :=
  let code := t.rd Reg.TST_INJECT_CODE
  let u := t.rd Reg.TST_INJECT_UNIT
  if code = 0xA then
    let t := (t.wr Reg.HUB_IOC_RUN_RUN (setBits (t.rd Reg.HUB_IOC_RUN_RUN) u 1 0)).setCtx (288 + u) { t.ctx (288 + u) with run := .stopped }
    t.faultBy code 0 16 u 0 o
  else if code = 0x20 then (t.faultBy code 0 16 u 0 o).laneFail u
  else if code = 0x21 ∨ code = 0x22 then t.faultBy code 0 16 (t.rd Reg.TST_INJECT_DIE) 0 o
  else t.faultBy code 0 16 u 0 o

/-- At edge T an armed injection whose target has no data-path check reports its cause (R423). -/
def State.injectEdge (s : State) : State :=
  match s.tst.inject with
  | some (b, o) => if b ≤ s.count ∧ edgeInjected (s.rd Reg.TST_INJECT_CODE) then (s.beginInject.hitAtEdge o).endInject else s
  | none => s

/-- What else waits for an edge: the checkpoint regions to disarm (R348), partitions that turn FATAL (R341), decreases and freezes
whose work has ended (R162, R163), resumes (R200), devices that stopped answering (R136), the probe of the parent's path (R228), announcements that are over. -/
def State.edgeWork (s : State) : State :=
  let s := s.each 4 (fun k t =>
    let ds := (t.ckp k).disarm
    if ds.isEmpty then t else (ds.foldl (fun (t : State) r => t.ilkDisarm r) t).setCkp k { t.ckp k with disarm := [] })
  let fatal := s.flt.fatalDue
  let s := fatal.foldl (fun (t : State) p => t.enterFatal p) { s with flt := { s.flt with fatalDue := [] } }
  let s := s.each 64 (fun p t => (t.settleShrink p).tryFrozen p)
  let s := s.resumeNow.suddenEdge.measureDelay
  let s := s.when (s.on Reg.MGT_FW_STATUS_ARMED && decide (s.rd Reg.MGT_FW_BELL_BELL ≤ s.count) && !s.quietEnough) (fun s => s.deferFirmware)
  let s := { s with fab := { s.fab with refillEvery := s.rd Reg.SCH_CFG_REFILL } }
  { s with heavy := s.heavy.filter (fun h => decide (s.count ≤ h.bell + 1)) }

/-- The forced lateness has acted on its last bell (R422). -/
def State.lateDone (s : State) : State :=
  match s.tst.late with
  | some (_, first, bells, _) => if first + bells ≤ s.count then { s with tst := { s.tst with late := none } }.wr Reg.TST_LATE_ARMED 0 else s
  | none => s

/-- Edge `k` at time `t`, with the parameters of bell `k`: the bell before it ends, and bell `k` begins. At a jump nothing that the
old bell leaves unfinished is recorded late (DEDUCED from R110, notes/assumptions/69.md). -/
def State.edge (s : State) (k t period pace : Nat) (adopted : Bool) : State :=
  let old := s.count
  let att := s.rd Reg.BELL_PACE_ATTAINABLE
  let s := if k = old + 1 then (s.lateEdge old).idleBells else { s with bell := { s.bell with ownLate := false, ownBacklog := 0 } }
  let s := (s.wr Reg.BELL_COUNT_COUNT k).jump old k adopted
  let s := ((s.capEdge).thermEdge).emergEdge
  let s := (s.wr Reg.BELL_PACE_ATTAINABLE s.attainable)
  let b := s.bell
  let s := { s with bell := { b with
    prevEdgeAt := b.edgeAt, prevPeriod := s.rd Reg.BELL_PERIOD_CURRENT, edgeAt := t
    edgesSinceEn := b.edgesSinceEn + 1, nextPeriod := period, nextPace := pace
    holdBells := if s.on Reg.BELL_STATUS_HOLDOVER then b.holdBells + 1 else 0
    goodEdges := if s.source = 0 then b.goodEdges + 1 else b.goodEdges
    frameDone := b.frameDone.filter (fun i => decide (k ≤ i + 4)), inDone := b.inDone.filter (fun i => decide (k ≤ i + 4))
    inRejected := b.inRejected.filter (fun i => decide (k ≤ i + 4))
    enCount := if old + 1 < k then k else b.enCount } }
  let s := s.setBell period pace
  let s : State := { s with bell := { s.bell with nextAt := max s.now (t + 500 * s.rd Reg.BELL_PERIOD_CURRENT) } }
  let s := s.when s.isMaster (fun s => s.masterCompute att)
  let s := (s.when s.isMaster (fun s => s.masterFrame)).when (s.on Reg.BELL_CTRL_OUT_EN) (fun s => s.emit (.pin "BELL_OUT" true))
  ((s.updateCredits.paceEdge.edgeWork.injectEdge).lateDone).commitBells

/-- BELL_EDGE: the module's own generator reaches its next edge (R12, R19). -/
def State.bellEdge (s : State) : State :=
  if !s.on Reg.BELL_CTRL_EN then s
  else (s.atTime s.bell.nextAt).edge (s.count + 1) s.bell.nextAt s.bell.nextPeriod s.bell.nextPace false

/-! ## BELL_CTRL and BELL_COUNT (R12, R15, R23, R34, R229) -/

/-- EN written 1: bell c begins at the write, from the module's own generator (R12, R22); the write is its local edge, with a pulse
on BELL_OUT (DEDUCED, notes/assumptions/69.md). -/
def State.bellStart (s : State) : State :=
  let p := s.rd Reg.BELL_PERIOD_PERIOD
  let n := s.rd Reg.BELL_PACE_NOMINAL
  let t := (s.wr Reg.BELL_STATUS_MASTER_ACTIVE (b2n (decide (s.rd Reg.BELL_CTRL_ROLE = 1)))).wr Reg.BELL_PACE_ATTAINABLE s.attainable
  let t := (t.wr Reg.BELL_PERIOD_CURRENT p).wr Reg.BELL_PACE_CURRENT (if t.on Reg.PWR_CTRL_MODE then t.rd Reg.BELL_PACE_ATTAINABLE else n)
  let t := { t with bell := { Bell.reset with
    edgeAt := t.now, nextAt := t.now + 500 * p, enCount := t.count, nextPeriod := p, nextPace := n, prevEdgeAt := t.now, prevPeriod := p
    faultBells := t.bell.faultBells } }
  let t := (t.when t.isMaster (fun t => t.masterFrame)).when (t.on Reg.BELL_CTRL_OUT_EN) (fun t => t.emit (.pin "BELL_OUT" true))
  t.updateCredits.paceEdge

/-- EN written 0: the generator stops; LOCKED clears (R15), and HOLDOVER and MASTER_ACTIVE with it (DESIGN CHOICE,
notes/assumptions/69.md). -/
def State.bellStop (s : State) : State :=
  ((s.wr Reg.BELL_STATUS_LOCKED 0).wr Reg.BELL_STATUS_HOLDOVER 0).wr Reg.BELL_STATUS_MASTER_ACTIVE 0

/-- The master refuses EN = 1: PERIOD × NOMINAL / 16 above 512 (R23), or with RELAY = 1 four report slots not below PERIOD (R229). -/
def State.enRefused (s : State) (role : Nat) : Bool :=
  role == 1 && (decide (512 * 16 < s.rd Reg.BELL_PERIOD_PERIOD * s.rd Reg.BELL_PACE_NOMINAL) ||
    (s.on Reg.RKT_BELL_CFG_RELAY && decide (s.rd Reg.BELL_PERIOD_PERIOD ≤ 4 * s.rd Reg.RKT_BELL_CFG_REPORT_SLOT)))

/-- BELL_EVENT.BAD_PARAM. -/
def State.badParam (s : State) : State := s.bellEvent Reg.BELL_EVENT_BAD_PARAM

/-- The fields of BELL_CTRL but EN taken from a written value (Table 1.2). -/
def State.bellFields (s : State) (v : Nat) : State :=
  ((((s.wr Reg.BELL_CTRL_SOURCE (bits v 1 2)).wr Reg.BELL_CTRL_ROLE (bits v 3 2)).wr Reg.BELL_CTRL_OUT_EN (bits v 5 1)).wr
    Reg.BELL_CTRL_REPORT_EN (bits v 6 1)).wr Reg.BELL_CTRL_TAG (bits v 8 8)

/-- A write of BELL_CTRL (R34). A master whose EN is refused takes the write's other fields (notes/assumptions/26.md). -/
def State.writeBellCtrl (s : State) (v : Nat) : State :=
  let source := bits v 1 2
  let role := bits v 3 2
  let was := s.on Reg.BELL_CTRL_EN
  if role = 3 ∨ (was ∧ (source ≠ s.rd Reg.BELL_CTRL_SOURCE ∨ role ≠ s.rd Reg.BELL_CTRL_ROLE)) then s.badParam
  else
    let t := s.bellFields v
    if bit v 0 && !was then
      if t.enRefused role then t.badParam else (t.wr Reg.BELL_CTRL_EN 1).bellStart
    else if !bit v 0 && was then (t.wr Reg.BELL_CTRL_EN 0).bellStop
    else t

/-- The counter and BELL_COMMIT.NEXT hold `n`, and commands that wait for the next edge wait for `n + 1` (R34). -/
def State.countLoaded (s : State) (n : Nat) : State :=
  let t := (s.wr Reg.BELL_COUNT_COUNT n).wr Reg.BELL_COMMIT_NEXT n
  { t with partCmds := t.partCmds.map (fun (x : PartCmd) => if x.checked && !x.tgt then { x with bell := n + 1 } else x) }

/-- A load of BELL_COUNT: only while EN is 0 (R34); bells below it hold no work (R14). Commands that wait for the next edge wait
for the edge after it. -/
def State.loadCount (s : State) (v : Nat) : State :=
  if s.on Reg.BELL_CTRL_EN then s.badParam
  else
    (s.countLoaded (v % 2 ^ 64)).commitBells

/-! ## Accepted, missing and rejected edges (R15, R16) -/

/-- SOURCE_LOST: holdover begins and LOCKED clears. Before the source's first accepted edge the generator runs on its own already,
and HOLDOVER is not set (R12). -/
def State.enterHoldover (s : State) : State :=
  let t := ((s.bellEvent Reg.BELL_EVENT_SOURCE_LOST).wr Reg.BELL_STATUS_HOLDOVER (b2n s.bell.sourceOn)).wr Reg.BELL_STATUS_LOCKED 0
  { t with bell := { t.bell with holdBells := 0, goodEdges := 0 } }

/-- One edge of the selected source is missing or rejected: it ends a run of good edges, and the fourth in a row brings holdover. -/
def State.sourceMiss (s : State) : State :=
  let n := s.bell.missStreak + 1
  let t := { s with bell := { s.bell with missStreak := n, goodEdges := 0 } }
  if n = 4 ∧ !s.on Reg.BELL_STATUS_HOLDOVER then t.enterHoldover else t

/-- One frame counts as missing: for the deputy, and as an edge when frames are the source (R16, R17). -/
def State.missFrame (s : State) : State :=
  let t : State := { s with bell := { s.bell with frameMiss := s.bell.frameMiss + 1 } }
  t.when (decide (t.source = 1)) (fun t => t.sourceMiss)

/-- Frame `k` counts as missing, once. -/
def State.frameMissed (s : State) (k : Nat) : State :=
  if k ∈ s.bell.frameDone then s
  else ({ s with bell := { s.bell with frameDone := s.bell.frameDone ++ [k] } } : State).missFrame

/-- A source edge is accepted with phase error `err`, local less source, in 0.25 ns units: holdover ends, LOCKED clears outside
±50 ns, and the phase is corrected (R15, R16). -/
def State.sourceEdge (s : State) (err : Int) : State :=
  let t := (s.wr Reg.BELL_STATUS_HOLDOVER 0).wr Reg.BELL_ALIGN_PHASE (trunc 16 (satI 16 err))
  let t := if err < -200 ∨ 200 < err then t.wr Reg.BELL_STATUS_LOCKED 0 else t
  let step := if !t.on Reg.BELL_STATUS_LOCKED ∧ (err < -800 ∨ 800 < err) then err else clampI (-8) 8 err
  { t with bell := { t.bell with
    missStreak := 0, holdBells := 0, sourceOn := true
    goodEdges := if -100 ≤ err ∧ err ≤ 100 then t.bell.goodEdges + 1 else 0
    nextAt := max t.now ((t.bell.nextAt : Int) - step).toNat } }

/-- A rising edge of BELL_IN at time `t` (R16): taken for the nearest local edge, rejected more than 250 ns from it. A rejected edge
counts once for its bell, whose own edge may still come (notes/assumptions/69.md). -/
def State.bellIn (s : State) (t : Nat) : State :=
  if !s.on Reg.BELL_CTRL_EN ∨ s.source < 2 then s
  else
    let b := s.bell
    let next := decide ((b.nextAt : Int) - t < (t : Int) - b.edgeAt)
    let k := if next then s.count + 1 else s.count
    let err : Int := (if next then (b.nextAt : Int) else b.edgeAt) - t
    if k ∈ b.inDone then s
    else
      if err < -1000 ∨ 1000 < err then
        (if k ∈ b.inRejected then s else ({ s with bell := { b with inRejected := b.inRejected ++ [k] } } : State).sourceMiss)
      else ({ s with bell := { b with inDone := b.inDone ++ [k] } } : State).sourceEdge err

/-- The BELL_IN edge of bell `k` is missing; not that of the bell in which EN was written, which began at the write
(notes/assumptions/69.md). -/
def State.bellInMissed (s : State) (k : Nat) : State :=
  if !s.on Reg.BELL_CTRL_EN ∨ s.source < 2 ∨ s.count < k ∨ k ≤ s.bell.enCount ∨ k + 4 < s.count ∨ k ∈ s.bell.inDone ∨ k ∈ s.bell.inRejected then s
  else { s with bell := { s.bell with inDone := s.bell.inDone ++ [k] } }.sourceMiss

/-! ## Bell frames (R16 to R19, R226) -/

/-- The parameters lie within the ranges of R19. -/
def BellFrame.valid (f : BellFrame) : Bool :=
  let per (x : Nat) : Bool := decide (16 ≤ x) && decide (x ≤ 512)
  let pace (x : Nat) : Bool := decide (16 ≤ x) && decide (x ≤ 72)
  per f.periodCur && per f.periodNext && pace f.paceCur && pace f.paceNext

/-- The epoch of a frame is newer than the module's (R17). -/
def State.newerEpoch (s : State) (e : Nat) : Bool :=
  let d := (e + 256 - s.rd Reg.BELL_STATUS_EPOCH) % 256
  decide (0 < d) && decide (d < 128)

/-- A master that receives a newer epoch is a follower at once (R17). -/
def State.demote (s : State) : State :=
  let t := s.wr Reg.BELL_STATUS_MASTER_ACTIVE 0
  { t with bell := { t.bell with alternate := false, handover := false, frameMiss := 0, missStreak := 0, joined := false, goodEdges := 0 } }

/-- The module's C: DELAY plus the CORR of the last frame accepted, 0 before the first (R16). -/
def State.delayC (s : State) : Nat := if s.bell.epochSeen then s.rd Reg.BELL_ALIGN_DELAY + s.bell.corr else 0

/-- Local time of edge `k`, and the period of its bell, for the bell in progress and the one before. -/
def State.localEdge (s : State) (k : Nat) : Option (Nat × Nat) :=
  if k = s.count then some (s.bell.edgeAt, s.rd Reg.BELL_PERIOD_CURRENT)
  else if k + 1 = s.count then some (s.bell.prevEdgeAt, s.bell.prevPeriod)
  else none

/-- The bell in progress began at `e` and has this period and pace: adopted with one step (R19). -/
def State.reAlign (s : State) (e period pace : Nat) : State :=
  let u : State := { s with bell := { s.bell with edgeAt := e } }.setBell period pace
  { u with bell := { u.bell with nextAt := max u.now (e + 500 * u.rd Reg.BELL_PERIOD_CURRENT) } }.seekPace

/-- The count of a frame that the module accepts: adopted at joining and when it is higher (R18). `at0` is the frame's edge time. -/
def State.adopt (s : State) (f : BellFrame) (at0 : Int) : State :=
  let t0 := at0.toNat
  let first := !s.bell.joined
  let t : State := { s with bell := { s.bell with joined := true } }
  if s.count < f.count then
    let u := t.edge f.count t0 f.periodCur f.paceCur true
    if first then { u with bell := { u.bell with enCount := u.count } } else u
  else if first && f.count == s.count then t.reAlign t0 f.periodCur f.paceCur
  else t

/-- This period and pace are those of the bell in progress; in free mode the pace is the module's own (R371). -/
def State.sameBell (s : State) (period pace : Nat) : Bool :=
  decide (period = s.rd Reg.BELL_PERIOD_CURRENT) && (decide (pace = s.rd Reg.BELL_PACE_CURRENT) || s.on Reg.PWR_CTRL_MODE)

/-- The parameters of the bell after the one in progress. -/
def State.announce (s : State) (period pace : Nat) : State := { s with bell := { s.bell with nextPeriod := period, nextPace := pace } }

/-- The parameters of an accepted frame (R16, R19): a frame of the bell in progress gives its parameters and those of the next; a frame
of the bell before, which came after its bell had ended, gives those of the bell in progress, and with them what follows until the
frame of that bell has come (notes/assumptions/69.md). Where they differ from the module's they are adopted with one step, from the
frame's edge time, of which a late frame gives none. -/
def State.adoptParams (s : State) (f : BellFrame) (at0 : Int) (late : Bool) : State :=
  let timed : Bool := decide (s.source = 1) && !late
  if f.count = s.count then
    let t := if s.sameBell f.periodCur f.paceCur then s else s.reAlign (if timed then at0.toNat else s.bell.edgeAt) f.periodCur f.paceCur
    t.announce f.periodNext f.paceNext
  else if f.count + 1 = s.count then
    if s.sameBell f.periodNext f.paceNext && decide (f.periodCur = s.bell.prevPeriod) then s
    else
      let t := s.reAlign (if timed then at0.toNat + 500 * f.periodCur else s.bell.edgeAt) f.periodNext f.paceNext
      if s.count ∈ s.bell.frameDone then t else t.announce f.periodNext f.paceNext
  else s

/-- A frame of the module's tag, valid and of its epoch, arrives at `time` (R16 to R19, R226). A frame of a higher count, which is
adopted as at joining, gives the edge of the bell that it begins, so that its phase error is 0: it counts as a good edge, and LOCKED
stands if it was 1 (DESIGN CHOICE, notes/assumptions/69.md). -/
def State.acceptFrame (s : State) (f : BellFrame) (time : Nat) (newer : Bool) : State :=
  let counts := s.source = 1 ∨ s.source = 2
  let at0 : Int := (time : Int) - s.rd Reg.BELL_ALIGN_DELAY - f.corr
  -- a lower count is not adopted (R18)
  if counts ∧ f.count + b2n s.bell.joined < s.count then
    (s.bellEvent Reg.BELL_EVENT_COUNT_BACK).when s.bell.joined State.missFrame
  else
    let late := (s.localEdge f.count).elim false (fun e => s.bell.joined && decide (e.1 + s.delayC + 250 * e.2 < time))
    let s := s.when (newer && s.bell.epochSeen) (fun t => t.bellEvent Reg.BELL_EVENT_HANDOVER)
    let s := ((s.wr Reg.BELL_STATUS_EPOCH f.epoch).wr Reg.BELL_MASTER_X f.masterX).wr Reg.BELL_MASTER_Y f.masterY
    let s := s.wr Reg.BELL_MASTER_Z f.masterZ
    let s : State := { s with bell := { s.bell with epochSeen := true, corr := f.corr, altParent := s.bell.altParent || f.handover } }
    let s := if counts then s.adopt f at0 else s
    let s := if late then s.frameMissed f.count
      else
        let done := decide (f.count ∈ s.bell.frameDone)
        let s : State := { s with bell := { s.bell with frameDone := if done then s.bell.frameDone else s.bell.frameDone ++ [f.count], frameMiss := 0 } }
        match s.localEdge f.count with
        | some e => if s.source = 1 ∧ !done then s.sourceEdge ((e.1 : Int) - at0) else s
        | none => s
    let s := s.adoptParams f at0 late
    s.sendFrame { f with corr := (f.corr + s.rd Reg.BELL_ALIGN_DELAY) % 2 ^ 32 } time

/-- BELL_FRAME_RECEIVED: a frame with a reserved field that is not 0 is dropped as malformed (R214). A demoted master has known its own epoch, so the newer one that it accepts sets HANDOVER
(DEDUCED from R17, notes/assumptions/69.md). -/
def State.frameBell (s : State) (f : BellFrame) (time : Nat) : State :=
  let newer := s.newerEpoch f.epoch
  if f.rsv || f.head.bad then s.rktDrop Reg.RKT_DROP_MALFORMED
  else if !s.on Reg.BELL_CTRL_EN ∨ f.tag ≠ s.rd Reg.BELL_CTRL_TAG then s
  else if !f.valid then s.badParam.frameMissed f.count
  else if s.isMaster then
    if newer then ({ s.demote with bell := { s.demote.bell with epochSeen := true } }).acceptFrame f time true else s
  else if s.bell.epochSeen ∧ !newer ∧ f.epoch ≠ s.rd Reg.BELL_STATUS_EPOCH then s
  else s.acceptFrame f time newer

/-- Frame `k` has not arrived by its deadline (R16). The bell in which EN was written, or to which the counter jumped, began
without one, and its frame never counts as missing (notes/assumptions/69.md). -/
def State.frameLost (s : State) (k : Nat) : State :=
  if !s.on Reg.BELL_CTRL_EN ∨ s.isMaster ∨ s.count < k ∨ k + 4 < s.count ∨ k ≤ s.bell.enCount then s else s.frameMissed k

/-! ## Reports (R20, R229, R343) -/

/-- The send time of the report of the bell that has ended: (4 − DEPTH) report slots after the edge (R229). -/
def State.reportAt (s : State) : Nat := s.bell.edgeAt + (4 - s.rd Reg.RKT_BELL_CFG_DEPTH) * s.rd Reg.RKT_BELL_CFG_REPORT_SLOT * 500

/-- The report of bell k, the bell that has ended, to the parent, or to the alternate parent since a handover, at its send time
(R229, R230). -/
def State.sendReport (s : State) : State :=
  let k := s.count - 1
  if !s.on Reg.BELL_CTRL_EN ∨ s.isMaster ∨ !s.on Reg.BELL_CTRL_REPORT_EN ∨ !s.on Reg.RKT_BELL_CFG_RELAY ∨ s.count ≤ s.bell.enCount ∨
      k < s.bell.reportSent then s
  else
    let s := s.atTime s.reportAt
    let r := s.mergeReports k (some (s.bell.ownLate, s.bell.ownBacklog, s.rd Reg.BELL_PACE_ATTAINABLE))
    let e := s.parentEntry
    let path := s.peerPath e
    let t : State := { s with bell := { s.bell with reportSent := k + 1 } }
    if s.on (Reg.RKT_BELL_PEER_EN e) then t.pushPeer path 9 (.report e path r) else t

/-- A child's report is kept for the merge; one with a reserved field that is not 0 is dropped as malformed (R214). -/
def State.takeReport (s : State) (e : Nat) (r : BellReport) : State :=
  if r.rsv || r.head.bad then s.rktDrop Reg.RKT_DROP_MALFORMED
  else if !s.on Reg.BELL_CTRL_EN ∨ !(e ∈ s.children) ∨ r.tag ≠ s.rd Reg.BELL_CTRL_TAG then s
  else { s with bell := { s.bell with reports := Tab.set none s.bell.reports e (some r) } }

/-- FLT_LOST takes the module's coordinates (R343). -/
def State.recordLost (s : State) (xyz : Nat) : State :=
  (((s.wr Reg.FLT_LOST_X (bits xyz 10 6)).wr Reg.FLT_LOST_Y (bits xyz 4 6)).wr Reg.FLT_LOST_Z (bits xyz 0 4)).incSat Reg.FLT_LOST_COUNT 1

/-- A module listed missing for four bells is recorded; 0xFFFF, which lists no module, names those counted and not listed (R343). -/
def State.moduleLost (s : State) (xyz : Nat) : State :=
  let key := if xyz = 0xFFFF then 65536 else xyz
  if Tab.get 0 s.bell.missRuns key ≠ 4 then s
  else
    let t : State := { s with bell := { s.bell with missRuns := Tab.set 0 s.bell.missRuns key 5 } }
    let t := if xyz = 0xFFFF then t.incSat Reg.FLT_LOST_UNNAMED (Tab.get 0 s.bell.missRuns 65537) else t.recordLost xyz
    t.fltEvent Reg.FLT_EVENT_LOST

/-! ## Meanings -/

/-- BELL_EDGE (R12). -/
def execBellEdge (s : State) : Host.Outcome State Fault Refusal := .next s.bellEdge

/-- BELL_ENABLE (R12, R23, R34, R229): a write of BELL_CTRL with EN = 1. -/
def execBellEnable (value : Nat) (s : State) : Host.Outcome State Fault Refusal := s.fromPf 3 (.next (s.writeBellCtrl (setBits value 0 1 1)))

/-- BELL_DISABLE (R15, R34): a write of BELL_CTRL with EN = 0. -/
def execBellDisable (value : Nat) (s : State) : Host.Outcome State Fault Refusal := s.fromPf 3 (.next (s.writeBellCtrl (setBits value 0 1 0)))

/-- BELL_COUNT_LOAD (R34). -/
def execBellCountLoad (value : Nat) (s : State) : Host.Outcome State Fault Refusal := s.fromPf 3 (.next (s.loadCount value))

/-- BELL_FRAME_RECEIVED (R18): the frame arrives at `time`. -/
def execBellFrameReceived (frame : BellFrame) (time : Nat) (s : State) : Host.Outcome State Fault Refusal :=
  .next ((s.atTime time).frameBell frame (max s.now time))

/-- BELL_IN_EDGE (R16): the edge comes at `time`. -/
def execBellInEdge (time : Nat) (s : State) : Host.Outcome State Fault Refusal := .next ((s.atTime time).bellIn (max s.now time))

/-- BELL_FRAME_MISSING (R16). -/
def execBellFrameMissing (k : Nat) (s : State) : Host.Outcome State Fault Refusal := .next (s.frameLost k)

/-- BELL_IN_MISSING (R16). -/
def execBellInMissing (k : Nat) (s : State) : Host.Outcome State Fault Refusal := .next (s.bellInMissed k)

/-- HOLDOVER_LIMIT_REACHED (R16). -/
def execHoldoverLimitReached (s : State) : Host.Outcome State Fault Refusal :=
  .next (s.when (s.on Reg.BELL_CTRL_EN && s.on Reg.BELL_STATUS_HOLDOVER && decide (s.rd Reg.BELL_HOLD_HOLD_LIMIT ≤ s.bell.holdBells))
    (fun t => (t.wr Reg.BELL_STATUS_UNALIGNED 1).bellEvent Reg.BELL_EVENT_HOLDOVER_LIMIT))

/-- BELL_LOCK (R15): eight good edges in a row; UNALIGNED clears (R16). -/
def execBellLock (s : State) : Host.Outcome State Fault Refusal :=
  .next (s.when (s.on Reg.BELL_CTRL_EN && !s.on Reg.BELL_STATUS_HOLDOVER && decide (8 ≤ s.bell.goodEdges))
    (fun t => (t.wr Reg.BELL_STATUS_LOCKED 1).wr Reg.BELL_STATUS_UNALIGNED 0))

/-- The deputy is the master from now on (R17). Its count of good bells (R22) begins at 0 (DESIGN CHOICE, notes/assumptions/69.md). -/
def State.becomeMaster (s : State) : State :=
  let t := ((s.inc Reg.BELL_STATUS_EPOCH 1).wr Reg.BELL_STATUS_MASTER_ACTIVE 1).wr Reg.BELL_STATUS_HOLDOVER 0
  { t with bell := { t.bell with handover := true, alternate := true, frameMiss := 0, missStreak := 0, holdBells := 0, goodEdges := 0, good := 0 } }

/-- DEPUTY_TAKEOVER (R17): the next epoch, the handover flag in the first frame, and the module's own counter. -/
def execDeputyTakeover (s : State) : Host.Outcome State Fault Refusal :=
  .next (
    if !s.on Reg.BELL_CTRL_EN ∨ s.rd Reg.BELL_CTRL_ROLE ≠ 2 ∨ s.isMaster ∨ s.bell.frameMiss < 4 ∨ s.on Reg.FLT_STATUS_MODULE_FATAL then s
    else s.becomeMaster)

/-- LATE_LIMIT_REACHED (R23). -/
def execLateLimitReached (s : State) : Host.Outcome State Fault Refusal :=
  .next (s.when (decide (s.rd Reg.BELL_LIMITS_LATE_LIMIT ≤ s.bell.lateRun)) (fun t => t.bellEvent Reg.BELL_EVENT_LATE_LIMIT))

/-- BELL_REPORT_SEND (R229). -/
def execBellReportSend (s : State) : Host.Outcome State Fault Refusal := .next s.sendReport

/-- BELL_REPORT_RECEIVED (R229). -/
def execBellReportReceived (entry : Nat) (report : BellReport) (s : State) : Host.Outcome State Fault Refusal :=
  s.guarded (1 < entry && entry < 18) (s.takeReport entry report)

/-- MODULE_LOST (R343). -/
def execModuleLost (xyz : Nat) (s : State) : Host.Outcome State Fault Refusal := .next (s.moduleLost xyz)

end Sys2Proof.Machine
end

