-- ==== Sys2Proof/Machine/RegWrite.lean ====
section
/-! DEFINITION. Register access (R2, R5 to R7, R26, R446, R447): where an address leads, what a write does to each field, the
registers whose chapters say more, and what reads show. MGT_ and TST_ registers whose writes start something are in
Machine/RegAll.lean. -/

namespace Sys2Proof.Machine

/-! ## Finding a register -/

/-- Indices of an offset in arrays of (count, stride), and what is left of it. -/
def placeAt : List (Nat × Nat) → Nat → Option (List Nat × Nat)
  | [], o => some ([], o)
  | d :: r, o => if o / d.2 < d.1 then (placeAt r (o % d.2)).map (fun x => (o / d.2 :: x.1, x.2)) else none

/-- The register at an address: its row, its first byte and its indices. P0 has no CIPH_PART_EK. -/
def findReg (addr : Nat) : Option (RegRow × Nat × List Nat) :=
  regTable.findSome? (fun r =>
    if addr < r.base then none
    else match placeAt r.dims (addr - r.base) with
      | some (idx, off) =>
        if off < r.bits / 8 ∧ addr - off ≠ Reg.CIPH_PART_EK 0 then some (r, addr - off, idx) else none
      | none => none)

/-- The place of a row's field in an instance of its register. -/
def FieldRow.at (f : FieldRow) (ra : Nat) (idx : List Nat) : Fld := { addr := ra, lsb := f.lsb, w := f.w, rst := f.rst idx }

/-- A register's value as its fields hold it; write-only fields read 0. -/
def State.image (s : State) (r : RegRow) (ra : Nat) (idx : List Nat) : Nat :=
  ((r.fields.filter (fun f => decide (f.acc ≠ .wo))).map (fun f => s.rd (f.at ra idx) * 2 ^ f.lsb)).sum

/-! ## One write -/

/-- A write of bits `lo` to `lo + n - 1` of a register. -/
structure RegAcc where
  src : Src
  row : RegRow
  ra : Nat
  idx : List Nat
  lo : Nat
  n : Nat
  v : Nat
  /-- Address of the access that makes it. -/
  addr : Nat

/-- Index `i` of the register's instance. -/
def RegAcc.ix (x : RegAcc) (i : Nat) : Nat := x.idx.getD i 0

/-- The written bits at their place in the register, 0 elsewhere. -/
def RegAcc.put (x : RegAcc) : Nat := x.v % 2 ^ x.n * 2 ^ x.lo

/-- The register with the written bits in place. -/
def RegAcc.img (x : RegAcc) (s : State) : Nat := setBits (s.image x.row x.ra x.idx) x.lo x.n x.v

/-- Some bit of the field is written. -/
def RegAcc.covers (x : RegAcc) (f : FieldRow) : Bool := decide (x.lo < f.lsb + f.w) && decide (f.lsb < x.lo + x.n)

/-- The value a write gives a field. -/
def RegAcc.new (x : RegAcc) (s : State) (f : FieldRow) : Nat :=
  let a := max x.lo f.lsb
  let b := min (x.lo + x.n) (f.lsb + f.w)
  setBits (s.rd (f.at x.ra x.idx)) (a - f.lsb) (b - a) (bits x.v (a - x.lo) (b - a)) % 2 ^ f.w

/-- A value outside a range that a field shares with others of its register, or of which the table asks an alignment: BASE + LEN of
PART_TS, PBASE + LEN and MBASE + LEN of PART_SEG unless LEN is 0, CEILING below GUARANTEE, and bitmaps of PART_LOG. -/
def RegAcc.misfit (x : RegAcc) (s : State) (f : FieldRow) : Bool :=
  let b := x.row.base
  let v := x.img s
  if b = Reg.PART_TS 0 0 then f.lsb == 16 && decide (384 < bits v 0 9 + bits v 16 9)
  else if b = Reg.PART_SEG 0 0 then
    f.lsb == 32 && bits v 32 11 != 0 && (decide (1152 < bits v 0 11 + bits v 32 11) || decide (1152 < bits v 16 11 + bits v 32 11))
  else if b = Reg.PART_FABRIC 0 then
    f.lsb == 16 && decide (bits v 16 12 < (if 3200 < bits v 0 12 then s.rd (Reg.PART_FABRIC_GUARANTEE (x.ix 0)) else bits v 0 12))
  else if b = Reg.PART_LOG 0 0 then (f.lsb == 128 || f.lsb == 192) && bits v f.lsb 6 != 0
  else false

/-- A written field is given a value outside its range (R447). -/
def RegAcc.outside (x : RegAcc) (s : State) (f : FieldRow) : Bool :=
  x.covers f && (f.acc == .rw || f.acc == .rws) && (!(decide (f.lo ≤ x.new s f) && decide (x.new s f ≤ f.hi)) || x.misfit s f)

/-- The write is recorded as the unsupported-access error. -/
def RegAcc.deny (x : RegAcc) (s : State) : State := s.unsup x.src x.addr true

/-- One field of a write: RO and WO fields are not changed here, RW1C bits written 1 are cleared, RW and RWS take a value in their
range. -/
def RegAcc.field (x : RegAcc) (s : State) (f : FieldRow) : State :=
  if !x.covers f then s
  else match f.acc with
    | .ro => s
    | .wo => s
    | .w1c =>
      let old := s.rd (f.at x.ra x.idx)
      s.wr (f.at x.ra x.idx) (old - Nat.land old (bits x.put f.lsb f.w))
    | _ => if x.outside s f then s else s.wr (f.at x.ra x.idx) (x.new s f)

/-- The written fields for which `p` holds, in order. -/
def RegAcc.fields (x : RegAcc) (s : State) (p : FieldRow → Bool) : State := (x.row.fields.filter p).foldl (fun t f => x.field t f) s

/-! ## Interrupts of event registers (R446) -/

/-- Event, error and cause registers with an enable register (at the next word): base of the row and PF vector (Table 7.4). -/
def eventRegs : List (Nat × Nat) :=
  [(Reg.BELL_EVENT, 1), (Reg.ME_ERR 0, 3), (Reg.MEM_ERR, 3), (Reg.CPY_ERR 0, 3), (Reg.CPY_ERR 18, 3), (Reg.PART_EVENT 0, 2), (Reg.PCI_EVENT, 4),
    (Reg.FAB_PORT_EVENT 0, 7), (Reg.RKT_EVENT, 7), (Reg.PKT_EVENT, 7), (Reg.SCH_EVENT, 7), (Reg.BLK_EVENT, 8), (Reg.MED_EVENT 0, 8),
    (Reg.CIPH_EVENT, 8), (Reg.CKP_EVENT, 0), (Reg.FLT_EVENT, 0), (Reg.PWR_EVENT, 5), (Reg.MGT_EVENT, 6)]

/-- Value of the register at an address by its row. -/
def State.imageAt (s : State) (addr : Nat) : Nat :=
  match findReg addr with
  | some (r, ra, idx) => s.image r ra idx
  | none => 0

/-- After a write that cleared event bits or set enable bits (`old` before, `s` after): the further interrupt that R446 gives. -/
def RegAcc.interrupts (x : RegAcc) (old s : State) : State :=
  match eventRegs.find? (fun e => e.1 == x.row.base), eventRegs.find? (fun e => e.1 + 4 == x.row.base) with
  | some e, _ =>
    let now := s.image x.row x.ra x.idx
    if now ≠ old.image x.row x.ra x.idx ∧ Nat.land now (s.imageAt (x.ra + 4)) ≠ 0 then s.raise e.2 x.ra else s
  | none, some e =>
    let was := old.image x.row x.ra x.idx
    let now := s.image x.row x.ra x.idx
    if Nat.land (now - Nat.land now was) (s.imageAt (x.ra - 4)) ≠ 0 then s.raise e.2 (x.ra - 4) else s
  | none, none => s

/-! ## The write of a register without more rules (R2, R447) -/

/-- Fields for which `p` holds are written; an out-of-range value is recorded, but for the fields of `quiet`, whose own words
discard it. -/
def RegAcc.someFields (x : RegAcc) (s : State) (p : FieldRow → Bool) (quiet : List Nat) : State :=
  let t := x.interrupts s (x.fields s p)
  t.when (x.row.fields.any (fun f => p f && x.outside s f && !quiet.contains f.lsb)) x.deny

/-- Every field is written. -/
def RegAcc.generic (x : RegAcc) (s : State) : State := x.someFields s (fun _ => true) []

/-- The written words of a wide register, as (word, value). -/
def RegAcc.words (x : RegAcc) : List (Nat × Nat) :=
  (List.range (x.n / 32)).map (fun i => (x.lo / 32 + i, bits x.v (32 * i) 32))

/-! ## The bell (R34) -/

/-- A BELL_ register other than BELL_CTRL and BELL_COUNT: a value outside a range discards the whole write. -/
def RegAcc.bell (x : RegAcc) (s : State) : State :=
  let b := x.row.base
  if b = Reg.BELL_CTRL then s.writeBellCtrl x.v
  else if b = Reg.BELL_COUNT then s.loadCount (x.img s)
  else if (b = Reg.BELL_PERIOD ∨ b = Reg.BELL_PACE) ∧ s.on Reg.BELL_CTRL_EN then s.badParam
  else if x.row.fields.any (fun f => x.outside s f) then s.badParam
  else x.generic s

/-! ## Compute dies (chapters 03 to 05) -/

/-- Test mode, or the debug unlock (R412). -/
def State.testOrDebug (s : State) : Bool := s.rd Reg.TST_STATUS_MODE != 0

/-- Physical slot of an instance. -/
def RegAcc.slot (x : RegAcc) : Nat := x.ix 0 * 9 + x.ix 1

/-- A register of a compute die. -/
def RegAcc.die (x : RegAcc) (s : State) : State :=
  let b := x.row.base
  if b = Reg.ME_MAP 0 then s.writeMap x.src (x.ix 0) x.v
  else if b = Reg.ME_DIE_CTRL 0 then (if s.on (Reg.ME_DIE_CTRL_MAP_LOCK (x.ix 0)) then s else x.generic s)
  else if b = Reg.ME_LOG_CTRL 0 then
    let shut := x.covers ⟨"RAMP_EN", 7, 1, .rw, fun _ => 1, 0, 1⟩ && !bit x.v 7 && !s.testOrDebug
    (x.someFields s (fun f => f.lsb != 7 || !shut) [0]).when shut x.deny
  else if b = Reg.ME_SHARE 0 0 then s.writeShare (x.ix 0 * 8 + x.ix 1) (x.ix 2) x.v
  else if b = Reg.TC_CTRL 0 0 then
    let c := x.slot * 16 + x.ix 2 * 4
    let t := s.each 4 (fun i t => t.when (bit x.v i && !bit x.v (4 + i)) (fun t => t.tcStart x.src (c + i)))
    t.each 4 (fun i t => t.when (bit x.v (4 + i)) (fun t => t.tcStop (c + i)))
  else if b = Reg.TC_CTX_BIND 0 0 0 then s.tcBind x.src (x.slot * 16 + x.ix 2 * 4 + x.ix 3) false x.v
  else if b = Reg.TC_CTX_PC 0 0 0 then s.tcBind x.src (x.slot * 16 + x.ix 2 * 4 + x.ix 3) true x.v
  else x.generic s

/-! ## Memory and data ports (chapter 05) -/

/-- A MEM_ register. -/
def RegAcc.mem (x : RegAcc) (s : State) : State :=
  let b := x.row.base
  if b = Reg.MEM_PROMOTE then s.writePromote x.src x.v
  else if (b = Reg.MEM_ILK_BASE 0 ∨ b = Reg.MEM_ILK_CTRL 0) ∧ s.on (Reg.MEM_ILK_CTRL_EN (x.ix 0)) then s
  else x.generic s

/-- A DPORT_ register: DPORT1 is written by the Reeve. -/
def RegAcc.dport (x : RegAcc) (s : State) : State :=
  let i := x.ix 0
  let reeve := x.src == .reeve || x.src == .core 320
  if i = 1 ∧ !reeve then s
  else if x.row.base = Reg.DPORT_DATA 0 then s.dportWrite i (leBytes 4 x.v)
  else if x.row.base = Reg.DPORT_CTRL 0 then (x.generic s).when (bit x.v 2) (fun t => t.setAhead i 0)
  else x.generic s

/-! ## Partitions and the endpoint (chapters 06 and 07) -/

/-- The command that a code of PART_CMD and the form in PART_ARG name (Table 6.4). A form of 0x0B that the table
does not have is BAD_ARG. -/
def State.partCode (s : State) (p code : Nat) : Nat :=
  if code = 0x04 then (if s.on (Reg.PART_ARG_UNBIND p) then 0x104 else 0x04)
  else if code = 0x0B then (match s.rd (Reg.PART_ARG_ENGINE p) with
    | 0 => 0x0B
    | 1 => 0x10B
    | 2 => 0x20B
    | _ => 0x30B)
  else code

/-- A PART_ register. A RESTORE written here finds the blob that the module put at its address, whole and
of version 1.0 (R173). -/
def RegAcc.part (x : RegAcc) (s : State) : State :=
  let b := x.row.base
  let p := x.ix 0
  if b = Reg.PART_CMD 0 then
    let known := (Tab.get none s.hostBlobs (s.rd (Reg.PART_MIG_ADDR_ADDR p) * 64)).isSome
    s.partCmd p (s.partCode p (bits x.v 0 8)) (bit x.v 8) known 1 0 none
  else if b = Reg.PART_SLICE 0 0 then s.writeSlice p (x.ix 1) (x.img s)
  else if b = Reg.PART_LOG 0 0 then (if (s.part p).logging then s else x.generic s)
  else x.generic s

/-- A PCI_ register. -/
def RegAcc.pci (x : RegAcc) (s : State) : State :=
  let b := x.row.base
  if b = Reg.PCI_DRV then (match bits x.v 0 2 with
    | 1 => s.attach
    | 2 => s.detach
    | _ => s)
  else if b = Reg.PCI_HB then s.heartbeat
  else if b = Reg.PCI_HB_SCOPE then s.wr Reg.PCI_HB_SCOPE_PARTS (Nat.lor (x.img s) 1)
  else if b = Reg.PCI_RESUME then s.resumeParts x.put
  else if b = Reg.PCI_CPL_CFG ∨ b = Reg.PCI_HB_CFG then x.someFields s (fun _ => true) [0]
  else x.generic s

/-! ## Fabric, transport and packets (chapters 08 to 10) -/

/-- A FAB_ register; those of a port that does not exist take nothing. Enabling a port starts its training, disabling it takes its
link down. -/
def RegAcc.fab (x : RegAcc) (s : State) : State :=
  let b := x.row.base
  let l := x.ix 0
  if b = Reg.FAB_CFG then s.writeQuads x.v
  else if b = Reg.FAB_LANE_LIMITS then x.generic s
  else if !s.portExists l then s
  else if b = Reg.FAB_PORT_CTRL 0 then
    let was := s.on (Reg.FAB_PORT_CTRL_EN l)
    let t := x.generic s
    if !was ∧ t.on (Reg.FAB_PORT_CTRL_EN l) then t.wr (Reg.FAB_PORT_STATUS_TRAINING l) 1
    else if was ∧ !t.on (Reg.FAB_PORT_CTRL_EN l) then
      (if t.on (Reg.FAB_PORT_STATUS_LINK_UP l) then t.portDown l else t.wr (Reg.FAB_PORT_STATUS_TRAINING l) 0)
    else t
  else if b = Reg.FAB_PFC_CFG 0 then
    let bad := decide (bits x.v 8 8 ≤ bits x.v 16 8)
    (x.someFields s (fun f => f.lsb != 16 || !bad) []).when bad x.deny
  else if b = Reg.FAB_RETRAIN 0 then s.when (bit x.v 0) (fun t => t.retrain l)
  else x.generic s

/-- An enabled connection or bell peer names path table entry `i`. -/
def State.pathNamed (s : State) (i : Nat) : Bool :=
  s.conns.any (fun e => s.on (Reg.RKT_CONN_EN e.1) && decide (s.rd (Reg.RKT_CONN_PATH_BASE e.1) ≤ i) &&
    decide (i ≤ s.rd (Reg.RKT_CONN_PATH_BASE e.1) + s.rd (Reg.RKT_CONN_PATH_N e.1))) ||
  (List.range 18).any (fun n => s.on (Reg.RKT_BELL_PEER_EN n) && (s.rd (Reg.RKT_BELL_PEER_PRIMARY n) == i || s.rd (Reg.RKT_BELL_PEER_SECONDARY n) == i))

/-- A RKT_ register. -/
def RegAcc.rkt (x : RegAcc) (s : State) : State :=
  let b := x.row.base
  let i := x.ix 0
  if b = Reg.RKT_CONN 0 then
    let en := bit (x.img s) 18
    if s.on (Reg.RKT_CONN_EN i) then (if en then s else s.connDisable i (x.img s))
    else if en then s.connEnable i (x.img s)
    else s.connWrite i (x.img s)
  else if b = Reg.RKT_PATH 0 then
    (if s.pathNamed i && s.on (Reg.FAB_PORT_CTRL_EN (s.rd (Reg.RKT_PATH_PORT i))) then x.deny s else x.generic s)
  else if b = Reg.RKT_PEER 0 then
    (if s.conns.any (fun e => s.on (Reg.RKT_CONN_EN e.1) && s.rd (Reg.RKT_CONN_PEER e.1) == i) then s else x.generic s)
  else x.generic s

/-- A PKT_ register. Of a pair of words the higher is taken first, so that a valid bit or a commit finds its fields. -/
def RegAcc.pkt (x : RegAcc) (s : State) : State :=
  let b := x.row.base
  let i := x.ix 0
  if b = Reg.PKT_RULE 0 then x.words.reverse.foldl (fun (t : State) w => t.writeRule i w.1 w.2) s
  else if b = Reg.PKT_HASH 0 then x.words.reverse.foldl (fun (t : State) w => t.writeHash i w.1 w.2) s
  else if b = Reg.PKT_RAW 0 then s.writeRaw i x.v
  else if b = Reg.PKT_RANGE 0 then x.someFields s (fun f => decide (32 ≤ f.lsb) || !s.on (Reg.PKT_RANGE_EN i)) []
  else x.generic s

/-- A SCH_ register; those of a port that does not exist take nothing. -/
def RegAcc.sch (x : RegAcc) (s : State) : State :=
  let b := x.row.base
  let l := x.ix 0
  let armed := s.on (Reg.SCH_ALM_CMD_ARMED l)
  if b < Reg.SCH_PORT_CTRL 0 then x.generic s
  else if !s.portExists l then s
  else if b = Reg.SCH_ALM_TAKE 0 then (if armed then s else x.generic s)
  else if b = Reg.SCH_ALM_SHADOW 0 0 then (if armed then x.deny s else x.generic s)
  else if b = Reg.SCH_ALM_CMD 0 then
    if armed then
      let same := bits x.v 3 1 == s.rd (Reg.SCH_ALM_CMD_SH_EN l) && bits x.v 4 3 == s.rd (Reg.SCH_ALM_CMD_SH_CYCLE l)
      (s.when (!same) x.deny).when (bit x.v 1) (fun t => t.wr (Reg.SCH_ALM_CMD_ARMED l) 0)
    else
      let t := (x.generic s).when (bit x.v 0) (fun t => t.armAlmanac l)
      t.when (bit x.v 1) (fun t => t.wr (Reg.SCH_ALM_CMD_ARMED l) 0)
  else x.generic s

/-! ## Block service, media and cipher (chapters 11 and 12) -/

/-- A BLK_ or MED_ register. -/
def RegAcc.blk (x : RegAcc) (s : State) : State :=
  let b := x.row.base
  if b = Reg.BLK_VOL 0 then x.words.reverse.foldl (fun (t : State) w => t.writeVolume (x.ix 0) w.1 w.2) s
  else if b = Reg.MED_CTRL 0 then 
    let t := x.generic s
    if s.on (Reg.MED_CTRL_EN (x.ix 0)) && !t.on (Reg.MED_CTRL_EN (x.ix 0)) then t.mediaDown (x.ix 0) else t.when (bit x.v 6) (fun t => t.resetMedia (x.ix 0))
  else x.generic s

/-- A CIPH_ register. The epoch is written by the Reeve; clearing the last alarm bit makes new partition keys (R328). -/
def RegAcc.ciph (x : RegAcc) (s : State) : State :=
  let b := x.row.base
  if b = Reg.CIPH_CFG then
    let shut := !bit x.v 2 && !s.testOrDebug
    ((x.someFields s (fun f => f.lsb == 0 || (f.lsb == 2 && !shut)) []).when shut x.deny).writeNonceId x.src (bits x.v 10 22)
  else if b = Reg.CIPH_EPOCH then (if x.src == .reeve || x.src == .core 320 then s.writeEpoch (bits x.v 0 24) else s)
  else if b = Reg.CIPH_ALARM then (x.generic s).rekey
  else if b = Reg.CIPH_PART_EK 0 then x.words.foldl (fun (t : State) w => t.writeExportKey (x.ix 0) w.1 w.2) s
  else x.generic s

/-! ## Checkpoints and faults (chapter 13) -/

/-- Interlock regions of the enabled regions of a context. -/
def State.ckpIlks (s : State) (k : Nat) : List Nat := (s.ckpRegions k).map (fun r => s.rd (Reg.CKP_REGION_ILK k r))

/-- The enabled context `k` and another name one interlock region, or two regions of its own do (R345). -/
def State.ilkShared (s : State) (k : Nat) : Bool :=
  decide (((s.ckpIlks k).eraseDups).length ≠ (s.ckpIlks k).length) ||
  (List.range 4).any (fun j => j != k && s.on (Reg.CKP_CTRL_EN j) && (s.ckpIlks j).any (fun i => (s.ckpIlks k).contains i))

/-- A CKP_ register. A RESTORE comes with its list by a row of its own. -/
def RegAcc.ckp (x : RegAcc) (s : State) : State :=
  let b := x.row.base
  let k := x.ix 0
  if b = Reg.CKP_CTRL 0 ∨ b = Reg.CKP_REGION 0 0 ∨ b = Reg.CKP_TARGET 0 ∨ b = Reg.CKP_JOB 0 ∨ b = Reg.CKP_SHAPE 0 then
    if s.on (Reg.CKP_CTRL_EN k) || s.rd (Reg.CKP_STATUS_STATE k) != 0 then x.deny s
    else
      let t := x.generic s
      t.when (t.on (Reg.CKP_CTRL_EN k) && t.ilkShared k) (fun t => t.wr (Reg.CKP_CTRL_EN k) 0)
  else if b = Reg.CKP_CMD 0 then (match bits x.v 0 2 with
    | 1 => s.ckpTriggerCmd k
    | 3 => s.ckpAbortCmd k
    | 0 => x.deny s
    | _ => s)
  else if b = Reg.CKP_GRAN 0 then
    if s.on (Reg.CKP_GRAN_EN k) then s.when (x.lo == 64 && !bit x.put 75) (fun t => t.wr (Reg.CKP_GRAN_EN k) 0)
    else
      let bad := x.lo == 0 && bits x.put 0 26 != 0
      (x.someFields s (fun f => f.lsb != 0 || !bad) []).when bad x.deny
  else x.generic s

/-- A FLT_ register. -/
def RegAcc.flt (x : RegAcc) (s : State) : State :=
  let b := x.row.base
  if b = Reg.FLT_SWITCH then s.armSwitch x.v
  else if b = Reg.FLT_SWITCH_BELL ∧ s.on Reg.FLT_SWITCH_ARMED then s
  else x.generic s

/-! ## Power and hub (chapters 14, 15 and 17) -/

/-- A write of the V/F table: the clock falls to what the voltage in place supports under it, and rises when it may (R369). -/
def State.newVf (s : State) : State :=
  let top := max 16 (s.vfPace s.pwr.volt)
  (s.setClock (min s.pwr.clock top)).seekPace

/-- A PWR_ register. -/
def RegAcc.pwr (x : RegAcc) (s : State) : State :=
  let b := x.row.base
  if b = Reg.PWR_CTRL then s.writePwrCtrl x.src x.v
  else if b = Reg.PWR_REQ then
    let n := bits x.v 0 3
    if n = 2 ∨ n = 3 ∨ n = 4 then s.powerReq n false else s
  else if b = Reg.PWR_VF 0 then (x.generic s).newVf
  else if b = Reg.PWR_CAP then x.someFields s (fun _ => true) [0]
  else if b = Reg.PWR_THERM_LIM 0 then x.someFields s (fun f => f.lsb != 16 || decide (bits x.v 16 8 ≤ f.rst x.idx)) []
  else x.generic s

/-- A HUB_ register: HUB_SSC is written by the configuration image alone (R438). -/
def RegAcc.hub (x : RegAcc) (s : State) (load : Bool) : State :=
  if x.row.base = Reg.HUB_SSC ∧ !load then x.deny s
  else if x.row.base = Reg.HUB_PAD then x.someFields s (fun _ => true) [0, 2]
  else if x.row.base = Reg.HUB_FILTER then x.someFields s (fun _ => true) [8]
  else x.generic s

/-! ## The register write -/

/-- The write of a register outside MGT_ and TST_, by its block; `load` marks a load of the configuration image. -/
def RegAcc.store (x : RegAcc) (s : State) (load : Bool) : State :=
  if x.ra < 0x20000 then x.hub s load
  else if x.ra < 0x30000 then x.generic s
  else if x.ra < 0x40000 then x.pci s
  else match blockOf x.ra with
    | 1 => x.pwr s
    | 3 => x.bell s
    | 4 => x.part s
    | 5 => x.fab s
    | 6 => x.rkt s
    | 7 => x.pkt s
    | 8 => x.sch s
    | 9 => x.blk s
    | 10 => x.blk s
    | 11 => x.ciph s
    | 12 => x.ckp s
    | 13 => x.flt s
    | 14 => x.mem s
    | 15 => x.die s
    | 16 => x.die s
    | 17 => x.dport s
    | _ => x.generic s

/-- Held low word and latched high word of a register gone (R5). -/
def State.dropHalves (s : State) (ra : Nat) : State :=
  { s with heldLow := Tab.set 0 s.heldLow ra 0, latchedHigh := Tab.set 0 s.latchedHigh ra 0 }

/-- The part of a register that an aligned write of 4 or 8 bytes reaches under R5 and R6: bits, width and value; a low word of a
64-bit register is only held. Other shapes are not carried out (R7). -/
def State.shape (s : State) (src : Src) (r : RegRow) (ra : Nat) (idx : List Nat) (off size v : Nat) : State × Option RegAcc :=
  let acc (lo n v : Nat) : RegAcc := { src := src, row := r, ra := ra, idx := idx, lo := lo, n := n, v := v, addr := ra + off }
  if size = 4 ∧ off % 4 = 0 then
    if r.bits = 64 then
      if off = 0 then ({ s with heldLow := Tab.set 0 s.heldLow ra (v % 2 ^ 32 + 1) }, none)
      else
        let h := Tab.get 0 s.heldLow ra
        let t := { s with heldLow := Tab.set 0 s.heldLow ra 0 }
        if h = 0 then (t, some (acc 32 32 v)) else (t, some (acc 0 64 (h - 1 + v % 2 ^ 32 * 2 ^ 32)))
    else (s, some (acc (8 * off) 32 v))
  else if size = 8 ∧ off % 8 = 0 ∧ 64 ≤ r.bits ∧ 8 * off + 64 ≤ r.bits then (s.dropHalves ra, some (acc (8 * off) 64 v))
  else (s, none)

/-- An access of the PF or a VF that R7 does not carry out ends with Completer Abort; the row gives no header, so the logged one
is free. The other requesters make no such access. -/
def State.rejectShape (s : State) (src : Src) : State :=
  match src with
  | .pf => s.freeAbort 0
  | .vf n => s.freeAbort n
  | _ => s

/-- A write of `size` bytes at offset `off` of a register is one that R5 to R7 carry out. -/
def RegRow.carries (r : RegRow) (off size : Nat) : Bool :=
  (size == 4 && off % 4 == 0) || (size == 8 && off % 8 == 0 && decide (64 ≤ r.bits) && decide (8 * off + 64 ≤ r.bits))

/-- A write of 1 or 2 bytes within one aligned word (R7). -/
def narrowWrite (addr size : Nat) : Bool := size == 1 || (size == 2 && addr % 4 != 3)

/-- A register write at an address of PF BAR0, `put` being what its register does with it. -/
def State.regWriteBy (s : State) (src : Src) (addr size v : Nat) (put : RegAcc → State → State) : State :=
  match findReg addr with
  | none => s.unsup src addr true
  | some (r, ra, idx) =>
    if narrowWrite addr size then s.unsup src addr true
    else if !r.carries (addr - ra) size then s.rejectShape src
    else match s.shape src r ra idx (addr - ra) size v with
      | (t, some x) => put x t
      | (t, none) => t

/-- A load of the configuration image: 4 bytes. -/
def State.confWrite (s : State) (addr v : Nat) : State := s.regWriteBy .reeve addr 4 v (fun x t => x.store t true)

/-! ## What reads show -/

/-- Fields that show what the module does now: (lowest bit, width, value). -/
def State.shown (s : State) (b : Nat) (idx : List Nat) : List (Nat × Nat × Nat) :=
  let i := idx.getD 0 0
  let j := idx.getD 1 0
  let ps := i * 9 + j
  let core := ps * 16 + idx.getD 2 0 * 4
  let mask (n : Nat) (f : Nat → Bool) : Nat := ((List.range n).map (fun k => b2n (f k) * 2 ^ k)).sum
  let cpy (u : Nat) : List (Nat × Nat × Nat) :=
    let x := s.copy u
    [(0, 8, x.depth), (8, 4, x.flying), (12, 12, x.log.length), (24, 1, b2n (x.queue.any (fun d => d.held.isSome)))]
  if b = Reg.ME_SLOT_STATUS 0 then
    let x := s.slot ps
    [(8, 1, b2n (x.queue.any (fun m => decide (m.stage = .streaming) && decide (m.firstStep < s.now) && decide (s.now ≤ m.lastStep)))),
      (9, 1, b2n (decide (s.now < x.portFree))), (10, 1, b2n (x.chain.elim false (fun c => c.waitFrom.isSome))),
      (16, 7, x.depth)]
  else if b = Reg.ME_LOG_STATUS 0 then [(0, 7, ((List.range 64).map (fun p => Tab.get 0 s.shares ((i * 8 + j) * 64 + p))).sum)]
  else if b = Reg.TC_STATUS 0 0 then
    [(0, 4, mask 4 (fun k => (s.ctx (core + k)).alive)),
      (4, 4, mask 4 (fun k => match (s.ctx (core + k)).run with
        | .waiting _ _ => true
        | _ => false)),
      (8, 4, mask 4 (fun k => (s.ctx (core + k)).late))]
  else if b = Reg.TC_CTX_BELL 0 0 0 then [(0, 32, (s.ctx (core + idx.getD 3 0)).pb.toNat % 2 ^ 32)]
  else if b = Reg.CPY_STATUS 0 then cpy ps
  else if b = Reg.CPY_STATUS 18 then cpy (18 + i)
  else if b = Reg.PART_STATE 0 then (if i = 0 then [(0, 3, 2)] else [])
  else if b = Reg.PART_SLICE 0 0 then (if (s.part i).grants.slices ≤ j then [(0, 64, 0)] else [])
  else if b = Reg.SCH_PART 0 then [(0, 32, trunc 32 (Tab.get 0 s.fab.gTokens i)), (32, 32, trunc 32 (Tab.get 0 s.fab.cTokens i))]
  else if b = Reg.SCH_CLASS_TOKENS 0 0 then [(0, 32, trunc 32 (satI 32 (Tab.get 0 s.fab.classTokens (i * 8 + j))))]
  else if b = Reg.MEM_DEV 0 then [(7, 1, b2n (s.devLost i))]
  else if b = Reg.BLK_STATUS then [(0, 14, s.blk.cmds.length), (16, 10, s.blkStaged)]
  else if b = Reg.MED_STATUS 0 then [(16, 11, s.ssdLoad i)]
  else if b = Reg.MED_TEST 0 then [(8, 24, s.settleTests.rd (Reg.MED_TEST_TEST_TIME i))]
  else if b = Reg.CIPH_STATUS then [(0, 16, mask 16 (fun k => s.coreLoad k != 0)), (16, 13, s.keysHeld)]
  else if b = Reg.TST_STATUS then
    [(2, 1, b2n ((List.range 4).any (fun k => s.on (Reg.TST_DELAY_EN k) || s.on (Reg.TST_BP_EN k)) || s.on Reg.TST_JITTER_EN || s.on Reg.TST_LATE_ARMED ||
      s.on Reg.TST_INJECT_ARMED))]
  else if b = Reg.PWR_STATE then (if s.rd Reg.PWR_STATE_STATE = 0 ∧ s.allGated then [(0, 3, 1)] else [])
  else []

/-- The value a read of a register returns; one of a port that does not exist reads 0. -/
def State.regValue (s : State) (r : RegRow) (ra : Nat) (idx : List Nat) : Nat :=
  let perPort := (decide (0x210000 ≤ ra) && decide (ra < 0x280000)) || (decide (0x390000 ≤ ra) && decide (ra < 0x400000))
  if perPort && !s.portExists (idx.getD 0 0) then 0
  else (s.shown r.base idx).foldl (fun v e => setBits v e.1 e.2.1 e.2.2) (s.image r ra idx)

/-- A read of 1, 2, 4 or 8 bytes at an address of PF BAR0 (R5, R7, R26): the value, and what the read changes. -/
def State.regRead (s : State) (src : Src) (addr size : Nat) : State × Nat :=
  match findReg addr with
  | none => (s.unsup src addr false, 0)
  | some (r, ra, idx) =>
    let off := addr - ra
    let word := off / 4
    if size = 8 then
      if off % 8 = 0 ∧ 64 ≤ r.bits ∧ 8 * off + 64 ≤ r.bits then (s.dropHalves ra, bits (s.regValue r ra idx) (8 * off) 64) else (s, 0)
    else if size = 4 ∧ off % 4 ≠ 0 then (s, 0)
    else if size = 2 ∧ off % 4 = 3 then (s, 0)
    else
      let whole : State × Nat :=
        if r.base = Reg.DPORT_DATA 0 then
          let d := s.dportRead (idx.getD 0 0) 4
          (d.1, leNat d.2)
        else if r.bits = 64 then
          let v := s.regValue r ra idx
          if word = 0 then ({ s with latchedHigh := Tab.set 0 s.latchedHigh ra (v / 2 ^ 32 + 1) }, v % 2 ^ 32)
          else
            let h := Tab.get 0 s.latchedHigh ra
            ({ s with latchedHigh := Tab.set 0 s.latchedHigh ra 0 }, if h = 0 then v / 2 ^ 32 else h - 1)
        else (s, bits (s.regValue r ra idx) (32 * word) 32)
      (whole.1, bits whole.2 (8 * (off % 4)) (8 * size))

/-! ## The window of a VF and MSI-X tables (R28, R165, R167, R182) -/

/-- The partition that a VF is bound to. -/
def State.partOfVf (s : State) (n : Nat) : Option Nat := (s.parts.find? (fun e => e.2.vf == some n)).map Prod.fst

/-- A 32-bit write in a VF's BAR0: a doorbell, a word of a queue record; the status page takes nothing. -/
def State.vfWrite (s : State) (n off v : Nat) : State :=
  match s.partOfVf n with
  | none => s
  | some p =>
    if off < 0x10000 then
      let cls := off / 0x4000
      if v / 65536 % 65536 ≠ 0 then s.dropDoorbell p else s.doorbell p cls (off % 0x4000 / 4) v
    else if off < 0xF0000 then
      let o := off - 0x10000
      if o / 0x20000 < 4 then s.writeRecord p (o / 0x20000) (o % 0x20000 / 32) (o % 32 / 4) v else s.unsup (.vf n) off true
    else if off < 0x100000 then s
    else s.unsup (.vf n) off true

/-- A word of the status page of a partition (Table 6.7). -/
def State.statusWord (s : State) (p off : Nat) : Nat :=
  let x := s.part p
  let entry (k : Nat) : List Nat :=
    let e := Tab.get ExcEntry.zero x.ring k
    leBytes 2 e.ctxid ++ leBytes 2 e.engine ++ leBytes 4 e.ecause ++ leBytes 4 e.epc ++ leBytes 4 e.eaddr ++ leBytes 8 e.pb ++ leBytes 8 0
  if off = 0 then (s.partState p).code + 256 * b2n ((s.ctxsOf p).any (fun c => decide ((s.ctx c).run = .halted)))
  else if off = 4 then x.dropped
  else if off = 8 then s.count % 2 ^ 32
  else if off = 12 then s.count / 2 ^ 32
  else if off = 16 then x.excIndex % 2 ^ 32
  else if off = 20 then x.rejected
  else if 0x100 ≤ off ∧ off < 0x140 then s.counter p ((off - 0x100) / 4)
  else if 0x200 ≤ off ∧ off < 0x600 then s.counter p (256 * (off / 256 - 1) + off % 256 / 4)
  else if 0x800 ≤ off ∧ off < 0xA00 then leNat (((entry ((off - 0x800) / 32)).drop (off % 32 / 4 * 4)).take 4)
  else 0

/-- A 32-bit read in a VF's BAR0: the doorbell region and what lies in no region read 0, the queue windows show the record's word,
and the status page its words, the bell count under R5 (R28, R165, R167). -/
def State.vfRead (s : State) (n off : Nat) : State × Nat :=
  match s.partOfVf n with
  | none => (s, 0)
  | some p =>
    if off < 0x10000 then (s, 0)
    else if off < 0xF0000 then
      let o := off - 0x10000
      if o / 0x20000 < 4 then (s, s.recordWord p (o / 0x20000) (o % 0x20000 / 32) (o % 32 / 4)) else (s.unsup (.vf n) off false, 0)
    else if off < 0x100000 then
      let key := 2 ^ 28 + p
      if off = 0xF0008 then ({ s with latchedHigh := Tab.set 0 s.latchedHigh key (s.count / 2 ^ 32 + 1) }, s.statusWord p 8)
      else if off = 0xF000C then
        let h := Tab.get 0 s.latchedHigh key
        ({ s with latchedHigh := Tab.set 0 s.latchedHigh key 0 }, if h = 0 then s.statusWord p 12 else h - 1)
      else (s, s.statusWord p (off - 0xF0000))
    else (s.unsup (.vf n) off false, 0)

/-- A 64-bit read there: the bell count whole, its latched half dropped (R5, R167); no other place carries one out (R7). -/
def State.vfReadWide (s : State) (n off : Nat) : State × Nat :=
  match s.partOfVf n with
  | some p => if off = 0xF0008 then ({ s with latchedHigh := Tab.set 0 s.latchedHigh (2 ^ 28 + p) 0 }, s.count) else (s, 0)
  | none => (s, 0)

/-- A 32-bit write of the MSI-X table of a function (Table 7.2): an entry of 16 bytes; the pending bits take nothing. -/
def State.msixWrite (s : State) (f off v : Nat) : State :=
  if (if f = 0 then 0x8000 else 0x4000) ≤ off then s
  else
    let k := off / 16
    let e := s.vector f k
    match off % 16 / 4 with
    | 0 => s.setVector f k { e with addr := setBits e.addr 0 32 v }
    | 1 => s.setVector f k { e with addr := setBits e.addr 32 32 v }
    | 2 => s.setVector f k { e with data := v % 2 ^ 32 }
    | _ =>
      let t := s.setVector f k { e with masked := bit v 0 }
      t.when (!bit v 0 && e.pending) (fun t => t.sendMsix f k)

end Sys2Proof.Machine
end

