-- ==== Sys2Proof/Machine/Start.lean ====
section
/-! DEFINITION. Starts, configuration images and firmware packages (chapter 15: R382, R390 to R403, R407, R409). -/

namespace Sys2Proof.Machine

/-! ## Configuration images (R391 to R393) -/

/-- The keys whose digests the ROM holds (R401). -/
def vendorKeys : List (List Nat) :=
  [leBytes 68 (Config.fuse "vendor key 0"), leBytes 68 (Config.fuse "vendor key 1"), leBytes 68 (Config.fuse "vendor key 2"), leBytes 68 (Config.fuse "vendor key 3")]

/-- Sections of an image: type, offset, length and the four zero bytes. -/
def imageSections (img : List Nat) : List (Nat × Nat × Nat × Nat) :=
  (List.range (entryNum img 16 4)).map (fun i => (entryNum img (64 + 16 * i) 4, entryNum img (68 + 16 * i) 4, entryNum img (72 + 16 * i) 4, entryNum img (76 + 16 * i) 4))

/-- The header and the section table are well formed (R391). The access lists take 32 four-byte masks and the watchdog timeout
four bytes (notes/assumptions/29.md). -/
def imageShape (img : List Nat) : Bool :=
  img.take 4 == [0x4C, 0x44, 0x58, 0x49] && entryNum img 4 2 == 0 && entryNum img 6 2 == 1 && entryNum img 8 4 == img.length &&
  decide (2884 ≤ img.length) && decide (img.length ≤ 2 ^ 20) && decide (1 ≤ entryNum img 16 4) && decide (entryNum img 16 4 ≤ 32) &&
  decide (entryNum img 20 1 ≤ 1) && entryNum img 21 43 == 0 &&
  (imageSections img).all (fun x =>
    x.2.2.2 == 0 && decide (64 + 16 * entryNum img 16 4 ≤ x.2.1) && decide (x.2.1 + x.2.2.1 ≤ img.length - 2820) &&
    (match x.1 with
      | 1 => x.2.2.1 % 8 == 0
      | 2 => x.2.2.1 == 128
      | 3 => x.2.2.1 == 4 && decide (10 ≤ entryNum img x.2.1 4) && decide (entryNum img x.2.1 4 ≤ 255)
      | _ => false))

/-- The image's signature verifies under the owner key, and the owner record under a vendor key (R392). -/
def imageSigned (owner img : List Nat) : Bool :=
  vendorKeys.any (fun k => Config.xmssVerify k (owner.take 68) (owner.drop 68)) &&
  Config.xmssVerify (owner.take 68) (img.take (img.length - 2820)) (img.drop (img.length - 2820))

/-- The register loads of an image, in order: a PF BAR0 offset and a value. -/
def imageLoads (img : List Nat) : List (Nat × Nat) :=
  ((imageSections img).filter (fun x => x.1 == 1)).flatMap (fun x =>
    (List.range (x.2.2.1 / 8)).map (fun i => (entryNum img (x.2.1 + 8 * i) 4, entryNum img (x.2.1 + 8 * i + 4) 4)))

/-- The four-byte words of the sections of a type. -/
def imageWords (img : List Nat) (typ : Nat) : List Nat :=
  ((imageSections img).filter (fun x => x.1 == typ)).flatMap (fun x => (List.range (x.2.2.1 / 4)).map (fun i => entryNum img (x.2.1 + 4 * i) 4))

/-- A load may not target PART_, DPORT_, TST_ or MGT_ (R393). -/
def loadBarred (addr : Nat) : Bool := decide (0x40000 ≤ addr) && (blockOf addr == 4 || blockOf addr == 17 || blockOf addr == 18 || blockOf addr == 2)

/-- The loads applied in order; none when one is barred or refused by its register. -/
def State.applyLoads : List (Nat × Nat) → State → Option State
  | [], s => some s
  | e :: r, s =>
    if loadBarred e.1 then none
    else
      let t := s.confWrite e.1 e.2
      if t.on Reg.PCI_EVENT_UNSUP_ACCESS || t.on Reg.BELL_EVENT_BAD_PARAM then none else State.applyLoads r t

/-- An image read, verified and loaded, none when it fails as a whole (R393): its loads, access lists, watchdog timeout, link
caps and static address. The stagger delay of MEn is n ns where its loads give no other (R79). -/
def State.loadImage (s : State) (img : List Nat) : Option State :=
  if imageShape img && imageSigned s.rv.owner img then
    (State.applyLoads (imageLoads img) (s.each 16 (fun n t => t.wr (Reg.ME_LOG_CTRL_STAGGER n) (4 * n)))).map (fun t =>
      let c := Config.imageCap img
      let t : State := { t with
        rv := { t.rv with image := some img, staticAddr := Config.imageAddress img % 128, access := (imageWords img 2).zipIdx.map (fun x => (x.2, x.1 % 2 ^ 19)) }
        pci := { t.pci with capWidth := [16, 8, 4, 1].getD (c % 4) 16, capSpeed := c / 4 % 6 } }
      (imageWords img 3).foldl (fun (t : State) v => t.wr Reg.MGT_WDOG_TIMEOUT v) t)
  else none

/-! ## The steps of Table 15.6 -/

/-- A start step fails: recorded, and a cold start follows (R396). -/
def State.startFails (s : State) (step code : Nat) : State :=
  let t := ((s.wr Reg.HUB_START_ERR_STEP step).wr Reg.HUB_START_ERR_CODE code).incSat Reg.HUB_START_ERR_COUNT 1
  { t with rv := { t.rv with retry := true, retryFrom := t.now } }

/-- The places of the firmware regions (R386, R403, R410): free values, within the commons. -/
def logPlace : Nat := commonsBase + Config.fuse "event log place" % 1533 * 65536
def bankPlace : Nat := commonsBase + Config.fuse "firmware bank place" % 1473 * 65536
def reportPlace : Nat := commonsBase + Config.fuse "report place" % 1536 * 65536

/-- The next leaf at a start: that of a last clean record, else the end of the last reservation (R409). -/
def State.takeLeaf (s : State) : State := (s.wr Reg.MGT_XMSS_NEXT (s.rv.leafClean.getD s.rv.leafEnd)).wr Reg.MGT_XMSS_RESERVED_END s.rv.leafEnd

/-- The Reeve leaves reset at the start of its ROM, level M, its stack at the top of its RAM (R86, R382). -/
def State.reeveRom0 (s : State) : State := s.setCtx 320 (Ctx.reset.start 0x10000000 0x80000 2 s.count)

/-- Step 1: the Reeve leaves reset and the start-attempt counter increments (R395, R396). -/
def State.startRom (s : State) (warm : Bool) : State :=
  let t := s.wr Reg.HUB_START_STAGE 1
  let t := (t.wr Reg.HUB_START_KIND (b2n warm)).wr Reg.HUB_START_ATTEMPTS (min 15 (t.rd Reg.HUB_START_ATTEMPTS + 1))
  let t := ((t.wr Reg.HUB_START_SLOT 0).wr Reg.HUB_START_MINIMAL 0).wr Reg.HUB_START_RECOVERY 0
  let t := ((t.wr Reg.MGT_LOG_BASE_ADDR logPlace).wr Reg.MGT_FW_BANK_ADDR bankPlace).wr Reg.MGT_FW_STATUS_SVN_FLOOR t.rv.svnFloor
  let t := ((t.wr Reg.PWR_STATE_STATE 0).wr Reg.PWR_STATE_TRANSIT 0).wr Reg.PWR_STATE_RDY 15
  let t : State := { t with pwr := { t.pwr with off := false, transit := none, switchOpen := false }, rv := { t.rv with retry := false, cause := 0, wdogAt := t.now } }
  t.takeLeaf.reeveRom0

/-- Minimal mode on slot B, or recovery (R396, R397). -/
def State.minimal (s : State) (slotB recovery : Bool) : State := ((s.wr Reg.HUB_START_MINIMAL 1).wr Reg.HUB_START_SLOT (b2n slotB)).wr Reg.HUB_START_RECOVERY (b2n recovery)

/-- Step 4 on slot B: none when its image fails too. -/
def State.configB (s : State) : Option State := (s.minimal true false).loadImage s.rv.slotB

/-- Step 4: the slot that the counter chooses (R396). A slot-A image marked minimal runs in minimal mode; one that fails counts
a failed start, and slot B follows at once. -/
def State.config (s : State) : Option State :=
  let n := s.rd Reg.HUB_START_ATTEMPTS
  if 6 ≤ n then some (s.minimal false true)
  else if 3 ≤ n then s.configB
  else match s.loadImage s.rv.slotA with
    | some t => some (if entryNum s.rv.slotA 20 1 = 1 then t.minimal false false else t)
    | none => (({ (s.startFails 4 3) with rv := s.rv } : State)).configB

/-- ME_MAP of a die from the self-test: the lowest engine whose slot failed takes S8 when it is healthy, the others are offline
(R82, R84). -/
def dieMap (failed : List Nat) (d : Nat) : Nat :=
  let bad := (List.range 8).filter (fun l => failed.contains (9 * d + l))
  let spare := !failed.contains (9 * d + 8)
  ((List.range 8).map (fun l =>
    (if !bad.contains l then l else if spare && bad.head? == some l then 8 else 15) * 2 ^ (4 * l))).sum

/-- Step 6: failed slots, ME_MAP and its lock, the spare, I/O cores and spare elements (R82, R399). -/
def State.startSlots (s : State) (maps fails : List Nat) (r : Repair) : State :=
  let t := s.each 2 (fun d t =>
    let t := t.wr (Reg.ME_DIE_STATUS_FAILED d) (fails.getD d 0)
    let t := (t.each 8 (fun l t => t.wr (meMapFld (8 * d + l)) (bits (maps.getD d 0) (4 * l) 4))).refreshSlots d
    (t.wr (Reg.ME_DIE_STATUS_SPARE_AVAIL d) (b2n !(t.heldSlots d).isEmpty)).wr (Reg.ME_DIE_CTRL_MAP_LOCK d) 1)
  let t := t.wr Reg.HUB_REPAIR_SPARES r.spares
  { t with rv := { t.rv with cache := some r } }

/-- More positions of a group pair fail than its standby covers (R396): after step 7 a position that serves a logical device has
failed. -/
def State.gddrFails (s : State) : Bool := (List.range 26).any (fun pd => s.rd (Reg.MEM_DEV_ROLE pd) == 3 && s.rd (Reg.MEM_DEV_LD pd) != 31)

/-- Step 7: devices that moved before a warm start stand where they stood; positions that fail are promoted under R136, their
bytes lost, a standby that fails is failed, and a position that fails with no standby left is marked so (R137). -/
def State.startGddr (s : State) (bad : List Nat) : State :=
  let t := s.each 24 (fun ld t =>
    let pd := t.pdOf ld
    if pd = ld then t else (((t.wr (Reg.MEM_DEV_ROLE ld) 2).wr (Reg.MEM_DEV_LD ld) 31).wr (Reg.MEM_DEV_ROLE pd) 0).wr (Reg.MEM_DEV_LD pd) ld)
  let t := t.each 2 (fun i t => if bad.contains (24 + i) ∧ t.rd (Reg.MEM_DEV_ROLE (24 + i)) = 1 then t.wr (Reg.MEM_DEV_ROLE (24 + i)) 3 else t)
  t.each 26 (fun pd t =>
    if bad.contains pd ∧ t.rd (Reg.MEM_DEV_ROLE pd) = 0 then
      let u := t.memErr Reg.MEM_ERR_TRAIN_FAIL
      if 24 ≤ pd ∨ !t.standbyFree (standbyOf pd) then u.noStandby pd
      else (u.moveDevice pd (standbyOf pd)).loseDevice (t.rd (Reg.MEM_DEV_LD pd))
    else t)

/-- Step 8: the counter is set to 0 in a full start, a new epoch is recorded and written, and the module is HELD (R316, R396,
R403, notes/assumptions/30.md). -/
def State.startHeld (s : State) : State :=
  let t := ((s.wr Reg.HUB_START_STAGE 8).wr Reg.MGT_STATUS_STATE 1).when (!s.on Reg.HUB_START_MINIMAL) (fun t => t.wr Reg.HUB_START_ATTEMPTS 0)
  ({ t with rv := { t.rv with epoch := t.rv.epoch + 1 } } : State).writeEpoch (t.rv.epoch + 1)

/-- Steps 5 to 8, after the image is loaded. A warm start that runs the cold steps clears the retained units and treats retained
GDDR7 as lost (R398). -/
def State.startRest (s : State) (warm cold : Bool) (f : Found) : State :=
  let t := s.wr Reg.HUB_START_STAGE 5
  let t : State := { t with pci := { t.pci with configured := !t.pci.perst, training := !t.pci.perst } }
  if f.watchdog = 5 then t.startFails 5 5
  else
    let t := t.wr Reg.HUB_START_STAGE 6
    if f.watchdog = 6 then t.startFails 6 5
    else
      let rep := if cold then f.repair else t.rv.cache.getD f.repair
      let lost : Tab Bool := if warm then (List.range 24).map (fun ld => (ld, true)) else []
      let t : State := if cold then { t with mem := [], memSt := { MemSt.reset with lostDev := lost } } else t
      let mask (d : Nat) : Nat := ((List.range 9).map (fun i => b2n (rep.slots.contains (9 * d + i)) * 2 ^ i)).sum
      let saved := t.pwr.savedMap
      let t := if cold ∨ saved.length ≠ 4 then t.startSlots [dieMap rep.slots 0, dieMap rep.slots 1] [mask 0, mask 1] rep
        else t.startSlots (saved.take 2) (saved.drop 2) rep
      let t := t.wr Reg.HUB_START_STAGE 7
      if f.watchdog = 7 then t.startFails 7 5
      else
        let t := t.startGddr f.positions
        if t.gddrFails then t.startFails 7 4 else t.startHeld

/-- Steps 1 to 8 of Table 15.6, from a module that is wiped. A warm start whose cache does not verify runs the cold steps. -/
def State.startSteps (s : State) (warm : Bool) (f : Found) : State :=
  let cold := !(warm && s.rv.cache.isSome && s.rv.auxKey)
  let t := s.startRom !cold
  if f.watchdog = 1 then t.startFails 1 5
  else
    let t := t.wr Reg.HUB_START_STAGE 2
    if cold ∧ !f.puf then t.startFails 2 1
    else if f.watchdog = 2 then t.startFails 2 5
    else
      let t : State := { (t.wr Reg.MGT_PUBKEY_KEY (leNat identityKey)) with rv := { t.rv with auxKey := true } }
      let t := t.wr Reg.HUB_START_STAGE 3
      if cold ∧ !f.sram then t.startFails 3 2
      else if f.watchdog = 3 then t.startFails 3 5
      else
        let t := t.wr Reg.HUB_START_STAGE 4
        if f.watchdog = 4 then t.startFails 4 5
        else match t.config with
          | none => t.startFails 4 3
          | some u => u.startRest warm cold f

/-- A cold start (R395): the link goes down, everything but AUX storage, AUX registers and flash is at its start value, the AUX
key register clear, and time counts from 0; an AUX converter that had stopped has started, with AUX_OUT (R429). -/
def State.coldStart (s : State) (f : Found) : State :=
  let t := s.linkDown.wipe false
  let t : State := if t.pwr.aux then t else { t with pwr := { t.pwr with aux := true, auxOut := true } }.emit (.pin "AUX_OUT" true)
  ({ t with now := 0, rv := { t.rv with auxKey := false } } : State).startSteps false f

/-- A warm start of a module that left Deep sleep, its memories as Deep sleep kept them. -/
def State.wakeStart (s : State) (f : Found) : State :=
  let t := s.linkDown.wipe true
  ({ t with mem := s.mem, memSt := s.memSt } : State).startSteps true f

/-- A warm start asked for: what Deep sleep would keep is kept, and no clean record is written (R395, R409). -/
def State.warmStart (s : State) (f : Found) : State :=
  let t := s.enterDeep
  ({ t with rv := { t.rv with leafClean := s.rv.leafClean } } : State).wakeStart f

/-! ## Firmware packages (R400 to R403) -/

/-- Components of a package: type, offset, length, zero bytes and digest. -/
def packComps (b : List Nat) : List (Nat × Nat × Nat × Nat × List Nat) :=
  (List.range (entryNum b 12 4)).map (fun i =>
    (entryNum b (64 + 48 * i) 4, entryNum b (68 + 48 * i) 4, entryNum b (72 + 48 * i) 4, entryNum b (76 + 48 * i) 4, (b.drop (80 + 48 * i)).take 32))

/-- The layout of R400. -/
def packShape (b : List Nat) : Bool :=
  let n := entryNum b 12 4
  let cs := packComps b
  b.take 4 == [0x4C, 0x44, 0x58, 0x46] && entryNum b 8 4 == b.length && decide (b.length ≤ 2 ^ 22) && decide (1 ≤ n) && decide (n ≤ 4) &&
  entryNum b 16 48 == 0 && decide (64 + 48 * n + 68 + 2820 ≤ b.length) &&
  cs.all (fun c => c.2.2.2.1 == 0 && decide (64 + 48 * n + 68 ≤ c.2.1) && decide (c.2.1 + c.2.2.1 ≤ b.length - 2820) &&
    (match c.1 with
      | 1 => decide (c.2.2.1 ≤ 448 * 1024)
      | 2 => decide (c.2.2.1 ≤ 120 * 1024)
      | 3 => decide (c.2.2.1 ≤ 16 * 1024)
      | 4 => true
      | _ => false)) &&
  decide ((cs.map (·.1)).Nodup) && [1, 2, 3].all (fun k => (cs.map (·.1)).contains k)

/-- The package, or the result with which its verification ends: BAD_ARG, SIGNATURE, DIGEST or ROLLBACK (R401). -/
def verifyPack (b : List Nat) (floor : Nat) : Except Nat Firmware :=
  if !packShape b then .error 2
  else
    let n := entryNum b 12 4
    let key := (b.drop (64 + 48 * n)).take 68
    let comps := (packComps b).map (fun c => (c.1, c.2.2.2.2, (b.drop c.2.1).take c.2.2.1))
    if !((vendorKeys.map sha3).contains (sha3 key) && Config.xmssVerify key (b.take (64 + 48 * n + 68)) (b.drop (b.length - 2820))) then .error 4
    else if comps.any (fun c => shake c.2.2 32 != c.2.1) then .error 3
    else if entryNum b 7 1 < floor then .error 5
    else .ok { major := entryNum b 4 1, minor := entryNum b 5 1, patch := entryNum b 6 1, svn := entryNum b 7 1, comps := comps }

/-- The version as MGT_FW_VERSION shows it. -/
def Firmware.version (x : Firmware) : Nat := x.major * 2 ^ 24 + x.minor * 2 ^ 16 + x.patch * 2 ^ 8 + x.svn

/-- Digest and bytes of a component. -/
def Firmware.comp (x : Firmware) (typ : Nat) : List Nat × List Nat := ((x.comps.find? (fun c => c.1 == typ)).map (·.2)).getD ([], [])

/-- Where the Reeve's firmware is copied, where it is entered, and where a tending core's handler image lies: the spec names no
address (notes/assumptions/31.md). -/
def firmwarePlace : Nat := Config.fuse "firmware place" % 17 * 4096
def firmwareEntry : Nat := firmwarePlace + Config.fuse "firmware entry" % 114688 * 4
def handlerPlace : Nat := Config.fuse "handler place" % 61 * 4096

/-- The Reeve runs the operational firmware from RAM, at level M. -/
def State.reeveRuns (s : State) (x : Firmware) : State :=
  (s.putBytes (reeveRam + firmwarePlace) (x.comp 1).2).setCtx 320 (Ctx.reset.start firmwareEntry 0x80000 2 s.count)

/-- An I/O core starts from its image at local address 0, level F (R382). -/
def State.iocStart (s : State) (x : Firmware) (i : Nat) : State :=
  let t := (s.putBytes (iocBase i) (x.comp 2).2).setCtx (288 + i) (Ctx.reset.start 0 0x20000 1 s.count)
  t.wr Reg.HUB_IOC_RUN_RUN (Nat.lor (t.rd Reg.HUB_IOC_RUN_RUN) (2 ^ i))

/-- The I/O core's memory could not be repaired (R399). -/
def State.iocOffline (s : State) (i : Nat) : Bool := bit (s.rv.cache.elim 0 (·.iocs)) i

/-- A context of tending core `k` is in EXL. -/
def State.coreInExl (s : State) (k : Nat) : Bool :=
  (s.slotOf (k / 4)).elim false (fun ps => (List.range 4).any (fun j =>
    let x := s.ctx (16 * ps + 4 * (k % 4) + j)
    x.alive && x.st.getLsbD 11))

/-- The handler image is rewritten in the local memories of the tending cores `l`, but for those with a context in EXL, which wait for
its end (R404). -/
def State.putHandlers (s : State) (x : Firmware) (l : List Nat) : State :=
  let t := (l.filter (fun k => !s.coreInExl k)).foldl (fun (t : State) k =>
    if (t.slotOf (k / 4)).isSome then t.putBytes (tcBase (k / 4) (k % 4) + handlerPlace) (x.comp 3).2 else t) s
  { t with rv := { t.rv with handlers := l.filter (fun k => s.coreInExl k) } }

/-- The operational firmware starts (R382, R403): step RUNNING. -/
def State.runFirmware (s : State) (x : Firmware) : State :=
  let t := ({ s with rv := { s.rv with fw := some x, wdogAt := s.now } } : State).reeveRuns x
  let t := (t.each 32 (fun i t => if t.iocOffline i then t else t.iocStart x i)).putHandlers x (List.range 64)
  ((t.wr Reg.MGT_FW_VERSION_RUNNING x.version).wr Reg.MGT_STATUS_STATE 2).wr Reg.HUB_START_STAGE 9

/-- A firmware command ends with a result. -/
def State.endFw (s : State) (result : Nat) : State := (s.wr Reg.MGT_FW_STATUS_RESULT result).mgtEvent Reg.MGT_EVENT_FW_DONE

/-- The bytes staged in the firmware bank. -/
def State.stagedBank (s : State) : List Nat := s.bytes (s.rd Reg.MGT_FW_BANK_ADDR) (s.rd Reg.MGT_FW_LEN_LEN)

/-- What FW_LOAD does with a package that was verified: a good one runs at once in ROM, and is staged otherwise (R403). -/
def State.loadPack (s : State) (r : Except Nat Firmware) : State :=
  match r with
  | .error e => s.endFw e
  | .ok x =>
    if s.rd Reg.MGT_STATUS_STATE = 1 then (s.runFirmware x).endFw 0
    else (({ s with rv := { s.rv with staged := some x } } : State).wr Reg.MGT_FW_VERSION_STAGED x.version).endFw 0

/-- LOAD (R403). -/
def State.fwLoad (s : State) : State :=
  if s.rd Reg.MGT_STATUS_STATE = 3 ∨ s.on Reg.MGT_FW_STATUS_ARMED ∨ s.rv.handlers ≠ [] then s.endFw 1
  else s.loadPack (verifyPack s.stagedBank s.rv.svnFloor)

/-- ACTIVATE (R404, R24): refused with DENIED before the firmware runs, BUSY while armed, BAD_ARG with nothing staged. -/
def State.fwActivate (s : State) : State :=
  if s.rd Reg.MGT_STATUS_STATE = 3 ∨ s.on Reg.MGT_FW_STATUS_ARMED ∨ s.rv.handlers ≠ [] then s.endFw 1
  else if s.rd Reg.MGT_STATUS_STATE ≠ 2 then s.endFw 8
  else if s.rv.staged.isNone then s.endFw 2
  else if s.rd Reg.MGT_FW_BELL_BELL ≤ s.count then s.missedTarget.endFw 6
  else s.wr Reg.MGT_FW_STATUS_ARMED 1

/-- CANCEL before the edge (R404). -/
def State.fwCancel (s : State) : State :=
  if s.on Reg.MGT_FW_STATUS_ARMED ∧ s.count < s.rd Reg.MGT_FW_BELL_BELL then (s.wr Reg.MGT_FW_STATUS_ARMED 0).endFw 0 else s.endFw 2

/-- RAISE_SVN (R402). -/
def State.raiseSvn (s : State) : State :=
  match s.rv.fw with
  | some x =>
    let f := max s.rv.svnFloor x.svn
    (({ s with rv := { s.rv with svnFloor := f } } : State).wr Reg.MGT_FW_STATUS_SVN_FLOOR f).endFw 0
  | none => s.endFw 8

/-- A firmware command by its code. -/
def State.fwCommand (s : State) (code : Nat) : State :=
  match code with
  | 1 => s.fwLoad
  | 2 => s.fwActivate
  | 3 => s.fwCancel
  | 4 => s.raiseSvn
  | _ => s

/-- A write of the staged image to a slot, 0 A and 1 B (R394): the result and the state. -/
def State.cfgStore (s : State) (slot : Nat) : State × Nat :=
  let img := s.stagedBank
  if !imageShape img then (s, 2)
  else if !imageSigned s.rv.owner img then (s, 4)
  else if slot = 0 then (({ s with rv := { s.rv with slotA := img } } : State).wr Reg.HUB_START_ATTEMPTS 0, 0)
  else ({ s with rv := { s.rv with slotB := img } }, 0)

/-- MGT_CFG_CMD. -/
def State.cfgCommand (s : State) (slot : Nat) : State := (s.cfgStore slot).1.wr Reg.MGT_CFG_CMD_RESULT (s.cfgStore slot).2

/-- A command of MGT_FW_CMD (100 and its code) or MGT_CFG_CMD (110 and the slot) by register write: in Off nothing answers, during
a Reeve reset it waits (R385), and in STUCK nothing carries it out. Before HELD the ROM serves configuration writes only. -/
def State.mgtCommand (s : State) (c : Nat) : State :=
  if s.pwr.off then s
  else match s.rd Reg.MGT_STATUS_STATE with
    | 4 => { s with rv := { s.rv with waiting := s.rv.waiting ++ [(c, false)] } }
    | 5 => s
    | 0 => if 110 ≤ c then s.cfgCommand (c - 110) else s
    | _ => if 110 ≤ c then s.cfgCommand (c - 110) else s.fwCommand (c - 100)

/-! ## Unlocking (R412, R413) -/

/-- CHALLENGE: a fresh nonce. -/
def State.challenge (s : State) : State :=
  let r := s.random 32
  ((r.1.wr Reg.TST_NONCE_NONCE (leNat r.2)).wr Reg.TST_STATUS_NONCE_VALID 1).wr Reg.TST_UNLOCK_RESULT 0

/-- The result of UNLOCK over the token of Table 16.1, in the order in which R413 names the results. -/
def State.tokenResult (s : State) (b : List Nat) : Nat :=
  let key := (b.drop 64).take 68
  let known := key == s.rv.owner.take 68 || (vendorKeys.map sha3).contains (sha3 key)
  if !known || !Config.xmssVerify key (b.take 132) (b.drop 132) then 4
  else if entryNum b 16 8 != serialNumber || entryNum b 24 32 != s.rd Reg.TST_NONCE_NONCE || !s.on Reg.TST_STATUS_NONCE_VALID then 5
  else if entryNum b 8 1 == 1 && !s.tenantsFree then 3
  else if s.on Reg.MGT_FW_STATUS_BUSY then 1
  else if b.take 4 != [0x4C, 0x44, 0x58, 0x55] || entryNum b 4 2 != 0 || entryNum b 6 2 != 1 || decide (1 < entryNum b 8 1) ||
    entryNum b 9 7 != 0 || entryNum b 56 8 != 0 then 2
  else 0

/-- UNLOCK: a token that verifies raises the mode and never lowers it; every attempt uses up the nonce. -/
def State.unlock (s : State) : State :=
  let b := s.bytes (s.rd Reg.MGT_FW_BANK_ADDR) 2952
  let r := s.tokenResult b
  let t := (s.wr Reg.TST_STATUS_NONCE_VALID 0).wr Reg.TST_UNLOCK_RESULT r
  if r = 0 then (t.wr Reg.TST_STATUS_MODE (max (t.rd Reg.TST_STATUS_MODE) (entryNum b 8 1 + 1))).tstLog else t

/-- A write of TST_UNLOCK: 120 CHALLENGE, 121 UNLOCK. The ROM carries them out as well; during a Reeve reset they wait (R385). -/
def State.unlockCommand (s : State) (c : Nat) : State :=
  if s.pwr.off then s
  else match s.rd Reg.MGT_STATUS_STATE with
    | 4 => { s with rv := { s.rv with waiting := s.rv.waiting ++ [(c, false)] } }
    | 5 => s
    | _ => if c = 120 then s.challenge else s.unlock

/-! ## Reeve resets (R383 to R385) -/

/-- A reset of a Reeve that ran: its tries are counted, what it had in hand ends, and it is stuck after three in 10 s (R383, R384). -/
def State.reeveFails (s : State) (cause : Nat) : State :=
  let recent := s.rv.resets.filter (fun t => decide (s.now < t + 40000000000)) ++ [s.now]
  let t : State := { s with rv := { s.rv with resets := recent, cause := cause, hbHeld := true } }
  let t := ((t.incSat Reg.MGT_WDOG_RESETS 1).wr Reg.MGT_STATUS_STATE (if 3 ≤ recent.length then 5 else 4)).reeveRom0
  let t := match t.partCmds with
    | x :: r => if x.checked then ({ t with partCmds := r } : State).endCmd x.part (x.code % 256) 6 else t
    | [] => t
  let t := match t.pwr.transit with
    | some (.entering _) => ((t.endReq 6).setTransit (some (.returning false 0))).wr Reg.PWR_STATE_RDY 0
    | _ => t
  let t := (t.mgtEvent Reg.MGT_EVENT_REEVE_RESET).when (decide (3 ≤ recent.length)) (fun t => t.mgtEvent Reg.MGT_EVENT_STUCK)
  t.fault 0x50 0 16 0 0

/-- The Reeve runs its firmware, or waits in HELD, and can be reset. -/
def State.reeveUp (s : State) : Bool :=
  s.rd Reg.MGT_STATUS_STATE != 0 && s.rd Reg.MGT_STATUS_STATE != 4 && s.rd Reg.MGT_STATUS_STATE != 5 && !s.pwr.off

/-- Hardware resets the Reeve alone, with a cause of Table 15.1: a partition or power command in progress ends with ABORTED, the
heartbeat watch is suspended, fault handling records cause 0x50, and the third reset within 10 s leaves the Reeve STUCK. -/
def State.resetReeve (s : State) (cause : Nat) : State := if s.reeveUp then s.reeveFails cause else s

/-- The commands written during the reset, in order. -/
def State.runWaiting (s : State) : State :=
  s.rv.waiting.foldl (fun (t : State) c =>
    if 120 ≤ c.1 then t.unlockCommand c.1 else if 110 ≤ c.1 then t.cfgCommand (c.1 - 110) else if 100 ≤ c.1 then t.fwCommand (c.1 - 100) else t.carryOut c.1 c.2) { s with rv := { s.rv with waiting := [] } }

/-- The Reeve runs again: watchdog and heartbeat periods begin, the key counter is taken, and what waited is carried out (R384, R385). -/
def State.reeveBack (s : State) : State :=
  let t : State := { s with
    rv := { s.rv with hbHeld := false, leafClean := none, wdogAt := s.now }
    pci := { s.pci with hbStart := s.now, hbPeriod := s.rd Reg.PCI_HB_CFG_PERIOD, hbSeen := false } }
  let t := t.takeLeaf
  let t := match t.rv.fw with
    | some x => (t.reeveRuns x).wr Reg.MGT_STATUS_STATE 2
    | none => t.wr Reg.MGT_STATUS_STATE 1
  let t := t.pumpCmds t.partCmds.length
  t.runWaiting

/-- The ROM restarts the image, or waits in HELD when none was loaded; the firmware rebuilds its state, takes the next leaf as
after an unclean loss, starts a new heartbeat period and carries out the commands that waited (R384, R385). -/
def State.restartReeve (s : State) : State :=
  if s.rd Reg.MGT_STATUS_STATE ≠ 4 then s
  else
    s.reeveBack

/-! ## The switch-over (R404 to R406) -/

/-- The switch-over has ended, or goes on while handler images wait: SWITCHING (R404). -/
def State.switched (s : State) : State := if s.rv.handlers = [] then (s.wr Reg.MGT_STATUS_STATE 2).endFw 0 else s.wr Reg.MGT_STATUS_STATE 3

/-- The staged package runs in place of the one before: Reeve, I/O cores, handlers and SSD firmware (R404). -/
def State.newFirmware (t : State) (x : Firmware) : State :=
  let t := ({ t with rv := { t.rv with fw := some x, staged := none, wdogAt := t.now } } : State).reeveRuns x
  let t := (t.each 32 (fun i t => if t.iocOffline i then t else t.iocStart x i)).putHandlers x (List.range 64)
  let t := if (x.comps.any (fun c => c.1 == 4)) then t.each 2 (fun m t =>
      if t.on (Reg.MED_STATUS_READY m) then (t.emit (.nvme m 0x11 (x.comp 4).2)).emit (.nvme m 0x10 [1]) else t) else t
  ((t.wr Reg.MGT_FW_VERSION_RUNNING x.version).wr Reg.MGT_FW_VERSION_STAGED 0).switched

/-- The handler images that a switch-over left to rewrite. -/
def State.handlersGoOn (s : State) : State := s.rv.fw.elim s (fun x => (s.putHandlers x s.rv.handlers).switched)

/-- The switch-over at or after its edge: deferred while EMERG is 1 or QUIET below 2; it begins when no partition or power command
is in progress. New firmware that misses its ready point is rolled back. A switch-over whose handler images wait goes on with them. -/
def State.switchFirmware (s : State) (ready : Bool) : State :=
  if s.rv.handlers ≠ [] ∧ s.fwRuns then s.handlersGoOn
  else if !s.on Reg.MGT_FW_STATUS_ARMED ∨ s.count < s.rd Reg.MGT_FW_BELL_BELL ∨ s.rd Reg.MGT_STATUS_STATE ≠ 2 then s
  else if !s.quietEnough then s.deferFirmware
  else if (s.partCmds.head?.elim false (·.checked)) ∨ s.pwr.transit.isSome then s
  else
    let t := (s.wr Reg.MGT_FW_STATUS_ARMED 0).wr Reg.MGT_FW_STATUS_DEFERRED 0
    match s.rv.staged with
    | none => t
    | some x =>
      if !ready then (t.resetReeve 1).endFw 7
      else
        t.newFirmware x

/-! ## Identity and attestation (R408 to R410) -/

/-- The report of Table 15.8 over a nonce, signed with the next leaf; a leaf that begins a block reserves it first. None when the
leaves are used up. -/
def State.signReport (s : State) (nonce : List Nat) : Option (State × List Nat) :=
  let leaf := s.rd Reg.MGT_XMSS_NEXT
  if 65536 ≤ leaf then none
  else
    let fin := if s.rv.leafEnd ≤ leaf then s.rv.leafEnd + 64 else s.rv.leafEnd
    let digest (k : Nat) : List Nat := s.rv.fw.elim (List.replicate 32 0) (fun x => (x.comp k).1)
    let config := s.rv.image.elim (List.replicate 32 0) sha3
    let flags := s.rd Reg.HUB_START_KIND + 2 * s.rd Reg.HUB_START_SLOT + 4 * s.rd Reg.HUB_START_MINIMAL + 8 * s.rd Reg.HUB_START_RECOVERY
    let body := [0x4C, 0x44, 0x58, 0x41, 0, 0, 1, 0] ++ nonce ++ leBytes 8 s.count ++ leBytes 8 serialNumber ++ leBytes 32 (Config.fuse "rom digest") ++ config ++
      digest 1 ++ digest 2 ++ digest 3 ++ leBytes 4 (s.rd Reg.MGT_FW_VERSION_RUNNING) ++ leBytes 4 (s.rv.image.elim 0 (fun i => entryNum i 12 4)) ++
      [flags, s.rd Reg.HUB_START_ATTEMPTS, 0, 0, 0, 0, 0, 0] ++ leBytes 4 leaf ++ List.replicate 20 0
    let report := body ++ identitySign leaf body
    let t : State := { s with rv := { s.rv with leafEnd := fin, leafClean := none } }
    let t := (t.wr Reg.MGT_XMSS_NEXT (leaf + 1)).wr Reg.MGT_XMSS_RESERVED_END fin
    some (t.when (decide (65536 < leaf + 1 + 4096)) (fun t => t.mgtEvent Reg.MGT_EVENT_KEY_LOW), report)

/-- MGT_ATTEST.GO (R410); while the module is unlocked it is not ready (R414). -/
def State.attestGo (s : State) : State :=
  if s.pwr.off then s
  else if !s.fwRuns ∨ s.rd Reg.TST_STATUS_MODE ≠ 0 then s.wr Reg.MGT_ATTEST_RESULT 2
  else match s.signReport (leBytes 32 (s.rd Reg.MGT_ATTEST_NONCE_NONCE)) with
    | none => s.wr Reg.MGT_ATTEST_RESULT 3
    | some (t, r) => ((t.putBytes reportPlace r).wr Reg.MGT_ATTEST_ADDR_ADDR reportPlace).wr Reg.MGT_ATTEST_RESULT 0

/-! ## MGT_OPEN (R411) -/

/-- A range is P0's, or is granted to a partition that is stopped. -/
def State.openable (s : State) (p a n : Nat) : Bool :=
  s.openRange 0 true a n || ((s.partState p).isStopped && (s.part p).grants.ranges.any (fun r => decide (r.1 ≤ a) && decide (a + n ≤ r.1 + r.2)))

/-- A write of PART and EN of a range: a setting of EN that fails its check is refused whole and recorded. -/
def State.writeOpen (s : State) (src : Src) (n value : Nat) : State :=
  let a := s.rd (Reg.MGT_OPEN_BASE n)
  let l := s.rd (Reg.MGT_OPEN_LEN n)
  let p := bits value 0 6
  if bit value 6 ∧ !(a % 65536 == 0 && l % 65536 == 0 && l != 0 && s.openable p a l) then s.unsup src (Reg.MGT_OPEN n + 16) true
  else (s.wr (Reg.MGT_OPEN_PART n) p).wr (Reg.MGT_OPEN_EN n) (bits value 6 1)

/-! ## I/O cores (R339) -/

/-- A block-service command that an I/O core held ends as at a reset of its queue (R299): at once where it has not been dispatched, else
when its backing answers. -/
def State.dropBsc (s : State) (d : BlkCmd) : State :=
  match d.stage with
  | .listing | .fetched | .ready => s.blkEnd d 4 0
  | .back _ _ => s
  | .dispatched => s.setBlk { d with kill := some (d.kill.getD 4) }

/-- The copies that a context issued to hub copy engine `u` end as at a reset of their work (R148). -/
def State.dropCpdsOf (s : State) (c u : Nat) : State :=
  let mine := (s.copy u).queue.filter (fun d => decide (d.src = .context c))
  let t := (mine.filter (·.moving)).foldl (fun t d => t.cutCopy u 4096 d) s
  let t := mine.getLast?.elim t (fun d => t.cpyInfo u 6 d.part (cpdFld d.words 7 0 16))
  t.setCopy u { t.copy u with queue := (t.copy u).queue.filter (fun d => decide (d.src ≠ .context c)) }

/-- The operations that an I/O core held end: its cipher requests that have not started, its copies, and the block-service commands that
it ran, which of them being a free value (R313, R339, notes/assumptions/63.md). -/
def State.dropIocWork (s : State) (i : Nat) : State :=
  let t := s.endReqs (fun r => r.queue == 0xFFFF && r.idx == 288 + i && decide (r.stage = .queued)) 0xB
  let t := (List.range 4).foldl (fun t h => t.dropCpdsOf (288 + i) (18 + h)) t
  (t.blk.cmds.zipIdx.filter (fun e => bit t.draw.1 e.2)).foldl (fun t e => t.dropBsc e.1) t.draw.2

/-- The Reeve restarts an I/O core from its image after a double exception: the operations that it held end, and the `frames` it held are
dropped. -/
def State.restartIoc (s : State) (i frames : Nat) : State :=
  match s.rv.fw with
  | none => s
  | some x =>
    if !s.fwRuns ∨ s.iocOffline i ∨ bit (s.rd Reg.HUB_IOC_RUN_RUN) i then s
    else
      ((s.dropIocWork i).incSat Reg.PKT_DROP2_NO_BUFFER frames).iocStart x i

/-! ## Persistent log and telemetry (R386) -/

/-- The severity of an entry of Table 15.2. -/
def logSeverity (b : List Nat) : Nat := entryNum b 5 1

/-- Entries of severity 2 or more go to flash; with a module-fatal one, every entry that the ring still holds. -/
def State.persistLog (s : State) : State :=
  let i := s.rd Reg.MGT_LOG_INDEX
  let live := s.evlog.waiting.filter (fun b => decide (2 ≤ logSeverity b) || decide ((i + 2 ^ 32 - entryNum b 0 4) % 2 ^ 32 ≤ 8192))
  let all := live.any (fun b => logSeverity b == 4)
  { s with evlog := { s.evlog with
    waiting := live.filter (fun b => !all && decide (logSeverity b < 2))
    flash := s.evlog.flash ++ live.filter (fun b => all || decide (2 ≤ logSeverity b)) } }

/-- Sensor `i` of Table 14.7, 66 the input power. -/
def State.telemetry (s : State) (i : Nat) : Int := if i < 66 then s.temp i else (s.rd Reg.PWR_INPUT_NOW : Int)

/-- The extremes of sensor `i` take its value (R386). -/
def State.noteExtreme (t : State) (i : Nat) : State :=
  let v := t.telemetry i
  let e := match Tab.get none t.rv.extremes i with
    | none => (v, v)
    | some (a, b) => (min a v, max b v)
  { t with rv := { t.rv with extremes := Tab.set none t.rv.extremes i (some e) } }

/-- The least and greatest value of each since the last sideband read. -/
def State.sampleAll (s : State) : State := if !s.fwRuns then s else s.each 67 (fun i t => t.noteExtreme i)

/-! ## Meanings -/

/-- COLD_START (R395): power arrives, Off is left, or a shutdown is followed by recovery. -/
def execColdStart (found : Found) (s : State) : Host.Outcome State Fault Refusal := .next (s.coldStart found)

/-- WARM_START (R395): the exit from Deep sleep, from LOGIC_RDY. -/
def execWarmStart (found : Found) (s : State) : Host.Outcome State Fault Refusal :=
  .next (if s.pwr.transit = some (.returning true 4) then s.wakeStart found else s)

/-- START_RETRY (R396): 100 ms after a failed step. -/
def execStartRetry (found : Found) (s : State) : Host.Outcome State Fault Refusal := .next (if s.rv.retry then (s.atTime (s.rv.retryFrom + 400000000)).coldStart found else s)

/-- A write of MGT_RESET with a key (R411). -/
def State.resetBy (s : State) (key : Nat) (f : State → State) : State :=
  if s.pwr.off then s else if key = 0xA5C3 then f s else s.unsup .pf Reg.MGT_RESET true

/-- RESET_WARM (R411). -/
def execResetWarm (key : Nat) (found : Found) (s : State) : Host.Outcome State Fault Refusal := s.fromPf 2 (.next (s.resetBy key (fun t => t.warmStart found)))

/-- RESET_COLD (R411). -/
def execResetCold (key : Nat) (found : Found) (s : State) : Host.Outcome State Fault Refusal := s.fromPf 2 (.next (s.resetBy key (fun t => t.coldStart found)))

/-- WATCHDOG_EXPIRY (R383): the time comes that lies MGT_WDOG.TIMEOUT ms after the watchdog was restarted. -/
def execWatchdogExpiry (s : State) : Host.Outcome State Fault Refusal :=
  .next (if s.reeveUp then (s.atTime (s.rv.wdogAt + s.rd Reg.MGT_WDOG_TIMEOUT * 4000000)).resetReeve 1 else s)

/-- REEVE_RESTART (R385). -/
def execReeveRestart (s : State) : Host.Outcome State Fault Refusal := .next s.restartReeve

/-- LOG_PERSIST (R386). -/
def execLogPersist (s : State) : Host.Outcome State Fault Refusal := .next s.persistLog

/-- TELEMETRY_SAMPLE (R386). -/
def execTelemetrySample (s : State) : Host.Outcome State Fault Refusal := .next s.sampleAll

/-- CFG_WRITE_A (R394). -/
def execCfgWriteA (s : State) : Host.Outcome State Fault Refusal := s.fromPf 2 (.next (s.mgtCommand 110))

/-- CFG_WRITE_B (R394). -/
def execCfgWriteB (s : State) : Host.Outcome State Fault Refusal := s.fromPf 2 (.next (s.mgtCommand 111))

/-- FW_LOAD (R403). -/
def execFwLoad (s : State) : Host.Outcome State Fault Refusal := s.fromPf 2 (.next (s.mgtCommand 101))

/-- FW_ACTIVATE (R404). -/
def execFwActivate (s : State) : Host.Outcome State Fault Refusal := s.fromPf 2 (.next (s.mgtCommand 102))

/-- FW_CANCEL (R404). -/
def execFwCancel (s : State) : Host.Outcome State Fault Refusal := s.fromPf 2 (.next (s.mgtCommand 103))

/-- RAISE_SVN (R402). -/
def execRaiseSvn (s : State) : Host.Outcome State Fault Refusal := s.fromPf 2 (.next (s.mgtCommand 104))

/-- FW_SWITCHOVER (R404 to R406): `ready` says that the new firmware reached its ready point within 100 ms. -/
def execFwSwitchover (ready : Bool) (s : State) : Host.Outcome State Fault Refusal := .next (s.switchFirmware ready)

/-- OPEN_RANGE_WRITE (R411): the word of MGT_OPEN that holds PART and EN. -/
def execOpenRangeWrite (n value : Nat) (s : State) : Host.Outcome State Fault Refusal := s.fromPf 2 (s.guarded (n < 4) (s.writeOpen .pf n value))

/-- ATTEST_GO (R410). -/
def execAttestGo (s : State) : Host.Outcome State Fault Refusal := s.fromPf 2 (.next s.attestGo)

/-- IOC_RESTART (R339). -/
def execIocRestart (i frames : Nat) (s : State) : Host.Outcome State Fault Refusal := s.guarded (i < 32) (s.restartIoc i frames)

end Sys2Proof.Machine
end

