-- ==== Sys2Proof/Machine/Sideband.lean ====
section
/-! DEFINITION. The sideband: I3C, MCTP control and the module's own messages (R387 to R389). -/

namespace Sys2Proof.Machine

/-- A response of the module's own messages (R388): command, response flag and instance number, status, a zero byte, data. -/
def State.reply (s : State) (cmd inst status : Nat) (data : List Nat) : State := s.emit (.sideband cmd ([cmd, 0x80 + inst, status, 0] ++ data))

/-- A request that the module answers when it answers at all; `fw` marks one that the ROM does not answer (Table 15.3, R385,
R389). -/
def State.serve (s : State) (cmd inst : Nat) (fw : Bool) (f : State → State) : State :=
  if !s.sidebandUp then s else if fw && !s.fwRuns then s.reply cmd inst 3 [] else f s

/-- What a read of a register would show now. -/
def State.regNow (s : State) (addr : Nat) : Nat :=
  match findReg addr with
  | some (r, ra, idx) => s.regValue r ra idx
  | none => 0

/-- The data of GET_STATUS. -/
def State.statusBytes (s : State) : List Nat :=
  leBytes 4 (s.regNow Reg.HUB_START) ++ leBytes 4 (s.regNow Reg.PWR_STATE) ++ leBytes 4 (s.regNow Reg.PWR_STATUS) ++ leBytes 4 (s.regNow Reg.FLT_STATUS) ++
  leBytes 8 (s.regNow Reg.FLT_COUNT) ++ leBytes 8 (s.regNow Reg.MGT_FW_VERSION)

/-- A signed value in four bytes. -/
def signedBytes (x : Int) : List Nat := leBytes 4 (trunc 32 x)

/-- Least, greatest and current value of `n` sensors; their least and greatest start again (R386). -/
def State.readSensors (s : State) (inst first n : Nat) : State :=
  if n = 0 ∨ 8 < n ∨ 67 < first + n then s.reply 2 inst 2 []
  else
    let data := (List.range n).flatMap (fun i =>
      let v := s.telemetry (first + i)
      let e := (Tab.get none s.rv.extremes (first + i)).getD (v, v)
      signedBytes e.1 ++ signedBytes e.2 ++ signedBytes v)
    let t : State := { s with rv := { s.rv with extremes := (List.range n).foldl (fun m i => Tab.set none m (first + i) none) s.rv.extremes } }
    t.reply 2 inst 0 data

/-- One entry of the event log, when the ring still holds it. -/
def State.readLog (s : State) (inst entry : Nat) : State :=
  let i := s.rd Reg.MGT_LOG_INDEX
  if i ≤ entry ∨ entry + 8192 < i then s.reply 3 inst 2 []
  else
    let a := s.rd Reg.MGT_LOG_BASE_ADDR + entry % 8192 * 32
    (s.markSeen a 32).reply 3 inst 0 (s.bytes a 32)

/-- MGT_EVENT, cleared by the read (R389). -/
def State.readEvents (s : State) (inst : Nat) : State :=
  let v := s.regNow Reg.MGT_EVENT
  (s.each 8 (fun i t => t.wr ⟨Reg.MGT_EVENT, i, 1, 0⟩ 0)).reply 4 inst 0 (leBytes 4 v)

/-- The public key and the serial number, in chunks of 48 bytes. -/
def State.readIdentity (s : State) (inst chunk : Nat) : State :=
  if 1 < chunk then s.reply 5 inst 2 []
  else
    let key := s.rd Reg.MGT_PUBKEY_KEY
    s.reply 5 inst 0 (((leBytes 68 key ++ leBytes 8 (if key = 0 then 0 else serialNumber)).drop (48 * chunk)).take 48)

/-- A chunk of 48 bytes of a signed report (R410): chunk 0 signs one over the nonce, the others belong to the report last signed.
An unlocked module is not ready (R414). -/
def State.attestChunk (s : State) (inst nonce chunk : Nat) : State :=
  if s.rd Reg.TST_STATUS_MODE ≠ 0 then s.reply 6 inst 3 []
  else if 61 < chunk then s.reply 6 inst 2 []
  else if chunk = 0 then
    match s.signReport (leBytes 32 nonce) with
    | none => s.reply 6 inst 4 []
    | some (t, r) => ({ t with rv := { t.rv with report := r } } : State).reply 6 inst 0 (r.take 48)
  else s.reply 6 inst 0 ((s.rv.report.drop (48 * chunk)).take 48)

/-- A read or write of at most 48 bytes through DPORT1 (R156). -/
def State.sidePort (s : State) (inst addr len : Nat) (write : Bool) (data : List Nat) : State :=
  if len = 0 ∨ 48 < len ∨ len % 4 ≠ 0 ∨ addr % 4 ≠ 0 ∨ (write ∧ data.length ≠ len) then s.reply 8 inst 2 []
  else if !s.dportOpen addr len then (s.wr (Reg.DPORT_STATUS_BOUNDS 1) 1).reply 8 inst 4 []
  else
    let t := (s.wr (Reg.DPORT_CTRL_EN 1) 1).wr (Reg.DPORT_ADDR_ADDR 1) (addr / 4)
    if write then (t.dportWrite 1 data).reply 8 inst 0 []
    else
      let r := t.dportRead 1 len
      r.1.reply 8 inst 0 r.2

/-! ## Meanings -/

/-- ENTDAA (R387): a module with no dynamic address sends its provisional ID and takes the address given. -/
def execEntdaa (dyn : Nat) (s : State) : Host.Outcome State Fault Refusal :=
  s.guarded (dyn < 128) (if !s.sidebandUp || s.rv.dynAddr.isSome then s
    else ({ s with rv := { s.rv with dynAddr := some dyn } } : State).emit
      (.sideband 0x107 (beBytes 6 (0x2B5 * 2 ^ 33 + 2 ^ 32 + serialNumber % 2 ^ 32))))

/-- SETDASA (R387): the module whose static address is named takes the dynamic address. -/
def execSetdasa (static dyn : Nat) (s : State) : Host.Outcome State Fault Refusal :=
  s.guarded (dyn < 128 && static < 128) (if !s.sidebandUp || s.rv.dynAddr.isSome || static != s.rv.staticAddr then s
    else { s with rv := { s.rv with dynAddr := some dyn } })

/-- An MCTP control response (R388, notes/assumptions/32.md). -/
def State.control (s : State) (code : Nat) (data : List Nat) : State := if s.sidebandUp then s.emit (.sideband (0x200 + code) data) else s

/-- SET_ENDPOINT_ID (R388): 0 and 255 are no endpoint IDs. -/
def execSetEndpointId (eid : Nat) (s : State) : Host.Outcome State Fault Refusal :=
  s.guarded (eid < 256) (if !s.sidebandUp then s
    else if eid = 0 ∨ eid = 255 then s.control 1 [2]
    else ({ s with rv := { s.rv with eid := eid } } : State).control 1 [0, 0, eid, 0])

/-- GET_ENDPOINT_ID (R388). -/
def execGetEndpointId (s : State) : Host.Outcome State Fault Refusal := .next (s.control 2 [0, s.rv.eid, 0, 0])

/-- GET_MCTP_VERSION_SUPPORT (R388). -/
def execGetMctpVersionSupport (s : State) : Host.Outcome State Fault Refusal := .next (s.control 4 [0, 1, 0xF1, 0xF3, 0xF1, 0])

/-- GET_MESSAGE_TYPE_SUPPORT (R388): message type 0x7E. -/
def execGetMessageTypeSupport (s : State) : Host.Outcome State Fault Refusal := .next (s.control 5 [0, 1, 0x7E])

/-- GET_VENDOR_DEFINED_MSG_SUPPORT (R388): PCI vendor ID 0x1F3A. -/
def execGetVendorDefinedMsgSupport (s : State) : Host.Outcome State Fault Refusal := .next (s.control 6 [0, 0xFF, 0, 0x1F, 0x3A, 0, 0])

/-- GET_STATUS (R388). -/
def execGetStatus (inst : Nat) (s : State) : Host.Outcome State Fault Refusal :=
  s.guarded (inst < 128) (s.serve 1 inst false (fun t => t.reply 1 inst 0 t.statusBytes))

/-- GET_SENSORS (R388). -/
def execGetSensors (inst first count : Nat) (s : State) : Host.Outcome State Fault Refusal :=
  s.guarded (inst < 128) (s.serve 2 inst true (fun t => t.readSensors inst first count))

/-- GET_EVENT_LOG_ENTRY (R388): GET_LOG of the sideband. -/
def execGetEventLogEntry (inst entry : Nat) (s : State) : Host.Outcome State Fault Refusal :=
  s.guarded (inst < 128) (s.serve 3 inst false (fun t => t.readLog inst entry))

/-- GET_EVENTS (R389). -/
def execGetEvents (inst : Nat) (s : State) : Host.Outcome State Fault Refusal :=
  s.guarded (inst < 128) (s.serve 4 inst false (fun t => t.readEvents inst))

/-- GET_IDENTITY (R388). -/
def execGetIdentity (inst chunk : Nat) (s : State) : Host.Outcome State Fault Refusal :=
  s.guarded (inst < 128) (s.serve 5 inst false (fun t => t.readIdentity inst chunk))

/-- ATTEST (R410). -/
def execAttest (inst nonce chunk : Nat) (s : State) : Host.Outcome State Fault Refusal :=
  s.guarded (inst < 128) (s.serve 6 inst true (fun t => t.attestChunk inst nonce chunk))

/-- POWER_OFF (R388): a request for Off. -/
def execPowerOff (inst : Nat) (s : State) : Host.Outcome State Fault Refusal :=
  s.guarded (inst < 128) (s.serve 7 inst false (fun t => if t.on Reg.PWR_REQ_BUSY then t.reply 7 inst 1 [] else (t.reply 7 inst 0 []).powerReq 4 true))

/-- POWER_WARM_START (R388). -/
def execPowerWarmStart (inst : Nat) (found : Found) (s : State) : Host.Outcome State Fault Refusal :=
  s.guarded (inst < 128) (s.serve 7 inst false (fun t => (t.reply 7 inst 0 []).warmStart found))

/-- POWER_COLD_START (R388). -/
def execPowerColdStart (inst : Nat) (found : Found) (s : State) : Host.Outcome State Fault Refusal :=
  s.guarded (inst < 128) (s.serve 7 inst false (fun t => (t.reply 7 inst 0 []).coldStart found))

/-- SIDEBAND_DPORT (R388). -/
def execSidebandDport (inst addr len : Nat) (write : Bool) (data : List Nat) (s : State) : Host.Outcome State Fault Refusal :=
  s.guarded (inst < 128) (s.serve 8 inst false (fun t => t.sidePort inst addr len write data))

/-- CFG_WRITE (R394). -/
def execCfgWrite (inst slot : Nat) (s : State) : Host.Outcome State Fault Refusal :=
  s.guarded (inst < 128 && slot < 2) (s.serve 9 inst false (fun t =>
    let r := t.cfgStore slot
    r.1.reply 9 inst (if r.2 = 0 then 0 else 2) []))

end Sys2Proof.Machine
end

