-- ==== Sys2Proof/Machine/Test.lean ====
section
/-! DEFINITION. Loop-backs, perturbation, injection and self-tests on demand (chapter 16), and the loss of AUX power (R427). -/

namespace Sys2Proof.Machine

/-- The mode: 0 LOCKED, 1 DEBUG, 2 TEST. -/
def State.testMode (s : State) : Nat := s.rd Reg.TST_STATUS_MODE

/-- A write of a register of this chapter that the mode does not open (R414). -/
def State.tstClosed (s : State) (src : Src) (addr : Nat) : State := s.unsup src addr true

/-- A perturbation is armed: the LFSR is seeded from TST_SEED, 0 taken as 1, and the event log tells (R414, R421). -/
def State.tstArm (s : State) : State := ({ s with tst := { s.tst with lfsr := max (s.rd Reg.TST_SEED_SEED) 1 } } : State).tstLog

/-! ## Loop-backs (R416 to R420) -/

/-- The table lists the depth for the instance, and the mode opens it (Table 16.2). -/
def State.loopOpen (s : State) (i depth : Nat) : Bool :=
  if i < 32 then s.portExists i && decide (1 ≤ depth) && decide (depth ≤ 4)
  else if i = 32 then (depth == 1 && s.testMode == 2) || (depth == 2 && s.testMode != 0)
  else if i < 39 then (depth == 1 || depth == 2) && s.testMode == 2
  else depth == 1 && (s.testMode == 2 || !(List.range 16).any (fun k => 39 + k != i && s.on (Reg.TST_LOOP_ACTIVE (39 + k))))

/-- An active loop ends: EN and ACTIVE clear, its buffer is gone, a port retrains and the host link trains again (R417, R420). -/
def State.loopEnds (s : State) (i : Nat) : State :=
  let t := (s.wr (Reg.TST_LOOP_EN i) 0).wr (Reg.TST_LOOP_ACTIVE i) 0
  let t : State := { t with tst := { t.tst with loopBytes := t.tst.loopBytes.filter (fun e => e.1 / 2 ^ 44 != i) } }
  if i < 32 then t.retrain i
  else if i = 32 ∧ s.rd (Reg.TST_LOOP_DEPTH i) = 1 then { t with pci := { t.pci with training := !t.pci.perst } }
  else t

/-- A loop ends: EN and ACTIVE clear, a port retrains, the host link trains again, the loop's buffer is gone. -/
def State.endLoop (s : State) (i : Nat) : State :=
  if !s.on (Reg.TST_LOOP_ACTIVE i) then s.wr (Reg.TST_LOOP_EN i) 0
  else
    s.loopEnds i

/-- The fields of TST_LOOP taken: a reserved pattern is not, and the errors start at 0 (R416, R418). -/
def State.loopSet (t : State) (src : Src) (i v : Nat) : State :=
  let t := (((t.wr (Reg.TST_LOOP_DEPTH i) (bits v 0 3)).wr (Reg.TST_LOOP_EN i) 1).wr (Reg.TST_LOOP_FUNC i) (bits v 6 7)).wr (Reg.TST_LOOP_LIMIT i)
    (bits v 16 8)
  let t := if bits v 4 2 = 3 then t.unsup src (Reg.TST_LOOP i) true else t.wr (Reg.TST_LOOP_PATTERN i) (bits v 4 2)
  t.wr (Reg.TST_LOOP_ERRORS i) 0

/-- The low word of TST_LOOP written with EN = 1: refused whole outside its mode or depths; a port's paths are withdrawn, a PIPE
loop takes the host link down or resets the SSD's controller. -/
def State.startLoop (s : State) (src : Src) (i v : Nat) : State :=
  let depth := bits v 0 3
  if !s.loopOpen i depth then s.tstClosed src (Reg.TST_LOOP i)
  else
    let t := if s.on (Reg.TST_LOOP_ACTIVE i) ∧ s.rd (Reg.TST_LOOP_DEPTH i) ≠ depth then s.endLoop i else s
    let t := t.loopSet src i v
    if t.on (Reg.TST_LOOP_ACTIVE i) then t
    else
      let t := ({ t with tst := { t.tst with loopAt := Tab.set 0 t.tst.loopAt i t.now } } : State).wr (Reg.TST_LOOP_ACTIVE i) 1
      if i < 32 then t.portPathsDown i
      else if i = 32 ∧ depth = 1 then t.linkDown
      else if (i = 33 ∨ i = 34) ∧ depth = 1 then t.resetMedia (i - 33)
      else t

/-- The low word of TST_LOOP written with EN = 0. -/
def State.stopLoop (s : State) (src : Src) (i v : Nat) : State :=
  let t := s.endLoop i
  let t := ((t.wr (Reg.TST_LOOP_DEPTH i) (bits v 0 3)).wr (Reg.TST_LOOP_FUNC i) (bits v 6 7)).wr (Reg.TST_LOOP_LIMIT i) (bits v 16 8)
  if bits v 4 2 = 3 then t.unsup src (Reg.TST_LOOP i) true else t.wr (Reg.TST_LOOP_PATTERN i) (bits v 4 2)

/-! ## ALL_OFF (R415) -/

/-- Every perturbation, injection and forced lateness disarmed, every loop ended. -/
def State.allOff (s : State) : State :=
  let t := s.each 4 (fun k t => (t.wr (Reg.TST_DELAY_EN k) 0).wr (Reg.TST_BP_EN k) 0)
  let t := ((t.wr Reg.TST_JITTER_EN 0).wr Reg.TST_LATE_ARMED 0).wr Reg.TST_INJECT_ARMED 0
  ({ t with tst := { t.tst with late := none, inject := none } } : State).each 55 (fun i t => if t.on (Reg.TST_LOOP_EN i) then t.endLoop i else t)

/-! ## Forced lateness (R422) -/

/-- TST_LATE written, 64 bits: its fields, and ARM. A COUNT of 0 is outside its range. -/
def State.writeLate (s : State) (src : Src) (v : Nat) : State :=
  if s.testMode = 0 then s.tstClosed src Reg.TST_LATE
  else
    let t := (s.wr Reg.TST_LATE_ENGINE (bits v 0 4)).wr Reg.TST_LATE_BACKLOG (bits v 12 20)
    let t := if bits v 4 8 = 0 then t.unsup src Reg.TST_LATE true else t.wr Reg.TST_LATE_COUNT (bits v 4 8)
    if !bit v 32 || t.on Reg.TST_LATE_ARMED || t.rd Reg.TST_LATE_COUNT == 0 then t
    else
      let b := t.rd Reg.TST_LATE_BELL_BELL
      if b ≤ t.count then t.missedTarget
      else (({ t with tst := { t.tst with late := some (t.rd Reg.TST_LATE_ENGINE, b, t.rd Reg.TST_LATE_COUNT, t.rd Reg.TST_LATE_BACKLOG) } } : State).wr
        Reg.TST_LATE_ARMED 1).tstArm

/-! ## Injection (R423) -/

/-- The code, and the mode that Table 16.4 asks for: 1 DEBUG, 2 TEST, 0 not in the table. -/
def injectMode (code : Nat) : Nat :=
  if (1 ≤ code ∧ code ≤ 8) ∨ code = 0xA ∨ code = 0x10 ∨ code = 0x14 ∨ code = 0x20 then 1
  else if code = 0x11 ∨ code = 0x12 ∨ code = 0x13 ∨ code = 0x21 ∨ code = 0x22 ∨ code = 0x40 ∨ code = 0x41 then 2
  else 0

/-- The target of the injection exists: an engine that is not offline, an I/O core in service, a lane of a port, a position that has
not failed, an address of a memory. -/
def State.injectTarget (s : State) (code unit engine addr : Nat) : Bool :=
  if 1 ≤ code ∧ code ≤ 7 then (s.slotOf engine).isSome
  else if code = 0xA then !s.iocOffline unit
  else if code = 0x20 then s.portExists (s.portOfLane unit)
  else if code = 0x12 ∨ code = 0x13 then decide (unit < 26) && s.rd (Reg.MEM_DEV_ROLE unit) != 3
  else if code = 0x11 ∨ code = 8 then decide (addr < gddrSize)
  else if code = 0x10 ∨ code = 0x14 then decide (addr < gddrSize) || (decide (commonsBase ≤ addr) && decide (addr < commonsBase + commonsSize))
  else true

/-- The class decided at ARM, and the partition it is fatal for: by owner of the address where R330 says so. -/
def State.injectClass (s : State) (code addr : Nat) : Nat × Nat :=
  if code = 0x10 ∨ code = 0x14 ∨ code = 0x11 then s.byOwner addr else ((faultClass code).getD 0, 0)

/-- ARM: the result of Table 16.4, or the injection armed. -/
def State.armInject (s : State) : State :=
  let code := s.rd Reg.TST_INJECT_CODE
  let unit := s.rd Reg.TST_INJECT_UNIT
  let engine := s.rd Reg.TST_INJECT_ENGINE
  let addr := s.rd Reg.TST_INJECT_ADDR_ADDR
  let b := s.rd Reg.TST_INJECT_BELL_BELL
  let o := s.injectClass code addr
  if injectMode code = 0 ∨ !s.injectTarget code unit engine addr then s.wr Reg.TST_INJECT_RESULT 2
  else if s.testMode < injectMode code ∨ (o.1 = 3 ∧ s.testMode ≠ 2) then s.wr Reg.TST_INJECT_RESULT 3
  else if b ≤ s.count then (s.wr Reg.TST_INJECT_RESULT 6).missedTarget
  else (({ s with tst := { s.tst with inject := some (b, o) } } : State).wr Reg.TST_INJECT_ARMED 1 |>.wr Reg.TST_INJECT_RESULT 0).tstArm

/-- CANCEL before edge T. -/
def State.cancelInject (s : State) : State :=
  match s.tst.inject with
  | some (b, _) => if s.count < b then ({ s with tst := { s.tst with inject := none } } : State).wr Reg.TST_INJECT_ARMED 0 else s
  | none => s

/-- TST_INJECT written, low word: its fields unless one is armed, CANCEL, and ARM. -/
def State.writeInject (s : State) (src : Src) (v : Nat) : State :=
  if s.testMode = 0 then s.tstClosed src Reg.TST_INJECT
  else
    let t := if s.on Reg.TST_INJECT_ARMED then s
      else (((s.wr Reg.TST_INJECT_CODE (bits v 0 8)).wr Reg.TST_INJECT_UNIT (bits v 8 5)).wr Reg.TST_INJECT_ENGINE (bits v 13 4)).wr Reg.TST_INJECT_DIE (bits v 17 1)
    let t := if bit v 19 then t.cancelInject else t
    if bit v 18 && !t.on Reg.TST_INJECT_ARMED then t.armInject else t

/-- The fault that TST_INJECT names, of the owner `o` that it had when it was armed. -/
def State.hitTarget (s : State) (part engine unit : Nat) (o : Nat × Nat) : State :=
  let code := s.rd Reg.TST_INJECT_CODE
  let u := s.rd Reg.TST_INJECT_UNIT
  let addr := s.rd Reg.TST_INJECT_ADDR_ADDR
  let t := s.beginInject
  if 1 ≤ code ∧ code ≤ 7 then t.faultBy code part (s.rd Reg.TST_INJECT_ENGINE) unit 0 o
  else if edgeInjected code then t.hitAtEdge o
  else if code = 0x11 then (t.when (engine == 16) (fun t => t.endHubWriters addr)).faultBy code part engine (t.pdOf (ldOf addr)) addr o
  else t.faultBy code part 16 u addr o

/-- From edge T the check reports the cause, on the work of partition `part`, found by `unit`; `engine` is the engine whose copy
engine made the failing write of cause 0x11 (16 a hub writer). A cause whose target has no check has been reported at edge T. -/
def State.fireInject (s : State) (part engine unit : Nat) : State :=
  match s.tst.inject with
  | none => s
  | some (b, o) => if s.count < b then s else (s.hitTarget part engine unit o).endInject

/-! ## Self-tests on demand (R424, R425) -/

/-- No copy, transport, block-service or checkpoint work. -/
def State.memoryQuiet (s : State) : Bool :=
  s.copies.all (fun e => e.2.queue.isEmpty) && s.conns.all (fun e => e.2.msgs.all (·.ended) && e.2.opens.isEmpty) && s.blk.cmds.isEmpty && s.flt.ckps.all (fun e => e.2.run.isNone)

/-- Both dies are idle: no engine, context or copy engine of a slot has work. -/
def State.diesIdle (s : State) : Bool :=
  s.slots.all (fun e => e.2.queue.isEmpty) && s.ctxs.all (fun e => !isTc e.1 || !e.2.alive) && s.copies.all (fun e => decide (18 ≤ e.1) || e.2.queue.isEmpty)

/-- The condition of Table 16.5. -/
def State.bistOpen (s : State) (code unit die : Nat) : Bool :=
  match code with
  | 1 => s.testMode != 0 && (s.rd (Reg.ME_SLOT_STATUS_STATE (9 * die + unit)) == 1 || s.rd (Reg.ME_SLOT_STATUS_STATE (9 * die + unit)) == 2)
  | 2 => s.testMode == 2 && s.memoryQuiet
  | 3 => s.testMode == 2 && s.diesIdle
  | _ => s.coreLoad unit == 0

/-- TST_BIST written: its fields, and START with the first result that applies, or the test begun. -/
def State.writeBist (s : State) (v : Nat) : State :=
  let code := bits v 0 3
  let unit := bits v 3 4
  let die := bits v 7 1
  let t := ((s.wr Reg.TST_BIST_CODE code).wr Reg.TST_BIST_UNIT unit).wr Reg.TST_BIST_DIE die
  if !bit v 8 then t
  else if t.tst.bist.isSome then t.wr Reg.TST_BIST_RESULT 4
  else if code = 0 ∨ 4 < code ∨ (code = 1 ∧ 8 < unit) then t.wr Reg.TST_BIST_RESULT 3
  else if !t.bistOpen code unit die then t.wr Reg.TST_BIST_RESULT 2
  else ({ t with tst := { t.tst with bist := some (code, unit, die) } } : State).wr Reg.TST_BIST_BUSY 1

/-- A self-test ends. The GDDR7 march destroys contents and clears lost marks; a slot that a planned switch-over took out and
that passes is held for sparing again. -/
def State.endBist (s : State) (pass : Bool) : State :=
  match s.tst.bist with
  | none => s
  | some (code, unit, die) =>
    let t := (({ s with tst := { s.tst with bist := none } } : State).wr Reg.TST_BIST_BUSY 0).wr Reg.TST_BIST_RESULT (if pass then 0 else 1)
    if code = 2 then
      { t with
        mem := t.mem.filter (fun e => decide (gddrSize ≤ e.1))
        memSt := { t.memSt with bad := t.memSt.bad.filter (fun e => decide (gddrSize ≤ e.1)), lostDev := [], lostGranule := [], rewritten := [] } }
    else if code = 1 ∧ pass ∧ Tab.get false t.flt.planned (9 * die + unit) then
      let t : State := { t with flt := { t.flt with planned := Tab.set false t.flt.planned (9 * die + unit) false } }
      (t.wr (Reg.ME_DIE_STATUS_FAILED die) (setBits (t.rd (Reg.ME_DIE_STATUS_FAILED die)) unit 1 0)).refreshSlots die
    else t

/-! ## Loss of AUX power (R427) -/

/-- VIN below 16.0 V: AUX storage and AUX registers are lost, and the module is unpowered; flash stays. Event-log entries not yet
in flash are lost (R386). -/
def State.auxLoss (s : State) : State :=
  { State.reset with
    pending := s.pending, out := s.out, now := s.now, free := s.free
    pci := { Pci.reset with perst := s.pci.perst }
    evlog := { EvLog.reset with flash := s.evlog.flash }
    pwr := { Pwr.reset with off := true, aux := false, auxOut := false }
    rv := { Reeve.reset with
      owner := s.rv.owner, slotA := s.rv.slotA, slotB := s.rv.slotB, svnFloor := s.rv.svnFloor, leafEnd := s.rv.leafEnd, leafClean := s.rv.leafClean, epoch := s.rv.epoch }
    hostBlobs := s.hostBlobs }

/-! ## Meanings -/

/-- CHALLENGE (R413). -/
def execChallenge (s : State) : Host.Outcome State Fault Refusal := s.fromPf 18 (.next (s.unlockCommand 120))

/-- UNLOCK (R413). -/
def execUnlock (s : State) : Host.Outcome State Fault Refusal := s.fromPf 18 (.next (s.unlockCommand 121))

/-- ALL_OFF (R415). -/
def execAllOff (s : State) : Host.Outcome State Fault Refusal := s.fromPf 18 (.next s.allOff)

/-- LOOP_ENABLE (R416): a write of the low word of TST_LOOP; its EN bit is set. -/
def execLoopEnable (i value : Nat) (s : State) : Host.Outcome State Fault Refusal := s.fromPf 18 (s.guarded (i < 55) (s.startLoop .pf i value))

/-- LOOP_DISABLE (R417): EN is cleared, the other fields kept. -/
def execLoopDisable (i : Nat) (s : State) : Host.Outcome State Fault Refusal := s.fromPf 18 (s.guarded (i < 55) (s.endLoop i))

/-- LOOP_LIMIT_EXPIRY (R419): the time comes that lies LIMIT ms after the loop began. -/
def execLoopLimitExpiry (i : Nat) (s : State) : Host.Outcome State Fault Refusal :=
  s.guarded (i < 55) (if s.on (Reg.TST_LOOP_EN i) ∧ s.rd (Reg.TST_LOOP_LIMIT i) ≠ 0 then
    (s.atTime (Tab.get 0 s.tst.loopAt i + s.rd (Reg.TST_LOOP_LIMIT i) * 4000000)).endLoop i else s)

/-- LATE_ARM (R422): TST_LATE written with ARM. -/
def execLateArm (value : Nat) (s : State) : Host.Outcome State Fault Refusal := s.fromPf 18 (.next (s.writeLate .pf (setBits value 32 1 1)))

/-- INJECT_ARM (R423): TST_INJECT written with ARM. -/
def execInjectArm (value : Nat) (s : State) : Host.Outcome State Fault Refusal := s.fromPf 18 (.next (s.writeInject .pf (setBits (setBits value 18 1 1) 19 1 0)))

/-- INJECT_CANCEL (R423). -/
def execInjectCancel (s : State) : Host.Outcome State Fault Refusal := s.fromPf 18 (.next (if s.testMode = 0 then s.tstClosed .pf Reg.TST_INJECT else s.cancelInject))

/-- INJECT_FIRE (R423). -/
def execInjectFire (part engine unit : Nat) (s : State) : Host.Outcome State Fault Refusal :=
  s.guarded (part < 64 && engine < 17 && unit < 32) (s.fireInject part engine unit)

/-- BIST_START (R424): TST_BIST written with START. -/
def execBistStart (value : Nat) (s : State) : Host.Outcome State Fault Refusal := s.fromPf 18 (.next (s.writeBist (setBits value 8 1 1)))

/-- BIST_COMPLETE (R424). -/
def execBistComplete (pass : Bool) (s : State) : Host.Outcome State Fault Refusal := .next (s.endBist pass)

/-- AUX_POWER_LOSS (R427). -/
def execAuxPowerLoss (s : State) : Host.Outcome State Fault Refusal := .next s.auxLoss

end Sys2Proof.Machine
end

