-- ==== Sys2Proof/Machine/RegAll.lean ====
section
/-! DEFINITION. Every register write (R2, R5 to R7, R26, R447): the blocks MGT_ and TST_, and who may write what. -/

namespace Sys2Proof.Machine

/-- A word of MGT_OPEN (R411): the word of PART and EN is checked when it sets EN; a change of BASE or LEN under EN = 1 is checked
as a setting of EN. -/
def RegAcc.openWord (x : RegAcc) (s : State) : State :=
  let n := x.ix 0
  if 128 ≤ x.lo + x.n - 1 ∧ x.lo ≤ 128 then s.writeOpen x.src n (bits (x.img s) 128 7)
  else if 128 < x.lo then s
  else
    let t := x.generic s
    if s.on (Reg.MGT_OPEN_EN n) && !(t.rd (Reg.MGT_OPEN_BASE n) % 65536 == 0 && t.rd (Reg.MGT_OPEN_LEN n) % 65536 == 0 && t.rd (Reg.MGT_OPEN_LEN n) != 0 &&
        t.openable (t.rd (Reg.MGT_OPEN_PART n)) (t.rd (Reg.MGT_OPEN_BASE n)) (t.rd (Reg.MGT_OPEN_LEN n))) then x.deny s
    else t

/-- A MGT_ register. A write of MGT_RESET with its key is one of the rows RESET_WARM and RESET_COLD, which carry what the start
finds; here it has no other effect. -/
def RegAcc.mgt (x : RegAcc) (s : State) : State :=
  let b := x.row.base
  if b = Reg.MGT_FW_CMD then
    let c := bits x.v 0 3
    if 1 ≤ c ∧ c ≤ 4 then s.mgtCommand (100 + c) else s
  else if b = Reg.MGT_FW_BELL ∧ s.on Reg.MGT_FW_STATUS_ARMED then s
  else if b = Reg.MGT_CFG_CMD then
    match bits x.v 0 2 with
    | 1 => s.mgtCommand 110
    | 2 => s.mgtCommand 111
    | _ => x.deny s
  else if b = Reg.MGT_RESET then (if bits x.v 16 16 = 0xA5C3 ∧ (bits x.v 0 2 = 1 ∨ bits x.v 0 2 = 2) then s else x.deny s)
  else if b = Reg.MGT_ATTEST then (if bit x.put 0 then s.attestGo else s)
  else if b = Reg.MGT_OPEN 0 then x.openWord s
  else x.generic s

/-- A TST_ register that LOCKED closes (R414). -/
def tstNeedsUnlock (base : Nat) : Bool :=
  base == Reg.TST_SEED || base == Reg.TST_DELAY 0 || base == Reg.TST_BP 0 || base == Reg.TST_JITTER || base == Reg.TST_LATE || base == Reg.TST_LATE_BELL ||
  base == Reg.TST_INJECT || base == Reg.TST_INJECT_BELL || base == Reg.TST_INJECT_ADDR

/-- A write of a perturbation register; setting its EN arms it. -/
def RegAcc.perturb (x : RegAcc) (s : State) (en : Fld) : State :=
  let short := x.row.base == Reg.TST_BP 0 && x.lo == 0 && decide (bits (x.img s) 16 8 ≤ bits (x.img s) 8 8)
  let t := x.someFields s (fun f => !(short && f.lsb == 16)) []
  let t := if short then x.deny t else t
  if t.on en && !s.on en then t.tstArm else t

/-- A TST_ register. -/
def RegAcc.tst (x : RegAcc) (s : State) : State :=
  let b := x.row.base
  if s.testMode = 0 ∧ tstNeedsUnlock b then x.deny s
  else if b = Reg.TST_UNLOCK then
    if bits x.v 0 2 = 1 then s.unlockCommand 120 else if bits x.v 0 2 = 2 then s.unlockCommand 121 else s
  else if b = Reg.TST_CTRL then (if bit x.put 0 then s.allOff else s)
  else if b = Reg.TST_LOOP 0 then
    if x.lo ≠ 0 then s
    else if bit (x.img s) 3 then s.startLoop x.src (x.ix 0) (bits (x.img s) 0 32) else s.stopLoop x.src (x.ix 0) (bits (x.img s) 0 32)
  else if b = Reg.TST_DELAY 0 then x.perturb s (Reg.TST_DELAY_EN (x.ix 0))
  else if b = Reg.TST_BP 0 then x.perturb s (Reg.TST_BP_EN (x.ix 0))
  else if b = Reg.TST_JITTER then x.perturb s Reg.TST_JITTER_EN
  else if b = Reg.TST_LATE then s.writeLate x.src (x.img s)
  else if b = Reg.TST_LATE_BELL ∧ s.on Reg.TST_LATE_ARMED then s
  else if b = Reg.TST_INJECT then s.writeInject x.src (x.img s)
  else if b = Reg.TST_INJECT_BELL ∧ s.on Reg.TST_INJECT_ARMED then s
  else if b = Reg.TST_BIST then s.writeBist (x.img s)
  else x.generic s

/-- The block of a PF BAR0 address, 0 below 0x40000. -/
def accessBlock (addr : Nat) : Nat := if addr < 0x40000 then 0 else blockOf addr

/-- The write of any register. -/
def RegAcc.full (x : RegAcc) (s : State) : State :=
  match accessBlock x.ra with
  | 2 => x.mgt s
  | 18 => x.tst s
  | _ => x.store s false

/-- A write at a PF BAR0 address, by whoever reaches it. -/
def State.regWrite (s : State) (src : Src) (addr size v : Nat) : State := s.regWriteBy src addr size v RegAcc.full

/-- A write of one aligned word, or of the two of an aligned pair where `pairs` says that an access of 8 bytes is carried out;
a narrow write within a word is recorded, and every other shape ends with Completer Abort (R7). -/
def State.wordWrite (s : State) (src : Src) (addr off size v : Nat) (pairs : Bool) (f : State → Nat → Nat → State) : State :=
  if size = 4 ∧ off % 4 = 0 then f s off (v % 2 ^ 32)
  else if size = 8 ∧ off % 8 = 0 ∧ pairs then f (f s off (v % 2 ^ 32)) (off + 4) (v / 2 ^ 32 % 2 ^ 32)
  else if narrowWrite addr size then s.unsup src addr true
  else s.rejectShape src

/-- A write by the PF or a VF through its BARs (BAR2 from offset 2^26 on), or by a core or the Reeve (R28, R182). A doorbell is a
register of its own, so no access of 8 bytes reaches two. -/
def State.busWrite (s : State) (src : Src) (addr size v : Nat) : State :=
  match src with
  | .pf =>
    if !s.pfOpen (accessBlock addr) then s
    else if 2 ^ 26 ≤ addr then s.wordWrite src addr (addr - 2 ^ 26) size v true (fun t o w => t.msixWrite 0 o w)
    else s.regWrite .pf addr size v
  | .vf n =>
    if s.pwr.off || !s.funcPresent n then s
    else if 2 ^ 26 ≤ addr then s.wordWrite src addr (addr - 2 ^ 26) size v true (fun t o w => t.msixWrite n o w)
    else s.wordWrite src addr addr size v (decide (0x10000 ≤ addr)) (fun t o w => t.vfWrite n o w)
  | _ => s.regWrite src addr size v

/-- REGISTER_WRITE (R447). -/
def execRegisterWrite (src : Src) (addr size value : Nat) (s : State) : Host.Outcome State Fault Refusal := .next (s.busWrite src addr size value)

end Sys2Proof.Machine
end

