-- ==== Sys2Proof/Machine/Flags.lean ====
section
/-! DEFINITION. The status word ST (Table 4.3), and every flag computation of chapter 04 (R87, R97 to R103). Flags by bit: 0 Z,
1 N, 2 C, 3 V, 4 Q, 10 IE, 11 EXL. -/

namespace Sys2Proof.Machine

/-- A flag of ST. -/
def Ctx.flag (x : Ctx) (i : Nat) : Bool := x.st.getLsbD i

/-- A flag of ST set to a value; every other bit stays (R87). -/
def Ctx.setFlag (x : Ctx) (i : Nat) (v : Bool) : Ctx :=
  { x with st := if v then x.st ||| BitVec.twoPow 32 i else x.st &&& ~~~BitVec.twoPow 32 i }

/-- LEVEL: 0 P, 1 F, 2 M. -/
def Ctx.level (x : Ctx) : Nat := (x.st.extractLsb' 8 2).toNat

/-- Z and N of a 64-bit result. -/
def Ctx.zn (x : Ctx) (v : BitVec 64) : Ctx := (x.setFlag 0 (v == 0)).setFlag 1 v.msb

/-- Z and N of X or Y: N is bit 31 (Table 4.3). -/
def Ctx.zn32 (x : Ctx) (v : BitVec 32) : Ctx := (x.setFlag 0 (v == 0)).setFlag 1 v.msb

/-- An integer lies outside s64. -/
def outS64 (i : Int) : Bool := decide (i < -(2 ^ 63 : Nat)) || decide (((2 ^ 63 : Nat) : Int) ≤ i)

/-- Z N C V and the sum of `a + m + c`. -/
def Ctx.add (x : Ctx) (a m : BitVec 64) (c : Bool) : Ctx × BitVec 64 :=
  let r := a + m + BitVec.ofNat 64 (b2n c)
  (((x.zn r).setFlag 2 (decide (2 ^ 64 ≤ a.toNat + m.toNat + b2n c))).setFlag 3 (outS64 (a.toInt + m.toInt + b2n c)), r)

/-- Z N C V and the difference `a - m - borrow`; C is 1 when no borrow occurred (Table 4.3). -/
def Ctx.sub (x : Ctx) (a m : BitVec 64) (borrow : Bool) : Ctx × BitVec 64 :=
  let r := a - m - BitVec.ofNat 64 (b2n borrow)
  (((x.zn r).setFlag 2 (decide (m.toNat + b2n borrow ≤ a.toNat))).setFlag 3 (outS64 (a.toInt - m.toInt - b2n borrow)), r)

/-- A set to a result with its Z and N. -/
def Ctx.setA (x : Ctx) (v : BitVec 64) : Ctx := { x.zn v with a := v }

/-- A set to the value `v` with its Z and N, Q set when saturation changed it from `exact` (Table 4.10). -/
def Ctx.setSat (x : Ctx) (exact v : Int) : Ctx :=
  let y := x.setA (BitVec.ofInt 64 v)
  if v = exact then y else y.setFlag 4 true

/-! ## Operations of Tables 4.8 and 4.9 on A and the operand m -/

/-- ADD and ADC. -/
def Ctx.aluAdd (x : Ctx) (m : BitVec 64) (c : Bool) : Ctx := let r := x.add x.a m c; { r.1 with a := r.2 }
/-- SUB and SBC. -/
def Ctx.aluSub (x : Ctx) (m : BitVec 64) (borrow : Bool) : Ctx := let r := x.sub x.a m borrow; { r.1 with a := r.2 }
/-- CMP. -/
def Ctx.aluCmp (x : Ctx) (m : BitVec 64) : Ctx := (x.sub x.a m false).1
/-- ADDS. -/
def Ctx.aluAdds (x : Ctx) (m : BitVec 64) : Ctx := x.setSat (x.a.toInt + m.toInt) (satI 64 (x.a.toInt + m.toInt))
/-- MUL. -/
def Ctx.aluMul (x : Ctx) (m : BitVec 64) : Ctx := (x.setA (x.a * m)).setFlag 3 (outS64 (x.a.toInt * m.toInt))
/-- MULH. -/
def Ctx.aluMulh (x : Ctx) (m : BitVec 64) : Ctx := x.setA (BitVec.ofInt 64 (x.a.toInt * m.toInt / (2 ^ 64 : Nat)))
/-- MAC of the operand `m` and the value `l` at Y of `n` bytes: V is that of the addition of the 64-bit product. -/
def Ctx.aluMac (x : Ctx) (m l : BitVec 64) (n : Nat) : Ctx :=
  { (x.setA (x.a + m * l)).setFlag 3 (outS64 (x.a.toInt + (m * l).toInt)) with y := x.y + BitVec.ofNat 32 n }
/-- MAX and MIN. -/
def Ctx.aluMax (x : Ctx) (m : BitVec 64) : Ctx := x.setA (if x.a.toInt < m.toInt then m else x.a)
def Ctx.aluMin (x : Ctx) (m : BitVec 64) : Ctx := x.setA (if m.toInt < x.a.toInt then m else x.a)

/-- The shift count n = m & 63. -/
def shiftBy (m : BitVec 64) : Nat := m.toNat % 64

/-- A shift result with its C, which stays when n is 0 (Table 4.9). -/
def Ctx.shifted (x : Ctx) (n : Nat) (r : BitVec 64) (c : Bool) : Ctx := if n = 0 then x.setA r else (x.setA r).setFlag 2 c

def Ctx.aluShl (x : Ctx) (m : BitVec 64) : Ctx := let n := shiftBy m; x.shifted n (x.a <<< n) (x.a.getLsbD (64 - n))
def Ctx.aluShr (x : Ctx) (m : BitVec 64) : Ctx := let n := shiftBy m; x.shifted n (x.a >>> n) (x.a.getLsbD (n - 1))
def Ctx.aluSar (x : Ctx) (m : BitVec 64) : Ctx := let n := shiftBy m; x.shifted n (x.a.sshiftRight n) (x.a.getLsbD (n - 1))
/-- ROL: a stays when n is 0. -/
def Ctx.aluRol (x : Ctx) (m : BitVec 64) : Ctx := let n := shiftBy m; x.setA (if n = 0 then x.a else (x.a <<< n) ||| (x.a >>> (64 - n)))
/-- RSHR: ties toward +infinity. -/
def Ctx.aluRshr (x : Ctx) (m : BitVec 64) : Ctx :=
  let n := shiftBy m
  x.setA (if n = 0 then x.a else BitVec.ofInt 64 ((x.a.toInt + (2 ^ (n - 1) : Nat)) / (2 ^ n : Nat)))

/-- Leading zero bits of the low `w` bits of a number. -/
def clzNat (w v : Nat) : Nat := if v % 2 ^ w = 0 then w else w - 1 - Nat.log2 (v % 2 ^ w)
/-- One bits of the low `w` bits of a number. -/
def popNat (w v : Nat) : Nat := ((List.range w).map (fun i => bits v i 1)).sum
/-- The low `w` bits of a number in reversed order. -/
def brevNat (w v : Nat) : Nat := ((List.range w).map (fun i => bits v i 1 * 2 ^ (w - 1 - i))).sum

/-- A set to a number, with Z only. -/
def Ctx.setAz (x : Ctx) (v : Nat) : Ctx := { x.setFlag 0 (v % 2 ^ 64 == 0) with a := BitVec.ofNat 64 v }

/-- CLZ within the operand's width (R97). -/
def Ctx.aluClz (x : Ctx) (m : BitVec 64) (w : Nat) : Ctx := x.setAz (clzNat w m.toNat)
/-- POPC. -/
def Ctx.aluPopc (x : Ctx) (m : BitVec 64) : Ctx := x.setAz (popNat 64 m.toNat)

/-! ## Check steps (R99, R100) -/

/-- CRCCFG.WIDTH is 8 to 64. -/
def Ctx.crcOk (x : Ctx) : Bool := decide (8 ≤ bits x.crcCfg.toNat 0 7) && decide (bits x.crcCfg.toNat 0 7 ≤ 64)

/-- One step of R99 for bit `i` of the `w` bits of `m`. -/
def crcStep (cw : Nat) (refl : Bool) (poly m w c i : Nat) : Nat :=
  if refl then
    if bit (Nat.xor c (m >>> i)) 0 then Nat.xor (c / 2) (brevNat cw poly) else c / 2
  else
    let d := 2 * c % 2 ^ cw
    if bit (Nat.xor (c >>> (cw - 1)) (m >>> (w - 1 - i))) 0 then Nat.xor d poly % 2 ^ 64 else d

/-- CRC: the checksum in A advanced by the `w` bits of m (R99). -/
def Ctx.aluCrc (x : Ctx) (m : BitVec 64) (w : Nat) : Ctx :=
  let cw := bits x.crcCfg.toNat 0 7
  x.setAz ((List.range w).foldl (fun c i => crcStep cw (bit x.crcCfg.toNat 7) x.crcPoly.toNat (m.toNat % 2 ^ w) w c i) (x.a.toNat % 2 ^ cw))

/-- PAR (R100). -/
def Ctx.aluPar (x : Ctx) (m : BitVec 64) (w : Nat) : Ctx :=
  x.setAz (popNat w m.toNat % 2 + ((List.range (w / 8)).map (fun i => popNat 8 (m.toNat >>> (8 * i)) % 2 * 2 ^ (8 + i))).sum)
/-- BREV (R100). -/
def Ctx.aluBrev (x : Ctx) (m : BitVec 64) (w : Nat) : Ctx := x.setAz (brevNat w m.toNat)

/-! ## REG functions (Table 4.10, R103) -/

/-- SEXT of the low `n` bits of A. -/
def Ctx.regSext (x : Ctx) (n : Nat) : Ctx := x.setA (BitVec.ofInt 64 (sext n x.a.toNat))
/-- ZEXT. -/
def Ctx.regZext (x : Ctx) (n : Nat) : Ctx := x.setA (BitVec.ofNat 64 (x.a.toNat % 2 ^ n))
/-- SATS and SATU. -/
def Ctx.regSats (x : Ctx) (n : Nat) : Ctx := x.setSat x.a.toInt (satI n x.a.toInt)
def Ctx.regSatu (x : Ctx) (n : Nat) : Ctx := x.setSat x.a.toInt (clampI 0 ((2 ^ n : Nat) - 1) x.a.toInt)
/-- ABS: |a| saturated to s64, Q when it saturates. -/
def Ctx.regAbs (x : Ctx) : Ctx := x.setSat x.a.toInt.natAbs (satI 64 x.a.toInt.natAbs)
/-- NEG: 0 - a. -/
def Ctx.regNeg (x : Ctx) : Ctx := let r := x.sub 0 x.a false; { r.1 with a := r.2 }

/-- The value of A converted to a format, and whether the conversion saturated or clamped it (R103). Rounding to L4 does not
count: a magnitude is clamped when it rounds to 128 or more, that is from 96 on (Table 2.2). -/
def cvt (f : Fmt) (v : Int) : Int × Bool :=
  (f.convert v, if f = .l4 then decide (96 ≤ v.natAbs) else decide (f.convert v ≠ v))

/-- CVT. -/
def Ctx.regCvt (x : Ctx) (f : Fmt) : Ctx :=
  let r := cvt f x.a.toInt
  let y := x.setA (BitVec.ofInt 64 r.1)
  if r.2 then y.setFlag 4 true else y
/-- PACK: the code of the converted value. -/
def Ctx.regPack (x : Ctx) (f : Fmt) : Ctx :=
  let r := cvt f x.a.toInt
  let y := x.setA (BitVec.ofNat 64 (f.code r.1))
  if r.2 then y.setFlag 4 true else y
/-- UNPK: the value of the low bits of A as a code; the T2 digit 3 unpacks as 0. -/
def Ctx.regUnpk (x : Ctx) (f : Fmt) : Ctx :=
  let v : Int := if f = .t2 then (if x.a.toNat % 4 = 3 then 0 else ((x.a.toNat % 4 : Nat) : Int) - 1) else f.value x.a.toNat
  x.setA (BitVec.ofInt 64 v)

/-! ## DMAC (R101) -/

/-- Lane `l` of a word. -/
def lane (w : BitVec 64) (l lw : Nat) (u : Bool) : Int := if u then ((bits w.toNat (l * lw) lw : Nat) : Int) else sext lw (bits w.toNat (l * lw) lw)

/-- The sum of lane products, each an s64, kept in s64, and whether any addition overflowed. -/
def laneSum (wx wy : BitVec 64) (lw : Nat) (u : Bool) : Int × Bool :=
  (List.range (64 / lw)).foldl (fun (r : Int × Bool) l =>
    let t := r.1 + sext 64 (trunc 64 (lane wx l lw u * lane wy l lw u))
    (sext 64 (trunc 64 t), r.2 || outS64 t)) (0, false)

/-- DMAC of two words: into B when ARG[0] is 1, else A; X and Y advance by 8. -/
def Ctx.regDmac (x : Ctx) (wx wy : BitVec 64) (toB : Bool) (u : Bool) (lw : Nat) : Ctx :=
  let r := laneSum wx wy lw u
  let acc := if toB then x.b else x.a
  let v := acc + BitVec.ofInt 64 r.1
  let y := (x.zn v).setFlag 3 (r.2 || outS64 (acc.toInt + r.1))
  let y := if toB then { y with b := v } else { y with a := v }
  { y with x := x.x + 8, y := x.y + 8 }

/-! ## Conditions (Table 4.14) -/

/-- Condition `k` holds. -/
def Ctx.cond (x : Ctx) (k : Nat) : Bool :=
  let z := x.flag 0
  let n := x.flag 1
  let c := x.flag 2
  let v := x.flag 3
  match k with
  | 0 => true | 1 => z | 2 => !z | 3 => n | 4 => !n | 5 => c | 6 => !c | 7 => v | 8 => !v
  | 9 => !z && n == v | 10 => n == v | 11 => n != v | 12 => z || n != v | 13 => c && !z | 14 => !c || z
  | _ => false

end Sys2Proof.Machine
end

