-- ==== Sys2Proof/Machine/Operands.lean ====
section
/-! DEFINITION. Core addresses (Table 4.4), their cost (R95, R33, R127), loads and stores of a context (R90, R91), and the
operand forms of formats M and C (R92 to R94, R115). -/

namespace Sys2Proof.Machine

/-! ## Cores -/

/-- Context 320 is the Reeve; 288 to 319 are the I/O cores. -/
def isReeve (c : Nat) : Bool := c == 320

/-- Who makes a register access of context `c`. -/
def coreSrc (c : Nat) : Src := if isReeve c then .reeve else .core c

/-- Module address of the first byte of a core's local memory; that of a slot that serves no engine lies outside the module's
address space (notes/assumptions/5.md). -/
def State.localBase (s : State) (c : Nat) : Nat :=
  if isTc c then
    match s.engineOf (ctxSlot c) with
    | some n => tcBase n (ctxCore c)
    | none => 2 ^ 48 + 0x2000000 + c / 4 * 0x40000
  else if isReeve c then reeveRam else iocBase (c - 288)

/-- Bytes of local memory (Table 4.1). -/
def localSize (c : Nat) : Nat := if isTc c then 0x40000 else if isReeve c then 0x80000 else 0x20000

/-- Clocks of a core since a time: ENG, each at the pace in use then, HUB, or HUB halved (Table 4.1, R106). -/
def State.coreClocks (s : State) (c since : Nat) : Nat :=
  if isTc c then s.engClocks since s.now else if isReeve c then s.hubClocks (s.now - since) / 2 else s.hubClocks (s.now - since)

/-! ## Ranges (R90) -/

/-- Why an instruction ends without its effect: an exception with its code and EADDR, or a memory error (R122). -/
inductive Stop where
  | exc (code eaddr : Nat) | memErr
deriving DecidableEq, Repr

/-- What a core address names: memory, in the tile store or not, or a register of PF BAR0. -/
inductive Place where
  | mem (a : Nat) (tile : Bool) | reg (off : Nat)
deriving DecidableEq, Repr

/-- Block `b` of the register window is open to core `c` at level F or M: all of it to level M and to a tending core, which has no access
list, and the blocks of its access list to an I/O core and to the Reeve at level F (R89, Table 4.4, R382). The configuration image sets
the Reeve's list too, and no field of it is given: the list is free (notes/assumptions/45.md). -/
def State.windowOpen (s : State) (c level b : Nat) : Bool :=
  if isTc c then true
  else if isReeve c then level == 2 || bit (Config.reeveAccess (s.rv.image.getD [])) b
  else bit (Tab.get 0 s.rv.access (c - 288)) b

/-- `n` bytes at core address `a` that are open to context `c` (Table 4.4). -/
def State.coreAddr (s : State) (c : Nat) (x : Ctx) (a n : Nat) (write : Bool) : Option Place :=
  if a + n ≤ localSize c then
    let w := s.ctxWindow c
    if !isTc c || x.level != 0 || (decide (w.1 ≤ a) && decide (a + n ≤ w.1 + w.2)) then some (.mem (s.localBase c + a) false) else none
  else if isTc c ∧ 0x40000000 ≤ a ∧ a + n ≤ 0x40000000 + tileSize then
    match s.engineOf (ctxSlot c) with
    | some e =>
      let m := tileBase e + (a - 0x40000000)
      if x.level != 0 || s.openRange (s.ctxPart c) true m n then some (.mem m true) else none
    | none => none
  else if isReeve c ∧ !write ∧ 0x10000000 ≤ a ∧ a + n ≤ 0x10020000 then some (.mem (reeveRom + (a - 0x10000000)) false)
  else if x.level ≠ 0 ∧ 0x80000000 ≤ a ∧ a + n ≤ 0x84000000 then
    let o := a - 0x80000000
    if (List.range (ceilDiv n 4096 + 1)).all (fun i => s.windowOpen c x.level (accessBlock (min (o + 4096 * i) (o + n - 1)))) then some (.reg o) else none
  else none

/-! ## Cost (R95) -/

/-- Clock period of a domain in thirds of a picosecond; the spec gives none for FAB. -/
def State.period (s : State) : Domain → Option Nat
  | .hub => some 2500
  | .eng => some (120000 / max s.pace 1)
  | .mem => some 3000
  | .pci => some 3000
  | .aux => some 30000
  | .fab => none

/-- Bound of R33 on one direction of a register-window access (Table 1.12), in thirds of a picosecond; none for FAB. -/
def State.crossing (s : State) (c off : Nat) : Option Nat :=
  let dom := (findReg off).elim Domain.hub (fun r => r.1.dom)
  let e := 120000 / max s.pace 1
  if isTc c then
    let own := 3 * e + 15 * 2500
    match dom with
    | .eng => if accessBlock off = 15 + c / 144 then some 0 else some (own + 15 * 2500 + 3 * e)
    | .hub => some own
    | d => (s.period d).map (fun p => own + 3 * 2500 + 3 * p)
  else match dom with
    | .hub => some 0
    | .eng => some (15 * 2500 + 3 * e)
    | d => (s.period d).map (fun p => 3 * 2500 + 3 * p)

/-- Cycles of a register-window access: 3 and a round trip that is free within the bound of R33 (notes/assumptions/33.md). -/
def State.regCost (s : State) (c off : Nat) : State × Nat :=
  let own := if isTc c then 120000 / max s.pace 1 else if isReeve c then 5000 else 2500
  match s.crossing c off with
  | some 0 => (s, 3)
  | some b => (s.draw.2, 3 + s.draw.1 % (ceilDiv (2 * b) (max own 1) + 1))
  | none => (s.draw.2, 3 + s.draw.1)

/-- Cycles of a memory access: 1 in local memory; 7 in the tile store and up to 4 more for a bank conflict, which is free (R127). -/
def State.memCost (s : State) (tile : Bool) : State × Nat := if tile then (s.draw.2, 7 + s.draw.1 % 5) else (s, 1)

/-! ## Loads and stores (R90, R91, R128, R135) -/

/-- `n` bytes of memory read by a core: misaligned, outside the open ranges, failing, or the module address and the cost. -/
def State.reach (s : State) (c : Nat) (x : Ctx) (a n : Nat) (write : Bool) : Except Stop Place :=
  if a % n ≠ 0 then .error (.exc 3 a)
  else match s.coreAddr c x a n write with
    | none => .error (.exc 4 a)
    | some p => .ok p

/-- A load of `n` bytes: the state after it, the value, and its cost. -/
def State.load (s : State) (c : Nat) (x : Ctx) (a n : Nat) : Except Stop (State × Nat × Nat) :=
  match s.reach c x a n false with
  | .error e => .error e
  | .ok (.mem m tile) =>
    if s.readable m n then
      let k := s.memCost tile
      .ok (k.1, s.ld m n, k.2)
    else .error .memErr
  | .ok (.reg off) =>
    let r := s.regRead (coreSrc c) off n
    let k := r.1.regCost c off
    .ok (k.1, r.2, k.2)

/-- A store of the low `n` bytes of a number: the state after it and its cost. -/
def State.store (s : State) (c : Nat) (x : Ctx) (a n v : Nat) : Except Stop (State × Nat) :=
  match s.reach c x a n true with
  | .error e => .error e
  | .ok (.mem m tile) =>
    let k := s.memCost tile
    .ok (k.1.place m (leBytes n v), k.2)
  | .ok (.reg off) =>
    let k := s.regCost c off
    .ok (k.1.regWrite (coreSrc c) off n (v % 2 ^ (8 * n)), k.2)

/-- `n` bytes read through the register window, four at a time: the state, the bytes, and what the reads cost (R95). -/
def State.regBytes (s : State) (c off n : Nat) : State × List Nat × Nat :=
  (List.range (n / 4)).foldl (fun (r : State × List Nat × Nat) i =>
    let q := r.1.regRead (coreSrc c) (off + 4 * i) 4
    let k := q.1.regCost c (off + 4 * i)
    (k.1, r.2.1 ++ leBytes 4 q.2, r.2.2 + k.2)) (s, [], 0)

/-- A descriptor of `n` bytes at `a`, a multiple of `n`: its bytes and cost (R116). -/
def State.descriptor (s : State) (c : Nat) (x : Ctx) (a n : Nat) : Except Stop (State × List Nat × Nat) :=
  match s.reach c x a n false with
  | .error e => .error e
  | .ok (.reg off) => .ok (s.regBytes c off n)
  | .ok (.mem m tile) =>
    if s.readable m n then
      let k := s.memCost tile
      .ok (k.1, s.bytes m n, k.2)
    else .error .memErr

/-- `n` bytes of the register window from offset `off`: each 32-bit word that they touch is read once, lowest first
(notes/assumptions/42.md). -/
def State.windowBytes (s : State) (c off n : Nat) : State × List Nat :=
  let r := (List.range (ceilDiv (off % 4 + n) 4)).foldl (fun (y : State × List Nat) i =>
    let q := y.1.regRead (coreSrc c) (off / 4 * 4 + 4 * i) 4
    (q.1, y.2 ++ (List.range 4).map (fun j => bits q.2 (8 * j) 8))) (s, [])
  (r.1, (r.2.drop (off % 4)).take n)

/-- `n` bytes at any core address `a`, as the parse-assist operations read them (R90, R117). -/
def State.coreBytes (s : State) (c : Nat) (x : Ctx) (a n : Nat) : Except Stop (State × List Nat) :=
  if n = 0 then .ok (s, [])
  else match s.coreAddr c x a n false with
    | some (.mem m _) => if s.readable m n then .ok (s, s.bytes m n) else .error .memErr
    | some (.reg o) => .ok (s.windowBytes c o n)
    | none => .error (.exc 4 a)

/-! ## Format M (R92 to R94) -/

/-- Modes 0b000 and 0b001 give an immediate. -/
def MForm.imm (m : MForm) : Bool := m.am == 0 || m.am == 1
/-- Modes 0b001 and 0b011 carry an extension word. -/
def MForm.long (m : MForm) : Bool := m.am == 1 || m.am == 3
/-- Length of the instruction in bytes. -/
def MForm.len (m : MForm) : Nat := if m.long then 8 else 4
/-- The encoding is defined: in mode 0b011, D20 is 0 (R93). -/
def MForm.ok (m : MForm) : Bool := !(m.am == 3 && m.d20 != 0)
/-- Operand width in bits and in bytes. -/
def MForm.width (m : MForm) : Nat := 8 * 2 ^ m.sz.toNat
def MForm.nbytes (m : MForm) : Nat := 2 ^ m.sz.toNat

/-- The effective address (Table 4.6). -/
def MForm.ea (m : MForm) (x : Ctx) : Nat :=
  match m.am.toNat with
  | 2 => m.d20.toNat
  | 3 => m.ext.toNat
  | 4 => (x.x + m.d20.signExtend 32).toNat
  | 5 => (x.y + m.d20.signExtend 32).toNat
  | 6 => x.x.toNat
  | _ => x.y.toNat

/-- The immediate value. -/
def MForm.value (m : MForm) : BitVec 64 := if m.am = 0 then m.d20.signExtend 64 else (m.d20 ++ m.ext).signExtend 64

/-- The low bits of a value extended to 64 (R94). -/
def MForm.extend (m : MForm) (v : Nat) : BitVec 64 := if m.sx then BitVec.ofInt 64 (sext m.width v) else BitVec.ofNat 64 (v % 2 ^ m.width)

/-- X or Y after modes XP and YP, as they stand after the instruction (Table 4.6). -/
def MForm.after (m : MForm) (x : Ctx) : Ctx :=
  match m.am.toNat with
  | 6 => { x with x := x.x + m.d20.signExtend 32 }
  | 7 => { x with y := x.y + m.d20.signExtend 32 }
  | _ => x

/-- The operand m: the state after its read, its 64 bits, and what the read costs. -/
def State.operand (s : State) (c : Nat) (x : Ctx) (m : MForm) : Except Stop (State × BitVec 64 × Nat) :=
  if m.imm then .ok (s, m.extend m.value.toNat, 0)
  else match s.load c x (m.ea x) m.nbytes with
    | .ok r => .ok (r.1, m.extend r.2.1, r.2.2)
    | .error e => .error e

/-! ## Format C (R115) -/

/-- CAM 3 carries an extension word. -/
def CForm.len (f : CForm) : Nat := if f.cam = 3 then 8 else 4
/-- With CAM 3, D16 is 0. -/
def CForm.ok (f : CForm) : Bool := !(f.cam == 3 && f.d16 != 0)
/-- The address ca. -/
def CForm.ca (f : CForm) (x : Ctx) : Nat :=
  match f.cam.toNat with
  | 0 => (x.x + f.d16.zeroExtend 32).toNat
  | 1 => (x.y + f.d16.zeroExtend 32).toNat
  | 2 => f.d16.toNat
  | _ => f.ext.toNat

end Sys2Proof.Machine
end

