-- ==== Sys2Proof/Machine/AisExc.lean ====
section
/-! DEFINITION. How an instruction is issued, completes, or raises an exception; taking an exception and a double exception;
stopping on a memory error (R85, R88, R89, R118 to R122, R168). -/

namespace Sys2Proof.Machine

/-! ## Stopping and halting -/

/-- The bell commits, and a replay that this may end (R14, R336). -/
def State.owedLess (s : State) (c : Nat) : State :=
  let t := s.commitBells
  if isTc c then (s.engineOf (ctxSlot c)).elim t (fun n => t.tryResume n) else t

/-- A context of any core stops with its registers `x`; an I/O core's RUN bit clears. -/
def State.haltCtx (s : State) (c : Nat) (x : Ctx) (r : Run) : State :=
  let t := s.setCtx c { x with run := r, frozen := false, late := false }
  let t := if isTc c || isReeve c then t else t.wr Reg.HUB_IOC_RUN_RUN (setBits (t.rd Reg.HUB_IOC_RUN_RUN) (c - 288) 1 0)
  t.owedLess c

/-- A memory error stops the context, and TC_STATUS.MEM_ERR shows it (R122, R128); the fault arrives by its own command. -/
def State.stopMem (s : State) (c : Nat) : State :=
  let t := if isTc c then
      s.wr (Reg.TC_STATUS_MEM_ERR (ctxSlot c) (ctxCore c)) (Nat.lor (s.rd (Reg.TC_STATUS_MEM_ERR (ctxSlot c) (ctxCore c))) (2 ^ ctxIdx c))
    else s
  t.haltCtx c (t.ctx c) .stopped

/-! ## Identity of a context (Table 4.16) -/

/-- CTXID. The slot and die fields of an I/O core and of the Reeve are free (notes/assumptions/34.md). -/
def State.ctxId (s : State) (c : Nat) : Nat :=
  if isTc c then s.ctxPart c % 64 + ctxIdx c * 64 + ctxSlot c % 9 * 256 + ctxSlot c / 9 * 2 ^ 14 + 2 ^ 15
  else Config.fuse "slot and die of a core without one" % 128 * 256

/-! ## Exceptions (R118 to R120, R168) -/

/-- TC_CTX_EXC: code, whether double, and the raising instruction's address. -/
def State.recordExc (s : State) (c code : Nat) (double : Bool) (pc : Nat) : State :=
  if !isTc c then s
  else
    let ps := ctxSlot c
    ((s.wr (Reg.TC_CTX_EXC_CAUSE ps (ctxCore c) (ctxIdx c)) code).wr (Reg.TC_CTX_EXC_DOUBLE ps (ctxCore c) (ctxIdx c)) (b2n double)).wr
      (Reg.TC_CTX_EXC_PC ps (ctxCore c) (ctxIdx c)) (pc / 4)

/-- ST on entry: LEVEL F, or M on the Reeve, EXL 1, IE 0; the flags stay (R119). -/
def entrySt (c : Nat) (st : BitVec 32) : BitVec 32 := (st &&& 0x1F) ||| 0x800 ||| (if isReeve c then 0x200 else 0x100)

/-- The registers after taking an exception whose saved PC is `epc` (R119). -/
def Ctx.entered (x : Ctx) (c code eaddr arg : Nat) (epc : BitVec 32) : Ctx :=
  { x with
    epc := epc, est := x.st, ecause := BitVec.ofNat 32 (code + arg % 4096 * 256), eaddr := BitVec.ofNat 32 eaddr
    st := entrySt c x.st, pc := x.vbar + BitVec.ofNat 32 (64 * code), cycle := x.cycle + 6 }

/-- The firmware handler's report of a level-P exception: the ring entry, the event, and the halted context (R168). -/
def State.reportExc (s : State) (c : Nat) : State :=
  let x := s.ctx c
  let p := s.ctxPart c
  let q := s.part p
  let e : ExcEntry := { ctxid := s.ctxId c, engine := (s.engineOf (ctxSlot c)).getD 0, ecause := x.ecause.toNat, epc := x.epc.toNat, eaddr := x.eaddr.toNat, pb := x.pb.toNat }
  let t := s.setPart p { q with ring := Tab.set ExcEntry.zero q.ring (q.excIndex % 16) e, excIndex := q.excIndex + 1 }
  let t := t.partEvent p Reg.PART_EVENT_EXCEPTION
  let t := match q.vf with
    | some v => t.sendMsix v 0
    | none => t
  t.haltCtx c x .halted

/-- A double exception: the context stops and shows it, and fault handling takes it; on the Reeve it resets the Reeve (R120). -/
def State.doubleExc (s : State) (c code : Nat) : State :=
  let x := s.ctx c
  if isReeve c then (if s.pwr.off then s else s.reeveFails 2)
  else if isTc c then
    let f := Reg.TC_STATUS_DOUBLE (ctxSlot c) (ctxCore c)
    let t := (s.recordExc c code true x.pc.toNat).haltCtx c x .stopped
    let t := t.wr f (Nat.lor (t.rd f) (2 ^ ctxIdx c))
    t.fault 0x09 (t.ctxPart c) ((t.engineOf (ctxSlot c)).getD 16) 0 0
  else
    let t := s.haltCtx c x .stopped
    let t := t.wr Reg.HUB_IOC_DOUBLE_DOUBLE (Nat.lor (t.rd Reg.HUB_IOC_DOUBLE_DOUBLE) (2 ^ (c - 288)))
    t.fault 0x0A 0 16 (c - 288) 0

/-- Context `c`, whose registers are `x`, takes exception `code` with the saved PC `epc` (R119); while EXL is 1 it is a double
exception. A level-P exception of a tending core is reported by its handler in the same step (R168). -/
def State.takeExc (s : State) (c : Nat) (x : Ctx) (code eaddr arg : Nat) (epc : BitVec 32) : State :=
  if x.flag 11 then s.doubleExc c code
  else
    let t := (s.setCtx c (x.entered c code eaddr arg epc)).recordExc c code false x.pc.toNat
    if isTc c && x.level == 0 then t.reportExc c else t

/-- An instruction ends without its effect (R118). -/
def State.ended (s : State) (c : Nat) : Stop → State
  | .exc code a => s.takeExc c (s.ctx c) code a 0 (s.ctx c).pc
  | .memErr => s.stopMem c

/-! ## Issue and completion (R85, R88, R89, R95) -/

/-- Why the instruction of `len` bytes at PC cannot be fetched. Levels F and M fetch through the register window too (R90). -/
def State.fetchStop (s : State) (c : Nat) (x : Ctx) (len : Nat) : Option Stop :=
  if x.pc.toNat % 4 ≠ 0 then some (.exc 3 x.pc.toNat)
  else ((List.range (len / 4)).map (fun i => x.pc.toNat + 4 * i)).findSome? (fun a =>
    match s.coreAddr c x a 4 false with
    | some (.mem m _) => if s.readable m 4 then none else some .memErr
    | some (.reg _) => none
    | none => some (.exc 4 a))

/-- The words of the instruction that come through the register window, by their offsets in BAR0 (R90). -/
def State.fetchRegs (s : State) (c : Nat) (x : Ctx) (len : Nat) : List Nat :=
  (List.range (len / 4)).filterMap (fun i => match s.coreAddr c x (x.pc.toNat + 4 * i) 4 false with
    | some (.reg o) => some o
    | _ => none)

/-- The fetch of the instruction: each word that comes through the register window is a 32-bit read of a register, with what that read
does (R2, R5, R7, R90). A fetch from memory changes nothing. -/
def State.fetched (s : State) (c : Nat) (x : Ctx) (len : Nat) : State :=
  (s.fetchRegs c x len).foldl (fun t o => (t.regRead (coreSrc c) o 4).1) s

/-- An instruction of `len` bytes that the core's configuration holds and whose encoding is defined when `defined`, and that
needs a level: once it is fetched it does what `body` gives, or ends without its effect. A context that does not run issues nothing. -/
def State.issue (s : State) (c len : Nat) (defined : Bool) (level : Nat) (body : State → Ctx → Except Stop State) : State :=
  let x := s.ctx c
  if x.run ≠ .running then s
  else match s.fetchStop c x len with
    | some e => s.ended c e
    | none =>
      let t := s.fetched c x len
      if !defined then t.ended c (.exc 1 x.pc.toNat)
      else if x.level < level then t.ended c (.exc 2 x.pc.toNat)
      else match body t x with
        | .ok u => u
        | .error e => t.ended c e

/-- The instruction completes with the registers `x`, the next address and its cycles. What its own effect did to the running of
the context stays. -/
def State.finish (s : State) (c : Nat) (x : Ctx) (next : BitVec 32) (cost : Nat) : State :=
  let y := s.ctx c
  s.setCtx c { x with pc := next, cycle := x.cycle + BitVec.ofNat 64 cost, run := y.run, frozen := y.frozen, late := y.late }

/-- Clocks that an extension word adds (R95). -/
def extCost (len : Nat) : Nat := if len = 8 then 1 else 0

/-- An M-format instruction that works on its operand: `base` cycles, the registers after it by `f` (R97, R99, R100). -/
def State.operate (s : State) (c : Nat) (m : MForm) (defined : Bool) (base : Nat) (f : Ctx → BitVec 64 → Ctx) : State :=
  s.issue c m.len (defined && m.ok) 0 (fun s x =>
    match s.operand c x m with
    | .error e => .error e
    | .ok r => .ok (r.1.finish c (m.after (f x r.2.1)) (x.pc + BitVec.ofNat 32 m.len) (base + extCost m.len + r.2.2)))

/-- A store of the low bits of a register (R94): memory modes only, SX 0. -/
def State.storeReg (s : State) (c : Nat) (m : MForm) (defined : Bool) (v : Ctx → Nat) : State :=
  s.issue c m.len (defined && m.ok && !m.imm && !m.sx) 0 (fun s x =>
    match s.store c x (m.ea x) m.nbytes (v x) with
    | .error e => .error e
    | .ok r => .ok (r.1.finish c (m.after x) (x.pc + BitVec.ofNat 32 m.len) (1 + extCost m.len + r.2)))

/-- An instruction of one word that works on registers alone. -/
def State.register (s : State) (c : Nat) (defined : Bool) (level base : Nat) (f : Ctx → Ctx) : State :=
  s.issue c 4 defined level (fun s x => .ok (s.finish c (f x) (x.pc + 4) base))

end Sys2Proof.Machine
end

