-- ==== Sys2Proof/Machine/AisArith.lean ====
section
/-! DEFINITION. Loads, stores, arithmetic, shifts, bit counts, check steps and lookup: format M (R97, R99, R100, R102). -/

namespace Sys2Proof.Machine

/-- An operand of 32 bits or less, as X and Y take it. -/
def MForm.notLong (m : MForm) : Bool := m.sz != 3

/-- A set to the effective address: no memory access; memory modes only (R94). -/
def State.address (s : State) (c : Nat) (m : MForm) (f : Ctx → BitVec 32 → Ctx) : State :=
  s.issue c m.len (m.ok && !m.imm) 0 (fun s x =>
    .ok (s.finish c (m.after (f x (BitVec.ofNat 32 (m.ea x)))) (x.pc + BitVec.ofNat 32 m.len) (1 + extCost m.len)))

/-- MAC: the second operand is read at Y with the width and extension of the first, and both reads are paid (Table 4.8, R95). -/
def State.multiplyAdd (s : State) (c : Nat) (m : MForm) : State :=
  s.issue c m.len m.ok 0 (fun s x =>
    match s.operand c x m with
    | .error e => .error e
    | .ok r => match r.1.load c x x.y.toNat m.nbytes with
      | .error e => .error e
      | .ok q => .ok (q.1.finish c (m.after (x.aluMac r.2.1 (m.extend q.2.1) m.nbytes)) (x.pc + BitVec.ofNat 32 m.len)
          (3 + extCost m.len + r.2.2 + q.2.2)))

/-- A lookup descriptor (Table 4.12): base, shift, interpolation, entries, table address; none when a reserved bit is set or the
table is not aligned to twice its entries. -/
def lutFields (d : List Nat) : Option (Int × Nat × Bool × Nat × Nat) :=
  let n := if bit (d.getD 5 0) 1 then 1024 else 256
  let t := leNat ((d.drop 8).take 4)
  if d.getD 4 0 / 32 ≠ 0 ∨ d.getD 5 0 / 4 ≠ 0 ∨ leNat ((d.drop 6).take 2) ≠ 0 ∨ leNat ((d.drop 12).take 4) ≠ 0 ∨ t % (2 * n) ≠ 0 then none
  else some (sext 32 (leNat (d.take 4)), d.getD 4 0 % 32, bit (d.getD 5 0) 0, n, t)

/-- LUT: the descriptor and the table lie in local memory (R102). -/
def State.lut (s : State) (c : Nat) (m : MForm) : State :=
  s.issue c m.len (isTc c && m.ok && !m.imm) 0 (fun s x =>
    let ea := m.ea x
    match s.reach c x ea 16 false with
    | .error e => .error e
    | .ok (.mem a false) =>
      if !s.readable a 16 then .error .memErr
      else match lutFields (s.bytes a 16) with
        | none => .error (.exc 5 ea)
        | some (b, h, interp, n, table) =>
          match s.coreAddr c x table (2 * n) false with
          | some (.mem q false) =>
            let v := sext 32 x.a.toNat
            let p := lookupAt n v b h
            if !s.readable (q + 2 * p.1) (if interp && p.2 != 0 then 4 else 2) then .error .memErr
            else
              let y := lookup (fun i => sext 16 (s.ld (q + 2 * i) 2)) n v b h interp
              .ok (s.finish c (m.after (x.setA (BitVec.ofInt 64 y))) (x.pc + BitVec.ofNat 32 m.len) ((if interp then 8 else 7) + extCost m.len))
          | _ => .error (.exc 4 table)
    | .ok _ => .error (.exc 4 ea))

/-! ## Meanings -/

/-- LDA (R97). -/
def execLda (c : Nat) (m : MForm) (s : State) : Host.Outcome State Fault Refusal :=
  s.guarded (decide (c < 321)) (s.operate c m true 1 (fun x v => x.setA v))

/-- STA (R97). -/
def execSta (c : Nat) (m : MForm) (s : State) : Host.Outcome State Fault Refusal :=
  s.guarded (decide (c < 321)) (s.storeReg c m true (fun x => x.a.toNat))

/-- LDX (R97). -/
def execLdx (c : Nat) (m : MForm) (s : State) : Host.Outcome State Fault Refusal :=
  s.guarded (decide (c < 321)) (s.operate c m m.notLong 1 (fun x v => { x with x := v.truncate 32 }))

/-- STX (R97). -/
def execStx (c : Nat) (m : MForm) (s : State) : Host.Outcome State Fault Refusal :=
  s.guarded (decide (c < 321)) (s.storeReg c m m.notLong (fun x => x.x.toNat))

/-- LDY (R97). -/
def execLdy (c : Nat) (m : MForm) (s : State) : Host.Outcome State Fault Refusal :=
  s.guarded (decide (c < 321)) (s.operate c m m.notLong 1 (fun x v => { x with y := v.truncate 32 }))

/-- STY (R97). -/
def execSty (c : Nat) (m : MForm) (s : State) : Host.Outcome State Fault Refusal :=
  s.guarded (decide (c < 321)) (s.storeReg c m m.notLong (fun x => x.y.toNat))

/-- LDB (R97). -/
def execLdb (c : Nat) (m : MForm) (s : State) : Host.Outcome State Fault Refusal :=
  s.guarded (decide (c < 321)) (s.operate c m (isTc c) 1 (fun x v => { x.zn v with b := v }))

/-- STB (R97). -/
def execStb (c : Nat) (m : MForm) (s : State) : Host.Outcome State Fault Refusal :=
  s.guarded (decide (c < 321)) (s.storeReg c m (isTc c) (fun x => x.b.toNat))

/-- ADRX (R97). -/
def execAdrx (c : Nat) (m : MForm) (s : State) : Host.Outcome State Fault Refusal :=
  s.guarded (decide (c < 321)) (s.address c m (fun x v => { x with x := v }))

/-- ADRY (R97). -/
def execAdry (c : Nat) (m : MForm) (s : State) : Host.Outcome State Fault Refusal :=
  s.guarded (decide (c < 321)) (s.address c m (fun x v => { x with y := v }))

/-- ADD (R97). -/
def execAdd (c : Nat) (m : MForm) (s : State) : Host.Outcome State Fault Refusal :=
  s.guarded (decide (c < 321)) (s.operate c m true 1 (fun x v => x.aluAdd v false))

/-- ADC (R97). -/
def execAdc (c : Nat) (m : MForm) (s : State) : Host.Outcome State Fault Refusal :=
  s.guarded (decide (c < 321)) (s.operate c m true 1 (fun x v => x.aluAdd v (x.flag 2)))

/-- SUB (R97). -/
def execSub (c : Nat) (m : MForm) (s : State) : Host.Outcome State Fault Refusal :=
  s.guarded (decide (c < 321)) (s.operate c m true 1 (fun x v => x.aluSub v false))

/-- SBC (R97). -/
def execSbc (c : Nat) (m : MForm) (s : State) : Host.Outcome State Fault Refusal :=
  s.guarded (decide (c < 321)) (s.operate c m true 1 (fun x v => x.aluSub v (!x.flag 2)))

/-- AND (R97). -/
def execAnd (c : Nat) (m : MForm) (s : State) : Host.Outcome State Fault Refusal :=
  s.guarded (decide (c < 321)) (s.operate c m true 1 (fun x v => x.setA (x.a &&& v)))

/-- OR (R97). -/
def execOr (c : Nat) (m : MForm) (s : State) : Host.Outcome State Fault Refusal :=
  s.guarded (decide (c < 321)) (s.operate c m true 1 (fun x v => x.setA (x.a ||| v)))

/-- XOR (R97). -/
def execXor (c : Nat) (m : MForm) (s : State) : Host.Outcome State Fault Refusal :=
  s.guarded (decide (c < 321)) (s.operate c m true 1 (fun x v => x.setA (x.a ^^^ v)))

/-- CMP (R97). -/
def execCmp (c : Nat) (m : MForm) (s : State) : Host.Outcome State Fault Refusal :=
  s.guarded (decide (c < 321)) (s.operate c m true 1 Ctx.aluCmp)

/-- ADDS (R97). -/
def execAdds (c : Nat) (m : MForm) (s : State) : Host.Outcome State Fault Refusal :=
  s.guarded (decide (c < 321)) (s.operate c m true 1 Ctx.aluAdds)

/-- MUL (R97). -/
def execMul (c : Nat) (m : MForm) (s : State) : Host.Outcome State Fault Refusal :=
  s.guarded (decide (c < 321)) (s.operate c m true 3 Ctx.aluMul)

/-- MULH (R97). -/
def execMulh (c : Nat) (m : MForm) (s : State) : Host.Outcome State Fault Refusal :=
  s.guarded (decide (c < 321)) (s.operate c m true 4 Ctx.aluMulh)

/-- MAC (R97). -/
def execMac (c : Nat) (m : MForm) (s : State) : Host.Outcome State Fault Refusal :=
  s.guarded (decide (c < 321)) (s.multiplyAdd c m)

/-- MAX (R97). -/
def execMax (c : Nat) (m : MForm) (s : State) : Host.Outcome State Fault Refusal :=
  s.guarded (decide (c < 321)) (s.operate c m true 1 Ctx.aluMax)

/-- MIN (R97). -/
def execMin (c : Nat) (m : MForm) (s : State) : Host.Outcome State Fault Refusal :=
  s.guarded (decide (c < 321)) (s.operate c m true 1 Ctx.aluMin)

/-- TST (R97). -/
def execTst (c : Nat) (m : MForm) (s : State) : Host.Outcome State Fault Refusal :=
  s.guarded (decide (c < 321)) (s.operate c m true 1 (fun x v => x.zn (x.a &&& v)))

/-- SHL (R97). -/
def execShl (c : Nat) (m : MForm) (s : State) : Host.Outcome State Fault Refusal :=
  s.guarded (decide (c < 321)) (s.operate c m true 1 Ctx.aluShl)

/-- SHR (R97). -/
def execShr (c : Nat) (m : MForm) (s : State) : Host.Outcome State Fault Refusal :=
  s.guarded (decide (c < 321)) (s.operate c m true 1 Ctx.aluShr)

/-- SAR (R97). -/
def execSar (c : Nat) (m : MForm) (s : State) : Host.Outcome State Fault Refusal :=
  s.guarded (decide (c < 321)) (s.operate c m true 1 Ctx.aluSar)

/-- ROL (R97). -/
def execRol (c : Nat) (m : MForm) (s : State) : Host.Outcome State Fault Refusal :=
  s.guarded (decide (c < 321)) (s.operate c m true 1 Ctx.aluRol)

/-- RSHR (R97). -/
def execRshr (c : Nat) (m : MForm) (s : State) : Host.Outcome State Fault Refusal :=
  s.guarded (decide (c < 321)) (s.operate c m true 1 Ctx.aluRshr)

/-- CLZ (R97). -/
def execClz (c : Nat) (m : MForm) (s : State) : Host.Outcome State Fault Refusal :=
  s.guarded (decide (c < 321)) (s.operate c m true 1 (fun x v => x.aluClz v m.width))

/-- POPC (R97). -/
def execPopc (c : Nat) (m : MForm) (s : State) : Host.Outcome State Fault Refusal :=
  s.guarded (decide (c < 321)) (s.operate c m true 1 Ctx.aluPopc)

/-- CRC (R99). -/
def execCrc (c : Nat) (m : MForm) (s : State) : Host.Outcome State Fault Refusal :=
  s.guarded (decide (c < 321)) (s.operate c m (s.ctx c).crcOk (if m.sz = 3 then 2 else 1) (fun x v => x.aluCrc v m.width))

/-- PAR (R100). -/
def execPar (c : Nat) (m : MForm) (s : State) : Host.Outcome State Fault Refusal :=
  s.guarded (decide (c < 321)) (s.operate c m true 1 (fun x v => x.aluPar v m.width))

/-- BREV (R100). -/
def execBrev (c : Nat) (m : MForm) (s : State) : Host.Outcome State Fault Refusal :=
  s.guarded (decide (c < 321)) (s.operate c m true 1 (fun x v => x.aluBrev v m.width))

/-- LUT (R102). -/
def execLut (c : Nat) (m : MForm) (s : State) : Host.Outcome State Fault Refusal :=
  s.guarded (decide (c < 321)) (s.lut c m)

end Sys2Proof.Machine
end

