-- ==== Sys2Proof/Machine/AisCtl.lean ====
section
/-! DEFINITION. Branches, calls and the system group but for its waits (R104 to R106, R111 to R113, R121, R383). -/

namespace Sys2Proof.Machine

/-! ## Branches and the stack (R104, R105) -/

/-- A J-format target: PC + 4·sext(OFF22). -/
def branchTarget (pc : BitVec 32) (off : BitVec 22) : BitVec 32 := pc + off.signExtend 32 * 4

/-- B. -/
def State.branch (s : State) (c : Nat) (cond : BitVec 4) (off : BitVec 22) : State :=
  s.issue c 4 (cond != 15) 0 (fun s x =>
    .ok (if x.cond cond.toNat then s.finish c x (branchTarget x.pc off) 2 else s.finish c x (x.pc + 4) 1))

/-- DBNZ: X, or Y when IDX is 1, less one; the flags stay. -/
def State.decBranch (s : State) (c : Nat) (idx : Bool) (off : BitVec 22) : State :=
  s.issue c 4 true 0 (fun s x =>
    let r := (if idx then x.y else x.x) - 1
    let y := if idx then { x with y := r } else { x with x := r }
    .ok (if r = 0 then s.finish c y (x.pc + 4) 1 else s.finish c y (branchTarget x.pc off) 2))

/-- JMP. -/
def State.jumpTo (s : State) (c : Nat) (m : MForm) : State :=
  s.issue c m.len (m.ok && !m.imm) 0 (fun s x => .ok (s.finish c (m.after x) (BitVec.ofNat 32 (m.ea x)) (2 + extCost m.len)))

/-- CALL: the stack slot costs its base cycles only (notes/assumptions/35.md). -/
def State.call (s : State) (c : Nat) (m : MForm) : State :=
  s.issue c m.len (m.ok && !m.imm) 0 (fun s x =>
    let sp := x.sp - 8
    match s.store c x sp.toNat 8 (x.pc + BitVec.ofNat 32 m.len).toNat with
    | .error e => .error e
    | .ok r => .ok (r.1.finish c (m.after { x with sp := sp }) (BitVec.ofNat 32 (m.ea x)) (3 + extCost m.len)))

/-- RET. -/
def State.ret (s : State) (c : Nat) : State :=
  s.issue c 4 true 0 (fun s x =>
    match s.load c x x.sp.toNat 8 with
    | .error e => .error e
    | .ok r => .ok (r.1.finish c { x with sp := x.sp + 8 } (BitVec.ofNat 32 r.2.1) 3))

/-- The register that PUSH and POP name: 0 A, 1 B, 2 X, 3 Y. -/
def Ctx.slotValue (x : Ctx) (k : Nat) : Nat :=
  match k with
  | 0 => x.a.toNat | 1 => x.b.toNat | 2 => x.x.toNat | _ => x.y.toNat

/-- That register taken from a stack slot; no flags. -/
def Ctx.popped (x : Ctx) (k v : Nat) : Ctx :=
  match k with
  | 0 => { x with a := BitVec.ofNat 64 v } | 1 => { x with b := BitVec.ofNat 64 v }
  | 2 => { x with x := BitVec.ofNat 32 v } | _ => { x with y := BitVec.ofNat 32 v }

/-- PUSH; B is AIS-L only. -/
def State.push (s : State) (c : Nat) (arg : BitVec 12) : State :=
  s.issue c 4 (isTc c || arg.toNat % 4 != 1) 0 (fun s x =>
    let sp := x.sp - 8
    match s.store c x sp.toNat 8 (x.slotValue (arg.toNat % 4)) with
    | .error e => .error e
    | .ok r => .ok (r.1.finish c { x with sp := sp } (x.pc + 4) 2))

/-- POP. -/
def State.pop (s : State) (c : Nat) (arg : BitVec 12) : State :=
  s.issue c 4 (isTc c || arg.toNat % 4 != 1) 0 (fun s x =>
    match s.load c x x.sp.toNat 8 with
    | .error e => .error e
    | .ok r => .ok (r.1.finish c ({ x with sp := x.sp + 8 }.popped (arg.toNat % 4) r.2.1) (x.pc + 4) 2))

/-! ## System registers (R87, R106, Tables 4.16 and 15.1) -/

/-- Table 4.16 lists the index for the core. -/
def srListed (c : Nat) (arg : BitVec 12) : Bool :=
  let i := arg.toNat
  decide (i ≤ 7) || (decide (0x10 ≤ i) && decide (i ≤ 0x14)) || (isReeve c && decide (0x20 ≤ i) && decide (i ≤ 0x2F))

/-- The level that reading or writing the register needs. -/
def srLevel (arg : BitVec 12) : Nat := if arg.toNat < 0x10 then 0 else if arg.toNat < 0x20 then 1 else 2

/-- Microseconds left before the watchdog expires (R383, Table 15.1). -/
def State.watchdogLeft (s : State) : Nat := s.rd Reg.MGT_WDOG_TIMEOUT * 1000 - (s.now - s.rv.wdogAt) / 4000

/-- The value of a system register. -/
def State.srRead (s : State) (c : Nat) (x : Ctx) (i : Nat) : Nat :=
  match i with
  | 0 => x.st.toNat | 1 => x.crcPoly.toNat | 2 => x.crcCfg.toNat | 3 => x.cycle.toNat | 4 => x.pb.toNat | 5 => s.ctxId c
  | 6 => x.waitLim.toNat | 7 => x.blHint.toNat | 0x10 => x.epc.toNat | 0x11 => x.est.toNat | 0x12 => x.ecause.toNat
  | 0x13 => x.eaddr.toNat | 0x14 => x.vbar.toNat | 0x20 => s.rv.cause | 0x21 => s.watchdogLeft | 0x22 => s.now / 4
  | 0x23 => b2n s.rv.stateCmp
  | _ => 0

/-- ST written by MTSR: bits [4:0] at level P; also IE and EXL at F and M; LEVEL changes only on exception entry and ERET (R87, R89). -/
def Ctx.writeSt (x : Ctx) (v : BitVec 32) : BitVec 32 :=
  let k : BitVec 32 := if x.level = 0 then 0x1F else 0xC1F
  (x.st &&& ~~~k) ||| (v &&& k)

/-- The registers of the context after MTSR; a read-only register takes nothing. -/
def Ctx.srWrite (x : Ctx) (i : Nat) (v : BitVec 64) : Ctx :=
  match i with
  | 0 => { x with st := x.writeSt (v.truncate 32) }
  | 1 => { x with crcPoly := v }
  | 2 => { x with crcCfg := v &&& 0xFF }
  | 6 => { x with waitLim := v }
  | 7 => { x with blHint := v }
  | 0x10 => { x with epc := v.truncate 32 }
  | 0x11 => { x with est := v.truncate 32 }
  | 0x12 => { x with ecause := v.truncate 32 }
  | 0x13 => { x with eaddr := v.truncate 32 }
  | 0x14 => { x with vbar := v.truncate 32 &&& 0xFFFFF000 }
  | _ => x

/-- MFSR. -/
def State.mfsr (s : State) (c : Nat) (arg : BitVec 12) : State :=
  s.register c (srListed c arg) (srLevel arg) 1 (fun x => { x with a := BitVec.ofNat 64 (s.srRead c x arg.toNat) })

/-- MTSR; STATECMP is the Reeve's. -/
def State.mtsr (s : State) (c : Nat) (arg : BitVec 12) : State :=
  s.issue c 4 (srListed c arg) (srLevel arg) (fun s x =>
    let t : State := if arg.toNat = 0x23 then { s with rv := { s.rv with stateCmp := x.a.getLsbD 0 } } else s
    .ok (t.finish c (x.srWrite arg.toNat x.a) (x.pc + 4) 1))

/-! ## Traps, returns, halts, interrupts -/

/-- A LEVEL that the core has, nearest to the one asked (notes/assumptions/36.md). -/
def coreLevel (c l : Nat) : Nat := if isReeve c then min (max l 1) 2 else if isTc c then min l 1 else 1

/-- ST restored from EST by ERET: reserved bits 0. -/
def returnSt (c : Nat) (est : BitVec 32) : BitVec 32 :=
  (est &&& 0xC1F) ||| BitVec.ofNat 32 (coreLevel c (est.extractLsb' 8 2).toNat * 256)

/-- TRAP completes and enters its handler with the next address saved (R105, R118, R119). -/
def State.trap (s : State) (c : Nat) (arg : BitVec 12) : State :=
  s.issue c 4 true 0 (fun s x => .ok (s.takeExc c { x with cycle := x.cycle + 1 } 7 arg.toNat arg.toNat (x.pc + 4)))

/-- HALT. -/
def State.halt (s : State) (c : Nat) : State :=
  s.issue c 4 true 1 (fun s x => .ok (s.haltCtx c { x with pc := x.pc + 4, cycle := x.cycle + 1 } .stopped))

/-- WDOG: the watchdog counts from its full time again (R383). -/
def State.restartWatchdog (s : State) (c : Nat) : State :=
  s.issue c 4 (isReeve c) 2 (fun s x => .ok (({ s with rv := { s.rv with wdogAt := s.now } } : State).finish c x (x.pc + 4) 1))

/-- FENCE: every store of the model has already taken effect; the drain's clocks are free (notes/assumptions/33.md). -/
def State.fence (s : State) (c : Nat) (arg : BitVec 12) : State :=
  s.issue c 4 true 0 (fun s x =>
    .ok (if arg.toNat % 4 = 0 then s.finish c x (x.pc + 4) 1 else s.draw.2.finish c x (x.pc + 4) (1 + s.draw.1)))

/-- An interrupt with its cause number (R121): between instructions of a core that takes interrupts and has IE set; a WAIT,
WAITBELL or WAITBELLT in progress is abandoned and runs again; its clocks have passed (R106). The Reeve's pending cause is taken. -/
def State.interrupt (s : State) (c cause : Nat) : State :=
  let x := s.ctx c
  let between := match x.run with
    | .running => some s.now
    | .waiting .bell w | .waiting (.bellT _ _) w | .waiting (.counter ..) w => some w
    | _ => none
  match between with
  | none => s
  | some w =>
    if isTc c || !x.flag 10 then s
    else
      let t := if isReeve c then { s with reeveInts := s.reeveInts.erase cause } else s
      t.takeExc c { x with run := .running, cycle := x.cycle + BitVec.ofNat 64 (s.coreClocks c w) } 0x10 cause 0 x.pc

/-! ## Heavy phases, steps, counters (R111 to R113) -/

/-- HEAVY: for each bell not yet begun, the engine's latest announcement replaces earlier ones. -/
def State.heavyFor (s : State) (n pb : Nat) (arg : BitVec 12) : State :=
  let lead := bits arg.toNat 4 2 + 1
  let len := bits arg.toNat 6 6 + 1
  let bs := ((List.range len).map (fun i => pb + lead + 1 + i)).filter (fun b => decide (s.count < b))
  let l := s.heavy.filter (fun h => !(h.engine == n && decide (h.bell ∈ bs)))
  { s with heavy := if bits arg.toNat 0 4 = 0 then l else l ++ bs.map (fun b => { engine := n, bell := b, level := bits arg.toNat 0 4 }) }

/-- HEAVY. -/
def State.announceHeavy (s : State) (c : Nat) (arg : BitVec 12) : State :=
  s.issue c 4 (isTc c) 0 (fun s x =>
    .ok (((s.engineOf (ctxSlot c)).elim s (fun n => s.heavyFor n x.pb.toNat arg)).finish c x (x.pc + 4) 1))

/-- The context works through a replay (R336). -/
def State.replaying (s : State) (c : Nat) : Bool :=
  match (s.engineOf (ctxSlot c)).bind s.replayOf with
  | some r => isTc c && r.begun && decide (c % 16 ∈ r.ctxs)
  | none => false

/-- An accepted step (R112): the partition's last, and the trigger of each checkpoint context in step mode that it meets, at the
announcing context's pb + 1 (R346); one that the counter has passed is a missed target (R24). -/
def State.announceStep (s : State) (c pb step : Nat) : State :=
  let p := s.ctxPart c
  let n := s.engineOf (ctxSlot c)
  let t : State := { s with flt := { s.flt with steps := Tab.set 0 s.flt.steps p (step + 1) } }
  t.each 4 (fun k t =>
    if t.on (Reg.CKP_CTRL_EN k) && t.on (Reg.CKP_CTRL_MODE k) && t.rd (Reg.CKP_CTRL_PART k) == p && n == some (t.rd (Reg.CKP_CTRL_ENGINE k)) &&
        step % t.rd (Reg.CKP_EVERY_EVERY k) == 0 then
      if pb + 1 ≤ t.count then t.when (!s.replaying c) State.missedTarget
      else t.setCkp k { t.ckp k with due := some (pb + 1, some step) }
    else t)

/-- STEP: C says whether the number is above the last one accepted from the context; the first of a context that has none is taken
(DESIGN CHOICE, notes/assumptions/8.md). -/
def State.step_ (s : State) (c : Nat) : State :=
  s.issue c 4 (isTc c) 0 (fun s x =>
    if x.lastStep.elim true (fun l => decide (l < x.a.toNat)) then
      .ok ((s.announceStep c x.pb.toNat x.a.toNat).finish c { x.setFlag 2 true with lastStep := some x.a.toNat } (x.pc + 4) 2)
    else .ok (s.finish c (x.setFlag 2 false) (x.pc + 4) 2))

/-- The partition whose counter RDCNT and WAIT read (R113). -/
def State.counterPart (s : State) (c : Nat) (x : Ctx) : Nat := if isTc c then s.ctxPart c else bits x.a.toNat 32 6

/-- RDCNT. -/
def State.readCounter (s : State) (c : Nat) (arg : BitVec 12) : State :=
  s.register c (counterDefined arg.toNat) 0 4 (fun x => { x with a := BitVec.ofNat 64 (s.counterSeen c (s.counterPart c x) arg.toNat) })

/-! ## Meanings -/

/-- B (R104). -/
def execB (c : Nat) (cond : BitVec 4) (off : BitVec 22) (s : State) : Host.Outcome State Fault Refusal :=
  s.guarded (decide (c < 321)) (s.branch c cond off)

/-- DBNZ (R104). -/
def execDbnz (c : Nat) (idx : Bool) (off : BitVec 22) (s : State) : Host.Outcome State Fault Refusal :=
  s.guarded (decide (c < 321)) (s.decBranch c idx off)

/-- JMP (R104). -/
def execJmp (c : Nat) (m : MForm) (s : State) : Host.Outcome State Fault Refusal :=
  s.guarded (decide (c < 321)) (s.jumpTo c m)

/-- CALL (R104). -/
def execCall (c : Nat) (m : MForm) (s : State) : Host.Outcome State Fault Refusal :=
  s.guarded (decide (c < 321)) (s.call c m)

/-- RET (R104). -/
def execRet (c : Nat) (s : State) : Host.Outcome State Fault Refusal :=
  s.guarded (decide (c < 321)) (s.ret c)

/-- NOP (R105). -/
def execNop (c : Nat) (s : State) : Host.Outcome State Fault Refusal :=
  s.guarded (decide (c < 321)) (s.register c true 0 1 id)

/-- HEAVY (R111). -/
def execHeavy (c : Nat) (arg : BitVec 12) (s : State) : Host.Outcome State Fault Refusal :=
  s.guarded (decide (c < 321)) (s.announceHeavy c arg)

/-- STEP (R112). -/
def execStep (c : Nat) (s : State) : Host.Outcome State Fault Refusal :=
  s.guarded (decide (c < 321)) (s.step_ c)

/-- RDCNT (R113). -/
def execRdcnt (c : Nat) (arg : BitVec 12) (s : State) : Host.Outcome State Fault Refusal :=
  s.guarded (decide (c < 321)) (s.readCounter c arg)

/-- FENCE (R105). -/
def execFence (c : Nat) (arg : BitVec 12) (s : State) : Host.Outcome State Fault Refusal :=
  s.guarded (decide (c < 321)) (s.fence c arg)

/-- TRAP (R105). -/
def execTrap (c : Nat) (arg : BitVec 12) (s : State) : Host.Outcome State Fault Refusal :=
  s.guarded (decide (c < 321)) (s.trap c arg)

/-- PUSH (R105). -/
def execPush (c : Nat) (arg : BitVec 12) (s : State) : Host.Outcome State Fault Refusal :=
  s.guarded (decide (c < 321)) (s.push c arg)

/-- POP (R105). -/
def execPop (c : Nat) (arg : BitVec 12) (s : State) : Host.Outcome State Fault Refusal :=
  s.guarded (decide (c < 321)) (s.pop c arg)

/-- MFSR (R106). -/
def execMfsr (c : Nat) (arg : BitVec 12) (s : State) : Host.Outcome State Fault Refusal :=
  s.guarded (decide (c < 321)) (s.mfsr c arg)

/-- MTSR (R106). -/
def execMtsr (c : Nat) (arg : BitVec 12) (s : State) : Host.Outcome State Fault Refusal :=
  s.guarded (decide (c < 321)) (s.mtsr c arg)

/-- ERET (R105). -/
def execEret (c : Nat) (s : State) : Host.Outcome State Fault Refusal :=
  s.guarded (decide (c < 321)) (s.issue c 4 true 1 (fun s x => .ok (s.finish c { x with st := returnSt c x.est } x.epc 3)))

/-- HALT (R105). -/
def execHalt (c : Nat) (s : State) : Host.Outcome State Fault Refusal :=
  s.guarded (decide (c < 321)) (s.halt c)

/-- EI (R105). -/
def execEi (c : Nat) (s : State) : Host.Outcome State Fault Refusal :=
  s.guarded (decide (c < 321)) (s.register c (!isTc c) 1 1 (fun x => x.setFlag 10 true))

/-- DI (R105). -/
def execDi (c : Nat) (s : State) : Host.Outcome State Fault Refusal :=
  s.guarded (decide (c < 321)) (s.register c (!isTc c) 1 1 (fun x => x.setFlag 10 false))

/-- WDOG (R383). -/
def execWdog (c : Nat) (s : State) : Host.Outcome State Fault Refusal :=
  s.guarded (decide (c < 321)) (s.restartWatchdog c)

/-- INTERRUPT_TAKEN (R121). -/
def execInterruptTaken (c cause : Nat) (s : State) : Host.Outcome State Fault Refusal :=
  s.guarded (decide (c < 321)) (s.interrupt c cause)

end Sys2Proof.Machine
end

