-- ==== Sys2Proof/Machine/AisWait.lean ====
section
/-! DEFINITION. The waits of a context: for a bell, for a target bell, for a counter; and their ends (R107 to R109, R114, R162,
R332). -/

namespace Sys2Proof.Machine

/-- A waiting instruction completes: the registers after it, with its cycles and those of its wait. -/
def State.resumeAs (s : State) (c : Nat) (x : Ctx) (len base since : Nat) : State :=
  s.setCtx c { x with
    pc := x.pc + BitVec.ofNat 32 len, cycle := x.cycle + BitVec.ofNat 64 (base + s.coreClocks c since), run := .running }

/-! ## WAITBELL and WAITBELLT (R107, R108) -/

/-- A release for bell `b`: it freezes the context of a freezing partition (R162), waits while a ninth snapshot would be needed
(R332), or gives the context the registers `x`, with pb = b and a snapshot; a context that is still behind is late (R109). -/
def State.releaseFor (s : State) (c : Nat) (x : Ctx) (b since : Nat) : State :=
  if isTc c && s.freezesAt (s.ctxPart c) b then (s.freezeCtx c since).owedLess c
  else if !s.snapRoom c b then s
  else ((s.resumeAs c { x with pb := BitVec.ofNat 64 b, late := isTc c && decide (b < s.count) } 4 2 since).takeSnap c).owedLess c

/-- WAITBELL_RELEASE: the counter has reached pb + 1; A is the new pb. -/
def State.releaseBell (s : State) (c : Nat) : State :=
  let x := s.ctx c
  match x.run with
  | .waiting .bell since =>
    let b := x.pb.toNat + 1
    if b ≤ s.count then s.releaseFor c { x with a := BitVec.ofNat 64 b } b since else s
  | _ => s

/-- WAITBELL: the context is not late any more; it releases at once when the counter has passed its bell (R107, R109). -/
def State.waitBell (s : State) (c : Nat) : State :=
  s.issue c 4 true 0 (fun s x => .ok (((s.setCtx c { x with run := .waiting .bell s.now, late := false }).owedLess c).releaseBell c))

/-- WAITBELLT_RELEASE: C = 1, or C = 0 and a missed target when the counter had passed T at issue. -/
def State.releaseTarget (s : State) (c : Nat) : State :=
  let x := s.ctx c
  match x.run with
  | .waiting (.bellT b missed) since =>
    if s.count < b then s
    else
      let t := s.releaseFor c (x.setFlag 2 (!missed)) b since
      t.when (missed && decide ((t.ctx c).run = .running)) State.missedTarget
  | _ => s

/-- WAITBELLT with its target in A: a target not above pb raises BELL with its low 32 bits; a replaying context finds its targets
passed without missing them (R108, R336). -/
def State.waitTarget (s : State) (c : Nat) : State :=
  s.issue c 4 true 0 (fun s x =>
    let b := x.a.toNat
    if b ≤ x.pb.toNat then .error (.exc 6 (b % 2 ^ 32))
    else
      let missed := decide (b ≤ s.count) && !s.replaying c
      .ok (((s.setCtx c { x with run := .waiting (.bellT b missed) s.now, late := false }).owedLess c).releaseTarget c))

/-! ## WAIT (R114) -/

/-- (s32)(counter - target) is 0 or more. -/
def reached (counter target : Nat) : Bool := decide (0 ≤ sext 32 ((counter + 2 ^ 32 - target % 2 ^ 32) % 2 ^ 32))

/-- WAIT_RELEASE: the counter, as the context sees it, has reached the target: C = 1. -/
def State.releaseCounter (s : State) (c : Nat) : State :=
  let x := s.ctx c
  match x.run with
  | .waiting (.counter p id target _) since => if reached (s.counterSeen c p id) target then s.resumeAs c (x.setFlag 2 true) 4 2 since else s
  | _ => s

/-- WAIT_TIMEOUT: WAITLIM clocks have passed: C = 0. -/
def State.timeoutCounter (s : State) (c : Nat) : State :=
  let x := s.ctx c
  match x.run with
  | .waiting (.counter _ _ _ (some lim)) since => if lim ≤ s.coreClocks c since then s.resumeAs c (x.setFlag 2 false) 4 2 since else s
  | _ => s

/-- WAIT: a context of a freezing partition stops there (R162). -/
def State.waitCounter (s : State) (c : Nat) (arg : BitVec 12) : State :=
  s.issue c 4 (counterDefined arg.toNat) 0 (fun s x =>
    let p := s.counterPart c x
    let lim := if x.waitLim = 0 then none else some x.waitLim.toNat
    if isTc c && decide (s.partState p = .freezing) then .ok ((s.freezeCtx c s.now).owedLess c)
    else .ok ((s.setCtx c { x with run := .waiting (.counter p arg.toNat (x.a.toNat % 2 ^ 32) lim) s.now }).releaseCounter c))

/-! ## Meanings -/

/-- WAITBELL (R107). -/
def execWaitbell (c : Nat) (s : State) : Host.Outcome State Fault Refusal :=
  s.guarded (decide (c < 321)) (s.waitBell c)

/-- WAITBELL_RELEASE (R107). -/
def execWaitbellRelease (c : Nat) (s : State) : Host.Outcome State Fault Refusal :=
  s.guarded (decide (c < 321)) (s.releaseBell c)

/-- WAITBELLT (R108). -/
def execWaitbellt (c : Nat) (s : State) : Host.Outcome State Fault Refusal :=
  s.guarded (decide (c < 321)) (s.waitTarget c)

/-- WAITBELLT_RELEASE (R108). -/
def execWaitbelltRelease (c : Nat) (s : State) : Host.Outcome State Fault Refusal :=
  s.guarded (decide (c < 321)) (s.releaseTarget c)

/-- WAIT (R114). -/
def execWait (c : Nat) (arg : BitVec 12) (s : State) : Host.Outcome State Fault Refusal :=
  s.guarded (decide (c < 321)) (s.waitCounter c arg)

/-- WAIT_RELEASE (R114). -/
def execWaitRelease (c : Nat) (s : State) : Host.Outcome State Fault Refusal :=
  s.guarded (decide (c < 321)) (s.releaseCounter c)

/-- WAIT_TIMEOUT (R114). -/
def execWaitTimeout (c : Nat) (s : State) : Host.Outcome State Fault Refusal :=
  s.guarded (decide (c < 321)) (s.timeoutCounter c)

end Sys2Proof.Machine
end

