-- ==== Sys2Proof/Machine/AisCp.lean ====
section
/-! DEFINITION. The coprocessor block: enqueues with their stalls and try forms, engine status, parse assist (R115 to R117, R278). -/

namespace Sys2Proof.Machine

/-- The 32-bit words of a descriptor. -/
def wordsOf (bs : List Nat) : List Nat := (List.range (bs.length / 4)).map (fun i => leNat ((bs.drop (4 * i)).take 4))

/-! ## What each queue takes -/

/-- The context's MOP is absorbed by its engine's replay (R336). -/
def State.mopAbsorbed (s : State) (n k : Nat) : Bool :=
  (s.replayOf n).elim false (fun r => (s.mopLog n).any (fun e => awaits r k e.ctx e.pb e.released))

/-- MOPQ of the words `w`: the state with the MOP queued on the core's own engine; none while it has no room (R55, R84, R333). -/
def State.offerMop (s : State) (c : Nat) (x : Ctx) (w : List Nat) : Option State :=
  match s.engineOf (ctxSlot c) with
  | none => none
  | some n =>
    if s.mopAbsorbed n (c % 16) || s.mopRoom n (s.ctxPart c) then some (s.issueMop n (ctxSlot c) (s.ctxPart c) w (c % 16) x.pb.toNat)
    else none

/-- The copy engine that a CPD of context `c` enters: HC0 when CE is reserved or offline, a tending core's own, else the one that it
names (R116, R139). -/
def State.cpdTargetUnit (s : State) (c : Nat) (w : List Nat) : Nat :=
  if isTc c then (if (s.ceUnit (cpdCe w)).isNone then 18 else ctxSlot c) else s.cpdUnit w

/-- The context's CPD is absorbed by its engine's replay (R336). -/
def State.cpdAbsorbed (s : State) (u c : Nat) (w : List Nat) : Bool :=
  cpdReplay w != 0 &&
  ((CpdSource.context c).key u).elim false (fun k => ((s.engineOfUnit u).bind s.replayOf).elim false (fun r =>
    (s.copy u).log.any (fun e => awaits r k e.ctx e.pb e.released)))

/-- CPDQ of the words `w`: the state with the CPD queued; none while the queue, the partition's part of it or the log is full. -/
def State.offerCpd (s : State) (c : Nat) (x : Ctx) (w : List Nat) : Option State :=
  let u := s.cpdTargetUnit c w
  let p := s.ctxPart c
  if s.cpdAbsorbed u c w || s.cpdRoom u p w then
    some (s.issueCpd u p (x.level == 0) (if isTc c then s.engineOf (ctxSlot c) else none) c (bellOf s.count (cpdFld w 1 0 16)) x.pb.toNat w)
  else none

/-- The replay log, and nothing else, keeps the CPD out (CPY_ERR.LOG_FULL, R149). -/
def State.logBlocks (s : State) (c : Nat) (w : List Nat) : Bool := s.logFull (s.cpdTargetUnit c w) (s.ctxPart c) w

/-- CIQ of the words `w`: the request accepted for the partition that it names. -/
def State.takeCiph (s : State) (c : Nat) (w : List Nat) : State := s.acceptCipher (ciFld w 1 24 6) 0xFFFF c 0x7FF w true none

/-! ## Enqueues (R116) -/

/-- An enqueue: the descriptor of `n` bytes at ca is read; `offer` queues it, or leaves its state as it stands without room. The plain
form waits as `wait` while there is no room, after `blocked`; the try form says in C whether it queued. 4 cycles and the reads. -/
def State.enqueue (s : State) (c : Nat) (f : CForm) (defined try_ : Bool) (n : Nat) (offer : State → Ctx → List Nat → Except State State)
    (wait : List Nat → Nat → Nat → Wait) (blocked : State → List Nat → State) : State :=
  s.issue c f.len (defined && f.ok) 0 (fun s x =>
    match s.descriptor c x (f.ca x) n with
    | .error e => .error e
    | .ok r =>
      let w := wordsOf r.2.1
      let cost := 4 + extCost f.len + r.2.2
      let next := x.pc + BitVec.ofNat 32 f.len
      match offer r.1 x w with
      | .ok t => .ok (t.finish c (if try_ then x.setFlag 2 true else x) next cost)
      | .error t =>
        if try_ then .ok (t.finish c (x.setFlag 2 false) next cost)
        else .ok ((blocked t w).setCtx c { x with run := .waiting (wait w f.len cost) s.now }))

/-- What was queued, or the state as it stood. -/
def orKeep (s : State) : Option State → Except State State
  | some t => .ok t
  | none => .error s

/-- MOPQ and MOPQT. -/
def State.mopq (s : State) (c : Nat) (f : CForm) (try_ : Bool) : State :=
  s.enqueue c f (isTc c) try_ 64 (fun t x w => orKeep t (t.offerMop c x w)) .mopRoom (fun t _ => t)

/-- CPDQ and CPDQT: a wait for the log shows in CPY_ERR. -/
def State.cpdq (s : State) (c : Nat) (f : CForm) (try_ : Bool) : State :=
  s.enqueue c f true try_ 32 (fun t x w => orKeep t (t.offerCpd c x w)) .cpdRoom
    (fun t w => t.when (t.logBlocks c w) (fun t => t.cpyErr (t.cpdTargetUnit c w) Reg.CPY_ERR_LOG_FULL))

/-- CIQ and CIQT: CP2 is that of the I/O cores and the Reeve. The spec does not bound its queue: whether it is full is free
(notes/assumptions/37.md). -/
def State.ciq (s : State) (c : Nat) (f : CForm) (try_ : Bool) : State :=
  s.enqueue c f (!isTc c) try_ 64 (fun t _ w => if t.draw.1 % 2 = 1 then .error t.draw.2 else .ok (t.draw.2.takeCiph c w)) .ciphRoom (fun t _ => t)

/-! ## Engine status (Table 4.18) -/

/-- MESTAT's word: queue depth, the partition's MOPs, its open chain, its credit. -/
def State.meStat (s : State) (n ps p : Nat) : Nat :=
  let x := s.slot ps
  x.depth % 128 + x.depthOf p % 64 * 2 ^ 8 + b2n (x.chain.elim false (fun h => h.part == p)) * 2 ^ 16 + trunc 32 (s.credit n p) * 2 ^ 32

/-- MESTAT; a slot that serves no engine shows 0. -/
def State.mestat (s : State) (c : Nat) : State :=
  s.register c (isTc c) 0 4 (fun x => { x with a := BitVec.ofNat 64 ((s.engineOf (ctxSlot c)).elim 0 (fun n => s.meStat n (ctxSlot c) (s.ctxPart c))) })

/-! ## Parse assist (R117, R278) -/

/-- An I/O core's parse assist (CP3). -/
def isIoc (c : Nat) : Bool := decide (288 ≤ c) && decide (c < 320)

/-- PCSUM: X bytes at ca added to A[15:0]. -/
def State.pcsum (s : State) (c : Nat) (f : CForm) : State :=
  s.issue c f.len (isIoc c && f.ok) 0 (fun s x =>
    if 65536 < x.x.toNat then .error (.exc 5 (f.ca x))
    else match s.coreBytes c x (f.ca x) x.x.toNat with
      | .error e => .error e
      | .ok (s, bs) => .ok (s.finish c { x with a := BitVec.ofNat 64 (onesSum (x.a.toNat % 65536) bs) } (x.pc + BitVec.ofNat 32 f.len)
          (4 + ceilDiv x.x.toNat 16 + extCost f.len)))

/-- PHASH: the hash of X bytes at ca with the key at Y, which has X + 4 bytes. -/
def State.phash (s : State) (c : Nat) (f : CForm) : State :=
  s.issue c f.len (isIoc c && f.ok) 0 (fun s x =>
    if 36 < x.x.toNat then .error (.exc 5 (f.ca x))
    else match s.coreBytes c x (f.ca x) x.x.toNat with
      | .error e => .error e
      | .ok (s, bs) => match s.coreBytes c x x.y.toNat (x.x.toNat + 4) with
        | .error e => .error e
        | .ok (s, key) => .ok (s.finish c { x with a := BitVec.ofNat 64 (toeplitz key bs) } (x.pc + BitVec.ofNat 32 f.len)
            (4 + ceilDiv x.x.toNat 4 + extCost f.len)))

/-- A header summary submitted to the classifier: the state, its result word, and the free clocks of the answer, at most 40. -/
def State.submit (s : State) (bs : List Nat) : State × Nat × Nat := (s.draw.2, s.classify (Summary.ofBytes bs), s.draw.1 % 41)

/-- PCLS and PCLST: the bytes of the summary at ca; whether the classifier's input is full is drawn (R278). -/
def State.pcls (s : State) (c : Nat) (f : CForm) (try_ : Bool) : State :=
  s.issue c f.len (isIoc c && f.ok) 0 (fun s x =>
    match s.coreBytes c x (f.ca x) 64 with
    | .error e => .error e
    | .ok (s, bs) =>
        let cost := 5 + extCost f.len
        let next := x.pc + BitVec.ofNat 32 f.len
        let full := s.draw.1 % 2 == 1
        let t := s.draw.2
        if full && try_ then .ok (t.finish c (x.setFlag 2 false) next cost)
        else if full then .ok (t.setCtx c { x with run := .waiting (.classRoom bs f.len cost) s.now })
        else
          let r := t.submit bs
          let y := { x with a := BitVec.ofNat 64 r.2.1 }
          .ok (r.1.finish c (if try_ then y.setFlag 2 true else y) next (cost + r.2.2)))

/-! ## The end of a stall (R116) -/

/-- ENQUEUE_STALL_RELEASE: the waiting descriptor is queued once there is room, or the waiting summary answered. -/
def State.releaseStall (s : State) (c : Nat) : State :=
  let x := s.ctx c
  let done (o : Option State) (x : Ctx) (len cost since : Nat) : State :=
    match o with
    | some t => t.resumeAs c { x with run := .running } len cost since
    | none => s
  match x.run with
  | .waiting (.mopRoom w len cost) since => done (s.offerMop c x w) x len cost since
  | .waiting (.cpdRoom w len cost) since => done (s.offerCpd c x w) x len cost since
  | .waiting (.ciphRoom w len cost) since => done (some (s.takeCiph c w)) x len cost since
  | .waiting (.classRoom bs len cost) since =>
    let r := s.submit bs
    done (some r.1) { x with a := BitVec.ofNat 64 r.2.1 } len (cost + r.2.2) since
  | _ => s

/-! ## Meanings -/

/-- MOPQ (R116). -/
def execMopq (c : Nat) (f : CForm) (s : State) : Host.Outcome State Fault Refusal :=
  s.guarded (decide (c < 321)) (s.mopq c f false)

/-- MOPQT (R116). -/
def execMopqt (c : Nat) (f : CForm) (s : State) : Host.Outcome State Fault Refusal :=
  s.guarded (decide (c < 321)) (s.mopq c f true)

/-- MESTAT (R116). -/
def execMestat (c : Nat) (s : State) : Host.Outcome State Fault Refusal :=
  s.guarded (decide (c < 321)) (s.mestat c)

/-- CPDQ (R116). -/
def execCpdq (c : Nat) (f : CForm) (s : State) : Host.Outcome State Fault Refusal :=
  s.guarded (decide (c < 321)) (s.cpdq c f false)

/-- CPDQT (R116). -/
def execCpdqt (c : Nat) (f : CForm) (s : State) : Host.Outcome State Fault Refusal :=
  s.guarded (decide (c < 321)) (s.cpdq c f true)

/-- CIQ (R116). -/
def execCiq (c : Nat) (f : CForm) (s : State) : Host.Outcome State Fault Refusal :=
  s.guarded (decide (c < 321)) (s.ciq c f false)

/-- CIQT (R116). -/
def execCiqt (c : Nat) (f : CForm) (s : State) : Host.Outcome State Fault Refusal :=
  s.guarded (decide (c < 321)) (s.ciq c f true)

/-- PCSUM (R117). -/
def execPcsum (c : Nat) (f : CForm) (s : State) : Host.Outcome State Fault Refusal :=
  s.guarded (decide (c < 321)) (s.pcsum c f)

/-- PHASH (R117). -/
def execPhash (c : Nat) (f : CForm) (s : State) : Host.Outcome State Fault Refusal :=
  s.guarded (decide (c < 321)) (s.phash c f)

/-- PCLS (R278). -/
def execPcls (c : Nat) (f : CForm) (s : State) : Host.Outcome State Fault Refusal :=
  s.guarded (decide (c < 321)) (s.pcls c f false)

/-- PCLST (R278). -/
def execPclst (c : Nat) (f : CForm) (s : State) : Host.Outcome State Fault Refusal :=
  s.guarded (decide (c < 321)) (s.pcls c f true)

/-- ENQUEUE_STALL_RELEASE (R116). -/
def execEnqueueStallRelease (c : Nat) (s : State) : Host.Outcome State Fault Refusal :=
  s.guarded (decide (c < 321)) (s.releaseStall c)

end Sys2Proof.Machine
end

