-- ==== Sys2Proof/Machine/AisReg.lean ====
section
/-! DEFINITION. The group REG: register moves, conversions and DMAC (R98, R101, R103). -/

namespace Sys2Proof.Machine

/-- An ARG from `lo` to `hi`. -/
def argIn (arg : BitVec 12) (lo hi : Nat) : Bool := decide (lo ≤ arg.toNat) && decide (arg.toNat ≤ hi)

/-- The format that ARG[3:0] names; code 0xF is none (R103). -/
def argFmt (arg : BitVec 12) : Option Fmt := Fmt.ofCode (arg.toNat % 16)

/-- CVT, PACK and UNPK. -/
def State.convert (s : State) (c : Nat) (arg : BitVec 12) (f : Ctx → Fmt → Ctx) : State :=
  s.register c (argFmt arg).isSome 0 1 (fun x => (argFmt arg).elim x (f x))

/-- A word of DMAC costs the cycle of its place: 2 cycles when both are local, 8 and the bank conflicts of R127 with a tile-store word. -/
def State.dmac (s : State) (c : Nat) (arg : BitVec 12) : State :=
  s.issue c 4 (isTc c && decide (arg.toNat / 16 = 0) && decide (arg.toNat / 4 % 4 ≠ 3)) 0 (fun s x =>
    if x.x.toNat % 8 ≠ 0 then .error (.exc 3 x.x.toNat)
    else if x.y.toNat % 8 ≠ 0 then .error (.exc 3 x.y.toNat)
    else match s.load c x x.x.toNat 8 with
      | .error e => .error e
      | .ok r => match r.1.load c x x.y.toNat 8 with
        | .error e => .error e
        | .ok q => .ok (q.1.finish c (x.regDmac (BitVec.ofNat 64 r.2.1) (BitVec.ofNat 64 q.2.1) (arg.getLsbD 0) (arg.getLsbD 1) (8 * 2 ^ (arg.toNat / 4 % 4)))
            (x.pc + 4) (1 + Nat.max r.2.2 q.2.2)))

/-! ## Meanings -/

/-- TAX (R98). -/
def execTax (c : Nat) (s : State) : Host.Outcome State Fault Refusal :=
  s.guarded (decide (c < 321)) (s.register c true 0 1 (fun x => { x.zn32 (x.a.truncate 32) with x := x.a.truncate 32 }))

/-- TXA (R98). -/
def execTxa (c : Nat) (s : State) : Host.Outcome State Fault Refusal :=
  s.guarded (decide (c < 321)) (s.register c true 0 1 (fun x => x.setA (x.x.signExtend 64)))

/-- TAY (R98). -/
def execTay (c : Nat) (s : State) : Host.Outcome State Fault Refusal :=
  s.guarded (decide (c < 321)) (s.register c true 0 1 (fun x => { x.zn32 (x.a.truncate 32) with y := x.a.truncate 32 }))

/-- TYA (R98). -/
def execTya (c : Nat) (s : State) : Host.Outcome State Fault Refusal :=
  s.guarded (decide (c < 321)) (s.register c true 0 1 (fun x => x.setA (x.y.signExtend 64)))

/-- TAB (R98). -/
def execTab (c : Nat) (s : State) : Host.Outcome State Fault Refusal :=
  s.guarded (decide (c < 321)) (s.register c (isTc c) 0 1 (fun x => { x.zn x.a with b := x.a }))

/-- TBA (R98). -/
def execTba (c : Nat) (s : State) : Host.Outcome State Fault Refusal :=
  s.guarded (decide (c < 321)) (s.register c (isTc c) 0 1 (fun x => x.setA x.b))

/-- SWAB (R98). -/
def execSwab (c : Nat) (s : State) : Host.Outcome State Fault Refusal :=
  s.guarded (decide (c < 321)) (s.register c (isTc c) 0 1 (fun x => { x.setA x.b with b := x.a }))

/-- TXY (R98). -/
def execTxy (c : Nat) (s : State) : Host.Outcome State Fault Refusal :=
  s.guarded (decide (c < 321)) (s.register c true 0 1 (fun x => { x with y := x.x }))

/-- TYX (R98). -/
def execTyx (c : Nat) (s : State) : Host.Outcome State Fault Refusal :=
  s.guarded (decide (c < 321)) (s.register c true 0 1 (fun x => { x with x := x.y }))

/-- TSA (R98). -/
def execTsa (c : Nat) (s : State) : Host.Outcome State Fault Refusal :=
  s.guarded (decide (c < 321)) (s.register c true 0 1 (fun x => { x with a := x.sp.zeroExtend 64 }))

/-- TAS (R98). -/
def execTas (c : Nat) (s : State) : Host.Outcome State Fault Refusal :=
  s.guarded (decide (c < 321)) (s.register c true 0 1 (fun x => { x with sp := x.a.truncate 32 }))

/-- NEG (R98). -/
def execNeg (c : Nat) (s : State) : Host.Outcome State Fault Refusal :=
  s.guarded (decide (c < 321)) (s.register c true 0 1 Ctx.regNeg)

/-- NOT (R98). -/
def execNot (c : Nat) (s : State) : Host.Outcome State Fault Refusal :=
  s.guarded (decide (c < 321)) (s.register c true 0 1 (fun x => x.setA (~~~x.a)))

/-- ABS (R98). -/
def execAbs (c : Nat) (s : State) : Host.Outcome State Fault Refusal :=
  s.guarded (decide (c < 321)) (s.register c true 0 1 Ctx.regAbs)

/-- CLRA (R98). -/
def execClra (c : Nat) (s : State) : Host.Outcome State Fault Refusal :=
  s.guarded (decide (c < 321)) (s.register c true 0 1 (fun x => x.setA 0))

/-- SEXT (R98). -/
def execSext (c : Nat) (arg : BitVec 12) (s : State) : Host.Outcome State Fault Refusal :=
  s.guarded (decide (c < 321)) (s.register c (argIn arg 1 64) 0 1 (fun x => x.regSext arg.toNat))

/-- ZEXT (R98). -/
def execZext (c : Nat) (arg : BitVec 12) (s : State) : Host.Outcome State Fault Refusal :=
  s.guarded (decide (c < 321)) (s.register c (argIn arg 1 64) 0 1 (fun x => x.regZext arg.toNat))

/-- SATS (R98). -/
def execSats (c : Nat) (arg : BitVec 12) (s : State) : Host.Outcome State Fault Refusal :=
  s.guarded (decide (c < 321)) (s.register c (argIn arg 1 64) 0 1 (fun x => x.regSats arg.toNat))

/-- SATU (R98). -/
def execSatu (c : Nat) (arg : BitVec 12) (s : State) : Host.Outcome State Fault Refusal :=
  s.guarded (decide (c < 321)) (s.register c (argIn arg 1 63) 0 1 (fun x => x.regSatu arg.toNat))

/-- ADDB (R98). -/
def execAddb (c : Nat) (s : State) : Host.Outcome State Fault Refusal :=
  s.guarded (decide (c < 321)) (s.register c (isTc c) 0 1 (fun x => x.aluAdd x.b false))

/-- CLRB (R98). -/
def execClrb (c : Nat) (s : State) : Host.Outcome State Fault Refusal :=
  s.guarded (decide (c < 321)) (s.register c (isTc c) 0 1 (fun x => { x with b := 0 }))

/-- INX (R98). -/
def execInx (c : Nat) (arg : BitVec 12) (s : State) : Host.Outcome State Fault Refusal :=
  s.guarded (decide (c < 321)) (s.register c true 0 1 (fun x => { x.zn32 (x.x + arg.signExtend 32) with x := x.x + arg.signExtend 32 }))

/-- INY (R98). -/
def execIny (c : Nat) (arg : BitVec 12) (s : State) : Host.Outcome State Fault Refusal :=
  s.guarded (decide (c < 321)) (s.register c true 0 1 (fun x => { x.zn32 (x.y + arg.signExtend 32) with y := x.y + arg.signExtend 32 }))

/-- CVT (R103). -/
def execCvt (c : Nat) (arg : BitVec 12) (s : State) : Host.Outcome State Fault Refusal :=
  s.guarded (decide (c < 321)) (s.convert c arg Ctx.regCvt)

/-- PACK (R103). -/
def execPack (c : Nat) (arg : BitVec 12) (s : State) : Host.Outcome State Fault Refusal :=
  s.guarded (decide (c < 321)) (s.convert c arg Ctx.regPack)

/-- UNPK (R103). -/
def execUnpk (c : Nat) (arg : BitVec 12) (s : State) : Host.Outcome State Fault Refusal :=
  s.guarded (decide (c < 321)) (s.convert c arg Ctx.regUnpk)

/-- DMAC (R101). -/
def execDmac (c : Nat) (arg : BitVec 12) (s : State) : Host.Outcome State Fault Refusal :=
  s.guarded (decide (c < 321)) (s.dmac c arg)

end Sys2Proof.Machine
end

