-- ==== Sys2Proof/Machine/Dispatch.lean ====
section
/-! DEFINITION. exec: one arm per command, each a direct call of its meaning. -/

namespace Sys2Proof.Machine

/-- The effect of a command on everything but the queue. -/
def exec (i : Instr) (s : State) : Host.Outcome State Fault Refusal :=
  match i with
  | .registerWrite src addr size value => Sys2Proof.Machine.execRegisterWrite src addr size value s
  | .barAccessRejected func off len write header => Sys2Proof.Machine.execBarAccessRejected func off len write header s
  | .unsupportedRequest func posted header => Sys2Proof.Machine.execUnsupportedRequest func posted header s
  | .configRequest func off write value => Sys2Proof.Machine.execConfigRequest func off write value s
  | .bellEdge => Sys2Proof.Machine.execBellEdge s
  | .bellEnable value => Sys2Proof.Machine.execBellEnable value s
  | .bellDisable value => Sys2Proof.Machine.execBellDisable value s
  | .bellCountLoad value => Sys2Proof.Machine.execBellCountLoad value s
  | .bellFrameReceived frame time => Sys2Proof.Machine.execBellFrameReceived frame time s
  | .bellInEdge time => Sys2Proof.Machine.execBellInEdge time s
  | .bellFrameMissing k => Sys2Proof.Machine.execBellFrameMissing k s
  | .bellInMissing k => Sys2Proof.Machine.execBellInMissing k s
  | .holdoverLimitReached => Sys2Proof.Machine.execHoldoverLimitReached s
  | .bellLock => Sys2Proof.Machine.execBellLock s
  | .deputyTakeover => Sys2Proof.Machine.execDeputyTakeover s
  | .lateLimitReached => Sys2Proof.Machine.execLateLimitReached s
  | .bellReportSend => Sys2Proof.Machine.execBellReportSend s
  | .bellReportReceived entry report => Sys2Proof.Machine.execBellReportReceived entry report s
  | .moduleLost xyz => Sys2Proof.Machine.execModuleLost xyz s
  | .mopChoose n => Sys2Proof.Machine.execMopChoose n s
  | .mopStreamStart n => Sys2Proof.Machine.execMopStreamStart n s
  | .accLoadStart n => Sys2Proof.Machine.execAccLoadStart n s
  | .drainStart n => Sys2Proof.Machine.execDrainStart n s
  | .mopComplete n p => Sys2Proof.Machine.execMopComplete n p s
  | .chainBreak n => Sys2Proof.Machine.execChainBreak n s
  | .meShareWrite n p value => Sys2Proof.Machine.execMeShareWrite n p value s
  | .meMapWrite d value => Sys2Proof.Machine.execMeMapWrite d value s
  | .mapLockSet d => Sys2Proof.Machine.execMapLockSet d s
  | .spareReady d => Sys2Proof.Machine.execSpareReady d s
  | .lda c m => Sys2Proof.Machine.execLda c m s
  | .sta c m => Sys2Proof.Machine.execSta c m s
  | .ldx c m => Sys2Proof.Machine.execLdx c m s
  | .stx c m => Sys2Proof.Machine.execStx c m s
  | .ldy c m => Sys2Proof.Machine.execLdy c m s
  | .sty c m => Sys2Proof.Machine.execSty c m s
  | .ldb c m => Sys2Proof.Machine.execLdb c m s
  | .stb c m => Sys2Proof.Machine.execStb c m s
  | .adrx c m => Sys2Proof.Machine.execAdrx c m s
  | .adry c m => Sys2Proof.Machine.execAdry c m s
  | .add c m => Sys2Proof.Machine.execAdd c m s
  | .adc c m => Sys2Proof.Machine.execAdc c m s
  | .sub c m => Sys2Proof.Machine.execSub c m s
  | .sbc c m => Sys2Proof.Machine.execSbc c m s
  | .and c m => Sys2Proof.Machine.execAnd c m s
  | .or c m => Sys2Proof.Machine.execOr c m s
  | .xor c m => Sys2Proof.Machine.execXor c m s
  | .cmp c m => Sys2Proof.Machine.execCmp c m s
  | .adds c m => Sys2Proof.Machine.execAdds c m s
  | .mul c m => Sys2Proof.Machine.execMul c m s
  | .mulh c m => Sys2Proof.Machine.execMulh c m s
  | .mac c m => Sys2Proof.Machine.execMac c m s
  | .max c m => Sys2Proof.Machine.execMax c m s
  | .min c m => Sys2Proof.Machine.execMin c m s
  | .tst c m => Sys2Proof.Machine.execTst c m s
  | .shl c m => Sys2Proof.Machine.execShl c m s
  | .shr c m => Sys2Proof.Machine.execShr c m s
  | .sar c m => Sys2Proof.Machine.execSar c m s
  | .rol c m => Sys2Proof.Machine.execRol c m s
  | .rshr c m => Sys2Proof.Machine.execRshr c m s
  | .clz c m => Sys2Proof.Machine.execClz c m s
  | .popc c m => Sys2Proof.Machine.execPopc c m s
  | .crc c m => Sys2Proof.Machine.execCrc c m s
  | .par c m => Sys2Proof.Machine.execPar c m s
  | .brev c m => Sys2Proof.Machine.execBrev c m s
  | .lut c m => Sys2Proof.Machine.execLut c m s
  | .tax c => Sys2Proof.Machine.execTax c s
  | .txa c => Sys2Proof.Machine.execTxa c s
  | .tay c => Sys2Proof.Machine.execTay c s
  | .tya c => Sys2Proof.Machine.execTya c s
  | .tab c => Sys2Proof.Machine.execTab c s
  | .tba c => Sys2Proof.Machine.execTba c s
  | .swab c => Sys2Proof.Machine.execSwab c s
  | .txy c => Sys2Proof.Machine.execTxy c s
  | .tyx c => Sys2Proof.Machine.execTyx c s
  | .tsa c => Sys2Proof.Machine.execTsa c s
  | .tas c => Sys2Proof.Machine.execTas c s
  | .neg c => Sys2Proof.Machine.execNeg c s
  | .not c => Sys2Proof.Machine.execNot c s
  | .abs c => Sys2Proof.Machine.execAbs c s
  | .clra c => Sys2Proof.Machine.execClra c s
  | .sext c arg => Sys2Proof.Machine.execSext c arg s
  | .zext c arg => Sys2Proof.Machine.execZext c arg s
  | .sats c arg => Sys2Proof.Machine.execSats c arg s
  | .satu c arg => Sys2Proof.Machine.execSatu c arg s
  | .addb c => Sys2Proof.Machine.execAddb c s
  | .clrb c => Sys2Proof.Machine.execClrb c s
  | .inx c arg => Sys2Proof.Machine.execInx c arg s
  | .iny c arg => Sys2Proof.Machine.execIny c arg s
  | .cvt c arg => Sys2Proof.Machine.execCvt c arg s
  | .pack c arg => Sys2Proof.Machine.execPack c arg s
  | .unpk c arg => Sys2Proof.Machine.execUnpk c arg s
  | .dmac c arg => Sys2Proof.Machine.execDmac c arg s
  | .b c cond off => Sys2Proof.Machine.execB c cond off s
  | .dbnz c idx off => Sys2Proof.Machine.execDbnz c idx off s
  | .jmp c m => Sys2Proof.Machine.execJmp c m s
  | .call c m => Sys2Proof.Machine.execCall c m s
  | .ret c => Sys2Proof.Machine.execRet c s
  | .nop c => Sys2Proof.Machine.execNop c s
  | .waitbell c => Sys2Proof.Machine.execWaitbell c s
  | .waitbellRelease c => Sys2Proof.Machine.execWaitbellRelease c s
  | .waitbellt c => Sys2Proof.Machine.execWaitbellt c s
  | .waitbelltRelease c => Sys2Proof.Machine.execWaitbelltRelease c s
  | .heavy c arg => Sys2Proof.Machine.execHeavy c arg s
  | .step c => Sys2Proof.Machine.execStep c s
  | .wait c arg => Sys2Proof.Machine.execWait c arg s
  | .waitRelease c => Sys2Proof.Machine.execWaitRelease c s
  | .waitTimeout c => Sys2Proof.Machine.execWaitTimeout c s
  | .rdcnt c arg => Sys2Proof.Machine.execRdcnt c arg s
  | .fence c arg => Sys2Proof.Machine.execFence c arg s
  | .trap c arg => Sys2Proof.Machine.execTrap c arg s
  | .push c arg => Sys2Proof.Machine.execPush c arg s
  | .pop c arg => Sys2Proof.Machine.execPop c arg s
  | .mfsr c arg => Sys2Proof.Machine.execMfsr c arg s
  | .mtsr c arg => Sys2Proof.Machine.execMtsr c arg s
  | .eret c => Sys2Proof.Machine.execEret c s
  | .halt c => Sys2Proof.Machine.execHalt c s
  | .ei c => Sys2Proof.Machine.execEi c s
  | .di c => Sys2Proof.Machine.execDi c s
  | .wdog c => Sys2Proof.Machine.execWdog c s
  | .mopq c f => Sys2Proof.Machine.execMopq c f s
  | .mopqt c f => Sys2Proof.Machine.execMopqt c f s
  | .mestat c => Sys2Proof.Machine.execMestat c s
  | .cpdq c f => Sys2Proof.Machine.execCpdq c f s
  | .cpdqt c f => Sys2Proof.Machine.execCpdqt c f s
  | .ciq c f => Sys2Proof.Machine.execCiq c f s
  | .ciqt c f => Sys2Proof.Machine.execCiqt c f s
  | .pcsum c f => Sys2Proof.Machine.execPcsum c f s
  | .phash c f => Sys2Proof.Machine.execPhash c f s
  | .pcls c f => Sys2Proof.Machine.execPcls c f s
  | .pclst c f => Sys2Proof.Machine.execPclst c f s
  | .enqueueStallRelease c => Sys2Proof.Machine.execEnqueueStallRelease c s
  | .interruptTaken c cause => Sys2Proof.Machine.execInterruptTaken c cause s
  | .contextStart c => Sys2Proof.Machine.execContextStart c s
  | .contextStop c => Sys2Proof.Machine.execContextStop c s
  | .tcCtxBindWrite c toPc value => Sys2Proof.Machine.execTcCtxBindWrite c toPc value s
  | .cpdStart u => Sys2Proof.Machine.execCpdStart u s
  | .ilkWriteRelease => Sys2Proof.Machine.execIlkWriteRelease s
  | .cpdComplete u p => Sys2Proof.Machine.execCpdComplete u p s
  | .patrolScrub r => Sys2Proof.Machine.execPatrolScrub r s
  | .commonsScrub r => Sys2Proof.Machine.execCommonsScrub r s
  | .positionRetire pd => Sys2Proof.Machine.execPositionRetire pd s
  | .plannedPromotionStart value => Sys2Proof.Machine.execPlannedPromotionStart value s
  | .promotionAbort => Sys2Proof.Machine.execPromotionAbort s
  | .promotionSwitch => Sys2Proof.Machine.execPromotionSwitch s
  | .suddenPromotion pd => Sys2Proof.Machine.execSuddenPromotion pd s
  | .dportDataRead ix => Sys2Proof.Machine.execDportDataRead ix s
  | .dportDataWrite ix value => Sys2Proof.Machine.execDportDataWrite ix value s
  | .dportApertureRead ix len => Sys2Proof.Machine.execDportApertureRead ix len s
  | .dportApertureWrite ix bytes => Sys2Proof.Machine.execDportApertureWrite ix bytes s
  | .dportFlush ix => Sys2Proof.Machine.execDportFlush ix s
  | .create p tgt => Sys2Proof.Machine.execCreate p tgt s
  | .grant p tgt => Sys2Proof.Machine.execGrant p tgt s
  | .bindVf p tgt => Sys2Proof.Machine.execBindVf p tgt s
  | .bindCtx p tgt => Sys2Proof.Machine.execBindCtx p tgt s
  | .unbindCtx p tgt => Sys2Proof.Machine.execUnbindCtx p tgt s
  | .start p tgt => Sys2Proof.Machine.execStart p tgt s
  | .freeze p tgt => Sys2Proof.Machine.execFreeze p tgt s
  | .thaw p tgt => Sys2Proof.Machine.execThaw p tgt s
  | .stop p tgt => Sys2Proof.Machine.execStop p tgt s
  | .resetWork p tgt => Sys2Proof.Machine.execResetWork p tgt s
  | .destroy p tgt => Sys2Proof.Machine.execDestroy p tgt s
  | .logStart p tgt => Sys2Proof.Machine.execLogStart p tgt s
  | .logSwap p tgt => Sys2Proof.Machine.execLogSwap p tgt s
  | .logStop p tgt => Sys2Proof.Machine.execLogStop p tgt s
  | .save p tgt => Sys2Proof.Machine.execSave p tgt s
  | .restore p tgt blob major minor => Sys2Proof.Machine.execRestore p tgt blob major minor s
  | .partCmdEdge => Sys2Proof.Machine.execPartCmdEdge s
  | .freezeSlow p => Sys2Proof.Machine.execFreezeSlow p s
  | .doorbell p cls q value => Sys2Proof.Machine.execDoorbell p cls q value s
  | .queueRecordWrite p cls q word value => Sys2Proof.Machine.execQueueRecordWrite p cls q word value s
  | .sliceWrite p sl value => Sys2Proof.Machine.execSliceWrite p sl value s
  | .bitmapWrite p => Sys2Proof.Machine.execBitmapWrite p s
  | .linkRetrain width speed flit => Sys2Proof.Machine.execLinkRetrain width speed flit s
  | .d3hotEntry => Sys2Proof.Machine.execD3hotEntry s
  | .completionReceived func tag status poisoned data header => Sys2Proof.Machine.execCompletionReceived func tag status poisoned data header s
  | .poisonedWrite func header => Sys2Proof.Machine.execPoisonedWrite func header s
  | .completionTimeout tag => Sys2Proof.Machine.execCompletionTimeout tag s
  | .quarantineEnd tag => Sys2Proof.Machine.execQuarantineEnd tag s
  | .busMasterEnableChange func on => Sys2Proof.Machine.execBusMasterEnableChange func on s
  | .vfFlr vf => Sys2Proof.Machine.execVfFlr vf s
  | .pfReset flr => Sys2Proof.Machine.execPfReset flr s
  | .linkDown => Sys2Proof.Machine.execLinkDown s
  | .perstAssert low => Sys2Proof.Machine.execPerstAssert low s
  | .perstDeassert => Sys2Proof.Machine.execPerstDeassert s
  | .attach => Sys2Proof.Machine.execAttach s
  | .detach => Sys2Proof.Machine.execDetach s
  | .heartbeat => Sys2Proof.Machine.execHeartbeat s
  | .heartbeatPeriodEnd => Sys2Proof.Machine.execHeartbeatPeriodEnd s
  | .quiesce => Sys2Proof.Machine.execQuiesce s
  | .pciResume parts => Sys2Proof.Machine.execPciResume parts s
  | .frameReceived port bytes fcsOk occupied full => Sys2Proof.Machine.execFrameReceived port bytes fcsOk occupied full s
  | .fragmentHoldExpiry => Sys2Proof.Machine.execFragmentHoldExpiry s
  | .fragmentEntryExpiry ix => Sys2Proof.Machine.execFragmentEntryExpiry ix s
  | .pfcFrameReceived port pauses quanta => Sys2Proof.Machine.execPfcFrameReceived port pauses quanta s
  | .pfcStorm port prio => Sys2Proof.Machine.execPfcStorm port prio s
  | .pfcStormEnd port prio => Sys2Proof.Machine.execPfcStormEnd port prio s
  | .laneFail r => Sys2Proof.Machine.execLaneFail r s
  | .portReformed port r => Sys2Proof.Machine.execPortReformed port r s
  | .fabRetrainRestore port => Sys2Proof.Machine.execFabRetrainRestore port s
  | .retrainComplete port ok => Sys2Proof.Machine.execRetrainComplete port ok s
  | .fabCfgWrite value => Sys2Proof.Machine.execFabCfgWrite value s
  | .rktPacketReceived k => Sys2Proof.Machine.execRktPacketReceived k s
  | .rktPacketSend c => Sys2Proof.Machine.execRktPacketSend c s
  | .ackReceived k => Sys2Proof.Machine.execAckReceived k s
  | .ackDelayExpiry c => Sys2Proof.Machine.execAckDelayExpiry c s
  | .rtoExpiry c psn => Sys2Proof.Machine.execRtoExpiry c psn s
  | .nakHoldEnd c => Sys2Proof.Machine.execNakHoldEnd c s
  | .resyncReceived k => Sys2Proof.Machine.execResyncReceived k s
  | .allPathsDown c => Sys2Proof.Machine.execAllPathsDown c s
  | .pathProbe ix => Sys2Proof.Machine.execPathProbe ix s
  | .probeReceived ix k => Sys2Proof.Machine.execProbeReceived ix k s
  | .probeRespReceived ix k => Sys2Proof.Machine.execProbeRespReceived ix k s
  | .connEnable c value => Sys2Proof.Machine.execConnEnable c value s
  | .connDisable w => Sys2Proof.Machine.execConnDisable w s
  | .wqeFetch p q words => Sys2Proof.Machine.execWqeFetch p q words s
  | .write p q idx => Sys2Proof.Machine.execWrite p q idx s
  | .send p q idx => Sys2Proof.Machine.execSend p q idx s
  | .read p q idx => Sys2Proof.Machine.execRead p q idx s
  | .atomic p q idx => Sys2Proof.Machine.execAtomic p q idx s
  | .reg p q idx => Sys2Proof.Machine.execReg p q idx s
  | .inval p q idx => Sys2Proof.Machine.execInval p q idx s
  | .wqeNop p q idx => Sys2Proof.Machine.execWqeNop p q idx s
  | .copy p q idx => Sys2Proof.Machine.execCopy p q idx s
  | .recv p q words => Sys2Proof.Machine.execRecv p q words s
  | .rawSend p q idx => Sys2Proof.Machine.execRawSend p q idx s
  | .armedFire p q => Sys2Proof.Machine.execArmedFire p q s
  | .qwaitFire p q => Sys2Proof.Machine.execQwaitFire p q s
  | .invalWaitExpiry p idx => Sys2Proof.Machine.execInvalWaitExpiry p idx s
  | .ruleWrite r word value => Sys2Proof.Machine.execRuleWrite r word value s
  | .hashCommit p value => Sys2Proof.Machine.execHashCommit p value s
  | .rawConfigWrite p value => Sys2Proof.Machine.execRawConfigWrite p value s
  | .shaperRefill => Sys2Proof.Machine.execShaperRefill s
  | .txFrameSelect port => Sys2Proof.Machine.execTxFrameSelect port s
  | .almanacArm port => Sys2Proof.Machine.execAlmanacArm port s
  | .almanacCancel port => Sys2Proof.Machine.execAlmanacCancel port s
  | .almanacTakeover port => Sys2Proof.Machine.execAlmanacTakeover port s
  | .almanacEntryAdvance port => Sys2Proof.Machine.execAlmanacEntryAdvance port s
  | .volumeWrite v word value => Sys2Proof.Machine.execVolumeWrite v word value s
  | .bscFetch words list => Sys2Proof.Machine.execBscFetch words list s
  | .blkRead id data => Sys2Proof.Machine.execBlkRead id data s
  | .blkWrite id => Sys2Proof.Machine.execBlkWrite id s
  | .flush id => Sys2Proof.Machine.execFlush id s
  | .trim id => Sys2Proof.Machine.execTrim id s
  | .getLog id data => Sys2Proof.Machine.execGetLog id data s
  | .selfTest id => Sys2Proof.Machine.execSelfTest id s
  | .bscDispatch m => Sys2Proof.Machine.execBscDispatch m s
  | .backingComplete id nvme => Sys2Proof.Machine.execBackingComplete id nvme s
  | .agePromotion p q idx => Sys2Proof.Machine.execAgePromotion p q idx s
  | .ssdTimeout m => Sys2Proof.Machine.execSsdTimeout m s
  | .ssdControllerFatal m => Sys2Proof.Machine.execSsdControllerFatal m s
  | .mediaLinkDown m => Sys2Proof.Machine.execMediaLinkDown m s
  | .mediaReset m => Sys2Proof.Machine.execMediaReset m s
  | .mediaResetDone m spaces width speed => Sys2Proof.Machine.execMediaResetDone m spaces width speed s
  | .selfTestResult m result => Sys2Proof.Machine.execSelfTestResult m result s
  | .selfTestTimeout m => Sys2Proof.Machine.execSelfTestTimeout m s
  | .cipherFetch p q words => Sys2Proof.Machine.execCipherFetch p q words s
  | .cipherStart => Sys2Proof.Machine.execCipherStart s
  | .gcmEnc id => Sys2Proof.Machine.execGcmEnc id s
  | .gcmDec id => Sys2Proof.Machine.execGcmDec id s
  | .xtsEnc id => Sys2Proof.Machine.execXtsEnc id s
  | .xtsDec id => Sys2Proof.Machine.execXtsDec id s
  | .hash id => Sys2Proof.Machine.execHash id s
  | .load id => Sys2Proof.Machine.execLoad id s
  | .genkey id => Sys2Proof.Machine.execGenkey id s
  | .erase id => Sys2Proof.Machine.execErase id s
  | .wrap id => Sys2Proof.Machine.execWrap id s
  | .unwrap id => Sys2Proof.Machine.execUnwrap id s
  | .cipherComplete id => Sys2Proof.Machine.execCipherComplete id s
  | .epochWrite value => Sys2Proof.Machine.execEpochWrite value s
  | .exportKeyWrite p value => Sys2Proof.Machine.execExportKeyWrite p value s
  | .nonceIdWrite value => Sys2Proof.Machine.execNonceIdWrite value s
  | .cipherAlarm source => Sys2Proof.Machine.execCipherAlarm source s
  | .alarmClear => Sys2Proof.Machine.execAlarmClear s
  | .faultDetected code part engine unit addr => Sys2Proof.Machine.execFaultDetected code part engine unit addr s
  | .replayStart n => Sys2Proof.Machine.execReplayStart n s
  | .iocRestart ix frames => Sys2Proof.Machine.execIocRestart ix frames s
  | .switchArm value => Sys2Proof.Machine.execSwitchArm value s
  | .plannedSwitch => Sys2Proof.Machine.execPlannedSwitch s
  | .ckpTrigger k hold => Sys2Proof.Machine.execCkpTrigger k hold s
  | .ckpTriggerCmd k => Sys2Proof.Machine.execCkpTriggerCmd k s
  | .ckpAbort k => Sys2Proof.Machine.execCkpAbort k s
  | .ckpRestore k entries images => Sys2Proof.Machine.execCkpRestore k entries images s
  | .granaryDrain g slot done => Sys2Proof.Machine.execGranaryDrain g slot done s
  | .clockGate unit => Sys2Proof.Machine.execClockGate unit s
  | .sleepRequest => Sys2Proof.Machine.execSleepRequest s
  | .deepSleepRequest sideband => Sys2Proof.Machine.execDeepSleepRequest sideband s
  | .offRequest => Sys2Proof.Machine.execOffRequest s
  | .powerEntryComplete => Sys2Proof.Machine.execPowerEntryComplete s
  | .wake source lane low => Sys2Proof.Machine.execWake source lane low s
  | .vesperDetect port seq1 seq2 => Sys2Proof.Machine.execVesperDetect port seq1 seq2 s
  | .returnStepReady => Sys2Proof.Machine.execReturnStepReady s
  | .voltageReached => Sys2Proof.Machine.execVoltageReached s
  | .paceModeWrite value => Sys2Proof.Machine.execPaceModeWrite value s
  | .powerSample mv current => Sys2Proof.Machine.execPowerSample mv current s
  | .pwrAlertAssert low => Sys2Proof.Machine.execPwrAlertAssert low s
  | .alertHoldEnd source => Sys2Proof.Machine.execAlertHoldEnd source s
  | .regulatorOvercurrent => Sys2Proof.Machine.execRegulatorOvercurrent s
  | .inputUndervoltage => Sys2Proof.Machine.execInputUndervoltage s
  | .sensorSample ix value => Sys2Proof.Machine.execSensorSample ix value s
  | .thermalStep => Sys2Proof.Machine.execThermalStep s
  | .thermalShutdown ix => Sys2Proof.Machine.execThermalShutdown ix s
  | .undervoltageLockout => Sys2Proof.Machine.execUndervoltageLockout s
  | .hotswapTrip => Sys2Proof.Machine.execHotswapTrip s
  | .prebiasStart bell => Sys2Proof.Machine.execPrebiasStart bell s
  | .prebiasEnd => Sys2Proof.Machine.execPrebiasEnd s
  | .droopDetect d => Sys2Proof.Machine.execDroopDetect d s
  | .droopEnd d lost => Sys2Proof.Machine.execDroopEnd d lost s
  | .auxOutShort => Sys2Proof.Machine.execAuxOutShort s
  | .coldStart found => Sys2Proof.Machine.execColdStart found s
  | .warmStart found => Sys2Proof.Machine.execWarmStart found s
  | .startRetry found => Sys2Proof.Machine.execStartRetry found s
  | .resetWarm key found => Sys2Proof.Machine.execResetWarm key found s
  | .resetCold key found => Sys2Proof.Machine.execResetCold key found s
  | .watchdogExpiry => Sys2Proof.Machine.execWatchdogExpiry s
  | .reeveRestart => Sys2Proof.Machine.execReeveRestart s
  | .logPersist => Sys2Proof.Machine.execLogPersist s
  | .telemetrySample => Sys2Proof.Machine.execTelemetrySample s
  | .entdaa dyn => Sys2Proof.Machine.execEntdaa dyn s
  | .setdasa static dyn => Sys2Proof.Machine.execSetdasa static dyn s
  | .setEndpointId eid => Sys2Proof.Machine.execSetEndpointId eid s
  | .getEndpointId => Sys2Proof.Machine.execGetEndpointId s
  | .getMctpVersionSupport => Sys2Proof.Machine.execGetMctpVersionSupport s
  | .getMessageTypeSupport => Sys2Proof.Machine.execGetMessageTypeSupport s
  | .getVendorDefinedMsgSupport => Sys2Proof.Machine.execGetVendorDefinedMsgSupport s
  | .getStatus inst => Sys2Proof.Machine.execGetStatus inst s
  | .getSensors inst first count => Sys2Proof.Machine.execGetSensors inst first count s
  | .getEventLogEntry inst entry => Sys2Proof.Machine.execGetEventLogEntry inst entry s
  | .getEvents inst => Sys2Proof.Machine.execGetEvents inst s
  | .getIdentity inst chunk => Sys2Proof.Machine.execGetIdentity inst chunk s
  | .attest inst nonce chunk => Sys2Proof.Machine.execAttest inst nonce chunk s
  | .powerOff inst => Sys2Proof.Machine.execPowerOff inst s
  | .powerWarmStart inst found => Sys2Proof.Machine.execPowerWarmStart inst found s
  | .powerColdStart inst found => Sys2Proof.Machine.execPowerColdStart inst found s
  | .sidebandDport inst addr len write data => Sys2Proof.Machine.execSidebandDport inst addr len write data s
  | .cfgWrite inst slot => Sys2Proof.Machine.execCfgWrite inst slot s
  | .cfgWriteA => Sys2Proof.Machine.execCfgWriteA s
  | .cfgWriteB => Sys2Proof.Machine.execCfgWriteB s
  | .fwLoad => Sys2Proof.Machine.execFwLoad s
  | .fwActivate => Sys2Proof.Machine.execFwActivate s
  | .fwCancel => Sys2Proof.Machine.execFwCancel s
  | .raiseSvn => Sys2Proof.Machine.execRaiseSvn s
  | .fwSwitchover ready => Sys2Proof.Machine.execFwSwitchover ready s
  | .openRangeWrite n value => Sys2Proof.Machine.execOpenRangeWrite n value s
  | .attestGo => Sys2Proof.Machine.execAttestGo s
  | .challenge => Sys2Proof.Machine.execChallenge s
  | .unlock => Sys2Proof.Machine.execUnlock s
  | .allOff => Sys2Proof.Machine.execAllOff s
  | .loopEnable ix value => Sys2Proof.Machine.execLoopEnable ix value s
  | .loopDisable ix => Sys2Proof.Machine.execLoopDisable ix s
  | .loopLimitExpiry ix => Sys2Proof.Machine.execLoopLimitExpiry ix s
  | .lateArm value => Sys2Proof.Machine.execLateArm value s
  | .injectArm value => Sys2Proof.Machine.execInjectArm value s
  | .injectCancel => Sys2Proof.Machine.execInjectCancel s
  | .injectFire part engine unit => Sys2Proof.Machine.execInjectFire part engine unit s
  | .bistStart value => Sys2Proof.Machine.execBistStart value s
  | .bistComplete pass => Sys2Proof.Machine.execBistComplete pass s
  | .hostLinkUp width speed flit => Sys2Proof.Machine.execHostLinkUp width speed flit s
  | .fabPortLinkUp port => Sys2Proof.Machine.execFabPortLinkUp port s
  | .pfcPauseEnd port prio => Sys2Proof.Machine.execPfcPauseEnd port prio s
  | .auxPowerLoss => Sys2Proof.Machine.execAuxPowerLoss s

end Sys2Proof.Machine
end

