-- ==== Sys2Proof/Machine/Tick.lean ====
section
/-! DEFINITION. What the module does while no command waits: time passes (notes/assumptions/1.md). -/

namespace Sys2Proof.Machine

/-- One unit of 0.25 ns passes: the clock moves on, with it what ends by time alone on the engines (R72, R74), the drain of
the fabric ports' ingress buffers (R204), retrains whose port carries nothing any more (R209), and the test time of an SSD under test (R306). -/
def State.tick (s : State) : State := ({ s with now := s.now + 1 } : State).settleEngines.settleTests.drainIngress.tryRetrains

end Sys2Proof.Machine
end

