-- ==== Sys2Proof/WellFormed.lean ====
section
/-! DEFINITION. Which operands make a command of the table: every number that names a unit of the module names one the
module has. exec leaves the state unchanged for the others. -/

namespace Sys2Proof

/-- The operands name units that the module has. -/
def Instr.wf (i : Instr) : Bool :=
  match i with
  | .registerWrite _ _ _ _ => true
  | .barAccessRejected func _ _ _ _ => decide (func < 65)
  | .unsupportedRequest func _ _ => decide (func < 65)
  | .configRequest func off _ _ => decide (func < 65) && decide (off < 4096)
  | .bellEdge => true
  | .bellEnable _ => true
  | .bellDisable _ => true
  | .bellCountLoad _ => true
  | .bellFrameReceived _ _ => true
  | .bellInEdge _ => true
  | .bellFrameMissing _ => true
  | .bellInMissing _ => true
  | .holdoverLimitReached => true
  | .bellLock => true
  | .deputyTakeover => true
  | .lateLimitReached => true
  | .bellReportSend => true
  | .bellReportReceived entry _ => decide (1 < entry) && decide (entry < 18)
  | .moduleLost _ => true
  | .mopChoose n => decide (n < 16)
  | .mopStreamStart n => decide (n < 16)
  | .accLoadStart n => decide (n < 16)
  | .drainStart n => decide (n < 16)
  | .mopComplete n p => decide (n < 16) && decide (p < 64)
  | .chainBreak n => decide (n < 16)
  | .meShareWrite n p _ => decide (n < 16) && decide (p < 64)
  | .meMapWrite d _ => decide (d < 2)
  | .mapLockSet d => decide (d < 2)
  | .spareReady d => decide (d < 2)
  | .lda c _ => decide (c < 321)
  | .sta c _ => decide (c < 321)
  | .ldx c _ => decide (c < 321)
  | .stx c _ => decide (c < 321)
  | .ldy c _ => decide (c < 321)
  | .sty c _ => decide (c < 321)
  | .ldb c _ => decide (c < 321)
  | .stb c _ => decide (c < 321)
  | .adrx c _ => decide (c < 321)
  | .adry c _ => decide (c < 321)
  | .add c _ => decide (c < 321)
  | .adc c _ => decide (c < 321)
  | .sub c _ => decide (c < 321)
  | .sbc c _ => decide (c < 321)
  | .and c _ => decide (c < 321)
  | .or c _ => decide (c < 321)
  | .xor c _ => decide (c < 321)
  | .cmp c _ => decide (c < 321)
  | .adds c _ => decide (c < 321)
  | .mul c _ => decide (c < 321)
  | .mulh c _ => decide (c < 321)
  | .mac c _ => decide (c < 321)
  | .max c _ => decide (c < 321)
  | .min c _ => decide (c < 321)
  | .tst c _ => decide (c < 321)
  | .shl c _ => decide (c < 321)
  | .shr c _ => decide (c < 321)
  | .sar c _ => decide (c < 321)
  | .rol c _ => decide (c < 321)
  | .rshr c _ => decide (c < 321)
  | .clz c _ => decide (c < 321)
  | .popc c _ => decide (c < 321)
  | .crc c _ => decide (c < 321)
  | .par c _ => decide (c < 321)
  | .brev c _ => decide (c < 321)
  | .lut c _ => decide (c < 321)
  | .tax c => decide (c < 321)
  | .txa c => decide (c < 321)
  | .tay c => decide (c < 321)
  | .tya c => decide (c < 321)
  | .tab c => decide (c < 321)
  | .tba c => decide (c < 321)
  | .swab c => decide (c < 321)
  | .txy c => decide (c < 321)
  | .tyx c => decide (c < 321)
  | .tsa c => decide (c < 321)
  | .tas c => decide (c < 321)
  | .neg c => decide (c < 321)
  | .not c => decide (c < 321)
  | .abs c => decide (c < 321)
  | .clra c => decide (c < 321)
  | .sext c _ => decide (c < 321)
  | .zext c _ => decide (c < 321)
  | .sats c _ => decide (c < 321)
  | .satu c _ => decide (c < 321)
  | .addb c => decide (c < 321)
  | .clrb c => decide (c < 321)
  | .inx c _ => decide (c < 321)
  | .iny c _ => decide (c < 321)
  | .cvt c _ => decide (c < 321)
  | .pack c _ => decide (c < 321)
  | .unpk c _ => decide (c < 321)
  | .dmac c _ => decide (c < 321)
  | .b c _ _ => decide (c < 321)
  | .dbnz c _ _ => decide (c < 321)
  | .jmp c _ => decide (c < 321)
  | .call c _ => decide (c < 321)
  | .ret c => decide (c < 321)
  | .nop c => decide (c < 321)
  | .waitbell c => decide (c < 321)
  | .waitbellRelease c => decide (c < 321)
  | .waitbellt c => decide (c < 321)
  | .waitbelltRelease c => decide (c < 321)
  | .heavy c _ => decide (c < 321)
  | .step c => decide (c < 321)
  | .wait c _ => decide (c < 321)
  | .waitRelease c => decide (c < 321)
  | .waitTimeout c => decide (c < 321)
  | .rdcnt c _ => decide (c < 321)
  | .fence c _ => decide (c < 321)
  | .trap c _ => decide (c < 321)
  | .push c _ => decide (c < 321)
  | .pop c _ => decide (c < 321)
  | .mfsr c _ => decide (c < 321)
  | .mtsr c _ => decide (c < 321)
  | .eret c => decide (c < 321)
  | .halt c => decide (c < 321)
  | .ei c => decide (c < 321)
  | .di c => decide (c < 321)
  | .wdog c => decide (c < 321)
  | .mopq c _ => decide (c < 321)
  | .mopqt c _ => decide (c < 321)
  | .mestat c => decide (c < 321)
  | .cpdq c _ => decide (c < 321)
  | .cpdqt c _ => decide (c < 321)
  | .ciq c _ => decide (c < 321)
  | .ciqt c _ => decide (c < 321)
  | .pcsum c _ => decide (c < 321)
  | .phash c _ => decide (c < 321)
  | .pcls c _ => decide (c < 321)
  | .pclst c _ => decide (c < 321)
  | .enqueueStallRelease c => decide (c < 321)
  | .interruptTaken c _ => decide (c < 321)
  | .contextStart c => decide (c < 288)
  | .contextStop c => decide (c < 288)
  | .tcCtxBindWrite c _ _ => decide (c < 288)
  | .cpdStart u => decide (u < 22)
  | .ilkWriteRelease => true
  | .cpdComplete u p => decide (u < 22) && decide (p < 64)
  | .patrolScrub _ => true
  | .commonsScrub _ => true
  | .positionRetire pd => decide (pd < 24)
  | .plannedPromotionStart _ => true
  | .promotionAbort => true
  | .promotionSwitch => true
  | .suddenPromotion pd => decide (pd < 24)
  | .dportDataRead i => decide (i < 2)
  | .dportDataWrite i _ => decide (i < 2)
  | .dportApertureRead i _ => decide (i < 2)
  | .dportApertureWrite i _ => decide (i < 2)
  | .dportFlush i => decide (i < 2)
  | .create p _ => decide (p < 64)
  | .grant p _ => decide (p < 64)
  | .bindVf p _ => decide (p < 64)
  | .bindCtx p _ => decide (p < 64)
  | .unbindCtx p _ => decide (p < 64)
  | .start p _ => decide (p < 64)
  | .freeze p _ => decide (p < 64)
  | .thaw p _ => decide (p < 64)
  | .stop p _ => decide (p < 64)
  | .resetWork p _ => decide (p < 64)
  | .destroy p _ => decide (p < 64)
  | .logStart p _ => decide (p < 64)
  | .logSwap p _ => decide (p < 64)
  | .logStop p _ => decide (p < 64)
  | .save p _ => decide (p < 64)
  | .restore p _ _ _ _ => decide (p < 64)
  | .partCmdEdge => true
  | .freezeSlow p => decide (p < 64)
  | .doorbell p cls q _ => decide (p < 64) && decide (cls < 4) && decide (q < 4096)
  | .queueRecordWrite p cls q word _ => decide (p < 64) && decide (cls < 4) && decide (q < 4096) && decide (word < 8)
  | .sliceWrite p sl _ => decide (p < 64) && decide (sl < 1024)
  | .bitmapWrite p => decide (p < 64)
  | .linkRetrain _ _ _ => true
  | .d3hotEntry => true
  | .completionReceived func tag _ _ _ _ => decide (func < 65) && decide (tag < 16384)
  | .poisonedWrite func _ => decide (func < 65)
  | .completionTimeout tag => decide (tag < 16384)
  | .quarantineEnd tag => decide (tag < 16384)
  | .busMasterEnableChange func _ => decide (func < 65)
  | .vfFlr vf => decide (0 < vf) && decide (vf < 65)
  | .pfReset _ => true
  | .linkDown => true
  | .perstAssert _ => true
  | .perstDeassert => true
  | .attach => true
  | .detach => true
  | .heartbeat => true
  | .heartbeatPeriodEnd => true
  | .quiesce => true
  | .pciResume _ => true
  | .frameReceived port _ _ _ _ => decide (port < 32)
  | .fragmentHoldExpiry => true
  | .fragmentEntryExpiry _ => true
  | .pfcFrameReceived port _ _ => decide (port < 32)
  | .pfcStorm port prio => decide (port < 32) && decide (prio < 8)
  | .pfcStormEnd port prio => decide (port < 32) && decide (prio < 8)
  | .laneFail r => decide (r.lane < 32)
  | .portReformed port _ => decide (port < 32)
  | .fabRetrainRestore port => decide (port < 32)
  | .retrainComplete port _ => decide (port < 32)
  | .fabCfgWrite _ => true
  | .rktPacketReceived _ => true
  | .rktPacketSend c => decide (c < 16384)
  | .ackReceived _ => true
  | .ackDelayExpiry c => decide (c < 16384)
  | .rtoExpiry c _ => decide (c < 16384)
  | .nakHoldEnd c => decide (c < 16384)
  | .resyncReceived _ => true
  | .allPathsDown c => decide (c < 16384)
  | .pathProbe i => decide (i < 4096)
  | .probeReceived i _ => decide (i < 4096)
  | .probeRespReceived i _ => decide (i < 4096)
  | .connEnable c _ => decide (c < 16384)
  | .connDisable w => decide (w.conn < 16384)
  | .wqeFetch p q _ => decide (p < 64) && decide (q < 4096)
  | .write p q _ => decide (p < 64) && decide (q < 4096)
  | .send p q _ => decide (p < 64) && decide (q < 4096)
  | .read p q _ => decide (p < 64) && decide (q < 4096)
  | .atomic p q _ => decide (p < 64) && decide (q < 4096)
  | .reg p q _ => decide (p < 64) && decide (q < 4096)
  | .inval p q _ => decide (p < 64) && decide (q < 4096)
  | .wqeNop p q _ => decide (p < 64) && decide (q < 4096)
  | .copy p q _ => decide (p < 64) && decide (q < 4096)
  | .recv p q _ => decide (p < 64) && decide (q < 4096)
  | .rawSend p q _ => decide (p < 64) && decide (q < 4096)
  | .armedFire p q => decide (p < 64) && decide (q.num < 4096)
  | .qwaitFire p q => decide (p < 64) && decide (q.num < 4096)
  | .invalWaitExpiry p idx => decide (p < 64) && decide (idx < 262144)
  | .ruleWrite r word _ => decide (r < 4096) && decide (word < 16)
  | .hashCommit p _ => decide (p < 64)
  | .rawConfigWrite p _ => decide (p < 64)
  | .shaperRefill => true
  | .txFrameSelect port => decide (port < 32)
  | .almanacArm port => decide (port < 32)
  | .almanacCancel port => decide (port < 32)
  | .almanacTakeover port => decide (port < 32)
  | .almanacEntryAdvance port => decide (port < 32)
  | .volumeWrite v word _ => decide (v < 1024) && decide (word < 8)
  | .bscFetch _ _ => true
  | .blkRead _ _ => true
  | .blkWrite _ => true
  | .flush _ => true
  | .trim _ => true
  | .getLog _ _ => true
  | .selfTest _ => true
  | .bscDispatch m => decide (m < 3)
  | .backingComplete _ _ => true
  | .agePromotion p q _ => decide (p < 64) && decide (q < 2048)
  | .ssdTimeout m => decide (m < 2)
  | .ssdControllerFatal m => decide (m < 2)
  | .mediaLinkDown m => decide (m < 2)
  | .mediaReset m => decide (m < 2)
  | .mediaResetDone m _ _ _ => decide (m < 2)
  | .selfTestResult m _ => decide (m < 2)
  | .selfTestTimeout m => decide (m < 2)
  | .cipherFetch p q _ => decide (p < 64) && decide (q < 2048)
  | .cipherStart => true
  | .gcmEnc _ => true
  | .gcmDec _ => true
  | .xtsEnc _ => true
  | .xtsDec _ => true
  | .hash _ => true
  | .load _ => true
  | .genkey _ => true
  | .erase _ => true
  | .wrap _ => true
  | .unwrap _ => true
  | .cipherComplete _ => true
  | .epochWrite _ => true
  | .exportKeyWrite p _ => decide (0 < p) && decide (p < 64)
  | .nonceIdWrite _ => true
  | .cipherAlarm source => decide (source < 4)
  | .alarmClear => true
  | .faultDetected _ part engine unit _ => decide (part < 64) && decide (engine < 17) && decide (unit < 32)
  | .replayStart n => decide (n < 16)
  | .iocRestart i _ => decide (i < 32)
  | .switchArm _ => true
  | .plannedSwitch => true
  | .ckpTrigger k _ => decide (k < 4)
  | .ckpTriggerCmd k => decide (k < 4)
  | .ckpAbort k => decide (k < 4)
  | .ckpRestore k _ _ => decide (k < 4)
  | .granaryDrain g slot _ => decide (g < 4) && decide (slot < 2)
  | .clockGate unit => decide (unit < 144)
  | .sleepRequest => true
  | .deepSleepRequest _ => true
  | .offRequest => true
  | .powerEntryComplete => true
  | .wake source lane _ => decide (source < 5) && decide (lane < 32)
  | .vesperDetect port _ _ => decide (port < 32)
  | .returnStepReady => true
  | .voltageReached => true
  | .paceModeWrite _ => true
  | .powerSample mv current => decide (mv < 65536) && decide (current < 65536)
  | .pwrAlertAssert _ => true
  | .alertHoldEnd source => decide (source < 4)
  | .regulatorOvercurrent => true
  | .inputUndervoltage => true
  | .sensorSample i _ => decide (i < 66)
  | .thermalStep => true
  | .thermalShutdown i => decide (i < 64)
  | .undervoltageLockout => true
  | .hotswapTrip => true
  | .prebiasStart _ => true
  | .prebiasEnd => true
  | .droopDetect d => decide (d < 3)
  | .droopEnd d _ => decide (d < 3)
  | .auxOutShort => true
  | .coldStart _ => true
  | .warmStart _ => true
  | .startRetry _ => true
  | .resetWarm _ _ => true
  | .resetCold _ _ => true
  | .watchdogExpiry => true
  | .reeveRestart => true
  | .logPersist => true
  | .telemetrySample => true
  | .entdaa dyn => decide (dyn < 128)
  | .setdasa static dyn => decide (dyn < 128) && decide (static < 128)
  | .setEndpointId eid => decide (eid < 256)
  | .getEndpointId => true
  | .getMctpVersionSupport => true
  | .getMessageTypeSupport => true
  | .getVendorDefinedMsgSupport => true
  | .getStatus inst => decide (inst < 128)
  | .getSensors inst _ _ => decide (inst < 128)
  | .getEventLogEntry inst _ => decide (inst < 128)
  | .getEvents inst => decide (inst < 128)
  | .getIdentity inst _ => decide (inst < 128)
  | .attest inst _ _ => decide (inst < 128)
  | .powerOff inst => decide (inst < 128)
  | .powerWarmStart inst _ => decide (inst < 128)
  | .powerColdStart inst _ => decide (inst < 128)
  | .sidebandDport inst _ _ _ _ => decide (inst < 128)
  | .cfgWrite inst slot => decide (inst < 128) && decide (slot < 2)
  | .cfgWriteA => true
  | .cfgWriteB => true
  | .fwLoad => true
  | .fwActivate => true
  | .fwCancel => true
  | .raiseSvn => true
  | .fwSwitchover _ => true
  | .openRangeWrite n _ => decide (n < 4)
  | .attestGo => true
  | .challenge => true
  | .unlock => true
  | .allOff => true
  | .loopEnable i _ => decide (i < 55)
  | .loopDisable i => decide (i < 55)
  | .loopLimitExpiry i => decide (i < 55)
  | .lateArm _ => true
  | .injectArm _ => true
  | .injectCancel => true
  | .injectFire part engine unit => decide (part < 64) && decide (engine < 17) && decide (unit < 32)
  | .bistStart _ => true
  | .bistComplete _ => true
  | .hostLinkUp _ _ _ => true
  | .fabPortLinkUp port => decide (port < 32)
  | .pfcPauseEnd port prio => decide (port < 32) && decide (prio < 8)
  | .auxPowerLoss => true

end Sys2Proof
end

