-- ==== Sys2Proof/Safety.lean ====
section
/-! DEFINITION. The terms in which claims about the machine are made. -/

namespace Sys2Proof.Machine

/-- A memory is in canonical form: addresses strictly rising, and no listed byte equal to 0. -/
abbrev Memory.wf (m : Tab Byte) : Bool := Tab.wf 0 m

/-- The memory is in its canonical form: addresses strictly rising, and no listed byte equal to 0, which an unlisted address
reads as. -/
def State.memWf (s : State) : Bool := Memory.wf s.mem

/-- The register fields are in their canonical form: addresses strictly rising, no entry for a field at its reset value. -/
def State.regsWf (s : State) : Bool := Tab.wf 0 s.regs

/-- What holds in every state a run reaches: memory and the register fields are in their canonical forms, so that equal
contents are equal data. -/
abbrev State.canonical (s : State) : Prop := s.memWf = true ∧ s.regsWf = true

/-- Context `c` can issue an instruction of `len` bytes: it runs, and the words of the instruction can be fetched, from memory
(R86, R90); a word fetched through the register window is a read of a register first (`State.fetched`). -/
abbrev State.canIssue (s : State) (c len : Nat) : Prop :=
  c < 321 ∧ (s.ctx c).run = .running ∧ s.fetchStop c (s.ctx c) len = none ∧ s.fetchRegs c (s.ctx c) len = []

/-- An M-format instruction of context `c` completes: `r` is its operand read, `base` its cycles, `y` the registers that its
operation gives; modes XP and YP, the PC and the cycles follow (R88, R92, R95). -/
def State.completesM (s : State) (c : Nat) (m : MForm) (r : State × BitVec 64 × Nat) (base : Nat) (y : Ctx) : Host.Outcome State Fault Refusal :=
  .next (r.1.finish c (m.after y) ((s.ctx c).pc + BitVec.ofNat 32 m.len) (base + extCost m.len + r.2.2))

/-- A one-word instruction of context `c` that works on registers alone completes with the registers `y` (R88, R95). -/
def State.completesR (s : State) (c base : Nat) (y : Ctx) : Host.Outcome State Fault Refusal :=
  .next (s.finish c y ((s.ctx c).pc + 4) base)

/-- A C-format instruction of context `c` completes, from state `t` with the registers `y` (R88, R95, R115). -/
def State.completesC (s t : State) (c : Nat) (f : CForm) (y : Ctx) (base : Nat) : Host.Outcome State Fault Refusal :=
  .next (t.finish c y ((s.ctx c).pc + BitVec.ofNat 32 f.len) (base + extCost f.len))

/-- The registers that no data instruction writes: SP, the exception and system registers, pb, and ST but for its flags. -/
def Ctx.sameSystem (x y : Ctx) : Prop :=
  y.sp = x.sp ∧ y.epc = x.epc ∧ y.est = x.est ∧ y.ecause = x.ecause ∧ y.eaddr = x.eaddr ∧ y.vbar = x.vbar ∧ y.crcPoly = x.crcPoly ∧
  y.crcCfg = x.crcCfg ∧ y.pb = x.pb ∧ y.waitLim = x.waitLim ∧ y.blHint = x.blHint ∧ y.run = x.run ∧ y.lastStep = x.lastStep ∧
  ∀ i, 5 ≤ i → y.flag i = x.flag i

/-- Nothing but the registers of context `c`, and the count of free values drawn, differs. -/
def State.onlyCtx (s t : State) (c : Nat) : Prop :=
  t = { s with ctxs := t.ctxs, free := t.free } ∧ ∀ d, d ≠ c → t.ctx d = s.ctx d

/-- Nothing but memory and its marks, the registers of context `c` and the count of free values drawn differs. -/
def State.onlyCtxMem (s t : State) (c : Nat) : Prop :=
  t = { s with ctxs := t.ctxs, free := t.free, mem := t.mem, memSt := t.memSt, tst := t.tst, flt := { s.flt with granLost := t.flt.granLost } } ∧ ∀ d, d ≠ c → t.ctx d = s.ctx d

/-- The exclusive-or of the `n` bits of a word from bit `lo`. -/
def xorBits (v : BitVec 64) (lo : Nat) : Nat → Bool
  | 0 => false
  | n + 1 => v.getLsbD lo ^^ xorBits v (lo + 1) n

/-- The instructions that work on A and the operand of an M-format word, on every core (Tables 4.8 and 4.9). -/
def operandOps (c : Nat) (m : MForm) : List Instr :=
  [.lda c m, .add c m, .adc c m, .sub c m, .sbc c m, .and c m, .or c m, .xor c m, .cmp c m, .adds c m, .mul c m, .mulh c m, .max c m, .min c m,
   .tst c m, .shl c m, .shr c m, .sar c m, .rol c m, .rshr c m, .clz c m, .popc c m, .par c m, .brev c m]

/-- Those that set Z and N alone. -/
def zeroNegativeOps (c : Nat) (m : MForm) : List Instr :=
  [.lda c m, .and c m, .or c m, .xor c m, .mulh c m, .max c m, .min c m, .tst c m, .rol c m, .rshr c m]

/-- Those that set Z, N, C and V. -/
def sumOps (c : Nat) (m : MForm) : List Instr := [.add c m, .adc c m, .sub c m, .sbc c m, .cmp c m]

/-- Those that set Z, N and, for a count other than 0, C. -/
def shiftOps (c : Nat) (m : MForm) : List Instr := [.shl c m, .shr c m, .sar c m]

/-- Those that set Z alone. -/
def countOps (c : Nat) (m : MForm) : List Instr := [.clz c m, .popc c m, .par c m, .brev c m]

/-- The functions of the group REG that read one register and write A (Table 4.10). -/
def accumulatorOps (c : Nat) (arg : BitVec 12) : List Instr :=
  [.txa c, .tya c, .tsa c, .neg c, .not c, .abs c, .clra c, .sext c arg, .zext c arg, .sats c arg, .satu c arg]

/-- The operand of an M-format word needs no register-window access: an immediate, or bytes of memory. -/
def State.plainOperand (s : State) (c : Nat) (m : MForm) : Prop :=
  m.imm = true ∨ ∃ a tile, s.reach c (s.ctx c) (m.ea (s.ctx c)) m.nbytes false = .ok (.mem a tile) ∧ s.readable a m.nbytes = true

/-- The module address that a store of an M-format word goes to, none where it goes to the register window or is refused. -/
def State.storeAddr (s : State) (c : Nat) (m : MForm) : Option Nat :=
  match s.reach c (s.ctx c) (m.ea (s.ctx c)) m.nbytes true with
  | .ok (.mem a _) => some a
  | _ => none

/-- The store instructions (Table 4.8). -/
def storeOps (c : Nat) (m : MForm) : List Instr := [.sta c m, .stx c m, .sty c m, .stb c m]

/-- The registers `y` of context `c` after taking exception `code` from the registers `x` (R119, R89). -/
def Ctx.takesException (x y : Ctx) (c code eaddr : Nat) : Prop :=
  y.epc = x.pc ∧ y.est = x.st ∧ y.ecause = BitVec.ofNat 32 code ∧ y.eaddr = BitVec.ofNat 32 eaddr ∧
  y.pc = x.vbar + BitVec.ofNat 32 (64 * code) ∧ y.cycle = x.cycle + 6 ∧ y.level = (if isReeve c then 2 else 1) ∧ y.flag 11 = true ∧ y.flag 10 = false ∧
  (∀ i, i < 5 → y.flag i = x.flag i) ∧ y.a = x.a ∧ y.b = x.b ∧ y.x = x.x ∧ y.y = x.y ∧ y.sp = x.sp ∧ y.pb = x.pb ∧ y.vbar = x.vbar ∧
  y.crcPoly = x.crcPoly ∧ y.crcCfg = x.crcCfg ∧ y.waitLim = x.waitLim ∧ y.run = x.run

/-- From state `s` context `c` takes exception `code` in its own handler: nothing but its registers, and the fields of
TC_CTX_EXC that record it, differs. -/
def State.takesException (s t : State) (c code eaddr : Nat) : Prop :=
  (s.ctx c).takesException (t.ctx c) c code eaddr ∧ (∀ d, d ≠ c → t.ctx d = s.ctx d) ∧ t = { s with ctxs := t.ctxs, regs := t.regs }

/-- A context that takes an exception in a handler of its own: EXL is 0, and it is no level-P context of a tending core, whose
exceptions firmware reports (R119, R120). -/
abbrev State.ownHandler (s : State) (c : Nat) : Prop := (s.ctx c).flag 11 = false ∧ (isTc c = false ∨ (s.ctx c).level ≠ 0)

/-- One-word instructions that the core of context `c` does not have (Table 4.1). -/
def absentOps (c : Nat) : List Instr :=
  if isTc c then [.ei c, .di c, .wdog c] else [.tab c, .tba c, .addb c, .clrb c, .mestat c]

end Sys2Proof.Machine
end

