-- ==== Sys2Proof/Certificates/Slice0/Obligations.lean ====
section
/-! DEFINITION. The statements about the machine, chapter by chapter of the spec. -/

open Sys2Proof Sys2Proof.Machine

/-- The bell edge, enabling and disabling the bell, and loading its counter complete with their effect -/
def Obligations.BellEdgesAndLoadCompleteAsStated : Prop :=
  (∀ (s : State), s.on Reg.BELL_CTRL_EN = true → exec .bellEdge s = .next ((s.atTime s.bell.nextAt).edge (s.count + 1)
    s.bell.nextAt s.bell.nextPeriod s.bell.nextPace false)) ∧
  (∀ (s : State) (v : Nat), s.pfOpen 3 = true → s.on Reg.BELL_CTRL_EN = false → bits v 3 2 ≠ 3 → (s.bellFields v).enRefused
    (bits v 3 2) = false → exec (.bellEnable v) s = .next (((s.bellFields v).wr Reg.BELL_CTRL_EN 1).bellStart)) ∧
  (∀ (s : State) (v : Nat), s.pfOpen 3 = true → s.on Reg.BELL_CTRL_EN = true → bits v 3 2 ≠ 3 → bits v 1 2 = s.rd
    Reg.BELL_CTRL_SOURCE → bits v 3 2 = s.rd Reg.BELL_CTRL_ROLE → exec (.bellDisable v) s = .next (((s.bellFields v).wr
    Reg.BELL_CTRL_EN 0).bellStop)) ∧
  (∀ (s : State) (v : Nat), s.pfOpen 3 = true → s.on Reg.BELL_CTRL_EN = false → exec (.bellCountLoad v) s = .next
    ((s.countLoaded (v % 2 ^ 64)).commitBells))

/-- Bell frames, BELL_IN edges, missing edges, holdover and lock complete with their effect -/
def Obligations.BellFramesAndInputEdgesComplete : Prop :=
  (∀ (s u : State) (f : BellFrame) (time : Nat), u = s.atTime time → f.rsv = false → f.head.bad = false → u.on
    Reg.BELL_CTRL_EN = true → f.tag = u.rd Reg.BELL_CTRL_TAG → f.valid = true → u.isMaster = false → (u.bell.epochSeen =
    false ∨ u.newerEpoch f.epoch = true ∨ f.epoch = u.rd Reg.BELL_STATUS_EPOCH) → exec (.bellFrameReceived f time) s = .next
    (u.acceptFrame f (max s.now time) (u.newerEpoch f.epoch))) ∧
  (∀ (s u : State) (time : Nat), u = s.atTime time → u.on Reg.BELL_CTRL_EN = true → 2 ≤ u.source → s.now ≤ time →
    u.bell.edgeAt ≤ time → u.count ∉ u.bell.inDone → time - u.bell.edgeAt ≤ 1000 → 2 * time ≤ u.bell.nextAt + u.bell.edgeAt →
    exec (.bellInEdge time) s = .next (({ u with bell := { u.bell with inDone := u.bell.inDone ++ [u.count] } } :
    State).sourceEdge ((u.bell.edgeAt : Int) - time))) ∧
  (∀ (s : State) (k : Nat), s.on Reg.BELL_CTRL_EN = true → s.isMaster = false → k ≤ s.count → s.count ≤ k + 4 →
    s.bell.enCount < k → exec (.bellFrameMissing k) s = .next (s.frameMissed k)) ∧
  (∀ (s : State) (k : Nat), s.on Reg.BELL_CTRL_EN = true → 2 ≤ s.source → k ≤ s.count → s.count ≤ k + 4 → s.bell.enCount < k
    → k ∉ s.bell.inDone → k ∉ s.bell.inRejected → exec (.bellInMissing k) s = .next
    (({ s with bell := { s.bell with inDone := s.bell.inDone ++ [k] } } : State).sourceMiss)) ∧
  (∀ (s : State), s.on Reg.BELL_CTRL_EN = true → s.on Reg.BELL_STATUS_HOLDOVER = true → s.rd Reg.BELL_HOLD_HOLD_LIMIT ≤
    s.bell.holdBells → exec .holdoverLimitReached s = .next ((s.wr Reg.BELL_STATUS_UNALIGNED 1).bellEvent
    Reg.BELL_EVENT_HOLDOVER_LIMIT)) ∧
  (∀ (s : State), s.on Reg.BELL_CTRL_EN = true → s.on Reg.BELL_STATUS_HOLDOVER = false → 8 ≤ s.bell.goodEdges → exec
    .bellLock s = .next ((s.wr Reg.BELL_STATUS_LOCKED 1).wr Reg.BELL_STATUS_UNALIGNED 0)) ∧
  (∀ (s : State), s.on Reg.BELL_CTRL_EN = true → s.rd Reg.BELL_CTRL_ROLE = 2 → s.isMaster = false → 4 ≤ s.bell.frameMiss →
    s.on Reg.FLT_STATUS_MODULE_FATAL = false → exec .deputyTakeover s = .next s.becomeMaster)

/-- Late limits, bell reports and lost modules complete with their effect -/
def Obligations.BellReportsAndLatenessComplete : Prop :=
  (∀ (s : State), s.rd Reg.BELL_LIMITS_LATE_LIMIT ≤ s.bell.lateRun → exec .lateLimitReached s = .next (s.bellEvent
    Reg.BELL_EVENT_LATE_LIMIT)) ∧
  (∀ (s u : State), s.on Reg.BELL_CTRL_EN = true → s.isMaster = false → s.on Reg.BELL_CTRL_REPORT_EN = true → s.on
    Reg.RKT_BELL_CFG_RELAY = true → s.bell.enCount < s.count → s.bell.reportSent ≤ s.count - 1 → u = s.atTime s.reportAt →
    u.on (Reg.RKT_BELL_PEER_EN u.parentEntry) = true → exec .bellReportSend s = .next
    (({ u with bell := { u.bell with reportSent := s.count - 1 + 1 } } : State).pushPeer (u.peerPath u.parentEntry) 9
    (.report u.parentEntry (u.peerPath u.parentEntry) (u.mergeReports (s.count - 1) (some (u.bell.ownLate, u.bell.ownBacklog,
    u.rd Reg.BELL_PACE_ATTAINABLE)))))) ∧
  (∀ (s : State) (e : Nat) (r : BellReport), r.rsv = false → r.head.bad = false → 1 < e → e < 18 → s.on Reg.BELL_CTRL_EN =
    true → e ∈ s.children → r.tag = s.rd Reg.BELL_CTRL_TAG → exec (.bellReportReceived e r) s = .next
    { s with bell := { s.bell with reports := Tab.set none s.bell.reports e (some r) } }) ∧
  (∀ (s : State) (xyz : Nat), xyz < 0xFFFF → Tab.get 0 s.bell.missRuns xyz = 4 → exec (.moduleLost xyz) s = .next
    ((({ s with bell := { s.bell with missRuns := Tab.set 0 s.bell.missRuns xyz 5 } } : State).recordLost xyz).fltEvent
    Reg.FLT_EVENT_LOST))

/-- Each stage of a MOP completes with its effect: choice, stream, load, drain, completion, chain break -/
def Obligations.MopStagesComplete : Prop :=
  (∀ (s : State) (n ps p : Nat) (lent : Bool), n < 16 → s.slotOf n = some ps → (s.slot ps).closeStale.fenced = false →
    (s.slot ps).closeStale.queue.any (fun m => decide (m.stage = .chosen)) = false → s.midStream (s.slot ps).closeStale =
    false → s.choice n (s.slot ps).closeStale = some (p, lent) → exec (.mopChoose n) s = .next (s.chosenMop n ps p lent)) ∧
  (∀ (s : State) (n ps : Nat) (m : Mop), n < 16 → s.slotOf n = some ps → (s.slot ps).queue.find? (fun q => decide (q.stage =
    .chosen)) = some m → s.mayStream n (s.slot ps) m = true → s.operandBad n m = false → s.scaleBad n m = false → exec
    (.mopStreamStart n) s = .next (s.streamedMop n ps m)) ∧
  (∀ (s : State) (n ps : Nat) (m : Mop), n < 16 → s.slotOf n = some ps → (s.slot ps).queue.find? (fun q => decide (q.stage =
    .chosen)) = some m → m.load = true → m.loaded = false → (s.slot ps).fenced = false → s.loadBlocked (s.slot ps) m = false
    → s.anyBad n m.loadReads = false → exec (.accLoadStart n) s = .next (s.loadedMop n ps m)) ∧
  (∀ (s : State) (n ps : Nat) (m : Mop), n < 16 → s.slotOf n = some ps → (s.slot ps).fenced = false → (s.slot ps).drainNext =
    some m → 12 ≤ s.engClocks m.lastStep s.now → (s.slot ps).portFree ≤ s.now → s.anyBad n m.tileReads = false → exec
    (.drainStart n) s = .next (s.drainingMop n ps m)) ∧
  (∀ (s : State) (n ps p : Nat) (m : Mop), n < 16 → p < 64 → s.slotOf n = some ps → (s.slot ps).queue.find? (fun q => q.part
    == p) = some m → m.rej = none → s.mopDone m = true → (s.slot ps).fenced = false → exec (.mopComplete n p) s = .next
    ((((((s.setSlot ps { s.slot ps with queue := (s.slot ps).queue.eraseP (fun q => q.part == p) }).storeCells m.out).postMop
    n ps m 0).commitBells).tryResume n))) ∧
  (∀ (s : State) (n ps p st : Nat) (m : Mop), n < 16 → p < 64 → s.slotOf n = some ps → (s.slot ps).queue.find? (fun q =>
    q.part == p) = some m → m.rej = some st → (s.slot ps).turnOf m = true → (s.slot ps).fenced = false → exec (.mopComplete n
    p) s = .next (((((s.setSlot ps { s.slot ps with queue := (s.slot ps).queue.eraseP (fun q => q.part == p) }).postMop n ps
    m st).commitBells).tryResume n))) ∧
  (∀ (s : State) (n ps w : Nat) (h : Chain), n < 16 → s.slotOf n = some ps → (s.slot ps).closeStale.chain = some h →
    h.waitFrom = some w → s.choice n (s.slot ps).closeStale = none → w ≤ s.now → 8 * (s.credit n h.part - s.engClocks w
    s.now) ≤ -(s.bellClocks8 : Int) → exec (.chainBreak n) s = .next ((s.setCredit n h.part (s.credit n h.part - s.engClocks
    w s.now)).breakChain ps h.part))

/-- Share, map, map-lock and spare commands complete with their effect -/
def Obligations.ShareAndMapWritesComplete : Prop :=
  (∀ (s : State) (n p v : Nat), s.pfOpen 15 = true → n < 16 → p < 64 → s.shareSum n - s.rd (Reg.ME_SHARE_SHARE n p) + bits v
    0 7 ≤ 64 → (s.slotOf n).isSome = true → exec (.meShareWrite n p v) s = .next ((s.wr (Reg.ME_SHARE_SHARE n p) (bits v 0
    7)).when (!s.on Reg.BELL_CTRL_EN) (fun t => { t with shares := Tab.set 0 t.shares (n * 64 + p) (bits v 0 7) }))) ∧
  (∀ (s : State) (d v : Nat), s.pfOpen 15 = true → d < 2 → s.mapBad d v = false → exec (.meMapWrite d v) s = .next ((s.each 8
    (fun l t => t.wr (meMapFld (8 * d + l)) (bits v (4 * l) 4))).refreshSlots d)) ∧
  (∀ (s : State) (d : Nat), s.pfOpen 15 = true → d < 2 → exec (.mapLockSet d) s = .next (s.wr (Reg.ME_DIE_CTRL_MAP_LOCK d)
    1)) ∧
  (∀ (s u : State) (d i : Nat), d < 2 → (s.heldSlots d).head? = some i → u = (s.refreshSlots d).wr
    (Reg.ME_DIE_STATUS_SPARE_AVAIL d) 1 → u.flt.waitSpare.find? (fun w => w.n / 8 == d) = none → exec (.spareReady d) s =
    .next u) ∧
  (∀ (s u : State) (d i : Nat) (w : SpareWait), d < 2 → (s.heldSlots d).head? = some i → u = (s.refreshSlots d).wr
    (Reg.ME_DIE_STATUS_SPARE_AVAIL d) 1 → u.flt.waitSpare.find? (fun w => w.n / 8 == d) = some w → exec (.spareReady d) s =
    .next (u.goOn (d * 9 + i) w))

/-- Every instruction on an operand completes with the registers its operation gives, the next PC and its cycles -/
def Obligations.OperandInstructionsComplete : Prop :=
  (∀ (s : State) (c : Nat) (m : MForm) (r : State × BitVec 64 × Nat), s.canIssue c m.len → m.ok = true → s.operand c (s.ctx
    c) m = .ok r → exec (.lda c m) s = s.completesM c m r 1 ((s.ctx c).setA r.2.1) ∧ exec (.add c m) s = s.completesM c m r 1
    ((s.ctx c).aluAdd r.2.1 false) ∧ exec (.adc c m) s = s.completesM c m r 1 ((s.ctx c).aluAdd r.2.1 ((s.ctx c).flag 2)) ∧
    exec (.sub c m) s = s.completesM c m r 1 ((s.ctx c).aluSub r.2.1 false) ∧ exec (.sbc c m) s = s.completesM c m r 1
    ((s.ctx c).aluSub r.2.1 (!(s.ctx c).flag 2)) ∧ exec (.and c m) s = s.completesM c m r 1 ((s.ctx c).setA ((s.ctx c).a &&&
    r.2.1)) ∧ exec (.or c m) s = s.completesM c m r 1 ((s.ctx c).setA ((s.ctx c).a ||| r.2.1)) ∧ exec (.xor c m) s =
    s.completesM c m r 1 ((s.ctx c).setA ((s.ctx c).a ^^^ r.2.1)) ∧ exec (.cmp c m) s = s.completesM c m r 1 ((s.ctx
    c).aluCmp r.2.1) ∧ exec (.adds c m) s = s.completesM c m r 1 ((s.ctx c).aluAdds r.2.1) ∧ exec (.mul c m) s = s.completesM
    c m r 3 ((s.ctx c).aluMul r.2.1) ∧ exec (.mulh c m) s = s.completesM c m r 4 ((s.ctx c).aluMulh r.2.1) ∧ exec (.max c m)
    s = s.completesM c m r 1 ((s.ctx c).aluMax r.2.1) ∧ exec (.min c m) s = s.completesM c m r 1 ((s.ctx c).aluMin r.2.1) ∧
    exec (.tst c m) s = s.completesM c m r 1 ((s.ctx c).zn ((s.ctx c).a &&& r.2.1)) ∧ exec (.shl c m) s = s.completesM c m r
    1 ((s.ctx c).aluShl r.2.1) ∧ exec (.shr c m) s = s.completesM c m r 1 ((s.ctx c).aluShr r.2.1) ∧ exec (.sar c m) s =
    s.completesM c m r 1 ((s.ctx c).aluSar r.2.1) ∧ exec (.rol c m) s = s.completesM c m r 1 ((s.ctx c).aluRol r.2.1) ∧ exec
    (.rshr c m) s = s.completesM c m r 1 ((s.ctx c).aluRshr r.2.1) ∧ exec (.clz c m) s = s.completesM c m r 1 ((s.ctx
    c).aluClz r.2.1 m.width) ∧ exec (.popc c m) s = s.completesM c m r 1 ((s.ctx c).aluPopc r.2.1) ∧ exec (.par c m) s =
    s.completesM c m r 1 ((s.ctx c).aluPar r.2.1 m.width) ∧ exec (.brev c m) s = s.completesM c m r 1 ((s.ctx c).aluBrev
    r.2.1 m.width)) ∧
  (∀ (s : State) (c : Nat) (m : MForm) (r : State × BitVec 64 × Nat), s.canIssue c m.len → m.ok = true → m.notLong = true →
    s.operand c (s.ctx c) m = .ok r → exec (.ldx c m) s = s.completesM c m r 1 ({ s.ctx c with x := r.2.1.truncate 32 }) ∧
    exec (.ldy c m) s = s.completesM c m r 1 ({ s.ctx c with y := r.2.1.truncate 32 })) ∧
  (∀ (s : State) (c : Nat) (m : MForm) (r : State × BitVec 64 × Nat), s.canIssue c m.len → m.ok = true → c < 288 → s.operand
    c (s.ctx c) m = .ok r → exec (.ldb c m) s = s.completesM c m r 1 ({ (s.ctx c).zn r.2.1 with b := r.2.1 })) ∧
  (∀ (s : State) (c : Nat) (m : MForm) (r : State × BitVec 64 × Nat), s.canIssue c m.len → m.ok = true → (s.ctx c).crcOk =
    true → s.operand c (s.ctx c) m = .ok r → exec (.crc c m) s = s.completesM c m r (if m.sz = 3 then 2 else 1) ((s.ctx
    c).aluCrc r.2.1 m.width)) ∧
  (∀ (s : State) (c : Nat) (m : MForm) (r : State × BitVec 64 × Nat) (q : State × Nat × Nat), s.canIssue c m.len → m.ok =
    true → s.operand c (s.ctx c) m = .ok r → r.1.load c (s.ctx c) (s.ctx c).y.toNat m.nbytes = .ok q → exec (.mac c m) s =
    .next (q.1.finish c (m.after ((s.ctx c).aluMac r.2.1 (m.extend q.2.1) m.nbytes)) ((s.ctx c).pc + BitVec.ofNat 32 m.len)
    (3 + extCost m.len + r.2.2 + q.2.2))) ∧
  (∀ (s : State) (c : Nat) (m : MForm), s.canIssue c m.len → m.ok = true → m.imm = false → exec (.adrx c m) s = s.completesM
    c m (s, 0, 0) 1 { s.ctx c with x := BitVec.ofNat 32 (m.ea (s.ctx c)) } ∧ exec (.adry c m) s = s.completesM c m (s, 0, 0)
    1 { s.ctx c with y := BitVec.ofNat 32 (m.ea (s.ctx c)) })

/-- STA, STX, STY, STB and LUT complete with their effect -/
def Obligations.StoresAndLookupComplete : Prop :=
  (∀ (s : State) (c : Nat) (m : MForm) (r : State × Nat), s.canIssue c m.len → m.ok = true → m.imm = false → m.sx = false →
    s.store c (s.ctx c) (m.ea (s.ctx c)) m.nbytes (s.ctx c).a.toNat = .ok r → exec (.sta c m) s = s.completesM c m (r.1, 0,
    r.2) 1 (s.ctx c)) ∧
  (∀ (s : State) (c : Nat) (m : MForm) (r : State × Nat), s.canIssue c m.len → m.ok = true → m.imm = false → m.sx = false →
    m.notLong = true → s.store c (s.ctx c) (m.ea (s.ctx c)) m.nbytes (s.ctx c).x.toNat = .ok r → exec (.stx c m) s =
    s.completesM c m (r.1, 0, r.2) 1 (s.ctx c)) ∧
  (∀ (s : State) (c : Nat) (m : MForm) (r : State × Nat), s.canIssue c m.len → m.ok = true → m.imm = false → m.sx = false →
    m.notLong = true → s.store c (s.ctx c) (m.ea (s.ctx c)) m.nbytes (s.ctx c).y.toNat = .ok r → exec (.sty c m) s =
    s.completesM c m (r.1, 0, r.2) 1 (s.ctx c)) ∧
  (∀ (s : State) (c : Nat) (m : MForm) (r : State × Nat), s.canIssue c m.len → m.ok = true → m.imm = false → m.sx = false → c
    < 288 → s.store c (s.ctx c) (m.ea (s.ctx c)) m.nbytes (s.ctx c).b.toNat = .ok r → exec (.stb c m) s = s.completesM c m
    (r.1, 0, r.2) 1 (s.ctx c)) ∧
  (∀ (s : State) (c : Nat) (m : MForm) (a q n h table : Nat) (b : Int) (interp : Bool), s.canIssue c m.len → m.ok = true →
    m.imm = false → c < 288 → s.reach c (s.ctx c) (m.ea (s.ctx c)) 16 false = .ok (.mem a false) → s.readable a 16 = true →
    lutFields (s.bytes a 16) = some (b, h, interp, n, table) → s.coreAddr c (s.ctx c) table (2 * n) false = some (.mem q
    false) → s.readable (q + 2 * (lookupAt n (sext 32 (s.ctx c).a.toNat) b h).1) (if interp && (lookupAt n (sext 32 (s.ctx
    c).a.toNat) b h).2 != 0 then 4 else 2) = true → exec (.lut c m) s = s.completesM c m (s, 0, 0) (if interp then 8 else 7)
    ((s.ctx c).setA (BitVec.ofInt 64 (lookup (fun i => sext 16 (s.ld (q + 2 * i) 2)) n (sext 32 (s.ctx c).a.toNat) b h
    interp))))

/-- Every instruction of the group REG completes with the registers its function gives -/
def Obligations.RegisterInstructionsComplete : Prop :=
  (∀ (s : State) (c : Nat), s.canIssue c 4 → exec (.tax c) s = s.completesR c 1
    ({ (s.ctx c).zn32 ((s.ctx c).a.truncate 32) with x := (s.ctx c).a.truncate 32 }) ∧ exec (.txa c) s = s.completesR c 1
    ((s.ctx c).setA ((s.ctx c).x.signExtend 64)) ∧ exec (.tay c) s = s.completesR c 1
    ({ (s.ctx c).zn32 ((s.ctx c).a.truncate 32) with y := (s.ctx c).a.truncate 32 }) ∧ exec (.tya c) s = s.completesR c 1
    ((s.ctx c).setA ((s.ctx c).y.signExtend 64)) ∧ exec (.txy c) s = s.completesR c 1 ({ s.ctx c with y := (s.ctx c).x }) ∧
    exec (.tyx c) s = s.completesR c 1 ({ s.ctx c with x := (s.ctx c).y }) ∧ exec (.tsa c) s = s.completesR c 1
    ({ s.ctx c with a := (s.ctx c).sp.zeroExtend 64 }) ∧ exec (.tas c) s = s.completesR c 1
    ({ s.ctx c with sp := (s.ctx c).a.truncate 32 }) ∧ exec (.neg c) s = s.completesR c 1 ((s.ctx c).regNeg) ∧ exec (.not c)
    s = s.completesR c 1 ((s.ctx c).setA (~~~(s.ctx c).a)) ∧ exec (.abs c) s = s.completesR c 1 ((s.ctx c).regAbs) ∧ exec
    (.clra c) s = s.completesR c 1 ((s.ctx c).setA 0) ∧ exec (.nop c) s = s.completesR c 1 (s.ctx c)) ∧
  (∀ (s : State) (c : Nat), s.canIssue c 4 → c < 288 → exec (.tab c) s = s.completesR c 1
    ({ (s.ctx c).zn (s.ctx c).a with b := (s.ctx c).a }) ∧ exec (.tba c) s = s.completesR c 1 ((s.ctx c).setA (s.ctx c).b) ∧
    exec (.swab c) s = s.completesR c 1 ({ (s.ctx c).setA (s.ctx c).b with b := (s.ctx c).a }) ∧ exec (.addb c) s =
    s.completesR c 1 ((s.ctx c).aluAdd (s.ctx c).b false) ∧ exec (.clrb c) s = s.completesR c 1 ({ s.ctx c with b := 0 })) ∧
  (∀ (s : State) (c : Nat) (arg : BitVec 12), s.canIssue c 4 → exec (.inx c arg) s = s.completesR c 1
    ({ (s.ctx c).zn32 ((s.ctx c).x + arg.signExtend 32) with x := (s.ctx c).x + arg.signExtend 32 }) ∧ exec (.iny c arg) s =
    s.completesR c 1 ({ (s.ctx c).zn32 ((s.ctx c).y + arg.signExtend 32) with y := (s.ctx c).y + arg.signExtend 32 })) ∧
  (∀ (s : State) (c : Nat) (arg : BitVec 12), s.canIssue c 4 → 1 ≤ arg.toNat → arg.toNat ≤ 64 → exec (.sext c arg) s =
    s.completesR c 1 ((s.ctx c).regSext arg.toNat) ∧ exec (.zext c arg) s = s.completesR c 1 ((s.ctx c).regZext arg.toNat) ∧
    exec (.sats c arg) s = s.completesR c 1 ((s.ctx c).regSats arg.toNat)) ∧
  (∀ (s : State) (c : Nat) (arg : BitVec 12), s.canIssue c 4 → 1 ≤ arg.toNat → arg.toNat ≤ 63 → exec (.satu c arg) s =
    s.completesR c 1 ((s.ctx c).regSatu arg.toNat)) ∧
  (∀ (s : State) (c : Nat) (arg : BitVec 12) (f : Fmt), s.canIssue c 4 → argFmt arg = some f → exec (.cvt c arg) s =
    s.completesR c 1 ((s.ctx c).regCvt f) ∧ exec (.pack c arg) s = s.completesR c 1 ((s.ctx c).regPack f) ∧ exec (.unpk c
    arg) s = s.completesR c 1 ((s.ctx c).regUnpk f)) ∧
  (∀ (s : State) (c : Nat) (arg : BitVec 12) (r q : State × Nat × Nat), s.canIssue c 4 → c < 288 → arg.toNat < 16 → arg.toNat
    / 4 % 4 ≠ 3 → (s.ctx c).x.toNat % 8 = 0 → (s.ctx c).y.toNat % 8 = 0 → s.load c (s.ctx c) (s.ctx c).x.toNat 8 = .ok r →
    r.1.load c (s.ctx c) (s.ctx c).y.toNat 8 = .ok q → exec (.dmac c arg) s = .next (q.1.finish c ((s.ctx c).regDmac
    (BitVec.ofNat 64 r.2.1) (BitVec.ofNat 64 q.2.1) (arg.getLsbD 0) (arg.getLsbD 1) (8 * 2 ^ (arg.toNat / 4 % 4))) ((s.ctx
    c).pc + 4) (1 + Nat.max r.2.2 q.2.2)))

/-- Branches, calls, returns and stack instructions complete with their effect -/
def Obligations.BranchesAndStackComplete : Prop :=
  (∀ (s : State) (c : Nat) (k : BitVec 4) (off : BitVec 22), s.canIssue c 4 → k ≠ 15 → exec (.b c k off) s = .next (if (s.ctx
    c).cond k.toNat then s.finish c (s.ctx c) (branchTarget (s.ctx c).pc off) 2 else s.finish c (s.ctx c) ((s.ctx c).pc + 4)
    1)) ∧
  (∀ (s : State) (c : Nat) (off : BitVec 22), s.canIssue c 4 → exec (.dbnz c false off) s = .next (if (s.ctx c).x - 1 = 0
    then s.finish c { s.ctx c with x := (s.ctx c).x - 1 } ((s.ctx c).pc + 4) 1 else s.finish c
    { s.ctx c with x := (s.ctx c).x - 1 } (branchTarget (s.ctx c).pc off) 2) ∧ exec (.dbnz c true off) s = .next (if (s.ctx
    c).y - 1 = 0 then s.finish c { s.ctx c with y := (s.ctx c).y - 1 } ((s.ctx c).pc + 4) 1 else s.finish c
    { s.ctx c with y := (s.ctx c).y - 1 } (branchTarget (s.ctx c).pc off) 2)) ∧
  (∀ (s : State) (c : Nat) (m : MForm), s.canIssue c m.len → m.ok = true → m.imm = false → exec (.jmp c m) s = .next
    (s.finish c (m.after (s.ctx c)) (BitVec.ofNat 32 (m.ea (s.ctx c))) (2 + extCost m.len))) ∧
  (∀ (s : State) (c : Nat) (m : MForm) (r : State × Nat), s.canIssue c m.len → m.ok = true → m.imm = false → s.store c (s.ctx
    c) ((s.ctx c).sp - 8).toNat 8 ((s.ctx c).pc + BitVec.ofNat 32 m.len).toNat = .ok r → exec (.call c m) s = .next
    (r.1.finish c (m.after { s.ctx c with sp := (s.ctx c).sp - 8 }) (BitVec.ofNat 32 (m.ea (s.ctx c))) (3 + extCost m.len))) ∧
  (∀ (s : State) (c : Nat) (r : State × Nat × Nat), s.canIssue c 4 → s.load c (s.ctx c) (s.ctx c).sp.toNat 8 = .ok r → exec
    (.ret c) s = .next (r.1.finish c { s.ctx c with sp := (s.ctx c).sp + 8 } (BitVec.ofNat 32 r.2.1) 3)) ∧
  (∀ (s : State) (c : Nat) (arg : BitVec 12) (r : State × Nat), s.canIssue c 4 → (c < 288 ∨ arg.toNat % 4 ≠ 1) → s.store c
    (s.ctx c) ((s.ctx c).sp - 8).toNat 8 ((s.ctx c).slotValue (arg.toNat % 4)) = .ok r → exec (.push c arg) s = .next
    (r.1.finish c { s.ctx c with sp := (s.ctx c).sp - 8 } ((s.ctx c).pc + 4) 2)) ∧
  (∀ (s : State) (c : Nat) (arg : BitVec 12) (r : State × Nat × Nat), s.canIssue c 4 → (c < 288 ∨ arg.toNat % 4 ≠ 1) → s.load
    c (s.ctx c) (s.ctx c).sp.toNat 8 = .ok r → exec (.pop c arg) s = .next (r.1.finish c
    (({ s.ctx c with sp := (s.ctx c).sp + 8 } : Ctx).popped (arg.toNat % 4) r.2.1) ((s.ctx c).pc + 4) 2))

/-- System instructions complete with their effect at the level each needs -/
def Obligations.SystemInstructionsComplete : Prop :=
  (∀ (s : State) (c : Nat) (arg : BitVec 12), s.canIssue c 4 → exec (.fence c arg) s = (if arg.toNat % 4 = 0 then
    s.completesR c 1 (s.ctx c) else .next (s.draw.2.finish c (s.ctx c) ((s.ctx c).pc + 4) (1 + s.draw.1)))) ∧
  (∀ (s : State) (c : Nat) (arg : BitVec 12), s.canIssue c 4 → exec (.trap c arg) s = .next (s.takeExc c
    { s.ctx c with cycle := (s.ctx c).cycle + 1 } 7 arg.toNat arg.toNat ((s.ctx c).pc + 4))) ∧
  (∀ (s : State) (c : Nat) (arg : BitVec 12), s.canIssue c 4 → counterDefined arg.toNat = true → exec (.rdcnt c arg) s =
    s.completesR c 4 { s.ctx c with a := BitVec.ofNat 64 (s.counterSeen c (s.counterPart c (s.ctx c)) arg.toNat) }) ∧
  (∀ (s : State) (c n : Nat) (arg : BitVec 12), s.canIssue c 4 → c < 288 → s.engineOf (ctxSlot c) = some n → exec (.heavy c
    arg) s = .next ((s.heavyFor n (s.ctx c).pb.toNat arg).finish c (s.ctx c) ((s.ctx c).pc + 4) 1)) ∧
  (∀ (s : State) (c : Nat), s.canIssue c 4 → c < 288 → (s.ctx c).lastStep.elim true (fun l => decide (l < (s.ctx c).a.toNat))
    = true → exec (.step c) s = .next ((s.announceStep c (s.ctx c).pb.toNat (s.ctx c).a.toNat).finish c
    { (s.ctx c).setFlag 2 true with lastStep := some (s.ctx c).a.toNat } ((s.ctx c).pc + 4) 2)) ∧
  (∀ (s : State) (c : Nat), s.canIssue c 4 → c < 288 → (s.ctx c).lastStep.elim true (fun l => decide (l < (s.ctx c).a.toNat))
    = false → exec (.step c) s = s.completesR c 2 ((s.ctx c).setFlag 2 false)) ∧
  (∀ (s : State) (c : Nat) (arg : BitVec 12), s.canIssue c 4 → srListed c arg = true → srLevel arg ≤ (s.ctx c).level → exec
    (.mfsr c arg) s = s.completesR c 1 { s.ctx c with a := BitVec.ofNat 64 (s.srRead c (s.ctx c) arg.toNat) }) ∧
  (∀ (s : State) (c : Nat) (arg : BitVec 12), s.canIssue c 4 → srListed c arg = true → srLevel arg ≤ (s.ctx c).level → arg ≠
    0x23 → exec (.mtsr c arg) s = s.completesR c 1 ((s.ctx c).srWrite arg.toNat (s.ctx c).a)) ∧
  (∀ (s : State) (c : Nat), s.canIssue c 4 → 1 ≤ (s.ctx c).level → exec (.eret c) s = .next (s.finish c
    { s.ctx c with st := returnSt c (s.ctx c).est } (s.ctx c).epc 3) ∧ exec (.halt c) s = .next (s.haltCtx c
    { s.ctx c with pc := (s.ctx c).pc + 4, cycle := (s.ctx c).cycle + 1 } .stopped)) ∧
  (∀ (s : State) (c : Nat), s.canIssue c 4 → 1 ≤ (s.ctx c).level → 288 ≤ c → exec (.ei c) s = s.completesR c 1 ((s.ctx
    c).setFlag 10 true) ∧ exec (.di c) s = s.completesR c 1 ((s.ctx c).setFlag 10 false)) ∧
  (∀ (s : State), s.canIssue 320 4 → 2 ≤ (s.ctx 320).level → exec (.wdog 320) s = .next
    (({ s with rv := { s.rv with wdogAt := s.now } } : State).finish 320 (s.ctx 320) ((s.ctx 320).pc + 4) 1))

/-- The waits of a context and their releases complete with their effect -/
def Obligations.WaitsAndReleasesComplete : Prop :=
  (∀ (s : State) (c : Nat), s.canIssue c 4 → exec (.waitbell c) s = .next (((s.setCtx c
    { s.ctx c with run := .waiting .bell s.now, late := false }).owedLess c).releaseBell c)) ∧
  (∀ (s : State) (c since : Nat), c < 321 → (s.ctx c).run = .waiting .bell since → (s.ctx c).pb.toNat + 1 ≤ s.count → (isTc c
    && s.freezesAt (s.ctxPart c) ((s.ctx c).pb.toNat + 1)) = false → s.snapRoom c ((s.ctx c).pb.toNat + 1) = true → exec
    (.waitbellRelease c) s = .next (((s.resumeAs c
    { s.ctx c with a := BitVec.ofNat 64 ((s.ctx c).pb.toNat + 1), pb := BitVec.ofNat 64 ((s.ctx c).pb.toNat + 1), late := isTc c && decide ((s.ctx c).pb.toNat + 1 < s.count) }
    4 2 since).takeSnap c).owedLess c)) ∧
  (∀ (s : State) (c : Nat), s.canIssue c 4 → (s.ctx c).pb.toNat < (s.ctx c).a.toNat → exec (.waitbellt c) s = .next
    (((s.setCtx c
    { s.ctx c with run := .waiting (.bellT (s.ctx c).a.toNat (decide ((s.ctx c).a.toNat ≤ s.count) && !s.replaying c)) s.now, late := false }).owedLess
    c).releaseTarget c)) ∧
  (∀ (s : State) (c b since : Nat), c < 321 → (s.ctx c).run = .waiting (.bellT b false) since → b ≤ s.count → (isTc c &&
    s.freezesAt (s.ctxPart c) b) = false → s.snapRoom c b = true → exec (.waitbelltRelease c) s = .next (((s.resumeAs c
    { (s.ctx c).setFlag 2 true with pb := BitVec.ofNat 64 b, late := isTc c && decide (b < s.count) } 4 2 since).takeSnap
    c).owedLess c)) ∧
  (∀ (s : State) (c : Nat) (arg : BitVec 12), s.canIssue c 4 → counterDefined arg.toNat = true → (isTc c && decide
    (s.partState (s.counterPart c (s.ctx c)) = .freezing)) = false → exec (.wait c arg) s = .next ((s.setCtx c
    { s.ctx c with run := .waiting (.counter (s.counterPart c (s.ctx c)) arg.toNat ((s.ctx c).a.toNat % 2 ^ 32) (if (s.ctx c).waitLim = 0 then none else some (s.ctx c).waitLim.toNat)) s.now }).releaseCounter
    c)) ∧
  (∀ (s : State) (c p id target since : Nat) (lim : Option Nat), c < 321 → (s.ctx c).run = .waiting (.counter p id target
    lim) since → reached (s.counterSeen c p id) target = true → exec (.waitRelease c) s = .next (s.resumeAs c ((s.ctx
    c).setFlag 2 true) 4 2 since)) ∧
  (∀ (s : State) (c p id target since lim : Nat), c < 321 → (s.ctx c).run = .waiting (.counter p id target (some lim)) since
    → lim ≤ s.coreClocks c since → exec (.waitTimeout c) s = .next (s.resumeAs c ((s.ctx c).setFlag 2 false) 4 2 since))

/-- Enqueues, engine status and parse assist complete with their effect -/
def Obligations.CoprocessorInstructionsComplete : Prop :=
  (∀ (s : State) (c : Nat) (f : CForm) (r : State × List Nat × Nat) (t : State), s.canIssue c f.len → f.ok = true → c < 288 →
    s.descriptor c (s.ctx c) (f.ca (s.ctx c)) 64 = .ok r → r.1.offerMop c (s.ctx c) (wordsOf r.2.1) = some t → exec (.mopq c
    f) s = s.completesC t c f (s.ctx c) (4 + r.2.2) ∧ exec (.mopqt c f) s = s.completesC t c f ((s.ctx c).setFlag 2 true) (4
    + r.2.2)) ∧
  (∀ (s : State) (c : Nat) (f : CForm) (r : State × List Nat × Nat), s.canIssue c f.len → f.ok = true → c < 288 →
    s.descriptor c (s.ctx c) (f.ca (s.ctx c)) 64 = .ok r → r.1.offerMop c (s.ctx c) (wordsOf r.2.1) = none → exec (.mopqt c
    f) s = s.completesC r.1 c f ((s.ctx c).setFlag 2 false) (4 + r.2.2)) ∧
  (∀ (s : State) (c : Nat) (f : CForm) (r : State × List Nat × Nat) (t : State), s.canIssue c f.len → f.ok = true →
    s.descriptor c (s.ctx c) (f.ca (s.ctx c)) 32 = .ok r → r.1.offerCpd c (s.ctx c) (wordsOf r.2.1) = some t → exec (.cpdq c
    f) s = s.completesC t c f (s.ctx c) (4 + r.2.2) ∧ exec (.cpdqt c f) s = s.completesC t c f ((s.ctx c).setFlag 2 true) (4
    + r.2.2)) ∧
  (∀ (s : State) (c : Nat) (f : CForm) (r : State × List Nat × Nat), s.canIssue c f.len → f.ok = true → s.descriptor c (s.ctx
    c) (f.ca (s.ctx c)) 32 = .ok r → r.1.offerCpd c (s.ctx c) (wordsOf r.2.1) = none → exec (.cpdqt c f) s = s.completesC r.1
    c f ((s.ctx c).setFlag 2 false) (4 + r.2.2)) ∧
  (∀ (s : State) (c : Nat) (f : CForm) (r : State × List Nat × Nat), s.canIssue c f.len → f.ok = true → 288 ≤ c →
    s.descriptor c (s.ctx c) (f.ca (s.ctx c)) 64 = .ok r → exec (.ciq c f) s = (if r.1.draw.1 % 2 = 1 then .next
    (r.1.draw.2.setCtx c
    { s.ctx c with run := .waiting (.ciphRoom (wordsOf r.2.1) f.len (4 + extCost f.len + r.2.2)) s.now }) else s.completesC
    (r.1.draw.2.takeCiph c (wordsOf r.2.1)) c f (s.ctx c) (4 + r.2.2)) ∧ exec (.ciqt c f) s = (if r.1.draw.1 % 2 = 1 then
    s.completesC r.1.draw.2 c f ((s.ctx c).setFlag 2 false) (4 + r.2.2) else s.completesC (r.1.draw.2.takeCiph c (wordsOf
    r.2.1)) c f ((s.ctx c).setFlag 2 true) (4 + r.2.2))) ∧
  (∀ (s : State) (c : Nat), s.canIssue c 4 → c < 288 → exec (.mestat c) s = s.completesR c 4
    { s.ctx c with a := BitVec.ofNat 64 ((s.engineOf (ctxSlot c)).elim 0 (fun n => s.meStat n (ctxSlot c) (s.ctxPart c))) }) ∧
  (∀ (s t : State) (c : Nat) (f : CForm) (bs : List Nat), s.canIssue c f.len → f.ok = true → isIoc c = true → (s.ctx
    c).x.toNat ≤ 65536 → s.coreBytes c (s.ctx c) (f.ca (s.ctx c)) (s.ctx c).x.toNat = .ok (t, bs) → exec (.pcsum c f) s =
    s.completesC t c f { s.ctx c with a := BitVec.ofNat 64 (onesSum ((s.ctx c).a.toNat % 65536) bs) } (4 + ceilDiv (s.ctx
    c).x.toNat 16)) ∧
  (∀ (s t u : State) (c : Nat) (f : CForm) (bs key : List Nat), s.canIssue c f.len → f.ok = true → isIoc c = true → (s.ctx
    c).x.toNat ≤ 36 → s.coreBytes c (s.ctx c) (f.ca (s.ctx c)) (s.ctx c).x.toNat = .ok (t, bs) → t.coreBytes c (s.ctx c)
    (s.ctx c).y.toNat ((s.ctx c).x.toNat + 4) = .ok (u, key) → exec (.phash c f) s = s.completesC u c f
    { s.ctx c with a := BitVec.ofNat 64 (toeplitz key bs) } (4 + ceilDiv (s.ctx c).x.toNat 4)) ∧
  (∀ (s t : State) (c : Nat) (f : CForm) (bs : List Nat), s.canIssue c f.len → f.ok = true → isIoc c = true → s.coreBytes c
    (s.ctx c) (f.ca (s.ctx c)) 64 = .ok (t, bs) → exec (.pcls c f) s = (if t.draw.1 % 2 = 1 then .next (t.draw.2.setCtx c
    { s.ctx c with run := .waiting (.classRoom bs f.len (5 + extCost f.len)) t.now }) else s.completesC (t.draw.2.submit
    bs).1 c f { s.ctx c with a := BitVec.ofNat 64 (t.draw.2.submit bs).2.1 } (5 + (t.draw.2.submit bs).2.2)) ∧ exec (.pclst c
    f) s = (if t.draw.1 % 2 = 1 then s.completesC t.draw.2 c f ((s.ctx c).setFlag 2 false) 5 else s.completesC
    (t.draw.2.submit bs).1 c f (({ s.ctx c with a := BitVec.ofNat 64 (t.draw.2.submit bs).2.1 } : Ctx).setFlag 2 true) (5 +
    (t.draw.2.submit bs).2.2))) ∧
  (∀ (s t : State) (c len cost since : Nat) (w : List Nat), c < 321 → (((s.ctx c).run = .waiting (.mopRoom w len cost) since
    ∧ s.offerMop c (s.ctx c) w = some t) ∨ ((s.ctx c).run = .waiting (.cpdRoom w len cost) since ∧ s.offerCpd c (s.ctx c) w =
    some t) ∨ ((s.ctx c).run = .waiting (.ciphRoom w len cost) since ∧ s.takeCiph c w = t)) → exec (.enqueueStallRelease c) s
    = .next (t.resumeAs c { s.ctx c with run := .running } len cost since))

/-- Interrupts, and the start, stop and binding of a context, complete with their effect -/
def Obligations.ContextCommandsAndInterruptsComplete : Prop :=
  (∀ (s : State) (c cause : Nat), 288 ≤ c → c < 320 → (s.ctx c).run = .running → (s.ctx c).flag 10 = true → exec
    (.interruptTaken c cause) s = .next (s.takeExc c (s.ctx c) 0x10 cause 0 (s.ctx c).pc)) ∧
  (∀ (s : State) (c cause w : Nat), 288 ≤ c → c < 320 → ((s.ctx c).run = .waiting .bell w ∨ (∃ b m, (s.ctx c).run = .waiting
    (.bellT b m) w) ∨ ∃ p i v l, (s.ctx c).run = .waiting (.counter p i v l) w) → (s.ctx c).flag 10 = true → exec
    (.interruptTaken c cause) s = .next (s.takeExc c
    { s.ctx c with run := .running, cycle := (s.ctx c).cycle + BitVec.ofNat 64 (s.coreClocks c w) } 0x10 cause 0 (s.ctx
    c).pc)) ∧
  (∀ (s : State) (cause : Nat), (s.ctx 320).run = .running → (s.ctx 320).flag 10 = true → exec (.interruptTaken 320 cause) s
    = .next (({ s with reeveInts := s.reeveInts.erase cause } : State).takeExc 320 (s.ctx 320) 0x10 cause 0 (s.ctx 320).pc)) ∧
  (∀ (s : State) (c : Nat), s.pfOpen 15 = true → c < 288 → s.ctxBound c = true → (s.ctx c).alive = false → (s.ctx c).run ≠
    .halted → s.partState (s.ctxPart c) = .run → exec (.contextStart c) s = .next (s.startTc c)) ∧
  (∀ (s : State) (c : Nat), s.pfOpen 15 = true → c < 288 → (s.ctx c).alive = true → exec (.contextStop c) s = .next
    ((s.setCtx c { s.ctx c with run := .stopped, frozen := false, late := false, parked := none }).commitBells)) ∧
  (∀ (s : State) (c v : Nat), s.pfOpen 15 = true → c < 288 → (s.ctx c).alive = false → exec (.tcCtxBindWrite c true v) s =
    .next (s.wr (Reg.TC_CTX_PC_START_PC (ctxSlot c) (ctxCore c) (ctxIdx c)) (bits v 2 16))) ∧
  (∀ (s : State) (c v : Nat), s.pfOpen 15 = true → c < 288 → (s.ctx c).alive = false → s.bindBad c v = false → exec
    (.tcCtxBindWrite c false v) s = .next (s.rebind c v))

/-- A CPD starts, a held write is released, and a CPD completes, with their effects -/
def Obligations.CopiesStartAndComplete : Prop :=
  (∀ (s : State) (u : Nat) (d : Cpd), u < 22 → (s.copy u).flying < 8 → s.cpdChoice (s.copy u).startable = some d → cpdReplay
    d.words ≠ 2 → cpdKind d.words = 2 → s.cpdHit d = none → exec (.cpdStart u) s = .next (s.setCopy u
    ({ s.copy u with lastPart := d.part }.upd d.id (fun e => { e with stage := .inflight, held := none })))) ∧
  (∀ (s : State) (u : Nat) (d : Cpd), u < 22 → (s.copy u).flying < 8 → s.cpdChoice (s.copy u).startable = some d → cpdReplay
    d.words ≠ 2 → cpdKind d.words ≠ 2 → exec (.cpdStart u) s = .next (s.startRemote u d)) ∧
  (∀ (s t : State) (h : HeldWrite) (b : Nat × Nat) (bs : List (Nat × Nat)) (held : Nat), s.memSt.held.find? (fun g =>
    s.chunkFree g || decide (s.memSt.staged.length < 64)) = some h → t = (if s.chunkFree h = true then s else s.reachChunk
    h.region h.chunk true) → held = Tab.get 0 t.memSt.heldTime h.region + (s.now - h.since) → h.bytes = b :: bs → h.who =
    .other → exec .ilkWriteRelease s = .next
    ((({ t with memSt := { t.memSt with held := t.memSt.held.erase h, heldTime := Tab.set 0 t.memSt.heldTime h.region held } }
    : State).wr (Reg.MEM_ILK_STATUS_HELD_US h.region) (min 65535 (held / 4000))).write b.1 ((b :: bs).map Prod.snd) .other)) ∧
  (∀ (s t : State) (h : HeldWrite) (b : Nat × Nat) (bs : List (Nat × Nat)) (held : Nat), s.memSt.held.find? (fun g =>
    s.chunkFree g || decide (s.memSt.staged.length < 64)) = some h → t = (if s.chunkFree h = true then s else s.reachChunk
    h.region h.chunk true) → held = Tab.get 0 t.memSt.heldTime h.region + (s.now - h.since) → (h.bytes = [] ∧ b = (0, 0) ∧ bs
    = []) → h.who = .other → exec .ilkWriteRelease s = .next
    ((({ t with memSt := { t.memSt with held := t.memSt.held.erase h, heldTime := Tab.set 0 t.memSt.heldTime h.region held } }
    : State).wr (Reg.MEM_ILK_STATUS_HELD_US h.region) (min 65535 (held / 4000))).releaseCpds h)) ∧
  (∀ (s : State) (u p : Nat) (d : Cpd) (c : Nat), u < 22 → p < 64 → (s.copy u).startable.queue.find? (fun e => e.part == p) =
    some d → (s.copy u).restore = false → (decide (u < 18) && (s.slot u).fenced) = false → d.stage = .inflight → d.held =
    none → s.cpdHit d = none → cpdReplay d.words ≠ 2 → d.src = .context c → exec (.cpdComplete u p) s = .next ((s.copyRows u
    d).1.endCpd u d (if (s.copyRows u d).2 then 0 else 7)))

/-- Scrubbing, retirement and promotion of memory devices complete with their effect -/
def Obligations.MemoryScrubAndSparingComplete : Prop :=
  (∀ (s : State), s.on Reg.MEM_SCRUB_EN = true → exec (.patrolScrub .ok) s = .next
    { s with memSt := { s.memSt with scrubAt := (s.memSt.scrubAt + 1) % (gddrSize / 256) } } ∧ exec (.patrolScrub .corrected)
    s = .next (({ s with memSt := { s.memSt with scrubAt := (s.memSt.scrubAt + 1) % (gddrSize / 256) } } : State).corrected
    (s.pdOf (ldOf (s.memSt.scrubAt * 256))))) ∧
  (∀ (s : State), exec (.commonsScrub .corrected) s = .next
    (({ s with memSt := { s.memSt with commonsScrubAt := (s.memSt.commonsScrubAt + 1) % (commonsSize / 8) } } : State).memErr
    Reg.MEM_ERR_CORRECTED) ∧ exec (.commonsScrub .ok) s = .next
    { s with memSt := { s.memSt with commonsScrubAt := (s.memSt.commonsScrubAt + 1) % (commonsSize / 8) } }) ∧
  (∀ (s : State) (pd : Nat), pd < 24 → s.rd (Reg.MEM_DEV_ROLE pd) = 0 → (s.memSt.promoting ++ s.memSt.sudden).any (fun q =>
    q.1 == pd) = false → exec (.positionRetire pd) s = .next (if s.standbyFree (standbyOf pd) = true then s.setPromoting
    (s.memSt.promoting ++ [(pd, standbyOf pd)]) else s.noStandby pd)) ∧
  (∀ (s : State) (v : Nat), s.pfOpen 14 = true → bits (setBits v 5 1 1) 0 5 ≤ 23 → 1 ≤ bits (setBits v 5 1 1) 8 8 → bits
    (setBits v 5 1 1) 8 8 ≤ 64 → bit (setBits v 5 1 1) 6 = false → bit (setBits v 5 1 1) 5 = true → exec
    (.plannedPromotionStart v) s = .next (((s.wr Reg.MEM_PROMOTE_RATE (bits (setBits v 5 1 1) 8 8)).wr Reg.MEM_PROMOTE_PD
    (bits (setBits v 5 1 1) 0 5)).startPromotion (bits (setBits v 5 1 1) 0 5))) ∧
  (∀ (s : State) (q : Nat × Nat), s.pfOpen 14 = true → s.memSt.promoting.find? (fun q => q.1 == s.rd Reg.MEM_PROMOTE_PD) =
    some q → exec .promotionAbort s = .next (s.setPromoting (s.memSt.promoting.erase q))) ∧
  (∀ (s : State), s.pfOpen 14 = true → s.memSt.promoting.find? (fun q => q.1 == s.rd Reg.MEM_PROMOTE_PD) = none → exec
    .promotionAbort s = .next (s.setPromoting s.memSt.promoting.tail)) ∧
  (∀ (s : State) (pd sb : Nat) (r : List (Nat × Nat)), s.memSt.promoting = (pd, sb) :: r → exec .promotionSwitch s = .next
    (((s.setPromoting r).moveDevice pd sb).loseBadLines (s.rd (Reg.MEM_DEV_LD pd)))) ∧
  (∀ (s t : State) (pd : Nat), pd < 24 → s.rd (Reg.MEM_DEV_ROLE pd) = 0 → s.memSt.sudden.any (fun q => q.1 == pd) = false → t
    = (s.setPromoting (s.memSt.promoting.filter (fun q => q.1 != pd))).memErr Reg.MEM_ERR_TRAIN_FAIL → t.standbyFree
    (standbyOf pd) = true → exec (.suddenPromotion pd) s = .next
    (({ t with memSt := { t.memSt with sudden := t.memSt.sudden ++ [(pd, standbyOf pd)] } } : State).loseDevice (t.rd
    (Reg.MEM_DEV_LD pd))))

/-- Data-port reads, writes, aperture accesses and flushes complete with their effect -/
def Obligations.DataPortsComplete : Prop :=
  (∀ (s : State) (i : Nat), ((i = 0 ∧ s.pfOpen 17 = true) ∨ (i = 1 ∧ s.pwr.off = false)) → s.on (Reg.DPORT_CTRL_EN i) = true
    → s.dportOpen (s.dportAddr i) 4 = true → s.readable (s.dportAddr i) 4 = true → exec (.dportDataRead i) s = .next (((s.wr
    (Reg.DPORT_ADDR_ADDR i) ((s.dportAddr i + 4) / 4)).markSeen (s.dportAddr i) 4).portReturn i (s.bytes (s.dportAddr i) 4))) ∧
  (∀ (s : State) (i v : Nat), ((i = 0 ∧ s.pfOpen 17 = true) ∨ (i = 1 ∧ s.pwr.off = false)) → s.on (Reg.DPORT_CTRL_EN i) =
    true → s.dportOpen (s.dportAddr i) 4 = true → exec (.dportDataWrite i v) s = .next (s.dportStore i (leBytes 4 v))) ∧
  (∀ (s : State) (i n : Nat), ((i = 0 ∧ s.pfOpen 17 = true) ∨ (i = 1 ∧ s.pwr.off = false)) → n % 4 = 0 → exec
    (.dportApertureRead i n) s = .next (((s.dportRead i n).1.when (s.on (Reg.DPORT_CTRL_PREFETCH i) && s.on
    (Reg.DPORT_CTRL_EN i)) (fun t => t.setAhead i 4096)).portReturn i (s.dportRead i n).2)) ∧
  (∀ (s : State) (i : Nat) (bs : List Nat), ((i = 0 ∧ s.pfOpen 17 = true) ∨ (i = 1 ∧ s.pwr.off = false)) → bs.length % 4 = 0
    → s.on (Reg.DPORT_CTRL_EN i) = true → s.dportOpen (s.dportAddr i) bs.length = true → exec (.dportApertureWrite i bs) s =
    .next (s.dportStore i bs)) ∧
  (∀ (s : State) (i : Nat), ((i = 0 ∧ s.pfOpen 17 = true) ∨ (i = 1 ∧ s.pwr.off = false)) → exec (.dportFlush i) s = .next
    (s.setAhead i 0))

/-- Each partition command that the Reeve finds good is taken: busy, checked, and due at its edge -/
def Obligations.PartitionCommandsAreTakenAndChecked : Prop :=
  (∀ (s : State) (p : Nat) (tgt : Bool), s.pfOpen 4 = true → p < 64 → s.on (Reg.PART_CMD_STATUS_BUSY p) = false → s.partCmds
    = [] → (s.takeCmd (s.newCmd p 0x1 tgt false 0 0 none)).checkCmd (s.newCmd p 0x1 tgt false 0 0 none) = none → exec
    (.create p tgt) s = .next ((s.takeCmd (s.newCmd p 0x1 tgt false 0 0 none)).acceptCmd (s.newCmd p 0x1 tgt false 0 0 none)
    [])) ∧
  (∀ (s : State) (p : Nat) (tgt : Bool), s.pfOpen 4 = true → p < 64 → s.on (Reg.PART_CMD_STATUS_BUSY p) = false → s.partCmds
    = [] → (s.takeCmd (s.newCmd p 0x2 tgt false 0 0 none)).checkCmd (s.newCmd p 0x2 tgt false 0 0 none) = none → exec (.grant
    p tgt) s = .next ((s.takeCmd (s.newCmd p 0x2 tgt false 0 0 none)).acceptCmd (s.newCmd p 0x2 tgt false 0 0 none) [])) ∧
  (∀ (s : State) (p : Nat) (tgt : Bool), s.pfOpen 4 = true → p < 64 → s.on (Reg.PART_CMD_STATUS_BUSY p) = false → s.partCmds
    = [] → (s.takeCmd (s.newCmd p 0x3 tgt false 0 0 none)).checkCmd (s.newCmd p 0x3 tgt false 0 0 none) = none → exec
    (.bindVf p tgt) s = .next ((s.takeCmd (s.newCmd p 0x3 tgt false 0 0 none)).acceptCmd (s.newCmd p 0x3 tgt false 0 0 none)
    [])) ∧
  (∀ (s : State) (p : Nat) (tgt : Bool), s.pfOpen 4 = true → p < 64 → s.on (Reg.PART_CMD_STATUS_BUSY p) = false → s.partCmds
    = [] → (s.takeCmd (s.newCmd p 0x4 tgt false 0 0 none)).checkCmd (s.newCmd p 0x4 tgt false 0 0 none) = none → exec
    (.bindCtx p tgt) s = .next ((s.takeCmd (s.newCmd p 0x4 tgt false 0 0 none)).acceptCmd (s.newCmd p 0x4 tgt false 0 0 none)
    [])) ∧
  (∀ (s : State) (p : Nat) (tgt : Bool), s.pfOpen 4 = true → p < 64 → s.on (Reg.PART_CMD_STATUS_BUSY p) = false → s.partCmds
    = [] → (s.takeCmd (s.newCmd p 0x104 tgt false 0 0 none)).checkCmd (s.newCmd p 0x104 tgt false 0 0 none) = none → exec
    (.unbindCtx p tgt) s = .next ((s.takeCmd (s.newCmd p 0x104 tgt false 0 0 none)).acceptCmd (s.newCmd p 0x104 tgt false 0 0
    none) [])) ∧
  (∀ (s : State) (p : Nat) (tgt : Bool), s.pfOpen 4 = true → p < 64 → s.on (Reg.PART_CMD_STATUS_BUSY p) = false → s.partCmds
    = [] → (s.takeCmd (s.newCmd p 0x5 tgt false 0 0 none)).checkCmd (s.newCmd p 0x5 tgt false 0 0 none) = none → exec (.start
    p tgt) s = .next ((s.takeCmd (s.newCmd p 0x5 tgt false 0 0 none)).acceptCmd (s.newCmd p 0x5 tgt false 0 0 none) [])) ∧
  (∀ (s : State) (p : Nat) (tgt : Bool), s.pfOpen 4 = true → p < 64 → s.on (Reg.PART_CMD_STATUS_BUSY p) = false → s.partCmds
    = [] → (s.takeCmd (s.newCmd p 0x6 tgt false 0 0 none)).checkCmd (s.newCmd p 0x6 tgt false 0 0 none) = none → exec
    (.freeze p tgt) s = .next ((s.takeCmd (s.newCmd p 0x6 tgt false 0 0 none)).acceptCmd (s.newCmd p 0x6 tgt false 0 0 none)
    [])) ∧
  (∀ (s : State) (p : Nat) (tgt : Bool), s.pfOpen 4 = true → p < 64 → s.on (Reg.PART_CMD_STATUS_BUSY p) = false → s.partCmds
    = [] → (s.takeCmd (s.newCmd p 0x7 tgt false 0 0 none)).checkCmd (s.newCmd p 0x7 tgt false 0 0 none) = none → exec (.thaw
    p tgt) s = .next ((s.takeCmd (s.newCmd p 0x7 tgt false 0 0 none)).acceptCmd (s.newCmd p 0x7 tgt false 0 0 none) [])) ∧
  (∀ (s : State) (p : Nat) (tgt : Bool), s.pfOpen 4 = true → p < 64 → s.on (Reg.PART_CMD_STATUS_BUSY p) = false → s.partCmds
    = [] → (s.takeCmd (s.newCmd p 0x8 tgt false 0 0 none)).checkCmd (s.newCmd p 0x8 tgt false 0 0 none) = none → exec (.stop
    p tgt) s = .next ((s.takeCmd (s.newCmd p 0x8 tgt false 0 0 none)).acceptCmd (s.newCmd p 0x8 tgt false 0 0 none) [])) ∧
  (∀ (s : State) (p : Nat) (tgt : Bool), s.pfOpen 4 = true → p < 64 → s.on (Reg.PART_CMD_STATUS_BUSY p) = false → s.partCmds
    = [] → (s.takeCmd (s.newCmd p 0x9 tgt false 0 0 none)).checkCmd (s.newCmd p 0x9 tgt false 0 0 none) = none → exec
    (.resetWork p tgt) s = .next ((s.takeCmd (s.newCmd p 0x9 tgt false 0 0 none)).acceptCmd (s.newCmd p 0x9 tgt false 0 0
    none) [])) ∧
  (∀ (s : State) (p : Nat) (tgt : Bool), s.pfOpen 4 = true → p < 64 → s.on (Reg.PART_CMD_STATUS_BUSY p) = false → s.partCmds
    = [] → (s.takeCmd (s.newCmd p 0xA tgt false 0 0 none)).checkCmd (s.newCmd p 0xA tgt false 0 0 none) = none → exec
    (.destroy p tgt) s = .next ((s.takeCmd (s.newCmd p 0xA tgt false 0 0 none)).acceptCmd (s.newCmd p 0xA tgt false 0 0 none)
    [])) ∧
  (∀ (s : State) (p : Nat) (tgt : Bool), s.pfOpen 4 = true → p < 64 → s.on (Reg.PART_CMD_STATUS_BUSY p) = false → s.partCmds
    = [] → (s.takeCmd (s.newCmd p 0xB tgt false 0 0 none)).checkCmd (s.newCmd p 0xB tgt false 0 0 none) = none → exec
    (.logStart p tgt) s = .next ((s.takeCmd (s.newCmd p 0xB tgt false 0 0 none)).acceptCmd (s.newCmd p 0xB tgt false 0 0
    none) [])) ∧
  (∀ (s : State) (p : Nat) (tgt : Bool), s.pfOpen 4 = true → p < 64 → s.on (Reg.PART_CMD_STATUS_BUSY p) = false → s.partCmds
    = [] → (s.takeCmd (s.newCmd p 0x10B tgt false 0 0 none)).checkCmd (s.newCmd p 0x10B tgt false 0 0 none) = none → exec
    (.logSwap p tgt) s = .next ((s.takeCmd (s.newCmd p 0x10B tgt false 0 0 none)).acceptCmd (s.newCmd p 0x10B tgt false 0 0
    none) [])) ∧
  (∀ (s : State) (p : Nat) (tgt : Bool), s.pfOpen 4 = true → p < 64 → s.on (Reg.PART_CMD_STATUS_BUSY p) = false → s.partCmds
    = [] → (s.takeCmd (s.newCmd p 0x20B tgt false 0 0 none)).checkCmd (s.newCmd p 0x20B tgt false 0 0 none) = none → exec
    (.logStop p tgt) s = .next ((s.takeCmd (s.newCmd p 0x20B tgt false 0 0 none)).acceptCmd (s.newCmd p 0x20B tgt false 0 0
    none) [])) ∧
  (∀ (s : State) (p : Nat) (tgt : Bool), s.pfOpen 4 = true → p < 64 → s.on (Reg.PART_CMD_STATUS_BUSY p) = false → s.partCmds
    = [] → (s.takeCmd (s.newCmd p 0xC tgt false 0 0 none)).checkCmd (s.newCmd p 0xC tgt false 0 0 none) = none → exec (.save
    p tgt) s = .next ((s.takeCmd (s.newCmd p 0xC tgt false 0 0 none)).acceptCmd (s.newCmd p 0xC tgt false 0 0 none) [])) ∧
  (∀ (s : State) (p : Nat) (tgt : Bool) (blob : BlobRead) (major minor : Nat), s.pfOpen 4 = true → p < 64 → s.on
    (Reg.PART_CMD_STATUS_BUSY p) = false → s.partCmds = [] → (s.takeCmd (s.newCmd p 0xD tgt blob.digestOk major minor
    blob.foreign)).hostHeld p = false → (s.takeCmd (s.newCmd p 0xD tgt blob.digestOk major minor blob.foreign)).checkCmd
    (s.newCmd p 0xD tgt blob.digestOk major minor blob.foreign) = none → exec (.restore p tgt blob major minor) s = .next
    ((s.takeCmd (s.newCmd p 0xD tgt blob.digestOk major minor blob.foreign)).acceptCmd (s.newCmd p 0xD tgt blob.digestOk
    major minor blob.foreign) []))

/-- Commands at their edge, doorbells, queue records, slices and bitmap writes complete with their effect -/
def Obligations.PartitionEdgeAndDoorbellsComplete : Prop :=
  (∀ (s : State) (x : PartCmd) (r : List PartCmd), s.partCmds = x :: r → x.checked = true → x.bell ≤ s.count → s.cmdWaits x =
    false → s.partState x.part ∈ fromStates x.code → exec .partCmdEdge s = .next ((((({ s with partCmds := r } :
    State).applyCmd x).1.endCmd x.part (x.code % 256) (({ s with partCmds := r } : State).applyCmd x).2)).pumpCmds
    (((({ s with partCmds := r } : State).applyCmd x).1.endCmd x.part (x.code % 256) (({ s with partCmds := r } :
    State).applyCmd x).2)).partCmds.length)) ∧
  (∀ (s : State) (p f : Nat), p < 64 → s.partState p = .freezing → (s.part p).freezeAt = some f → f + s.rd
    (Reg.PART_LIMITS_FREEZE p) ≤ s.count → exec (.freezeSlow p) s = .next (s.partEvent p Reg.PART_EVENT_FREEZE_SLOW)) ∧
  (∀ (s : State) (p cls q v : Nat), p < 64 → cls < 4 → q < 4096 → v < 65536 → s.queueGranted p cls q = true → (s.queue p cls
    q).en = true → s.partState p = .run → (¬(s.quiesced p = true ∧ (s.queue p cls q).base < 2 ^ 63)) → exec (.doorbell p cls
    q v) s = .next (s.actDoorbell p cls q v)) ∧
  (∀ (s : State) (p cls q v : Nat), p < 64 → cls < 4 → q < 4096 → v < 65536 → s.queueGranted p cls q = true → (s.queue p cls
    q).en = true → s.partState p = .run → s.quiesced p = true → (s.queue p cls q).base < 2 ^ 63 → exec (.doorbell p cls q v)
    s = .next (s.setQueue p cls q { s.queue p cls q with latched := some v })) ∧
  (∀ (s : State) (p cls q v : Nat), p < 64 → cls < 4 → q < 4096 → v < 65536 → s.queueGranted p cls q = true → (s.queue p cls
    q).en = true → (s.partState p = .ready ∨ s.partState p = .freezing ∨ s.partState p = .frozen) → exec (.doorbell p cls q
    v) s = .next (s.setQueue p cls q { s.queue p cls q with latched := some v })) ∧
  (∀ (s : State) (p cls q v : Nat), s.pfOpen 4 = true → p < 64 → cls < 4 → q < 4096 → s.queueGranted p cls q = true →
    (s.queue p cls q).en = false → exec (.queueRecordWrite p cls q 0 v) s = .next (s.setQueue p cls q
    { s.queue p cls q with base := setBits (s.queue p cls q).base 0 32 (v % 2 ^ 32) }) ∧ exec (.queueRecordWrite p cls q 1 v)
    s = .next (s.setQueue p cls q { s.queue p cls q with base := setBits (s.queue p cls q).base 32 32 (v % 2 ^ 32) })) ∧
  (∀ (s : State) (p cls q v : Nat), s.pfOpen 4 = true → p < 64 → cls < 4 → q < 4096 → s.queueGranted p cls q = true → exec
    (.queueRecordWrite p cls q 4 v) s = .next (s.setQueue p cls q
    { s.queue p cls q with w4 := Nat.land (v % 2 ^ 32) (recordMask cls q 4) }) ∧ exec (.queueRecordWrite p cls q 6 v) s =
    .next (s.setQueue p cls q { s.queue p cls q with w6 := Nat.land (v % 2 ^ 32) (recordMask cls q 6) })) ∧
  (∀ (s : State) (p cls q v : Nat), s.pfOpen 4 = true → p < 64 → cls < 4 → q < 4096 → s.queueGranted p cls q = true →
    (s.queue p cls q).en = false → bit (v % 2 ^ 32) 16 = true → cls ≠ 3 → s.setupBad p (v % 2 ^ 32) = false →
    s.queueResetting p cls q = false → exec (.queueRecordWrite p cls q 2 v) s = .next (s.setQueue p cls q ((s.queue p cls
    q).setUp (bits (v % 2 ^ 32) 0 5) (bits (v % 2 ^ 32) 5 11) (if cls = 0 then (s.queue p cls q).w5 else 0)))) ∧
  (∀ (s : State) (p sl v : Nat), s.pfOpen 4 = true → p < 64 → sl < 1024 → sl < (s.part p).grants.slices → s.on
    (Reg.PART_SLICE_EN p sl) = false → bit v 20 = false → exec (.sliceWrite p sl v) s = .next (s.putSlice p sl v 0)) ∧
  (∀ (s : State) (p sl v : Nat), s.pfOpen 4 = true → p < 64 → sl < 1024 → sl < (s.part p).grants.slices → s.on
    (Reg.PART_SLICE_EN p sl) = false → bit v 20 = true → s.sliceOutside p (bits v 32 16) (bits v 48 16) = false → (List.range
    1024).any (fun i => i != sl && s.on (Reg.PART_SLICE_EN p i) && s.rd (Reg.PART_SLICE_PASID p i) == bits v 0 20) = false →
    exec (.sliceWrite p sl v) s = .next (s.putSlice p sl v 1)) ∧
  (∀ (s : State) (p : Nat) (w : BitmapWrite) (r : List BitmapWrite), p < 64 → (s.part p).bitmapDue = w :: r → s.hostHeld p =
    false → exec (.bitmapWrite p) s = .next ((s.putBitmap p w).setPart p { s.part p with bitmapDue := r }))

/-- Rejected, unsupported and configuration requests, poisoned writes, completions and their timeouts complete with their effect -/
def Obligations.HostRequestsComplete : Prop :=
  (∀ (s : State) (f off len : Nat) (w : Bool) (h : List Nat), f < 65 → (f ≠ 0 ∨ s.pci.dstate ≠ .d3hot) → exec
    (.barAccessRejected f off len w h) s = .next ((s.aer f "Completer Abort" (some h)).when (!w) (fun t => t.emit
    (.completion f 2 0 0)))) ∧
  (∀ (s : State) (off len : Nat) (w : Bool) (h : List Nat), s.pci.dstate = .d3hot → exec (.barAccessRejected 0 off len w h) s
    = .next ((s.aer 0 "Unsupported Request" (some h)).when (!w) (fun t => t.emit (.completion 0 1 0 0)))) ∧
  (∀ (s : State) (f : Nat) (posted : Bool) (h : List Nat), f < 65 → exec (.unsupportedRequest f posted h) s = .next ((s.aer f
    "Unsupported Request" (some h)).when (!posted) (fun t => t.emit (.completion f 1 0 0)))) ∧
  (∀ (s : State) (f off v : Nat), f < 65 → off < 4096 → s.pci.perst = false → s.pci.configured = true → s.funcPresent f =
    true → exec (.configRequest f off true v) s = .next ((s.emit (.completion f 0 0 0)).cfgWrite f (off / 4 * 4) v) ∧ exec
    (.configRequest f off false v) s = .next (s.emit (.completion f 0 (s.cfgRead f (off / 4 * 4)) 4))) ∧
  (∀ (s : State) (f : Nat) (h : List Nat), f < 65 → exec (.poisonedWrite f h) s = .next (s.aer f "Poisoned TLP Received"
    (some h))) ∧
  (∀ (s : State) (f tag : Nat) (r : HostRead) (bs h : List Nat), f < 65 → tag < 16384 → Tab.get none s.pci.quarantine tag =
    none → Tab.get none s.pci.reads tag = some r → s.hostLooped r.func = false → bs.length = r.len - r.got → r.got ≤ r.len →
    (∀ p cls q, r.use ≠ .entry p cls q) → exec (.completionReceived f tag 0 false bs h) s = .next (((s.freeRead tag).readData
    r.use r.got (bs.map (· % 256))).sendHeldReads)) ∧
  (∀ (s : State) (f tag p cls q : Nat) (r : HostRead) (bs h : List Nat), f < 65 → tag < 16384 → Tab.get none s.pci.quarantine
    tag = none → Tab.get none s.pci.reads tag = some r → s.hostLooped r.func = false → bs.length = r.len - r.got → r.got ≤
    r.len → r.use = .entry p cls q → exec (.completionReceived f tag 0 false bs h) s = .next (((s.freeRead tag).takeEntry p
    cls q ((List.range 16).map (fun i => leNat (((r.data ++ bs.map (· % 256)).drop (4 * i)).take 4))) none).sendHeldReads)) ∧
  (∀ (s u : State) (tag : Nat) (r : HostRead), tag < 16384 → Tab.get none s.pci.reads tag = some r → s.pci.cplDisable = false
    → u = s.atTime (r.issuedAt + cplTimer s.pci.cplTimeout) → exec (.completionTimeout tag) s = .next (((((((u.freeRead
    tag).quarantineTag tag r.func false).readFailed r.use).aer r.func "Completion Timeout" (some (r.header tag (u.on
    Reg.PCI_CPL_CFG_RO_DATA && Tab.get true u.pci.roEnable r.func)))).incSat Reg.PCI_CPL_STATS_TIMEOUTS 1).pciEvent
    Reg.PCI_EVENT_CPL_TIMEOUT).sendHeldReads)) ∧
  (∀ (s : State) (tag : Nat) (q : Quarantine), tag < 16384 → Tab.get none s.pci.quarantine tag = some q → q.endsAt ≤ s.now →
    exec (.quarantineEnd tag) s = .next
    (({ s with pci := { s.pci with quarantine := Tab.set none s.pci.quarantine tag none } } : State).sendHeldReads))

/-- Link training, power states, bus mastering and resets of the endpoint complete with their effect -/
def Obligations.LinkAndResetEventsComplete : Prop :=
  (∀ (s : State) (w sp : Nat) (fl : Bool), s.on Reg.PCI_STATUS_LINK_UP = true → s.trainable w sp = true → exec (.linkRetrain
    w sp fl) s = .next (s.trained w sp fl)) ∧
  (∀ (s : State) (w sp : Nat) (fl : Bool), s.on Reg.PCI_STATUS_LINK_UP = false → s.pci.perst = false → s.trainable w sp =
    true → s.on (Reg.TST_LOOP_ACTIVE 32) = false → exec (.hostLinkUp w sp fl) s = .next ((s.wr Reg.PCI_STATUS_LINK_UP
    1).trained w sp fl)) ∧
  (∀ (s : State), exec .d3hotEntry s = .next { s with pci := { s.pci with dstate := .d3hot } }) ∧
  (∀ (s : State) (f : Nat) (on : Bool), f < 65 → exec (.busMasterEnableChange f on) s = .next (s.setBme f on)) ∧
  (∀ (s : State) (v : Nat), 0 < v → v < 65 → exec (.vfFlr v) s = .next (s.vfFlr v)) ∧
  (∀ (s : State) (flr : Bool), exec (.pfReset flr) s = .next (s.pfReset flr)) ∧
  (∀ (s : State), s.on Reg.PCI_STATUS_LINK_UP = true → exec .linkDown s = .next s.linkLost) ∧
  (∀ (s : State) (low : Nat), s.rd Reg.HUB_FILTER_PERST ≤ low → s.pci.perst = false → exec (.perstAssert low) s = .next
    (s.hostReset)) ∧
  (∀ (s : State), exec .perstDeassert s = .next
    { s with pci := { s.pci with perst := false, training := true, configured := decide (5 ≤ s.rd Reg.HUB_START_STAGE) && !s.pwr.off } })

/-- ATTACH, DETACH, heartbeats, quiescing and resuming complete with their effect -/
def Obligations.DriverSessionCommandsComplete : Prop :=
  (∀ (s : State), s.pfOpen 0 = true → s.rd Reg.PCI_DRV_STATE ≠ 1 → s.fwRuns = true → exec .attach s = .next s.attached) ∧
  (∀ (s : State), s.pfOpen 0 = true → exec .detach s = .next ((s.wr Reg.PCI_DRV_STATE 2).quiesceSoon s.hbScope)) ∧
  (∀ (s : State), s.pfOpen 0 = true → s.rd Reg.PCI_DRV_STATE = 1 → exec .heartbeat s = .next
    { s with pci := { s.pci with hbSeen := true } }) ∧
  (∀ (s u : State), s.rd Reg.PCI_DRV_STATE = 1 → s.rv.hbHeld = false → u = s.atTime (s.pci.hbStart + s.pci.hbPeriod *
    4000000) → u.pci.hbSeen = true → exec .heartbeatPeriodEnd s = .next (u.wr Reg.PCI_HB_CFG_MISSES 0).nextPeriod) ∧
  (∀ (s u : State), s.rd Reg.PCI_DRV_STATE = 1 → s.rv.hbHeld = false → u = s.atTime (s.pci.hbStart + s.pci.hbPeriod *
    4000000) → u.pci.hbSeen = false → u.rd Reg.PCI_HB_CFG_MISSES < 2 → exec .heartbeatPeriodEnd s = .next ((u.wr
    Reg.PCI_HB_CFG_MISSES (u.rd Reg.PCI_HB_CFG_MISSES + 1)).pciEvent Reg.PCI_EVENT_HB_MISS).nextPeriod) ∧
  (∀ (s u : State), s.rd Reg.PCI_DRV_STATE = 1 → s.rv.hbHeld = false → u = s.atTime (s.pci.hbStart + s.pci.hbPeriod *
    4000000) → u.pci.hbSeen = false → 2 ≤ u.rd Reg.PCI_HB_CFG_MISSES → exec .heartbeatPeriodEnd s = .next ((((u.wr
    Reg.PCI_HB_CFG_MISSES 3).pciEvent Reg.PCI_EVENT_HB_MISS).wr Reg.PCI_DRV_STATE 3).quiesceSoon ((u.wr Reg.PCI_HB_CFG_MISSES
    3).pciEvent Reg.PCI_EVENT_HB_MISS).hbScope)) ∧
  (∀ (s : State), exec .quiesce s = .next s.quiesceNow) ∧
  (∀ (s : State) (m : Nat), s.pfOpen 0 = true → s.rd Reg.PCI_DRV_STATE = 1 → exec (.pciResume m) s = .next ((s.resumeSoon
    m).when (!s.on Reg.BELL_CTRL_EN) (fun t => t.resumeNow)))

/-- Packets of a connection in RTS are taken and sent with their effect -/
def Obligations.RktPacketsComplete : Prop :=
  (∀ (s : State) (k v : RktPkt), k.typ ≤ 6 → k.malformed (s.segOf k) = false → k.dstConn < 16384 → s.on (Reg.RKT_CONN_EN
    k.dstConn) = true → s.on (Reg.RKT_PEER_EN (s.rd (Reg.RKT_CONN_PEER k.dstConn))) = true → k.srcAddr = s.rd
    (Reg.RKT_PEER_ADDR (s.rd (Reg.RKT_CONN_PEER k.dstConn))) → k.srcV6 = s.on (Reg.RKT_PEER_V6 (s.rd (Reg.RKT_CONN_PEER
    k.dstConn))) → (s.conn k.dstConn).state = .rts → k.cepoch = (s.conn k.dstConn).epoch → (s.openCore k.dstConn).openPkt
    k.dstConn k = some v → exec (.rktPacketReceived k) s = .next ((s.openCore k.dstConn).rktTaken v.dstConn v)) ∧
  (∀ (s : State) (c psn j : Nat) (m : TxMsg), c < 16384 → (s.conn c).state = .rts → (s.conn c).nakHold = false → (s.conn
    c).resync = none → (s.conn c).sendPsn = psn → psn ≠ (s.conn c).nextPsn → seqLt psn (s.conn c).credit = true → s.msgOfPsn
    c psn = some m → m.missing = 0 → sdiff m.msn (s.conn c).firstMsn < 1024 → s.pickSlot c (s.conn c).lastSlot (min (s.seg c)
    (m.wireLen - (sdiff psn m.psn).toNat * s.seg c)) = some j → exec (.rktPacketSend c) s = .next ((s.putPacket c psn j 1
    false).setConn c { (s.putPacket c psn j 1 false).conn c with sendPsn := seqAdd psn 1, downSince := none })) ∧
  (∀ (s : State) (k v : RktPkt), k.typ = 7 → k.malformed (s.segOf k) = false → k.dstConn < 16384 → s.on (Reg.RKT_CONN_EN
    k.dstConn) = true → s.on (Reg.RKT_PEER_EN (s.rd (Reg.RKT_CONN_PEER k.dstConn))) = true → k.srcAddr = s.rd
    (Reg.RKT_PEER_ADDR (s.rd (Reg.RKT_CONN_PEER k.dstConn))) → k.srcV6 = s.on (Reg.RKT_PEER_V6 (s.rd (Reg.RKT_CONN_PEER
    k.dstConn))) → (s.conn k.dstConn).state = .rts → k.cepoch = (s.conn k.dstConn).epoch → (s.openCore k.dstConn).openPkt
    k.dstConn k = some v → exec (.ackReceived k) s = .next ((s.openCore k.dstConn).ackTaken v.dstConn v)) ∧
  (∀ (s : State) (c t : Nat), c < 16384 → (s.conn c).firstUnacked = some t → (s.conn c).state = .rts → exec (.ackDelayExpiry
    c) s = .next ((s.atTime (t + s.rd Reg.RKT_TIMING_ACK_DELAY * 500)).sendAck c 0)) ∧
  (∀ (s : State) (k v : RktPkt), k.typ = 0xC → k.malformed (s.segOf k) = false → k.dstConn < 16384 → s.on (Reg.RKT_CONN_EN
    k.dstConn) = true → s.on (Reg.RKT_PEER_EN (s.rd (Reg.RKT_CONN_PEER k.dstConn))) = true → k.srcAddr = s.rd
    (Reg.RKT_PEER_ADDR (s.rd (Reg.RKT_CONN_PEER k.dstConn))) → k.srcV6 = s.on (Reg.RKT_PEER_V6 (s.rd (Reg.RKT_CONN_PEER
    k.dstConn))) → (s.conn k.dstConn).state = .rts → 0 < (k.cepoch + 256 - (s.conn k.dstConn).epoch) % 256 → (k.cepoch + 256
    - (s.conn k.dstConn).epoch) % 256 < 128 → (s.openCore k.dstConn).openPkt k.dstConn k = some v → exec (.resyncReceived k)
    s = .next ((s.openCore k.dstConn).resyncTaken v.dstConn v))

/-- Retransmission, hold and path events of the transport complete with their effect -/
def Obligations.RktTimersAndProbesComplete : Prop :=
  (∀ (s : State) (c psn : Nat) (f : Flight), c < 16384 → (s.conn c).state = .rts → (s.conn c).resync = none → (s.conn
    c).flights.find? (fun g => g.psn == psn && !g.acked && !g.lost) = some f → exec (.rtoExpiry c psn) s = .next ((s.atTime
    (f.sentAt + 4 * s.rto c)).retransmit c psn f)) ∧
  (∀ (s u : State) (c : Nat), c < 16384 → (s.conn c).nakHold = true → u = s.atTime ((s.conn c).nakAt + s.rd
    Reg.RKT_TIMING_RTO_MIN * 4000) → exec (.nakHoldEnd c) s = .next ((((s.conn c).flights.filter (fun f => f.lost &&
    !f.acked)).map (·.psn)).foldl (fun t psn => t.resend c psn) (u.setConn c { u.conn c with nakHold := false }))) ∧
  (∀ (s : State) (c d : Nat), c < 16384 → (s.conn c).state = .rts → (s.nextUp c 0).isNone = true → (s.conn c).downSince =
    some d → exec (.allPathsDown c) s = .next ((s.atTime (d + s.rd Reg.RKT_TIMING_RTO_MAX * 4000000)).connError c none 3 5
    c)) ∧
  (∀ (s u : State) (i : Nat), i < 4096 → s.on (Reg.RKT_PATH_UP i) = false → s.on (Reg.FAB_PORT_STATUS_LINK_UP (s.rd
    (Reg.RKT_PATH_PORT i))) = true → u = s.atTime ((s.path i).probeAt + s.rd Reg.RKT_RETRY_PROBE_MS * 4000000) → exec
    (.pathProbe i) s = .next (u.probePath i)) ∧
  (∀ (s : State) (i : Nat) (k : RktPkt), i < 4096 → k.typ = 0xA → k.malformed 1024 = false → exec (.probeReceived i k) s =
    .next (s.sendControl i (RktPkt.plain 0xB [k.ext.getD 0 0, k.ext.getD 1 0, s.now % 2 ^ 32, 0]) k.srcAddr)) ∧
  (∀ (s : State) (i : Nat) (k : RktPkt), i < 4096 → k.typ = 0xB → k.malformed 1024 = false → exec (.probeRespReceived i k) s
    = .next ((s.probeDelay i k).probeAnswered i k))

/-- A connection is enabled and disabled with its effect -/
def Obligations.ConnectionsEnableAndDisable : Prop :=
  (∀ (s : State) (c v : Nat), s.pfOpen 6 = true → c < 16384 → s.on (Reg.RKT_CONN_EN c) = false → s.connBad c v = false → exec
    (.connEnable c v) s = .next (s.connReady c v)) ∧
  (∀ (s : State) (w : ConnWrite), s.pfOpen 6 = true → w.conn < 16384 → s.on (Reg.RKT_CONN_EN w.conn) = true → exec
    (.connDisable w) s = .next (((s.connReset w.conn).wr (Reg.RKT_CONN_EN w.conn) 0).connWrite w.conn w.value))

/-- Work requests are fetched, and WRITE, SEND, READ and ATOMIC are handed to their connection -/
def Obligations.WorkRequestsOnConnectionsComplete : Prop :=
  (∀ (s : State) (p q : Nat) (l : List Nat), p < 64 → q < 4096 → s.mayFetch p 0 q = true → s.headHeld p q = false → (l ≠ [] ∨
    2 ^ 63 ≤ (s.queue p 0 q).base) → ((s.queue p 0 q).base < 2 ^ 63 ∨ s.readableVia p true (s.queue p 0 q).entryAt 64 = true)
    → exec (.wqeFetch p q l) s = .next (s.takeWqe p q (s.ringWords p 0 q l) none)) ∧
  (∀ (s : State) (p q : Nat), p < 64 → q < 4096 → s.mayFetch p 0 q = true → s.headHeld p q = false → (s.queue p 0 q).base < 2
    ^ 63 → exec (.wqeFetch p q []) s = .next (s.hostRead p (s.pasidOf p (s.queue p 0 q).slice) (s.queue p 0 q).entryAt 64
    (.entry p 0 q))) ∧
  (∀ (s : State) (p q : Nat) (l : List Nat), p < 64 → q < 4096 → s.mayFetch p 1 q = true → (s.recvsOf p q).any (fun w =>
    decide (w.stage = .armed)) = false → (l ≠ [] ∨ 2 ^ 63 ≤ (s.queue p 1 q).base) → ((s.queue p 1 q).base < 2 ^ 63 ∨
    s.readableVia p true (s.queue p 1 q).entryAt 64 = true) → exec (.recv p q l) s = .next (s.takeRecv p q (s.ringWords p 1 q
    l) none)) ∧
  (∀ (s : State) (p q : Nat), p < 64 → q < 4096 → s.mayFetch p 1 q = true → (s.recvsOf p q).any (fun w => decide (w.stage =
    .armed)) = false → (s.queue p 1 q).base < 2 ^ 63 → exec (.recv p q []) s = .next (s.hostRead p (s.pasidOf p (s.queue p 1
    q).slice) (s.queue p 1 q).entryAt 64 (.entry p 1 q))) ∧
  (∀ (s : State) (p q idx : Nat) (w : Wqe) (c : Nat), p < 64 → q < 4096 → s.wqeReady p q idx 1 = some w → s.connFor p q =
    some c → s.mayHand c = true → s.payloadOk p (wqeLaddr w.words w.firing) (wqeLen w.words) = true → exec (.write p q idx) s
    = .next ((s.startWqe p q w).handMessage c
    { (TxMsg.new 1 [w.words.getD 10 0, wqeRaddr w.words w.firing, w.words.getD 11 0] (wqeLen w.words) (s.localRead p (wqeLaddr w.words w.firing) (wqeLen w.words)) (.wqe p q w.idx w.firing) (wqeLaddr w.words w.firing) (s.queue p 0 q).slice) with imm := wqeFld w.words 0 15 1 == 1 }
    (if wqeLaddr w.words w.firing < 2 ^ 63 ∧ wqeLen w.words ≠ 0 then some (wqeLaddr w.words w.firing) else none))) ∧
  (∀ (s : State) (p q idx : Nat) (w : Wqe) (c : Nat), p < 64 → q < 4096 → s.isRaw p q = false → s.wqeReady p q idx 2 = some w
    → s.connFor p q = some c → s.mayHand c = true → s.payloadOk p (wqeLaddr w.words w.firing) (wqeLen w.words) = true → exec
    (.send p q idx) s = .next ((s.startWqe p q w).handMessage c
    { (TxMsg.new 2 [w.words.getD 11 0] (wqeLen w.words) (s.localRead p (wqeLaddr w.words w.firing) (wqeLen w.words)) (.wqe p q w.idx w.firing) (wqeLaddr w.words w.firing) (s.queue p 0 q).slice) with imm := wqeFld w.words 0 15 1 == 1 }
    (if wqeLaddr w.words w.firing < 2 ^ 63 ∧ wqeLen w.words ≠ 0 then some (wqeLaddr w.words w.firing) else none))) ∧
  (∀ (s : State) (p q idx : Nat) (w : Wqe) (c : Nat), p < 64 → q < 4096 → s.wqeReady p q idx 3 = some w → s.connFor p q =
    some c → s.mayHand c = true → exec (.read p q idx) s = .next ((s.startWqe p q w).handMessage c (TxMsg.new 3 [w.words.getD
    10 0, wqeRaddr w.words w.firing, wqeLen w.words] (wqeLen w.words) [] (.wqe p q w.idx w.firing) (wqeLaddr w.words
    w.firing) (s.queue p 0 q).slice) none)) ∧
  (∀ (s : State) (p q idx : Nat) (w : Wqe) (c : Nat), p < 64 → q < 4096 → s.wqeReady p q idx 4 = some w → s.connFor p q =
    some c → s.mayHand c = true → exec (.atomic p q idx) s = .next ((s.startWqe p q w).handMessage c (TxMsg.new 5 [wqeFld
    w.words 0 16 4 + (if wqeLen w.words = 8 then 256 else 0), w.words.getD 10 0, wqeRaddr w.words w.firing, wqe64 w.words 12,
    wqe64 w.words 14] 0 [] (.wqe p q w.idx w.firing) (wqeLaddr w.words w.firing) (s.queue p 0 q).slice) none))

/-- REG, INVAL, NOP, COPY and raw SEND complete, and armed requests fire, with their effect -/
def Obligations.LocalWorkRequestsComplete : Prop :=
  (∀ (s : State) (p q idx : Nat) (w : Wqe), p < 64 → q < 4096 → s.wqeReady p q idx 5 = some w → s.regBad p q w = false → exec
    (.reg p q idx) s = .next (s.registerRegion p q w)) ∧
  (∀ (s : State) (p q idx : Nat) (w : Wqe), p < 64 → q < 4096 → s.wqeReady p q idx 6 = some w → (s.region p (bits
    (w.words.getD 10 0) 0 18)).valid = true → (s.region p (bits (w.words.getD 10 0) 0 18)).gen = bits (w.words.getD 10 0) 24
    8 → bits (w.words.getD 10 0) 18 6 = 0 → bits (w.words.getD 10 0) 0 18 < s.regionCount p → exec (.inval p q idx) s = .next
    (((s.startWqe p q w).setRegion p (bits (w.words.getD 10 0) 0 18)
    { s.region p (bits (w.words.getD 10 0) 0 18) with valid := false, inval := (s.region p (bits (w.words.getD 10 0) 0 18)).inval ++ [{ q := q, idx := w.idx, firing := w.firing, gen := (s.region p (bits (w.words.getD 10 0) 0 18)).gen, base := (s.region p (bits (w.words.getD 10 0) 0 18)).base, len := (s.region p (bits (w.words.getD 10 0) 0 18)).len, since := s.now }] }).settleInvals
    p)) ∧
  (∀ (s : State) (p q idx : Nat) (w : Wqe), p < 64 → q < 4096 → s.wqeReady p q idx 7 = some w → exec (.wqeNop p q idx) s =
    .next (s.endWqe p q w.idx w.firing 0 0)) ∧
  (∀ (s : State) (p q idx : Nat) (w : Wqe), p < 64 → q < 4096 → s.wqeReady p q idx 8 = some w → s.cpdRoom (s.cpdUnit (wqeCpd
    w.words w.firing)) p (wqeCpd w.words w.firing) = true → exec (.copy p q idx) s = .next ((s.startWqe p q w).acceptCpd
    (s.cpdUnit (wqeCpd w.words w.firing)) p true none (.wqe p q (w.idx + 65536 * w.firing)) (trunc 64 ((w.bell : Int) + sext
    16 (cpdFld (wqeCpd w.words w.firing) 1 0 16))) s.count (wqeCpd w.words w.firing))) ∧
  (∀ (s : State) (p q idx : Nat) (w : Wqe), p < 64 → q < 4096 → s.isRaw p q = true → s.wqeReady p q idx 2 = some w → wqeRaddr
    w.words w.firing = bits (wqeRaddr w.words w.firing) 0 5 + bits (wqeRaddr w.words w.firing) 8 3 * 256 → w.words.getD 10 0
    = 0 → wqeFld w.words 0 15 1 = 0 → s.portExists (bits (wqeRaddr w.words w.firing) 0 5) = true → 14 ≤ wqeLen w.words →
    wqeLen w.words + 4 ≤ s.rd (Reg.FAB_PORT_CTRL_MTU (bits (wqeRaddr w.words w.firing) 0 5)) → 2 ^ 63 ≤ wqeLaddr w.words
    w.firing → s.payloadOk p (wqeLaddr w.words w.firing) (wqeLen w.words) = true → exec (.rawSend p q idx) s = .next
    ((s.startWqe p q w).launchRaw p q w.idx w.firing (bits (wqeRaddr w.words w.firing) 0 5) (bits (wqeRaddr w.words w.firing)
    8 3) (s.localRead p (wqeLaddr w.words w.firing) (wqeLen w.words)))) ∧
  (∀ (s : State) (p q : Nat) (w : Wqe), p < 64 → q < 4096 → armedOf (s.wqesOf p q) = some w → s.trigMet p w = true → wqeArm
    w.words = 1 → exec (.armedFire p (.send q)) s = .next (s.setWqes p q (fireHead s.count (s.wqesOf p q)))) ∧
  (∀ (s : State) (p q : Nat) (w : Wqe), p < 64 → q < 4096 → armedOf (s.recvsOf p q) = some w → s.trigMet p w = true → wqeArm
    w.words = 1 → exec (.armedFire p (.recv q)) s = .next (s.setRecvs p q (fireHead s.count (s.recvsOf p q)))) ∧
  (∀ (s : State) (p q : Nat) (w : Wqe), p < 64 → q < 4096 → armedOf (s.wqesOf p q) = some w → s.trigMet p w = true → wqeArm
    w.words = 2 → exec (.qwaitFire p (.send q)) s = .next (s.setWqes p q (fireHead s.count (s.wqesOf p q)))) ∧
  (∀ (s : State) (p q : Nat) (w : Wqe), p < 64 → q < 4096 → armedOf (s.recvsOf p q) = some w → s.trigMet p w = true → wqeArm
    w.words = 2 → exec (.qwaitFire p (.recv q)) s = .next (s.setRecvs p q (fireHead s.count (s.recvsOf p q)))) ∧
  (∀ (s u : State) (p i : Nat) (x : Inval) (r : List Inval), p < 64 → i < 262144 → (s.region p i).inval = x :: r → u =
    s.atTime (x.since + s.rd Reg.RKT_RMA_CFG_INVAL_WAIT * 4000000) → exec (.invalWaitExpiry p i) s = .next
    ((((((s.conns.filter (fun e => e.2.part == p && (e.2.opens.any (fun m => m.boundTo i x.gen) || e.2.msgs.any (fun m =>
    m.boundTo i x.gen)))).map Prod.fst).foldl (fun t c => t.connBreak c none 3) u).when (decide (x.base < 2 ^ 63)) (fun t =>
    t.dropHeldInto p x.base x.len)).asyncEvent p 0x0B 0xFFFF (x.gen * 2 ^ 24 + i)).settleInvals p))

/-- Frames, pauses, storms, lanes and training of the fabric ports complete with their effect -/
def Obligations.FabricPortsComplete : Prop :=
  (∀ (s : State) (l : Nat) (b : List Nat) (occ : Nat), l < 32 → s.portExists l = true → s.on (Reg.FAB_PORT_STATUS_LINK_UP l)
    = true → 64 ≤ b.length + 4 → b.length + 4 ≤ s.rd (Reg.FAB_PORT_CTRL_MTU l) → beNat (b.take 6) = s.rd
    (Reg.FAB_PORT_MAC_MAC l) → beNat (b.take 6) ≠ 0x0180C2000001 → (s.occupy l (s.framePrio b) occ).asleep = false → exec
    (.frameReceived l b true occ false) s = .next ((s.occupy l (s.framePrio b) occ).pipeline l b)) ∧
  (∀ (s : State) (l m q : Nat), l < 32 → exec (.pfcFrameReceived l m q) s = .next ((s.each 8 (fun i t => t.pauseBy l i m
    q)).ageClasses l)) ∧
  (∀ (s : State) (l i : Nat), l < 32 → i < 8 → Tab.get 0 (s.port l).paused i ≠ 0 → exec (.pfcPauseEnd l i) s = .next
    ((s.atTime (Tab.get 0 (s.port l).pauseEnd i)).endPause l i)) ∧
  (∀ (s : State) (l i : Nat), l < 32 → i < 8 → Tab.get 0 (s.port l).stormEnd i ≠ 0 → exec (.pfcStormEnd l i) s = .next
    ((s.atTime (Tab.get 0 (s.port l).stormEnd i - 1)).endStorm l i)) ∧
  (∀ (s : State) (l i : Nat), l < 32 → i < 8 → Tab.get 0 (s.port l).paused i ≠ 0 → s.storming l i = false → s.stormAt l i <
    Tab.get 0 (s.port l).pauseEnd i → exec (.pfcStorm l i) s = .next ((s.atTime (s.stormAt l i)).storm l i)) ∧
  (∀ (s : State) (n : Nat), n < 32 → s.portExists (s.portOfLane n) = true → bit (s.rd (Reg.FAB_PORT_STATUS_LANES
    (s.portOfLane n))) (n % 4) = true → s.on (Reg.TST_LOOP_ACTIVE (s.portOfLane n)) = false → exec (.laneFail ⟨n, .lost⟩) s =
    .next (if s.rd (Reg.FAB_PORT_STATUS_WIDTH (s.portOfLane n)) = 1 then (s.laneLost n).portDown (s.portOfLane n) else
    (s.laneLost n).startReform (s.portOfLane n))) ∧
  (∀ (s : State) (n e k : Nat), n < 32 → s.portExists (s.portOfLane n) = true → s.rd Reg.FAB_LANE_LIMITS_SYM_LIMIT < e → exec
    (.laneFail ⟨n, .symbols e k⟩) s = .next ((s.inc (Reg.FAB_FEC_CORR_COUNT (s.portOfLane n)) k).laneFail n)) ∧
  (∀ (s : State) (l m : Nat) (lanes : List Nat), l < 32 → s.on (Reg.FAB_PORT_STATUS_LINK_UP l) = false → s.on
    (Reg.FAB_PORT_STATUS_TRAINING l) = true → s.reformLanes l m = some lanes → exec (.portReformed l ⟨true, m⟩) s = .next
    (((s.linkOn l lanes).fabEvent l Reg.FAB_PORT_EVENT_REFORMED).portAsync l 2 (l + 256 * lanes.length))) ∧
  (∀ (s : State) (l : Nat), s.pfOpen 5 = true → l < 32 → s.portExists l = true → s.on (Reg.FAB_PORT_CTRL_EN l) = true → exec
    (.fabRetrainRestore l) s = .next (((s.portPathsDown l).setPort l
    { (s.portPathsDown l).port l with retraining := true }).tryRetrain l)) ∧
  (∀ (s u : State) (l : Nat), l < 32 → u = s.tryRetrain l → u.on (Reg.FAB_PORT_STATUS_TRAINING l) = true → exec
    (.retrainComplete l true) s = .next ((u.wr (Reg.FAB_PORT_STATUS_FAILED l) (Nat.land (u.rd (Reg.FAB_PORT_STATUS_FAILED l))
    (15 - laneMask (u.portLanes l)))).linkOn l (u.portLanes l))) ∧
  (∀ (s : State) (v : Nat), s.pfOpen 5 = true → exec (.fabCfgWrite v) s = .next (s.writeQuads v)) ∧
  (∀ (s : State) (l : Nat), l < 32 → s.portExists l = true → s.on (Reg.FAB_PORT_CTRL_EN l) = true → exec (.fabPortLinkUp l) s
    = .next (s.linkOn l (s.portLanes l)))

/-- Classifier rules, hash keys, raw ranges, fragments, shapers, frame selection and almanacs complete with their effect -/
def Obligations.PacketTablesAndSchedulerComplete : Prop :=
  (∀ (s : State) (r v : Nat), s.pfOpen 7 = true → r < 4096 → (bits v 6 1 = 0 ∨ valOutsideMask (s.rd (Reg.PKT_RULE_VAL_MASK
    r)) = false) → exec (.ruleWrite r 0 v) s = .next (((((s.wr (Reg.PKT_RULE_PART r) (bits v 0 6)).wr (Reg.PKT_RULE_VALID r)
    (bits v 6 1)).wr (Reg.PKT_RULE_HASH r) (bits v 7 1)).wr (Reg.PKT_RULE_ACTION r) (bits v 8 2)).wr (Reg.PKT_RULE_QUEUE r)
    (bits v 10 12))) ∧
  (∀ (s : State) (r i v : Nat), s.pfOpen 7 = true → r < 4096 → 4 ≤ i → i < 16 → s.on (Reg.PKT_RULE_VALID r) = false → exec
    (.ruleWrite r i v) s = .next (s.wr (Reg.PKT_RULE_VAL_MASK r) (setBits (s.rd (Reg.PKT_RULE_VAL_MASK r)) (32 * (i - 4)) 32
    v))) ∧
  (∀ (s : State) (p v : Nat), s.pfOpen 7 = true → p < 64 → exec (.hashCommit p v) s = .next (s.writeHash p 0 (setBits v 31 1
    1))) ∧
  (∀ (s : State) (p v : Nat), s.pfOpen 7 = true → p < 64 → (s.partState p = .free ∨ s.partState p = .ready) → bits v 0 12 +
    bits v 12 13 ≤ s.rd (Reg.PART_QCOUNT_QP p) → exec (.rawConfigWrite p v) s = .next ((s.wr (Reg.PKT_RAW_BASE p) (bits v 0
    12)).wr (Reg.PKT_RAW_COUNT p) (bits v 12 13))) ∧
  (∀ (s u : State) (f : HeldFrag) (r : List HeldFrag), s.fab.heldFrags = f :: r → u = s.atTime (f.heldAt + s.rd
    Reg.PKT_FRAG_CFG_HOLD * 4000) → exec .fragmentHoldExpiry s = .next (((({ u with fab := { u.fab with heldFrags := r } } :
    State).expireFrag f.bytes)).fragStatus)) ∧
  (∀ (s u : State) (i : Nat) (e : FragEntry), s.fab.frags[i]? = some e → u = s.atTime (e.lastUse + s.rd Reg.PKT_FRAG_CFG_LIFE
    * 4000) → exec (.fragmentEntryExpiry i) s = .next (({ u with fab := { u.fab with frags := u.fab.frags.eraseIdx i } } :
    State).fragStatus)) ∧
  (∀ (s : State), exec .shaperRefill s = .next (s.atTime s.refillAt).refillAll.ageAll) ∧
  (∀ (s : State) (l i : Nat), l < 32 → s.portExists l = true → s.on (Reg.FAB_PORT_STATUS_LINK_UP l) = true → ((s.ageClasses
    l).port l).waiting.findIdx? (fun f => f.cls == 8) = some i → exec (.txFrameSelect l) s = .next (((s.ageClasses
    l).startFrame l i 0).ageClasses l)) ∧
  (∀ (s : State) (l : Nat), s.pfOpen 8 = true → l < 32 → s.on (Reg.SCH_ALM_CMD_ARMED l) = false → s.count < s.rd
    (Reg.SCH_ALM_TAKE_BELL l) → (s.on (Reg.SCH_ALM_CMD_SH_EN l) && !almOk (s.shadowAlm l)) = false → exec (.almanacArm l) s =
    .next (s.wr (Reg.SCH_ALM_CMD_ARMED l) 1)) ∧
  (∀ (s : State) (l : Nat), s.pfOpen 8 = true → l < 32 → exec (.almanacCancel l) s = .next (s.wr (Reg.SCH_ALM_CMD_ARMED l)
    0)) ∧
  (∀ (s : State) (l : Nat), l < 32 → s.on (Reg.SCH_ALM_CMD_ARMED l) = true → s.rd (Reg.SCH_ALM_TAKE_BELL l) ≤ s.count → exec
    (.almanacTakeover l) s = .next ((s.takeOver l).ageClasses l)) ∧
  (∀ (s : State) (l : Nat), l < 32 → s.on (Reg.SCH_ALM_STATUS_EN l) = true → exec (.almanacEntryAdvance l) s = .next
    (((s.atTime (s.almAdvanceAt l)).wr (Reg.SCH_ALM_STATUS_ENTRY l) ((s.atTime (s.almAdvanceAt l)).almEntry l)).ageClasses
    l))

/-- Volumes, fetched commands, reads, writes, flushes, trims, logs, dispatch, ends and promotion complete with their effect -/
def Obligations.BlockCommandsComplete : Prop :=
  (∀ (s : State) (v x : Nat), s.pfOpen 9 = true → v < 1024 → s.on (Reg.BLK_VOL_EN v) = false → exec (.volumeWrite v 1 x) s =
    .next (s.wr (Reg.BLK_VOL_NSID v) x) ∧ exec (.volumeWrite v 2 x) s = .next (s.wr (Reg.BLK_VOL_BASE v) (setBits (s.rd
    (Reg.BLK_VOL_BASE v)) 0 32 x)) ∧ exec (.volumeWrite v 5 x) s = .next (s.wr (Reg.BLK_VOL_CAP v) (setBits (s.rd
    (Reg.BLK_VOL_CAP v)) 32 32 x))) ∧
  (∀ (s : State) (v x : Nat), s.pfOpen 9 = true → v < 1024 → s.on (Reg.BLK_VOL_EN v) = true → bit x 6 = false → s.blk.cmds =
    [] → exec (.volumeWrite v 0 x) s = .next (s.wr (Reg.BLK_VOL_EN v) 0)) ∧
  (∀ (s : State) (w l : List Nat) (t : State) (p q : Nat), s.blkPick = some (t, p, q) → (w ≠ [] ∨ 2 ^ 63 ≤ (t.queue p 3
    q).base) → ((t.queue p 3 q).base < 2 ^ 63 ∨ t.readableVia p true (t.queue p 3 q).entryAt 64 = true) → exec (.bscFetch w
    l) s = .next (t.takeBsc p q (t.ringWords p 3 q w) l none)) ∧
  (∀ (s : State) (l : List Nat) (t : State) (p q : Nat), s.blkPick = some (t, p, q) → (t.queue p 3 q).base < 2 ^ 63 → exec
    (.bscFetch [] l) s = .next (t.hostRead p (t.pasidOf p (t.queue p 3 q).slice) (t.queue p 3 q).entryAt 64 (.entry p 3 q))) ∧
  (∀ (s : State) (id : Nat) (d : BlkCmd) (bs : List Nat), s.blkCmd id = some d → bscOp d.words = 1 → s.backing d ≠ 2 →
    d.stage = .dispatched → d.landed = false → d.kill = none → s.volKeyless d = false → exec (.blkRead id bs) s = .next
    (((s.setBlk { d with landed := true }).volCore d).toBuffer d ((s.setBlk { d with landed := true }).volCrypt false d
    ((List.range (s.bscBytes d.words)).map (fun i => bs.getD i 0 % 256))))) ∧
  (∀ (s : State) (id : Nat) (d : BlkCmd) (a n : Nat), s.blkCmd id = some d → bscOp d.words = 2 → d.stage = .fetched →
    d.missing = 0 → s.volKeyless d = false → bscPieces d.words d.list (s.bscBytes d.words) = [(a, n)] → 2 ^ 63 ≤ a →
    s.readableVia d.part true (a % 2 ^ 48) n = true → exec (.blkWrite id) s = .next ((s.setBlk
    { d with stage := .ready }).stageBytes (d.id * 2 ^ 21) ((s.setBlk { d with stage := .ready }).localRead d.part a n))) ∧
  (∀ (s : State) (id : Nat) (d : BlkCmd), s.blkCmd id = some d → bscOp d.words = 3 → d.stage = .fetched → s.volKeyless d =
    false → exec (.flush id) s = .next (if s.backing d = 2 then s.blkEnd d 0 0 else s.setBlk { d with stage := .ready })) ∧
  (∀ (s : State) (id : Nat) (d : BlkCmd), s.blkCmd id = some d → bscOp d.words = 4 → d.stage = .fetched → s.volKeyless d =
    false → exec (.trim id) s = .next (if s.on (Reg.BLK_VOL_TRIM_ZERO (bscVol d.words)) then s.setBlk
    { d with stage := .ready } else s.blkEnd d 0 0)) ∧
  (∀ (s : State) (id : Nat) (d : BlkCmd) (bs : List Nat), s.blkCmd id = some d → bscOp d.words = 5 → d.stage = .dispatched →
    d.landed = false → d.kill = none → exec (.getLog id bs) s = .next ((s.setBlk { d with landed := true }).toBuffer d
    ((List.range (s.bscBytes d.words)).map (fun i => bs.getD i 0 % 256)))) ∧
  (∀ (s : State) (m : Nat) (d : BlkCmd), m < 2 → s.dispatchNext m = some d → s.volKeyless d = false → (bscOp d.words ≠ 2 ∨
    s.stagingBad d = false) → s.on (Reg.MED_STATUS_READY m) = true → s.ssdLoad m < s.rd (Reg.MED_CFG_DEPTH m) → exec
    (.bscDispatch m) s = .next (((s.settleTests.setBlk { d with stage := .dispatched, sentAt := s.now }).when (bscOp d.words
    == 2) (fun t => t.volCore d)).emit (.nvme m (s.nvmeWords d).1 (s.nvmeWords d).2))) ∧
  (∀ (s : State) (d : BlkCmd), s.dispatchNext 2 = some d → s.volKeyless d = false → (bscOp d.words ≠ 2 ∨ s.stagingBad d =
    false) → exec (.bscDispatch 2) s = .next (s.dispatchRemote d)) ∧
  (∀ (s : State) (id : Nat) (d : BlkCmd) (n : Nat), s.blkCmd id = some d → d.stage = .dispatched → s.backing d ≠ 2 → bscOp
    d.words ≠ 6 → (n ≠ 0 ∨ (bscOp d.words = 3 ∧ s.blkHeld d.id = false)) → exec (.backingComplete id n) s = .next (s.blkEnd d
    (if n ≠ 0 then 7 else 0) n)) ∧
  (∀ (s : State) (p q i : Nat) (d : BlkCmd), p < 64 → q < 2048 → (s.blk.cmds.find? (fun d => d.part == p && d.queue == q &&
    d.idx == i && !d.urgent && decide (d.stage = .listing ∨ d.stage = .fetched ∨ d.stage = .ready)) = some d) → exec
    (.agePromotion p q i) s = .next ((((s.setBlk { d with urgent := true }).atTime (d.age + s.rd Reg.BLK_CFG_AGE_LIMIT *
    400000)).blkEvent Reg.BLK_EVENT_PROMOTED).incSat Reg.BLK_STATS_PROMOTED 1))

/-- Media timeouts, faults, link losses, resets and self-tests complete with their effect -/
def Obligations.MediaEventsComplete : Prop :=
  (∀ (s : State) (m t : Nat), m < 2 → s.ssdDue m = some t → exec (.ssdTimeout m) s = .next (((s.atTime t).resetMedia
    m).medEvent m Reg.MED_EVENT_TIMEOUT)) ∧
  (∀ (s : State) (m : Nat), m < 2 → exec (.ssdControllerFatal m) s = .next ((s.resetMedia m).medEvent m
    Reg.MED_EVENT_CTRL_FATAL) ∧ exec (.mediaLinkDown m) s = .next (((s.wr (Reg.MED_STATUS_LINK_UP m) 0).resetMedia
    m).medEvent m Reg.MED_EVENT_LINK_DOWN)) ∧
  (∀ (s : State) (m : Nat), s.pfOpen 10 = true → m < 2 → exec (.mediaReset m) s = .next (s.resetMedia m)) ∧
  (∀ (s : State) (m : Nat) (l : List Namespace) (w sp : Nat), m < 2 → s.restricted = false → s.on (Reg.MED_CTRL_EN m) = true
    → exec (.mediaResetDone m l w sp) s = .next ((s.mediaBack m l (min w (s.mediaLanes m)) (min sp (s.rd
    (Reg.MED_CTRL_SPEED_CAP m)))).when (decide (w < s.mediaLanes m) || decide (sp < s.rd (Reg.MED_CTRL_SPEED_CAP m))) (fun t
    => t.medEvent m Reg.MED_EVENT_DOWNTRAINED))) ∧
  (∀ (s : State) (id : Nat) (d : BlkCmd), s.blkCmd id = some d → bscOp d.words = 6 → d.stage = .fetched → s.on
    (Reg.MED_STATUS_READY (s.backing d)) = true → bscFld d.words 10 16 4 ≠ 15 → Tab.get none s.blk.tests (s.backing d) = none
    → s.volKeyless d = false → exec (.selfTest id) s = .next (s.startTest d (s.backing d) (bscFld d.words 10 16 4))) ∧
  (∀ (s : State) (m r : Nat), m < 2 → (Tab.get none s.blk.tests m).isSome = true → exec (.selfTestResult m r) s = .next
    ((s.settleTests.wr (Reg.MED_TEST_RESULT m) r).endTest m (if r = 0 then 0 else 7) 0)) ∧
  (∀ (s : State) (m : Nat) (x : SsdTest), m < 2 → Tab.get none s.settleTests.blk.tests m = some x → (s.testLimit m x ≤ x.time
    ∨ s.ssdLoad m = 0) → exec (.selfTestTimeout m) s = .next (((s.atTime (s.now + (s.testLimit m x -
    x.time))).settleTests.emit (.nvme m 0x14 [0, 15])).endTest m 0xA 0))

/-- Cipher requests are fetched and started, and the engine's operations and their ends complete with their effect -/
def Obligations.CipherRequestsComplete : Prop :=
  (∀ (s : State) (p q : Nat) (w : List Nat), p < 64 → q < 2048 → s.mayFetch p 3 (2048 + q) = true → (w ≠ [] ∨ 2 ^ 63 ≤
    (s.queue p 3 (2048 + q)).base) → ((s.queue p 3 (2048 + q)).base < 2 ^ 63 ∨ s.readableVia p true (s.queue p 3 (2048 +
    q)).entryAt 64 = true) → exec (.cipherFetch p q w) s = .next (s.takeCipher p q (s.ringWords p 3 (2048 + q) w) none)) ∧
  (∀ (s : State) (p q : Nat), p < 64 → q < 2048 → s.mayFetch p 3 (2048 + q) = true → (s.queue p 3 (2048 + q)).base < 2 ^ 63 →
    exec (.cipherFetch p q []) s = .next (s.hostRead p (s.pasidOf p (s.queue p 3 (2048 + q)).slice) (s.queue p 3 (2048 +
    q)).entryAt 64 (.entry p 3 (2048 + q)))) ∧
  (∀ (s : State) (r : CipherReq), s.ciNext = some r →
    ({ s with ciph := { s.ciph with lastPart := r.part, lastQueue := Tab.set 65536 s.ciph.lastQueue r.part r.queue } } :
    State).ciStartBad r = none → exec .cipherStart s = .next
    (({ s with ciph := { s.ciph with lastPart := r.part, lastQueue := Tab.set 65536 s.ciph.lastQueue r.part r.queue } } :
    State).startOn r)) ∧
  (∀ (s : State) (id core : Nat) (r : CipherReq), s.ciReq id = some r → r.stage = .started core → ciOp r.words = 1 →
    r.missing = 0 → (ciInputs r.words).any (fun i => decide (2 ^ 63 ≤ i.2.1) && !s.readableVia r.part true (i.2.1 % 2 ^ 48)
    i.2.2) = false → ciBegins r.words = true → exec (.gcmEnc id) s = .next ((s.nonce core r.part).2.elim (s.nonce core
    r.part).1 (fun v => (s.nonce core r.part).1.gcmSeal r v.1 v.2))) ∧
  (∀ (s : State) (id core : Nat) (r : CipherReq) (c : GcmCtx), s.ciReq id = some r → r.stage = .started core → ciOp r.words =
    2 → r.missing = 0 → (ciInputs r.words).any (fun i => decide (2 ^ 63 ≤ i.2.1) && !s.readableVia r.part true (i.2.1 % 2 ^
    48) i.2.2) = false → s.gcmBegin r true ((s.ciInput r 3).take 12) (r.key.elim [] (·.mat)) = .ok c → exec (.gcmDec id) s =
    .next (if ciEnds r.words && gcmTag (keySchedule (r.key.elim [] (·.mat))) c.iv (c.after (r.key.elim [] (·.mat)) (s.ciInput
    r 0)).y (c.after (r.key.elim [] (·.mat)) (s.ciInput r 0)).aad (c.after (r.key.elim [] (·.mat)) (s.ciInput r 0)).text !=
    ((s.ciInput r 3).drop 16).take 16 then ((s.ciWrite r (ciDst r.words) (gctr (keySchedule (r.key.elim [] (·.mat))) c.ctr
    (s.ciInput r 0))).ciWrite r (ciDst r.words) (List.replicate (s.ciInput r 0).length 0)).ciDone r 6 else ((s.ciWrite r
    (ciDst r.words) (gctr (keySchedule (r.key.elim [] (·.mat))) c.ctr (s.ciInput r 0))).gcmKeep r (c.after (r.key.elim []
    (·.mat)) (s.ciInput r 0))).ciDone r 0)) ∧
  (∀ (s : State) (id core : Nat) (r : CipherReq), s.ciReq id = some r → r.stage = .started core → ciOp r.words = 3 →
    r.missing = 0 → (ciInputs r.words).any (fun i => decide (2 ^ 63 ≤ i.2.1) && !s.readableVia r.part true (i.2.1 % 2 ^ 48)
    i.2.2) = false → exec (.xtsEnc id) s = .next ((s.ciWrite r (ciDst r.words) (xts true (r.key.elim [] (·.mat)) (ciUnit
    r.words) (ciAux r.words) (s.ciInput r 0))).ciDone r 0)) ∧
  (∀ (s : State) (id core : Nat) (r : CipherReq), s.ciReq id = some r → r.stage = .started core → ciOp r.words = 4 →
    r.missing = 0 → (ciInputs r.words).any (fun i => decide (2 ^ 63 ≤ i.2.1) && !s.readableVia r.part true (i.2.1 % 2 ^ 48)
    i.2.2) = false → exec (.xtsDec id) s = .next ((s.ciWrite r (ciDst r.words) (xts false (r.key.elim [] (·.mat)) (ciUnit
    r.words) (ciAux r.words) (s.ciInput r 0))).ciDone r 0)) ∧
  (∀ (s : State) (id core : Nat) (r : CipherReq), s.ciReq id = some r → r.stage = .started core → ciOp r.words = 5 →
    r.missing = 0 → (ciInputs r.words).any (fun i => decide (2 ^ 63 ≤ i.2.1) && !s.readableVia r.part true (i.2.1 % 2 ^ 48)
    i.2.2) = false → ciBegins r.words = true → ciEnds r.words = true → exec (.hash id) s = .next ((s.ciWrite r (ciDst
    r.words) (squeeze (finish keccakZero (if ciShake r.words then 0x1F else 0x06) (s.ciInput r 0)) (ciOut r.words))).ciDone r
    0)) ∧
  (∀ (s : State) (id core : Nat) (r : CipherReq), s.ciReq id = some r → r.stage = .started core → ciOp r.words = 6 →
    r.missing = 0 → (ciInputs r.words).any (fun i => decide (2 ^ 63 ≤ i.2.1) && !s.readableVia r.part true (i.2.1 % 2 ^ 48)
    i.2.2) = false → (s.keySlot r.part (ciSlot r.words)).full = false → exec (.load id) s = .next ((s.setKeySlot r.part
    (ciSlot r.words)
    { full := true, era := (s.keySlot r.part (ciSlot r.words)).era, typ := ciParam r.words, usage := ciUsage r.words, gen := ((s.keySlot r.part (ciSlot r.words)).gen + 1) % 256, mat := s.ciInput r 0 }).ciDone
    r 0)) ∧
  (∀ (s : State) (id core : Nat) (r : CipherReq), s.ciReq id = some r → r.stage = .started core → ciOp r.words = 7 →
    r.missing = 0 → (ciInputs r.words).any (fun i => decide (2 ^ 63 ≤ i.2.1) && !s.readableVia r.part true (i.2.1 % 2 ^ 48)
    i.2.2) = false → (s.keySlot r.part (ciSlot r.words)).full = false → exec (.genkey id) s = .next (((s.random (keyBytes
    (ciParam r.words))).1.setKeySlot r.part (ciSlot r.words)
    { full := true, era := (s.keySlot r.part (ciSlot r.words)).era, typ := ciParam r.words, usage := ciUsage r.words, gen := ((s.keySlot r.part (ciSlot r.words)).gen + 1) % 256, mat := (s.random (keyBytes (ciParam r.words))).2 }).ciDone
    r 0)) ∧
  (∀ (s : State) (id core : Nat) (r : CipherReq), s.ciReq id = some r → r.stage = .started core → ciOp r.words = 8 →
    r.missing = 0 → (ciInputs r.words).any (fun i => decide (2 ^ 63 ≤ i.2.1) && !s.readableVia r.part true (i.2.1 % 2 ^ 48)
    i.2.2) = false → exec (.erase id) s = .next ((s.eraseSlot r.part (ciSlot r.words)).ciDone r 0)) ∧
  (∀ (s : State) (id core : Nat) (r : CipherReq) (pk : List Nat) (x : KeySlot), s.ciReq id = some r → r.stage = .started core
    → ciOp r.words = 9 → r.missing = 0 → (ciInputs r.words).any (fun i => decide (2 ^ 63 ≤ i.2.1) && !s.readableVia r.part
    true (i.2.1 % 2 ^ 48) i.2.2) = false → s.partKey r.part = some pk → r.key = some x → exec (.wrap id) s = .next
    ((s.ciWrite r (ciDst r.words) (kwWrap pk x.text)).ciDone r 0)) ∧
  (∀ (s : State) (id core : Nat) (r : CipherReq) (pk : List Nat), s.ciReq id = some r → r.stage = .started core → ciOp
    r.words = 10 → r.missing = 0 → (ciInputs r.words).any (fun i => decide (2 ^ 63 ≤ i.2.1) && !s.readableVia r.part true
    (i.2.1 % 2 ^ 48) i.2.2) = false → s.partKey r.part = some pk → (s.keySlot r.part (ciSlot r.words)).full = false → exec
    (.unwrap id) s = .next ((kwUnwrap pk (s.ciInput r 0)).elim (s.ciDone r 6) (fun x => (s.setKeySlot r.part (ciSlot r.words)
    (KeySlot.ofText (s.keySlot r.part (ciSlot r.words)).era x)).ciDone r 0))) ∧
  (∀ (s : State) (id st : Nat) (r : CipherReq), s.ciReq id = some r → r.stage = .ended st → s.keyInUse r = false →
    s.memSt.held.any (fun h => decide (h.who = .cipher r.id)) = false → exec (.cipherComplete id) s = .next (s.completeCipher
    r st))

/-- The nonce epoch, the export keys, the nonce ID and the tamper alarms complete with their effect -/
def Obligations.CipherRegistersAndAlarmsComplete : Prop :=
  (∀ (s : State) (v : Nat), s.rd Reg.CIPH_EPOCH_EPOCH < v % 2 ^ 24 → exec (.epochWrite v) s = .next (s.ciph.heldPkts.foldl
    (fun t h => t.sealSend h.conn h.slot h.part h.pkt)
    { (s.wr Reg.CIPH_EPOCH_EPOCH v).wr Reg.CIPH_EPOCH_VALID 1 with ciph := { s.ciph with heldPkts := [] }, rv := { s.rv with epoch := max s.rv.epoch (v % 2 ^ 24) } })) ∧
  (∀ (s : State) (p v : Nat), s.pfOpen 11 = true → 0 < p → p < 64 → (s.partState p = .ready ∨ s.partState p = .frozen) → exec
    (.exportKeyWrite p v) s = .next (s.exportKeyWord p 7 v)) ∧
  (∀ (s : State) (v : Nat), s.pfOpen 11 = true → s.keysHeld = 0 → exec (.nonceIdWrite v) s = .next (s.wr
    Reg.CIPH_CFG_NONCE_ID v)) ∧
  (∀ (s : State), exec (.cipherAlarm 0) s = .next (((((s.eraseAll.wr Reg.CIPH_ALARM_VOLT 1).wr Reg.CIPH_ALARM_ACTIVE
    1).incSat Reg.CIPH_ALARM_COUNT 1).ciphEvent Reg.CIPH_EVENT_ALARM).fault 64 0 16 0 0)) ∧
  (∀ (s : State), exec (.cipherAlarm 1) s = .next (((((s.eraseAll.wr Reg.CIPH_ALARM_CLOCK 1).wr Reg.CIPH_ALARM_ACTIVE
    1).incSat Reg.CIPH_ALARM_COUNT 1).ciphEvent Reg.CIPH_EVENT_ALARM).fault 64 0 16 0 0)) ∧
  (∀ (s : State), exec (.cipherAlarm 2) s = .next (((((s.eraseAll.wr Reg.CIPH_ALARM_TEMP 1).wr Reg.CIPH_ALARM_ACTIVE
    1).incSat Reg.CIPH_ALARM_COUNT 1).ciphEvent Reg.CIPH_EVENT_ALARM).fault 64 0 16 0 0)) ∧
  (∀ (s : State), exec (.cipherAlarm 3) s = .next (((((({ s with rv := { s.rv with auxKey := false } } : State).eraseAll.wr
    Reg.CIPH_ALARM_SHIELD 1).wr Reg.CIPH_ALARM_ACTIVE 1).incSat Reg.CIPH_ALARM_COUNT 1).ciphEvent Reg.CIPH_EVENT_ALARM).fault
    65 0 16 0 0)) ∧
  (∀ (s : State), exec .alarmClear s = .next (s.wr Reg.CIPH_ALARM_ACTIVE 0).rekey)

/-- Faults of every class, replays and planned switch-overs complete with their effect -/
def Obligations.FaultCommandsComplete : Prop :=
  (∀ (s : State) (p e u a : Nat) (c : Nat), p < 64 → e < 17 → u < 32 → (c = 0x40 ∨ c = 0x50) → exec (.faultDetected c p e u
    a) s = .next (s.recordFault c 0 p e u)) ∧
  (∀ (s : State) (p e u a : Nat), p < 64 → e < 17 → u < 32 → exec (.faultDetected 8 p e u a) s = .next ((s.when (e == 16 &&
    decide (a < gddrSize)) (fun t => t.corrected (t.pdOf (ldOf a)))).recordFault 8 0 p e u)) ∧
  (∀ (s : State) (p e u a : Nat) (c : Nat), p < 64 → e < 17 → u < 32 → (c = 0xA ∨ c = 0x20) → exec (.faultDetected c p e u a)
    s = .next (s.recordFault c 1 p e u)) ∧
  (∀ (s : State) (p e u a : Nat) (c : Nat), p < 64 → e < 17 → u < 32 → 1 ≤ c → c ≤ 7 → exec (.faultDetected c p e u a) s =
    .next (((s.markFault c a).showCheck c e).contain e c p u)) ∧
  (∀ (s : State) (p e u a : Nat), p < 64 → e < 17 → u < 32 → e ≠ 16 → exec (.faultDetected 0x11 p e u a) s = .next
    ((((s.markFault 0x11 a).startPromotion u).showCheck 0x11 e).contain e 0x11 p u)) ∧
  (∀ (s : State) (p e u a : Nat), p < 64 → e < 17 → u < 32 → exec (.faultDetected 0x32 p e u a) s = .next ((s.showCheck 0x32
    e).contain e 0x32 p u)) ∧
  (∀ (s : State) (p e u a c i : Nat), p < 64 → e < 17 → u < 32 → (c = 3 ∨ c = 5) → s.slotOf e = some u → (s.showCheck c
    e).slotOf e = some u → (s.showCheck c e).flt.waitSpare = [] → (s.showCheck c e).triesOf e (((s.showCheck c e).replayOf
    e).elim ((s.showCheck c e).rd Reg.BELL_COMMIT_NEXT) (·.b0)) < (s.showCheck c e).rd Reg.FLT_CFG_REPLAY_LIMIT →
    ((s.showCheck c e).freeSpares (e / 8)).head? = some i → exec (.faultDetected c p e u a) s = .next (((s.showCheck c
    e).recordFault c 1 p e u).orderSpare (e / 8 * 9 + i) u
    { n := e, d := (s.showCheck c e).count, b0 := ((s.showCheck c e).replayOf e).elim ((s.showCheck c e).rd Reg.BELL_COMMIT_NEXT) (·.b0), counted := true, planned := false })) ∧
  (∀ (s : State) (p e u a : Nat) (c : Nat), p < 64 → e < 17 → u < 32 → (c = 9 ∨ c = 0x30 ∨ c = 0x31) → exec (.faultDetected c
    p e u a) s = .next ((s.recordFault c 2 p e u).partFault c p)) ∧
  (∀ (s : State) (p e u a : Nat) (c q : Nat), p < 64 → e < 17 → u < 32 → (c = 0x10 ∨ c = 0x14) → s.byOwner a = (2, q) → exec
    (.faultDetected c p e u a) s = .next (((s.markFault c a).recordFault c 2 q e u).partFault c q)) ∧
  (∀ (s : State) (p e u a : Nat) (c q : Nat), p < 64 → e < 17 → u < 32 → (c = 0x10 ∨ c = 0x14) → s.byOwner a = (3, q) → exec
    (.faultDetected c p e u a) s = .next (((s.markFault c a).recordFault c 3 q e u).moduleFatal c)) ∧
  (∀ (s : State) (p e u a : Nat) (c q : Nat), p < 64 → e < 17 → u < 32 → (c = 0x10 ∨ c = 0x14) → s.byOwner a = (0, q) → exec
    (.faultDetected c p e u a) s = .next (((s.markFault c a).recordFault c 0 q e u).loseGranary a)) ∧
  (∀ (s : State) (p e u a : Nat) (q : Nat) (t : State), p < 64 → e < 17 → u < 32 → e = 16 → t = s.endHubWriters a → t.byOwner
    a = (2, q) → exec (.faultDetected 0x11 p e u a) s = .next ((((t.markFault 0x11 a).startPromotion u).recordFault 0x11 2 q
    e u).partFault 0x11 q)) ∧
  (∀ (s : State) (p e u a : Nat) (c : Nat), p < 64 → e < 17 → u < 32 → (c = 0x12 ∨ c = 0x13 ∨ c = 0x21 ∨ c = 0x22 ∨ c = 0x41)
    → exec (.faultDetected c p e u a) s = .next ((s.recordFault c 3 p e u).moduleFatal c)) ∧
  (∀ (s : State) (p e u a : Nat) (q : Nat) (t : State), p < 64 → e < 17 → u < 32 → e = 16 → t = s.endHubWriters a → t.byOwner
    a = (0, q) → exec (.faultDetected 0x11 p e u a) s = .next ((((t.markFault 0x11 a).startPromotion u).recordFault 0x11 0 q
    e u).loseGranary a)) ∧
  (∀ (s : State) (p e u a : Nat) (q : Nat) (t : State), p < 64 → e < 17 → u < 32 → e = 16 → t = s.endHubWriters a → t.byOwner
    a = (3, q) → exec (.faultDetected 0x11 p e u a) s = .next ((((t.markFault 0x11 a).startPromotion u).recordFault 0x11 3 q
    e u).moduleFatal 0x11)) ∧
  (∀ (s : State) (p e u a : Nat) (c : Nat), p < 64 → e < 17 → u < 32 → faultClass c = none → exec (.faultDetected c p e u a)
    s = .next s) ∧
  (∀ (s : State) (n ps : Nat) (r : Replay), n < 16 → s.replayOf n = some r → s.slotOf n = some ps → r.begun = false → (s.copy
    ps).queue.any (fun d => decide (d.src = .replay)) = false → exec (.replayStart n) s = .next (s.beginReplay n ps r)) ∧
  (∀ (s : State) (v : Nat), s.pfOpen 13 = true → s.on Reg.FLT_SWITCH_ARMED = false → bit v 4 = true → (s.wr
    Reg.FLT_SWITCH_ENGINE (bits v 0 4)).count < (s.wr Reg.FLT_SWITCH_ENGINE (bits v 0 4)).rd Reg.FLT_SWITCH_BELL_BELL → exec
    (.switchArm v) s = .next ((s.wr Reg.FLT_SWITCH_ENGINE (bits v 0 4)).wr Reg.FLT_SWITCH_ARMED 1)) ∧
  (∀ (s : State), s.on Reg.FLT_SWITCH_ARMED = true → s.rd Reg.FLT_SWITCH_BELL_BELL ≤ s.count → exec .plannedSwitch s = .next
    ((s.wr Reg.FLT_SWITCH_ARMED 0).fault 0x32 0 (s.rd Reg.FLT_SWITCH_ENGINE) ((s.slotOf (s.rd Reg.FLT_SWITCH_ENGINE)).getD 0)
    0))

/-- Checkpoints are triggered, aborted and restored, granaries drain, replays start and planned switch-overs run, with their effect -/
def Obligations.CheckpointCommandsComplete : Prop :=
  (∀ (s : State) (k : Nat), s.pfOpen 12 = true → k < 4 → s.on (Reg.CKP_CTRL_EN k) = true → exec (.ckpTriggerCmd k) s = .next
    ((s.setCkp k { s.ckp k with due := some (s.count + 1, none) }).wr (Reg.CKP_CMD_RESULT k) 0)) ∧
  (∀ (s : State) (k : Nat), s.pfOpen 12 = true → k < 4 → s.on (Reg.CKP_CTRL_EN k) = false → exec (.ckpTriggerCmd k) s = .next
    (s.wr (Reg.CKP_CMD_RESULT k) 1)) ∧
  (∀ (s t : State) (k hold step : Nat), k < 4 → s.ckpDue k = some (t, step) → (t.ckp k).run = none → t.partState (t.rd
    (Reg.CKP_CTRL_PART k)) = .run → t.workBehind (t.rd (Reg.CKP_CTRL_PART k)) = false → bit hold (t.ckpNext k) = false → (if
    t.ckpNext k = 0 then (t.ckp k).step1 else (t.ckp k).step0) = none → (t.ckpRegions k).any (fun r => (t.ckpBase k
    r).isNone) = false → exec (.ckpTrigger k hold) s = .next (t.beginCkp k step)) ∧
  (∀ (s : State) (k : Nat), s.pfOpen 12 = true → k < 4 → (s.ckp k).run.isSome = true → exec (.ckpAbort k) s = .next
    ((s.ckpAbort k).wr (Reg.CKP_CMD_RESULT k) 0)) ∧
  (∀ (s : State) (k : Nat) (es : List (List Nat)) (im : List ImageRead), s.pfOpen 12 = true → k < 4 → s.partState (s.rd
    (Reg.CKP_CTRL_PART k)) = .frozen → s.mayRequest 0 = true → es ≠ [] → s.restoreBad k es (im.map ImageRead.bytes) = false →
    exec (.ckpRestore k es im) s = .next ((sourceFail (es.filter (fun e => e.headD 0 == 1)) im).elim (s.restoreFrom k es
    (im.map ImageRead.bytes)) (fun x => s.restoreEnd k x.2 x.1))) ∧
  (∀ (s : State) (k : Nat) (im : List ImageRead), s.pfOpen 12 = true → k < 4 → s.partState (s.rd (Reg.CKP_CTRL_PART k)) =
    .frozen → s.rd (Reg.CKP_RESTORE_N_COUNT k) ≠ 0 → (s.ckp k).list = [] → (s.ckp k).listMissing = 0 → (s.ckp k).run = none →
    exec (.ckpRestore k [] im) s = .next ((((s.setCkp k
    { s.ckp k with listMissing := 64 * s.rd (Reg.CKP_RESTORE_N_COUNT k) }).wr (Reg.CKP_STATUS_STATE k) 3).wr
    (Reg.CKP_CMD_BUSY k) 1).readHostFor 0 0x7FF (s.rd (Reg.CKP_RESTORE_ADDR_ADDR k) * 64) (64 * s.rd (Reg.CKP_RESTORE_N_COUNT
    k)) (fun o => .restore k o))) ∧
  (∀ (s w : State) (g i : Nat), w =
    { s with flt := { s.flt with granGens := Tab.set 0 s.flt.granGens g (Tab.get 0 s.flt.granGens g + 1) } } → g < 4 → i < 2
    → s.on (Reg.CKP_GRAN_EN g) = true → s.rd (Reg.CKP_GRAN_DRAIN_EVERY g) ≠ 0 → Tab.get false s.flt.granLost (g * 2 + i) =
    false → (Tab.get 0 s.flt.granGens g + 1) % s.rd (Reg.CKP_GRAN_DRAIN_EVERY g) = 0 → bit (s.rd (Reg.CKP_GRAN_HOLD g)) i =
    false → exec (.granaryDrain g i none) s = .next ((w.granHold g (Nat.lor (s.rd (Reg.CKP_GRAN_HOLD g)) (2 ^ i))).emit
    (.drain (s.rd (Reg.CKP_GRAN_DRAIN_VOL g)) (s.rd (Reg.CKP_GRAN_DRAIN_LBA g) + i * s.granSlot g / (if s.on (Reg.BLK_VOL_BS
    (s.rd (Reg.CKP_GRAN_DRAIN_VOL g))) then 4096 else 512)) (w.bytes (s.rd (Reg.CKP_GRAN_BASE g) + 65536 + i * s.granSlot g)
    (s.granSlot g))))) ∧
  (∀ (s : State) (g i : Nat) (ok : Bool), g < 4 → i < 2 → s.on (Reg.CKP_GRAN_EN g) = true → bit (s.rd (Reg.CKP_GRAN_HOLD g))
    i = true → exec (.granaryDrain g i (some ok)) s = .next ((s.granHold g (s.rd (Reg.CKP_GRAN_HOLD g) ^^^ 2 ^ i)).when (!ok)
    (fun t => t.ckpEvent Reg.CKP_EVENT_DRAIN_FAIL))) ∧
  (∀ (s : State) (n ps : Nat) (r : Replay), n < 16 → s.replayOf n = some r → s.slotOf n = some ps → r.begun = false → (s.copy
    ps).queue.any (fun d => decide (d.src = .replay)) = false → exec (.replayStart n) s = .next (s.beginReplay n ps r)) ∧
  (∀ (s : State) (v : Nat), s.pfOpen 13 = true → s.on Reg.FLT_SWITCH_ARMED = false → bit v 4 = true → (s.wr
    Reg.FLT_SWITCH_ENGINE (bits v 0 4)).count < (s.wr Reg.FLT_SWITCH_ENGINE (bits v 0 4)).rd Reg.FLT_SWITCH_BELL_BELL → exec
    (.switchArm v) s = .next ((s.wr Reg.FLT_SWITCH_ENGINE (bits v 0 4)).wr Reg.FLT_SWITCH_ARMED 1)) ∧
  (∀ (s : State), s.on Reg.FLT_SWITCH_ARMED = true → s.rd Reg.FLT_SWITCH_BELL_BELL ≤ s.count → exec .plannedSwitch s = .next
    ((s.wr Reg.FLT_SWITCH_ARMED 0).fault 0x32 0 (s.rd Reg.FLT_SWITCH_ENGINE) ((s.slotOf (s.rd Reg.FLT_SWITCH_ENGINE)).getD 0)
    0)) ∧
  (∀ (s u : State) (n ps i : Nat), s.on Reg.FLT_SWITCH_ARMED = true → s.rd Reg.FLT_SWITCH_BELL_BELL ≤ s.count → n = s.rd
    Reg.FLT_SWITCH_ENGINE → s.slotOf n = some ps → u = s.wr Reg.FLT_SWITCH_ARMED 0 → u.slotOf n = some ps → u.flt.waitSpare =
    [] → (u.freeSpares (n / 8)).head? = some i → exec .plannedSwitch s = .next ((u.recordFault 0x32 1 0 n ps).orderSpare (n /
    8 * 9 + i) ps
    { n := n, d := u.count, b0 := (u.replayOf n).elim (u.rd Reg.BELL_COMMIT_NEXT) (·.b0), counted := false, planned := true }))

/-- Clock gating, power requests, entries, wake sources, return steps and the hot-swap switch complete with their effect -/
def Obligations.PowerStateCommandsComplete : Prop :=
  (∀ (s : State) (b : Nat), b < 144 → s.on Reg.PWR_IDLE_EN = true → s.rd Reg.PWR_IDLE_BELLS ≤ Tab.get 0 s.pwr.idle b →
    s.blockBusy b = false → Tab.get false s.pwr.touched b = false → exec (.clockGate b) s = .next
    { s with pwr := { s.pwr with gated := Tab.set false s.pwr.gated b true } }) ∧
  (∀ (s : State), s.pfOpen 1 = true → s.pwr.off = false → s.on Reg.PWR_REQ_BUSY = false → s.rd Reg.MGT_STATUS_STATE ≠ 4 →
    s.fwRuns = true → s.maySleep = true → exec .sleepRequest s = .next ((s.wr Reg.PWR_REQ_BUSY 1).setTransit (some (.entering
    2)))) ∧
  (∀ (s : State), s.pwr.off = false → s.on Reg.PWR_REQ_BUSY = false → s.rd Reg.MGT_STATUS_STATE ≠ 4 → s.fwRuns = true →
    s.maySleep = true → s.tenantsFree = true → s.dsUnits.length ≤ 64 → (List.range 26).any (fun p => bit (s.rd
    Reg.PWR_DS_MEM_PD) p && s.devLost p) = false → exec (.deepSleepRequest false) s = .next ((s.wr Reg.PWR_REQ_BUSY
    1).setTransit (some (.entering 3)))) ∧
  (∀ (s : State), s.pfOpen 1 = true → s.pwr.off = false → s.on Reg.PWR_REQ_BUSY = false → s.rd Reg.MGT_STATUS_STATE ≠ 4 →
    exec .offRequest s = .next ((s.wr Reg.PWR_REQ_BUSY 1).setTransit (some (.entering 4)))) ∧
  (∀ (s : State), s.pwr.transit = some (.entering 2) → exec .powerEntryComplete s = .next ((((s.setTransit none).wr
    Reg.PWR_STATE_STATE 2).wr Reg.PWR_STATE_RDY 0).endReq 0)) ∧
  (∀ (s : State), s.pwr.transit = some (.entering 3) → exec .powerEntryComplete s = .next (s.enterDeep.endReq 0)) ∧
  (∀ (s : State), s.pwr.transit = some (.entering 4) → exec .powerEntryComplete s = .next (s.enterOff 0 0)) ∧
  (∀ (s : State) (l low : Nat), l < 32 → s.on Reg.PWR_WAKE_EN_PCIE = true → (s.inState 3 = true ∨ s.inState 2 = true) → exec
    (.wake 0 l low) s = .next (s.wakeUp Reg.PWR_WAKE_CAUSE_PCIE)) ∧
  (∀ (s : State) (l low : Nat), l < 32 → s.on Reg.PWR_WAKE_EN_FAB_FRAME = true → s.inState 2 = true → exec (.wake 1 l low) s
    = .next ((s.wakeUp Reg.PWR_WAKE_CAUSE_FAB_FRAME).wr Reg.PWR_WAKE_CAUSE_LANE l)) ∧
  (∀ (s : State) (l low : Nat), l < 32 → bit (s.rd Reg.PWR_WAKE_EN_FAB_SIG) (l / 4) = true → s.inState 3 = true → exec (.wake
    2 l low) s = .next ((s.wakeUp Reg.PWR_WAKE_CAUSE_FAB_SIG).wr Reg.PWR_WAKE_CAUSE_LANE l)) ∧
  (∀ (s : State) (l low : Nat), l < 32 → s.rd Reg.HUB_FILTER_WAKE ≤ low → (s.inState 3 = true ∨ s.inState 2 = true) →
    s.pwr.off = false → exec (.wake 4 l low) s = .next (s.wakeUp Reg.PWR_WAKE_CAUSE_WAKE_N)) ∧
  (∀ (s : State) (l a b : Nat), l < 32 → s.on Reg.PWR_WAKE_EN_VESPER = true → s.vesperOk l a = true → s.vesperOk l b = true →
    (s.inState 2 = true ∨ s.inState 3 = true) → exec (.vesperDetect l a b) s = .next ((s.wakeUp Reg.PWR_WAKE_CAUSE_VESPER).wr
    Reg.PWR_WAKE_CAUSE_LANE l)) ∧
  (∀ (s u t : State) (k : Nat) (d : Bool), s.pwr.transit = some (.returning d k) → 0 < k → (k < 3 ∨ d = true) → (u = (if 3 ≤
    k ∧ d = true then s.wr Reg.PWR_STATUS_FLOOR (if s.pwr.floors = [] then 0 else 1) else s)) → t = u.wr Reg.PWR_STATE_RDY
    (Nat.lor (u.rd Reg.PWR_STATE_RDY) (2 ^ k)) → exec .returnStepReady s = .next
    { t with pwr := { t.pwr with transit := some (.returning d (min (k + 1) 4)) } }) ∧
  (∀ (s : State), exec .hotswapTrip s = .next (({ s with pwr := { s.pwr with switchOpen := true } } : State).emit (.power
    "hot-swap switch" 0)))

/-- Voltage, pace mode, samples, floors, shutdowns, pre-bias and droop complete with their effect -/
def Obligations.ProtectionCommandsComplete : Prop :=
  (∀ (s t : State), t = s.setClock (s.pwr.wanted.getD s.pwr.clock) → exec .voltageReached s = .next
    (({ t with pwr := { t.pwr with volt := s.setPoint, wanted := none, lost := s.clocksLost, lostFrom := none } } :
    State).emit (.power "voltage" s.setPoint))) ∧
  (∀ (s : State) (v : Nat), s.pfOpen 1 = true → (bit v 0 = false ∨ (s.rd Reg.BELL_CTRL_SOURCE = 0 ∧ s.on
    Reg.BELL_CTRL_REPORT_EN = false)) → exec (.paceModeWrite v) s = .next (s.takePwrCtrl .pf v)) ∧
  (∀ (s : State) (mv a : Nat), mv < 65536 → a < 65536 → 0 < s.rd Reg.PWR_CAP_TAU → ((mv * a / 100000 :: s.pwr.samples).take
    (s.rd Reg.PWR_CAP_TAU * 100)).sum / max ((mv * a / 100000 :: s.pwr.samples).take (s.rd Reg.PWR_CAP_TAU * 100)).length 1 ≤
    s.rd Reg.PWR_CAP_WATTS → exec (.powerSample mv a) s = .next
    (((((({ s with pwr := { s.pwr with samples := ((mv * a / 100000 :: s.pwr.samples).take (s.rd Reg.PWR_CAP_TAU * 100)), energy := (s.pwr.energy + mv * a) % 10000000, overCount := 0 } }
    : State).wr Reg.PWR_INPUT_MV mv).wr Reg.PWR_INPUT_CURRENT a).wr Reg.PWR_INPUT_NOW (mv * a / 100000)).wr Reg.PWR_INPUT_AVG
    (((mv * a / 100000 :: s.pwr.samples).take (s.rd Reg.PWR_CAP_TAU * 100)).sum / max ((mv * a / 100000 ::
    s.pwr.samples).take (s.rd Reg.PWR_CAP_TAU * 100)).length 1)).inc Reg.PWR_ENERGY_MJ ((s.pwr.energy + mv * a) / 10000000))) ∧
  (∀ (s : State) (low : Nat), s.rd Reg.HUB_FILTER_ALERT ≤ low → exec (.pwrAlertAssert low) s = .next ((s.wr
    Reg.PWR_STATUS_ALERT_PIN 1).floorOn 0)) ∧
  (∀ (s : State) (i : Nat), i < 4 → i ≠ 1 → (i ≠ 3 ∨ s.on Reg.PWR_STATUS_THERM = false) → exec (.alertHoldEnd i) s = .next
    (({ s.wr (floorBit i) 0 with pwr := { s.pwr with floors := s.pwr.floors.filter (· != i) } } : State).applyFloor)) ∧
  (∀ (s u : State), u = s.when (s.on Reg.PWR_STATUS_ALERT_REG && s.on Reg.PWR_CTRL_ALERT_OUT_EN) (fun t => t.emit (.pin
    "PWR_ALERT_N" true)) → exec (.alertHoldEnd 1) s = .next
    (({ u.wr (floorBit 1) 0 with pwr := { u.pwr with floors := u.pwr.floors.filter (· != 1) } } : State).applyFloor)) ∧
  (∀ (s : State), exec .regulatorOvercurrent s = .next (((s.wr Reg.PWR_STATUS_ALERT_REG 1).floorOn 1).when (((s.wr
    Reg.PWR_STATUS_ALERT_REG 1).floorOn 1).on Reg.PWR_CTRL_ALERT_OUT_EN) (fun t => ((t.emit (.pin "PWR_ALERT_N" false)).wr
    Reg.PWR_STATUS_ALERT_PIN 1).floorOn 0))) ∧
  (∀ (s : State), exec .inputUndervoltage s = .next ((s.wr Reg.PWR_STATUS_UNDERVOLT 1).floorOn 2) ∧ exec .undervoltageLockout
    s = .next (s.enterOff 2 0) ∧ exec .auxOutShort s = .next (({ s with pwr := { s.pwr with auxOut := false } } : State).emit
    (.pin "AUX_OUT" false))) ∧
  (∀ (s : State) (i v : Nat), i < 66 → exec (.sensorSample i v) s = .next ((((s.wr (Reg.PWR_TEMP_TEMP i) v).wr
    (Reg.PWR_TEMP_VALID i) 1).wr Reg.PWR_STATUS_THERM (b2n (((s.wr (Reg.PWR_TEMP_TEMP i) v).wr (Reg.PWR_TEMP_VALID i)
    1).anySensor Reg.PWR_THERM_LIM_EMERG (fun x l => decide (l ≤ x))))).when (((s.wr (Reg.PWR_TEMP_TEMP i) v).wr
    (Reg.PWR_TEMP_VALID i) 1).anySensor Reg.PWR_THERM_LIM_EMERG (fun x l => decide (l ≤ x))) (fun t => t.floorOn 3))) ∧
  (∀ (s : State), s.throttled = true → s.rd Reg.PWR_CTRL_THERM_STEP ≤ s.pwr.hot → 16 < s.rd Reg.PWR_STATUS_THERM_PACE → exec
    .thermalStep s = .next ((({ s with pwr := { s.pwr with hot := 0 } } : State).wr Reg.PWR_STATUS_THERM_PACE (s.rd
    Reg.PWR_STATUS_THERM_PACE - 1)).pwrEvent Reg.PWR_EVENT_THROTTLE)) ∧
  (∀ (s : State), s.throttled = false → 4 * s.rd Reg.PWR_CTRL_THERM_STEP ≤ s.pwr.cool → s.rd Reg.PWR_STATUS_THERM_PACE < 72 →
    exec .thermalStep s = .next (({ s with pwr := { s.pwr with cool := 0 } } : State).wr Reg.PWR_STATUS_THERM_PACE (s.rd
    Reg.PWR_STATUS_THERM_PACE + 1))) ∧
  (∀ (s : State) (i : Nat), i < 64 → exec (.thermalShutdown i) s = .next (s.enterOff 1 i)) ∧
  (∀ (s u : State) (b : Nat), s.on Reg.PWR_CTRL_PREBIAS_EN = true → s.rd Reg.PWR_HEAVY_MIN ≤ s.heavySum b - (if b = 0 then 0
    else s.heavySum (b - 1)) → b = s.count + 1 → u = s.atTime s.prebiasAt → exec (.prebiasStart b) s = .next
    (({ u with pwr := { u.pwr with prebias := some (b, min 16 (2 * ((s.heavySum b - (if b = 0 then 0 else s.heavySum (b - 1))) / 16))) } }
    : State).emit (.power "pre-bias" (min 16 (2 * ((s.heavySum b - (if b = 0 then 0 else s.heavySum (b - 1))) / 16)))))) ∧
  (∀ (s u : State) (x : Nat × Nat), s.pwr.prebias = some x → x.1 ≤ s.count → u = (if x.1 = s.count then s.atTime
    (s.bell.edgeAt + s.rd Reg.PWR_HEAVY_HOLD * 500) else s) → exec .prebiasEnd s = .next
    (({ u with pwr := { u.pwr with prebias := none } } : State).emit (.power "pre-bias" 0))) ∧
  (∀ (s : State) (d : Nat), d < 3 → s.on Reg.PWR_CTRL_DROOP_EN = true → Tab.get 0 s.pwr.stretch d = 0 → exec (.droopDetect d)
    s = .next (((({ s with pwr := { s.pwr with stretch := Tab.set 0 s.pwr.stretch d (s.now + 1) } } : State).incSat
    (Reg.PWR_DROOP_COUNT_EVENTS d) 1)).pwrEvent Reg.PWR_EVENT_DROOP)) ∧
  (∀ (s : State) (d lost : Nat), d < 3 → Tab.get 0 s.pwr.stretch d ≠ 0 → 16 ≤ lost → exec (.droopEnd d lost) s = .next
    (s.endStretch d lost))

/-- Starts, resets, the watchdog, the log, telemetry and restarts of cores complete with their effect -/
def Obligations.StartsAndReeveCommandsComplete : Prop :=
  (∀ (s t : State) (f : Found), t = (if (s.linkDown.wipe false).pwr.aux = true then s.linkDown.wipe false else
    ({ s.linkDown.wipe false with pwr := { (s.linkDown.wipe false).pwr with aux := true, auxOut := true } } : State).emit
    (.pin "AUX_OUT" true)) → exec (.coldStart f) s = .next (({ t with now := 0, rv := { t.rv with auxKey := false } } :
    State).startSteps false f)) ∧
  (∀ (s : State) (f : Found), s.pwr.transit = some (.returning true 4) → exec (.warmStart f) s = .next
    (({ s.linkDown.wipe true with mem := s.mem, memSt := s.memSt } : State).startSteps true f)) ∧
  (∀ (s u : State) (f : Found), s.rv.retry = true → u = s.atTime (s.rv.retryFrom + 400000000) → exec (.startRetry f) s =
    .next (u.coldStart f)) ∧
  (∀ (s : State) (f : Found), s.pfOpen 2 = true → s.pwr.off = false → exec (.resetWarm 0xA5C3 f) s = .next (s.warmStart f) ∧
    exec (.resetCold 0xA5C3 f) s = .next (s.coldStart f)) ∧
  (∀ (s u : State), s.reeveUp = true → u = s.atTime (s.rv.wdogAt + s.rd Reg.MGT_WDOG_TIMEOUT * 4000000) → exec
    .watchdogExpiry s = .next (u.resetReeve 1)) ∧
  (∀ (s : State), s.rd Reg.MGT_STATUS_STATE = 2 → s.pwr.off = false → (s.resetReeve 1) = s.reeveFails 1) ∧
  (∀ (s : State), s.rd Reg.MGT_STATUS_STATE = 4 → exec .reeveRestart s = .next s.reeveBack) ∧
  (∀ (s : State), (∀ b ∈ s.evlog.waiting, 2 ≤ logSeverity b) → exec .logPersist s = .next
    { s with evlog := { s.evlog with waiting := [], flash := s.evlog.flash ++ s.evlog.waiting } }) ∧
  (∀ (s : State), s.fwRuns = true → exec .telemetrySample s = .next (s.each 67 (fun i t => t.noteExtreme i))) ∧
  (∀ (s : State) (i n : Nat) (x : Firmware), i < 32 → s.rv.fw = some x → s.fwRuns = true → s.iocOffline i = false → bit (s.rd
    Reg.HUB_IOC_RUN_RUN) i = false → exec (.iocRestart i n) s = .next (((s.dropIocWork i).incSat Reg.PKT_DROP2_NO_BUFFER
    n).iocStart x i))

/-- Configuration images, firmware packages, attestation reports, open ranges, challenges and unlocking complete with their effect -/
def Obligations.ManagementCommandsComplete : Prop :=
  (∀ (s : State), s.pfOpen 2 = true → s.pwr.off = false → s.rd Reg.MGT_STATUS_STATE ≠ 4 → s.rd Reg.MGT_STATUS_STATE ≠ 5 → ∃
    t, exec .cfgWriteA s = .next t ∧ (imageShape s.stagedBank = true → imageSigned s.rv.owner s.stagedBank = true → t =
    ((({ s with rv := { s.rv with slotA := s.stagedBank } } : State).wr Reg.HUB_START_ATTEMPTS 0).wr Reg.MGT_CFG_CMD_RESULT
    0)) ∧ (imageShape s.stagedBank = false → t = s.wr Reg.MGT_CFG_CMD_RESULT 2) ∧ (imageShape s.stagedBank = true →
    imageSigned s.rv.owner s.stagedBank = false → t = s.wr Reg.MGT_CFG_CMD_RESULT 4)) ∧
  (∀ (s : State), s.pfOpen 2 = true → s.pwr.off = false → s.rd Reg.MGT_STATUS_STATE ≠ 4 → s.rd Reg.MGT_STATUS_STATE ≠ 5 → ∃
    t, exec .cfgWriteB s = .next t ∧ (imageShape s.stagedBank = true → imageSigned s.rv.owner s.stagedBank = true → t =
    (({ s with rv := { s.rv with slotB := s.stagedBank } } : State).wr Reg.MGT_CFG_CMD_RESULT 0)) ∧ (imageShape s.stagedBank
    = false → t = s.wr Reg.MGT_CFG_CMD_RESULT 2) ∧ (imageShape s.stagedBank = true → imageSigned s.rv.owner s.stagedBank =
    false → t = s.wr Reg.MGT_CFG_CMD_RESULT 4)) ∧
  (∀ (s : State), s.pfOpen 2 = true → s.pwr.off = false → s.rd Reg.MGT_STATUS_STATE = 2 → s.on Reg.MGT_FW_STATUS_ARMED =
    false → s.rv.handlers = [] → ∃ t, exec .fwLoad s = .next t ∧ (∀ x, verifyPack s.stagedBank s.rv.svnFloor = .ok x → t =
    (({ s with rv := { s.rv with staged := some x } } : State).wr Reg.MGT_FW_VERSION_STAGED x.version).endFw 0) ∧ (∀ e,
    verifyPack s.stagedBank s.rv.svnFloor = .error e → t = s.endFw e)) ∧
  (∀ (s : State), s.pfOpen 2 = true → s.pwr.off = false → s.rd Reg.MGT_STATUS_STATE = 1 → s.on Reg.MGT_FW_STATUS_ARMED =
    false → s.rv.handlers = [] → ∃ t, exec .fwLoad s = .next t ∧ (∀ x, verifyPack s.stagedBank s.rv.svnFloor = .ok x → t =
    (s.runFirmware x).endFw 0) ∧ (∀ e, verifyPack s.stagedBank s.rv.svnFloor = .error e → t = s.endFw e)) ∧
  (∀ (s : State) (x : Firmware), s.pfOpen 2 = true → s.pwr.off = false → s.rd Reg.MGT_STATUS_STATE = 2 → s.on
    Reg.MGT_FW_STATUS_ARMED = false → s.rv.handlers = [] → s.rv.staged = some x → s.count < s.rd Reg.MGT_FW_BELL_BELL → exec
    .fwActivate s = .next (s.wr Reg.MGT_FW_STATUS_ARMED 1)) ∧
  (∀ (s : State), s.pfOpen 2 = true → s.pwr.off = false → s.rd Reg.MGT_STATUS_STATE = 2 → s.on Reg.MGT_FW_STATUS_ARMED = true
    → s.count < s.rd Reg.MGT_FW_BELL_BELL → exec .fwCancel s = .next ((s.wr Reg.MGT_FW_STATUS_ARMED 0).endFw 0)) ∧
  (∀ (s : State) (x : Firmware), s.pfOpen 2 = true → s.pwr.off = false → s.rd Reg.MGT_STATUS_STATE = 2 → s.rv.fw = some x →
    exec .raiseSvn s = .next ((({ s with rv := { s.rv with svnFloor := max s.rv.svnFloor x.svn } } : State).wr
    Reg.MGT_FW_STATUS_SVN_FLOOR (max s.rv.svnFloor x.svn)).endFw 0)) ∧
  (∀ (s : State) (x : Firmware), s.rv.handlers = [] → s.rd Reg.MGT_STATUS_STATE = 2 → s.on Reg.MGT_FW_STATUS_ARMED = true →
    s.rd Reg.MGT_FW_BELL_BELL ≤ s.count → s.on Reg.PWR_STATUS_EMERG = false → 2 ≤ s.rd Reg.PWR_STATUS_QUIET → s.partCmds = []
    → s.pwr.transit = none → s.rv.staged = some x → exec (.fwSwitchover true) s = .next (((s.wr Reg.MGT_FW_STATUS_ARMED 0).wr
    Reg.MGT_FW_STATUS_DEFERRED 0).newFirmware x)) ∧
  (∀ (s : State) (ready : Bool), s.rv.handlers = [] → s.rd Reg.MGT_STATUS_STATE = 2 → s.on Reg.MGT_FW_STATUS_ARMED = true →
    s.rd Reg.MGT_FW_BELL_BELL ≤ s.count → (s.on Reg.PWR_STATUS_EMERG = true ∨ s.rd Reg.PWR_STATUS_QUIET < 2) → exec
    (.fwSwitchover ready) s = .next ((s.wr Reg.MGT_FW_STATUS_DEFERRED 1).mgtEvent Reg.MGT_EVENT_DEFERRED)) ∧
  (∀ (s : State) (x : Firmware) (ready : Bool), s.fwRuns = true → s.rv.fw = some x → s.rv.handlers ≠ [] → exec (.fwSwitchover
    ready) s = .next ((s.putHandlers x s.rv.handlers).switched)) ∧
  (∀ (s : State), s.pfOpen 2 = true → s.pwr.off = false → s.fwRuns = true → s.rd Reg.TST_STATUS_MODE = 0 → s.rd
    Reg.MGT_XMSS_NEXT < 65536 → ∃ t r, s.signReport (leBytes 32 (s.rd Reg.MGT_ATTEST_NONCE_NONCE)) = some (t, r) ∧ exec
    .attestGo s = .next (((t.putBytes reportPlace r).wr Reg.MGT_ATTEST_ADDR_ADDR reportPlace).wr Reg.MGT_ATTEST_RESULT 0)) ∧
  (∀ (s : State) (n v : Nat), s.pfOpen 2 = true → n < 4 → bit v 6 = false → exec (.openRangeWrite n v) s = .next ((s.wr
    (Reg.MGT_OPEN_PART n) (bits v 0 6)).wr (Reg.MGT_OPEN_EN n) (bits v 6 1))) ∧
  (∀ (s : State) (n v : Nat), s.pfOpen 2 = true → n < 4 → bit v 6 = true → (s.rd (Reg.MGT_OPEN_BASE n)) % 65536 = 0 → (s.rd
    (Reg.MGT_OPEN_LEN n)) % 65536 = 0 → (s.rd (Reg.MGT_OPEN_LEN n)) ≠ 0 → s.openable (bits v 0 6) (s.rd (Reg.MGT_OPEN_BASE
    n)) (s.rd (Reg.MGT_OPEN_LEN n)) = true → exec (.openRangeWrite n v) s = .next ((s.wr (Reg.MGT_OPEN_PART n) (bits v 0
    6)).wr (Reg.MGT_OPEN_EN n) (bits v 6 1))) ∧
  (∀ (s : State) (n v : Nat), s.pfOpen 2 = true → n < 4 → bit v 6 = true → ((s.rd (Reg.MGT_OPEN_BASE n)) % 65536 ≠ 0 ∨ (s.rd
    (Reg.MGT_OPEN_LEN n)) % 65536 ≠ 0 ∨ (s.rd (Reg.MGT_OPEN_LEN n)) = 0 ∨ s.openable (bits v 0 6) (s.rd (Reg.MGT_OPEN_BASE
    n)) (s.rd (Reg.MGT_OPEN_LEN n)) = false) → exec (.openRangeWrite n v) s = .next (s.unsup .pf (Reg.MGT_OPEN n + 16) true)) ∧
  (∀ (s : State), s.pfOpen 18 = true → s.pwr.off = false → s.rd Reg.MGT_STATUS_STATE ≠ 4 → s.rd Reg.MGT_STATUS_STATE ≠ 5 →
    exec .challenge s = .next ((((s.random 32).1.wr Reg.TST_NONCE_NONCE (leNat (s.random 32).2)).wr
    Reg.TST_STATUS_NONCE_VALID 1).wr Reg.TST_UNLOCK_RESULT 0)) ∧
  (∀ (s : State), s.pfOpen 18 = true → s.pwr.off = false → s.rd Reg.MGT_STATUS_STATE ≠ 4 → s.rd Reg.MGT_STATUS_STATE ≠ 5 → ∃
    t, exec .unlock s = .next t ∧ (s.tokenResult (s.bytes (s.rd Reg.MGT_FW_BANK_ADDR) 2952) = 0 → t = (((s.wr
    Reg.TST_STATUS_NONCE_VALID 0).wr Reg.TST_UNLOCK_RESULT 0).wr Reg.TST_STATUS_MODE (max (((s.wr Reg.TST_STATUS_NONCE_VALID
    0).wr Reg.TST_UNLOCK_RESULT 0).rd Reg.TST_STATUS_MODE) (entryNum (s.bytes (s.rd Reg.MGT_FW_BANK_ADDR) 2952) 8 1 +
    1))).tstLog) ∧ (s.tokenResult (s.bytes (s.rd Reg.MGT_FW_BANK_ADDR) 2952) ≠ 0 → t = (s.wr Reg.TST_STATUS_NONCE_VALID 0).wr
    Reg.TST_UNLOCK_RESULT (s.tokenResult (s.bytes (s.rd Reg.MGT_FW_BANK_ADDR) 2952))))

/-- Address assignment, MCTP control messages and every sideband command complete with their effect -/
def Obligations.SidebandCommandsComplete : Prop :=
  (∀ (s : State) (d : Nat), d < 128 → s.sidebandUp = true → s.rv.dynAddr = none → exec (.entdaa d) s = .next
    (({ s with rv := { s.rv with dynAddr := some d } } : State).emit (.sideband 0x107 (beBytes 6 (0x2B5 * 2 ^ 33 + 2 ^ 32 +
    serialNumber % 2 ^ 32))))) ∧
  (∀ (s : State) (d : Nat), d < 128 → s.rv.staticAddr < 128 → s.sidebandUp = true → s.rv.dynAddr = none → exec (.setdasa
    s.rv.staticAddr d) s = .next { s with rv := { s.rv with dynAddr := some d } }) ∧
  (∀ (s : State) (e : Nat), 0 < e → e < 255 → s.sidebandUp = true → exec (.setEndpointId e) s = .next
    (({ s with rv := { s.rv with eid := e } } : State).control 1 [0, 0, e, 0])) ∧
  (∀ (s : State), s.sidebandUp = true → exec .getEndpointId s = .next (s.emit (.sideband 0x202 [0, s.rv.eid, 0, 0])) ∧ exec
    .getMctpVersionSupport s = .next (s.emit (.sideband 0x204 [0, 1, 0xF1, 0xF3, 0xF1, 0])) ∧ exec .getMessageTypeSupport s =
    .next (s.emit (.sideband 0x205 [0, 1, 0x7E])) ∧ exec .getVendorDefinedMsgSupport s = .next (s.emit (.sideband 0x206 [0,
    0xFF, 0, 0x1F, 0x3A, 0, 0]))) ∧
  (∀ (s : State) (i : Nat), i < 128 → s.sidebandUp = true → exec (.getStatus i) s = .next (s.reply 1 i 0 s.statusBytes) ∧
    exec (.getEvents i) s = .next ((s.each 8 (fun i t => t.wr ⟨Reg.MGT_EVENT, i, 1, 0⟩ 0)).reply 4 i 0 (leBytes 4 (s.regNow
    Reg.MGT_EVENT)))) ∧
  (∀ (s : State) (i a n : Nat), i < 128 → s.sidebandUp = true → s.fwRuns = true → 0 < n → n ≤ 8 → a + n ≤ 67 → exec
    (.getSensors i a n) s = .next
    (({ s with rv := { s.rv with extremes := (List.range n).foldl (fun m j => Tab.set none m (a + j) none) s.rv.extremes } }
    : State).reply 2 i 0 ((List.range n).flatMap (fun j => signedBytes ((Tab.get none s.rv.extremes (a + j)).getD
    (s.telemetry (a + j), s.telemetry (a + j))).1 ++ signedBytes ((Tab.get none s.rv.extremes (a + j)).getD (s.telemetry (a +
    j), s.telemetry (a + j))).2 ++ signedBytes (s.telemetry (a + j)))))) ∧
  (∀ (s : State) (i e : Nat), i < 128 → s.sidebandUp = true → e < s.rd Reg.MGT_LOG_INDEX → s.rd Reg.MGT_LOG_INDEX ≤ e + 8192
    → exec (.getEventLogEntry i e) s = .next ((s.markSeen (s.rd Reg.MGT_LOG_BASE_ADDR + e % 8192 * 32) 32).reply 3 i 0
    (s.bytes (s.rd Reg.MGT_LOG_BASE_ADDR + e % 8192 * 32) 32))) ∧
  (∀ (s : State) (i c : Nat), i < 128 → s.sidebandUp = true → c < 2 → exec (.getIdentity i c) s = .next (s.reply 5 i 0
    (((leBytes 68 (s.rd Reg.MGT_PUBKEY_KEY) ++ leBytes 8 (if s.rd Reg.MGT_PUBKEY_KEY = 0 then 0 else serialNumber)).drop (48
    * c)).take 48))) ∧
  (∀ (s : State) (i x : Nat), i < 128 → s.sidebandUp = true → s.fwRuns = true → s.rd Reg.TST_STATUS_MODE = 0 → s.rd
    Reg.MGT_XMSS_NEXT < 65536 → ∃ t r, s.signReport (leBytes 32 x) = some (t, r) ∧ exec (.attest i x 0) s = .next
    (({ t with rv := { t.rv with report := r } } : State).reply 6 i 0 (r.take 48))) ∧
  (∀ (s : State) (i x c : Nat), i < 128 → s.sidebandUp = true → s.fwRuns = true → s.rd Reg.TST_STATUS_MODE = 0 → 0 < c → c <
    62 → exec (.attest i x c) s = .next (s.reply 6 i 0 ((s.rv.report.drop (48 * c)).take 48))) ∧
  (∀ (s : State) (i : Nat) (f : Found), i < 128 → s.sidebandUp = true → s.on Reg.PWR_REQ_BUSY = false → exec (.powerOff i) s
    = .next ((s.reply 7 i 0 []).powerReq 4 true) ∧ exec (.powerWarmStart i f) s = .next ((s.reply 7 i 0 []).warmStart f) ∧
    exec (.powerColdStart i f) s = .next ((s.reply 7 i 0 []).coldStart f)) ∧
  (∀ (s : State) (i a n : Nat) (b : List Nat), i < 128 → s.sidebandUp = true → 0 < n → n ≤ 48 → n % 4 = 0 → a % 4 = 0 →
    s.dportOpen a n = true → b.length = n → exec (.sidebandDport i a n true b) s = .next ((((s.wr (Reg.DPORT_CTRL_EN 1) 1).wr
    (Reg.DPORT_ADDR_ADDR 1) (a / 4)).dportWrite 1 b).reply 8 i 0 [])) ∧
  (∀ (s : State) (i a n : Nat), i < 128 → s.sidebandUp = true → 0 < n → n ≤ 48 → n % 4 = 0 → a % 4 = 0 → s.dportOpen a n =
    true → exec (.sidebandDport i a n false []) s = .next ((((s.wr (Reg.DPORT_CTRL_EN 1) 1).wr (Reg.DPORT_ADDR_ADDR 1) (a /
    4)).dportRead 1 n).1.reply 8 i 0 (((s.wr (Reg.DPORT_CTRL_EN 1) 1).wr (Reg.DPORT_ADDR_ADDR 1) (a / 4)).dportRead 1 n).2)) ∧
  (∀ (s : State) (i k : Nat), i < 128 → k < 2 → s.sidebandUp = true → exec (.cfgWrite i k) s = .next ((s.cfgStore k).1.reply
    9 i (if (s.cfgStore k).2 = 0 then 0 else 2) []))

/-- Loops, forced lateness, injected faults, self-tests, ALL_OFF and the loss of AUX power complete with their effect -/
def Obligations.TestCommandsComplete : Prop :=
  (∀ (s t : State), s.pfOpen 18 = true → t = ((((s.each 4 (fun k t => (t.wr (Reg.TST_DELAY_EN k) 0).wr (Reg.TST_BP_EN k)
    0)).wr Reg.TST_JITTER_EN 0).wr Reg.TST_LATE_ARMED 0).wr Reg.TST_INJECT_ARMED 0) → exec .allOff s = .next
    (({ t with tst := { t.tst with late := none, inject := none } } : State).each 55 (fun i t => if t.on (Reg.TST_LOOP_EN i)
    then t.endLoop i else t))) ∧
  (∀ (s t : State) (l v : Nat), s.pfOpen 18 = true → l < 32 → s.loopOpen l (bits v 0 3) = true → s.on (Reg.TST_LOOP_ACTIVE l)
    = false → t = s.loopSet .pf l v → t.on (Reg.TST_LOOP_ACTIVE l) = false → exec (.loopEnable l v) s = .next
    ((({ t with tst := { t.tst with loopAt := Tab.set 0 t.tst.loopAt l t.now } } : State).wr (Reg.TST_LOOP_ACTIVE l)
    1).portPathsDown l)) ∧
  (∀ (s : State) (i : Nat), s.pfOpen 18 = true → i < 55 → s.on (Reg.TST_LOOP_ACTIVE i) = true → exec (.loopDisable i) s =
    .next (s.loopEnds i)) ∧
  (∀ (s u : State) (i : Nat), i < 55 → s.on (Reg.TST_LOOP_EN i) = true → s.rd (Reg.TST_LOOP_LIMIT i) ≠ 0 → u = s.atTime
    (Tab.get 0 s.tst.loopAt i + s.rd (Reg.TST_LOOP_LIMIT i) * 4000000) → exec (.loopLimitExpiry i) s = .next (u.endLoop i)) ∧
  (∀ (s t : State) (v w : Nat), s.pfOpen 18 = true → w = setBits v 32 1 1 → s.testMode ≠ 0 → bits w 4 8 ≠ 0 → bit w 32 = true
    → t = ((s.wr Reg.TST_LATE_ENGINE (bits w 0 4)).wr Reg.TST_LATE_BACKLOG (bits w 12 20)).wr Reg.TST_LATE_COUNT (bits w 4 8)
    → t.on Reg.TST_LATE_ARMED = false → t.rd Reg.TST_LATE_COUNT ≠ 0 → t.count < t.rd Reg.TST_LATE_BELL_BELL → exec (.lateArm
    v) s = .next
    ((({ t with tst := { t.tst with late := some (t.rd Reg.TST_LATE_ENGINE, t.rd Reg.TST_LATE_BELL_BELL, t.rd Reg.TST_LATE_COUNT, t.rd Reg.TST_LATE_BACKLOG) } }
    : State).wr Reg.TST_LATE_ARMED 1).tstArm)) ∧
  (∀ (s t : State) (v w : Nat), s.pfOpen 18 = true → w = setBits (setBits v 18 1 1) 19 1 0 → s.testMode ≠ 0 → s.on
    Reg.TST_INJECT_ARMED = false → bit w 19 = false → bit w 18 = true → t = (((s.wr Reg.TST_INJECT_CODE (bits w 0 8)).wr
    Reg.TST_INJECT_UNIT (bits w 8 5)).wr Reg.TST_INJECT_ENGINE (bits w 13 4)).wr Reg.TST_INJECT_DIE (bits w 17 1) → t.on
    Reg.TST_INJECT_ARMED = false → exec (.injectArm v) s = .next t.armInject) ∧
  (∀ (s : State) (b : Nat) (o : Nat × Nat), s.pfOpen 18 = true → s.testMode ≠ 0 → s.tst.inject = some (b, o) → s.count < b →
    exec .injectCancel s = .next (({ s with tst := { s.tst with inject := none } } : State).wr Reg.TST_INJECT_ARMED 0)) ∧
  (∀ (s : State) (p e u b : Nat) (o : Nat × Nat), p < 64 → e < 17 → u < 32 → s.tst.inject = some (b, o) → b ≤ s.count → s.rd
    Reg.TST_INJECT_CODE = 1 → exec (.injectFire p e u) s = .next ((s.beginInject.faultBy 1 p (s.rd Reg.TST_INJECT_ENGINE) u 0
    o).endInject)) ∧
  (∀ (s t : State) (v w : Nat), s.pfOpen 18 = true → w = setBits v 8 1 1 → bit w 8 = true → t = ((s.wr Reg.TST_BIST_CODE
    4).wr Reg.TST_BIST_UNIT (bits w 3 4)).wr Reg.TST_BIST_DIE (bits w 7 1) → t.tst.bist = none → bits w 0 3 = 4 → t.bistOpen
    4 (bits w 3 4) (bits w 7 1) = true → exec (.bistStart v) s = .next
    (({ t with tst := { t.tst with bist := some (4, bits w 3 4, bits w 7 1) } } : State).wr Reg.TST_BIST_BUSY 1)) ∧
  (∀ (s : State) (ok : Bool) (u d : Nat), s.tst.bist = some (4, u, d) → exec (.bistComplete ok) s = .next
    ((({ s with tst := { s.tst with bist := none } } : State).wr Reg.TST_BIST_BUSY 0).wr Reg.TST_BIST_RESULT (if ok then 0
    else 1))) ∧
  (∀ (s : State), exec .auxPowerLoss s = .next s.auxLoss ∧ s.auxLoss.regs = [] ∧ s.auxLoss.mem = [] ∧ s.auxLoss.ctxs = [] ∧
    s.auxLoss.conns = [] ∧ s.auxLoss.rv.slotA = s.rv.slotA ∧ s.auxLoss.rv.slotB = s.rv.slotB ∧ s.auxLoss.rv.svnFloor =
    s.rv.svnFloor ∧ s.auxLoss.evlog.flash = s.evlog.flash ∧ s.auxLoss.pwr.off = true)

/-- Register writes of every sender and shape have their effect: words, pairs, 64-bit registers, doorbells, vector tables, and writes that reach no register -/
def Obligations.RegisterWritesComplete : Prop :=
  (∀ (s : State) (src : Src) (a v : Nat) (r : RegRow) (ra : Nat) (idx : List Nat), ((src = .pf ∧ s.pfOpen (accessBlock (a)) =
    true ∧ a < 2 ^ 26) ∨ src = .reeve ∨ (∃ c, src = .core c)) → findReg a = some (r, ra, idx) → (a - ra) % 4 = 0 → r.bits ≠
    64 → exec (.registerWrite src a 4 v) s = .next (RegAcc.full
    { src := src, row := r, ra := ra, idx := idx, lo := 8 * (a - ra), n := 32, v := v, addr := ra + (a - ra) } s)) ∧
  (∀ (s : State) (src : Src) (a v : Nat) (r : RegRow) (idx : List Nat), ((src = .pf ∧ s.pfOpen (accessBlock (a)) = true ∧ a <
    2 ^ 26) ∨ src = .reeve ∨ (∃ c, src = .core c)) → findReg a = some (r, a, idx) → r.bits = 64 → exec (.registerWrite src a
    4 v) s = .next { s with heldLow := Tab.set 0 s.heldLow a (v % 2 ^ 32 + 1) }) ∧
  (∀ (s : State) (src : Src) (a v : Nat) (r : RegRow) (idx : List Nat), ((src = .pf ∧ s.pfOpen (accessBlock (a + 4)) = true ∧
    a + 4 < 2 ^ 26) ∨ src = .reeve ∨ (∃ c, src = .core c)) → findReg (a + 4) = some (r, a, idx) → r.bits = 64 → exec
    (.registerWrite src (a + 4) 4 v) s = .next (RegAcc.full (if Tab.get 0 s.heldLow a = 0 then
    { src := src, row := r, ra := a, idx := idx, lo := 32, n := 32, v := v, addr := a + 4 } else
    { src := src, row := r, ra := a, idx := idx, lo := 0, n := 64, v := Tab.get 0 s.heldLow a - 1 + v % 2 ^ 32 * 2 ^ 32, addr := a + 4 })
    { s with heldLow := Tab.set 0 s.heldLow a 0 })) ∧
  (∀ (s : State) (src : Src) (a v : Nat) (r : RegRow) (ra : Nat) (idx : List Nat), ((src = .pf ∧ s.pfOpen (accessBlock (a)) =
    true ∧ a < 2 ^ 26) ∨ src = .reeve ∨ (∃ c, src = .core c)) → findReg a = some (r, ra, idx) → (a - ra) % 8 = 0 → 64 ≤
    r.bits → 8 * (a - ra) + 64 ≤ r.bits → exec (.registerWrite src a 8 v) s = .next (RegAcc.full
    { src := src, row := r, ra := ra, idx := idx, lo := 8 * (a - ra), n := 64, v := v, addr := ra + (a - ra) }
    { s with heldLow := Tab.set 0 s.heldLow ra 0, latchedHigh := Tab.set 0 s.latchedHigh ra 0 })) ∧
  (∀ (s : State) (src : Src) (a n v : Nat), ((src = .pf ∧ s.pfOpen (accessBlock (a)) = true ∧ a < 2 ^ 26) ∨ src = .reeve ∨ (∃
    c, src = .core c)) → findReg a = none → exec (.registerWrite src a n v) s = .next (s.unsup src a true)) ∧
  (∀ (s : State) (src : Src) (a n v : Nat) (r : RegRow) (ra : Nat) (idx : List Nat), ((src = .pf ∧ s.pfOpen (accessBlock (a))
    = true ∧ a < 2 ^ 26) ∨ src = .reeve ∨ (∃ c, src = .core c)) → findReg a = some (r, ra, idx) → (n = 1 ∨ (n = 2 ∧ a % 4 ≠
    3)) → exec (.registerWrite src a n v) s = .next (s.unsup src a true)) ∧
  (∀ (s : State) (a n v : Nat) (r : RegRow) (ra : Nat) (idx : List Nat), s.pfOpen (accessBlock a) = true → a < 2 ^ 26 →
    findReg a = some (r, ra, idx) → narrowWrite a n = false → r.carries (a - ra) n = false → exec (.registerWrite .pf a n v)
    s = .next (s.freeAbort 0)) ∧
  (∀ (s : State) (a n v : Nat), s.pfOpen (accessBlock a) = false → exec (.registerWrite .pf a n v) s = .next s) ∧
  (∀ (s : State) (o v : Nat), s.pfOpen (accessBlock (2 ^ 26 + o)) = true → o % 4 = 0 → exec (.registerWrite .pf (2 ^ 26 + o)
    4 v) s = .next (s.msixWrite 0 o (v % 2 ^ 32))) ∧
  (∀ (s : State) (n o v : Nat), s.pwr.off = false → s.funcPresent n = true → o < 2 ^ 26 → o % 4 = 0 → exec (.registerWrite
    (.vf n) o 4 v) s = .next (s.vfWrite n o (v % 2 ^ 32))) ∧
  (∀ (s : State) (n o v : Nat), s.pwr.off = false → s.funcPresent n = true → o < 2 ^ 26 → 0x10000 ≤ o → o % 8 = 0 → exec
    (.registerWrite (.vf n) o 8 v) s = .next ((s.vfWrite n o (v % 2 ^ 32)).vfWrite n (o + 4) (v / 2 ^ 32 % 2 ^ 32))) ∧
  (∀ (s : State) (n o v : Nat), s.pwr.off = false → s.funcPresent n = true → o % 4 = 0 → exec (.registerWrite (.vf n) (2 ^ 26
    + o) 4 v) s = .next (s.msixWrite n o (v % 2 ^ 32))) ∧
  (∀ (s : State) (n a k v : Nat), s.funcPresent n = false → exec (.registerWrite (.vf n) a k v) s = .next s) ∧
  (∀ (s : State) (v : Nat), s.pfOpen 1 = true → 0 < bits v 0 8 → exec (.registerWrite .pf Reg.PWR_IDLE 4 v) s = .next ((s.wr
    Reg.PWR_IDLE_BELLS (bits v 0 8)).wr Reg.PWR_IDLE_EN (bits v 8 1))) ∧
  (∀ (s : State) (v : Nat), s.pfOpen 1 = true → bits v 0 8 = 0 → exec (.registerWrite .pf Reg.PWR_IDLE 4 v) s = .next ((s.wr
    Reg.PWR_IDLE_EN (bits v 8 1)).unsup .pf Reg.PWR_IDLE true))

/-- An instruction on A and an operand changes only A, flags, PC, CYCLE and, in modes XP and YP, the address register -/
def Obligations.OperandInstructionFrame : Prop :=
  ∀ (s t : State) (c : Nat) (m : MForm) (i : Instr), i ∈ operandOps c m → s.canIssue c m.len → m.ok = true → s.plainOperand c
    m → exec i s = .next t → s.onlyCtx t c ∧ (s.ctx c).sameSystem (t.ctx c) ∧ (t.ctx c).b = (s.ctx c).b ∧ (t.ctx c).x =
    (m.after (s.ctx c)).x ∧ (t.ctx c).y = (m.after (s.ctx c)).y ∧ ∀ a, t.byte a = s.byte a

/-- Flags that an instruction does not name keep their values -/
def Obligations.FlagFrame : Prop :=
  (∀ (s t : State) (c : Nat) (m : MForm) (i : Instr), i ∈ zeroNegativeOps c m → s.canIssue c m.len → m.ok = true →
    s.plainOperand c m → exec i s = .next t → (t.ctx c).flag 2 = (s.ctx c).flag 2 ∧ (t.ctx c).flag 3 = (s.ctx c).flag 3 ∧
    (t.ctx c).flag 4 = (s.ctx c).flag 4) ∧
  (∀ (s t : State) (c : Nat) (m : MForm) (i : Instr), i ∈ sumOps c m → s.canIssue c m.len → m.ok = true → s.plainOperand c m
    → exec i s = .next t → (t.ctx c).flag 4 = (s.ctx c).flag 4) ∧
  (∀ (s t : State) (c : Nat) (m : MForm) (i : Instr), i ∈ shiftOps c m → s.canIssue c m.len → m.ok = true → s.plainOperand c
    m → exec i s = .next t → (t.ctx c).flag 3 = (s.ctx c).flag 3 ∧ (t.ctx c).flag 4 = (s.ctx c).flag 4) ∧
  (∀ (s t : State) (c : Nat) (m : MForm) (i : Instr), i ∈ countOps c m → s.canIssue c m.len → m.ok = true → s.plainOperand c
    m → exec i s = .next t → (t.ctx c).flag 1 = (s.ctx c).flag 1 ∧ (t.ctx c).flag 2 = (s.ctx c).flag 2 ∧ (t.ctx c).flag 3 =
    (s.ctx c).flag 3 ∧ (t.ctx c).flag 4 = (s.ctx c).flag 4) ∧
  (∀ (s t : State) (c : Nat) (m : MForm) (i : Instr), i = .adds c m → s.canIssue c m.len → m.ok = true → s.plainOperand c m →
    exec i s = .next t → (t.ctx c).flag 2 = (s.ctx c).flag 2 ∧ (t.ctx c).flag 3 = (s.ctx c).flag 3 ∧ ((s.ctx c).flag 4 = true
    → (t.ctx c).flag 4 = true)) ∧
  (∀ (s t : State) (c : Nat) (m : MForm) (i : Instr), i = .mul c m → s.canIssue c m.len → m.ok = true → s.plainOperand c m →
    exec i s = .next t → (t.ctx c).flag 2 = (s.ctx c).flag 2 ∧ (t.ctx c).flag 4 = (s.ctx c).flag 4) ∧
  (∀ (s t : State) (c : Nat) (m : MForm) (i : Instr) (r : State × BitVec 64 × Nat), i ∈ shiftOps c m → s.canIssue c m.len →
    m.ok = true → s.plainOperand c m → exec i s = .next t → s.operand c (s.ctx c) m = .ok r → r.2.1.toNat % 64 = 0 → (t.ctx
    c).flag 2 = (s.ctx c).flag 2)

/-- ADD, ADC, SUB, SBC and CMP give the sum or difference, with Z, N, C and V of Table 4.3 -/
def Obligations.SumFlags : Prop :=
  ∀ (s : State) (c : Nat) (m : MForm) (r : State × BitVec 64 × Nat), s.canIssue c m.len → m.ok = true → s.operand c (s.ctx c)
    m = .ok r → (∀ t, exec (.add c m) s = .next t → (t.ctx c).a = (s.ctx c).a + r.2.1 ∧ (t.ctx c).flag 0 = decide ((s.ctx
    c).a + r.2.1 = 0) ∧ (t.ctx c).flag 1 = ((s.ctx c).a + r.2.1).msb ∧ (t.ctx c).flag 2 = decide (2 ^ 64 ≤ (s.ctx c).a.toNat
    + r.2.1.toNat) ∧ (t.ctx c).flag 3 = decide ((s.ctx c).a.toInt + r.2.1.toInt < -2 ^ 63 ∨ 2 ^ 63 ≤ (s.ctx c).a.toInt +
    r.2.1.toInt)) ∧ (∀ t, exec (.adc c m) s = .next t → (t.ctx c).a = (s.ctx c).a + r.2.1 + (if (s.ctx c).flag 2 then 1 else
    0) ∧ (t.ctx c).flag 0 = decide ((s.ctx c).a + r.2.1 + (if (s.ctx c).flag 2 then 1 else 0) = 0) ∧ (t.ctx c).flag 1 =
    ((s.ctx c).a + r.2.1 + (if (s.ctx c).flag 2 then 1 else 0)).msb ∧ (t.ctx c).flag 2 = decide (2 ^ 64 ≤ (s.ctx c).a.toNat +
    r.2.1.toNat + (if (s.ctx c).flag 2 then 1 else 0)) ∧ (t.ctx c).flag 3 = decide ((s.ctx c).a.toInt + r.2.1.toInt + (if
    (s.ctx c).flag 2 then 1 else 0) < -2 ^ 63 ∨ 2 ^ 63 ≤ (s.ctx c).a.toInt + r.2.1.toInt + (if (s.ctx c).flag 2 then 1 else
    0))) ∧ (∀ t, exec (.sub c m) s = .next t → (t.ctx c).a = (s.ctx c).a - r.2.1 ∧ (t.ctx c).flag 0 = decide ((s.ctx c).a -
    r.2.1 = 0) ∧ (t.ctx c).flag 1 = ((s.ctx c).a - r.2.1).msb ∧ (t.ctx c).flag 2 = decide (r.2.1.toNat ≤ (s.ctx c).a.toNat) ∧
    (t.ctx c).flag 3 = decide ((s.ctx c).a.toInt - r.2.1.toInt < -2 ^ 63 ∨ 2 ^ 63 ≤ (s.ctx c).a.toInt - r.2.1.toInt)) ∧ (∀ t,
    exec (.sbc c m) s = .next t → (t.ctx c).a = (s.ctx c).a - r.2.1 - (if (s.ctx c).flag 2 then 0 else 1) ∧ (t.ctx c).flag 0
    = decide ((s.ctx c).a - r.2.1 - (if (s.ctx c).flag 2 then 0 else 1) = 0) ∧ (t.ctx c).flag 1 = ((s.ctx c).a - r.2.1 - (if
    (s.ctx c).flag 2 then 0 else 1)).msb ∧ (t.ctx c).flag 2 = decide (r.2.1.toNat + (if (s.ctx c).flag 2 then 0 else 1) ≤
    (s.ctx c).a.toNat) ∧ (t.ctx c).flag 3 = decide ((s.ctx c).a.toInt - r.2.1.toInt - (if (s.ctx c).flag 2 then 0 else 1) <
    -2 ^ 63 ∨ 2 ^ 63 ≤ (s.ctx c).a.toInt - r.2.1.toInt - (if (s.ctx c).flag 2 then 0 else 1))) ∧ (∀ t, exec (.cmp c m) s =
    .next t → (t.ctx c).a = (s.ctx c).a ∧ (t.ctx c).flag 0 = decide ((s.ctx c).a - r.2.1 = 0) ∧ (t.ctx c).flag 1 = ((s.ctx
    c).a - r.2.1).msb ∧ (t.ctx c).flag 2 = decide (r.2.1.toNat ≤ (s.ctx c).a.toNat) ∧ (t.ctx c).flag 3 = decide ((s.ctx
    c).a.toInt - r.2.1.toInt < -2 ^ 63 ∨ 2 ^ 63 ≤ (s.ctx c).a.toInt - r.2.1.toInt))

/-- A function of the group REG that writes A changes only A, flags, PC and CYCLE -/
def Obligations.AccumulatorFunctionFrame : Prop :=
  ∀ (s t : State) (c : Nat) (arg : BitVec 12) (i : Instr), i ∈ accumulatorOps c arg → s.canIssue c 4 → 1 ≤ arg.toNat →
    arg.toNat ≤ 63 → exec i s = .next t → s.onlyCtx t c ∧ (s.ctx c).sameSystem (t.ctx c) ∧ (t.ctx c).b = (s.ctx c).b ∧ (t.ctx
    c).x = (s.ctx c).x ∧ (t.ctx c).y = (s.ctx c).y ∧ ∀ a, t.byte a = s.byte a

/-- A store changes the bytes it stores to and no other byte, and no register but PC, CYCLE and an address register in modes XP and YP -/
def Obligations.StoreFrame : Prop :=
  (∀ (s t : State) (c : Nat) (m : MForm) (i : Instr), i ∈ storeOps c m → s.canIssue c m.len → m.ok = true → m.imm = false →
    m.sx = false → m.notLong = true → c < 288 → exec i s = .next t → ∀ a, s.storeAddr c m = some a → s.onlyCtxMem t c ∧
    (s.ctx c).sameSystem (t.ctx c) ∧ (∀ k, (t.ctx c).flag k = (s.ctx c).flag k) ∧ (t.ctx c).a = (s.ctx c).a ∧ (t.ctx c).b =
    (s.ctx c).b ∧ (t.ctx c).x = (m.after (s.ctx c)).x ∧ (t.ctx c).y = (m.after (s.ctx c)).y ∧ ∀ b, b < a ∨ a + m.nbytes ≤ b →
    t.byte b = s.byte b) ∧
  (∀ (s t : State) (c : Nat) (m : MForm), s.canIssue c m.len → m.ok = true → m.imm = false → m.sx = false → exec (.sta c m) s
    = .next t → ∀ a, s.storeAddr c m = some a → s.onlyCtxMem t c ∧ ∀ b, b < a ∨ a + m.nbytes ≤ b → t.byte b = s.byte b)

/-- The bytes a store of A wrote read back as the low bytes of A -/
def Obligations.StoredBytesReadBack : Prop :=
  ∀ (s t : State) (c : Nat) (m : MForm), s.canIssue c m.len → m.ok = true → m.imm = false → m.sx = false → exec (.sta c m) s
    = .next t → ∀ a, s.storeAddr c m = some a → t.ld a m.nbytes = (s.ctx c).a.toNat % 2 ^ m.width

/-- A step runs the command at the front of the queue; on an empty queue time passes -/
def Obligations.StepRunsTheCommandAtTheFront : Prop :=
  (∀ (s : State) (c : Instr) (r : List Instr), s.pending = c :: r → step s = exec c { s with pending := r }) ∧
  (∀ (s : State), s.pending = [] → step s = .next s.tick)

/-- Every command answers a next state, and one that names no unit of the module leaves the state as it was -/
def Obligations.EveryCommandRunsOrIsIllFormed : Prop :=
  ∀ (i : Instr) (s : State), (∃ t, exec i s = .next t) ∧ (i.wf = false → exec i s = .next s)

/-- No command's effect changes the queue of waiting commands -/
def Obligations.QueueIsTheStepsAlone : Prop :=
  ∀ (i : Instr) (s t : State), s.canonical → exec i s = .next t → t.pending = s.pending

/-- Every step keeps memory and the register fields in their canonical forms -/
def Obligations.CanonicalFormIsKept : Prop :=
  ∀ (s t : State), s.canonical → step s = .next t → t.canonical

/-- At cold start nothing waits, memory and the register fields are canonical, and each field holds its Reset value -/
def Obligations.ResetState : Prop :=
  State.reset.pending = [] ∧ State.reset.canonical ∧ (∀ f : Fld, State.reset.rd f = f.rst) ∧ ∀ a, State.reset.byte a = 0

/-- A refused instruction has no effect but the entry of its exception -/
def Obligations.ExceptionEntry : Prop :=
  (∀ (s : State) (c : Nat) (m : MForm) (i : Instr), i ∈ operandOps c m ++ storeOps c m → c < 321 → (s.ctx c).run = .running →
    (s.ctx c).pc.toNat % 4 ≠ 0 → s.ownHandler c → ∃ t, exec i s = .next t ∧ s.takesException t c 3 (s.ctx c).pc.toNat) ∧
  (∀ (s : State) (c : Nat) (m : MForm) (i : Instr), i ∈ operandOps c m ++ storeOps c m → s.canIssue c m.len → m.ok = false →
    s.ownHandler c → ∃ t, exec i s = .next t ∧ s.takesException t c 1 (s.ctx c).pc.toNat) ∧
  (∀ (s : State) (c : Nat) (m : MForm) (i : Instr) (code a : Nat), i ∈ operandOps c m → s.canIssue c m.len → m.ok = true →
    s.ownHandler c → s.operand c (s.ctx c) m = .error (.exc code a) → ∃ t, exec i s = .next t ∧ s.takesException t c code a) ∧
  (∀ (s : State) (c : Nat) (m : MForm) (i : Instr), i ∈ storeOps c m → s.canIssue c m.len → m.ok = true → (m.imm = true ∨
    m.sx = true) → s.ownHandler c → ∃ t, exec i s = .next t ∧ s.takesException t c 1 (s.ctx c).pc.toNat) ∧
  (∀ (s : State) (c : Nat) (i : Instr), i ∈ absentOps c → s.canIssue c 4 → s.ownHandler c → ∃ t, exec i s = .next t ∧
    s.takesException t c 1 (s.ctx c).pc.toNat) ∧
  (∀ (s : State) (c : Nat) (i : Instr), i ∈ [.halt c, .eret c] → s.canIssue c 4 → (s.ctx c).level = 0 → s.ownHandler c → ∃ t,
    exec i s = .next t ∧ s.takesException t c 2 (s.ctx c).pc.toNat)

/-- A level-P exception of a tending core is entered and then reported; an exception while EXL is 1 is a double exception -/
def Obligations.ReportedAndDoubleExceptions : Prop :=
  (∀ (s : State) (c : Nat) (m : MForm) (i : Instr), i ∈ operandOps c m → c < 288 → (s.ctx c).run = .running → (s.ctx
    c).pc.toNat % 4 ≠ 0 → (s.ctx c).level = 0 → (s.ctx c).flag 11 = false → exec i s = .next (((s.setCtx c ((s.ctx c).entered
    c 3 (s.ctx c).pc.toNat 0 (s.ctx c).pc)).recordExc c 3 false (s.ctx c).pc.toNat).reportExc c)) ∧
  (∀ (s : State) (c : Nat) (m : MForm) (i : Instr), i ∈ operandOps c m → c < 321 → (s.ctx c).run = .running → (s.ctx
    c).pc.toNat % 4 ≠ 0 → (s.ctx c).flag 11 = true → exec i s = .next (s.doubleExc c 3))

/-- RAISE_SVN raises the floor to the SVN of the running package, and never lowers it -/
def Obligations.RollbackFloorOnlyRises : Prop :=
  (∀ (s : State) (x : Firmware), s.pfOpen 2 = true → s.pwr.off = false → s.rd Reg.MGT_STATUS_STATE = 2 → s.rv.fw = some x → ∃
    t, exec .raiseSvn s = .next t ∧ (s.rv.svnFloor ≤ x.svn → t.rv.svnFloor = x.svn) ∧ (x.svn < s.rv.svnFloor → t.rv.svnFloor
    = s.rv.svnFloor)) ∧
  (∀ (s t : State), exec .raiseSvn s = .next t → s.rv.svnFloor ≤ t.rv.svnFloor)

/-- PAR gives the parity of the operand and of each of its bytes, BREV its bits in reversed order, in 1 base cycle, setting Z -/
def Obligations.ParityAndReversal : Prop :=
  (∀ (s : State) (c : Nat) (m : MForm) (r : State × BitVec 64 × Nat), s.canIssue c m.len → m.ok = true → s.operand c (s.ctx
    c) m = .ok r → ∃ t, exec (.par c m) s = .next t ∧ ((t.ctx c).a.getLsbD 0 = xorBits r.2.1 0 m.width) ∧ (∀ i, i < 8 →
    (t.ctx c).a.getLsbD (8 + i) = (decide (8 * i < m.width) && xorBits r.2.1 (8 * i) 8)) ∧ (∀ j, 1 ≤ j → j < 8 ∨ 16 ≤ j →
    (t.ctx c).a.getLsbD j = false) ∧ (t.ctx c).flag 0 = decide ((t.ctx c).a = 0) ∧ (t.ctx c).cycle = (s.ctx c).cycle +
    BitVec.ofNat 64 (1 + extCost m.len + r.2.2)) ∧
  (∀ (s : State) (c : Nat) (m : MForm) (r : State × BitVec 64 × Nat), s.canIssue c m.len → m.ok = true → s.operand c (s.ctx
    c) m = .ok r → ∃ t, exec (.brev c m) s = .next t ∧ (∀ i, (t.ctx c).a.getLsbD i = (decide (i < m.width) && r.2.1.getLsbD
    (m.width - 1 - i))) ∧ (t.ctx c).flag 0 = decide ((t.ctx c).a = 0) ∧ (t.ctx c).cycle = (s.ctx c).cycle + BitVec.ofNat 64
    (1 + extCost m.len + r.2.2))

/-- A register field reads back what was written to it, and no other field changes -/
def Obligations.RegisterFieldsAreIndependent : Prop :=
  ∀ (s : State) (f g : Fld) (v : Nat), (s.wr f v).rd f = v % 2 ^ f.w ∧ (g.key ≠ f.key → (s.wr f v).rd g = s.rd g) ∧ s.wr f v
    = { s with regs := (s.wr f v).regs }

/-- An event sets its bit once; when it is enabled its interrupt reaches the host and the Reeve, and a log entry is written -/
def Obligations.EventsLatchAndInterrupt : Prop :=
  (∀ (s : State) (f en : Fld) (vec : Nat), s.rd f = 1 → (s.event f en vec) = s) ∧
  (∀ (s : State) (f en : Fld) (vec : Nat), s.rd f ≠ 1 → bit ((s.wr f 1).rd en) f.lsb = false → (s.event f en vec) = s.wr f 1) ∧
  (∀ (s : State) (f en : Fld) (vec : Nat), s.rd f ≠ 1 → bit ((s.wr f 1).rd en) f.lsb = true → f.addr ≠ Reg.MGT_EVENT → vec ∈
    (s.event f en vec).reeveInts) ∧
  (∀ (s : State) (f en : Fld) (vec : Nat), (s.event f en vec).ctxs = s.ctxs ∧ (s.event f en vec).slots = s.slots ∧ (s.event f
    en vec).copies = s.copies ∧ (s.event f en vec).queues = s.queues ∧ (s.event f en vec).parts = s.parts ∧ (s.event f en
    vec).conns = s.conns ∧ (s.event f en vec).counters = s.counters ∧ (s.event f en vec).pending = s.pending)

/-- A completion bump adds one to one counter modulo 2^32 and changes nothing else -/
def Obligations.CompletionCountersWrap : Prop :=
  ∀ (s : State) (p id p2 id2 : Nat), id < 65536 → id2 < 65536 → (s.bump p id).counter p id = (s.counter p id + 1) % 2 ^ 32 ∧
    ((p2, id2) ≠ (p, id) → (s.bump p id).counter p2 id2 = s.counter p2 id2) ∧ s.bump p id =
    { s with counters := (s.bump p id).counters }

/-- A slice is written only while its EN is 0 or to clear EN; clearing waits on its queues; a bad window or a PASID enabled elsewhere leaves EN at 0 -/
def Obligations.SliceWritesFollowTheirRule : Prop :=
  (∀ (s : State) (p sl v : Nat), s.pfOpen 4 = true → p < 64 → sl < 1024 → sl < (s.part p).grants.slices → s.on
    (Reg.PART_SLICE_EN p sl) = true → bit v 20 = true → exec (.sliceWrite p sl v) s = .next s) ∧
  (∀ (s : State) (p sl v : Nat), s.pfOpen 4 = true → p < 64 → sl < 1024 → sl < (s.part p).grants.slices → s.on
    (Reg.PART_SLICE_EN p sl) = true → bit v 20 = false → s.queues.any (fun e => e.1 / 4096 / 4 == p && e.2.en && e.2.slice ==
    sl) = true → exec (.sliceWrite p sl v) s = .next s) ∧
  (∀ (s : State) (p sl v : Nat), s.pfOpen 4 = true → p < 64 → sl < 1024 → sl < (s.part p).grants.slices → s.on
    (Reg.PART_SLICE_EN p sl) = true → bit v 20 = false → s.queues.any (fun e => e.1 / 4096 / 4 == p && e.2.en && e.2.slice ==
    sl) = false → ∃ t, exec (.sliceWrite p sl v) s = .next t ∧ t.rd (Reg.PART_SLICE_EN p sl) = 0 ∧ t.rd (Reg.PART_SLICE_PASID
    p sl) = bits v 0 20 ∧ t.rd (Reg.PART_SLICE_WBASE p sl) = bits v 32 16 ∧ t.rd (Reg.PART_SLICE_WLEN p sl) = bits v 48 16) ∧
  (∀ (s : State) (p sl v : Nat), s.pfOpen 4 = true → p < 64 → sl < 1024 → sl < (s.part p).grants.slices → s.on
    (Reg.PART_SLICE_EN p sl) = false → bit v 20 = false → ∃ t, exec (.sliceWrite p sl v) s = .next t ∧ t.rd
    (Reg.PART_SLICE_EN p sl) = 0 ∧ t.rd (Reg.PART_SLICE_PASID p sl) = bits v 0 20 ∧ t.rd (Reg.PART_SLICE_WBASE p sl) = bits v
    32 16 ∧ t.rd (Reg.PART_SLICE_WLEN p sl) = bits v 48 16) ∧
  (∀ (s : State) (p sl v : Nat), s.pfOpen 4 = true → p < 64 → sl < 1024 → sl < (s.part p).grants.slices → s.on
    (Reg.PART_SLICE_EN p sl) = false → bit v 20 = true → (¬ (∃ a, bits v 32 16 * 0x200000 ≤ a ∧ a < (bits v 32 16 + bits v 48
    16) * 0x200000 ∧ Machine.translate (s.bounds p).segs a = none)) → (¬ (∃ i, i < 1024 ∧ i ≠ sl ∧ s.on (Reg.PART_SLICE_EN p
    i) = true ∧ s.rd (Reg.PART_SLICE_PASID p i) = bits v 0 20)) → ∃ t, exec (.sliceWrite p sl v) s = .next t ∧ t.rd
    (Reg.PART_SLICE_EN p sl) = 1 ∧ t.rd (Reg.PART_SLICE_PASID p sl) = bits v 0 20 ∧ t.rd (Reg.PART_SLICE_WBASE p sl) = bits v
    32 16 ∧ t.rd (Reg.PART_SLICE_WLEN p sl) = bits v 48 16) ∧
  (∀ (s : State) (p sl v : Nat), s.pfOpen 4 = true → p < 64 → sl < 1024 → sl < (s.part p).grants.slices → s.on
    (Reg.PART_SLICE_EN p sl) = false → bit v 20 = true → ((∃ a, bits v 32 16 * 0x200000 ≤ a ∧ a < (bits v 32 16 + bits v 48
    16) * 0x200000 ∧ Machine.translate (s.bounds p).segs a = none) ∨ (∃ i, i < 1024 ∧ i ≠ sl ∧ s.on (Reg.PART_SLICE_EN p i) =
    true ∧ s.rd (Reg.PART_SLICE_PASID p i) = bits v 0 20)) → ∃ t, exec (.sliceWrite p sl v) s = .next t ∧ t.rd
    (Reg.PART_SLICE_EN p sl) = 0 ∧ t.rd (Reg.PART_EVENT_SLICE_REJECT p) = 1)
end

