-- ==== Sys2Proof/Laws/Tab.lean ====
section
/-! SUPPORT. Sparse tables: a read after a write, and the canonical form kept by every operation. -/

namespace Sys2Proof.Machine

/-- Erasing an index leaves every other value. -/
theorem Tab.get_erase {α} (d : α) (t : Tab α) (k j : Nat) : Tab.get d (Tab.erase t k) j = if j = k then d else Tab.get d t j := by
  induction t with
  | nil => simp [Tab.erase, Tab.get]
  | cons e r ih =>
    simp only [Tab.erase, List.filter_cons] at *
    by_cases h : e.1 = k <;> simp [h, Tab.get, ih] <;> by_cases h2 : j = k <;> simp_all <;> omega

/-- Inserting at an index leaves every other value. -/
theorem Tab.get_insert {α} (d : α) (t : Tab α) (k j : Nat) (v : α) : j ≠ k → Tab.get d (Tab.insert k v t) j = Tab.get d t j := by
  intro hj
  induction t with
  | nil => simp [Tab.insert, Tab.get, Ne.symm hj]
  | cons e r ih =>
    simp only [Tab.insert]; split <;> simp_all [Tab.get, Ne.symm hj]

/-- An index that was not listed holds the value inserted. -/
theorem Tab.get_insert_same {α} (d : α) (t : Tab α) (k : Nat) (v : α) (h : ∀ e ∈ t, e.1 ≠ k) : Tab.get d (Tab.insert k v t) k = v := by
  induction t with
  | nil => simp [Tab.insert, Tab.get]
  | cons e r ih =>
    simp only [Tab.insert]; split
    · simp [Tab.get]
    · simp only [Tab.get, if_neg (h e (by simp))]; exact ih (fun x hx => h x (by simp [hx]))

/-- A read after a write of a table. -/
theorem Tab.get_set {α} [DecidableEq α] (d : α) (t : Tab α) (k j : Nat) (v : α) : Tab.get d (Tab.set d t k v) j = if j = k then v else Tab.get d t j := by
  simp only [Tab.set]
  split
  · rename_i h; rw [Tab.get_erase]; simp [h]
  · by_cases hj : j = k
    · subst hj; simp only [if_true]; apply Tab.get_insert_same; intro e he; simp [Tab.erase] at he; exact he.2
    · rw [Tab.get_insert _ _ _ _ _ hj, Tab.get_erase]; simp [hj]

/-- A read after an update in place. -/
theorem Tab.get_upd {α : Type} [DecidableEq α] (d : α) (t : Tab α) (k j : Nat) (f : α → α) :
    Tab.get d (Tab.upd d t k f) j = if j = k then f (Tab.get d t k) else Tab.get d t j := Tab.get_set _ _ _ _ _

/-- A table whose indices lie above a bound is canonical. -/
theorem Tab.above_none {α : Type} [DecidableEq α] {d : α} {t : Tab α} {lo : Nat} (h : Tab.above d (some lo) t = true) : Tab.above d none t = true := by
  cases t with
  | nil => rfl
  | cons e r => simp_all [Tab.above]

/-- A lower bound still bounds. -/
theorem Tab.above_lower {α : Type} [DecidableEq α] {d : α} {t : Tab α} {lo lo' : Nat} (hl : lo' ≤ lo) (h : Tab.above d (some lo) t = true) : Tab.above d (some lo') t = true := by
  cases t with
  | nil => rfl
  | cons e r => simp_all [Tab.above]; omega

/-- Dropping entries keeps the canonical form. -/
theorem Tab.above_filter {α : Type} [DecidableEq α] {d : α} (p : Nat × α → Bool) (t : Tab α) : ∀ lo, Tab.above d lo t = true → Tab.above d lo (t.filter p) = true := by
  induction t with
  | nil => simp [Tab.above]
  | cons e r ih =>
    intro lo h
    simp only [Tab.above, Bool.and_eq_true, decide_eq_true_eq] at h
    simp only [List.filter_cons]
    split
    · simp only [Tab.above, Bool.and_eq_true, decide_eq_true_eq]
      exact ⟨h.1, ih _ h.2⟩
    · cases lo with
      | none => exact Tab.above_none (ih _ h.2)
      | some l => exact Tab.above_lower (Nat.le_of_lt (by simpa using h.1.1)) (ih _ h.2)

/-- Inserting a value other than the default at an index not listed keeps the canonical form. -/
theorem Tab.above_insert {α : Type} [DecidableEq α] {d v : α} {k : Nat} (hv : v ≠ d) (t : Tab α) : ∀ lo, (∀ l, lo = some l → l < k) → (∀ e ∈ t, e.1 ≠ k) →
    Tab.above d lo t = true → Tab.above d lo (Tab.insert k v t) = true := by
  induction t with
  | nil => intro lo hl _ _; cases lo <;> simp_all [Tab.insert, Tab.above]
  | cons e r ih =>
    intro lo hl hk h
    simp only [Tab.above, Bool.and_eq_true, decide_eq_true_eq] at h
    simp only [Tab.insert]
    split
    · rename_i hlt
      simp only [Tab.above, Bool.and_eq_true, decide_eq_true_eq]
      refine ⟨⟨?_, hv⟩, ⟨hlt, h.1.2⟩, h.2⟩
      cases lo with
      | none => rfl
      | some l => simpa using hl l rfl
    · rename_i hlt
      simp only [Tab.above, Bool.and_eq_true, decide_eq_true_eq]
      refine ⟨h.1, ih _ ?_ (fun a ha => hk a (List.mem_cons_of_mem _ ha)) h.2⟩
      intro l hl'
      cases hl'
      have := hk e (List.mem_cons_self ..)
      omega

/-- A write keeps the canonical form. -/
theorem Tab.wf_set {α : Type} [DecidableEq α] {d v : α} {k : Nat} {t : Tab α} (h : Tab.wf d t = true) : Tab.wf d (Tab.set d t k v) = true := by
  simp only [Tab.set]
  split
  · exact Tab.above_filter _ _ _ h
  · rename_i hv
    refine Tab.above_insert hv _ none (by simp) ?_ (Tab.above_filter _ _ _ h)
    intro e he
    simp [Tab.erase] at he
    exact he.2

/-- Dropping entries keeps the canonical form. -/
theorem Tab.wf_filter {α : Type} [DecidableEq α] {d : α} (p : Nat × α → Bool) {t : Tab α} (h : Tab.wf d t = true) : Tab.wf d (t.filter p) = true :=
  Tab.above_filter p t _ h

end Sys2Proof.Machine
end

