-- ==== Sys2Proof/Laws/Units.lean ====
section
/-! SUPPORT. A read of a unit, a register field or a counter after a write of one. -/

namespace Sys2Proof.Machine

/-- A read of one unit after a write of one. -/
theorem State.ctx_setCtx (s : State) (c d : Nat) (x : Ctx) : (s.setCtx c x).ctx d = if d = c then x else s.ctx d := Tab.get_set _ _ _ _ _

/-- A read of one unit after a write of one. -/
theorem State.slot_setSlot (s : State) (c d : Nat) (x : Slot) : (s.setSlot c x).slot d = if d = c then x else s.slot d := Tab.get_set _ _ _ _ _

/-- A read of one unit after a write of one. -/
theorem State.copy_setCopy (s : State) (c d : Nat) (x : CopyEng) : (s.setCopy c x).copy d = if d = c then x else s.copy d := Tab.get_set _ _ _ _ _

/-- A read of one unit after a write of one. -/
theorem State.part_setPart (s : State) (c d : Nat) (x : Part) : (s.setPart c x).part d = if d = c then x else s.part d := Tab.get_set _ _ _ _ _

/-- A read of one unit after a write of one. -/
theorem State.conn_setConn (s : State) (c d : Nat) (x : Conn) : (s.setConn c x).conn d = if d = c then x else s.conn d := Tab.get_set _ _ _ _ _

/-- A read of one unit after a write of one. -/
theorem State.path_setPath (s : State) (c d : Nat) (x : PathSt) : (s.setPath c x).path d = if d = c then x else s.path d := Tab.get_set _ _ _ _ _

/-- A register field reads the low bits of what was written to it. -/
theorem State.rd_wr (s : State) (f : Fld) (v : Nat) : (s.wr f v).rd f = v % 2 ^ f.w := by
  simp only [State.rd, State.wr, Tab.get_set, if_true, Nat.xor_assoc, Nat.xor_self, Nat.xor_zero]

/-- A write of a register field leaves every field at another bit address. -/
theorem State.rd_wr_other (s : State) (f g : Fld) (v : Nat) (h : g.key ≠ f.key) : (s.wr f v).rd g = s.rd g := by
  simp only [State.rd, State.wr, Tab.get_set, if_neg h]

/-- At reset every register field reads its Reset column. -/
theorem State.rd_reset (f : Fld) : State.reset.rd f = f.rst := Nat.zero_xor _

/-- A bump adds one to its counter, modulo 2^32. -/
theorem State.counter_bump (s : State) (p id : Nat) : (s.bump p id).counter p id = (s.counter p id + 1) % 2 ^ 32 := by
  simp only [State.bump, State.counter, Tab.get_set, if_true]

end Sys2Proof.Machine
end

