-- ==== Sys2Proof/Laws/Core.lean ====
section
/-! SUPPORT. Issue, completion and end of an instruction on a core: what each can do, said once. -/

namespace Sys2Proof.Machine

/-- Everything that issuing an instruction does: nothing where the context does not run; an end without effect for a fetch, an
undefined encoding, or a level that is refused; else what its body gives. A word fetched through the register window is read first. -/
theorem State.issue_cases (s : State) (c len l : Nat) (d : Bool) (body : State → Ctx → Except Stop State) :
    ((s.ctx c).run ≠ .running ∧ s.issue c len d l body = s) ∨
    (∃ t e, (t = s ∨ t = s.fetched c (s.ctx c) len) ∧ s.issue c len d l body = t.ended c e) ∨
    (∃ t, body (s.fetched c (s.ctx c) len) (s.ctx c) = .ok t ∧ s.issue c len d l body = t) := by
  unfold State.issue
  dsimp only
  split
  · rename_i h; exact .inl ⟨h, rfl⟩
  · split
    · exact .inr (.inl ⟨_, _, .inl rfl, rfl⟩)
    · split
      · exact .inr (.inl ⟨_, _, .inr rfl, rfl⟩)
      · split
        · exact .inr (.inl ⟨_, _, .inr rfl, rfl⟩)
        · split
          · rename_i h; exact .inr (.inr ⟨_, h, rfl⟩)
          · exact .inr (.inl ⟨_, _, .inr rfl, rfl⟩)

/-- An instruction that is fetched, defined and allowed does what its body gives. -/
theorem State.issue_completes {s : State} {c len : Nat} {d : Bool} {l : Nat} {body : State → Ctx → Except Stop State} {t : State}
    (h : s.canIssue c len) (hd : d = true) (hl : ¬ (s.ctx c).level < l) (hb : body s (s.ctx c) = .ok t) : s.issue c len d l body = t := by
  simp [State.issue, h.2.1, h.2.2.1, State.fetched, h.2.2.2, hd, hl, hb]

/-- An instruction at a PC that is no multiple of 4 raises ALIGN. -/
theorem State.issue_misaligned {s : State} {c len l : Nat} {d : Bool} {body : State → Ctx → Except Stop State} (hr : (s.ctx c).run = .running) (hp : (s.ctx c).pc.toNat % 4 ≠ 0) :
    s.issue c len d l body = s.ended c (.exc 3 (s.ctx c).pc.toNat) := by
  simp [State.issue, hr, State.fetchStop, hp]

/-- An undefined instruction raises UNDEF. -/
theorem State.issue_undefined {s : State} {c len l : Nat} {d : Bool} {body : State → Ctx → Except Stop State} (h : s.canIssue c len) (hd : d = false) :
    s.issue c len d l body = s.ended c (.exc 1 (s.ctx c).pc.toNat) := by
  simp [State.issue, h.2.1, h.2.2.1, State.fetched, h.2.2.2, hd]

/-- A well-formed command answers its state. -/
theorem guarded_of {s : State} {b : Bool} {t : State} (h : b = true) : s.guarded b t = .next t := by simp [State.guarded, h]

/-- An immediate or an operand in memory reads, and nothing but the count of free values differs. -/
theorem State.plain_operand {s : State} {c : Nat} {m : MForm} (h : s.plainOperand c m) :
    ∃ f v k, s.operand c (s.ctx c) m = .ok ({ s with free := f }, v, k) := by
  rcases h with h | ⟨a, tile, h, h2⟩
  · exact ⟨s.free, m.extend m.value.toNat, 0, by simp [State.operand, h]⟩
  · by_cases hi : m.imm = true
    · exact ⟨s.free, m.extend m.value.toNat, 0, by simp [State.operand, hi]⟩
    · cases tile
      · refine ⟨s.free, m.extend (s.ld a m.nbytes), 1, ?_⟩
        simp [State.operand, hi, State.load, h, h2, State.memCost]
      · refine ⟨s.free + 1, m.extend (s.ld a m.nbytes), 7 + Config.freeNat s.free % 5, ?_⟩
        simp [State.operand, hi, State.load, h, h2, State.memCost, State.draw]

/-- What an instruction on such an operand does. -/
theorem State.operate_plain {s : State} {c : Nat} {m : MForm} {base : Nat} {f : Ctx → BitVec 64 → Ctx} (h : s.canIssue c m.len) (hm : m.ok = true)
    (ho : s.plainOperand c m) : ∃ fr v k, s.operand c (s.ctx c) m = .ok ({ s with free := fr }, v, k) ∧
     s.operate c m true base f = ({ s with free := fr } : State).finish c (m.after (f (s.ctx c) v)) ((s.ctx c).pc + BitVec.ofNat 32 m.len) (base + extCost m.len + k) := by
  obtain ⟨fr, v, k, hv⟩ := State.plain_operand ho
  refine ⟨fr, v, k, hv, ?_⟩
  simp [State.operate, State.issue, h.2.1, h.2.2.1, State.fetched, h.2.2.2, hm, hv]

/-- A flag after one flag was set. -/
theorem Ctx.flag_setFlag (x : Ctx) (i j : Nat) (v : Bool) (hi : i < 32) : (x.setFlag i v).flag j = if j = i then v else x.flag j := by
  simp only [Ctx.setFlag, Ctx.flag]
  cases v <;> simp [BitVec.getLsbD_or, BitVec.getLsbD_and, BitVec.getLsbD_not, BitVec.getLsbD_twoPow] 
  · by_cases h : j = i
    · subst h; simp
    · have h' : i ≠ j := fun e => h e.symm
      by_cases hj : j < 32 <;> simp [h, h', hj]
      exact (BitVec.getLsbD_of_ge x.st j (by omega))
  · by_cases h : j = i
    · subst h; simp [hi]
    · have h' : i ≠ j := fun e => h e.symm
      simp [h, h']

/-- The address modes touch no flag. -/
theorem MForm.after_flag (m : MForm) (y : Ctx) (k : Nat) : (m.after y).flag k = y.flag k := by
  simp only [MForm.after]; split <;> rfl

/-- What completing an instruction leaves: nothing but the registers of the context, and the count of free values, differs. -/
theorem State.finish_frame {s : State} {c : Nat} {fr : Nat} {y : Ctx} {n : BitVec 32} {k : Nat} {x : Ctx} (hx : s.ctx c = x)
   (t : State) (ht : t = ({ s with free := fr } : State).finish c y n k) :
   s.onlyCtx t c ∧ (∀ a, t.byte a = s.byte a) ∧ t.ctx c = { y with pc := n, cycle := y.cycle + BitVec.ofNat 64 k, run := x.run, frozen := x.frozen, late := x.late } := by
  subst ht hx
  refine ⟨⟨rfl, fun d hd => ?_⟩, fun a => rfl, ?_⟩
  · simp only [State.finish]; rw [State.ctx_setCtx, if_neg hd]; rfl
  · simp only [State.finish]; rw [State.ctx_setCtx, if_pos rfl]; rfl

/-- Recording an exception changes register fields alone. -/
theorem State.recordExc_regs (s : State) (c code : Nat) (d : Bool) (pc : Nat) : s.recordExc c code d pc = { s with regs := (s.recordExc c code d pc).regs } := by
  unfold State.recordExc; split <;> rfl

end Sys2Proof.Machine
end

