-- ==== Sys2Proof/Laws/Event.lean ====
section
/-! SUPPORT. Events, interrupts and log entries: what they never touch. -/

namespace Sys2Proof.Machine

/-- What an event never touches. -/
def State.quiet (s t : State) : Prop := t.ctxs = s.ctxs ∧ t.slots = s.slots ∧ t.copies = s.copies ∧ t.queues = s.queues ∧ t.parts = s.parts ∧ t.conns = s.conns ∧ t.counters = s.counters ∧
  t.pending = s.pending ∧ t.rv = s.rv

/-- Nothing changed. -/
theorem State.quiet_refl (s : State) : State.quiet s s := ⟨rfl, rfl, rfl, rfl, rfl, rfl, rfl, rfl, rfl⟩

/-- Two quiet changes in a row. -/
theorem State.quiet_trans {s t u : State} (h : State.quiet s t) (g : State.quiet t u) : State.quiet s u := by
  obtain ⟨a, b, c, d, e, f, i, j, k⟩ := h
  obtain ⟨a', b', c', d', e', f', i', j', k'⟩ := g
  exact ⟨a'.trans a, b'.trans b, c'.trans c, d'.trans d, e'.trans e, f'.trans f, i'.trans i, j'.trans j, k'.trans k⟩

/-- A stored byte. -/
theorem State.quiet_setByte (s : State) (a v : Nat) : State.quiet s (s.setByte a v) := by unfold State.setByte; split <;> exact State.quiet_refl _

/-- Stored bytes. -/
theorem State.quiet_setBytes (bs : List Nat) : ∀ (s : State) (a : Nat), State.quiet s (s.setBytes a bs) := by
  induction bs with
  | nil => exact fun s a => State.quiet_refl s
  | cons v r ih => exact fun s a => State.quiet_trans (State.quiet_setByte s a v) (ih _ _)

/-- Bytes put outside a command's bounds: the marks of failing memory change beside the bytes. -/
theorem State.quiet_putBytes (s : State) (a : Nat) (bs : List Nat) : State.quiet s (s.putBytes a bs) := State.quiet_setBytes bs s a

/-- A vector sent or kept pending. -/
theorem State.quiet_sendMsix (s : State) (f v : Nat) : State.quiet s (s.sendMsix f v) := by unfold State.sendMsix; split <;> exact State.quiet_refl _

/-- A log entry touches nothing of the kind, nor the interrupts held for the Reeve. -/
theorem State.quiet_logEntry (s : State) (b v c d : Nat) : State.quiet s (s.logEntry b v c d) ∧ (s.logEntry b v c d).reeveInts = s.reeveInts := by
  have hr : ∀ (bs : List Nat) (s : State) (a : Nat), (s.setBytes a bs).reeveInts = s.reeveInts := by
    intro bs
    induction bs with
    | nil => exact fun s a => rfl
    | cons v r ih =>
      intro s a
      show ((s.setByte a v).setBytes (a + 1) r).reeveInts = _
      rw [ih]; unfold State.setByte; split <;> rfl
  have hp : ∀ (s : State) (a : Nat) (bs : List Nat), (s.putBytes a bs).reeveInts = s.reeveInts := fun s a bs => hr bs s a
  unfold State.logEntry
  extract_lets i k bytes base t u
  have ht : State.quiet s t ∧ t.reeveInts = s.reeveInts := by
    show State.quiet s (if _ then _ else _) ∧ (if _ then _ else _ : State).reeveInts = _
    split
    · exact ⟨State.quiet_putBytes _ _ _, hp _ _ _⟩
    · exact ⟨State.quiet_refl _, rfl⟩
  have hu : State.quiet t u ∧ u.reeveInts = t.reeveInts := by
    show State.quiet t (t.when _ _) ∧ (t.when _ _).reeveInts = _
    unfold State.when; split <;> exact ⟨State.quiet_refl _, rfl⟩
  exact ⟨State.quiet_trans ht.1 (State.quiet_trans hu.1 (State.quiet_refl _)), hu.2.trans ht.2⟩

/-- MGT_EVENT's interrupt touches nothing of the kind. -/
theorem State.quiet_raiseMgt (s : State) (v : Nat) : State.quiet s (s.raiseMgt v) := by
  unfold State.raiseMgt State.when
  split
  · exact State.quiet_trans (State.quiet_sendMsix _ _ _) (State.quiet_refl _)
  · exact State.quiet_sendMsix _ _ _

/-- A block's interrupt touches nothing of the kind, and the Reeve holds its vector. -/
theorem State.quiet_raiseBlock (s : State) (v a : Nat) : State.quiet s (s.raiseBlock v a) ∧ v ∈ (s.raiseBlock v a).reeveInts := by
  unfold State.raiseBlock
  extract_lets t u c d
  have hu : State.quiet s u ∧ v ∈ u.reeveInts := by
    show State.quiet s (if _ then _ else _) ∧ v ∈ (if _ then _ else _ : State).reeveInts
    split
    · rename_i h; exact ⟨State.quiet_sendMsix _ _ _, h⟩
    · exact ⟨State.quiet_sendMsix s 0 v, by simp⟩
  split
  · exact hu
  · have h := State.quiet_logEntry d.2 (blockOf a) 0 (c.1 % 2 ^ 16) (d.1 % 2 ^ 64)
    exact ⟨State.quiet_trans hu.1 h.1, by rw [h.2]; exact hu.2⟩

/-- An interrupt raised touches nothing of the kind, and the Reeve holds its vector unless it is MGT_EVENT's. -/
theorem State.quiet_raise (s : State) (v a : Nat) : State.quiet s (s.raise v a) ∧ (a ≠ Reg.MGT_EVENT → v ∈ (s.raise v a).reeveInts) := by
  unfold State.raise
  split
  · rename_i h; exact ⟨State.quiet_raiseMgt _ _, fun n => absurd h n⟩
  · exact ⟨(State.quiet_raiseBlock _ _ _).1, fun _ => (State.quiet_raiseBlock _ _ _).2⟩

/-- An event touches nothing of the kind. -/
theorem State.quiet_event (s : State) (f en : Fld) (vec : Nat) : State.quiet s (s.event f en vec) := by
  unfold State.event
  split
  · exact State.quiet_refl _
  · dsimp only
    split
    · exact State.quiet_trans (State.quiet_refl _) (State.quiet_raise (s.wr f 1) _ _).1
    · exact State.quiet_refl _

/-- Stored bytes leave every register field. -/
theorem State.rd_setBytes (bs : List Nat) : ∀ (s : State) (a : Nat) (g : Fld), (s.setBytes a bs).rd g = s.rd g := by
  induction bs with
  | nil => exact fun s a g => rfl
  | cons v r ih =>
    intro s a g
    show ((s.setByte a v).setBytes (a + 1) r).rd g = _
    rw [ih]; unfold State.setByte; split <;> rfl

/-- A log entry writes no register field but MGT_LOG's. -/
theorem State.rd_logEntry (s : State) (b v c d : Nat) (g : Fld) (h : g.key ≠ Reg.MGT_LOG_INDEX.key) (k : g.key ≠ Reg.MGT_LOG_LOST.key) :
    (s.logEntry b v c d).rd g = s.rd g := by
  unfold State.logEntry
  extract_lets i n bytes base t u
  have ht : t.rd g = s.rd g := by
    show State.rd (if _ then _ else _) g = _
    split
    · exact State.rd_setBytes _ _ _ _
    · rfl
  have hu : u.rd g = t.rd g := by
    show State.rd (t.when _ _) g = _
    unfold State.when; split
    · exact State.rd_wr_other _ _ _ _ k
    · rfl
  exact (State.rd_wr_other _ _ _ _ h).trans (hu.trans ht)

/-- A vector sent or kept pending writes no register field. -/
theorem State.rd_sendMsix (s : State) (f v : Nat) (g : Fld) : (s.sendMsix f v).rd g = s.rd g := by unfold State.sendMsix; split <;> rfl

/-- A block's interrupt writes no register field but MGT_LOG's. -/
theorem State.rd_raiseBlock (s : State) (v a : Nat) (g : Fld) (h : g.key ≠ Reg.MGT_LOG_INDEX.key) (k : g.key ≠ Reg.MGT_LOG_LOST.key) :
    (s.raiseBlock v a).rd g = s.rd g := by
  unfold State.raiseBlock
  extract_lets t u c d
  have hu : u.rd g = s.rd g := by
    have ht : t.rd g = s.rd g := State.rd_sendMsix s 0 v g
    show State.rd (if _ then _ else _) g = _
    split
    · exact ht
    · exact ht
  split
  · exact hu
  · exact (State.rd_logEntry _ _ _ _ _ _ h k).trans hu

/-- An interrupt raised writes no register field but MGT_LOG's. -/
theorem State.rd_raise (s : State) (v a : Nat) (g : Fld) (h : g.key ≠ Reg.MGT_LOG_INDEX.key) (k : g.key ≠ Reg.MGT_LOG_LOST.key) : (s.raise v a).rd g = s.rd g := by
  unfold State.raise
  split
  · unfold State.raiseMgt State.when
    split <;> exact State.rd_sendMsix _ _ _ _
  · exact State.rd_raiseBlock _ _ _ _ h k

/-- An event writes its own bit and, of the other register fields, MGT_LOG's only. -/
theorem State.rd_event_other (s : State) (f en : Fld) (vec : Nat) (g : Fld) (n : g.key ≠ f.key) (h : g.key ≠ Reg.MGT_LOG_INDEX.key) (k : g.key ≠ Reg.MGT_LOG_LOST.key) :
    (s.event f en vec).rd g = s.rd g := by
  unfold State.event
  split
  · rfl
  · dsimp only
    split
    · exact (State.rd_raise _ _ _ _ h k).trans (State.rd_wr_other _ _ _ _ n)
    · exact State.rd_wr_other _ _ _ _ n

/-- An event's bit is set. -/
theorem State.rd_event (s : State) (f en : Fld) (vec : Nat) (w : 1 < 2 ^ f.w) (h : f.key ≠ Reg.MGT_LOG_INDEX.key) (k : f.key ≠ Reg.MGT_LOG_LOST.key) : (s.event f en vec).rd f = 1 := by
  unfold State.event
  split
  · assumption
  · dsimp only
    have e : (s.wr f 1).rd f = 1 := (State.rd_wr _ _ _).trans (Nat.mod_eq_of_lt w)
    split
    · exact (State.rd_raise _ _ _ _ h k).trans e
    · exact e

end Sys2Proof.Machine
end

