-- ==== Sys2Proof/Laws/Keeps.lean ====
section
/-! SUPPORT. No operation touches the queue of waiting commands, and each keeps the canonical forms of memory and of the register
fields: one lemma per operation, each from those of the operations it calls. -/

namespace Sys2Proof.Machine

set_option linter.all false
set_option maxRecDepth 4000

/-- The queue is `q`, and memory and the register fields are in canonical form. -/
def Kept (q : List Instr) (s : State) : Prop := s.pending = q ∧ s.memWf = true ∧ s.regsWf = true

/-! ### Record updates, branches and folds -/

theorem kept_mk {q : List Instr} {s : State} {_out} {_now} {_free} {_heldLow} {_latchedHigh} {_bell} {_slots} {_credits} {_shares} {_counters} {_ctxs} {_heavy} {_copies} {_cpdId} {_memSt} {_dports} {_parts} {_partCmds} {_queues} {_pci} {_reeveInts} {_conns} {_paths} {_wqes} {_recvs} {_regions} {_flt} {_fab} {_blk} {_ciph} {_evlog} {_pwr} {_rv} {_tst} {_hostBlobs} (h : Kept q s) : Kept q (State.mk s.pending _out _now _free s.regs _heldLow _latchedHigh s.mem _bell _slots _credits _shares _counters _ctxs _heavy _copies _cpdId _memSt _dports _parts _partCmds _queues _pci _reeveInts _conns _paths _wqes _recvs _regions _flt _fab _blk _ciph _evlog _pwr _rv _tst _hostBlobs) := h

theorem kept_mk_iff {q : List Instr} {s : State} {_out} {_now} {_free} {_heldLow} {_latchedHigh} {_bell} {_slots} {_credits} {_shares} {_counters} {_ctxs} {_heavy} {_copies} {_cpdId} {_memSt} {_dports} {_parts} {_partCmds} {_queues} {_pci} {_reeveInts} {_conns} {_paths} {_wqes} {_recvs} {_regions} {_flt} {_fab} {_blk} {_ciph} {_evlog} {_pwr} {_rv} {_tst} {_hostBlobs} : Kept q (State.mk s.pending _out _now _free s.regs _heldLow _latchedHigh s.mem _bell _slots _credits _shares _counters _ctxs _heavy _copies _cpdId _memSt _dports _parts _partCmds _queues _pci _reeveInts _conns _paths _wqes _recvs _regions _flt _fab _blk _ciph _evlog _pwr _rv _tst _hostBlobs) = Kept q s := rfl

theorem kept_empty {q : List Instr} {s : State} {_out} {_now} {_free} {_heldLow} {_latchedHigh} {_bell} {_slots} {_credits} {_shares} {_counters} {_ctxs} {_heavy} {_copies} {_cpdId} {_memSt} {_dports} {_parts} {_partCmds} {_queues} {_pci} {_reeveInts} {_conns} {_paths} {_wqes} {_recvs} {_regions} {_flt} {_fab} {_blk} {_ciph} {_evlog} {_pwr} {_rv} {_tst} {_hostBlobs} (h : Kept q s) : Kept q (State.mk s.pending _out _now _free s.regs _heldLow _latchedHigh [] _bell _slots _credits _shares _counters _ctxs _heavy _copies _cpdId _memSt _dports _parts _partCmds _queues _pci _reeveInts _conns _paths _wqes _recvs _regions _flt _fab _blk _ciph _evlog _pwr _rv _tst _hostBlobs) := ⟨h.1, rfl, h.2.2⟩

theorem kept_foldl {q : List Instr} {α : Type} {f : State → α → State} {l : List α} {s : State} (h : Kept q s) (g : ∀ s a, Kept q s → Kept q (f s a)) : Kept q (l.foldl f s) := by
  induction l generalizing s with
  | nil => exact h
  | cons a r ih => exact ih (g s a h)

theorem kept_elim {q : List Instr} {α : Type} {o : Option α} {s : State} {f : α → State} (h : Kept q s) (g : ∀ a, Kept q (f a)) : Kept q (o.elim s f) := by
  cases o with
  | none => exact h
  | some a => exact g a

theorem kept_filter {q : List Instr} {s : State} {p : Nat × Byte → Bool} {_out} {_now} {_free} {_heldLow} {_latchedHigh} {_bell} {_slots} {_credits} {_shares} {_counters} {_ctxs} {_heavy} {_copies} {_cpdId} {_memSt} {_dports} {_parts} {_partCmds} {_queues} {_pci} {_reeveInts} {_conns} {_paths} {_wqes} {_recvs} {_regions} {_flt} {_fab} {_blk} {_ciph} {_evlog} {_pwr} {_rv} {_tst} {_hostBlobs} (h : Kept q s) : Kept q (State.mk s.pending _out _now _free s.regs _heldLow _latchedHigh (s.mem.filter p) _bell _slots _credits _shares _counters _ctxs _heavy _copies _cpdId _memSt _dports _parts _partCmds _queues _pci _reeveInts _conns _paths _wqes _recvs _regions _flt _fab _blk _ciph _evlog _pwr _rv _tst _hostBlobs) := ⟨h.1, Tab.above_filter _ _ _ h.2.1, h.2.2⟩

theorem kept_set {q : List Instr} {s : State} {a : Nat} {v : Byte} {_out} {_now} {_free} {_heldLow} {_latchedHigh} {_bell} {_slots} {_credits} {_shares} {_counters} {_ctxs} {_heavy} {_copies} {_cpdId} {_memSt} {_dports} {_parts} {_partCmds} {_queues} {_pci} {_reeveInts} {_conns} {_paths} {_wqes} {_recvs} {_regions} {_flt} {_fab} {_blk} {_ciph} {_evlog} {_pwr} {_rv} {_tst} {_hostBlobs} (h : Kept q s) : Kept q (State.mk s.pending _out _now _free s.regs _heldLow _latchedHigh (Tab.set (0 : Byte) s.mem a v) _bell _slots _credits _shares _counters _ctxs _heavy _copies _cpdId _memSt _dports _parts _partCmds _queues _pci _reeveInts _conns _paths _wqes _recvs _regions _flt _fab _blk _ciph _evlog _pwr _rv _tst _hostBlobs) := ⟨h.1, Tab.wf_set h.2.1, h.2.2⟩

theorem kept_reg {q : List Instr} {s : State} {a v : Nat} {_out} {_now} {_free} {_heldLow} {_latchedHigh} {_bell} {_slots} {_credits} {_shares} {_counters} {_ctxs} {_heavy} {_copies} {_cpdId} {_memSt} {_dports} {_parts} {_partCmds} {_queues} {_pci} {_reeveInts} {_conns} {_paths} {_wqes} {_recvs} {_regions} {_flt} {_fab} {_blk} {_ciph} {_evlog} {_pwr} {_rv} {_tst} {_hostBlobs} (h : Kept q s) : Kept q (State.mk s.pending _out _now _free (Tab.set (0 : Nat) s.regs a v) _heldLow _latchedHigh s.mem _bell _slots _credits _shares _counters _ctxs _heavy _copies _cpdId _memSt _dports _parts _partCmds _queues _pci _reeveInts _conns _paths _wqes _recvs _regions _flt _fab _blk _ciph _evlog _pwr _rv _tst _hostBlobs) := ⟨h.1, h.2.1, Tab.wf_set h.2.2⟩
/-- An answer that may be none. -/
structure KeptO (q : List Instr) {α : Type} (p : α → State) (o : Option α) : Prop where
  get : ∀ a, o = some a → Kept q (p a)
/-- An answer that may be an error. -/
structure KeptE (q : List Instr) {ε α : Type} (p : α → State) (o : Except ε α) : Prop where
  get : ∀ a, o = .ok a → Kept q (p a)
/-- A state either way. -/
structure KeptB (q : List Instr) (o : Except State State) : Prop where
  ok : ∀ a, o = .ok a → Kept q a
  error : ∀ a, o = .error a → Kept q a
/-- An outcome. -/
structure KeptX (q : List Instr) (o : Host.Outcome State Fault Refusal) : Prop where
  get : ∀ a, o = .next a → Kept q a
theorem kepto_some {q : List Instr} {α : Type} {p : α → State} {a : α} (h : Kept q (p a)) : KeptO q p (some a) := ⟨fun _ e => by cases e; exact h⟩
theorem kepto_none {q : List Instr} {α : Type} {p : α → State} : KeptO q p none := ⟨fun _ e => by cases e⟩
theorem kepte_ok {q : List Instr} {ε α : Type} {p : α → State} {a : α} (h : Kept q (p a)) : KeptE (ε := ε) q p (.ok a) := ⟨fun _ e => by cases e; exact h⟩
theorem kepte_error {q : List Instr} {ε α : Type} {p : α → State} {a : ε} : KeptE q p (.error a) := ⟨fun _ e => by cases e⟩
theorem keptb_ok {q : List Instr} {a : State} (h : Kept q a) : KeptB q (.ok a) := ⟨fun _ e => (by cases e; exact h), fun _ e => by cases e⟩
theorem keptb_error {q : List Instr} {a : State} (h : Kept q a) : KeptB q (.error a) := ⟨fun _ e => (by cases e), fun _ e => (by cases e; exact h)⟩

theorem kept_next {q : List Instr} {a : State} (h : Kept q a) : KeptX q (.next a) := ⟨fun _ e => by cases e; exact h⟩

theorem kept_refused {q : List Instr} {r : Refusal} : KeptX q (.refused r) := ⟨fun _ e => by cases e⟩

theorem kept_guarded {q : List Instr} {s : State} {b : Bool} {t : State} (g : Kept q s) (h : Kept q t) : KeptX q (s.guarded b t) := by
  unfold State.guarded; split
  · exact kept_next h
  · exact kept_next g

theorem kept_fold2 {q : List Instr} {α : Type} {f : State × State → α → State × State} {l : List α} {r : State × State} (h : Kept q r.1) (k : Kept q r.2)
    (g : ∀ r a, Kept q r.1 → Kept q r.2 → Kept q (f r a).1 ∧ Kept q (f r a).2) : Kept q (l.foldl f r).1 ∧ Kept q (l.foldl f r).2 := by
  induction l generalizing r with
  | nil => exact ⟨h, k⟩
  | cons a t ih => exact ih (g r a h k).1 (g r a h k).2

theorem kept_fst {q : List Instr} {α β : Type} {f : State × β → α → State × β} {l : List α} {s : State × β} (h : Kept q s.1) (g : ∀ s a, Kept q s.1 → Kept q (f s a).1) :
    Kept q (l.foldl f s).1 := by
  induction l generalizing s with
  | nil => exact h
  | cons a r ih => exact ih (g s a h)

theorem kept_regs {q : List Instr} {s : State} {p : Nat × Nat → Bool} {_out} {_now} {_free} {_heldLow} {_latchedHigh} {_bell} {_slots} {_credits} {_shares} {_counters} {_ctxs} {_heavy} {_copies} {_cpdId} {_memSt} {_dports} {_parts} {_partCmds} {_queues} {_pci} {_reeveInts} {_conns} {_paths} {_wqes} {_recvs} {_regions} {_flt} {_fab} {_blk} {_ciph} {_evlog} {_pwr} {_rv} {_tst} {_hostBlobs} (h : Kept q s) : Kept q (State.mk s.pending _out _now _free (s.regs.filter p) _heldLow _latchedHigh [] _bell _slots _credits _shares _counters _ctxs _heavy _copies _cpdId _memSt _dports _parts _partCmds _queues _pci _reeveInts _conns _paths _wqes _recvs _regions _flt _fab _blk _ciph _evlog _pwr _rv _tst _hostBlobs) := ⟨h.1, rfl, Tab.above_filter _ _ _ h.2.2⟩

theorem kept_none {q : List Instr} {s : State} {_out} {_now} {_free} {_heldLow} {_latchedHigh} {_bell} {_slots} {_credits} {_shares} {_counters} {_ctxs} {_heavy} {_copies} {_cpdId} {_memSt} {_dports} {_parts} {_partCmds} {_queues} {_pci} {_reeveInts} {_conns} {_paths} {_wqes} {_recvs} {_regions} {_flt} {_fab} {_blk} {_ciph} {_evlog} {_pwr} {_rv} {_tst} {_hostBlobs} (h : Kept q s) : Kept q (State.mk s.pending _out _now _free [] _heldLow _latchedHigh [] _bell _slots _credits _shares _counters _ctxs _heavy _copies _cpdId _memSt _dports _parts _partCmds _queues _pci _reeveInts _conns _paths _wqes _recvs _regions _flt _fab _blk _ciph _evlog _pwr _rv _tst _hostBlobs) := ⟨h.1, rfl, rfl⟩

theorem kept_ite {q : List Instr} {c : Prop} [Decidable c] {a b : State} (h : Kept q a) (g : Kept q b) : Kept q (if c then a else b) := by
  split
  · exact h
  · exact g

/-! ### Operations -/

theorem State.wr_kept {q : List Instr} (a0 : State) (a1 : Fld) (a2 : ℕ) (h0 : Kept q a0) : Kept q (@State.wr a0 a1 a2) := by
  unfold State.wr
  repeat' first | with_reducible assumption | intro _ | extract_lets | with_reducible (first | apply kept_ite | apply kept_guarded | apply kept_foldl | apply kept_fst | apply kept_elim | apply kepto_some | exact kepto_none | apply kepte_ok | exact kepte_error | apply keptb_ok | apply keptb_error | apply kept_next | exact kept_refused) | split | simp only [kept_mk_iff] | dsimp +zetaDelta only | with_reducible (first | apply kept_set | apply kept_reg | apply kept_filter | apply kept_empty | apply kept_regs | apply kept_none)

theorem State.when_kept {q : List Instr} (a0 : State) (a1 : Bool) (a2 : State → State) (h0 : Kept q a0) (h2 : ∀ z0, Kept q z0 → Kept q (a2 z0)) : Kept q (@State.when a0 a1 a2) := by
  unfold State.when
  repeat' first | with_reducible (first | assumption | apply h2) | intro _ | split | simp only [kept_mk_iff]

theorem State.emit_kept {q : List Instr} (a0 : State) (a1 : Out) (h0 : Kept q a0) : Kept q (@State.emit a0 a1) := by
  unfold State.emit
  exact h0

theorem State.setVector_kept {q : List Instr} (a0 : State) (a1 : ℕ) (a2 : ℕ) (a3 : Vector) (h0 : Kept q a0) : Kept q (@State.setVector a0 a1 a2 a3) := by
  unfold State.setVector
  exact h0

theorem State.sendMsix_kept {q : List Instr} (a0 : State) (a1 : ℕ) (a2 : ℕ) (h0 : Kept q a0) : Kept q (@State.sendMsix a0 a1 a2) := by
  unfold State.sendMsix
  repeat' first | with_reducible (first | assumption | apply State.emit_kept | apply State.setVector_kept) | intro _ | split | simp only [kept_mk_iff]

theorem State.raiseMgt_kept {q : List Instr} (a0 : State) (a1 : ℕ) (h0 : Kept q a0) : Kept q (@State.raiseMgt a0 a1) := by
  unfold State.raiseMgt
  repeat' first | with_reducible (first | assumption | apply State.when_kept | apply State.sendMsix_kept | apply State.emit_kept) | intro _ | split | simp only [kept_mk_iff]

theorem State.draw_kept {q : List Instr} (a0 : State) (h0 : Kept q a0) : Kept q (@State.draw a0).2 := by
  unfold State.draw
  exact h0

theorem State.setByte_kept {q : List Instr} (a0 : State) (a1 : ℕ) (a2 : ℕ) (h0 : Kept q a0) : Kept q (@State.setByte a0 a1 a2) := by
  unfold State.setByte
  repeat' first | with_reducible assumption | intro _ | extract_lets | with_reducible (first | apply kept_ite | apply kept_guarded | apply kept_foldl | apply kept_fst | apply kept_elim | apply kepto_some | exact kepto_none | apply kepte_ok | exact kepte_error | apply keptb_ok | apply keptb_error | apply kept_next | exact kept_refused) | split | simp only [kept_mk_iff] | dsimp +zetaDelta only | with_reducible (first | apply kept_set | apply kept_reg | apply kept_filter | apply kept_empty | apply kept_regs | apply kept_none)

theorem State.setBytes_kept {q : List Instr} (a0 : State) (a1 : ℕ) (a2 : List ℕ) (h0 : Kept q a0) : Kept q (@State.setBytes a0 a1 a2) := by
  induction a2 generalizing a0 a1 with
  | nil => exact h0
  | cons v r ih => exact ih _ _ (State.setByte_kept _ _ _ h0)
theorem State.putBytes_kept {q : List Instr} (a0 : State) (a1 : ℕ) (a2 : List ℕ) (h0 : Kept q a0) : Kept q (@State.putBytes a0 a1 a2) := by
  unfold State.putBytes
  repeat' first | with_reducible assumption | intro _ | extract_lets | with_reducible (first | apply kept_ite | apply kept_guarded | apply kept_foldl | apply kept_fst | apply kept_elim | apply kepto_some | exact kepto_none | apply kepte_ok | exact kepte_error | apply keptb_ok | apply keptb_error | apply kept_next | exact kept_refused | apply State.setBytes_kept) | split | simp only [kept_mk_iff] | dsimp +zetaDelta only | with_reducible (first | apply kept_set | apply kept_reg | apply kept_filter | apply kept_empty | apply kept_regs | apply kept_none)

theorem State.incSat_kept {q : List Instr} (a0 : State) (a1 : Fld) (a2 : ℕ) (h0 : Kept q a0) : Kept q (@State.incSat a0 a1 a2) := by
  unfold State.incSat
  repeat' with_reducible first | assumption | apply State.wr_kept

theorem State.inc_kept {q : List Instr} (a0 : State) (a1 : Fld) (a2 : ℕ) (h0 : Kept q a0) : Kept q (@State.inc a0 a1 a2) := by
  unfold State.inc
  repeat' with_reducible first | assumption | apply State.wr_kept

theorem State.logEntry_kept {q : List Instr} (a0 : State) (a1 : ℕ) (a2 : ℕ) (a3 : ℕ) (a4 : ℕ) (h0 : Kept q a0) : Kept q (@State.logEntry a0 a1 a2 a3 a4) := by
  unfold State.logEntry
  repeat' first | with_reducible (first | assumption | apply State.putBytes_kept | apply State.when_kept | apply State.incSat_kept | apply State.inc_kept) | intro _ | split | simp only [kept_mk_iff]

theorem State.raiseBlock_kept {q : List Instr} (a0 : State) (a1 : ℕ) (a2 : ℕ) (h0 : Kept q a0) : Kept q (@State.raiseBlock a0 a1 a2) := by
  unfold State.raiseBlock
  repeat' first | with_reducible (first | assumption | apply State.sendMsix_kept | apply State.draw_kept | apply State.logEntry_kept) | intro _ | split | simp only [kept_mk_iff]

theorem State.raise_kept {q : List Instr} (a0 : State) (a1 : ℕ) (a2 : ℕ) (h0 : Kept q a0) : Kept q (@State.raise a0 a1 a2) := by
  unfold State.raise
  repeat' first | with_reducible (first | assumption | apply State.raiseMgt_kept | apply State.raiseBlock_kept) | intro _ | split | simp only [kept_mk_iff]

theorem State.event_kept {q : List Instr} (a0 : State) (a1 : Fld) (a2 : Fld) (a3 : ℕ) (h0 : Kept q a0) : Kept q (@State.event a0 a1 a2 a3) := by
  unfold State.event
  repeat' first | with_reducible (first | assumption | apply State.wr_kept | apply State.raise_kept) | intro _ | split | simp only [kept_mk_iff]

theorem State.pwrEvent_kept {q : List Instr} (a0 : State) (a1 : Fld) (h0 : Kept q a0) : Kept q (@State.pwrEvent a0 a1) := by
  unfold State.pwrEvent
  repeat' with_reducible first | assumption | apply State.event_kept

theorem State.emergEdge_kept {q : List Instr} (a0 : State) (h0 : Kept q a0) : Kept q (@State.emergEdge a0) := by
  unfold State.emergEdge
  repeat' first | with_reducible (first | assumption | apply State.pwrEvent_kept | apply State.wr_kept | apply State.incSat_kept) | intro _ | split | simp only [kept_mk_iff]

theorem State.setQueue_kept {q : List Instr} (a0 : State) (a1 : ℕ) (a2 : ℕ) (a3 : ℕ) (a4 : Queue) (h0 : Kept q a0) : Kept q (@State.setQueue a0 a1 a2 a3 a4) := by
  unfold State.setQueue
  exact h0

theorem State.setPart_kept {q : List Instr} (a0 : State) (a1 : ℕ) (a2 : Part) (h0 : Kept q a0) : Kept q (@State.setPart a0 a1 a2) := by
  unfold State.setPart
  exact h0

theorem State.logWrite_kept {q : List Instr} (a0 : State) (a1 : ℕ) (a2 : Option ℕ) (a3 : ℕ) (a4 : ℕ) (h0 : Kept q a0) : Kept q (@State.logWrite a0 a1 a2 a3 a4) := by
  unfold State.logWrite
  repeat' first | with_reducible (first | assumption | apply kept_ite | apply kept_foldl | apply kept_elim | apply State.incSat_kept | apply State.setPart_kept) | intro _ | extract_lets | split | simp only [kept_mk_iff] | dsimp +zetaDelta only

theorem State.postWrite_kept {q : List Instr} (a0 : State) (a1 : ℕ) (a2 : Option ℕ) (a3 : ℕ) (a4 : Bool) (a5 : List ℕ) (h0 : Kept q a0) : Kept q (@State.postWrite a0 a1 a2 a3 a4 a5) := by
  unfold State.postWrite
  repeat' first | with_reducible (first | assumption | apply State.incSat_kept | apply State.emit_kept | apply State.logWrite_kept) | intro _ | split | simp only [kept_mk_iff]

theorem State.hostWrite_kept {q : List Instr} (a0 : State) (a1 : ℕ) (a2 : Option ℕ) (a3 : ℕ) (a4 : Bool) (a5 : List ℕ) (h0 : Kept q a0) : Kept q (@State.hostWrite a0 a1 a2 a3 a4 a5) := by
  unfold State.hostWrite
  repeat' first | with_reducible (first | assumption | apply kept_ite | apply kept_foldl | apply kept_elim | apply State.postWrite_kept) | intro _ | extract_lets | split | simp only [kept_mk_iff] | dsimp +zetaDelta only

theorem State.place_kept {q : List Instr} (a0 : State) (a1 : ℕ) (a2 : List ℕ) (h0 : Kept q a0) : Kept q (@State.place a0 a1 a2) := by
  unfold State.place
  repeat' first | with_reducible (first | assumption | apply State.setBytes_kept) | intro _ | split | simp only [kept_mk_iff]

theorem State.holdWrite_kept {q : List Instr} (a0 : State) (a1 : HeldWrite) (h0 : Kept q a0) : Kept q (@State.holdWrite a0 a1) := by
  unfold State.holdWrite
  repeat' first | with_reducible (first | assumption | apply State.event_kept | apply State.incSat_kept) | intro _ | split | simp only [kept_mk_iff]

theorem State.write_kept {q : List Instr} (a0 : State) (a1 : ℕ) (a2 : List ℕ) (a3 : Writer) (h0 : Kept q a0) : Kept q (@State.write a0 a1 a2 a3) := by
  unfold State.write
  repeat' first | with_reducible (first | assumption | apply State.place_kept | apply State.holdWrite_kept) | intro _ | split | simp only [kept_mk_iff]

theorem State.writeFor_kept {q : List Instr} (a0 : State) (a1 : Writer) (a2 : ℕ) (a3 : Bool) (a4 : ℕ) (a5 : List ℕ) (h0 : Kept q a0) : Kept q (@State.writeFor a0 a1 a2 a3 a4 a5) := by
  unfold State.writeFor
  repeat' first | with_reducible (first | assumption | apply kept_ite | apply kept_foldl | apply kept_elim | apply State.write_kept) | intro _ | extract_lets | split | simp only [kept_mk_iff] | dsimp +zetaDelta only

theorem State.writeVia_kept {q : List Instr} (a0 : State) (a1 : ℕ) (a2 : Bool) (a3 : ℕ) (a4 : List ℕ) (h0 : Kept q a0) : Kept q (@State.writeVia a0 a1 a2 a3 a4) := by
  unfold State.writeVia
  repeat' with_reducible first | assumption | apply State.writeFor_kept

theorem State.ringWrite_kept {q : List Instr} (a0 : State) (a1 : ℕ) (a2 : Queue) (a3 : ℕ) (a4 : List ℕ) (h0 : Kept q a0) : Kept q (@State.ringWrite a0 a1 a2 a3 a4) := by
  unfold State.ringWrite
  repeat' first | with_reducible (first | assumption | apply State.hostWrite_kept | apply State.when_kept | apply State.writeVia_kept) | intro _ | split | simp only [kept_mk_iff]

theorem State.postRaw_kept {q : List Instr} (a0 : State) (a1 : ℕ) (a2 : ℕ) (a3 : Cqe) (h0 : Kept q a0) : Kept q (@State.postRaw a0 a1 a2 a3).1 := by
  unfold State.postRaw
  repeat' first | with_reducible (first | assumption | apply State.setQueue_kept | apply State.ringWrite_kept | apply State.sendMsix_kept) | intro _ | split | simp only [kept_mk_iff]

theorem State.asyncEvent_kept {q : List Instr} (a0 : State) (a1 : ℕ) (a2 : ℕ) (a3 : ℕ) (a4 : ℕ) (h0 : Kept q a0) : Kept q (@State.asyncEvent a0 a1 a2 a3 a4) := by
  unfold State.asyncEvent
  repeat' first | with_reducible (first | assumption | apply State.postRaw_kept) | intro _ | split | simp only [kept_mk_iff]

theorem State.postCqe_kept {q : List Instr} (a0 : State) (a1 : ℕ) (a2 : ℕ) (a3 : Cqe) (h0 : Kept q a0) : Kept q (@State.postCqe a0 a1 a2 a3) := by
  unfold State.postCqe
  repeat' first | with_reducible (first | assumption | apply State.postRaw_kept | apply State.asyncEvent_kept) | intro _ | split | simp only [kept_mk_iff]

theorem State.postRecv_kept {q : List Instr} (a0 : State) (a1 : ℕ) (a2 : ℕ) (a3 : Wqe) (a4 : ℕ) (h0 : Kept q a0) : Kept q (@State.postRecv a0 a1 a2 a3 a4) := by
  unfold State.postRecv
  repeat' first | with_reducible (first | assumption | apply State.when_kept | apply State.postCqe_kept | apply State.setQueue_kept) | intro _ | split | simp only [kept_mk_iff]

theorem State.each_kept {q : List Instr} (a0 : State) (a1 : ℕ) (a2 : ℕ → State → State) (h0 : Kept q a0) (h2 : ∀ z0 z1, Kept q z1 → Kept q (a2 z0 z1)) : Kept q (@State.each a0 a1 a2) := by
  unfold State.each
  repeat' first | with_reducible (first | assumption | apply kept_ite | apply kept_foldl | apply kept_elim | apply h2) | intro _ | extract_lets | split | simp only [kept_mk_iff] | dsimp +zetaDelta only

theorem State.setConn_kept {q : List Instr} (a0 : State) (a1 : ℕ) (a2 : Conn) (h0 : Kept q a0) : Kept q (@State.setConn a0 a1 a2) := by
  unfold State.setConn
  exact h0

theorem State.rktEvent_kept {q : List Instr} (a0 : State) (a1 : Fld) (h0 : Kept q a0) : Kept q (@State.rktEvent a0 a1) := by
  unfold State.rktEvent
  repeat' with_reducible first | assumption | apply State.event_kept

theorem State.connEpoch_kept {q : List Instr} (a0 : State) (a1 : ℕ) (a2 : ℕ) (h0 : Kept q a0) : Kept q (@State.connEpoch a0 a1 a2) := by
  unfold State.connEpoch
  repeat' with_reducible first | assumption | apply State.wr_kept | apply State.setConn_kept

theorem State.setPort_kept {q : List Instr} (a0 : State) (a1 : ℕ) (a2 : PortSt) (h0 : Kept q a0) : Kept q (@State.setPort a0 a1 a2) := by
  unfold State.setPort
  exact h0

theorem State.pushTx_kept {q : List Instr} (a0 : State) (a1 : ℕ) (a2 : TxFrame) (h0 : Kept q a0) : Kept q (@State.pushTx a0 a1 a2) := by
  unfold State.pushTx
  repeat' first | with_reducible (first | assumption | apply State.setPort_kept) | intro _ | split | simp only [kept_mk_iff]

theorem State.sendRkt_kept {q : List Instr} (a0 : State) (a1 : ℕ) (a2 : ℕ) (a3 : ℕ) (a4 : RktPkt) (a5 : TxDest) (h0 : Kept q a0) : Kept q (@State.sendRkt a0 a1 a2 a3 a4 a5) := by
  unfold State.sendRkt
  repeat' with_reducible first | assumption | apply State.pushTx_kept

theorem State.sendConn_kept {q : List Instr} (a0 : State) (a1 : ℕ) (a2 : ℕ) (a3 : ℕ) (a4 : RktPkt) (a5 : Option (List ℕ)) (h0 : Kept q a0) : Kept q (@State.sendConn a0 a1 a2 a3 a4 a5) := by
  unfold State.sendConn
  repeat' with_reducible first | assumption | apply State.sendRkt_kept

theorem State.pickCore_kept {q : List Instr} (a0 : State) (a1 : ℕ) (a2 : ℕ) (h0 : Kept q a0) : Kept q (@State.pickCore a0 a1 a2).1 := by
  unfold State.pickCore
  repeat' first | with_reducible (first | assumption | apply State.draw_kept) | intro _ | split | simp only [kept_mk_iff]

theorem State.setCipherCore_kept {q : List Instr} (a0 : State) (a1 : ℕ) (a2 : CipherCore) (h0 : Kept q a0) : Kept q (@State.setCipherCore a0 a1 a2) := by
  unfold State.setCipherCore
  exact h0

theorem State.cacheKey_kept {q : List Instr} (a0 : State) (a1 : ℕ) (a2 : ℕ) (a3 : ℕ) (h0 : Kept q a0) : Kept q (@State.cacheKey a0 a1 a2 a3) := by
  unfold State.cacheKey
  repeat' first | with_reducible (first | assumption | apply State.setCipherCore_kept | apply State.draw_kept) | intro _ | split | simp only [kept_mk_iff]

theorem State.takeCore_kept {q : List Instr} (a0 : State) (a1 : ℕ) (a2 : ℕ) (h0 : Kept q a0) : Kept q (@State.takeCore a0 a1 a2).1 := by
  unfold State.takeCore
  repeat' first | with_reducible assumption | intro _ | extract_lets | with_reducible (first | apply kept_ite | apply kept_guarded | apply kept_foldl | apply kept_fst | apply kept_elim | apply kepto_some | exact kepto_none | apply kepte_ok | exact kepte_error | apply keptb_ok | apply keptb_error | apply kept_next | exact kept_refused | apply State.pickCore_kept | apply State.cacheKey_kept) | split | simp only [kept_mk_iff] | dsimp +zetaDelta only | with_reducible (first | apply kept_set | apply kept_reg | apply kept_filter | apply kept_empty | apply kept_regs | apply kept_none)

theorem State.ciphEvent_kept {q : List Instr} (a0 : State) (a1 : Fld) (h0 : Kept q a0) : Kept q (@State.ciphEvent a0 a1) := by
  unfold State.ciphEvent
  repeat' with_reducible first | assumption | apply State.event_kept

theorem State.nonce_kept {q : List Instr} (a0 : State) (a1 : ℕ) (a2 : ℕ) (h0 : Kept q a0) : Kept q (@State.nonce a0 a1 a2).1 := by
  unfold State.nonce
  repeat' first | with_reducible (first | assumption | apply State.ciphEvent_kept | apply State.setCipherCore_kept | apply State.when_kept) | intro _ | split | simp only [kept_mk_iff]

theorem State.bump_kept {q : List Instr} (a0 : State) (a1 : ℕ) (a2 : ℕ) (h0 : Kept q a0) : Kept q (@State.bump a0 a1 a2) := by
  unfold State.bump
  exact h0

theorem State.postWqe_kept {q : List Instr} (a0 : State) (a1 : ℕ) (a2 : ℕ) (a3 : Wqe) (a4 : ℕ) (h0 : Kept q a0) : Kept q (@State.postWqe a0 a1 a2 a3 a4) := by
  unfold State.postWqe
  repeat' first | with_reducible (first | assumption | apply State.when_kept | apply State.setQueue_kept | apply State.bump_kept | apply State.postCqe_kept) | intro _ | split | simp only [kept_mk_iff]

theorem State.setWqes_kept {q : List Instr} (a0 : State) (a1 : ℕ) (a2 : ℕ) (a3 : List Wqe) (h0 : Kept q a0) : Kept q (@State.setWqes a0 a1 a2 a3) := by
  unfold State.setWqes
  exact h0

theorem State.postFront_kept {q : List Instr} (a0 : State) (a1 a2 a3 : ℕ) (h0 : Kept q a0) : Kept q (@State.postFront a0 a1 a2 a3) := by
  induction a3 generalizing a0 <;> unfold State.postFront
  · exact h0
  · rename_i ih
    repeat' first | with_reducible (first | apply ih | apply State.setWqes_kept | apply State.postWqe_kept) | with_reducible assumption | intro _ | extract_lets | with_reducible (first | apply kept_ite | apply kept_guarded | apply kept_foldl | apply kept_fst | apply kept_elim | apply kepto_some | exact kepto_none | apply kepte_ok | exact kepte_error | apply keptb_ok | apply keptb_error | apply kept_next | exact kept_refused) | split | simp only [kept_mk_iff] | dsimp +zetaDelta only | with_reducible (first | apply kept_set | apply kept_reg | apply kept_filter | apply kept_empty | apply kept_regs | apply kept_none)
theorem State.dropReads_kept {q : List Instr} (a0 : State) (a1 : ReadFor → Option ℕ) (h0 : Kept q a0) : Kept q (@State.dropReads a0 a1) := by
  unfold State.dropReads
  exact h0

theorem State.dropRaws_kept {q : List Instr} (a0 : State) (a1 : ℕ) (a2 : ℕ) (h0 : Kept q a0) : Kept q (@State.dropRaws a0 a1 a2) := by
  unfold State.dropRaws
  exact h0

theorem State.dropEntry_kept {q : List Instr} (a0 : State) (a1 : ℕ) (a2 : ℕ) (a3 : ℕ) (h0 : Kept q a0) : Kept q (@State.dropEntry a0 a1 a2 a3) := by
  unfold State.dropEntry
  repeat' first | with_reducible assumption | intro _ | extract_lets | with_reducible (first | apply kept_ite | apply kept_guarded | apply kept_foldl | apply kept_fst | apply kept_elim | apply kepto_some | exact kepto_none | apply kepte_ok | exact kepte_error | apply keptb_ok | apply keptb_error | apply kept_next | exact kept_refused | apply State.dropReads_kept) | split | simp only [kept_mk_iff] | dsimp +zetaDelta only | with_reducible (first | apply kept_set | apply kept_reg | apply kept_filter | apply kept_empty | apply kept_regs | apply kept_none)

theorem State.withdrawMsg_kept {q : List Instr} (a0 : State) (a1 : ℕ) (a2 : TxMsg) (h0 : Kept q a0) : Kept q (@State.withdrawMsg a0 a1 a2) := by
  unfold State.withdrawMsg
  exact h0

theorem State.disownAt_kept {q : List Instr} (a0 : State) (a1 : ℕ) (a2 : MsgOwner → Bool) (h0 : Kept q a0) : Kept q (@State.disownAt a0 a1 a2) := by
  unfold State.disownAt
  repeat' first | with_reducible assumption | intro _ | extract_lets | with_reducible (first | apply kept_ite | apply kept_guarded | apply kept_foldl | apply kept_fst | apply kept_elim | apply kepto_some | exact kepto_none | apply kepte_ok | exact kepte_error | apply keptb_ok | apply keptb_error | apply kept_next | exact kept_refused | apply State.withdrawMsg_kept | apply State.setConn_kept) | split | simp only [kept_mk_iff] | dsimp +zetaDelta only | with_reducible (first | apply kept_set | apply kept_reg | apply kept_filter | apply kept_empty | apply kept_regs | apply kept_none)

theorem State.disown_kept {q : List Instr} (a0 : State) (a1 : ℕ) (a2 : MsgOwner → Bool) (h0 : Kept q a0) : Kept q (@State.disown a0 a1 a2) := by
  unfold State.disown
  repeat' first | with_reducible assumption | intro _ | extract_lets | with_reducible (first | apply kept_ite | apply kept_guarded | apply kept_foldl | apply kept_fst | apply kept_elim | apply kepto_some | exact kepto_none | apply kepte_ok | exact kepte_error | apply keptb_ok | apply keptb_error | apply kept_next | exact kept_refused | apply State.disownAt_kept) | split | simp only [kept_mk_iff] | dsimp +zetaDelta only | with_reducible (first | apply kept_set | apply kept_reg | apply kept_filter | apply kept_empty | apply kept_regs | apply kept_none)

theorem State.flushSend_kept {q : List Instr} (a0 : State) (a1 : ℕ) (a2 : ℕ) (h0 : Kept q a0) : Kept q (@State.flushSend a0 a1 a2) := by
  unfold State.flushSend
  repeat' first | with_reducible assumption | intro _ | extract_lets | with_reducible (first | apply kept_ite | apply kept_guarded | apply kept_foldl | apply kept_fst | apply kept_elim | apply kepto_some | exact kepto_none | apply kepte_ok | exact kepte_error | apply keptb_ok | apply keptb_error | apply kept_next | exact kept_refused | apply State.postFront_kept | apply State.setWqes_kept | apply State.dropRaws_kept | apply State.dropEntry_kept | apply State.disown_kept | apply State.setQueue_kept) | split | simp only [kept_mk_iff] | dsimp +zetaDelta only | with_reducible (first | apply kept_set | apply kept_reg | apply kept_filter | apply kept_empty | apply kept_regs | apply kept_none)

theorem State.settleSend_kept {q : List Instr} (a0 : State) (a1 : ℕ) (a2 : ℕ) (h0 : Kept q a0) : Kept q (@State.settleSend a0 a1 a2) := by
  unfold State.settleSend
  repeat' first | with_reducible assumption | intro _ | extract_lets | with_reducible (first | apply kept_ite | apply kept_guarded | apply kept_foldl | apply kept_fst | apply kept_elim | apply kepto_some | exact kepto_none | apply kepte_ok | exact kepte_error | apply keptb_ok | apply keptb_error | apply kept_next | exact kept_refused | apply State.flushSend_kept) | split | simp only [kept_mk_iff] | dsimp +zetaDelta only | with_reducible (first | apply kept_set | apply kept_reg | apply kept_filter | apply kept_empty | apply kept_regs | apply kept_none)

theorem State.endWqe_kept {q : List Instr} (a0 : State) (a1 : ℕ) (a2 : ℕ) (a3 : ℕ) (a4 : ℕ) (a5 : ℕ) (a6 : ℕ) (h0 : Kept q a0) : Kept q (@State.endWqe a0 a1 a2 a3 a4 a5 a6) := by
  unfold State.endWqe
  repeat' with_reducible first | assumption | apply State.settleSend_kept | apply State.postFront_kept | apply State.setWqes_kept

theorem State.setRegion_kept {q : List Instr} (a0 : State) (a1 : ℕ) (a2 : ℕ) (a3 : Region) (h0 : Kept q a0) : Kept q (@State.setRegion a0 a1 a2 a3) := by
  unfold State.setRegion
  exact h0

theorem State.settleInvals_kept {q : List Instr} (a0 : State) (a1 : ℕ) (h0 : Kept q a0) : Kept q (@State.settleInvals a0 a1) := by
  unfold State.settleInvals
  repeat' first | with_reducible (first | assumption | apply kept_ite | apply kept_foldl | apply kept_elim | apply State.endWqe_kept | apply State.setRegion_kept) | intro _ | extract_lets | split | simp only [kept_mk_iff] | dsimp +zetaDelta only

theorem State.connState_kept {q : List Instr} (a0 : State) (a1 : ℕ) (a2 : ConnState) (h0 : Kept q a0) : Kept q (@State.connState a0 a1 a2) := by
  unfold State.connState
  repeat' with_reducible first | assumption | apply State.setConn_kept | apply State.wr_kept

theorem State.setCopy_kept {q : List Instr} (a0 : State) (a1 : ℕ) (a2 : CopyEng) (h0 : Kept q a0) : Kept q (@State.setCopy a0 a1 a2) := by
  unfold State.setCopy
  exact h0

theorem State.endOwner_kept {q : List Instr} (a0 : State) (a1 : MsgOwner) (a2 : ℕ) (a3 : ℕ) (h0 : Kept q a0) : Kept q (@State.endOwner a0 a1 a2 a3) := by
  unfold State.endOwner
  repeat' first | with_reducible (first | assumption | apply State.endWqe_kept | apply State.setCopy_kept) | intro _ | split | simp only [kept_mk_iff]

theorem State.dropHeldOf_kept {q : List Instr} (a0 : State) (a1 : ℕ) (h0 : Kept q a0) : Kept q (@State.dropHeldOf a0 a1) := by
  unfold State.dropHeldOf
  exact h0

theorem State.setRecvs_kept {q : List Instr} (a0 : State) (a1 : ℕ) (a2 : ℕ) (a3 : List Wqe) (h0 : Kept q a0) : Kept q (@State.setRecvs a0 a1 a2 a3) := by
  unfold State.setRecvs
  exact h0

theorem State.postRecvFront_kept {q : List Instr} (a0 : State) (a1 a2 a3 : ℕ) (h0 : Kept q a0) : Kept q (@State.postRecvFront a0 a1 a2 a3) := by
  induction a3 generalizing a0 <;> unfold State.postRecvFront
  · exact h0
  · rename_i ih
    repeat' first | with_reducible (first | apply ih | apply State.setRecvs_kept | apply State.postRecv_kept) | with_reducible assumption | intro _ | extract_lets | with_reducible (first | apply kept_ite | apply kept_guarded | apply kept_foldl | apply kept_fst | apply kept_elim | apply kepto_some | exact kepto_none | apply kepte_ok | exact kepte_error | apply keptb_ok | apply keptb_error | apply kept_next | exact kept_refused) | split | simp only [kept_mk_iff] | dsimp +zetaDelta only | with_reducible (first | apply kept_set | apply kept_reg | apply kept_filter | apply kept_empty | apply kept_regs | apply kept_none)
theorem State.endRecv_kept {q : List Instr} (a0 : State) (a1 : ℕ) (a2 : ℕ) (a3 : ℕ) (a4 : ℕ) (a5 : ℕ) (a6 : Option ℕ) (h0 : Kept q a0) : Kept q (@State.endRecv a0 a1 a2 a3 a4 a5 a6) := by
  unfold State.endRecv
  repeat' first | with_reducible (first | assumption | apply State.when_kept | apply State.bump_kept | apply State.postRecvFront_kept | apply State.setRecvs_kept) | intro _ | split | simp only [kept_mk_iff]

theorem State.flushConn_kept {q : List Instr} (a0 : State) (a1 : ℕ) (a2 : Conn) (a3 : Option ℕ) (a4 : ℕ) (h0 : Kept q a0) : Kept q (@State.flushConn a0 a1 a2 a3 a4) := by
  unfold State.flushConn
  repeat' first | with_reducible (first | assumption | apply kept_ite | apply kept_foldl | apply kept_elim | apply State.endOwner_kept | apply State.dropHeldOf_kept | apply State.endRecv_kept) | intro _ | extract_lets | split | simp only [kept_mk_iff] | dsimp +zetaDelta only

theorem State.connBreak_kept {q : List Instr} (a0 : State) (a1 : ℕ) (a2 : Option ℕ) (a3 : ℕ) (h0 : Kept q a0) : Kept q (@State.connBreak a0 a1 a2 a3) := by
  unfold State.connBreak
  repeat' with_reducible first | assumption | apply State.connState_kept | apply State.setConn_kept | apply State.rktEvent_kept | apply State.flushConn_kept

theorem State.connFail_kept {q : List Instr} (a0 : State) (a1 : ℕ) (a2 : Option ℕ) (a3 : ℕ) (h0 : Kept q a0) : Kept q (@State.connFail a0 a1 a2 a3) := by
  unfold State.connFail
  repeat' with_reducible first | assumption | apply State.settleInvals_kept | apply State.connBreak_kept

theorem State.connError_kept {q : List Instr} (a0 : State) (a1 : ℕ) (a2 : Option ℕ) (a3 : ℕ) (a4 : ℕ) (a5 : ℕ) (h0 : Kept q a0) : Kept q (@State.connError a0 a1 a2 a3 a4 a5) := by
  unfold State.connError
  repeat' with_reducible first | assumption | apply State.asyncEvent_kept | apply State.connFail_kept

theorem State.sealPkt_kept {q : List Instr} (a0 : State) (a1 : ℕ) (h0 : Kept q a0) :
    (∀ t iv k, a0.sealPkt a1 = .sealed t iv k → Kept q t) ∧ (∀ t, a0.sealPkt a1 = .wait t → Kept q t) := by
  have hk : ∀ p slot, Kept q (((a0.pickCore p slot).1.cacheKey (a0.pickCore p slot).2 p slot).nonce (a0.pickCore p slot).2 0).1 :=
    fun p slot => State.nonce_kept _ _ _ (State.cacheKey_kept _ _ _ _ (State.pickCore_kept _ _ _ h0))
  unfold State.sealPkt
  dsimp only
  repeat' split
  all_goals constructor
  all_goals intros
  all_goals rename_i e
  all_goals cases e
  all_goals first | exact h0 | exact hk _ _
theorem State.sealSend_kept {q : List Instr} (a0 : State) (a1 a2 a3 : ℕ) (a4 : RktPkt) (h0 : Kept q a0) : Kept q (@State.sealSend a0 a1 a2 a3 a4) := by
  have hw := State.sealPkt_kept a0 a1 h0
  unfold State.sealSend
  split
  · exact State.sendConn_kept _ _ _ _ _ _ h0
  split
  · rename_i e; exact State.sendConn_kept _ _ _ _ _ _ (hw.1 _ _ _ e)
  · rename_i t e; rw [kept_mk_iff]; exact hw.2 _ e
  · exact State.connError_kept _ _ _ _ _ _ h0
theorem State.sendResync_kept {q : List Instr} (a0 : State) (a1 : ℕ) (h0 : Kept q a0) : Kept q (@State.sendResync a0 a1) := by
  unfold State.sendResync
  repeat' first | with_reducible assumption | intro _ | extract_lets | with_reducible (first | apply kept_ite | apply kept_guarded | apply kept_foldl | apply kept_fst | apply kept_elim | apply kepto_some | exact kepto_none | apply kepte_ok | exact kepte_error | apply keptb_ok | apply keptb_error | apply kept_next | exact kept_refused | apply State.setConn_kept | apply State.sealSend_kept) | split | simp only [kept_mk_iff] | dsimp +zetaDelta only | with_reducible (first | apply kept_set | apply kept_reg | apply kept_filter | apply kept_empty | apply kept_regs | apply kept_none)

theorem State.startResync_kept {q : List Instr} (a0 : State) (a1 : ℕ) (h0 : Kept q a0) : Kept q (@State.startResync a0 a1) := by
  unfold State.startResync
  repeat' with_reducible first | assumption | apply State.rktEvent_kept | apply State.connEpoch_kept | apply State.sendResync_kept | apply State.setConn_kept

theorem State.putPacket_kept {q : List Instr} (a0 : State) (a1 : ℕ) (a2 : ℕ) (a3 : ℕ) (a4 : ℕ) (a5 : Bool) (h0 : Kept q a0) : Kept q (@State.putPacket a0 a1 a2 a3 a4 a5) := by
  unfold State.putPacket
  repeat' first | with_reducible (first | assumption | apply State.setConn_kept | apply State.sealSend_kept) | intro _ | split | simp only [kept_mk_iff]

theorem State.resend_kept {q : List Instr} (a0 : State) (a1 : ℕ) (a2 : ℕ) (h0 : Kept q a0) : Kept q (@State.resend a0 a1 a2) := by
  unfold State.resend
  repeat' first | with_reducible (first | assumption | apply State.inc_kept | apply State.putPacket_kept | apply State.setConn_kept) | intro _ | split | simp only [kept_mk_iff]

theorem State.declareLost_kept {q : List Instr} (a0 : State) (a1 : ℕ) (a2 : ℕ) (h0 : Kept q a0) : Kept q (@State.declareLost a0 a1 a2) := by
  unfold State.declareLost
  repeat' first | with_reducible (first | assumption | apply State.setConn_kept | apply State.startResync_kept | apply State.resend_kept) | intro _ | split | simp only [kept_mk_iff]

theorem State.pathLose_kept {q : List Instr} (a0 : State) (a1 : ℕ) (h0 : Kept q a0) : Kept q (@State.pathLose a0 a1) := by
  unfold State.pathLose
  repeat' first | with_reducible (first | assumption | apply kept_ite | apply kept_foldl | apply kept_elim | apply State.declareLost_kept) | intro _ | extract_lets | split | simp only [kept_mk_iff] | dsimp +zetaDelta only

theorem State.setPath_kept {q : List Instr} (a0 : State) (a1 : ℕ) (a2 : PathSt) (h0 : Kept q a0) : Kept q (@State.setPath a0 a1 a2) := by
  unfold State.setPath
  exact h0

theorem State.pathMark_kept {q : List Instr} (a0 : State) (a1 : ℕ) (h0 : Kept q a0) : Kept q (@State.pathMark a0 a1) := by
  unfold State.pathMark
  repeat' first | with_reducible (first | assumption | apply kept_ite | apply kept_foldl | apply kept_elim | apply State.rktEvent_kept | apply State.setPath_kept | apply State.wr_kept | apply State.asyncEvent_kept) | intro _ | extract_lets | split | simp only [kept_mk_iff] | dsimp +zetaDelta only

theorem State.pathsDown_kept {q : List Instr} (a0 : State) (a1 : List ℕ) (h0 : Kept q a0) : Kept q (@State.pathsDown a0 a1) := by
  unfold State.pathsDown
  repeat' first | with_reducible (first | assumption | apply kept_ite | apply kept_foldl | apply kept_elim | apply State.pathLose_kept | apply State.pathMark_kept) | intro _ | extract_lets | split | simp only [kept_mk_iff] | dsimp +zetaDelta only

theorem State.portPathsDown_kept {q : List Instr} (a0 : State) (a1 : ℕ) (h0 : Kept q a0) : Kept q (@State.portPathsDown a0 a1) := by
  unfold State.portPathsDown
  repeat' first | with_reducible assumption | intro _ | extract_lets | with_reducible (first | apply kept_ite | apply kept_guarded | apply kept_foldl | apply kept_fst | apply kept_elim | apply kepto_some | exact kepto_none | apply kepte_ok | exact kepte_error | apply keptb_ok | apply keptb_error | apply kept_next | exact kept_refused | apply State.pathsDown_kept) | split | simp only [kept_mk_iff] | dsimp +zetaDelta only | with_reducible (first | apply kept_set | apply kept_reg | apply kept_filter | apply kept_empty | apply kept_regs | apply kept_none)

theorem State.fabEvent_kept {q : List Instr} (a0 : State) (a1 : ℕ) (a2 : ℕ → Fld) (h0 : Kept q a0) : Kept q (@State.fabEvent a0 a1 a2) := by
  unfold State.fabEvent
  repeat' with_reducible first | assumption | apply State.event_kept

theorem State.tryRetrain_kept {q : List Instr} (a0 : State) (a1 : ℕ) (h0 : Kept q a0) : Kept q (@State.tryRetrain a0 a1) := by
  unfold State.tryRetrain
  repeat' first | with_reducible (first | assumption | apply State.fabEvent_kept | apply State.wr_kept | apply State.setPort_kept) | intro _ | split | simp only [kept_mk_iff]

theorem State.retrain_kept {q : List Instr} (a0 : State) (a1 : ℕ) (h0 : Kept q a0) : Kept q (@State.retrain a0 a1) := by
  unfold State.retrain
  repeat' first | with_reducible (first | assumption | apply State.when_kept | apply State.portPathsDown_kept | apply State.tryRetrain_kept | apply State.setPort_kept) | intro _ | split | simp only [kept_mk_iff]

theorem State.loopEnds_kept {q : List Instr} (a0 : State) (a1 : ℕ) (h0 : Kept q a0) : Kept q (@State.loopEnds a0 a1) := by
  unfold State.loopEnds
  repeat' first | with_reducible (first | assumption | apply State.wr_kept | apply State.retrain_kept) | intro _ | split | simp only [kept_mk_iff]

theorem State.endLoop_kept {q : List Instr} (a0 : State) (a1 : ℕ) (h0 : Kept q a0) : Kept q (@State.endLoop a0 a1) := by
  unfold State.endLoop
  repeat' first | with_reducible (first | assumption | apply State.wr_kept | apply State.loopEnds_kept) | intro _ | split | simp only [kept_mk_iff]

theorem State.allOff_kept {q : List Instr} (a0 : State) (h0 : Kept q a0) : Kept q (@State.allOff a0) := by
  unfold State.allOff
  repeat' first | with_reducible (first | assumption | apply State.each_kept | apply State.wr_kept | apply State.endLoop_kept) | intro _ | split | simp only [kept_mk_iff]

theorem State.hostRead_kept {q : List Instr} (a0 : State) (a1 : ℕ) (a2 : Option ℕ) (a3 : ℕ) (a4 : ℕ) (a5 : ReadFor) (h0 : Kept q a0) : Kept q (@State.hostRead a0 a1 a2 a3 a4 a5) := by
  unfold State.hostRead
  repeat' first | with_reducible (first | assumption | apply State.emit_kept) | intro _ | split | simp only [kept_mk_iff]

theorem State.memErr_kept {q : List Instr} (a0 : State) (a1 : Fld) (h0 : Kept q a0) : Kept q (@State.memErr a0 a1) := by
  unfold State.memErr
  repeat' with_reducible first | assumption | apply State.event_kept

theorem State.noteAccess_kept {q : List Instr} (a0 : State) (a1 : ℕ) (h0 : Kept q a0) : Kept q (@State.noteAccess a0 a1) := by
  unfold State.noteAccess
  repeat' first | with_reducible assumption | intro _ | extract_lets | with_reducible (first | apply kept_ite | apply kept_guarded | apply kept_foldl | apply kept_fst | apply kept_elim | apply kepto_some | exact kepto_none | apply kepte_ok | exact kepte_error | apply keptb_ok | apply keptb_error | apply kept_next | exact kept_refused | apply State.memErr_kept | apply State.wr_kept) | split | simp only [kept_mk_iff] | dsimp +zetaDelta only | with_reducible (first | apply kept_set | apply kept_reg | apply kept_filter | apply kept_empty | apply kept_regs | apply kept_none)

theorem State.uncorrectable_kept {q : List Instr} (a0 : State) (a1 : ℕ) (h0 : Kept q a0) : Kept q (@State.uncorrectable a0 a1) := by
  unfold State.uncorrectable
  repeat' first | with_reducible (first | assumption | apply State.when_kept | apply State.noteAccess_kept | apply State.memErr_kept) | intro _ | split | simp only [kept_mk_iff]

theorem State.noteReads_kept {q : List Instr} (a0 : State) (a1 : List ℕ) (h0 : Kept q a0) : Kept q (@State.noteReads a0 a1) := by
  unfold State.noteReads
  repeat' first | with_reducible assumption | intro _ | extract_lets | with_reducible (first | apply kept_ite | apply kept_guarded | apply kept_foldl | apply kept_fst | apply kept_elim | apply kepto_some | exact kepto_none | apply kepte_ok | exact kepte_error | apply keptb_ok | apply keptb_error | apply kept_next | exact kept_refused | apply State.uncorrectable_kept) | split | simp only [kept_mk_iff] | dsimp +zetaDelta only | with_reducible (first | apply kept_set | apply kept_reg | apply kept_filter | apply kept_empty | apply kept_regs | apply kept_none)

theorem State.noteVia_kept {q : List Instr} (a0 : State) (a1 : ℕ) (a2 : ℕ) (a3 : ℕ) (h0 : Kept q a0) : Kept q (@State.noteVia a0 a1 a2 a3) := by
  unfold State.noteVia
  repeat' with_reducible first | assumption | apply State.noteReads_kept

theorem State.fetchEntry_kept {q : List Instr} (a0 : State) (a1 : ℕ) (a2 : ℕ) (a3 : ℕ) (a4 : List ℕ) (a5 : State → List ℕ → Option Bool → State) (h0 : Kept q a0) (h5 : ∀ z0 z1 z2, Kept q z0 → Kept q (a5 z0 z1 z2)) : Kept q (@State.fetchEntry a0 a1 a2 a3 a4 a5) := by
  unfold State.fetchEntry
  repeat' first | with_reducible assumption | intro _ | extract_lets | with_reducible (first | apply kept_ite | apply kept_guarded | apply kept_foldl | apply kept_fst | apply kept_elim | apply kepto_some | exact kepto_none | apply kepte_ok | exact kepte_error | apply keptb_ok | apply keptb_error | apply kept_next | exact kept_refused | apply h5 | apply State.hostRead_kept | apply State.noteVia_kept) | split | simp only [kept_mk_iff] | dsimp +zetaDelta only | with_reducible (first | apply kept_set | apply kept_reg | apply kept_filter | apply kept_empty | apply kept_regs | apply kept_none)

theorem State.tookEntry_kept {q : List Instr} (a0 : State) (a1 : ℕ) (a2 : ℕ) (a3 : ℕ) (h0 : Kept q a0) : Kept q (@State.tookEntry a0 a1 a2 a3) := by
  unfold State.tookEntry
  exact h0

theorem State.takeWqe_kept {q : List Instr} (a0 : State) (a1 : ℕ) (a2 : ℕ) (a3 : List ℕ) (a4 : Option Bool) (h0 : Kept q a0) : Kept q (@State.takeWqe a0 a1 a2 a3 a4) := by
  unfold State.takeWqe
  repeat' with_reducible first | assumption | apply State.postFront_kept | apply State.setWqes_kept | apply State.tookEntry_kept

theorem State.fetchWqe_kept {q : List Instr} (a0 : State) (a1 : ℕ) (a2 : ℕ) (a3 : List ℕ) (h0 : Kept q a0) : Kept q (@State.fetchWqe a0 a1 a2 a3) := by
  unfold State.fetchWqe
  repeat' first | with_reducible (first | assumption | apply State.fetchEntry_kept | apply State.takeWqe_kept) | intro _ | split | simp only [kept_mk_iff]

theorem State.setCtx_kept {q : List Instr} (a0 : State) (a1 : ℕ) (a2 : Ctx) (h0 : Kept q a0) : Kept q (@State.setCtx a0 a1 a2) := by
  unfold State.setCtx
  exact h0

theorem State.reeveRom0_kept {q : List Instr} (a0 : State) (h0 : Kept q a0) : Kept q (@State.reeveRom0 a0) := by
  unfold State.reeveRom0
  exact h0

theorem State.restoreGrants_kept {q : List Instr} (a0 : State) (a1 : ℕ) (h0 : Kept q a0) : Kept q (@State.restoreGrants a0 a1) := by
  unfold State.restoreGrants
  repeat' first | with_reducible assumption | intro _ | extract_lets | with_reducible (first | apply kept_ite | apply kept_guarded | apply kept_foldl | apply kept_fst | apply kept_elim | apply kepto_some | exact kepto_none | apply kepte_ok | exact kepte_error | apply keptb_ok | apply keptb_error | apply kept_next | exact kept_refused | apply State.wr_kept | apply State.each_kept) | split | simp only [kept_mk_iff] | dsimp +zetaDelta only | with_reducible (first | apply kept_set | apply kept_reg | apply kept_filter | apply kept_empty | apply kept_regs | apply kept_none)

theorem State.partEvent_kept {q : List Instr} (a0 : State) (a1 : ℕ) (a2 : ℕ → Fld) (h0 : Kept q a0) : Kept q (@State.partEvent a0 a1 a2) := by
  unfold State.partEvent
  repeat' with_reducible first | assumption | apply State.event_kept

theorem State.endCmd_kept {q : List Instr} (a0 : State) (a1 : ℕ) (a2 : ℕ) (a3 : ℕ) (h0 : Kept q a0) : Kept q (@State.endCmd a0 a1 a2 a3) := by
  unfold State.endCmd
  repeat' first | with_reducible (first | assumption | apply State.when_kept | apply State.restoreGrants_kept | apply State.wr_kept | apply State.partEvent_kept) | intro _ | split | simp only [kept_mk_iff]

theorem State.setTransit_kept {q : List Instr} (a0 : State) (a1 : Option Transit) (h0 : Kept q a0) : Kept q (@State.setTransit a0 a1) := by
  unfold State.setTransit
  repeat' first | with_reducible (first | assumption | apply State.wr_kept) | intro _ | split | simp only [kept_mk_iff]

theorem State.endReq_kept {q : List Instr} (a0 : State) (a1 : ℕ) (h0 : Kept q a0) : Kept q (@State.endReq a0 a1) := by
  unfold State.endReq
  repeat' with_reducible first | assumption | apply State.pwrEvent_kept | apply State.wr_kept

theorem State.mgtEvent_kept {q : List Instr} (a0 : State) (a1 : Fld) (h0 : Kept q a0) : Kept q (@State.mgtEvent a0 a1) := by
  unfold State.mgtEvent
  repeat' with_reducible first | assumption | apply State.event_kept

theorem State.markBad_kept {q : List Instr} (a0 : State) (a1 : ℕ) (h0 : Kept q a0) : Kept q (@State.markBad a0 a1) := by
  unfold State.markBad
  repeat' first | with_reducible assumption | intro _ | extract_lets | with_reducible (first | apply kept_ite | apply kept_guarded | apply kept_foldl | apply kept_fst | apply kept_elim | apply kepto_some | exact kepto_none | apply kepte_ok | exact kepte_error | apply keptb_ok | apply keptb_error | apply kept_next | exact kept_refused) | split | simp only [kept_mk_iff] | dsimp +zetaDelta only | with_reducible (first | apply kept_set | apply kept_reg | apply kept_filter | apply kept_empty | apply kept_regs | apply kept_none)

theorem State.noStandby_kept {q : List Instr} (a0 : State) (a1 : ℕ) (h0 : Kept q a0) : Kept q (@State.noStandby a0 a1) := by
  unfold State.noStandby
  repeat' with_reducible first | assumption | apply State.memErr_kept | apply State.wr_kept

theorem State.setPromoting_kept {q : List Instr} (a0 : State) (a1 : List (ℕ × ℕ)) (h0 : Kept q a0) : Kept q (@State.setPromoting a0 a1) := by
  unfold State.setPromoting
  repeat' first | with_reducible (first | assumption | apply State.wr_kept) | intro _ | split | simp only [kept_mk_iff]

theorem State.startPromotion_kept {q : List Instr} (a0 : State) (a1 : ℕ) (h0 : Kept q a0) : Kept q (@State.startPromotion a0 a1) := by
  unfold State.startPromotion
  repeat' first | with_reducible (first | assumption | apply State.noStandby_kept | apply State.setPromoting_kept) | intro _ | split | simp only [kept_mk_iff]

theorem State.markFault_kept {q : List Instr} (a0 : State) (a1 : ℕ) (a2 : ℕ) (h0 : Kept q a0) : Kept q (@State.markFault a0 a1 a2) := by
  unfold State.markFault
  repeat' first | with_reducible assumption | intro _ | extract_lets | with_reducible (first | apply kept_ite | apply kept_guarded | apply kept_foldl | apply kept_fst | apply kept_elim | apply kepto_some | exact kepto_none | apply kepte_ok | exact kepte_error | apply keptb_ok | apply keptb_error | apply kept_next | exact kept_refused | apply State.markBad_kept | apply State.startPromotion_kept | apply State.uncorrectable_kept | apply State.noteAccess_kept) | split | simp only [kept_mk_iff] | dsimp +zetaDelta only | with_reducible (first | apply kept_set | apply kept_reg | apply kept_filter | apply kept_empty | apply kept_regs | apply kept_none)

theorem State.fltEvent_kept {q : List Instr} (a0 : State) (a1 : Fld) (h0 : Kept q a0) : Kept q (@State.fltEvent a0 a1) := by
  unfold State.fltEvent
  repeat' with_reducible first | assumption | apply State.event_kept

theorem State.logHeader_kept {q : List Instr} (a0 : State) (a1 : ℕ) (a2 : String) (a3 : List ℕ) (h0 : Kept q a0) : Kept q (@State.logHeader a0 a1 a2 a3) := by
  unfold State.logHeader
  repeat' first | with_reducible (first | assumption) | intro _ | split | simp only [kept_mk_iff]

theorem State.errorMessage_kept {q : List Instr} (a0 : State) (a1 : ℕ) (a2 : ℕ) (h0 : Kept q a0) : Kept q (@State.errorMessage a0 a1 a2) := by
  unfold State.errorMessage
  repeat' first | with_reducible (first | assumption | apply State.when_kept | apply State.emit_kept) | intro _ | split | simp only [kept_mk_iff]

theorem State.aerAs_kept {q : List Instr} (a0 : State) (a1 : ℕ) (a2 : String) (a3 : Option (List ℕ)) (a4 : Bool) (h0 : Kept q a0) : Kept q (@State.aerAs a0 a1 a2 a3 a4) := by
  unfold State.aerAs
  repeat' first | with_reducible (first | assumption | apply kept_ite | apply kept_foldl | apply kept_elim | apply State.logHeader_kept | apply State.errorMessage_kept) | intro _ | extract_lets | split | simp only [kept_mk_iff] | dsimp +zetaDelta only

theorem State.aer_kept {q : List Instr} (a0 : State) (a1 : ℕ) (a2 : String) (a3 : Option (List ℕ)) (h0 : Kept q a0) : Kept q (@State.aer a0 a1 a2 a3) := by
  unfold State.aer
  repeat' with_reducible first | assumption | apply State.aerAs_kept

theorem State.recordFault_kept {q : List Instr} (a0 : State) (a1 : ℕ) (a2 : ℕ) (a3 : ℕ) (a4 : ℕ) (a5 : ℕ) (h0 : Kept q a0) : Kept q (@State.recordFault a0 a1 a2 a3 a4 a5) := by
  unfold State.recordFault
  repeat' first | with_reducible (first | assumption | apply State.wr_kept | apply State.fltEvent_kept | apply State.incSat_kept | apply State.draw_kept | apply State.logEntry_kept | apply State.aer_kept) | intro _ | split | simp only [kept_mk_iff]

theorem State.ckpEvent_kept {q : List Instr} (a0 : State) (a1 : Fld) (h0 : Kept q a0) : Kept q (@State.ckpEvent a0 a1) := by
  unfold State.ckpEvent
  repeat' with_reducible first | assumption | apply State.event_kept

theorem State.loseGranary_kept {q : List Instr} (a0 : State) (a1 : ℕ) (h0 : Kept q a0) : Kept q (@State.loseGranary a0 a1) := by
  unfold State.loseGranary
  repeat' first | with_reducible (first | assumption | apply State.ckpEvent_kept) | intro _ | split | simp only [kept_mk_iff]

theorem State.partFatal_kept {q : List Instr} (a0 : State) (a1 : ℕ) (h0 : Kept q a0) : Kept q (@State.partFatal a0 a1) := by
  unfold State.partFatal
  repeat' first | with_reducible (first | assumption) | intro _ | split | simp only [kept_mk_iff]

theorem State.partFault_kept {q : List Instr} (a0 : State) (a1 : ℕ) (a2 : ℕ) (h0 : Kept q a0) : Kept q (@State.partFault a0 a1 a2) := by
  unfold State.partFault
  repeat' first | with_reducible (first | assumption | apply kept_ite | apply kept_foldl | apply kept_elim | apply State.partFatal_kept | apply State.aer_kept) | intro _ | extract_lets | split | simp only [kept_mk_iff] | dsimp +zetaDelta only

theorem State.moduleFatal_kept {q : List Instr} (a0 : State) (a1 : ℕ) (h0 : Kept q a0) : Kept q (@State.moduleFatal a0 a1) := by
  unfold State.moduleFatal
  repeat' first | with_reducible assumption | intro _ | extract_lets | with_reducible (first | apply kept_ite | apply kept_guarded | apply kept_foldl | apply kept_fst | apply kept_elim | apply kepto_some | exact kepto_none | apply kepte_ok | exact kepte_error | apply keptb_ok | apply keptb_error | apply kept_next | exact kept_refused | apply State.wr_kept | apply State.each_kept | apply State.partFatal_kept) | split | simp only [kept_mk_iff] | dsimp +zetaDelta only | with_reducible (first | apply kept_set | apply kept_reg | apply kept_filter | apply kept_empty | apply kept_regs | apply kept_none)

theorem State.corrected_kept {q : List Instr} (a0 : State) (a1 : ℕ) (h0 : Kept q a0) : Kept q (@State.corrected a0 a1) := by
  unfold State.corrected
  repeat' first | with_reducible (first | assumption | apply State.memErr_kept | apply State.incSat_kept | apply State.when_kept | apply State.startPromotion_kept) | intro _ | split | simp only [kept_mk_iff]

theorem State.setSlot_kept {q : List Instr} (a0 : State) (a1 : ℕ) (a2 : Slot) (h0 : Kept q a0) : Kept q (@State.setSlot a0 a1 a2) := by
  unfold State.setSlot
  exact h0

theorem State.setReplay_kept {q : List Instr} (a0 : State) (a1 : ℕ) (a2 : Option Replay) (h0 : Kept q a0) : Kept q (@State.setReplay a0 a1 a2) := by
  unfold State.setReplay
  exact h0

theorem State.holdBell_kept {q : List Instr} (a0 : State) (a1 : ℕ) (a2 : Option ℕ) (h0 : Kept q a0) : Kept q (@State.holdBell a0 a1 a2) := by
  unfold State.holdBell
  repeat' first | with_reducible assumption | intro _ | extract_lets | with_reducible (first | apply kept_ite | apply kept_guarded | apply kept_foldl | apply kept_fst | apply kept_elim | apply kepto_some | exact kepto_none | apply kepte_ok | exact kepte_error | apply keptb_ok | apply keptb_error | apply kept_next | exact kept_refused) | split | simp only [kept_mk_iff] | dsimp +zetaDelta only | with_reducible (first | apply kept_set | apply kept_reg | apply kept_filter | apply kept_empty | apply kept_regs | apply kept_none)

theorem State.dropReplay_kept {q : List Instr} (a0 : State) (a1 : ℕ) (a2 : ℕ) (h0 : Kept q a0) : Kept q (@State.dropReplay a0 a1 a2) := by
  unfold State.dropReplay
  repeat' first | with_reducible (first | assumption | apply State.setSlot_kept | apply State.setReplay_kept | apply State.setCopy_kept | apply State.holdBell_kept | apply State.wr_kept) | intro _ | split | simp only [kept_mk_iff]

theorem State.stopSlot_kept {q : List Instr} (a0 : State) (a1 : ℕ) (a2 : ℕ) (a3 : ℕ) (h0 : Kept q a0) : Kept q (@State.stopSlot a0 a1 a2 a3) := by
  unfold State.stopSlot
  repeat' first | with_reducible assumption | intro _ | extract_lets | with_reducible (first | apply kept_ite | apply kept_guarded | apply kept_foldl | apply kept_fst | apply kept_elim | apply kepto_some | exact kepto_none | apply kepte_ok | exact kepte_error | apply keptb_ok | apply keptb_error | apply kept_next | exact kept_refused | apply State.each_kept | apply State.setCtx_kept) | split | simp only [kept_mk_iff] | dsimp +zetaDelta only | with_reducible (first | apply kept_set | apply kept_reg | apply kept_filter | apply kept_empty | apply kept_regs | apply kept_none)

theorem State.setCells_kept {q : List Instr} (a0 : State) (a1 : List (ℕ × ℕ)) (h0 : Kept q a0) : Kept q (@State.setCells a0 a1) := by
  unfold State.setCells
  repeat' first | with_reducible (first | assumption | apply kept_ite | apply kept_foldl | apply kept_elim | apply State.setByte_kept) | intro _ | extract_lets | split | simp only [kept_mk_iff] | dsimp +zetaDelta only

theorem State.storeCells_kept {q : List Instr} (a0 : State) (a1 : List (ℕ × ℕ)) (h0 : Kept q a0) : Kept q (@State.storeCells a0 a1) := by
  unfold State.storeCells
  repeat' first | with_reducible (first | assumption | apply State.setCells_kept) | intro _ | split | simp only [kept_mk_iff]

theorem State.cutDrain_kept {q : List Instr} (a0 : State) (a1 : Mop) (h0 : Kept q a0) : Kept q (@State.cutDrain a0 a1).1 := by
  unfold State.cutDrain
  repeat' first | with_reducible assumption | intro _ | extract_lets | with_reducible (first | apply kept_ite | apply kept_guarded | apply kept_foldl | apply kept_fst | apply kept_elim | apply kepto_some | exact kepto_none | apply kepte_ok | exact kepte_error | apply keptb_ok | apply keptb_error | apply kept_next | exact kept_refused | apply State.draw_kept | apply State.storeCells_kept) | split | simp only [kept_mk_iff] | dsimp +zetaDelta only | with_reducible (first | apply kept_set | apply kept_reg | apply kept_filter | apply kept_empty | apply kept_regs | apply kept_none)

theorem State.moveRow_kept {q : List Instr} (a0 : State) (a1 : Cpd) (a2 : ℕ) (a3 : ℕ) (h0 : Kept q a0) : Kept q (@State.moveRow a0 a1 a2 a3).1 := by
  unfold State.moveRow
  extract_lets a src good t marks
  have ht : Kept q t := by
    apply kept_foldl h0
    intro z i hz
    dsimp only
    split
    · apply kept_elim hz
      intro m
      exact State.setByte_kept _ _ _ hz
    · exact hz
  have hn : Kept q (a0.noteReads (src.filterMap (·.1))) := State.noteReads_kept _ _ h0
  exact State.when_kept _ _ _ ht (fun _ _ => ⟨hn.1, ht.2.1, hn.2.2⟩)
theorem State.moveRows_kept {q : List Instr} (a0 : State) (a1 : Cpd) (a2 : ℕ) (h0 : Kept q a0) : Kept q (@State.moveRows a0 a1 a2).1 := by
  unfold State.moveRows
  repeat' first | with_reducible assumption | intro _ | extract_lets | with_reducible (first | apply kept_ite | apply kept_guarded | apply kept_foldl | apply kept_fst | apply kept_elim | apply kepto_some | exact kepto_none | apply kepte_ok | exact kepte_error | apply keptb_ok | apply keptb_error | apply kept_next | exact kept_refused | apply State.moveRow_kept) | split | simp only [kept_mk_iff] | dsimp +zetaDelta only | with_reducible (first | apply kept_set | apply kept_reg | apply kept_filter | apply kept_empty | apply kept_regs | apply kept_none)

theorem State.cutCopy_kept {q : List Instr} (a0 : State) (a1 : ℕ) (a2 : ℕ) (a3 : Cpd) (h0 : Kept q a0) : Kept q (@State.cutCopy a0 a1 a2 a3) := by
  unfold State.cutCopy
  repeat' first | with_reducible assumption | intro _ | extract_lets | with_reducible (first | apply kept_ite | apply kept_guarded | apply kept_foldl | apply kept_fst | apply kept_elim | apply kepto_some | exact kepto_none | apply kepte_ok | exact kepte_error | apply keptb_ok | apply keptb_error | apply kept_next | exact kept_refused | apply State.draw_kept | apply State.moveRows_kept | apply State.inc_kept) | split | simp only [kept_mk_iff] | dsimp +zetaDelta only | with_reducible (first | apply kept_set | apply kept_reg | apply kept_filter | apply kept_empty | apply kept_regs | apply kept_none)

theorem State.cutSlot_kept {q : List Instr} (a0 : State) (a1 : ℕ) (h0 : Kept q a0) : Kept q (@State.cutSlot a0 a1) := by
  unfold State.cutSlot
  repeat' first | with_reducible assumption | intro _ | extract_lets | with_reducible (first | apply kept_ite | apply kept_guarded | apply kept_foldl | apply kept_fst | apply kept_elim | apply kepto_some | exact kepto_none | apply kepte_ok | exact kepte_error | apply keptb_ok | apply keptb_error | apply kept_next | exact kept_refused | apply State.cutDrain_kept | apply State.cutCopy_kept) | split | simp only [kept_mk_iff] | dsimp +zetaDelta only | with_reducible (first | apply kept_set | apply kept_reg | apply kept_filter | apply kept_empty | apply kept_regs | apply kept_none)

theorem State.setMopLog_kept {q : List Instr} (a0 : State) (a1 : ℕ) (a2 : List LogMop) (h0 : Kept q a0) : Kept q (@State.setMopLog a0 a1 a2) := by
  unfold State.setMopLog
  exact h0

theorem State.fenceEngine_kept {q : List Instr} (a0 : State) (a1 : ℕ) (a2 : ℕ) (a3 : ℕ) (h0 : Kept q a0) : Kept q (@State.fenceEngine a0 a1 a2 a3) := by
  unfold State.fenceEngine
  repeat' first | with_reducible assumption | intro _ | extract_lets | with_reducible (first | apply kept_ite | apply kept_guarded | apply kept_foldl | apply kept_fst | apply kept_elim | apply kepto_some | exact kepto_none | apply kepte_ok | exact kepte_error | apply keptb_ok | apply keptb_error | apply kept_next | exact kept_refused | apply State.stopSlot_kept | apply State.cutSlot_kept | apply State.setCopy_kept | apply State.setSlot_kept | apply State.holdBell_kept | apply State.setMopLog_kept) | split | simp only [kept_mk_iff] | dsimp +zetaDelta only | with_reducible (first | apply kept_set | apply kept_reg | apply kept_filter | apply kept_empty | apply kept_regs | apply kept_none)

theorem State.loseSlotBytes_kept {q : List Instr} (a0 : State) (a1 : ℕ) (h0 : Kept q a0) : Kept q (@State.loseSlotBytes a0 a1) := by
  unfold State.loseSlotBytes
  repeat' first | with_reducible assumption | intro _ | extract_lets | with_reducible (first | apply kept_ite | apply kept_guarded | apply kept_foldl | apply kept_fst | apply kept_elim | apply kepto_some | exact kepto_none | apply kepte_ok | exact kepte_error | apply keptb_ok | apply keptb_error | apply kept_next | exact kept_refused) | split | simp only [kept_mk_iff] | dsimp +zetaDelta only | with_reducible (first | apply kept_set | apply kept_reg | apply kept_filter | apply kept_empty | apply kept_regs | apply kept_none)

theorem State.moveCtx_kept {q : List Instr} (a0 : State) (a1 : ℕ) (a2 : ℕ) (a3 : ℕ) (h0 : Kept q a0) : Kept q (@State.moveCtx a0 a1 a2 a3) := by
  unfold State.moveCtx
  repeat' first | with_reducible assumption | intro _ | extract_lets | with_reducible (first | apply kept_ite | apply kept_guarded | apply kept_foldl | apply kept_fst | apply kept_elim | apply kepto_some | exact kepto_none | apply kepte_ok | exact kepte_error | apply keptb_ok | apply keptb_error | apply kept_next | exact kept_refused | apply State.wr_kept | apply State.setCtx_kept) | split | simp only [kept_mk_iff] | dsimp +zetaDelta only | with_reducible (first | apply kept_set | apply kept_reg | apply kept_filter | apply kept_empty | apply kept_regs | apply kept_none)

theorem State.takePlace_kept {q : List Instr} (a0 : State) (a1 : ℕ) (a2 : ℕ) (a3 : ℕ) (h0 : Kept q a0) : Kept q (@State.takePlace a0 a1 a2 a3) := by
  unfold State.takePlace
  repeat' first | with_reducible assumption | intro _ | extract_lets | with_reducible (first | apply kept_ite | apply kept_guarded | apply kept_foldl | apply kept_fst | apply kept_elim | apply kepto_some | exact kepto_none | apply kepte_ok | exact kepte_error | apply keptb_ok | apply keptb_error | apply kept_next | exact kept_refused | apply State.wr_kept | apply State.each_kept | apply State.moveCtx_kept | apply State.setCopy_kept) | split | simp only [kept_mk_iff] | dsimp +zetaDelta only | with_reducible (first | apply kept_set | apply kept_reg | apply kept_filter | apply kept_empty | apply kept_regs | apply kept_none)

theorem State.refreshSlots_kept {q : List Instr} (a0 : State) (a1 : ℕ) (h0 : Kept q a0) : Kept q (@State.refreshSlots a0 a1) := by
  unfold State.refreshSlots
  repeat' first | with_reducible assumption | intro _ | extract_lets | with_reducible (first | apply kept_ite | apply kept_guarded | apply kept_foldl | apply kept_fst | apply kept_elim | apply kepto_some | exact kepto_none | apply kepte_ok | exact kepte_error | apply keptb_ok | apply keptb_error | apply kept_next | exact kept_refused | apply State.each_kept | apply State.wr_kept) | split | simp only [kept_mk_iff] | dsimp +zetaDelta only | with_reducible (first | apply kept_set | apply kept_reg | apply kept_filter | apply kept_empty | apply kept_regs | apply kept_none)

theorem State.leaveSlot_kept {q : List Instr} (a0 : State) (a1 : ℕ) (h0 : Kept q a0) : Kept q (@State.leaveSlot a0 a1) := by
  unfold State.leaveSlot
  repeat' first | with_reducible assumption | intro _ | extract_lets | with_reducible (first | apply kept_ite | apply kept_guarded | apply kept_foldl | apply kept_fst | apply kept_elim | apply kepto_some | exact kepto_none | apply kepte_ok | exact kepte_error | apply keptb_ok | apply keptb_error | apply kept_next | exact kept_refused | apply State.each_kept | apply State.setCtx_kept | apply State.wr_kept | apply State.setSlot_kept | apply State.setCopy_kept) | split | simp only [kept_mk_iff] | dsimp +zetaDelta only | with_reducible (first | apply kept_set | apply kept_reg | apply kept_filter | apply kept_empty | apply kept_regs | apply kept_none)

theorem State.switchOver_kept {q : List Instr} (a0 : State) (a1 : ℕ) (a2 : ℕ) (a3 : Option ℕ) (h0 : Kept q a0) : Kept q (@State.switchOver a0 a1 a2 a3) := by
  unfold State.switchOver
  repeat' first | with_reducible assumption | intro _ | extract_lets | with_reducible (first | apply kept_ite | apply kept_guarded | apply kept_foldl | apply kept_fst | apply kept_elim | apply kepto_some | exact kepto_none | apply kepte_ok | exact kepte_error | apply keptb_ok | apply keptb_error | apply kept_next | exact kept_refused | apply State.wr_kept | apply State.loseSlotBytes_kept | apply State.takePlace_kept | apply State.refreshSlots_kept | apply State.leaveSlot_kept) | split | simp only [kept_mk_iff] | dsimp +zetaDelta only | with_reducible (first | apply kept_set | apply kept_reg | apply kept_filter | apply kept_empty | apply kept_regs | apply kept_none)

theorem State.queueRestore_kept {q : List Instr} (a0 : State) (a1 : ℕ) (a2 : Cpd) (a3 : Option ℕ) (h0 : Kept q a0) : Kept q (@State.queueRestore a0 a1 a2 a3) := by
  unfold State.queueRestore
  repeat' first | with_reducible assumption | intro _ | extract_lets | with_reducible (first | apply kept_ite | apply kept_guarded | apply kept_foldl | apply kept_fst | apply kept_elim | apply kepto_some | exact kepto_none | apply kepte_ok | exact kepte_error | apply keptb_ok | apply keptb_error | apply kept_next | exact kept_refused | apply State.setCopy_kept) | split | simp only [kept_mk_iff] | dsimp +zetaDelta only | with_reducible (first | apply kept_set | apply kept_reg | apply kept_filter | apply kept_empty | apply kept_regs | apply kept_none)

theorem State.tally_kept {q : List Instr} (a0 : State) (a1 : ℕ) (a2 : ℕ) (a3 : Option ℕ) (h0 : Kept q a0) : Kept q (@State.tally a0 a1 a2 a3).1 := by
  unfold State.tally
  repeat' first | with_reducible (first | assumption | apply State.setReplay_kept) | intro _ | split | simp only [kept_mk_iff]

theorem State.cpyInfo_kept {q : List Instr} (a0 : State) (a1 : ℕ) (a2 : ℕ) (a3 : ℕ) (a4 : ℕ) (h0 : Kept q a0) : Kept q (@State.cpyInfo a0 a1 a2 a3 a4) := by
  unfold State.cpyInfo
  repeat' with_reducible first | assumption | apply State.wr_kept

theorem State.cpyErr_kept {q : List Instr} (a0 : State) (a1 : ℕ) (a2 : ℕ → Fld) (h0 : Kept q a0) : Kept q (@State.cpyErr a0 a1 a2) := by
  unfold State.cpyErr
  repeat' with_reducible first | assumption | apply State.event_kept

theorem State.postCpd_kept {q : List Instr} (a0 : State) (a1 : ℕ) (a2 : Cpd) (a3 : ℕ) (h0 : Kept q a0) : Kept q (@State.postCpd a0 a1 a2 a3) := by
  unfold State.postCpd
  repeat' first | with_reducible (first | assumption | apply State.tally_kept | apply State.when_kept | apply State.bump_kept | apply State.postCqe_kept | apply State.cpyInfo_kept | apply State.cpyErr_kept | apply State.endWqe_kept) | intro _ | split | simp only [kept_mk_iff]

theorem State.restoreOne_kept {q : List Instr} (a0 : State) (a1 a2 : ℕ) (a3 : List (List ℕ)) (a4 : LogCpd) (h0 : Kept q a0) : Kept q (@State.restoreOne a0 a1 a2 a3 a4).1 := by
  have e : ∀ (c : Prop) [Decidable c] (x : State × List (List ℕ)) (o : Option ℕ) (f : ℕ → State × List (List ℕ)) (y : State × List (List ℕ)), Kept q x.1 → (∀ n, Kept q (f n).1) → Kept q y.1 →
      Kept q (if c then x else match o with | some st => f st | none => y).1 := by
    intro c _ x o f y hx hf hy
    by_cases hc : c
    · rw [if_pos hc]; exact hx
    · rw [if_neg hc]; cases o with
      | none => exact hy
      | some n => exact hf n
  unfold State.restoreOne
  extract_lets key own d rej silent ended next m
  exact e _ _ _ _ _ (State.queueRestore_kept _ _ _ _ h0) (fun _ => State.when_kept _ _ _ h0 (fun _ h => State.postCpd_kept _ _ _ _ h))
    (State.when_kept _ _ _ (State.inc_kept _ _ _ (State.moveRows_kept _ _ _ h0)) (fun _ h => State.postCpd_kept _ _ _ _ h))
theorem State.restoreLog_kept {q : List Instr} (a0 : State) (a1 a2 : ℕ) (h0 : Kept q a0) : Kept q (@State.restoreLog a0 a1 a2) := by
  unfold State.restoreLog
  generalize ((a0.copy a1).log.filter _) = l
  have go : ∀ (l : List LogCpd) (r : State × List (List ℕ)), Kept q r.1 → Kept q (l.foldl (fun (r : State × List (List Nat)) e => r.1.restoreOne a1 a2 r.2 e) r).1 := by
    intro l
    induction l with
    | nil => exact fun r h => h
    | cons e l ih => exact fun r h => ih _ (State.restoreOne_kept _ _ _ _ _ h)
  exact go l _ h0
theorem State.orderReplay_kept {q : List Instr} (a0 : State) (a1 : ℕ) (a2 : ℕ) (a3 : Option ℕ) (a4 : ℕ) (a5 : ℕ) (a6 : Bool) (h0 : Kept q a0) : Kept q (@State.orderReplay a0 a1 a2 a3 a4 a5 a6) := by
  unfold State.orderReplay
  repeat' first | with_reducible (first | assumption | apply State.fenceEngine_kept | apply State.fltEvent_kept | apply State.setSlot_kept | apply State.switchOver_kept | apply State.setReplay_kept | apply State.setCopy_kept | apply State.wr_kept | apply State.restoreLog_kept) | intro _ | split | simp only [kept_mk_iff]

theorem State.replayOn_kept {q : List Instr} (a0 : State) (a1 : ℕ) (a2 : ℕ) (a3 : SpareWait) (h0 : Kept q a0) : Kept q (@State.replayOn a0 a1 a2 a3) := by
  unfold State.replayOn
  repeat' first | with_reducible (first | assumption | apply State.orderReplay_kept) | intro _ | split | simp only [kept_mk_iff]

theorem State.orderSpare_kept {q : List Instr} (a0 : State) (a1 : ℕ) (a2 : ℕ) (a3 : SpareWait) (h0 : Kept q a0) : Kept q (@State.orderSpare a0 a1 a2 a3) := by
  unfold State.orderSpare
  repeat' first | with_reducible (first | assumption | apply State.replayOn_kept | apply State.fenceEngine_kept) | intro _ | split | simp only [kept_mk_iff]

theorem State.contain_kept {q : List Instr} (a0 : State) (a1 : ℕ) (a2 : ℕ) (a3 : ℕ) (a4 : ℕ) (h0 : Kept q a0) : Kept q (@State.contain a0 a1 a2 a3 a4) := by
  unfold State.contain
  repeat' first | with_reducible (first | assumption | apply kept_ite | apply kept_foldl | apply kept_elim | apply State.recordFault_kept | apply State.fltEvent_kept | apply State.dropReplay_kept | apply State.partFault_kept | apply State.orderReplay_kept | apply State.switchOver_kept | apply State.stopSlot_kept | apply State.orderSpare_kept) | intro _ | extract_lets | split | simp only [kept_mk_iff] | dsimp +zetaDelta only

theorem State.meErr_kept {q : List Instr} (a0 : State) (a1 : ℕ) (a2 : ℕ → Fld) (h0 : Kept q a0) : Kept q (@State.meErr a0 a1 a2) := by
  unfold State.meErr
  repeat' with_reducible first | assumption | apply State.event_kept

theorem State.showCheck_kept {q : List Instr} (a0 : State) (a1 : ℕ) (a2 : ℕ) (h0 : Kept q a0) : Kept q (@State.showCheck a0 a1 a2) := by
  unfold State.showCheck
  repeat' first | with_reducible (first | assumption | apply State.meErr_kept) | intro _ | split | simp only [kept_mk_iff]

theorem State.faultBy_kept {q : List Instr} (a0 : State) (a1 : ℕ) (a2 : ℕ) (a3 : ℕ) (a4 : ℕ) (a5 : ℕ) (a6 : ℕ × ℕ) (h0 : Kept q a0) : Kept q (@State.faultBy a0 a1 a2 a3 a4 a5 a6) := by
  unfold State.faultBy
  repeat' first | with_reducible (first | assumption | apply State.markFault_kept | apply State.recordFault_kept | apply State.when_kept | apply State.startPromotion_kept | apply State.loseGranary_kept | apply State.partFault_kept | apply State.moduleFatal_kept | apply State.corrected_kept | apply State.contain_kept | apply State.showCheck_kept) | intro _ | split | simp only [kept_mk_iff]

theorem State.fault_kept {q : List Instr} (a0 : State) (a1 : ℕ) (a2 : ℕ) (a3 : ℕ) (a4 : ℕ) (a5 : ℕ) (h0 : Kept q a0) : Kept q (@State.fault a0 a1 a2 a3 a4 a5) := by
  unfold State.fault
  repeat' with_reducible first | assumption | apply State.faultBy_kept

theorem State.reeveFails_kept {q : List Instr} (a0 : State) (a1 : ℕ) (h0 : Kept q a0) : Kept q (@State.reeveFails a0 a1) := by
  unfold State.reeveFails
  repeat' first | with_reducible (first | assumption | apply State.reeveRom0_kept | apply State.wr_kept | apply State.incSat_kept | apply State.endCmd_kept | apply State.setTransit_kept | apply State.endReq_kept | apply State.when_kept | apply State.mgtEvent_kept | apply State.fault_kept) | intro _ | split | simp only [kept_mk_iff]

theorem State.commitBells_kept {q : List Instr} (a0 : State) (h0 : Kept q a0) : Kept q (@State.commitBells a0) := by
  unfold State.commitBells
  repeat' first | with_reducible (first | assumption | apply State.wr_kept) | intro _ | split | simp only [kept_mk_iff]

theorem State.unpark_kept {q : List Instr} (a0 : State) (a1 : ℕ) (h0 : Kept q a0) : Kept q (@State.unpark a0 a1) := by
  unfold State.unpark
  repeat' first | with_reducible assumption | intro _ | extract_lets | with_reducible (first | apply kept_ite | apply kept_guarded | apply kept_foldl | apply kept_fst | apply kept_elim | apply kepto_some | exact kepto_none | apply kepte_ok | exact kepte_error | apply keptb_ok | apply keptb_error | apply kept_next | exact kept_refused | apply State.each_kept | apply State.setCtx_kept) | split | simp only [kept_mk_iff] | dsimp +zetaDelta only | with_reducible (first | apply kept_set | apply kept_reg | apply kept_filter | apply kept_empty | apply kept_regs | apply kept_none)

theorem State.tryResume_kept {q : List Instr} (a0 : State) (a1 : ℕ) (h0 : Kept q a0) : Kept q (@State.tryResume a0 a1) := by
  unfold State.tryResume
  repeat' first | with_reducible (first | assumption | apply kept_ite | apply kept_foldl | apply kept_elim | apply State.unpark_kept | apply State.holdBell_kept | apply State.setReplay_kept | apply State.wr_kept | apply State.asyncEvent_kept | apply State.fltEvent_kept | apply State.commitBells_kept) | intro _ | extract_lets | split | simp only [kept_mk_iff] | dsimp +zetaDelta only

theorem State.owedLess_kept {q : List Instr} (a0 : State) (a1 : ℕ) (h0 : Kept q a0) : Kept q (@State.owedLess a0 a1) := by
  unfold State.owedLess
  repeat' first | with_reducible (first | assumption | apply kept_ite | apply kept_foldl | apply kept_elim | apply State.commitBells_kept | apply State.tryResume_kept) | intro _ | extract_lets | split | simp only [kept_mk_iff] | dsimp +zetaDelta only

theorem State.haltCtx_kept {q : List Instr} (a0 : State) (a1 : ℕ) (a2 : Ctx) (a3 : Run) (h0 : Kept q a0) : Kept q (@State.haltCtx a0 a1 a2 a3) := by
  unfold State.haltCtx
  repeat' first | with_reducible (first | assumption | apply State.setCtx_kept | apply State.wr_kept | apply State.owedLess_kept) | intro _ | split | simp only [kept_mk_iff]

theorem State.recordExc_kept {q : List Instr} (a0 : State) (a1 : ℕ) (a2 : ℕ) (a3 : Bool) (a4 : ℕ) (h0 : Kept q a0) : Kept q (@State.recordExc a0 a1 a2 a3 a4) := by
  unfold State.recordExc
  repeat' first | with_reducible (first | assumption | apply State.wr_kept) | intro _ | split | simp only [kept_mk_iff]

theorem State.doubleExc_kept {q : List Instr} (a0 : State) (a1 : ℕ) (a2 : ℕ) (h0 : Kept q a0) : Kept q (@State.doubleExc a0 a1 a2) := by
  unfold State.doubleExc
  repeat' first | with_reducible (first | assumption | apply State.reeveFails_kept | apply State.haltCtx_kept | apply State.recordExc_kept | apply State.wr_kept | apply State.fault_kept) | intro _ | split | simp only [kept_mk_iff]

theorem State.reportExc_kept {q : List Instr} (a0 : State) (a1 : ℕ) (h0 : Kept q a0) : Kept q (@State.reportExc a0 a1) := by
  unfold State.reportExc
  repeat' first | with_reducible (first | assumption | apply State.setPart_kept | apply State.partEvent_kept | apply State.sendMsix_kept | apply State.haltCtx_kept) | intro _ | split | simp only [kept_mk_iff]

theorem State.takeExc_kept {q : List Instr} (a0 : State) (a1 : ℕ) (a2 : Ctx) (a3 : ℕ) (a4 : ℕ) (a5 : ℕ) (a6 : BitVec 32) (h0 : Kept q a0) : Kept q (@State.takeExc a0 a1 a2 a3 a4 a5 a6) := by
  unfold State.takeExc
  repeat' first | with_reducible (first | assumption | apply State.doubleExc_kept | apply State.recordExc_kept | apply State.setCtx_kept | apply State.reportExc_kept) | intro _ | split | simp only [kept_mk_iff]

theorem State.stopMem_kept {q : List Instr} (a0 : State) (a1 : ℕ) (h0 : Kept q a0) : Kept q (@State.stopMem a0 a1) := by
  unfold State.stopMem
  repeat' first | with_reducible (first | assumption | apply State.wr_kept | apply State.haltCtx_kept) | intro _ | split | simp only [kept_mk_iff]

theorem State.ended_kept {q : List Instr} (a0 : State) (a1 : ℕ) (a2 : Stop) (h0 : Kept q a0) : Kept q (@State.ended a0 a1 a2) := by
  unfold State.ended
  repeat' first | with_reducible (first | assumption | apply State.takeExc_kept | apply State.stopMem_kept) | intro _ | split | simp only [kept_mk_iff]

theorem State.pciEvent_kept {q : List Instr} (a0 : State) (a1 : Fld) (h0 : Kept q a0) : Kept q (@State.pciEvent a0 a1) := by
  unfold State.pciEvent
  repeat' with_reducible first | assumption | apply State.event_kept

theorem State.unsup_kept {q : List Instr} (a0 : State) (a1 : Src) (a2 : ℕ) (a3 : Bool) (h0 : Kept q a0) : Kept q (@State.unsup a0 a1 a2 a3) := by
  unfold State.unsup
  repeat' with_reducible first | assumption | apply State.wr_kept | apply State.pciEvent_kept | apply State.aer_kept

theorem State.dropHalves_kept {q : List Instr} (a0 : State) (a1 : ℕ) (h0 : Kept q a0) : Kept q (@State.dropHalves a0 a1) := by
  unfold State.dropHalves
  exact h0

theorem State.settleTests_kept {q : List Instr} (a0 : State) (h0 : Kept q a0) : Kept q (@State.settleTests a0) := by
  unfold State.settleTests
  repeat' first | with_reducible assumption | intro _ | extract_lets | with_reducible (first | apply kept_ite | apply kept_guarded | apply kept_foldl | apply kept_fst | apply kept_elim | apply kepto_some | exact kepto_none | apply kepte_ok | exact kepte_error | apply keptb_ok | apply keptb_error | apply kept_next | exact kept_refused | apply State.each_kept | apply State.wr_kept) | split | simp only [kept_mk_iff] | dsimp +zetaDelta only | with_reducible (first | apply kept_set | apply kept_reg | apply kept_filter | apply kept_empty | apply kept_regs | apply kept_none)

theorem State.markSeen_kept {q : List Instr} (a0 : State) (a1 : ℕ) (a2 : ℕ) (h0 : Kept q a0) : Kept q (@State.markSeen a0 a1 a2) := by
  unfold State.markSeen
  exact h0

theorem State.dportRead_kept {q : List Instr} (a0 : State) (a1 : ℕ) (a2 : ℕ) (h0 : Kept q a0) : Kept q (@State.dportRead a0 a1 a2).1 := by
  unfold State.dportRead
  repeat' first | with_reducible (first | assumption | apply State.wr_kept | apply State.markSeen_kept | apply State.noteReads_kept) | intro _ | split | simp only [kept_mk_iff]

theorem State.regRead_kept {q : List Instr} (a0 : State) (a1 : Src) (a2 : ℕ) (a3 : ℕ) (h0 : Kept q a0) : Kept q (@State.regRead a0 a1 a2 a3).1 := by
  unfold State.regRead
  repeat' first | with_reducible (first | assumption | apply State.unsup_kept | apply State.dropHalves_kept | apply State.dportRead_kept) | intro _ | split | simp only [kept_mk_iff]

theorem State.fetched_kept {q : List Instr} (a0 : State) (a1 : ℕ) (a2 : Ctx) (a3 : ℕ) (h0 : Kept q a0) : Kept q (@State.fetched a0 a1 a2 a3) := by
  unfold State.fetched
  repeat' first | with_reducible assumption | intro _ | extract_lets | with_reducible (first | apply kept_ite | apply kept_guarded | apply kept_foldl | apply kept_fst | apply kept_elim | apply kepto_some | exact kepto_none | apply kepte_ok | exact kepte_error | apply keptb_ok | apply keptb_error | apply kept_next | exact kept_refused | apply State.regRead_kept) | split | simp only [kept_mk_iff] | dsimp +zetaDelta only | with_reducible (first | apply kept_set | apply kept_reg | apply kept_filter | apply kept_empty | apply kept_regs | apply kept_none)

theorem State.issue_kept {q : List Instr} (a0 : State) (a1 a2 : ℕ) (a3 : Bool) (a4 : ℕ) (a5 : State → Ctx → Except Stop State) (h0 : Kept q a0) (h5 : ∀ z0 z1, Kept q z0 → KeptE q (fun t => t) (a5 z0 z1)) : Kept q (@State.issue a0 a1 a2 a3 a4 a5) := by
  have hf := State.fetched_kept a0 a1 (a0.ctx a1) a2 h0
  unfold State.issue
  repeat' first | with_reducible (first | apply State.ended_kept | assumption | exact (h5 _ _ hf).get _ (by assumption)) | split | dsimp +zetaDelta only
theorem State.regCost_kept {q : List Instr} (a0 : State) (a1 : ℕ) (a2 : ℕ) (h0 : Kept q a0) : Kept q (@State.regCost a0 a1 a2).1 := by
  unfold State.regCost
  repeat' first | with_reducible (first | assumption | apply State.draw_kept) | intro _ | split | simp only [kept_mk_iff]

theorem State.regBytes_kept {q : List Instr} (a0 : State) (a1 : ℕ) (a2 : ℕ) (a3 : ℕ) (h0 : Kept q a0) : Kept q (@State.regBytes a0 a1 a2 a3).1 := by
  unfold State.regBytes
  repeat' first | with_reducible assumption | intro _ | extract_lets | with_reducible (first | apply kept_ite | apply kept_guarded | apply kept_foldl | apply kept_fst | apply kept_elim | apply kepto_some | exact kepto_none | apply kepte_ok | exact kepte_error | apply keptb_ok | apply keptb_error | apply kept_next | exact kept_refused | apply State.regRead_kept | apply State.regCost_kept) | split | simp only [kept_mk_iff] | dsimp +zetaDelta only | with_reducible (first | apply kept_set | apply kept_reg | apply kept_filter | apply kept_empty | apply kept_regs | apply kept_none)

theorem State.memCost_kept {q : List Instr} (a0 : State) (a1 : Bool) (h0 : Kept q a0) : Kept q (@State.memCost a0 a1).1 := by
  unfold State.memCost
  repeat' first | with_reducible (first | assumption | apply State.draw_kept) | intro _ | split | simp only [kept_mk_iff]

theorem State.descriptor_kept {q : List Instr} (a0 : State) (a1 : ℕ) (a2 : Ctx) (a3 : ℕ) (a4 : ℕ) (h0 : Kept q a0) : KeptE q (fun t => t.1) (@State.descriptor a0 a1 a2 a3 a4) := by
  unfold State.descriptor
  repeat' first | with_reducible assumption | intro _ | extract_lets | with_reducible (first | apply kept_ite | apply kept_guarded | apply kept_foldl | apply kept_fst | apply kept_elim | apply kepto_some | exact kepto_none | apply kepte_ok | exact kepte_error | apply keptb_ok | apply keptb_error | apply kept_next | exact kept_refused | apply State.regBytes_kept | apply State.memCost_kept) | split | simp only [kept_mk_iff] | dsimp +zetaDelta only | with_reducible (first | apply kept_set | apply kept_reg | apply kept_filter | apply kept_empty | apply kept_regs | apply kept_none)

theorem State.descriptor_kept_of {q : List Instr} {a0 : State} {a1 : ℕ} {a2 : Ctx} {a3 : ℕ} {a4 : ℕ} {t u} (e : @State.descriptor a0 a1 a2 a3 a4 = .ok (t, u)) (h0 : Kept q a0) : Kept q t :=
  (State.descriptor_kept _ _ _ _ _ h0).get (t, u) e

theorem State.finish_kept {q : List Instr} (a0 : State) (a1 : ℕ) (a2 : Ctx) (a3 : BitVec 32) (a4 : ℕ) (h0 : Kept q a0) : Kept q (@State.finish a0 a1 a2 a3 a4) := by
  unfold State.finish
  exact h0

theorem State.enqueue_kept {q : List Instr} (a0 : State) (a1 : ℕ) (a2 : CForm) (a3 : Bool) (a4 : Bool) (a5 : ℕ) (a6 : State → Ctx → List ℕ → Except State State) (a7 : List ℕ → ℕ → ℕ → Wait) (a8 : State → List ℕ → State) (h0 : Kept q a0) (h6 : ∀ z0 z1 z2, Kept q z0 → KeptB q (a6 z0 z1 z2)) (h8 : ∀ z0 z1, Kept q z0 → Kept q (a8 z0 z1)) : Kept q (@State.enqueue a0 a1 a2 a3 a4 a5 a6 a7 a8) := by
  unfold State.enqueue
  apply State.issue_kept _ _ _ _ _ _ h0
  intro t x h1
  dsimp only
  split
  · exact kepte_error
  · rename_i r e
    have hr := State.descriptor_kept_of e h1
    split
    · rename_i t e
      exact kepte_ok (State.finish_kept _ _ _ _ _ ((h6 _ _ _ hr).ok _ e))
    · rename_i t e
      have ht := (h6 _ _ _ hr).error _ e
      split
      · exact kepte_ok (State.finish_kept _ _ _ _ _ ht)
      · exact kepte_ok (State.setCtx_kept _ _ _ (h8 _ _ ht))
theorem State.tstClosed_kept {q : List Instr} (a0 : State) (a1 : Src) (a2 : ℕ) (h0 : Kept q a0) : Kept q (@State.tstClosed a0 a1 a2) := by
  unfold State.tstClosed
  repeat' with_reducible first | assumption | apply State.unsup_kept

theorem State.cancelInject_kept {q : List Instr} (a0 : State) (h0 : Kept q a0) : Kept q (@State.cancelInject a0) := by
  unfold State.cancelInject
  repeat' first | with_reducible (first | assumption | apply State.wr_kept) | intro _ | split | simp only [kept_mk_iff]

theorem State.bellEvent_kept {q : List Instr} (a0 : State) (a1 : Fld) (h0 : Kept q a0) : Kept q (@State.bellEvent a0 a1) := by
  unfold State.bellEvent
  repeat' with_reducible first | assumption | apply State.event_kept

theorem State.missedTarget_kept {q : List Instr} (a0 : State) (h0 : Kept q a0) : Kept q (@State.missedTarget a0) := by
  unfold State.missedTarget
  repeat' with_reducible first | assumption | apply State.bellEvent_kept

theorem State.tstLog_kept {q : List Instr} (a0 : State) (h0 : Kept q a0) : Kept q (@State.tstLog a0) := by
  unfold State.tstLog
  repeat' with_reducible first | assumption | apply State.draw_kept | apply State.logEntry_kept

theorem State.tstArm_kept {q : List Instr} (a0 : State) (h0 : Kept q a0) : Kept q (@State.tstArm a0) := by
  unfold State.tstArm
  repeat' first | with_reducible (first | assumption | apply State.tstLog_kept) | intro _ | split | simp only [kept_mk_iff]

theorem State.armInject_kept {q : List Instr} (a0 : State) (h0 : Kept q a0) : Kept q (@State.armInject a0) := by
  unfold State.armInject
  repeat' first | with_reducible (first | assumption | apply State.wr_kept | apply State.missedTarget_kept | apply State.tstArm_kept) | intro _ | split | simp only [kept_mk_iff]

theorem State.writeInject_kept {q : List Instr} (a0 : State) (a1 : Src) (a2 : ℕ) (h0 : Kept q a0) : Kept q (@State.writeInject a0 a1 a2) := by
  unfold State.writeInject
  repeat' first | with_reducible (first | assumption | apply State.tstClosed_kept | apply State.wr_kept | apply State.cancelInject_kept | apply State.armInject_kept) | intro _ | split | simp only [kept_mk_iff]

theorem State.sendPending_kept {q : List Instr} (a0 : State) (a1 : ℕ) (h0 : Kept q a0) : Kept q (@State.sendPending a0 a1) := by
  unfold State.sendPending
  repeat' first | with_reducible (first | assumption | apply kept_ite | apply kept_foldl | apply kept_elim | apply State.sendMsix_kept) | intro _ | extract_lets | split | simp only [kept_mk_iff] | dsimp +zetaDelta only

theorem State.sendHeldReads_kept {q : List Instr} (a0 : State) (h0 : Kept q a0) : Kept q (@State.sendHeldReads a0) := by
  unfold State.sendHeldReads
  repeat' first | with_reducible (first | assumption | apply kept_ite | apply kept_foldl | apply kept_elim | apply State.hostRead_kept) | intro _ | extract_lets | split | simp only [kept_mk_iff] | dsimp +zetaDelta only

theorem State.sendHeldWrites_kept {q : List Instr} (a0 : State) (h0 : Kept q a0) : Kept q (@State.sendHeldWrites a0) := by
  unfold State.sendHeldWrites
  repeat' first | with_reducible (first | assumption | apply kept_ite | apply kept_foldl | apply kept_elim | apply State.incSat_kept | apply State.emit_kept | apply State.logWrite_kept) | intro _ | extract_lets | split | simp only [kept_mk_iff] | dsimp +zetaDelta only

theorem State.acceptCmd_kept {q : List Instr} (a0 : State) (a1 : PartCmd) (a2 : List PartCmd) (h0 : Kept q a0) : Kept q (@State.acceptCmd a0 a1 a2) := by
  unfold State.acceptCmd
  exact h0

theorem State.pumpCmds_kept {q : List Instr} (a0 : State) (a1 : ℕ) (h0 : Kept q a0) : Kept q (@State.pumpCmds a0 a1) := by
  induction a1 generalizing a0 <;> unfold State.pumpCmds
  · exact h0
  · rename_i ih
    repeat' first | with_reducible (first | apply ih | apply State.endCmd_kept | apply State.missedTarget_kept | apply State.when_kept | apply State.acceptCmd_kept) | with_reducible assumption | intro _ | extract_lets | with_reducible (first | apply kept_ite | apply kept_guarded | apply kept_foldl | apply kept_fst | apply kept_elim | apply kepto_some | exact kepto_none | apply kepte_ok | exact kepte_error | apply keptb_ok | apply keptb_error | apply kept_next | exact kept_refused) | split | simp only [kept_mk_iff] | dsimp +zetaDelta only | with_reducible (first | apply kept_set | apply kept_reg | apply kept_filter | apply kept_empty | apply kept_regs | apply kept_none)
theorem State.releaseFunc_kept {q : List Instr} (a0 : State) (a1 : ℕ) (h0 : Kept q a0) : Kept q (@State.releaseFunc a0 a1) := by
  unfold State.releaseFunc
  repeat' first | with_reducible assumption | intro _ | extract_lets | with_reducible (first | apply kept_ite | apply kept_guarded | apply kept_foldl | apply kept_fst | apply kept_elim | apply kepto_some | exact kepto_none | apply kepte_ok | exact kepte_error | apply keptb_ok | apply keptb_error | apply kept_next | exact kept_refused | apply State.sendPending_kept | apply State.sendHeldReads_kept | apply State.sendHeldWrites_kept | apply State.settleInvals_kept | apply State.pumpCmds_kept) | split | simp only [kept_mk_iff] | dsimp +zetaDelta only | with_reducible (first | apply kept_set | apply kept_reg | apply kept_filter | apply kept_empty | apply kept_regs | apply kept_none)

theorem State.setBme_kept {q : List Instr} (a0 : State) (a1 : ℕ) (a2 : Bool) (h0 : Kept q a0) : Kept q (@State.setBme a0 a1 a2) := by
  unfold State.setBme
  repeat' first | with_reducible (first | assumption | apply State.when_kept | apply State.wr_kept | apply State.releaseFunc_kept) | intro _ | split | simp only [kept_mk_iff]

theorem State.abortPromotion_kept {q : List Instr} (a0 : State) (h0 : Kept q a0) : Kept q (@State.abortPromotion a0) := by
  unfold State.abortPromotion
  repeat' first | with_reducible (first | assumption | apply State.setPromoting_kept) | intro _ | split | simp only [kept_mk_iff]

theorem State.writePromote_kept {q : List Instr} (a0 : State) (a1 : Src) (a2 : ℕ) (h0 : Kept q a0) : Kept q (@State.writePromote a0 a1 a2) := by
  unfold State.writePromote
  repeat' first | with_reducible (first | assumption | apply State.when_kept | apply State.wr_kept | apply State.unsup_kept | apply State.abortPromotion_kept | apply State.startPromotion_kept) | intro _ | split | simp only [kept_mk_iff]

theorem RegAcc.interrupts_kept {q : List Instr} (a0 : RegAcc) (a1 : State) (a2 : State) (h1 : Kept q a1) (h2 : Kept q a2) : Kept q (@RegAcc.interrupts a0 a1 a2) := by
  unfold RegAcc.interrupts
  repeat' first | with_reducible (first | assumption | apply State.raise_kept) | intro _ | split | simp only [kept_mk_iff]

theorem RegAcc.field_kept {q : List Instr} (a0 : RegAcc) (a1 : State) (a2 : FieldRow) (h1 : Kept q a1) : Kept q (@RegAcc.field a0 a1 a2) := by
  unfold RegAcc.field
  repeat' first | with_reducible (first | assumption | apply State.wr_kept) | intro _ | split | simp only [kept_mk_iff]

theorem RegAcc.fields_kept {q : List Instr} (a0 : RegAcc) (a1 : State) (a2 : FieldRow → Bool) (h1 : Kept q a1) : Kept q (@RegAcc.fields a0 a1 a2) := by
  unfold RegAcc.fields
  repeat' first | with_reducible (first | assumption | apply kept_ite | apply kept_foldl | apply kept_elim | apply RegAcc.field_kept) | intro _ | extract_lets | split | simp only [kept_mk_iff] | dsimp +zetaDelta only

theorem RegAcc.deny_kept {q : List Instr} (a0 : RegAcc) (a1 : State) (h1 : Kept q a1) : Kept q (@RegAcc.deny a0 a1) := by
  unfold RegAcc.deny
  repeat' with_reducible first | assumption | apply State.unsup_kept

theorem RegAcc.someFields_kept {q : List Instr} (a0 : RegAcc) (a1 : State) (a2 : FieldRow → Bool) (a3 : List ℕ) (h1 : Kept q a1) : Kept q (@RegAcc.someFields a0 a1 a2 a3) := by
  unfold RegAcc.someFields
  repeat' with_reducible first | assumption | apply RegAcc.interrupts_kept | apply RegAcc.fields_kept | apply State.when_kept | apply RegAcc.deny_kept

theorem RegAcc.generic_kept {q : List Instr} (a0 : RegAcc) (a1 : State) (h1 : Kept q a1) : Kept q (@RegAcc.generic a0 a1) := by
  unfold RegAcc.generic
  repeat' with_reducible first | assumption | apply RegAcc.someFields_kept

theorem RegAcc.mem_kept {q : List Instr} (a0 : RegAcc) (a1 : State) (h1 : Kept q a1) : Kept q (@RegAcc.mem a0 a1) := by
  unfold RegAcc.mem
  repeat' first | with_reducible (first | assumption | apply State.writePromote_kept | apply RegAcc.generic_kept) | intro _ | split | simp only [kept_mk_iff]

theorem State.writeShare_kept {q : List Instr} (a0 : State) (a1 : ℕ) (a2 : ℕ) (a3 : ℕ) (h0 : Kept q a0) : Kept q (@State.writeShare a0 a1 a2 a3) := by
  unfold State.writeShare
  repeat' first | with_reducible (first | assumption | apply State.wr_kept | apply State.when_kept) | intro _ | split | simp only [kept_mk_iff]

theorem State.setAhead_kept {q : List Instr} (a0 : State) (a1 : ℕ) (a2 : ℕ) (h0 : Kept q a0) : Kept q (@State.setAhead a0 a1 a2) := by
  unfold State.setAhead
  repeat' first | with_reducible (first | assumption | apply State.wr_kept) | intro _ | split | simp only [kept_mk_iff]

theorem State.register_kept {q : List Instr} (a0 : State) (a1 : ℕ) (a2 : Bool) (a3 : ℕ) (a4 : ℕ) (a5 : Ctx → Ctx) (h0 : Kept q a0) : Kept q (@State.register a0 a1 a2 a3 a4 a5) := by
  unfold State.register
  repeat' first | with_reducible assumption | intro _ | extract_lets | with_reducible (first | apply kept_ite | apply kept_guarded | apply kept_foldl | apply kept_fst | apply kept_elim | apply kepto_some | exact kepto_none | apply kepte_ok | exact kepte_error | apply keptb_ok | apply keptb_error | apply kept_next | exact kept_refused | apply State.issue_kept | apply State.finish_kept) | split | simp only [kept_mk_iff] | dsimp +zetaDelta only | with_reducible (first | apply kept_set | apply kept_reg | apply kept_filter | apply kept_empty | apply kept_regs | apply kept_none)

theorem State.mfsr_kept {q : List Instr} (a0 : State) (a1 : ℕ) (a2 : BitVec 12) (h0 : Kept q a0) : Kept q (@State.mfsr a0 a1 a2) := by
  unfold State.mfsr
  repeat' with_reducible first | assumption | apply State.register_kept

theorem State.stageBytes_kept {q : List Instr} (a0 : State) (a1 : ℕ) (a2 : List ℕ) (h0 : Kept q a0) : Kept q (@State.stageBytes a0 a1 a2) := by
  unfold State.stageBytes
  exact h0

theorem State.landDrain_kept {q : List Instr} (a0 : State) (a1 : ℕ) (h0 : Kept q a0) : Kept q (@State.landDrain a0 a1) := by
  unfold State.landDrain
  repeat' first | with_reducible (first | assumption | apply State.setSlot_kept | apply State.storeCells_kept) | intro _ | split | simp only [kept_mk_iff]

theorem State.mixed_kept {q : List Instr} (a0 : State) (a1 : List (ℕ × ℕ)) (h0 : Kept q a0) : Kept q (@State.mixed a0 a1).1 ∧ Kept q (@State.mixed a0 a1).2 := by
  unfold State.mixed
  exact kept_fold2 h0 h0 fun r a g k => ⟨State.when_kept _ _ _ g (fun z hz => State.setCells_kept _ _ hz), State.draw_kept _ k⟩
theorem State.settleDrain_kept {q : List Instr} (a0 : State) (a1 a2 : ℕ) (h0 : Kept q a0) : Kept q (@State.settleDrain a0 a1 a2) := by
  unfold State.settleDrain
  dsimp only
  split
  · exact h0
  split
  · exact State.setSlot_kept _ _ _ h0
  · exact State.setSlot_kept _ _ _ (State.mixed_kept _ _ h0).2
theorem State.settleStream_kept {q : List Instr} (a0 : State) (a1 a2 : ℕ) (h0 : Kept q a0) : Kept q (@State.settleStream a0 a1 a2) := by
  unfold State.settleStream
  dsimp only
  split
  · exact h0
  split
  · exact State.setSlot_kept _ _ _ h0
  · exact State.inc_kept _ _ _ (State.setSlot_kept _ _ _ (State.mixed_kept _ _ h0).2)
theorem State.settleLoad_kept {q : List Instr} (a0 : State) (a1 a2 : ℕ) (h0 : Kept q a0) : Kept q (@State.settleLoad a0 a1 a2) := by
  unfold State.settleLoad
  dsimp only
  split
  · exact h0
  split
  · exact State.setSlot_kept _ _ _ h0
  · exact State.setSlot_kept _ _ _ (State.mixed_kept _ _ h0).2
theorem State.settleEngines_kept {q : List Instr} (a0 : State) (h0 : Kept q a0) : Kept q (@State.settleEngines a0) := by
  unfold State.settleEngines
  repeat' first | with_reducible assumption | intro _ | extract_lets | with_reducible (first | apply kept_ite | apply kept_guarded | apply kept_foldl | apply kept_fst | apply kept_elim | apply kepto_some | exact kepto_none | apply kepte_ok | exact kepte_error | apply keptb_ok | apply keptb_error | apply kept_next | exact kept_refused | apply State.each_kept | apply State.landDrain_kept | apply State.settleDrain_kept | apply State.settleStream_kept | apply State.settleLoad_kept) | split | simp only [kept_mk_iff] | dsimp +zetaDelta only | with_reducible (first | apply kept_set | apply kept_reg | apply kept_filter | apply kept_empty | apply kept_regs | apply kept_none)

theorem State.atTime_kept {q : List Instr} (a0 : State) (a1 : ℕ) (h0 : Kept q a0) : Kept q (@State.atTime a0 a1) := by
  unfold State.atTime
  repeat' first | with_reducible assumption | intro _ | extract_lets | with_reducible (first | apply kept_ite | apply kept_guarded | apply kept_foldl | apply kept_fst | apply kept_elim | apply kepto_some | exact kepto_none | apply kepte_ok | exact kepte_error | apply keptb_ok | apply keptb_error | apply kept_next | exact kept_refused | apply State.settleEngines_kept) | split | simp only [kept_mk_iff] | dsimp +zetaDelta only | with_reducible (first | apply kept_set | apply kept_reg | apply kept_filter | apply kept_empty | apply kept_regs | apply kept_none)

theorem State.pushPeer_kept {q : List Instr} (a0 : State) (a1 : ℕ) (a2 : ℕ) (a3 : TxBody) (h0 : Kept q a0) : Kept q (@State.pushPeer a0 a1 a2 a3) := by
  unfold State.pushPeer
  repeat' with_reducible first | assumption | apply State.pushTx_kept

theorem State.sendReport_kept {q : List Instr} (a0 : State) (h0 : Kept q a0) : Kept q (@State.sendReport a0) := by
  unfold State.sendReport
  repeat' first | with_reducible (first | assumption | apply State.atTime_kept | apply State.pushPeer_kept) | intro _ | split | simp only [kept_mk_iff]

theorem State.delayAnswer_kept {q : List Instr} (a0 : State) (a1 : ℕ) (h0 : Kept q a0) : Kept q (@State.delayAnswer a0 a1) := by
  unfold State.delayAnswer
  repeat' first | with_reducible (first | assumption | apply State.wr_kept | apply State.bellEvent_kept) | intro _ | split | simp only [kept_mk_iff]

theorem State.probeDelay_kept {q : List Instr} (a0 : State) (a1 : ℕ) (a2 : RktPkt) (h0 : Kept q a0) : Kept q (@State.probeDelay a0 a1 a2) := by
  unfold State.probeDelay
  repeat' first | with_reducible (first | assumption | apply State.when_kept | apply State.delayAnswer_kept) | intro _ | split | simp only [kept_mk_iff]

theorem State.rktDrop_kept {q : List Instr} (a0 : State) (a1 : Fld) (h0 : Kept q a0) : Kept q (@State.rktDrop a0 a1) := by
  unfold State.rktDrop
  repeat' with_reducible first | assumption | apply State.rktEvent_kept | apply State.incSat_kept

theorem State.useCore_kept {q : List Instr} (a0 : State) (a1 : ℕ) (a2 : ℕ) (h0 : Kept q a0) : Kept q (@State.useCore a0 a1 a2) := by
  unfold State.useCore
  repeat' first | with_reducible assumption | intro _ | extract_lets | with_reducible (first | apply kept_ite | apply kept_guarded | apply kept_foldl | apply kept_fst | apply kept_elim | apply kepto_some | exact kepto_none | apply kepte_ok | exact kepte_error | apply keptb_ok | apply keptb_error | apply kept_next | exact kept_refused | apply State.takeCore_kept) | split | simp only [kept_mk_iff] | dsimp +zetaDelta only | with_reducible (first | apply kept_set | apply kept_reg | apply kept_filter | apply kept_empty | apply kept_regs | apply kept_none)

theorem State.openCore_kept {q : List Instr} (a0 : State) (a1 : ℕ) (h0 : Kept q a0) : Kept q (@State.openCore a0 a1) := by
  unfold State.openCore
  repeat' first | with_reducible assumption | intro _ | extract_lets | with_reducible (first | apply kept_ite | apply kept_guarded | apply kept_foldl | apply kept_fst | apply kept_elim | apply kepto_some | exact kepto_none | apply kepte_ok | exact kepte_error | apply keptb_ok | apply keptb_error | apply kept_next | exact kept_refused | apply State.when_kept | apply State.useCore_kept) | split | simp only [kept_mk_iff] | dsimp +zetaDelta only | with_reducible (first | apply kept_set | apply kept_reg | apply kept_filter | apply kept_empty | apply kept_regs | apply kept_none)

theorem State.receive_kept {q : List Instr} (a0 : State) (a1 : RktPkt) (a2 : Bool) (a3 : State → ℕ → RktPkt → State) (h0 : Kept q a0) (h3 : ∀ z0 z1 z2, Kept q z0 → Kept q (a3 z0 z1 z2)) : Kept q (@State.receive a0 a1 a2 a3) := by
  unfold State.receive
  repeat' first | with_reducible (first | assumption | apply h3 | apply State.rktDrop_kept | apply State.openCore_kept) | intro _ | split | simp only [kept_mk_iff]

theorem State.sendAck_kept {q : List Instr} (a0 : State) (a1 : ℕ) (a2 : ℕ) (h0 : Kept q a0) : Kept q (@State.sendAck a0 a1 a2) := by
  unfold State.sendAck
  repeat' first | with_reducible assumption | intro _ | extract_lets | with_reducible (first | apply kept_ite | apply kept_guarded | apply kept_foldl | apply kept_fst | apply kept_elim | apply kepto_some | exact kepto_none | apply kepte_ok | exact kepte_error | apply keptb_ok | apply keptb_error | apply kept_next | exact kept_refused | apply State.setConn_kept | apply State.sealSend_kept) | split | simp only [kept_mk_iff] | dsimp +zetaDelta only | with_reducible (first | apply kept_set | apply kept_reg | apply kept_filter | apply kept_empty | apply kept_regs | apply kept_none)

theorem State.resyncTaken_kept {q : List Instr} (a0 : State) (a1 : ℕ) (a2 : RktPkt) (h0 : Kept q a0) : Kept q (@State.resyncTaken a0 a1 a2) := by
  unfold State.resyncTaken
  repeat' with_reducible first | assumption | apply State.setConn_kept | apply State.dropHeldOf_kept | apply State.settleInvals_kept | apply State.sendAck_kept | apply State.asyncEvent_kept | apply State.rktEvent_kept | apply State.connEpoch_kept

theorem State.resyncReceive_kept {q : List Instr} (a0 : State) (a1 : RktPkt) (h0 : Kept q a0) : Kept q (@State.resyncReceive a0 a1) := by
  unfold State.resyncReceive
  repeat' first | with_reducible (first | assumption | apply State.receive_kept | apply State.resyncTaken_kept | apply State.sendAck_kept | apply State.setConn_kept) | intro _ | split | simp only [kept_mk_iff]

theorem State.setDState_kept {q : List Instr} (a0 : State) (a1 : DState) (h0 : Kept q a0) : Kept q (@State.setDState a0 a1) := by
  unfold State.setDState
  repeat' first | with_reducible (first | assumption | apply State.releaseFunc_kept) | intro _ | split | simp only [kept_mk_iff]

theorem State.resetFunc_kept {q : List Instr} (a0 : State) (a1 : ℕ) (h0 : Kept q a0) : Kept q (@State.resetFunc a0 a1) := by
  unfold State.resetFunc
  repeat' first | with_reducible (first | assumption | apply State.wr_kept) | intro _ | split | simp only [kept_mk_iff]

theorem State.nak2_kept {q : List Instr} (a0 : State) (a1 : ℕ) (a2 : ℕ) (a3 : ℕ) (h0 : Kept q a0) : Kept q (@State.nak2 a0 a1 a2 a3) := by
  unfold State.nak2
  repeat' with_reducible first | assumption | apply State.connError_kept | apply State.sendAck_kept

theorem State.blkEvent_kept {q : List Instr} (a0 : State) (a1 : Fld) (h0 : Kept q a0) : Kept q (@State.blkEvent a0 a1) := by
  unfold State.blkEvent
  repeat' with_reducible first | assumption | apply State.event_kept

theorem State.blkEnd_kept {q : List Instr} (a0 : State) (a1 : BlkCmd) (a2 : ℕ) (a3 : ℕ) (h0 : Kept q a0) : Kept q (@State.blkEnd a0 a1 a2 a3) := by
  unfold State.blkEnd
  repeat' first | with_reducible (first | assumption | apply State.settleTests_kept | apply State.when_kept | apply State.incSat_kept | apply State.wr_kept | apply State.blkEvent_kept | apply State.bump_kept | apply State.postCqe_kept) | intro _ | split | simp only [kept_mk_iff]

theorem State.blkHostFail_kept {q : List Instr} (a0 : State) (a1 : ℕ) (h0 : Kept q a0) : Kept q (@State.blkHostFail a0 a1) := by
  unfold State.blkHostFail
  repeat' first | with_reducible (first | assumption | apply State.blkEnd_kept) | intro _ | split | simp only [kept_mk_iff]

theorem State.setCiReq_kept {q : List Instr} (a0 : State) (a1 : CipherReq) (h0 : Kept q a0) : Kept q (@State.setCiReq a0 a1) := by
  unfold State.setCiReq
  exact h0

theorem State.random_kept {q : List Instr} (a0 : State) (a1 : ℕ) (h0 : Kept q a0) : Kept q (@State.random a0 a1).1 := by
  unfold State.random
  exact h0

theorem State.localWrite_kept {q : List Instr} (a0 : State) (a1 : Writer) (a2 : ℕ) (a3 : ℕ) (a4 : ℕ) (a5 : List ℕ) (h0 : Kept q a0) : Kept q (@State.localWrite a0 a1 a2 a3 a4 a5) := by
  unfold State.localWrite
  repeat' first | with_reducible (first | assumption | apply State.writeFor_kept | apply State.stageBytes_kept | apply State.hostWrite_kept) | intro _ | split | simp only [kept_mk_iff]

theorem State.ciWrite_kept {q : List Instr} (a0 : State) (a1 : CipherReq) (a2 : ℕ) (a3 : List ℕ) (h0 : Kept q a0) : Kept q (@State.ciWrite a0 a1 a2 a3) := by
  unfold State.ciWrite
  repeat' with_reducible first | assumption | apply State.localWrite_kept

theorem State.ciRecord_kept {q : List Instr} (a0 : State) (a1 : CipherReq) (a2 : ℕ) (a3 : Option (List ℕ)) (a4 : Option (List ℕ)) (h0 : Kept q a0) : Kept q (@State.ciRecord a0 a1 a2 a3 a4) := by
  unfold State.ciRecord
  repeat' first | with_reducible assumption | intro _ | extract_lets | with_reducible (first | apply kept_ite | apply kept_guarded | apply kept_foldl | apply kept_fst | apply kept_elim | apply kepto_some | exact kepto_none | apply kepte_ok | exact kepte_error | apply keptb_ok | apply keptb_error | apply kept_next | exact kept_refused | apply State.random_kept | apply State.ciWrite_kept | apply State.when_kept) | split | simp only [kept_mk_iff] | dsimp +zetaDelta only | with_reducible (first | apply kept_set | apply kept_reg | apply kept_filter | apply kept_empty | apply kept_regs | apply kept_none)

theorem State.ciEndWith_kept {q : List Instr} (a0 : State) (a1 : CipherReq) (a2 : ℕ) (a3 : Option (List ℕ)) (h0 : Kept q a0) : Kept q (@State.ciEndWith a0 a1 a2 a3) := by
  unfold State.ciEndWith
  repeat' first | with_reducible assumption | intro _ | extract_lets | with_reducible (first | apply kept_ite | apply kept_guarded | apply kept_foldl | apply kept_fst | apply kept_elim | apply kepto_some | exact kepto_none | apply kepte_ok | exact kepte_error | apply keptb_ok | apply keptb_error | apply kept_next | exact kept_refused | apply State.setCiReq_kept | apply State.ciRecord_kept) | split | simp only [kept_mk_iff] | dsimp +zetaDelta only | with_reducible (first | apply kept_set | apply kept_reg | apply kept_filter | apply kept_empty | apply kept_regs | apply kept_none)

theorem State.ciDone_kept {q : List Instr} (a0 : State) (a1 : CipherReq) (a2 : ℕ) (h0 : Kept q a0) : Kept q (@State.ciDone a0 a1 a2) := by
  unfold State.ciDone
  repeat' first | with_reducible (first | assumption | apply State.ciEndWith_kept) | intro _ | split | simp only [kept_mk_iff]

theorem State.cipherHostFail_kept {q : List Instr} (a0 : State) (a1 : ℕ) (h0 : Kept q a0) : Kept q (@State.cipherHostFail a0 a1) := by
  unfold State.cipherHostFail
  repeat' first | with_reducible (first | assumption | apply State.ciDone_kept) | intro _ | split | simp only [kept_mk_iff]

theorem State.takeRecv_kept {q : List Instr} (a0 : State) (a1 : ℕ) (a2 : ℕ) (a3 : List ℕ) (a4 : Option Bool) (h0 : Kept q a0) : Kept q (@State.takeRecv a0 a1 a2 a3 a4) := by
  unfold State.takeRecv
  repeat' with_reducible first | assumption | apply State.postRecvFront_kept | apply State.setRecvs_kept | apply State.tookEntry_kept

theorem State.setBlk_kept {q : List Instr} (a0 : State) (a1 : BlkCmd) (h0 : Kept q a0) : Kept q (@State.setBlk a0 a1) := by
  unfold State.setBlk
  exact h0

theorem State.notePieces_kept {q : List Instr} (a0 : State) (a1 : ℕ) (a2 : List (ℕ × ℕ)) (h0 : Kept q a0) : Kept q (@State.notePieces a0 a1 a2) := by
  unfold State.notePieces
  repeat' first | with_reducible assumption | intro _ | extract_lets | with_reducible (first | apply kept_ite | apply kept_guarded | apply kept_foldl | apply kept_fst | apply kept_elim | apply kepto_some | exact kepto_none | apply kepte_ok | exact kepte_error | apply keptb_ok | apply keptb_error | apply kept_next | exact kept_refused | apply State.when_kept | apply State.noteVia_kept) | split | simp only [kept_mk_iff] | dsimp +zetaDelta only | with_reducible (first | apply kept_set | apply kept_reg | apply kept_filter | apply kept_empty | apply kept_regs | apply kept_none)

theorem State.checkBsc_kept {q : List Instr} (a0 : State) (a1 : BlkCmd) (h0 : Kept q a0) : Kept q (@State.checkBsc a0 a1) := by
  unfold State.checkBsc
  repeat' first | with_reducible assumption | intro _ | extract_lets | with_reducible (first | apply kept_ite | apply kept_guarded | apply kept_foldl | apply kept_fst | apply kept_elim | apply kepto_some | exact kepto_none | apply kepte_ok | exact kepte_error | apply keptb_ok | apply keptb_error | apply kept_next | exact kept_refused | apply State.setBlk_kept | apply State.blkEnd_kept | apply State.when_kept | apply State.noteVia_kept | apply State.notePieces_kept) | split | simp only [kept_mk_iff] | dsimp +zetaDelta only | with_reducible (first | apply kept_set | apply kept_reg | apply kept_filter | apply kept_empty | apply kept_regs | apply kept_none)

theorem State.readHostFor_kept {q : List Instr} (a0 : State) (a1 : ℕ) (a2 : ℕ) (a3 : ℕ) (a4 : ℕ) (a5 : ℕ → ReadFor) (h0 : Kept q a0) : Kept q (@State.readHostFor a0 a1 a2 a3 a4 a5) := by
  unfold State.readHostFor
  repeat' first | with_reducible (first | assumption | apply kept_ite | apply kept_foldl | apply kept_elim | apply State.hostRead_kept) | intro _ | extract_lets | split | simp only [kept_mk_iff] | dsimp +zetaDelta only

theorem State.readRanges_kept {q : List Instr} (a0 : State) (a1 : BlkCmd) (a2 : List ℕ) (h0 : Kept q a0) : Kept q (@State.readRanges a0 a1 a2) := by
  unfold State.readRanges
  repeat' first | with_reducible assumption | intro _ | extract_lets | with_reducible (first | apply kept_ite | apply kept_guarded | apply kept_foldl | apply kept_fst | apply kept_elim | apply kepto_some | exact kepto_none | apply kepte_ok | exact kepte_error | apply keptb_ok | apply keptb_error | apply kept_next | exact kept_refused | apply State.checkBsc_kept | apply State.when_kept | apply State.readHostFor_kept | apply State.setBlk_kept) | split | simp only [kept_mk_iff] | dsimp +zetaDelta only | with_reducible (first | apply kept_set | apply kept_reg | apply kept_filter | apply kept_empty | apply kept_regs | apply kept_none)

theorem State.readList_kept {q : List Instr} (a0 : State) (a1 : BlkCmd) (a2 : List ℕ) (h0 : Kept q a0) : Kept q (@State.readList a0 a1 a2) := by
  unfold State.readList
  repeat' first | with_reducible assumption | intro _ | extract_lets | with_reducible (first | apply kept_ite | apply kept_guarded | apply kept_foldl | apply kept_fst | apply kept_elim | apply kepto_some | exact kepto_none | apply kepte_ok | exact kepte_error | apply keptb_ok | apply keptb_error | apply kept_next | exact kept_refused | apply State.checkBsc_kept | apply State.readRanges_kept | apply State.readHostFor_kept | apply State.setBlk_kept) | split | simp only [kept_mk_iff] | dsimp +zetaDelta only | with_reducible (first | apply kept_set | apply kept_reg | apply kept_filter | apply kept_empty | apply kept_regs | apply kept_none)

theorem State.takeBsc_kept {q : List Instr} (a0 : State) (a1 : ℕ) (a2 : ℕ) (a3 : List ℕ) (a4 : List ℕ) (a5 : Option Bool) (h0 : Kept q a0) : Kept q (@State.takeBsc a0 a1 a2 a3 a4 a5) := by
  unfold State.takeBsc
  repeat' first | with_reducible (first | assumption | apply State.tookEntry_kept | apply State.setQueue_kept | apply State.blkEnd_kept | apply State.readList_kept) | intro _ | split | simp only [kept_mk_iff]

theorem State.acceptCipher_kept {q : List Instr} (a0 : State) (a1 : ℕ) (a2 : ℕ) (a3 : ℕ) (a4 : ℕ) (a5 : List ℕ) (a6 : Bool) (a7 : Option ℕ) (h0 : Kept q a0) : Kept q (@State.acceptCipher a0 a1 a2 a3 a4 a5 a6 a7) := by
  unfold State.acceptCipher
  repeat' first | with_reducible (first | assumption | apply State.draw_kept | apply State.ciDone_kept | apply State.when_kept | apply State.ciphEvent_kept) | intro _ | split | simp only [kept_mk_iff]

theorem State.takeCipher_kept {q : List Instr} (a0 : State) (a1 : ℕ) (a2 : ℕ) (a3 : List ℕ) (a4 : Option Bool) (h0 : Kept q a0) : Kept q (@State.takeCipher a0 a1 a2 a3 a4) := by
  unfold State.takeCipher
  repeat' with_reducible first | assumption | apply State.acceptCipher_kept | apply State.tookEntry_kept | apply State.setQueue_kept

theorem State.takeEntry_kept {q : List Instr} (a0 : State) (a1 : ℕ) (a2 : ℕ) (a3 : ℕ) (a4 : List ℕ) (a5 : Option Bool) (h0 : Kept q a0) : Kept q (@State.takeEntry a0 a1 a2 a3 a4 a5) := by
  unfold State.takeEntry
  repeat' first | with_reducible assumption | intro _ | extract_lets | with_reducible (first | apply kept_ite | apply kept_guarded | apply kept_foldl | apply kept_fst | apply kept_elim | apply kepto_some | exact kepto_none | apply kepte_ok | exact kepte_error | apply keptb_ok | apply keptb_error | apply kept_next | exact kept_refused | apply State.takeWqe_kept | apply State.takeRecv_kept | apply State.takeBsc_kept | apply State.takeCipher_kept) | split | simp only [kept_mk_iff] | dsimp +zetaDelta only | with_reducible (first | apply kept_set | apply kept_reg | apply kept_filter | apply kept_empty | apply kept_regs | apply kept_none)

theorem State.restoreEnd_kept {q : List Instr} (a0 : State) (a1 : ℕ) (a2 : ℕ) (a3 : ℕ) (h0 : Kept q a0) : Kept q (@State.restoreEnd a0 a1 a2 a3) := by
  unfold State.restoreEnd
  repeat' first | with_reducible assumption | intro _ | extract_lets | with_reducible (first | apply kept_ite | apply kept_guarded | apply kept_foldl | apply kept_fst | apply kept_elim | apply kepto_some | exact kepto_none | apply kepte_ok | exact kepte_error | apply keptb_ok | apply keptb_error | apply kept_next | exact kept_refused | apply State.ckpEvent_kept | apply State.wr_kept | apply State.when_kept) | split | simp only [kept_mk_iff] | dsimp +zetaDelta only | with_reducible (first | apply kept_set | apply kept_reg | apply kept_filter | apply kept_empty | apply kept_regs | apply kept_none)

theorem State.setCkp_kept {q : List Instr} (a0 : State) (a1 : ℕ) (a2 : Ckp) (h0 : Kept q a0) : Kept q (@State.setCkp a0 a1 a2) := by
  unfold State.setCkp
  exact h0

theorem State.restoreFail_kept {q : List Instr} (a0 : State) (a1 : ℕ) (h0 : Kept q a0) : Kept q (@State.restoreFail a0 a1) := by
  unfold State.restoreFail
  repeat' first | with_reducible assumption | intro _ | extract_lets | with_reducible (first | apply kept_ite | apply kept_guarded | apply kept_foldl | apply kept_fst | apply kept_elim | apply kepto_some | exact kepto_none | apply kepte_ok | exact kepte_error | apply keptb_ok | apply keptb_error | apply kept_next | exact kept_refused | apply State.restoreEnd_kept | apply State.dropReads_kept | apply State.setCkp_kept) | split | simp only [kept_mk_iff] | dsimp +zetaDelta only | with_reducible (first | apply kept_set | apply kept_reg | apply kept_filter | apply kept_empty | apply kept_regs | apply kept_none)

theorem State.readFailed_kept {q : List Instr} (a0 : State) (a1 : ReadFor) (h0 : Kept q a0) : Kept q (@State.readFailed a0 a1) := by
  unfold State.readFailed
  repeat' first | with_reducible (first | assumption | apply State.nak2_kept | apply State.endOwner_kept | apply State.withdrawMsg_kept | apply State.endWqe_kept | apply State.blkHostFail_kept | apply State.cipherHostFail_kept | apply State.takeEntry_kept | apply State.restoreFail_kept) | intro _ | split | simp only [kept_mk_iff]

theorem State.quarantineTag_kept {q : List Instr} (a0 : State) (a1 : ℕ) (a2 : ℕ) (a3 : Bool) (h0 : Kept q a0) : Kept q (@State.quarantineTag a0 a1 a2 a3) := by
  unfold State.quarantineTag
  exact h0

theorem State.freeRead_kept {q : List Instr} (a0 : State) (a1 : ℕ) (h0 : Kept q a0) : Kept q (@State.freeRead a0 a1) := by
  unfold State.freeRead
  exact h0

theorem State.orphanReads_kept {q : List Instr} (a0 : State) (a1 : ℕ → Bool) (a2 : Bool) (h0 : Kept q a0) : Kept q (@State.orphanReads a0 a1 a2) := by
  unfold State.orphanReads
  repeat' first | with_reducible (first | assumption | apply kept_ite | apply kept_foldl | apply kept_elim | apply State.readFailed_kept | apply State.quarantineTag_kept | apply State.freeRead_kept | apply State.each_kept) | intro _ | extract_lets | split | simp only [kept_mk_iff] | dsimp +zetaDelta only

theorem State.quiesceSoon_kept {q : List Instr} (a0 : State) (a1 : List ℕ) (h0 : Kept q a0) : Kept q (@State.quiesceSoon a0 a1) := by
  unfold State.quiesceSoon
  repeat' first | with_reducible (first | assumption | apply State.wr_kept) | intro _ | split | simp only [kept_mk_iff]

theorem State.quiesceNow_kept {q : List Instr} (a0 : State) (h0 : Kept q a0) : Kept q (@State.quiesceNow a0) := by
  unfold State.quiesceNow
  repeat' first | with_reducible (first | assumption | apply State.wr_kept) | intro _ | split | simp only [kept_mk_iff]

theorem State.pfReset_kept {q : List Instr} (a0 : State) (a1 : Bool) (h0 : Kept q a0) : Kept q (@State.pfReset a0 a1) := by
  unfold State.pfReset
  repeat' first | with_reducible (first | assumption | apply State.each_kept | apply State.resetFunc_kept | apply State.orphanReads_kept | apply State.quiesceSoon_kept | apply State.quiesceNow_kept | apply State.pciEvent_kept | apply State.when_kept | apply State.wr_kept) | intro _ | split | simp only [kept_mk_iff]

theorem State.flushRecv_kept {q : List Instr} (a0 : State) (a1 : ℕ) (a2 : ℕ) (h0 : Kept q a0) : Kept q (@State.flushRecv a0 a1 a2) := by
  unfold State.flushRecv
  repeat' first | with_reducible assumption | intro _ | extract_lets | with_reducible (first | apply kept_ite | apply kept_guarded | apply kept_foldl | apply kept_fst | apply kept_elim | apply kepto_some | exact kepto_none | apply kepte_ok | exact kepte_error | apply keptb_ok | apply keptb_error | apply kept_next | exact kept_refused | apply State.postRecvFront_kept | apply State.setRecvs_kept | apply State.dropEntry_kept | apply State.setQueue_kept) | split | simp only [kept_mk_iff] | dsimp +zetaDelta only | with_reducible (first | apply kept_set | apply kept_reg | apply kept_filter | apply kept_empty | apply kept_regs | apply kept_none)

theorem State.blkReset_kept {q : List Instr} (a0 : State) (a1 : ℕ) (a2 : ℕ) (a3 : ℕ) (a4 : Bool) (h0 : Kept q a0) : Kept q (@State.blkReset a0 a1 a2 a3 a4) := by
  unfold State.blkReset
  repeat' first | with_reducible (first | assumption | apply kept_ite | apply kept_foldl | apply kept_elim | apply State.setQueue_kept | apply State.blkEnd_kept) | intro _ | extract_lets | split | simp only [kept_mk_iff] | dsimp +zetaDelta only

theorem State.endReqs_kept {q : List Instr} (a0 : State) (a1 : CipherReq → Bool) (a2 : ℕ) (h0 : Kept q a0) : Kept q (@State.endReqs a0 a1 a2) := by
  unfold State.endReqs
  repeat' first | with_reducible assumption | intro _ | extract_lets | with_reducible (first | apply kept_ite | apply kept_guarded | apply kept_foldl | apply kept_fst | apply kept_elim | apply kepto_some | exact kepto_none | apply kepte_ok | exact kepte_error | apply keptb_ok | apply keptb_error | apply kept_next | exact kept_refused | apply State.ciDone_kept) | split | simp only [kept_mk_iff] | dsimp +zetaDelta only | with_reducible (first | apply kept_set | apply kept_reg | apply kept_filter | apply kept_empty | apply kept_regs | apply kept_none)

theorem State.cipherReset_kept {q : List Instr} (a0 : State) (a1 : ℕ) (a2 : ℕ) (h0 : Kept q a0) : Kept q (@State.cipherReset a0 a1 a2) := by
  unfold State.cipherReset
  repeat' first | with_reducible assumption | intro _ | extract_lets | with_reducible (first | apply kept_ite | apply kept_guarded | apply kept_foldl | apply kept_fst | apply kept_elim | apply kepto_some | exact kepto_none | apply kepte_ok | exact kepte_error | apply keptb_ok | apply keptb_error | apply kept_next | exact kept_refused | apply State.setQueue_kept | apply State.endReqs_kept) | split | simp only [kept_mk_iff] | dsimp +zetaDelta only | with_reducible (first | apply kept_set | apply kept_reg | apply kept_filter | apply kept_empty | apply kept_regs | apply kept_none)

theorem State.resetQueue_kept {q : List Instr} (a0 : State) (a1 : ℕ) (a2 : ℕ) (a3 : ℕ) (a4 : ℕ) (h0 : Kept q a0) : Kept q (@State.resetQueue a0 a1 a2 a3 a4) := by
  unfold State.resetQueue
  repeat' first | with_reducible (first | assumption | apply State.setQueue_kept | apply State.dropEntry_kept | apply State.flushSend_kept | apply State.flushRecv_kept | apply State.blkReset_kept | apply State.cipherReset_kept) | intro _ | split | simp only [kept_mk_iff]

theorem State.failHostRings_kept {q : List Instr} (a0 : State) (a1 : ℕ) (h0 : Kept q a0) : Kept q (@State.failHostRings a0 a1) := by
  unfold State.failHostRings
  repeat' first | with_reducible (first | assumption | apply kept_ite | apply kept_foldl | apply kept_elim | apply State.resetQueue_kept | apply State.postFront_kept | apply State.setWqes_kept | apply State.dropRaws_kept | apply State.postRecvFront_kept | apply State.setRecvs_kept | apply State.endReqs_kept) | intro _ | extract_lets | split | simp only [kept_mk_iff] | dsimp +zetaDelta only

theorem State.vfFlr_kept {q : List Instr} (a0 : State) (a1 : ℕ) (h0 : Kept q a0) : Kept q (@State.vfFlr a0 a1) := by
  unfold State.vfFlr
  repeat' first | with_reducible (first | assumption | apply State.orphanReads_kept | apply State.resetFunc_kept | apply State.failHostRings_kept | apply State.pciEvent_kept | apply State.wr_kept) | intro _ | split | simp only [kept_mk_iff]

theorem State.aerClear_kept {q : List Instr} (a0 : State) (a1 : ℕ) (a2 : ℕ) (a3 : ℕ) (h0 : Kept q a0) : Kept q (@State.aerClear a0 a1 a2 a3) := by
  unfold State.aerClear
  exact h0

theorem State.cfgWrite_kept {q : List Instr} (a0 : State) (a1 : ℕ) (a2 : ℕ) (a3 : ℕ) (h0 : Kept q a0) : Kept q (@State.cfgWrite a0 a1 a2 a3) := by
  unfold State.cfgWrite
  repeat' first | with_reducible (first | assumption | apply State.setBme_kept | apply State.setDState_kept | apply State.sendPending_kept | apply State.pfReset_kept | apply State.vfFlr_kept | apply State.aerClear_kept | apply State.orphanReads_kept | apply State.each_kept | apply State.resetFunc_kept) | intro _ | split | simp only [kept_mk_iff]

theorem State.powerEdge_kept {q : List Instr} (a0 : State) (h0 : Kept q a0) : Kept q (@State.powerEdge a0).1 := by
  unfold State.powerEdge
  exact h0

theorem State.takeCmd_kept {q : List Instr} (a0 : State) (a1 : PartCmd) (h0 : Kept q a0) : Kept q (@State.takeCmd a0 a1) := by
  unfold State.takeCmd
  repeat' first | with_reducible (first | assumption | apply State.wr_kept) | intro _ | split | simp only [kept_mk_iff]

theorem State.partCmd_kept {q : List Instr} (a0 : State) (a1 : ℕ) (a2 : ℕ) (a3 : Bool) (a4 : Bool) (a5 : ℕ) (a6 : ℕ) (a7 : Option Blob) (h0 : Kept q a0) : Kept q (@State.partCmd a0 a1 a2 a3 a4 a5 a6 a7) := by
  unfold State.partCmd
  repeat' first | with_reducible (first | assumption | apply State.endCmd_kept | apply State.wr_kept | apply State.pumpCmds_kept | apply State.partEvent_kept | apply State.takeCmd_kept) | intro _ | split | simp only [kept_mk_iff]

theorem State.idleBells_kept {q : List Instr} (a0 : State) (h0 : Kept q a0) : Kept q (@State.idleBells a0) := by
  unfold State.idleBells
  exact h0

theorem State.engineLate_kept {q : List Instr} (a0 : State) (a1 : ℕ) (a2 : ℕ) (h0 : Kept q a0) : Kept q (@State.engineLate a0 a1 a2).1 := by
  unfold State.engineLate
  repeat' first | with_reducible (first | assumption | apply State.wr_kept | apply State.meErr_kept) | intro _ | split | simp only [kept_mk_iff]

theorem State.engineEdge_kept {q : List Instr} (a0 : State) (a1 : ℕ) (a2 : ℕ) (h0 : Kept q a0) : Kept q (@State.engineEdge a0 a1 a2).1 := by
  unfold State.engineEdge
  repeat' first | with_reducible (first | assumption | apply State.engineLate_kept | apply State.wr_kept) | intro _ | split | simp only [kept_mk_iff]

theorem State.copyLate_kept {q : List Instr} (a0 : State) (a1 : ℕ) (a2 : ℕ) (h0 : Kept q a0) : Kept q (@State.copyLate a0 a1 a2).1 := by
  unfold State.copyLate
  repeat' first | with_reducible (first | assumption | apply State.wr_kept | apply State.cpyErr_kept) | intro _ | split | simp only [kept_mk_iff]

theorem State.ctxEdge_kept {q : List Instr} (a0 : State) (a1 : ℕ) (a2 : ℕ) (h0 : Kept q a0) : Kept q (@State.ctxEdge a0 a1 a2).1 := by
  unfold State.ctxEdge
  repeat' first | with_reducible (first | assumption | apply State.setCtx_kept | apply State.wr_kept) | intro _ | split | simp only [kept_mk_iff]

theorem State.blocksEdge_kept {q : List Instr} (a0 : State) (a1 : ℕ) (h0 : Kept q a0) : Kept q (@State.blocksEdge a0 a1).1 := by
  unfold State.blocksEdge
  repeat' first | with_reducible assumption | intro _ | extract_lets | with_reducible (first | apply kept_ite | apply kept_guarded | apply kept_foldl | apply kept_fst | apply kept_elim | apply kepto_some | exact kepto_none | apply kepte_ok | exact kepte_error | apply keptb_ok | apply keptb_error | apply kept_next | exact kept_refused | apply State.engineEdge_kept | apply State.copyLate_kept | apply State.ctxEdge_kept | apply State.powerEdge_kept) | split | simp only [kept_mk_iff] | dsimp +zetaDelta only | with_reducible (first | apply kept_set | apply kept_reg | apply kept_filter | apply kept_empty | apply kept_regs | apply kept_none)

theorem State.lateEdge_kept {q : List Instr} (a0 : State) (a1 : ℕ) (h0 : Kept q a0) : Kept q (@State.lateEdge a0 a1) := by
  unfold State.lateEdge
  repeat' first | with_reducible (first | assumption | apply State.blocksEdge_kept | apply State.when_kept | apply State.incSat_kept) | intro _ | split | simp only [kept_mk_iff]

theorem State.raisePb_kept {q : List Instr} (a0 : State) (a1 : ℕ) (h0 : Kept q a0) : Kept q (@State.raisePb a0 a1) := by
  unfold State.raisePb
  repeat' first | with_reducible (first | assumption | apply State.each_kept | apply State.setCtx_kept) | intro _ | split | simp only [kept_mk_iff]

theorem State.jumpCmd_kept {q : List Instr} (a0 : State) (a1 : ℕ) (a2 : ℕ) (h0 : Kept q a0) : Kept q (@State.jumpCmd a0 a1 a2) := by
  unfold State.jumpCmd
  repeat' first | with_reducible (first | assumption | apply State.endCmd_kept | apply State.missedTarget_kept | apply State.pumpCmds_kept) | intro _ | split | simp only [kept_mk_iff]

theorem State.schEvent_kept {q : List Instr} (a0 : State) (a1 : Fld) (h0 : Kept q a0) : Kept q (@State.schEvent a0 a1) := by
  unfold State.schEvent
  repeat' with_reducible first | assumption | apply State.event_kept

theorem State.jumpAlmanac_kept {q : List Instr} (a0 : State) (a1 : ℕ) (a2 : ℕ) (a3 : ℕ) (h0 : Kept q a0) : Kept q (@State.jumpAlmanac a0 a1 a2 a3) := by
  unfold State.jumpAlmanac
  repeat' first | with_reducible (first | assumption | apply State.missedTarget_kept | apply State.schEvent_kept | apply State.wr_kept) | intro _ | split | simp only [kept_mk_iff]

theorem State.jumpCkp_kept {q : List Instr} (a0 : State) (a1 : ℕ) (a2 : ℕ) (a3 : ℕ) (h0 : Kept q a0) : Kept q (@State.jumpCkp a0 a1 a2 a3) := by
  unfold State.jumpCkp
  repeat' first | with_reducible (first | assumption | apply State.missedTarget_kept | apply State.setCkp_kept) | intro _ | split | simp only [kept_mk_iff]

theorem State.jumpInject_kept {q : List Instr} (a0 : State) (a1 : ℕ) (a2 : ℕ) (h0 : Kept q a0) : Kept q (@State.jumpInject a0 a1 a2) := by
  unfold State.jumpInject
  repeat' first | with_reducible (first | assumption | apply State.missedTarget_kept | apply State.wr_kept) | intro _ | split | simp only [kept_mk_iff]

theorem State.jumpLate_kept {q : List Instr} (a0 : State) (a1 : ℕ) (a2 : ℕ) (h0 : Kept q a0) : Kept q (@State.jumpLate a0 a1 a2) := by
  unfold State.jumpLate
  repeat' first | with_reducible (first | assumption | apply State.missedTarget_kept | apply State.wr_kept) | intro _ | split | simp only [kept_mk_iff]

theorem State.jumpFirmware_kept {q : List Instr} (a0 : State) (a1 : ℕ) (a2 : ℕ) (h0 : Kept q a0) : Kept q (@State.jumpFirmware a0 a1 a2) := by
  unfold State.jumpFirmware
  repeat' first | with_reducible (first | assumption | apply State.missedTarget_kept | apply State.event_kept | apply State.wr_kept) | intro _ | split | simp only [kept_mk_iff]

theorem State.jumpSwitch_kept {q : List Instr} (a0 : State) (a1 : ℕ) (a2 : ℕ) (h0 : Kept q a0) : Kept q (@State.jumpSwitch a0 a1 a2) := by
  unfold State.jumpSwitch
  repeat' first | with_reducible (first | assumption | apply State.missedTarget_kept | apply State.wr_kept) | intro _ | split | simp only [kept_mk_iff]

theorem State.jumpWait_kept {q : List Instr} (a0 : State) (a1 : ℕ) (a2 : ℕ) (a3 : ℕ) (h0 : Kept q a0) : Kept q (@State.jumpWait a0 a1 a2 a3) := by
  unfold State.jumpWait
  repeat' first | with_reducible (first | assumption | apply State.when_kept | apply State.missedTarget_kept) | intro _ | split | simp only [kept_mk_iff]

theorem State.jumpArmed_kept {q : List Instr} (a0 : State) (a1 : ℕ) (a2 : ℕ) (h0 : Kept q a0) : Kept q (@State.jumpArmed a0 a1 a2) := by
  unfold State.jumpArmed
  repeat' first | with_reducible assumption | intro _ | extract_lets | with_reducible (first | apply kept_ite | apply kept_guarded | apply kept_foldl | apply kept_fst | apply kept_elim | apply kepto_some | exact kepto_none | apply kepte_ok | exact kepte_error | apply keptb_ok | apply keptb_error | apply kept_next | exact kept_refused | apply State.each_kept | apply State.jumpCmd_kept | apply State.jumpAlmanac_kept | apply State.jumpCkp_kept | apply State.jumpInject_kept | apply State.jumpLate_kept | apply State.jumpFirmware_kept | apply State.jumpSwitch_kept | apply State.jumpWait_kept) | split | simp only [kept_mk_iff] | dsimp +zetaDelta only | with_reducible (first | apply kept_set | apply kept_reg | apply kept_filter | apply kept_empty | apply kept_regs | apply kept_none)

theorem State.jumpWork_kept {q : List Instr} (a0 : State) (a1 : ℕ) (a2 : ℕ) (h0 : Kept q a0) : Kept q (@State.jumpWork a0 a1 a2) := by
  unfold State.jumpWork
  repeat' first | with_reducible assumption | intro _ | extract_lets | with_reducible (first | apply kept_ite | apply kept_guarded | apply kept_foldl | apply kept_fst | apply kept_elim | apply kepto_some | exact kepto_none | apply kepte_ok | exact kepte_error | apply keptb_ok | apply keptb_error | apply kept_next | exact kept_refused | apply State.each_kept | apply State.setSlot_kept | apply State.missedTarget_kept | apply State.meErr_kept | apply State.setCopy_kept | apply State.cpyErr_kept) | split | simp only [kept_mk_iff] | dsimp +zetaDelta only | with_reducible (first | apply kept_set | apply kept_reg | apply kept_filter | apply kept_empty | apply kept_regs | apply kept_none)

theorem State.jump_kept {q : List Instr} (a0 : State) (a1 : ℕ) (a2 : ℕ) (a3 : Bool) (h0 : Kept q a0) : Kept q (@State.jump a0 a1 a2 a3) := by
  unfold State.jump
  repeat' first | with_reducible (first | assumption | apply State.raisePb_kept | apply State.jumpArmed_kept | apply State.jumpWork_kept) | intro _ | split | simp only [kept_mk_iff]

theorem State.thermEdge_kept {q : List Instr} (a0 : State) (h0 : Kept q a0) : Kept q (@State.thermEdge a0) := by
  unfold State.thermEdge
  exact h0

theorem State.capEdge_kept {q : List Instr} (a0 : State) (h0 : Kept q a0) : Kept q (@State.capEdge a0) := by
  unfold State.capEdge
  repeat' first | with_reducible (first | assumption | apply State.wr_kept | apply State.when_kept | apply State.pwrEvent_kept) | intro _ | split | simp only [kept_mk_iff]

theorem State.setBell_kept {q : List Instr} (a0 : State) (a1 : ℕ) (a2 : ℕ) (h0 : Kept q a0) : Kept q (@State.setBell a0 a1 a2) := by
  unfold State.setBell
  repeat' first | with_reducible (first | assumption | apply State.wr_kept | apply State.when_kept | apply State.bellEvent_kept) | intro _ | split | simp only [kept_mk_iff]

theorem State.compute_kept {q : List Instr} (a0 : State) (a1 : BellReport) (h0 : Kept q a0) : Kept q (@State.compute a0 a1) := by
  unfold State.compute
  exact h0

theorem State.countMissing_kept {q : List Instr} (a0 : State) (a1 : BellReport) (h0 : Kept q a0) : Kept q (@State.countMissing a0 a1) := by
  unfold State.countMissing
  exact h0

theorem State.masterCompute_kept {q : List Instr} (a0 : State) (a1 : ℕ) (h0 : Kept q a0) : Kept q (@State.masterCompute a0 a1) := by
  unfold State.masterCompute
  repeat' first | with_reducible (first | assumption | apply State.compute_kept | apply State.countMissing_kept | apply State.when_kept | apply State.bellEvent_kept) | intro _ | split | simp only [kept_mk_iff]

theorem State.sendFrame_kept {q : List Instr} (a0 : State) (a1 : BellFrame) (a2 : ℕ) (h0 : Kept q a0) : Kept q (@State.sendFrame a0 a1 a2) := by
  unfold State.sendFrame
  repeat' first | with_reducible (first | assumption | apply kept_ite | apply kept_foldl | apply kept_elim | apply State.pushPeer_kept) | intro _ | extract_lets | split | simp only [kept_mk_iff] | dsimp +zetaDelta only

theorem State.masterFrame_kept {q : List Instr} (a0 : State) (h0 : Kept q a0) : Kept q (@State.masterFrame a0) := by
  unfold State.masterFrame
  repeat' first | with_reducible (first | assumption | apply State.wr_kept | apply State.sendFrame_kept) | intro _ | split | simp only [kept_mk_iff]

theorem State.lateDone_kept {q : List Instr} (a0 : State) (h0 : Kept q a0) : Kept q (@State.lateDone a0) := by
  unfold State.lateDone
  repeat' first | with_reducible (first | assumption | apply State.wr_kept) | intro _ | split | simp only [kept_mk_iff]

theorem State.endInject_kept {q : List Instr} (a0 : State) (h0 : Kept q a0) : Kept q (@State.endInject a0) := by
  unfold State.endInject
  exact h0

theorem State.laneLost_kept {q : List Instr} (a0 : State) (a1 : ℕ) (h0 : Kept q a0) : Kept q (@State.laneLost a0 a1) := by
  unfold State.laneLost
  repeat' with_reducible first | assumption | apply State.fabEvent_kept | apply State.wr_kept

theorem State.portAsync_kept {q : List Instr} (a0 : State) (a1 : ℕ) (a2 : ℕ) (a3 : ℕ) (h0 : Kept q a0) : Kept q (@State.portAsync a0 a1 a2 a3) := by
  unfold State.portAsync
  repeat' first | with_reducible (first | assumption | apply kept_ite | apply kept_foldl | apply kept_elim | apply State.asyncEvent_kept) | intro _ | extract_lets | split | simp only [kept_mk_iff] | dsimp +zetaDelta only

theorem State.portDown_kept {q : List Instr} (a0 : State) (a1 : ℕ) (h0 : Kept q a0) : Kept q (@State.portDown a0 a1) := by
  unfold State.portDown
  repeat' first | with_reducible assumption | intro _ | extract_lets | with_reducible (first | apply kept_ite | apply kept_guarded | apply kept_foldl | apply kept_fst | apply kept_elim | apply kepto_some | exact kepto_none | apply kepte_ok | exact kepte_error | apply keptb_ok | apply keptb_error | apply kept_next | exact kept_refused | apply State.wr_kept | apply State.portAsync_kept | apply State.portPathsDown_kept | apply State.fabEvent_kept) | split | simp only [kept_mk_iff] | dsimp +zetaDelta only | with_reducible (first | apply kept_set | apply kept_reg | apply kept_filter | apply kept_empty | apply kept_regs | apply kept_none)

theorem State.startReform_kept {q : List Instr} (a0 : State) (a1 : ℕ) (h0 : Kept q a0) : Kept q (@State.startReform a0 a1) := by
  unfold State.startReform
  repeat' first | with_reducible assumption | intro _ | extract_lets | with_reducible (first | apply kept_ite | apply kept_guarded | apply kept_foldl | apply kept_fst | apply kept_elim | apply kepto_some | exact kepto_none | apply kepte_ok | exact kepte_error | apply keptb_ok | apply keptb_error | apply kept_next | exact kept_refused | apply State.portPathsDown_kept | apply State.wr_kept) | split | simp only [kept_mk_iff] | dsimp +zetaDelta only | with_reducible (first | apply kept_set | apply kept_reg | apply kept_filter | apply kept_empty | apply kept_regs | apply kept_none)

theorem State.laneFail_kept {q : List Instr} (a0 : State) (a1 : ℕ) (h0 : Kept q a0) : Kept q (@State.laneFail a0 a1) := by
  unfold State.laneFail
  repeat' first | with_reducible (first | assumption | apply State.incSat_kept | apply State.laneLost_kept | apply State.portDown_kept | apply State.startReform_kept) | intro _ | split | simp only [kept_mk_iff]

theorem State.hitAtEdge_kept {q : List Instr} (a0 : State) (a1 : ℕ × ℕ) (h0 : Kept q a0) : Kept q (@State.hitAtEdge a0 a1) := by
  unfold State.hitAtEdge
  repeat' first | with_reducible assumption | intro _ | extract_lets | with_reducible (first | apply kept_ite | apply kept_guarded | apply kept_foldl | apply kept_fst | apply kept_elim | apply kepto_some | exact kepto_none | apply kepte_ok | exact kepte_error | apply keptb_ok | apply keptb_error | apply kept_next | exact kept_refused | apply State.setCtx_kept | apply State.wr_kept | apply State.faultBy_kept | apply State.laneFail_kept) | split | simp only [kept_mk_iff] | dsimp +zetaDelta only | with_reducible (first | apply kept_set | apply kept_reg | apply kept_filter | apply kept_empty | apply kept_regs | apply kept_none)

theorem State.beginInject_kept {q : List Instr} (a0 : State) (h0 : Kept q a0) : Kept q (@State.beginInject a0) := by
  unfold State.beginInject
  repeat' first | with_reducible (first | assumption | apply State.tstLog_kept | apply State.wr_kept) | intro _ | split | simp only [kept_mk_iff]

theorem State.injectEdge_kept {q : List Instr} (a0 : State) (h0 : Kept q a0) : Kept q (@State.injectEdge a0) := by
  unfold State.injectEdge
  repeat' first | with_reducible assumption | intro _ | extract_lets | with_reducible (first | apply kept_ite | apply kept_guarded | apply kept_foldl | apply kept_fst | apply kept_elim | apply kepto_some | exact kepto_none | apply kepte_ok | exact kepte_error | apply keptb_ok | apply keptb_error | apply kept_next | exact kept_refused | apply State.endInject_kept | apply State.hitAtEdge_kept | apply State.beginInject_kept) | split | simp only [kept_mk_iff] | dsimp +zetaDelta only | with_reducible (first | apply kept_set | apply kept_reg | apply kept_filter | apply kept_empty | apply kept_regs | apply kept_none)

theorem State.ilkDisarm_kept {q : List Instr} (a0 : State) (a1 : ℕ) (h0 : Kept q a0) : Kept q (@State.ilkDisarm a0 a1) := by
  unfold State.ilkDisarm
  repeat' first | with_reducible (first | assumption | apply State.wr_kept) | intro _ | split | simp only [kept_mk_iff]

theorem State.enterState_kept {q : List Instr} (a0 : State) (a1 : ℕ) (a2 : PartState) (h0 : Kept q a0) : Kept q (@State.enterState a0 a1 a2) := by
  unfold State.enterState
  repeat' first | with_reducible (first | assumption | apply State.wr_kept | apply State.setPart_kept | apply State.each_kept | apply State.sendMsix_kept) | intro _ | split | simp only [kept_mk_iff]

theorem State.stopCtx_kept {q : List Instr} (a0 : State) (a1 : ℕ) (h0 : Kept q a0) : Kept q (@State.stopCtx a0 a1) := by
  unfold State.stopCtx
  repeat' first | with_reducible assumption | intro _ | extract_lets | with_reducible (first | apply kept_ite | apply kept_guarded | apply kept_foldl | apply kept_fst | apply kept_elim | apply kepto_some | exact kepto_none | apply kepte_ok | exact kepte_error | apply keptb_ok | apply keptb_error | apply kept_next | exact kept_refused | apply State.setCtx_kept) | split | simp only [kept_mk_iff] | dsimp +zetaDelta only | with_reducible (first | apply kept_set | apply kept_reg | apply kept_filter | apply kept_empty | apply kept_regs | apply kept_none)

theorem State.onSlot_kept {q : List Instr} (a0 : State) (a1 : ℕ) (a2 : ℕ → State) (h0 : Kept q a0) (h2 : ∀ z0, Kept q (a2 z0)) : Kept q (@State.onSlot a0 a1 a2) := by
  unfold State.onSlot
  repeat' first | with_reducible (first | assumption | apply kept_ite | apply kept_foldl | apply kept_elim | apply h2) | intro _ | extract_lets | split | simp only [kept_mk_iff] | dsimp +zetaDelta only

theorem State.setCredit_kept {q : List Instr} (a0 : State) (a1 : ℕ) (a2 : ℕ) (a3 : ℤ) (h0 : Kept q a0) : Kept q (@State.setCredit a0 a1 a2 a3) := by
  unfold State.setCredit
  exact h0

theorem State.cutStream_kept {q : List Instr} (a0 : State) (a1 a2 : ℕ) (a3 : Mop) (h0 : Kept q a0) : Kept q (@State.cutStream a0 a1 a2 a3).1 := by
  unfold State.cutStream
  dsimp only
  split
  · exact h0
  · exact State.setCredit_kept _ _ _ _ (State.inc_kept _ _ _ (State.inc_kept _ _ _ (State.setSlot_kept _ _ _ (State.mixed_kept _ _ h0).2)))

theorem State.writeStatus_kept {q : List Instr} (a0 : State) (a1 : ℕ) (a2 : Mop) (a3 : ℕ) (h0 : Kept q a0) : Kept q (@State.writeStatus a0 a1 a2 a3) := by
  unfold State.writeStatus
  repeat' first | with_reducible (first | assumption | apply State.when_kept | apply State.place_kept) | intro _ | split | simp only [kept_mk_iff]

theorem State.abortMop_kept {q : List Instr} (a0 : State) (a1 : ℕ) (a2 : ℕ) (a3 : Mop) (h0 : Kept q a0) : Kept q (@State.abortMop a0 a1 a2 a3) := by
  unfold State.abortMop
  repeat' first | with_reducible (first | assumption | apply State.cutDrain_kept | apply State.cutStream_kept | apply State.when_kept | apply State.writeStatus_kept | apply State.meErr_kept) | intro _ | split | simp only [kept_mk_iff]

theorem State.breakChain_kept {q : List Instr} (a0 : State) (a1 : ℕ) (a2 : ℕ) (h0 : Kept q a0) : Kept q (@State.breakChain a0 a1 a2) := by
  unfold State.breakChain
  repeat' with_reducible first | assumption | apply State.meErr_kept | apply State.setSlot_kept

theorem State.abortMops_kept {q : List Instr} (a0 : State) (a1 : ℕ) (a2 : ℕ) (a3 : ℕ) (h0 : Kept q a0) : Kept q (@State.abortMops a0 a1 a2 a3) := by
  unfold State.abortMops
  repeat' first | with_reducible (first | assumption | apply kept_ite | apply kept_foldl | apply kept_elim | apply State.setSlot_kept | apply State.abortMop_kept | apply State.when_kept | apply State.breakChain_kept) | intro _ | extract_lets | split | simp only [kept_mk_iff] | dsimp +zetaDelta only

theorem State.abortCpds_kept {q : List Instr} (a0 : State) (a1 : ℕ) (a2 : ℕ) (h0 : Kept q a0) : Kept q (@State.abortCpds a0 a1 a2) := by
  unfold State.abortCpds
  repeat' first | with_reducible (first | assumption | apply kept_ite | apply kept_foldl | apply kept_elim | apply State.cutCopy_kept | apply State.cpyInfo_kept | apply State.setCopy_kept | apply State.endWqe_kept | apply State.disown_kept) | intro _ | extract_lets | split | simp only [kept_mk_iff] | dsimp +zetaDelta only

theorem State.withdrawPuts_kept {q : List Instr} (a0 : State) (a1 : ℕ) (h0 : Kept q a0) : Kept q (@State.withdrawPuts a0 a1) := by
  unfold State.withdrawPuts
  repeat' first | with_reducible assumption | intro _ | extract_lets | with_reducible (first | apply kept_ite | apply kept_guarded | apply kept_foldl | apply kept_fst | apply kept_elim | apply kepto_some | exact kepto_none | apply kepte_ok | exact kepte_error | apply keptb_ok | apply keptb_error | apply kept_next | exact kept_refused | apply State.setCopy_kept | apply State.disown_kept) | split | simp only [kept_mk_iff] | dsimp +zetaDelta only | with_reducible (first | apply kept_set | apply kept_reg | apply kept_filter | apply kept_empty | apply kept_regs | apply kept_none)

theorem State.ckpAbort_kept {q : List Instr} (a0 : State) (a1 : ℕ) (h0 : Kept q a0) : Kept q (@State.ckpAbort a0 a1) := by
  unfold State.ckpAbort
  repeat' first | with_reducible (first | assumption | apply kept_ite | apply kept_foldl | apply kept_elim | apply State.setCkp_kept | apply State.withdrawPuts_kept | apply State.ckpEvent_kept | apply State.wr_kept) | intro _ | extract_lets | split | simp only [kept_mk_iff] | dsimp +zetaDelta only

theorem State.cipherStop_kept {q : List Instr} (a0 : State) (a1 : ℕ) (h0 : Kept q a0) : Kept q (@State.cipherStop a0 a1) := by
  unfold State.cipherStop
  exact h0

theorem State.connReset_kept {q : List Instr} (a0 : State) (a1 : ℕ) (h0 : Kept q a0) : Kept q (@State.connReset a0 a1) := by
  unfold State.connReset
  repeat' with_reducible first | assumption | apply State.connState_kept | apply State.setConn_kept | apply State.dropReads_kept | apply State.settleInvals_kept | apply State.flushConn_kept

theorem State.stopWork_kept {q : List Instr} (a0 : State) (a1 : ℕ) (h0 : Kept q a0) : Kept q (@State.stopWork a0 a1) := by
  unfold State.stopWork
  repeat' first | with_reducible assumption | intro _ | extract_lets | with_reducible (first | apply kept_ite | apply kept_guarded | apply kept_foldl | apply kept_fst | apply kept_elim | apply kepto_some | exact kepto_none | apply kepte_ok | exact kepte_error | apply keptb_ok | apply keptb_error | apply kept_next | exact kept_refused | apply State.stopCtx_kept | apply State.each_kept | apply State.onSlot_kept | apply State.abortMops_kept | apply State.abortCpds_kept | apply State.ckpAbort_kept | apply State.blkReset_kept | apply State.cipherStop_kept | apply State.wr_kept | apply State.connReset_kept | apply State.commitBells_kept | apply State.tryResume_kept) | split | simp only [kept_mk_iff] | dsimp +zetaDelta only | with_reducible (first | apply kept_set | apply kept_reg | apply kept_filter | apply kept_empty | apply kept_regs | apply kept_none)

theorem State.enterFatal_kept {q : List Instr} (a0 : State) (a1 : ℕ) (h0 : Kept q a0) : Kept q (@State.enterFatal a0 a1) := by
  unfold State.enterFatal
  repeat' first | with_reducible (first | assumption | apply State.enterState_kept | apply State.stopWork_kept | apply State.endCmd_kept | apply State.pumpCmds_kept | apply State.partEvent_kept) | intro _ | split | simp only [kept_mk_iff]

theorem State.tryFrozen_kept {q : List Instr} (a0 : State) (a1 : ℕ) (h0 : Kept q a0) : Kept q (@State.tryFrozen a0 a1) := by
  unfold State.tryFrozen
  repeat' first | with_reducible (first | assumption | apply State.enterState_kept | apply State.setPart_kept) | intro _ | split | simp only [kept_mk_iff]

theorem State.zero_kept {q : List Instr} (a0 : State) (a1 : List (ℕ × ℕ)) (a2 : ℕ → Bool) (h0 : Kept q a0) : Kept q (@State.zero a0 a1 a2) := by
  unfold State.zero
  repeat' first | with_reducible assumption | intro _ | extract_lets | with_reducible (first | apply kept_ite | apply kept_guarded | apply kept_foldl | apply kept_fst | apply kept_elim | apply kepto_some | exact kepto_none | apply kepte_ok | exact kepte_error | apply keptb_ok | apply keptb_error | apply kept_next | exact kept_refused) | split | simp only [kept_mk_iff] | dsimp +zetaDelta only | with_reducible (first | apply kept_set | apply kept_reg | apply kept_filter | apply kept_empty | apply kept_regs | apply kept_none)

theorem State.settleShrink_kept {q : List Instr} (a0 : State) (a1 : ℕ) (h0 : Kept q a0) : Kept q (@State.settleShrink a0 a1) := by
  unfold State.settleShrink
  repeat' first | with_reducible (first | assumption | apply State.setPart_kept | apply State.zero_kept) | intro _ | split | simp only [kept_mk_iff]

theorem State.sendControl_kept {q : List Instr} (a0 : State) (a1 : ℕ) (a2 : RktPkt) (a3 : ℕ) (h0 : Kept q a0) : Kept q (@State.sendControl a0 a1 a2 a3) := by
  unfold State.sendControl
  repeat' with_reducible first | assumption | apply State.sendRkt_kept

theorem State.sendProbe_kept {q : List Instr} (a0 : State) (a1 : ℕ) (a2 : ℕ) (h0 : Kept q a0) : Kept q (@State.sendProbe a0 a1 a2) := by
  unfold State.sendProbe
  repeat' with_reducible first | assumption | apply State.sendControl_kept | apply State.setPath_kept

theorem State.measureDelay_kept {q : List Instr} (a0 : State) (h0 : Kept q a0) : Kept q (@State.measureDelay a0) := by
  unfold State.measureDelay
  repeat' first | with_reducible (first | assumption | apply State.sendProbe_kept) | intro _ | split | simp only [kept_mk_iff]

theorem State.loseDevice_kept {q : List Instr} (a0 : State) (a1 : ℕ) (h0 : Kept q a0) : Kept q (@State.loseDevice a0 a1) := by
  unfold State.loseDevice
  exact h0

theorem State.moveDevice_kept {q : List Instr} (a0 : State) (a1 : ℕ) (a2 : ℕ) (h0 : Kept q a0) : Kept q (@State.moveDevice a0 a1 a2) := by
  unfold State.moveDevice
  repeat' first | with_reducible (first | assumption | apply State.wr_kept | apply State.memErr_kept) | intro _ | split | simp only [kept_mk_iff]

theorem State.suddenEdge_kept {q : List Instr} (a0 : State) (h0 : Kept q a0) : Kept q (@State.suddenEdge a0) := by
  unfold State.suddenEdge
  repeat' first | with_reducible (first | assumption | apply kept_ite | apply kept_foldl | apply kept_elim | apply State.loseDevice_kept | apply State.moveDevice_kept) | intro _ | extract_lets | split | simp only [kept_mk_iff] | dsimp +zetaDelta only

theorem State.actDoorbell_kept {q : List Instr} (a0 : State) (a1 : ℕ) (a2 : ℕ) (a3 : ℕ) (a4 : ℕ) (h0 : Kept q a0) : Kept q (@State.actDoorbell a0 a1 a2 a3 a4) := by
  unfold State.actDoorbell
  repeat' first | with_reducible (first | assumption | apply State.setQueue_kept) | intro _ | split | simp only [kept_mk_iff]

theorem State.actLatched_kept {q : List Instr} (a0 : State) (a1 : ℕ) (h0 : Kept q a0) : Kept q (@State.actLatched a0 a1) := by
  unfold State.actLatched
  repeat' first | with_reducible (first | assumption | apply kept_ite | apply kept_foldl | apply kept_elim | apply State.actDoorbell_kept | apply State.setQueue_kept) | intro _ | extract_lets | split | simp only [kept_mk_iff] | dsimp +zetaDelta only

theorem State.resumeNow_kept {q : List Instr} (a0 : State) (h0 : Kept q a0) : Kept q (@State.resumeNow a0) := by
  unfold State.resumeNow
  repeat' first | with_reducible (first | assumption | apply kept_ite | apply kept_foldl | apply kept_elim | apply State.wr_kept | apply State.actLatched_kept) | intro _ | extract_lets | split | simp only [kept_mk_iff] | dsimp +zetaDelta only

theorem State.deferFirmware_kept {q : List Instr} (a0 : State) (h0 : Kept q a0) : Kept q (@State.deferFirmware a0) := by
  unfold State.deferFirmware
  repeat' first | with_reducible assumption | intro _ | extract_lets | with_reducible (first | apply kept_ite | apply kept_guarded | apply kept_foldl | apply kept_fst | apply kept_elim | apply kepto_some | exact kepto_none | apply kepte_ok | exact kepte_error | apply keptb_ok | apply keptb_error | apply kept_next | exact kept_refused | apply State.mgtEvent_kept | apply State.wr_kept) | split | simp only [kept_mk_iff] | dsimp +zetaDelta only | with_reducible (first | apply kept_set | apply kept_reg | apply kept_filter | apply kept_empty | apply kept_regs | apply kept_none)

theorem State.edgeWork_kept {q : List Instr} (a0 : State) (h0 : Kept q a0) : Kept q (@State.edgeWork a0) := by
  unfold State.edgeWork
  repeat' first | with_reducible (first | assumption | apply kept_ite | apply kept_foldl | apply kept_elim | apply State.each_kept | apply State.setCkp_kept | apply State.ilkDisarm_kept | apply State.enterFatal_kept | apply State.tryFrozen_kept | apply State.settleShrink_kept | apply State.measureDelay_kept | apply State.suddenEdge_kept | apply State.resumeNow_kept | apply State.when_kept | apply State.deferFirmware_kept) | intro _ | extract_lets | split | simp only [kept_mk_iff] | dsimp +zetaDelta only

theorem State.setClock_kept {q : List Instr} (a0 : State) (a1 : ℕ) (h0 : Kept q a0) : Kept q (@State.setClock a0 a1) := by
  unfold State.setClock
  repeat' first | with_reducible assumption | intro _ | extract_lets | with_reducible (first | apply kept_ite | apply kept_guarded | apply kept_foldl | apply kept_fst | apply kept_elim | apply kepto_some | exact kepto_none | apply kepte_ok | exact kepte_error | apply keptb_ok | apply keptb_error | apply kept_next | exact kept_refused) | split | simp only [kept_mk_iff] | dsimp +zetaDelta only | with_reducible (first | apply kept_set | apply kept_reg | apply kept_filter | apply kept_empty | apply kept_regs | apply kept_none)

theorem State.moveClock_kept {q : List Instr} (a0 : State) (a1 : ℕ) (h0 : Kept q a0) : Kept q (@State.moveClock a0 a1) := by
  unfold State.moveClock
  repeat' first | with_reducible assumption | intro _ | extract_lets | with_reducible (first | apply kept_ite | apply kept_guarded | apply kept_foldl | apply kept_fst | apply kept_elim | apply kepto_some | exact kepto_none | apply kepte_ok | exact kepte_error | apply keptb_ok | apply keptb_error | apply kept_next | exact kept_refused | apply State.setClock_kept) | split | simp only [kept_mk_iff] | dsimp +zetaDelta only | with_reducible (first | apply kept_set | apply kept_reg | apply kept_filter | apply kept_empty | apply kept_regs | apply kept_none)

theorem State.seekPace_kept {q : List Instr} (a0 : State) (h0 : Kept q a0) : Kept q (@State.seekPace a0) := by
  unfold State.seekPace
  repeat' first | with_reducible assumption | intro _ | extract_lets | with_reducible (first | apply kept_ite | apply kept_guarded | apply kept_foldl | apply kept_fst | apply kept_elim | apply kepto_some | exact kepto_none | apply kepte_ok | exact kepte_error | apply keptb_ok | apply keptb_error | apply kept_next | exact kept_refused | apply State.moveClock_kept) | split | simp only [kept_mk_iff] | dsimp +zetaDelta only | with_reducible (first | apply kept_set | apply kept_reg | apply kept_filter | apply kept_empty | apply kept_regs | apply kept_none)

theorem State.paceEdge_kept {q : List Instr} (a0 : State) (h0 : Kept q a0) : Kept q (@State.paceEdge a0) := by
  unfold State.paceEdge
  repeat' first | with_reducible (first | assumption | apply State.seekPace_kept | apply State.pwrEvent_kept | apply State.wr_kept) | intro _ | split | simp only [kept_mk_iff]

theorem State.chargeGap_kept {q : List Instr} (a0 : State) (a1 : ℕ) (h0 : Kept q a0) : Kept q (@State.chargeGap a0 a1) := by
  unfold State.chargeGap
  repeat' first | with_reducible (first | assumption | apply State.onSlot_kept | apply State.setCredit_kept | apply State.setSlot_kept) | intro _ | split | simp only [kept_mk_iff]

theorem State.chargeWait_kept {q : List Instr} (a0 : State) (a1 : ℕ) (h0 : Kept q a0) : Kept q (@State.chargeWait a0 a1) := by
  unfold State.chargeWait
  repeat' first | with_reducible (first | assumption | apply State.setCredit_kept | apply State.setSlot_kept) | intro _ | split | simp only [kept_mk_iff]

theorem State.newCredit_kept {q : List Instr} (a0 : State) (a1 : ℕ) (a2 : ℕ) (a3 : ℕ) (h0 : Kept q a0) : Kept q (@State.newCredit a0 a1 a2 a3) := by
  unfold State.newCredit
  exact h0

theorem State.updateCredits_kept {q : List Instr} (a0 : State) (h0 : Kept q a0) : Kept q (@State.updateCredits a0) := by
  unfold State.updateCredits
  repeat' first | with_reducible assumption | intro _ | extract_lets | with_reducible (first | apply kept_ite | apply kept_guarded | apply kept_foldl | apply kept_fst | apply kept_elim | apply kepto_some | exact kepto_none | apply kepte_ok | exact kepte_error | apply keptb_ok | apply keptb_error | apply kept_next | exact kept_refused | apply State.each_kept | apply State.chargeGap_kept | apply State.chargeWait_kept | apply State.newCredit_kept) | split | simp only [kept_mk_iff] | dsimp +zetaDelta only | with_reducible (first | apply kept_set | apply kept_reg | apply kept_filter | apply kept_empty | apply kept_regs | apply kept_none)

theorem State.edge_kept {q : List Instr} (a0 : State) (a1 : ℕ) (a2 : ℕ) (a3 : ℕ) (a4 : ℕ) (a5 : Bool) (h0 : Kept q a0) : Kept q (@State.edge a0 a1 a2 a3 a4 a5) := by
  unfold State.edge
  repeat' first | with_reducible (first | assumption | apply State.idleBells_kept | apply State.lateEdge_kept | apply State.jump_kept | apply State.wr_kept | apply State.emergEdge_kept | apply State.thermEdge_kept | apply State.capEdge_kept | apply State.setBell_kept | apply State.when_kept | apply State.masterCompute_kept | apply State.masterFrame_kept | apply State.emit_kept | apply State.commitBells_kept | apply State.lateDone_kept | apply State.injectEdge_kept | apply State.edgeWork_kept | apply State.paceEdge_kept | apply State.updateCredits_kept) | intro _ | split | simp only [kept_mk_iff]

theorem State.writeEpoch_kept {q : List Instr} (a0 : State) (a1 : ℕ) (h0 : Kept q a0) : Kept q (@State.writeEpoch a0 a1) := by
  unfold State.writeEpoch
  repeat' first | with_reducible (first | assumption | apply kept_ite | apply kept_foldl | apply kept_elim | apply State.wr_kept | apply State.sealSend_kept) | intro _ | extract_lets | split | simp only [kept_mk_iff] | dsimp +zetaDelta only

theorem State.reachChunk_kept {q : List Instr} (a0 : State) (a1 : ℕ) (a2 : ℕ) (a3 : Bool) (h0 : Kept q a0) : Kept q (@State.reachChunk a0 a1 a2 a3) := by
  unfold State.reachChunk
  repeat' first | with_reducible (first | assumption | apply State.incSat_kept | apply State.noteReads_kept) | intro _ | split | simp only [kept_mk_iff]

theorem State.holdCpd_kept {q : List Instr} (a0 : State) (a1 : ℕ) (a2 : Cpd) (a3 : ℕ × ℕ) (h0 : Kept q a0) : Kept q (@State.holdCpd a0 a1 a2 a3) := by
  unfold State.holdCpd
  repeat' with_reducible first | assumption | apply State.holdWrite_kept | apply State.setCopy_kept

theorem State.releaseCpds_kept {q : List Instr} (a0 : State) (a1 : HeldWrite) (h0 : Kept q a0) : Kept q (@State.releaseCpds a0 a1) := by
  unfold State.releaseCpds
  repeat' first | with_reducible assumption | intro _ | extract_lets | with_reducible (first | apply kept_ite | apply kept_guarded | apply kept_foldl | apply kept_fst | apply kept_elim | apply kepto_some | exact kepto_none | apply kepte_ok | exact kepte_error | apply keptb_ok | apply keptb_error | apply kept_next | exact kept_refused | apply State.holdCpd_kept | apply State.setCopy_kept) | split | simp only [kept_mk_iff] | dsimp +zetaDelta only | with_reducible (first | apply kept_set | apply kept_reg | apply kept_filter | apply kept_empty | apply kept_regs | apply kept_none)

theorem State.portHeld_kept {q : List Instr} (a0 : State) (a1 : ℕ) (h0 : Kept q a0) : Kept q (@State.portHeld a0 a1) := by
  unfold State.portHeld
  repeat' with_reducible first | assumption | apply State.wr_kept

theorem State.refuseRead_kept {q : List Instr} (a0 : State) (a1 : ℕ) (a2 : ℕ) (a3 : ℕ) (a4 : ℕ) (h0 : Kept q a0) : Kept q (@State.refuseRead a0 a1 a2 a3 a4) := by
  unfold State.refuseRead
  repeat' with_reducible first | assumption | apply State.nak2_kept | apply State.noteVia_kept

theorem State.handMessage_kept {q : List Instr} (a0 : State) (a1 : ℕ) (a2 : TxMsg) (a3 : Option ℕ) (h0 : Kept q a0) : Kept q (@State.handMessage a0 a1 a2 a3) := by
  unfold State.handMessage
  repeat' first | with_reducible (first | assumption | apply State.setConn_kept | apply State.readHostFor_kept) | intro _ | split | simp only [kept_mk_iff]

theorem State.deliver_kept {q : List Instr} (a0 : State) (a1 : ℕ) (a2 : RxMsg) (h0 : Kept q a0) : Kept q (@State.deliver a0 a1 a2) := by
  unfold State.deliver
  repeat' first | with_reducible (first | assumption | apply State.when_kept | apply State.bump_kept | apply State.postCqe_kept | apply State.endRecv_kept | apply State.refuseRead_kept | apply State.handMessage_kept | apply State.localWrite_kept | apply State.setConn_kept | apply State.endOwner_kept) | intro _ | split | simp only [kept_mk_iff]

theorem State.deliverAll_kept {q : List Instr} (a0 : State) (a1 a2 : ℕ) (h0 : Kept q a0) : Kept q (@State.deliverAll a0 a1 a2) := by
  induction a2 generalizing a0 <;> unfold State.deliverAll
  · exact h0
  · rename_i ih
    dsimp only
    split
    · exact h0
    split
    · exact h0
    split
    · exact State.holdWrite_kept _ _ h0
    · exact ih _ (State.deliver_kept _ _ _ (State.setConn_kept _ _ _ h0))
theorem State.deliverOn_kept {q : List Instr} (a0 : State) (a1 : ℕ) (h0 : Kept q a0) : Kept q (@State.deliverOn a0 a1).1 := by
  unfold State.deliverOn
  repeat' with_reducible first | assumption | apply State.deliverAll_kept

theorem State.deliverNow_kept {q : List Instr} (a0 : State) (a1 : ℕ) (h0 : Kept q a0) : Kept q (@State.deliverNow a0 a1) := by
  unfold State.deliverNow
  repeat' first | with_reducible (first | assumption | apply State.deliverOn_kept | apply State.settleInvals_kept | apply State.when_kept | apply State.sendAck_kept) | intro _ | split | simp only [kept_mk_iff]

theorem State.rawDone_kept {q : List Instr} (a0 : State) (a1 : ℕ) (a2 : ℕ) (a3 : ℕ) (h0 : Kept q a0) : Kept q (@State.rawDone a0 a1 a2 a3) := by
  unfold State.rawDone
  repeat' first | with_reducible assumption | intro _ | extract_lets | with_reducible (first | apply kept_ite | apply kept_guarded | apply kept_foldl | apply kept_fst | apply kept_elim | apply kepto_some | exact kepto_none | apply kepte_ok | exact kepte_error | apply keptb_ok | apply keptb_error | apply kept_next | exact kept_refused | apply State.endRecv_kept) | split | simp only [kept_mk_iff] | dsimp +zetaDelta only | with_reducible (first | apply kept_set | apply kept_reg | apply kept_filter | apply kept_empty | apply kept_regs | apply kept_none)

theorem State.blkReleased_kept {q : List Instr} (a0 : State) (a1 : ℕ) (h0 : Kept q a0) : Kept q (@State.blkReleased a0 a1) := by
  unfold State.blkReleased
  repeat' first | with_reducible assumption | intro _ | extract_lets | with_reducible (first | apply kept_ite | apply kept_guarded | apply kept_foldl | apply kept_fst | apply kept_elim | apply kepto_some | exact kepto_none | apply kepte_ok | exact kepte_error | apply keptb_ok | apply keptb_error | apply kept_next | exact kept_refused | apply State.blkEnd_kept) | split | simp only [kept_mk_iff] | dsimp +zetaDelta only | with_reducible (first | apply kept_set | apply kept_reg | apply kept_filter | apply kept_empty | apply kept_regs | apply kept_none)

theorem State.releaseOne_kept {q : List Instr} (a0 : State) (a1 : HeldWrite) (h0 : Kept q a0) : Kept q (@State.releaseOne a0 a1) := by
  unfold State.releaseOne
  repeat' first | with_reducible (first | assumption | apply State.reachChunk_kept | apply State.wr_kept | apply State.releaseCpds_kept | apply State.write_kept | apply State.portHeld_kept | apply State.deliverNow_kept | apply State.rawDone_kept | apply State.blkReleased_kept) | intro _ | split | simp only [kept_mk_iff]

theorem State.writeLate_kept {q : List Instr} (a0 : State) (a1 : Src) (a2 : ℕ) (h0 : Kept q a0) : Kept q (@State.writeLate a0 a1 a2) := by
  unfold State.writeLate
  repeat' first | with_reducible (first | assumption | apply State.tstClosed_kept | apply State.wr_kept | apply State.unsup_kept | apply State.missedTarget_kept | apply State.tstArm_kept) | intro _ | split | simp only [kept_mk_iff]

theorem State.ilkArm_kept {q : List Instr} (a0 : State) (a1 : ℕ) (a2 : ℕ) (a3 : ℕ) (h0 : Kept q a0) : Kept q (@State.ilkArm a0 a1 a2 a3) := by
  unfold State.ilkArm
  repeat' first | with_reducible assumption | intro _ | extract_lets | with_reducible (first | apply kept_ite | apply kept_guarded | apply kept_foldl | apply kept_fst | apply kept_elim | apply kepto_some | exact kepto_none | apply kepte_ok | exact kepte_error | apply keptb_ok | apply keptb_error | apply kept_next | exact kept_refused | apply State.wr_kept) | split | simp only [kept_mk_iff] | dsimp +zetaDelta only | with_reducible (first | apply kept_set | apply kept_reg | apply kept_filter | apply kept_empty | apply kept_regs | apply kept_none)

theorem State.ungate_kept {q : List Instr} (a0 : State) (a1 : ℕ) (h0 : Kept q a0) : Kept q (@State.ungate a0 a1) := by
  unfold State.ungate
  exact h0

theorem State.queueCpd_kept {q : List Instr} (a0 : State) (a1 : ℕ) (a2 : ℕ) (a3 : Bool) (a4 : CpdSource) (a5 : ℕ) (a6 : List ℕ) (a7 : Option ℕ) (h0 : Kept q a0) : Kept q (@State.queueCpd a0 a1 a2 a3 a4 a5 a6 a7) := by
  unfold State.queueCpd
  repeat' first | with_reducible (first | assumption | apply State.setCopy_kept | apply State.ungate_kept | apply State.missedTarget_kept | apply State.cpyErr_kept) | intro _ | split | simp only [kept_mk_iff]

theorem State.ckpPut_kept {q : List Instr} (a0 : State) (a1 : ℕ) (a2 : ℕ) (a3 : ℕ) (a4 : ℕ) (a5 : ℕ) (a6 : ℕ) (a7 : Option ℕ) (h0 : Kept q a0) : Kept q (@State.ckpPut a0 a1 a2 a3 a4 a5 a6 a7) := by
  unfold State.ckpPut
  repeat' first | with_reducible (first | assumption | apply State.queueCpd_kept | apply State.setCkp_kept) | intro _ | split | simp only [kept_mk_iff]

theorem State.ckpFeed_kept {q : List Instr} (a0 : State) (a1 a2 : ℕ) (h0 : Kept q a0) : Kept q (@State.ckpFeed a0 a1 a2) := by
  induction a2 generalizing a0 <;> unfold State.ckpFeed
  · exact h0
  · rename_i ih
    repeat' first | with_reducible (first | apply ih | apply State.ckpPut_kept | apply State.setCkp_kept) | with_reducible assumption | intro _ | extract_lets | with_reducible (first | apply kept_ite | apply kept_guarded | apply kept_foldl | apply kept_fst | apply kept_elim | apply kepto_some | exact kepto_none | apply kepte_ok | exact kepte_error | apply keptb_ok | apply keptb_error | apply kept_next | exact kept_refused) | split | simp only [kept_mk_iff] | dsimp +zetaDelta only | with_reducible (first | apply kept_set | apply kept_reg | apply kept_filter | apply kept_empty | apply kept_regs | apply kept_none)
theorem State.beginCkp_kept {q : List Instr} (a0 : State) (a1 : ℕ) (a2 : ℕ) (h0 : Kept q a0) : Kept q (@State.beginCkp a0 a1 a2) := by
  unfold State.beginCkp
  repeat' first | with_reducible (first | assumption | apply kept_ite | apply kept_foldl | apply kept_elim | apply State.ilkArm_kept | apply State.wr_kept | apply State.setCkp_kept | apply State.ckpFeed_kept | apply State.ckpPut_kept) | intro _ | extract_lets | split | simp only [kept_mk_iff] | dsimp +zetaDelta only

theorem State.resumeSoon_kept {q : List Instr} (a0 : State) (a1 : ℕ) (h0 : Kept q a0) : Kept q (@State.resumeSoon a0 a1) := by
  unfold State.resumeSoon
  exact h0

theorem State.resumeParts_kept {q : List Instr} (a0 : State) (a1 : ℕ) (h0 : Kept q a0) : Kept q (@State.resumeParts a0 a1) := by
  unfold State.resumeParts
  repeat' first | with_reducible (first | assumption | apply State.resumeSoon_kept | apply State.resumeNow_kept) | intro _ | split | simp only [kept_mk_iff]

theorem State.load_kept {q : List Instr} (a0 : State) (a1 : ℕ) (a2 : Ctx) (a3 : ℕ) (a4 : ℕ) (h0 : Kept q a0) : KeptE q (fun t => t.1) (@State.load a0 a1 a2 a3 a4) := by
  unfold State.load
  repeat' first | with_reducible assumption | intro _ | extract_lets | with_reducible (first | apply kept_ite | apply kept_guarded | apply kept_foldl | apply kept_fst | apply kept_elim | apply kepto_some | exact kepto_none | apply kepte_ok | exact kepte_error | apply keptb_ok | apply keptb_error | apply kept_next | exact kept_refused | apply State.memCost_kept | apply State.regRead_kept | apply State.regCost_kept) | split | simp only [kept_mk_iff] | dsimp +zetaDelta only | with_reducible (first | apply kept_set | apply kept_reg | apply kept_filter | apply kept_empty | apply kept_regs | apply kept_none)

theorem State.load_kept_of {q : List Instr} {a0 : State} {a1 : ℕ} {a2 : Ctx} {a3 : ℕ} {a4 : ℕ} {t u} (e : @State.load a0 a1 a2 a3 a4 = .ok (t, u)) (h0 : Kept q a0) : Kept q t :=
  (State.load_kept _ _ _ _ _ h0).get (t, u) e

theorem State.operand_kept {q : List Instr} (a0 : State) (a1 : ℕ) (a2 : Ctx) (a3 : MForm) (h0 : Kept q a0) : KeptE q (fun t => t.1) (@State.operand a0 a1 a2 a3) := by
  unfold State.operand
  repeat' first | with_reducible assumption | intro _ | extract_lets | with_reducible (first | apply kept_ite | apply kept_guarded | apply kept_foldl | apply kept_fst | apply kept_elim | apply kepto_some | exact kepto_none | apply kepte_ok | exact kepte_error | apply keptb_ok | apply keptb_error | apply kept_next | exact kept_refused | apply State.load_kept | apply State.load_kept_of (by assumption)) | split | simp only [kept_mk_iff] | dsimp +zetaDelta only | with_reducible (first | apply kept_set | apply kept_reg | apply kept_filter | apply kept_empty | apply kept_regs | apply kept_none)

theorem State.operand_kept_of {q : List Instr} {a0 : State} {a1 : ℕ} {a2 : Ctx} {a3 : MForm} {t u} (e : @State.operand a0 a1 a2 a3 = .ok (t, u)) (h0 : Kept q a0) : Kept q t :=
  (State.operand_kept _ _ _ _ h0).get (t, u) e

theorem State.operate_kept {q : List Instr} (a0 : State) (a1 : ℕ) (a2 : MForm) (a3 : Bool) (a4 : ℕ) (a5 : Ctx → BitVec 64 → Ctx) (h0 : Kept q a0) : Kept q (@State.operate a0 a1 a2 a3 a4 a5) := by
  unfold State.operate
  repeat' first | with_reducible assumption | intro _ | extract_lets | with_reducible (first | apply kept_ite | apply kept_guarded | apply kept_foldl | apply kept_fst | apply kept_elim | apply kepto_some | exact kepto_none | apply kepte_ok | exact kepte_error | apply keptb_ok | apply keptb_error | apply kept_next | exact kept_refused | apply State.issue_kept | apply State.operand_kept | apply State.operand_kept_of (by assumption) | apply State.finish_kept) | split | simp only [kept_mk_iff] | dsimp +zetaDelta only | with_reducible (first | apply kept_set | apply kept_reg | apply kept_filter | apply kept_empty | apply kept_regs | apply kept_none)

theorem State.mopRejected_kept {q : List Instr} (a0 : State) (a1 : ℕ) (a2 : Mop) (a3 : ℕ) (h0 : Kept q a0) : Kept q (@State.mopRejected a0 a1 a2 a3) := by
  unfold State.mopRejected
  repeat' first | with_reducible (first | assumption | apply State.meErr_kept | apply State.missedTarget_kept | apply State.wr_kept) | intro _ | split | simp only [kept_mk_iff]

theorem State.cutChain_kept {q : List Instr} (a0 : State) (a1 : ℕ) (a2 : ℕ) (h0 : Kept q a0) : Kept q (@State.cutChain a0 a1 a2) := by
  unfold State.cutChain
  repeat' with_reducible first | assumption | apply State.meErr_kept | apply State.setSlot_kept

theorem State.acceptMop_kept {q : List Instr} (a0 : State) (a1 : ℕ) (a2 : ℕ) (a3 : ℕ) (a4 : List ℕ) (a5 : ℕ) (a6 : Bool) (h0 : Kept q a0) : Kept q (@State.acceptMop a0 a1 a2 a3 a4 a5 a6) := by
  unfold State.acceptMop
  repeat' first | with_reducible (first | assumption | apply State.ungate_kept | apply State.mopRejected_kept | apply State.setSlot_kept | apply State.when_kept | apply State.cutChain_kept) | intro _ | split | simp only [kept_mk_iff]

theorem State.issueMop_kept {q : List Instr} (a0 : State) (a1 : ℕ) (a2 : ℕ) (a3 : ℕ) (a4 : List ℕ) (a5 : ℕ) (a6 : ℕ) (h0 : Kept q a0) : Kept q (@State.issueMop a0 a1 a2 a3 a4 a5 a6) := by
  unfold State.issueMop
  repeat' first | with_reducible (first | assumption | apply State.tryResume_kept | apply State.acceptMop_kept | apply State.setMopLog_kept) | intro _ | split | simp only [kept_mk_iff]

theorem State.endBlkWriters_kept {q : List Instr} (a0 : State) (a1 : ℕ) (h0 : Kept q a0) : Kept q (@State.endBlkWriters a0 a1) := by
  unfold State.endBlkWriters
  repeat' first | with_reducible assumption | intro _ | extract_lets | with_reducible (first | apply kept_ite | apply kept_guarded | apply kept_foldl | apply kept_fst | apply kept_elim | apply kepto_some | exact kepto_none | apply kepte_ok | exact kepte_error | apply keptb_ok | apply keptb_error | apply kept_next | exact kept_refused | apply State.blkEnd_kept) | split | simp only [kept_mk_iff] | dsimp +zetaDelta only | with_reducible (first | apply kept_set | apply kept_reg | apply kept_filter | apply kept_empty | apply kept_regs | apply kept_none)

theorem State.iocStart_kept {q : List Instr} (a0 : State) (a1 : Firmware) (a2 : ℕ) (h0 : Kept q a0) : Kept q (@State.iocStart a0 a1 a2) := by
  unfold State.iocStart
  repeat' with_reducible first | assumption | apply State.setCtx_kept | apply State.putBytes_kept | apply State.wr_kept

theorem State.dropCpdsOf_kept {q : List Instr} (a0 : State) (a1 : ℕ) (a2 : ℕ) (h0 : Kept q a0) : Kept q (@State.dropCpdsOf a0 a1 a2) := by
  unfold State.dropCpdsOf
  repeat' first | with_reducible assumption | intro _ | extract_lets | with_reducible (first | apply kept_ite | apply kept_guarded | apply kept_foldl | apply kept_fst | apply kept_elim | apply kepto_some | exact kepto_none | apply kepte_ok | exact kepte_error | apply keptb_ok | apply keptb_error | apply kept_next | exact kept_refused | apply State.cutCopy_kept | apply State.cpyInfo_kept | apply State.setCopy_kept) | split | simp only [kept_mk_iff] | dsimp +zetaDelta only | with_reducible (first | apply kept_set | apply kept_reg | apply kept_filter | apply kept_empty | apply kept_regs | apply kept_none)

theorem State.dropBsc_kept {q : List Instr} (a0 : State) (a1 : BlkCmd) (h0 : Kept q a0) : Kept q (@State.dropBsc a0 a1) := by
  unfold State.dropBsc
  repeat' first | with_reducible assumption | intro _ | extract_lets | with_reducible (first | apply kept_ite | apply kept_guarded | apply kept_foldl | apply kept_fst | apply kept_elim | apply kepto_some | exact kepto_none | apply kepte_ok | exact kepte_error | apply keptb_ok | apply keptb_error | apply kept_next | exact kept_refused | apply State.blkEnd_kept | apply State.setBlk_kept) | split | simp only [kept_mk_iff] | dsimp +zetaDelta only | with_reducible (first | apply kept_set | apply kept_reg | apply kept_filter | apply kept_empty | apply kept_regs | apply kept_none)

theorem State.dropIocWork_kept {q : List Instr} (a0 : State) (a1 : ℕ) (h0 : Kept q a0) : Kept q (@State.dropIocWork a0 a1) := by
  unfold State.dropIocWork
  repeat' first | with_reducible assumption | intro _ | extract_lets | with_reducible (first | apply kept_ite | apply kept_guarded | apply kept_foldl | apply kept_fst | apply kept_elim | apply kepto_some | exact kepto_none | apply kepte_ok | exact kepte_error | apply keptb_ok | apply keptb_error | apply kept_next | exact kept_refused | apply State.endReqs_kept | apply State.dropCpdsOf_kept | apply State.dropBsc_kept | apply State.draw_kept) | split | simp only [kept_mk_iff] | dsimp +zetaDelta only | with_reducible (first | apply kept_set | apply kept_reg | apply kept_filter | apply kept_empty | apply kept_regs | apply kept_none)

theorem State.restartIoc_kept {q : List Instr} (a0 : State) (a1 : ℕ) (a2 : ℕ) (h0 : Kept q a0) : Kept q (@State.restartIoc a0 a1 a2) := by
  unfold State.restartIoc
  repeat' first | with_reducible (first | assumption | apply State.iocStart_kept | apply State.incSat_kept | apply State.dropIocWork_kept) | intro _ | split | simp only [kept_mk_iff]

theorem State.blkPick_kept {q : List Instr} (a0 : State) (h0 : Kept q a0) : KeptO q (fun t => t.1) (@State.blkPick a0) := by
  unfold State.blkPick
  repeat' first | with_reducible assumption | intro _ | extract_lets | with_reducible (first | apply kept_ite | apply kept_guarded | apply kept_foldl | apply kept_fst | apply kept_elim | apply kepto_some | exact kepto_none | apply kepte_ok | exact kepte_error | apply keptb_ok | apply keptb_error | apply kept_next | exact kept_refused) | split | simp only [kept_mk_iff] | dsimp +zetaDelta only | with_reducible (first | apply kept_set | apply kept_reg | apply kept_filter | apply kept_empty | apply kept_regs | apply kept_none)

theorem State.blkPick_kept_of {q : List Instr} {a0 : State} {t u} (e : @State.blkPick a0 = some (t, u)) (h0 : Kept q a0) : Kept q t :=
  (State.blkPick_kept _ h0).get (t, u) e

theorem State.fetchBsc_kept {q : List Instr} (a0 : State) (a1 : List ℕ) (a2 : List ℕ) (h0 : Kept q a0) : Kept q (@State.fetchBsc a0 a1 a2) := by
  unfold State.fetchBsc
  repeat' first | with_reducible (first | assumption | apply State.blkPick_kept | apply State.blkPick_kept_of (by assumption) | apply State.fetchEntry_kept | apply State.takeBsc_kept) | intro _ | split | simp only [kept_mk_iff]

theorem State.linkLost_kept {q : List Instr} (a0 : State) (h0 : Kept q a0) : Kept q (@State.linkLost a0) := by
  unfold State.linkLost
  repeat' first | with_reducible (first | assumption | apply kept_ite | apply kept_foldl | apply kept_elim | apply State.pfReset_kept | apply State.wr_kept | apply State.incSat_kept | apply State.event_kept | apply State.pciEvent_kept | apply State.asyncEvent_kept) | intro _ | extract_lets | split | simp only [kept_mk_iff] | dsimp +zetaDelta only

theorem State.linkDown_kept {q : List Instr} (a0 : State) (h0 : Kept q a0) : Kept q (@State.linkDown a0) := by
  unfold State.linkDown
  repeat' first | with_reducible (first | assumption | apply State.linkLost_kept) | intro _ | split | simp only [kept_mk_iff]

theorem State.gcmKeep_kept {q : List Instr} (a0 : State) (a1 : CipherReq) (a2 : GcmCtx) (h0 : Kept q a0) : Kept q (@State.gcmKeep a0 a1 a2) := by
  unfold State.gcmKeep
  repeat' first | with_reducible (first | assumption | apply State.ciWrite_kept) | intro _ | split | simp only [kept_mk_iff]

theorem State.gcmSeal_kept {q : List Instr} (a0 : State) (a1 : CipherReq) (a2 : List ℕ) (a3 : ℕ) (h0 : Kept q a0) : Kept q (@State.gcmSeal a0 a1 a2 a3) := by
  unfold State.gcmSeal
  repeat' first | with_reducible (first | assumption | apply State.ciEndWith_kept | apply State.ciWrite_kept | apply State.setCiReq_kept | apply State.ciRecord_kept | apply State.gcmKeep_kept) | intro _ | split | simp only [kept_mk_iff]

theorem State.advisory_kept {q : List Instr} (a0 : State) (a1 : ℕ) (a2 : String) (a3 : List ℕ) (h0 : Kept q a0) : Kept q (@State.advisory a0 a1 a2 a3) := by
  unfold State.advisory
  repeat' with_reducible first | assumption | apply State.aer_kept | apply State.aerAs_kept

theorem State.lateCompletion_kept {q : List Instr} (a0 : State) (a1 : ℕ) (a2 : Bool) (a3 : List ℕ) (h0 : Kept q a0) : Kept q (@State.lateCompletion a0 a1 a2 a3) := by
  unfold State.lateCompletion
  repeat' first | with_reducible (first | assumption | apply State.pciEvent_kept | apply State.incSat_kept | apply State.when_kept | apply State.advisory_kept) | intro _ | split | simp only [kept_mk_iff]

theorem State.storm_kept {q : List Instr} (a0 : State) (a1 : ℕ) (a2 : ℕ) (h0 : Kept q a0) : Kept q (@State.storm a0 a1 a2) := by
  unfold State.storm
  repeat' with_reducible first | assumption | apply State.fabEvent_kept | apply State.setPort_kept

theorem State.heavyFor_kept {q : List Instr} (a0 : State) (a1 : ℕ) (a2 : ℕ) (a3 : BitVec 12) (h0 : Kept q a0) : Kept q (@State.heavyFor a0 a1 a2 a3) := by
  unfold State.heavyFor
  exact h0

theorem State.announceHeavy_kept {q : List Instr} (a0 : State) (a1 : ℕ) (a2 : BitVec 12) (h0 : Kept q a0) : Kept q (@State.announceHeavy a0 a1 a2) := by
  unfold State.announceHeavy
  repeat' first | with_reducible assumption | intro _ | extract_lets | with_reducible (first | apply kept_ite | apply kept_guarded | apply kept_foldl | apply kept_fst | apply kept_elim | apply kepto_some | exact kepto_none | apply kepte_ok | exact kepte_error | apply keptb_ok | apply keptb_error | apply kept_next | exact kept_refused | apply State.issue_kept | apply State.finish_kept | apply State.heavyFor_kept) | split | simp only [kept_mk_iff] | dsimp +zetaDelta only | with_reducible (first | apply kept_set | apply kept_reg | apply kept_filter | apply kept_empty | apply kept_regs | apply kept_none)

theorem State.minimal_kept {q : List Instr} (a0 : State) (a1 : Bool) (a2 : Bool) (h0 : Kept q a0) : Kept q (@State.minimal a0 a1 a2) := by
  unfold State.minimal
  repeat' with_reducible first | assumption | apply State.wr_kept

theorem State.runCipher_kept {q : List Instr} (a0 : State) (a1 : ℕ) (a2 : ℕ) (a3 : CipherReq → ℕ → State) (h0 : Kept q a0) (h3 : ∀ z0 z1, Kept q (a3 z0 z1)) : Kept q (@State.runCipher a0 a1 a2 a3) := by
  unfold State.runCipher
  repeat' first | with_reducible (first | assumption | apply kept_ite | apply kept_foldl | apply kept_elim | apply h3 | apply State.ciDone_kept | apply State.when_kept | apply State.noteVia_kept) | intro _ | extract_lets | split | simp only [kept_mk_iff] | dsimp +zetaDelta only

theorem State.wrapRun_kept {q : List Instr} (a0 : State) (a1 : CipherReq) (h0 : Kept q a0) : Kept q (@State.wrapRun a0 a1) := by
  unfold State.wrapRun
  repeat' first | with_reducible (first | assumption | apply State.ciDone_kept | apply State.ciWrite_kept) | intro _ | split | simp only [kept_mk_iff]

theorem State.onBlk_kept {q : List Instr} (a0 : State) (a1 : ℕ) (a2 : ℕ) (a3 : BlkCmd → State) (h0 : Kept q a0) (h3 : ∀ z0, Kept q (a3 z0)) : Kept q (@State.onBlk a0 a1 a2 a3) := by
  unfold State.onBlk
  repeat' first | with_reducible (first | assumption | apply h3) | intro _ | split | simp only [kept_mk_iff]

theorem State.putSlice_kept {q : List Instr} (a0 : State) (a1 : ℕ) (a2 : ℕ) (a3 : ℕ) (a4 : ℕ) (h0 : Kept q a0) : Kept q (@State.putSlice a0 a1 a2 a3 a4) := by
  unfold State.putSlice
  repeat' with_reducible first | assumption | apply State.wr_kept

theorem State.writeSlice_kept {q : List Instr} (a0 : State) (a1 : ℕ) (a2 : ℕ) (a3 : ℕ) (h0 : Kept q a0) : Kept q (@State.writeSlice a0 a1 a2 a3) := by
  unfold State.writeSlice
  repeat' first | with_reducible (first | assumption | apply State.putSlice_kept | apply State.partEvent_kept) | intro _ | split | simp only [kept_mk_iff]

theorem State.armSwitch_kept {q : List Instr} (a0 : State) (a1 : ℕ) (h0 : Kept q a0) : Kept q (@State.armSwitch a0 a1) := by
  unfold State.armSwitch
  repeat' first | with_reducible (first | assumption | apply State.wr_kept | apply State.missedTarget_kept) | intro _ | split | simp only [kept_mk_iff]

theorem State.wipe_kept {q : List Instr} (a0 : State) (a1 : Bool) (h0 : Kept q a0) : Kept q (@State.wipe a0 a1) :=
  ⟨h0.1, rfl, Tab.above_filter _ _ _ h0.2.2⟩
theorem State.enterDeep_kept {q : List Instr} (a0 : State) (h0 : Kept q a0) : Kept q (@State.enterDeep a0) := by
  have h : Kept q (a0.linkDown.wipe true) := State.wipe_kept _ _ (State.linkDown_kept _ h0)
  unfold State.enterDeep
  extract_lets u t lost _ _ _ t1
  have h1 : Kept q t1 := ⟨h.1, Tab.above_filter _ _ _ h0.2.1, h.2.2⟩
  exact State.wr_kept _ _ _ (State.wr_kept _ _ _ (State.wr_kept _ _ _ h1))
theorem State.enterOff_kept {q : List Instr} (a0 : State) (a1 : ℕ) (a2 : ℕ) (h0 : Kept q a0) : Kept q (@State.enterOff a0 a1 a2) := by
  unfold State.enterOff
  repeat' first | with_reducible (first | assumption | apply State.wipe_kept | apply State.wr_kept | apply State.emit_kept) | intro _ | split | simp only [kept_mk_iff]

theorem State.entryDone_kept {q : List Instr} (a0 : State) (h0 : Kept q a0) : Kept q (@State.entryDone a0) := by
  unfold State.entryDone
  repeat' first | with_reducible (first | assumption | apply State.endReq_kept | apply State.wr_kept | apply State.setTransit_kept | apply State.enterDeep_kept | apply State.enterOff_kept) | intro _ | split | simp only [kept_mk_iff]

theorem State.connWrite_kept {q : List Instr} (a0 : State) (a1 : ℕ) (a2 : ℕ) (h0 : Kept q a0) : Kept q (@State.connWrite a0 a1 a2) := by
  unfold State.connWrite
  repeat' first | with_reducible assumption | intro _ | extract_lets | with_reducible (first | apply kept_ite | apply kept_guarded | apply kept_foldl | apply kept_fst | apply kept_elim | apply kepto_some | exact kepto_none | apply kepte_ok | exact kepte_error | apply keptb_ok | apply keptb_error | apply kept_next | exact kept_refused | apply State.wr_kept) | split | simp only [kept_mk_iff] | dsimp +zetaDelta only | with_reducible (first | apply kept_set | apply kept_reg | apply kept_filter | apply kept_empty | apply kept_regs | apply kept_none)

theorem State.connDisable_kept {q : List Instr} (a0 : State) (a1 : ℕ) (a2 : ℕ) (h0 : Kept q a0) : Kept q (@State.connDisable a0 a1 a2) := by
  unfold State.connDisable
  repeat' first | with_reducible (first | assumption | apply State.when_kept | apply State.connWrite_kept | apply State.wr_kept | apply State.connReset_kept) | intro _ | split | simp only [kept_mk_iff]

theorem State.raiseEmerg_kept {q : List Instr} (a0 : State) (h0 : Kept q a0) : Kept q (@State.raiseEmerg a0) := by
  unfold State.raiseEmerg
  repeat' first | with_reducible (first | assumption | apply State.mgtEvent_kept | apply State.pwrEvent_kept | apply State.wr_kept) | intro _ | split | simp only [kept_mk_iff]

theorem State.applyFloor_kept {q : List Instr} (a0 : State) (h0 : Kept q a0) : Kept q (@State.applyFloor a0) := by
  unfold State.applyFloor
  repeat' first | with_reducible (first | assumption | apply State.raiseEmerg_kept | apply State.when_kept | apply State.wr_kept | apply State.seekPace_kept) | intro _ | split | simp only [kept_mk_iff]

theorem State.floorOff_kept {q : List Instr} (a0 : State) (a1 : ℕ) (h0 : Kept q a0) : Kept q (@State.floorOff a0 a1) := by
  unfold State.floorOff
  repeat' first | with_reducible (first | assumption | apply State.when_kept | apply State.emit_kept | apply State.applyFloor_kept | apply State.wr_kept) | intro _ | split | simp only [kept_mk_iff]

theorem State.control_kept {q : List Instr} (a0 : State) (a1 : ℕ) (a2 : List ℕ) (h0 : Kept q a0) : Kept q (@State.control a0 a1 a2) := by
  unfold State.control
  repeat' first | with_reducible (first | assumption | apply State.emit_kept) | intro _ | split | simp only [kept_mk_iff]

theorem State.linkOn_kept {q : List Instr} (a0 : State) (a1 : ℕ) (a2 : List ℕ) (h0 : Kept q a0) : Kept q (@State.linkOn a0 a1 a2) := by
  unfold State.linkOn
  repeat' with_reducible first | assumption | apply State.wr_kept

theorem State.retrained_kept {q : List Instr} (a0 : State) (a1 : ℕ) (a2 : Bool) (h0 : Kept q a0) : Kept q (@State.retrained a0 a1 a2) := by
  unfold State.retrained
  repeat' first | with_reducible (first | assumption | apply State.linkOn_kept | apply State.wr_kept | apply State.fabEvent_kept) | intro _ | split | simp only [kept_mk_iff]

theorem State.toBuffer_kept {q : List Instr} (a0 : State) (a1 : BlkCmd) (a2 : List ℕ) (h0 : Kept q a0) : Kept q (@State.toBuffer a0 a1 a2) := by
  unfold State.toBuffer
  repeat' first | with_reducible assumption | intro _ | extract_lets | with_reducible (first | apply kept_ite | apply kept_guarded | apply kept_foldl | apply kept_fst | apply kept_elim | apply kepto_some | exact kepto_none | apply kepte_ok | exact kepte_error | apply keptb_ok | apply keptb_error | apply kept_next | exact kept_refused | apply State.localWrite_kept) | split | simp only [kept_mk_iff] | dsimp +zetaDelta only | with_reducible (first | apply kept_set | apply kept_reg | apply kept_filter | apply kept_empty | apply kept_regs | apply kept_none)

theorem State.freezeCtx_kept {q : List Instr} (a0 : State) (a1 : ℕ) (a2 : ℕ) (h0 : Kept q a0) : Kept q (@State.freezeCtx a0 a1 a2) := by
  unfold State.freezeCtx
  exact h0

theorem State.takeSnap_kept {q : List Instr} (a0 : State) (a1 : ℕ) (h0 : Kept q a0) : Kept q (@State.takeSnap a0 a1) := by
  unfold State.takeSnap
  repeat' first | with_reducible (first | assumption) | intro _ | split | simp only [kept_mk_iff]

theorem State.resumeAs_kept {q : List Instr} (a0 : State) (a1 : ℕ) (a2 : Ctx) (a3 : ℕ) (a4 : ℕ) (a5 : ℕ) (h0 : Kept q a0) : Kept q (@State.resumeAs a0 a1 a2 a3 a4 a5) := by
  unfold State.resumeAs
  exact h0

theorem State.releaseFor_kept {q : List Instr} (a0 : State) (a1 : ℕ) (a2 : Ctx) (a3 : ℕ) (a4 : ℕ) (h0 : Kept q a0) : Kept q (@State.releaseFor a0 a1 a2 a3 a4) := by
  unfold State.releaseFor
  repeat' first | with_reducible (first | assumption | apply State.owedLess_kept | apply State.freezeCtx_kept | apply State.takeSnap_kept | apply State.resumeAs_kept) | intro _ | split | simp only [kept_mk_iff]

theorem State.releaseTarget_kept {q : List Instr} (a0 : State) (a1 : ℕ) (h0 : Kept q a0) : Kept q (@State.releaseTarget a0 a1) := by
  unfold State.releaseTarget
  repeat' first | with_reducible (first | assumption | apply State.releaseFor_kept | apply State.when_kept | apply State.missedTarget_kept) | intro _ | split | simp only [kept_mk_iff]

theorem State.reply_kept {q : List Instr} (a0 : State) (a1 : ℕ) (a2 : ℕ) (a3 : ℕ) (a4 : List ℕ) (h0 : Kept q a0) : Kept q (@State.reply a0 a1 a2 a3 a4) := by
  unfold State.reply
  exact h0

theorem State.dportStore_kept {q : List Instr} (a0 : State) (a1 : ℕ) (a2 : List ℕ) (h0 : Kept q a0) : Kept q (@State.dportStore a0 a1 a2) := by
  unfold State.dportStore
  repeat' with_reducible first | assumption | apply State.portHeld_kept | apply State.write_kept | apply State.wr_kept

theorem State.dportWrite_kept {q : List Instr} (a0 : State) (a1 : ℕ) (a2 : List ℕ) (h0 : Kept q a0) : Kept q (@State.dportWrite a0 a1 a2) := by
  unfold State.dportWrite
  repeat' first | with_reducible (first | assumption | apply State.wr_kept | apply State.dportStore_kept) | intro _ | split | simp only [kept_mk_iff]

theorem State.sidePort_kept {q : List Instr} (a0 : State) (a1 : ℕ) (a2 : ℕ) (a3 : ℕ) (a4 : Bool) (a5 : List ℕ) (h0 : Kept q a0) : Kept q (@State.sidePort a0 a1 a2 a3 a4 a5) := by
  unfold State.sidePort
  repeat' first | with_reducible (first | assumption | apply State.reply_kept | apply State.wr_kept | apply State.dportWrite_kept | apply State.dportRead_kept) | intro _ | split | simp only [kept_mk_iff]

theorem State.loopSet_kept {q : List Instr} (a0 : State) (a1 : Src) (a2 : ℕ) (a3 : ℕ) (h0 : Kept q a0) : Kept q (@State.loopSet a0 a1 a2 a3) := by
  unfold State.loopSet
  repeat' first | with_reducible (first | assumption | apply State.wr_kept | apply State.unsup_kept) | intro _ | split | simp only [kept_mk_iff]

theorem State.resetMedia_kept {q : List Instr} (a0 : State) (a1 : ℕ) (h0 : Kept q a0) : Kept q (@State.resetMedia a0 a1) := by
  unfold State.resetMedia
  repeat' first | with_reducible (first | assumption | apply kept_ite | apply kept_foldl | apply kept_elim | apply State.wr_kept | apply State.emit_kept | apply State.blkEnd_kept | apply State.blkEvent_kept) | intro _ | extract_lets | split | simp only [kept_mk_iff] | dsimp +zetaDelta only

theorem State.startLoop_kept {q : List Instr} (a0 : State) (a1 : Src) (a2 : ℕ) (a3 : ℕ) (h0 : Kept q a0) : Kept q (@State.startLoop a0 a1 a2 a3) := by
  unfold State.startLoop
  repeat' first | with_reducible (first | assumption | apply State.tstClosed_kept | apply State.endLoop_kept | apply State.loopSet_kept | apply State.wr_kept | apply State.portPathsDown_kept | apply State.linkDown_kept | apply State.resetMedia_kept) | intro _ | split | simp only [kept_mk_iff]

theorem State.pfcSend_kept {q : List Instr} (a0 : State) (a1 : ℕ) (a2 : ℕ) (a3 : ℕ) (h0 : Kept q a0) : Kept q (@State.pfcSend a0 a1 a2 a3) := by
  unfold State.pfcSend
  repeat' first | with_reducible (first | assumption | apply State.emit_kept | apply State.setPort_kept) | intro _ | split | simp only [kept_mk_iff]

theorem State.endConnWriters_kept {q : List Instr} (a0 : State) (a1 : ℕ) (a2 : ℕ) (h0 : Kept q a0) : Kept q (@State.endConnWriters a0 a1 a2) := by
  unfold State.endConnWriters
  repeat' first | with_reducible assumption | intro _ | extract_lets | with_reducible (first | apply kept_ite | apply kept_guarded | apply kept_foldl | apply kept_fst | apply kept_elim | apply kepto_some | exact kepto_none | apply kepte_ok | exact kepte_error | apply keptb_ok | apply keptb_error | apply kept_next | exact kept_refused | apply State.setConn_kept | apply State.endRecv_kept | apply State.endOwner_kept) | split | simp only [kept_mk_iff] | dsimp +zetaDelta only | with_reducible (first | apply kept_set | apply kept_reg | apply kept_filter | apply kept_empty | apply kept_regs | apply kept_none)

theorem State.ageClasses_kept {q : List Instr} (a0 : State) (a1 : ℕ) (h0 : Kept q a0) : Kept q (@State.ageClasses a0 a1) := by
  unfold State.ageClasses
  exact h0

theorem State.bellEdge_kept {q : List Instr} (a0 : State) (h0 : Kept q a0) : Kept q (@State.bellEdge a0) := by
  unfold State.bellEdge
  repeat' first | with_reducible (first | assumption | apply State.edge_kept | apply State.atTime_kept) | intro _ | split | simp only [kept_mk_iff]

theorem State.writeRule_kept {q : List Instr} (a0 : State) (a1 : ℕ) (a2 : ℕ) (a3 : ℕ) (h0 : Kept q a0) : Kept q (@State.writeRule a0 a1 a2 a3) := by
  unfold State.writeRule
  repeat' first | with_reducible (first | assumption | apply State.unsup_kept | apply State.wr_kept) | intro _ | split | simp only [kept_mk_iff]

theorem State.rerunCpd_kept {q : List Instr} (a0 : State) (a1 : ℕ) (a2 : LogCpd) (h0 : Kept q a0) : Kept q (@State.rerunCpd a0 a1 a2) := by
  unfold State.rerunCpd
  repeat' with_reducible first | assumption | apply State.queueCpd_kept

theorem State.releaseLog_kept {q : List Instr} (a0 : State) (a1 a2 : ℕ) (h0 : Kept q a0) : Kept q (@State.releaseLog a0 a1 a2) := by
  induction a2 generalizing a0 <;> unfold State.releaseLog
  · exact h0
  · rename_i ih
    repeat' first | with_reducible (first | apply ih | apply State.rerunCpd_kept | apply State.setCopy_kept) | with_reducible assumption | intro _ | extract_lets | with_reducible (first | apply kept_ite | apply kept_guarded | apply kept_foldl | apply kept_fst | apply kept_elim | apply kepto_some | exact kepto_none | apply kepte_ok | exact kepte_error | apply keptb_ok | apply keptb_error | apply kept_next | exact kept_refused) | split | simp only [kept_mk_iff] | dsimp +zetaDelta only | with_reducible (first | apply kept_set | apply kept_reg | apply kept_filter | apply kept_empty | apply kept_regs | apply kept_none)
theorem State.acceptCpd_kept {q : List Instr} (a0 : State) (a1 : ℕ) (a2 : ℕ) (a3 : Bool) (a4 : Option ℕ) (a5 : CpdSource) (a6 : ℕ) (a7 : ℕ) (a8 : List ℕ) (h0 : Kept q a0) : Kept q (@State.acceptCpd a0 a1 a2 a3 a4 a5 a6 a7 a8) := by
  unfold State.acceptCpd
  repeat' with_reducible first | assumption | apply State.queueCpd_kept | apply State.setCopy_kept

theorem State.issueCpd_kept {q : List Instr} (a0 : State) (a1 : ℕ) (a2 : ℕ) (a3 : Bool) (a4 : Option ℕ) (a5 : ℕ) (a6 : ℕ) (a7 : ℕ) (a8 : List ℕ) (h0 : Kept q a0) : Kept q (@State.issueCpd a0 a1 a2 a3 a4 a5 a6 a7 a8) := by
  unfold State.issueCpd
  repeat' first | with_reducible (first | assumption | apply kept_ite | apply kept_foldl | apply kept_elim | apply State.rerunCpd_kept | apply State.setCopy_kept | apply State.tryResume_kept | apply State.releaseLog_kept | apply State.acceptCpd_kept) | intro _ | extract_lets | split | simp only [kept_mk_iff] | dsimp +zetaDelta only

theorem State.offerCpd_kept {q : List Instr} (a0 : State) (a1 : ℕ) (a2 : Ctx) (a3 : List ℕ) (h0 : Kept q a0) : KeptO q (fun t => t) (@State.offerCpd a0 a1 a2 a3) := by
  unfold State.offerCpd
  repeat' first | with_reducible assumption | intro _ | extract_lets | with_reducible (first | apply kept_ite | apply kept_guarded | apply kept_foldl | apply kept_fst | apply kept_elim | apply kepto_some | exact kepto_none | apply kepte_ok | exact kepte_error | apply keptb_ok | apply keptb_error | apply kept_next | exact kept_refused | apply State.issueCpd_kept) | split | simp only [kept_mk_iff] | dsimp +zetaDelta only | with_reducible (first | apply kept_set | apply kept_reg | apply kept_filter | apply kept_empty | apply kept_regs | apply kept_none)

theorem State.offerCpd_kept_of {q : List Instr} {a0 : State} {a1 : ℕ} {a2 : Ctx} {a3 : List ℕ} {t} (e : @State.offerCpd a0 a1 a2 a3 = some t) (h0 : Kept q a0) : Kept q t :=
  (State.offerCpd_kept _ _ _ _ h0).get t e

theorem State.dropHeldInto_kept {q : List Instr} (a0 : State) (a1 : ℕ) (a2 : ℕ) (a3 : ℕ) (h0 : Kept q a0) : Kept q (@State.dropHeldInto a0 a1 a2 a3) := by
  unfold State.dropHeldInto
  repeat' first | with_reducible assumption | intro _ | extract_lets | with_reducible (first | apply kept_ite | apply kept_guarded | apply kept_foldl | apply kept_fst | apply kept_elim | apply kepto_some | exact kepto_none | apply kepte_ok | exact kepte_error | apply keptb_ok | apply keptb_error | apply kept_next | exact kept_refused) | split | simp only [kept_mk_iff] | dsimp +zetaDelta only | with_reducible (first | apply kept_set | apply kept_reg | apply kept_filter | apply kept_empty | apply kept_regs | apply kept_none)

theorem State.takeCiph_kept {q : List Instr} (a0 : State) (a1 : ℕ) (a2 : List ℕ) (h0 : Kept q a0) : Kept q (@State.takeCiph a0 a1 a2) := by
  unfold State.takeCiph
  repeat' with_reducible first | assumption | apply State.acceptCipher_kept

theorem State.ciq_kept {q : List Instr} (a0 : State) (a1 : ℕ) (a2 : CForm) (a3 : Bool) (h0 : Kept q a0) : Kept q (@State.ciq a0 a1 a2 a3) := by
  unfold State.ciq
  repeat' first | with_reducible assumption | intro _ | extract_lets | with_reducible (first | apply kept_ite | apply kept_guarded | apply kept_foldl | apply kept_fst | apply kept_elim | apply kepto_some | exact kepto_none | apply kepte_ok | exact kepte_error | apply keptb_ok | apply keptb_error | apply kept_next | exact kept_refused | apply State.enqueue_kept | apply State.draw_kept | apply State.takeCiph_kept) | split | simp only [kept_mk_iff] | dsimp +zetaDelta only | with_reducible (first | apply kept_set | apply kept_reg | apply kept_filter | apply kept_empty | apply kept_regs | apply kept_none)

theorem State.beginCipher_kept {q : List Instr} (a0 : State) (a1 : CipherReq) (a2 : ℕ) (h0 : Kept q a0) : Kept q (@State.beginCipher a0 a1 a2) := by
  unfold State.beginCipher
  repeat' first | with_reducible (first | assumption | apply kept_ite | apply kept_foldl | apply kept_elim | apply State.setCiReq_kept | apply State.readHostFor_kept) | intro _ | extract_lets | split | simp only [kept_mk_iff] | dsimp +zetaDelta only

theorem State.startOn_kept {q : List Instr} (a0 : State) (a1 : CipherReq) (h0 : Kept q a0) : Kept q (@State.startOn a0 a1) := by
  unfold State.startOn
  repeat' first | with_reducible (first | assumption | apply State.pickCore_kept | apply State.takeCore_kept | apply State.ciphEvent_kept | apply State.beginCipher_kept) | intro _ | split | simp only [kept_mk_iff]

theorem State.startCipher_kept {q : List Instr} (a0 : State) (h0 : Kept q a0) : Kept q (@State.startCipher a0) := by
  unfold State.startCipher
  repeat' first | with_reducible (first | assumption | apply State.ciDone_kept | apply State.startOn_kept) | intro _ | split | simp only [kept_mk_iff]

theorem State.readIdentity_kept {q : List Instr} (a0 : State) (a1 : ℕ) (a2 : ℕ) (h0 : Kept q a0) : Kept q (@State.readIdentity a0 a1 a2) := by
  unfold State.readIdentity
  repeat' first | with_reducible (first | assumption | apply State.reply_kept) | intro _ | split | simp only [kept_mk_iff]

theorem State.fragStatus_kept {q : List Instr} (a0 : State) (h0 : Kept q a0) : Kept q (@State.fragStatus a0) := by
  unfold State.fragStatus
  repeat' with_reducible first | assumption | apply State.wr_kept

theorem State.wirePkt_kept {q : List Instr} (a0 : State) (a1 : ℕ) (a2 : Option ℕ) (a3 : RktPkt) (a4 : TxDest) (h0 : Kept q a0) : Kept q (@State.wirePkt a0 a1 a2 a3 a4).1 := by
  unfold State.wirePkt
  exact h0

theorem State.sendWire_kept {q : List Instr} (a0 : State) (a1 : ℕ) (a2 : Option ℕ) (a3 : RktPkt) (a4 : TxDest) (h0 : Kept q a0) : Kept q (@State.sendWire a0 a1 a2 a3 a4) := by
  unfold State.sendWire
  repeat' first | with_reducible (first | assumption | apply State.wirePkt_kept | apply State.emit_kept | apply State.when_kept | apply State.setConn_kept) | intro _ | split | simp only [kept_mk_iff]

theorem State.transmit_kept {q : List Instr} (a0 : State) (a1 : ℕ) (a2 : TxFrame) (h0 : Kept q a0) : Kept q (@State.transmit a0 a1 a2) := by
  unfold State.transmit
  repeat' first | with_reducible (first | assumption | apply State.sendWire_kept | apply State.random_kept | apply State.endWqe_kept | apply State.emit_kept | apply State.wirePkt_kept) | intro _ | split | simp only [kept_mk_iff]

theorem State.startFrame_kept {q : List Instr} (a0 : State) (a1 : ℕ) (a2 : ℕ) (a3 : ℕ) (h0 : Kept q a0) : Kept q (@State.startFrame a0 a1 a2 a3) := by
  unfold State.startFrame
  repeat' first | with_reducible (first | assumption | apply State.setPort_kept | apply State.when_kept | apply State.inc_kept | apply State.transmit_kept) | intro _ | split | simp only [kept_mk_iff]

theorem State.sendClass_kept {q : List Instr} (a0 : State) (a1 : ℕ) (a2 : ℕ) (a3 : ℕ × ℕ × Drr) (h0 : Kept q a0) : Kept q (@State.sendClass a0 a1 a2 a3) := by
  unfold State.sendClass
  repeat' with_reducible first | assumption | apply State.startFrame_kept | apply State.setPort_kept

theorem State.selectFrame_kept {q : List Instr} (a0 : State) (a1 : ℕ) (h0 : Kept q a0) : Kept q (@State.selectFrame a0 a1) := by
  unfold State.selectFrame
  repeat' first | with_reducible (first | assumption | apply State.ageClasses_kept | apply State.startFrame_kept | apply State.schEvent_kept | apply State.sendClass_kept | apply State.setPort_kept) | intro _ | split | simp only [kept_mk_iff]

theorem State.pktEvent_kept {q : List Instr} (a0 : State) (a1 : Fld) (h0 : Kept q a0) : Kept q (@State.pktEvent a0 a1) := by
  unfold State.pktEvent
  repeat' with_reducible first | assumption | apply State.event_kept

theorem State.dropTarget_kept {q : List Instr} (a0 : State) (h0 : Kept q a0) : Kept q (@State.dropTarget a0) := by
  unfold State.dropTarget
  repeat' with_reducible first | assumption | apply State.pktEvent_kept | apply State.incSat_kept

theorem State.rawReceive_kept {q : List Instr} (a0 : State) (a1 : ℕ) (a2 : ℕ) (a3 : List ℕ) (h0 : Kept q a0) : Kept q (@State.rawReceive a0 a1 a2 a3) := by
  unfold State.rawReceive
  repeat' first | with_reducible (first | assumption | apply State.incSat_kept | apply State.endRecv_kept | apply State.localWrite_kept | apply State.rawDone_kept) | intro _ | split | simp only [kept_mk_iff]

theorem State.follow_kept {q : List Instr} (a0 : State) (a1 : Decision) (a2 : List ℕ) (h0 : Kept q a0) : Kept q (@State.follow a0 a1 a2) := by
  unfold State.follow
  repeat' first | with_reducible (first | assumption | apply State.incSat_kept | apply State.dropTarget_kept | apply State.rawReceive_kept) | intro _ | split | simp only [kept_mk_iff]

theorem State.useFrag_kept {q : List Instr} (a0 : State) (a1 : List ℕ) (h0 : Kept q a0) : Kept q (@State.useFrag a0 a1) := by
  unfold State.useFrag
  exact h0

theorem State.laterFragment_kept {q : List Instr} (a0 : State) (a1 : Summary) (a2 : List ℕ) (h0 : Kept q a0) : Kept q (@State.laterFragment a0 a1 a2) := by
  unfold State.laterFragment
  repeat' first | with_reducible (first | assumption | apply State.follow_kept | apply State.useFrag_kept | apply State.pktEvent_kept | apply State.incSat_kept | apply State.fragStatus_kept) | intro _ | split | simp only [kept_mk_iff]

theorem State.followDefault_kept {q : List Instr} (a0 : State) (a1 : List ℕ) (h0 : Kept q a0) : Kept q (@State.followDefault a0 a1) := by
  unfold State.followDefault
  repeat' with_reducible first | assumption | apply State.follow_kept

theorem State.expireFrag_kept {q : List Instr} (a0 : State) (a1 : List ℕ) (h0 : Kept q a0) : Kept q (@State.expireFrag a0 a1) := by
  unfold State.expireFrag
  repeat' first | with_reducible assumption | intro _ | extract_lets | with_reducible (first | apply kept_ite | apply kept_guarded | apply kept_foldl | apply kept_fst | apply kept_elim | apply kepto_some | exact kepto_none | apply kepte_ok | exact kepte_error | apply keptb_ok | apply keptb_error | apply kept_next | exact kept_refused | apply State.followDefault_kept | apply State.pktEvent_kept | apply State.incSat_kept) | split | simp only [kept_mk_iff] | dsimp +zetaDelta only | with_reducible (first | apply kept_set | apply kept_reg | apply kept_filter | apply kept_empty | apply kept_regs | apply kept_none)

theorem State.firstFragment_kept {q : List Instr} (a0 : State) (a1 : Summary) (a2 : Decision) (a3 : List ℕ) (h0 : Kept q a0) : Kept q (@State.firstFragment a0 a1 a2 a3) := by
  unfold State.firstFragment
  repeat' first | with_reducible (first | assumption | apply kept_ite | apply kept_foldl | apply kept_elim | apply State.follow_kept | apply State.useFrag_kept | apply State.pktEvent_kept | apply State.incSat_kept | apply State.fragStatus_kept | apply State.expireFrag_kept) | intro _ | extract_lets | split | simp only [kept_mk_iff] | dsimp +zetaDelta only

theorem State.decideFrame_kept {q : List Instr} (a0 : State) (a1 : Summary) (a2 : List ℕ) (h0 : Kept q a0) : Kept q (@State.decideFrame a0 a1 a2) := by
  unfold State.decideFrame
  repeat' first | with_reducible (first | assumption | apply State.laterFragment_kept | apply State.inc_kept | apply State.firstFragment_kept | apply State.follow_kept) | intro _ | split | simp only [kept_mk_iff]

theorem State.pipeline_kept {q : List Instr} (a0 : State) (a1 : ℕ) (a2 : List ℕ) (h0 : Kept q a0) : Kept q (@State.pipeline a0 a1 a2) := by
  unfold State.pipeline
  repeat' first | with_reducible (first | assumption | apply State.pktEvent_kept | apply State.incSat_kept | apply State.decideFrame_kept) | intro _ | split | simp only [kept_mk_iff]

theorem State.returnStep_kept {q : List Instr} (a0 : State) (h0 : Kept q a0) : Kept q (@State.returnStep a0) := by
  unfold State.returnStep
  repeat' first | with_reducible (first | assumption | apply kept_ite | apply kept_foldl | apply kept_elim | apply State.when_kept | apply State.wr_kept | apply State.setClock_kept | apply State.applyFloor_kept | apply State.setTransit_kept | apply State.seekPace_kept | apply State.pipeline_kept) | intro _ | extract_lets | split | simp only [kept_mk_iff] | dsimp +zetaDelta only

theorem State.startFails_kept {q : List Instr} (a0 : State) (a1 : ℕ) (a2 : ℕ) (h0 : Kept q a0) : Kept q (@State.startFails a0 a1 a2) := by
  unfold State.startFails
  repeat' first | with_reducible (first | assumption | apply State.incSat_kept | apply State.wr_kept) | intro _ | split | simp only [kept_mk_iff]

theorem State.startSlots_kept {q : List Instr} (a0 : State) (a1 : List ℕ) (a2 : List ℕ) (a3 : Repair) (h0 : Kept q a0) : Kept q (@State.startSlots a0 a1 a2 a3) := by
  unfold State.startSlots
  repeat' first | with_reducible assumption | intro _ | extract_lets | with_reducible (first | apply kept_ite | apply kept_guarded | apply kept_foldl | apply kept_fst | apply kept_elim | apply kepto_some | exact kepto_none | apply kepte_ok | exact kepte_error | apply keptb_ok | apply keptb_error | apply kept_next | exact kept_refused | apply State.each_kept | apply State.wr_kept | apply State.refreshSlots_kept) | split | simp only [kept_mk_iff] | dsimp +zetaDelta only | with_reducible (first | apply kept_set | apply kept_reg | apply kept_filter | apply kept_empty | apply kept_regs | apply kept_none)

theorem State.startGddr_kept {q : List Instr} (a0 : State) (a1 : List ℕ) (h0 : Kept q a0) : Kept q (@State.startGddr a0 a1) := by
  unfold State.startGddr
  repeat' first | with_reducible (first | assumption | apply State.each_kept | apply State.wr_kept | apply State.memErr_kept | apply State.noStandby_kept | apply State.loseDevice_kept | apply State.moveDevice_kept) | intro _ | split | simp only [kept_mk_iff]

theorem State.startHeld_kept {q : List Instr} (a0 : State) (h0 : Kept q a0) : Kept q (@State.startHeld a0) := by
  unfold State.startHeld
  repeat' first | with_reducible (first | assumption | apply State.when_kept | apply State.wr_kept | apply State.writeEpoch_kept) | intro _ | split | simp only [kept_mk_iff]

theorem State.startRest_kept {q : List Instr} (a0 : State) (a1 : Bool) (a2 : Bool) (a3 : Found) (h0 : Kept q a0) : Kept q (@State.startRest a0 a1 a2 a3) := by
  unfold State.startRest
  repeat' first | with_reducible assumption | intro _ | extract_lets | with_reducible (first | apply kept_ite | apply kept_guarded | apply kept_foldl | apply kept_fst | apply kept_elim | apply kepto_some | exact kepto_none | apply kepte_ok | exact kepte_error | apply keptb_ok | apply keptb_error | apply kept_next | exact kept_refused | apply State.wr_kept | apply State.startFails_kept | apply State.startSlots_kept | apply State.startGddr_kept | apply State.startHeld_kept) | split | simp only [kept_mk_iff] | dsimp +zetaDelta only | with_reducible (first | apply kept_set | apply kept_reg | apply kept_filter | apply kept_empty | apply kept_regs | apply kept_none)

theorem State.recordLost_kept {q : List Instr} (a0 : State) (a1 : ℕ) (h0 : Kept q a0) : Kept q (@State.recordLost a0 a1) := by
  unfold State.recordLost
  repeat' with_reducible first | assumption | apply State.incSat_kept | apply State.wr_kept

theorem State.moduleLost_kept {q : List Instr} (a0 : State) (a1 : ℕ) (h0 : Kept q a0) : Kept q (@State.moduleLost a0 a1) := by
  unfold State.moduleLost
  repeat' first | with_reducible (first | assumption | apply State.incSat_kept | apply State.recordLost_kept | apply State.fltEvent_kept) | intro _ | split | simp only [kept_mk_iff]

theorem State.enterHoldover_kept {q : List Instr} (a0 : State) (h0 : Kept q a0) : Kept q (@State.enterHoldover a0) := by
  unfold State.enterHoldover
  repeat' first | with_reducible (first | assumption | apply State.wr_kept | apply State.bellEvent_kept) | intro _ | split | simp only [kept_mk_iff]

theorem State.sourceMiss_kept {q : List Instr} (a0 : State) (h0 : Kept q a0) : Kept q (@State.sourceMiss a0) := by
  unfold State.sourceMiss
  repeat' first | with_reducible (first | assumption | apply State.enterHoldover_kept) | intro _ | split | simp only [kept_mk_iff]

theorem State.missFrame_kept {q : List Instr} (a0 : State) (h0 : Kept q a0) : Kept q (@State.missFrame a0) := by
  unfold State.missFrame
  repeat' first | with_reducible (first | assumption | apply State.when_kept | apply State.sourceMiss_kept) | intro _ | split | simp only [kept_mk_iff]

theorem State.frameMissed_kept {q : List Instr} (a0 : State) (a1 : ℕ) (h0 : Kept q a0) : Kept q (@State.frameMissed a0 a1) := by
  unfold State.frameMissed
  repeat' first | with_reducible (first | assumption | apply State.missFrame_kept) | intro _ | split | simp only [kept_mk_iff]

theorem State.hashRun_kept {q : List Instr} (a0 : State) (a1 : CipherReq) (h0 : Kept q a0) : Kept q (@State.hashRun a0 a1) := by
  unfold State.hashRun
  repeat' first | with_reducible (first | assumption | apply State.ciDone_kept | apply State.ciWrite_kept) | intro _ | split | simp only [kept_mk_iff]

theorem State.goOn_kept {q : List Instr} (a0 : State) (a1 : ℕ) (a2 : SpareWait) (h0 : Kept q a0) : Kept q (@State.goOn a0 a1 a2) := by
  unfold State.goOn
  repeat' first | with_reducible assumption | intro _ | extract_lets | with_reducible (first | apply kept_ite | apply kept_guarded | apply kept_foldl | apply kept_fst | apply kept_elim | apply kepto_some | exact kepto_none | apply kepte_ok | exact kepte_error | apply keptb_ok | apply keptb_error | apply kept_next | exact kept_refused | apply State.replayOn_kept) | split | simp only [kept_mk_iff] | dsimp +zetaDelta only | with_reducible (first | apply kept_set | apply kept_reg | apply kept_filter | apply kept_empty | apply kept_regs | apply kept_none)

theorem State.spareReady_kept {q : List Instr} (a0 : State) (a1 : ℕ) (h0 : Kept q a0) : Kept q (@State.spareReady a0 a1) := by
  unfold State.spareReady
  repeat' first | with_reducible assumption | intro _ | extract_lets | with_reducible (first | apply kept_ite | apply kept_guarded | apply kept_foldl | apply kept_fst | apply kept_elim | apply kepto_some | exact kepto_none | apply kepte_ok | exact kepte_error | apply keptb_ok | apply keptb_error | apply kept_next | exact kept_refused | apply State.wr_kept | apply State.refreshSlots_kept | apply State.goOn_kept) | split | simp only [kept_mk_iff] | dsimp +zetaDelta only | with_reducible (first | apply kept_set | apply kept_reg | apply kept_filter | apply kept_empty | apply kept_regs | apply kept_none)

theorem State.multiplyAdd_kept {q : List Instr} (a0 : State) (a1 : ℕ) (a2 : MForm) (h0 : Kept q a0) : Kept q (@State.multiplyAdd a0 a1 a2) := by
  unfold State.multiplyAdd
  repeat' first | with_reducible assumption | intro _ | extract_lets | with_reducible (first | apply kept_ite | apply kept_guarded | apply kept_foldl | apply kept_fst | apply kept_elim | apply kepto_some | exact kepto_none | apply kepte_ok | exact kepte_error | apply keptb_ok | apply keptb_error | apply kept_next | exact kept_refused | apply State.issue_kept | apply State.operand_kept | apply State.operand_kept_of (by assumption) | apply State.load_kept | apply State.load_kept_of (by assumption) | apply State.finish_kept) | split | simp only [kept_mk_iff] | dsimp +zetaDelta only | with_reducible (first | apply kept_set | apply kept_reg | apply kept_filter | apply kept_empty | apply kept_regs | apply kept_none)

theorem State.restoreData_kept {q : List Instr} (a0 : State) (a1 : ℕ) (a2 : ℕ) (a3 : List ℕ) (h0 : Kept q a0) : Kept q (@State.restoreData a0 a1 a2 a3) := by
  unfold State.restoreData
  repeat' first | with_reducible assumption | intro _ | extract_lets | with_reducible (first | apply kept_ite | apply kept_guarded | apply kept_foldl | apply kept_fst | apply kept_elim | apply kepto_some | exact kepto_none | apply kepte_ok | exact kepte_error | apply keptb_ok | apply keptb_error | apply kept_next | exact kept_refused | apply State.setCkp_kept) | split | simp only [kept_mk_iff] | dsimp +zetaDelta only | with_reducible (first | apply kept_set | apply kept_reg | apply kept_filter | apply kept_empty | apply kept_regs | apply kept_none)

theorem State.worstLane_kept {q : List Instr} (a0 : State) (a1 : ℕ) (a2 : List ℕ) (h0 : Kept q a0) : Kept q (@State.worstLane a0 a1 a2).1 := by
  unfold State.worstLane
  exact h0

theorem State.laneTrouble_kept {q : List Instr} (a0 : State) (a1 : ℕ) (a2 : LaneTrouble) (h0 : Kept q a0) : Kept q (@State.laneTrouble a0 a1 a2) := by
  unfold State.laneTrouble
  repeat' first | with_reducible (first | assumption | apply State.laneFail_kept | apply State.when_kept | apply State.inc_kept | apply State.worstLane_kept) | intro _ | split | simp only [kept_mk_iff]

theorem State.bindCtx_kept {q : List Instr} (a0 : State) (a1 : ℕ) (a2 : ℕ) (h0 : Kept q a0) : Kept q (@State.bindCtx a0 a1 a2) := by
  unfold State.bindCtx
  repeat' first | with_reducible (first | assumption | apply kept_ite | apply kept_foldl | apply kept_elim | apply State.wr_kept | apply State.setCtx_kept) | intro _ | extract_lets | split | simp only [kept_mk_iff] | dsimp +zetaDelta only

theorem State.rebind_kept {q : List Instr} (a0 : State) (a1 : ℕ) (a2 : ℕ) (h0 : Kept q a0) : Kept q (@State.rebind a0 a1 a2) := by
  unfold State.rebind
  repeat' first | with_reducible assumption | intro _ | extract_lets | with_reducible (first | apply kept_ite | apply kept_guarded | apply kept_foldl | apply kept_fst | apply kept_elim | apply kepto_some | exact kepto_none | apply kepte_ok | exact kepte_error | apply keptb_ok | apply keptb_error | apply kept_next | exact kept_refused | apply State.bindCtx_kept | apply State.zero_kept) | split | simp only [kept_mk_iff] | dsimp +zetaDelta only | with_reducible (first | apply kept_set | apply kept_reg | apply kept_filter | apply kept_empty | apply kept_regs | apply kept_none)

theorem State.tcBind_kept {q : List Instr} (a0 : State) (a1 : Src) (a2 : ℕ) (a3 : Bool) (a4 : ℕ) (h0 : Kept q a0) : Kept q (@State.tcBind a0 a1 a2 a3 a4) := by
  unfold State.tcBind
  repeat' first | with_reducible (first | assumption | apply State.unsup_kept | apply State.wr_kept | apply State.rebind_kept) | intro _ | split | simp only [kept_mk_iff]

theorem State.portReturn_kept {q : List Instr} (a0 : State) (a1 : ℕ) (a2 : List ℕ) (h0 : Kept q a0) : Kept q (@State.portReturn a0 a1 a2) := by
  unfold State.portReturn
  repeat' first | with_reducible (first | assumption | apply State.when_kept | apply State.emit_kept) | intro _ | split | simp only [kept_mk_iff]

theorem State.lastStep_kept {q : List Instr} (a0 : State) (a1 : ℕ) (h0 : Kept q a0) : Kept q (@State.lastStep a0 a1).1 := by
  unfold State.lastStep
  repeat' first | with_reducible (first | assumption | apply State.draw_kept) | intro _ | split | simp only [kept_mk_iff]

theorem State.ckpDue_kept {q : List Instr} (a0 : State) (a1 : ℕ) (h0 : Kept q a0) : KeptO q (fun t => t.1) (@State.ckpDue a0 a1) := by
  unfold State.ckpDue
  repeat' first | with_reducible assumption | intro _ | extract_lets | with_reducible (first | apply kept_ite | apply kept_guarded | apply kept_foldl | apply kept_fst | apply kept_elim | apply kepto_some | exact kepto_none | apply kepte_ok | exact kepte_error | apply keptb_ok | apply keptb_error | apply kept_next | exact kept_refused | apply State.setCkp_kept | apply State.lastStep_kept) | split | simp only [kept_mk_iff] | dsimp +zetaDelta only | with_reducible (first | apply kept_set | apply kept_reg | apply kept_filter | apply kept_empty | apply kept_regs | apply kept_none)

theorem State.ckpDue_kept_of {q : List Instr} {a0 : State} {a1 : ℕ} {t u} (e : @State.ckpDue a0 a1 = some (t, u)) (h0 : Kept q a0) : Kept q t :=
  (State.ckpDue_kept _ _ h0).get (t, u) e

theorem State.ckpTrigger_kept {q : List Instr} (a0 : State) (a1 : ℕ) (a2 : ℕ) (h0 : Kept q a0) : Kept q (@State.ckpTrigger a0 a1 a2) := by
  unfold State.ckpTrigger
  repeat' first | with_reducible (first | assumption | apply State.ckpDue_kept | apply State.ckpDue_kept_of (by assumption) | apply State.ckpEvent_kept | apply State.incSat_kept | apply State.when_kept | apply State.wr_kept | apply State.beginCkp_kept) | intro _ | split | simp only [kept_mk_iff]

theorem State.reeveRuns_kept {q : List Instr} (a0 : State) (a1 : Firmware) (h0 : Kept q a0) : Kept q (@State.reeveRuns a0 a1) := by
  unfold State.reeveRuns
  repeat' with_reducible first | assumption | apply State.setCtx_kept | apply State.putBytes_kept

theorem State.putHandlers_kept {q : List Instr} (a0 : State) (a1 : Firmware) (a2 : List ℕ) (h0 : Kept q a0) : Kept q (@State.putHandlers a0 a1 a2) := by
  unfold State.putHandlers
  repeat' first | with_reducible assumption | intro _ | extract_lets | with_reducible (first | apply kept_ite | apply kept_guarded | apply kept_foldl | apply kept_fst | apply kept_elim | apply kepto_some | exact kepto_none | apply kepte_ok | exact kepte_error | apply keptb_ok | apply keptb_error | apply kept_next | exact kept_refused | apply State.putBytes_kept) | split | simp only [kept_mk_iff] | dsimp +zetaDelta only | with_reducible (first | apply kept_set | apply kept_reg | apply kept_filter | apply kept_empty | apply kept_regs | apply kept_none)

theorem State.endFw_kept {q : List Instr} (a0 : State) (a1 : ℕ) (h0 : Kept q a0) : Kept q (@State.endFw a0 a1) := by
  unfold State.endFw
  repeat' with_reducible first | assumption | apply State.mgtEvent_kept | apply State.wr_kept

theorem State.switched_kept {q : List Instr} (a0 : State) (h0 : Kept q a0) : Kept q (@State.switched a0) := by
  unfold State.switched
  repeat' first | with_reducible assumption | intro _ | extract_lets | with_reducible (first | apply kept_ite | apply kept_guarded | apply kept_foldl | apply kept_fst | apply kept_elim | apply kepto_some | exact kepto_none | apply kepte_ok | exact kepte_error | apply keptb_ok | apply keptb_error | apply kept_next | exact kept_refused | apply State.endFw_kept | apply State.wr_kept) | split | simp only [kept_mk_iff] | dsimp +zetaDelta only | with_reducible (first | apply kept_set | apply kept_reg | apply kept_filter | apply kept_empty | apply kept_regs | apply kept_none)

theorem State.newFirmware_kept {q : List Instr} (a0 : State) (a1 : Firmware) (h0 : Kept q a0) : Kept q (@State.newFirmware a0 a1) := by
  unfold State.newFirmware
  repeat' first | with_reducible (first | assumption | apply State.reeveRuns_kept | apply State.putHandlers_kept | apply State.each_kept | apply State.iocStart_kept | apply State.emit_kept | apply State.switched_kept | apply State.wr_kept) | intro _ | split | simp only [kept_mk_iff]

theorem State.launchRaw_kept {q : List Instr} (a0 : State) (a1 : ℕ) (a2 : ℕ) (a3 : ℕ) (a4 : ℕ) (a5 : ℕ) (a6 : ℕ) (a7 : List ℕ) (h0 : Kept q a0) : Kept q (@State.launchRaw a0 a1 a2 a3 a4 a5 a6 a7) := by
  unfold State.launchRaw
  repeat' first | with_reducible (first | assumption | apply State.endWqe_kept | apply State.pushTx_kept) | intro _ | split | simp only [kept_mk_iff]

theorem State.blkHostData_kept {q : List Instr} (a0 : State) (a1 : ℕ) (a2 : ℕ) (a3 : List ℕ) (h0 : Kept q a0) : Kept q (@State.blkHostData a0 a1 a2 a3) := by
  unfold State.blkHostData
  repeat' first | with_reducible (first | assumption | apply State.setBlk_kept | apply State.readRanges_kept | apply State.checkBsc_kept | apply State.stageBytes_kept) | intro _ | split | simp only [kept_mk_iff]

theorem State.cipherHostData_kept {q : List Instr} (a0 : State) (a1 : ℕ) (a2 : ℕ) (a3 : List ℕ) (h0 : Kept q a0) : Kept q (@State.cipherHostData a0 a1 a2 a3) := by
  unfold State.cipherHostData
  repeat' first | with_reducible (first | assumption | apply State.setCiReq_kept) | intro _ | split | simp only [kept_mk_iff]

theorem State.readData_kept {q : List Instr} (a0 : State) (a1 : ReadFor) (a2 : ℕ) (a3 : List ℕ) (h0 : Kept q a0) : Kept q (@State.readData a0 a1 a2 a3) := by
  unfold State.readData
  repeat' first | with_reducible (first | assumption | apply State.settleInvals_kept | apply State.setConn_kept | apply State.launchRaw_kept | apply State.blkHostData_kept | apply State.restoreData_kept | apply State.cipherHostData_kept) | intro _ | split | simp only [kept_mk_iff]

theorem State.completion_kept {q : List Instr} (a0 : State) (a1 : ℕ) (a2 : ℕ) (a3 : ℕ) (a4 : Bool) (a5 : List ℕ) (a6 : List ℕ) (h0 : Kept q a0) : Kept q (@State.completion a0 a1 a2 a3 a4 a5 a6) := by
  unfold State.completion
  repeat' first | with_reducible (first | assumption | apply State.lateCompletion_kept | apply State.sendHeldReads_kept | apply State.advisory_kept | apply State.readFailed_kept | apply State.freeRead_kept | apply State.pciEvent_kept | apply State.takeEntry_kept | apply State.readData_kept) | intro _ | split | simp only [kept_mk_iff]

theorem State.freeAbort_kept {q : List Instr} (a0 : State) (a1 : ℕ) (h0 : Kept q a0) : Kept q (@State.freeAbort a0 a1) := by
  unfold State.freeAbort
  repeat' with_reducible first | assumption | apply State.draw_kept | apply State.aer_kept

theorem State.rejectShape_kept {q : List Instr} (a0 : State) (a1 : Src) (h0 : Kept q a0) : Kept q (@State.rejectShape a0 a1) := by
  unfold State.rejectShape
  repeat' first | with_reducible (first | assumption | apply State.freeAbort_kept) | intro _ | split | simp only [kept_mk_iff]

theorem State.shape_kept {q : List Instr} (a0 : State) (a1 : Src) (a2 : RegRow) (a3 : ℕ) (a4 : List ℕ) (a5 : ℕ) (a6 : ℕ) (a7 : ℕ) (h0 : Kept q a0) : Kept q (@State.shape a0 a1 a2 a3 a4 a5 a6 a7).1 := by
  unfold State.shape
  repeat' first | with_reducible (first | assumption | apply State.dropHalves_kept) | intro _ | split | simp only [kept_mk_iff]

theorem State.regWriteBy_kept {q : List Instr} (a0 : State) (a1 : Src) (a2 a3 a4 : ℕ) (a5 : RegAcc → State → State) (h0 : Kept q a0) (h5 : ∀ z0 z1, Kept q z1 → Kept q (a5 z0 z1)) : Kept q (@State.regWriteBy a0 a1 a2 a3 a4 a5) := by
  have hs : ∀ {a b c d e f g t o}, State.shape a0 a b c d e f g = (t, o) → Kept q t := fun {a b c d e f g t o} h => by have := State.shape_kept a0 a b c d e f g h0; rwa [h] at this
  unfold State.regWriteBy
  split
  · exact State.unsup_kept _ _ _ _ h0
  split
  · exact State.unsup_kept _ _ _ _ h0
  split
  · exact State.rejectShape_kept _ _ h0
  split
  · rename_i e; exact h5 _ _ (hs e)
  · rename_i e; exact hs e
theorem RegAcc.hub_kept {q : List Instr} (a0 : RegAcc) (a1 : State) (a2 : Bool) (h1 : Kept q a1) : Kept q (@RegAcc.hub a0 a1 a2) := by
  unfold RegAcc.hub
  repeat' first | with_reducible (first | assumption | apply RegAcc.deny_kept | apply RegAcc.someFields_kept | apply RegAcc.generic_kept) | intro _ | split | simp only [kept_mk_iff]

theorem State.nextPeriod_kept {q : List Instr} (a0 : State) (h0 : Kept q a0) : Kept q (@State.nextPeriod a0) := by
  unfold State.nextPeriod
  exact h0

theorem State.attached_kept {q : List Instr} (a0 : State) (h0 : Kept q a0) : Kept q (@State.attached a0) := by
  unfold State.attached
  repeat' with_reducible first | assumption | apply State.nextPeriod_kept | apply State.wr_kept | apply State.inc_kept

theorem State.attach_kept {q : List Instr} (a0 : State) (h0 : Kept q a0) : Kept q (@State.attach a0) := by
  unfold State.attach
  repeat' first | with_reducible (first | assumption | apply State.unsup_kept | apply State.attached_kept) | intro _ | split | simp only [kept_mk_iff]

theorem State.detach_kept {q : List Instr} (a0 : State) (h0 : Kept q a0) : Kept q (@State.detach a0) := by
  unfold State.detach
  repeat' with_reducible first | assumption | apply State.quiesceSoon_kept | apply State.wr_kept

theorem State.heartbeat_kept {q : List Instr} (a0 : State) (h0 : Kept q a0) : Kept q (@State.heartbeat a0) := by
  unfold State.heartbeat
  repeat' first | with_reducible (first | assumption | apply State.when_kept) | intro _ | split | simp only [kept_mk_iff]

theorem RegAcc.pci_kept {q : List Instr} (a0 : RegAcc) (a1 : State) (h1 : Kept q a1) : Kept q (@RegAcc.pci a0 a1) := by
  unfold RegAcc.pci
  repeat' first | with_reducible (first | assumption | apply State.attach_kept | apply State.detach_kept | apply State.heartbeat_kept | apply State.wr_kept | apply State.resumeParts_kept | apply RegAcc.someFields_kept | apply RegAcc.generic_kept) | intro _ | split | simp only [kept_mk_iff]

theorem State.takePwrCtrl_kept {q : List Instr} (a0 : State) (a1 : Src) (a2 : ℕ) (h0 : Kept q a0) : Kept q (@State.takePwrCtrl a0 a1 a2) := by
  unfold State.takePwrCtrl
  repeat' first | with_reducible (first | assumption | apply State.wr_kept | apply State.unsup_kept | apply State.seekPace_kept) | intro _ | split | simp only [kept_mk_iff]

theorem State.writePwrCtrl_kept {q : List Instr} (a0 : State) (a1 : Src) (a2 : ℕ) (h0 : Kept q a0) : Kept q (@State.writePwrCtrl a0 a1 a2) := by
  unfold State.writePwrCtrl
  repeat' first | with_reducible (first | assumption | apply State.unsup_kept | apply State.takePwrCtrl_kept) | intro _ | split | simp only [kept_mk_iff]

theorem State.carryOut_kept {q : List Instr} (a0 : State) (a1 : ℕ) (a2 : Bool) (h0 : Kept q a0) : Kept q (@State.carryOut a0 a1 a2) := by
  unfold State.carryOut
  repeat' first | with_reducible (first | assumption | apply State.endReq_kept | apply State.setTransit_kept | apply State.wr_kept) | intro _ | split | simp only [kept_mk_iff]

theorem State.powerReq_kept {q : List Instr} (a0 : State) (a1 : ℕ) (a2 : Bool) (h0 : Kept q a0) : Kept q (@State.powerReq a0 a1 a2) := by
  unfold State.powerReq
  repeat' first | with_reducible (first | assumption | apply State.unsup_kept | apply State.wr_kept | apply State.carryOut_kept) | intro _ | split | simp only [kept_mk_iff]

theorem State.newVf_kept {q : List Instr} (a0 : State) (h0 : Kept q a0) : Kept q (@State.newVf a0) := by
  unfold State.newVf
  repeat' first | with_reducible assumption | intro _ | extract_lets | with_reducible (first | apply kept_ite | apply kept_guarded | apply kept_foldl | apply kept_fst | apply kept_elim | apply kepto_some | exact kepto_none | apply kepte_ok | exact kepte_error | apply keptb_ok | apply keptb_error | apply kept_next | exact kept_refused | apply State.seekPace_kept | apply State.setClock_kept) | split | simp only [kept_mk_iff] | dsimp +zetaDelta only | with_reducible (first | apply kept_set | apply kept_reg | apply kept_filter | apply kept_empty | apply kept_regs | apply kept_none)

theorem RegAcc.pwr_kept {q : List Instr} (a0 : RegAcc) (a1 : State) (h1 : Kept q a1) : Kept q (@RegAcc.pwr a0 a1) := by
  unfold RegAcc.pwr
  repeat' first | with_reducible (first | assumption | apply State.writePwrCtrl_kept | apply State.powerReq_kept | apply State.newVf_kept | apply RegAcc.generic_kept | apply RegAcc.someFields_kept) | intro _ | split | simp only [kept_mk_iff]

theorem State.badParam_kept {q : List Instr} (a0 : State) (h0 : Kept q a0) : Kept q (@State.badParam a0) := by
  unfold State.badParam
  repeat' with_reducible first | assumption | apply State.bellEvent_kept

theorem State.bellFields_kept {q : List Instr} (a0 : State) (a1 : ℕ) (h0 : Kept q a0) : Kept q (@State.bellFields a0 a1) := by
  unfold State.bellFields
  repeat' with_reducible first | assumption | apply State.wr_kept

theorem State.bellStart_kept {q : List Instr} (a0 : State) (h0 : Kept q a0) : Kept q (@State.bellStart a0) := by
  unfold State.bellStart
  repeat' first | with_reducible (first | assumption | apply State.wr_kept | apply State.when_kept | apply State.masterFrame_kept | apply State.emit_kept | apply State.paceEdge_kept | apply State.updateCredits_kept) | intro _ | split | simp only [kept_mk_iff]

theorem State.bellStop_kept {q : List Instr} (a0 : State) (h0 : Kept q a0) : Kept q (@State.bellStop a0) := by
  unfold State.bellStop
  repeat' with_reducible first | assumption | apply State.wr_kept

theorem State.writeBellCtrl_kept {q : List Instr} (a0 : State) (a1 : ℕ) (h0 : Kept q a0) : Kept q (@State.writeBellCtrl a0 a1) := by
  unfold State.writeBellCtrl
  repeat' first | with_reducible (first | assumption | apply State.badParam_kept | apply State.bellFields_kept | apply State.bellStart_kept | apply State.wr_kept | apply State.bellStop_kept) | intro _ | split | simp only [kept_mk_iff]

theorem State.countLoaded_kept {q : List Instr} (a0 : State) (a1 : ℕ) (h0 : Kept q a0) : Kept q (@State.countLoaded a0 a1) := by
  unfold State.countLoaded
  repeat' first | with_reducible (first | assumption | apply State.wr_kept) | intro _ | split | simp only [kept_mk_iff]

theorem State.loadCount_kept {q : List Instr} (a0 : State) (a1 : ℕ) (h0 : Kept q a0) : Kept q (@State.loadCount a0 a1) := by
  unfold State.loadCount
  repeat' first | with_reducible (first | assumption | apply State.badParam_kept | apply State.commitBells_kept | apply State.countLoaded_kept) | intro _ | split | simp only [kept_mk_iff]

theorem RegAcc.bell_kept {q : List Instr} (a0 : RegAcc) (a1 : State) (h1 : Kept q a1) : Kept q (@RegAcc.bell a0 a1) := by
  unfold RegAcc.bell
  repeat' first | with_reducible (first | assumption | apply State.writeBellCtrl_kept | apply State.loadCount_kept | apply State.badParam_kept | apply RegAcc.generic_kept) | intro _ | split | simp only [kept_mk_iff]

theorem RegAcc.part_kept {q : List Instr} (a0 : RegAcc) (a1 : State) (h1 : Kept q a1) : Kept q (@RegAcc.part a0 a1) := by
  unfold RegAcc.part
  repeat' first | with_reducible (first | assumption | apply State.partCmd_kept | apply State.writeSlice_kept | apply RegAcc.generic_kept) | intro _ | split | simp only [kept_mk_iff]

theorem State.writeQuads_kept {q : List Instr} (a0 : State) (a1 : ℕ) (h0 : Kept q a0) : Kept q (@State.writeQuads a0 a1) := by
  unfold State.writeQuads
  repeat' first | with_reducible (first | assumption | apply kept_ite | apply kept_foldl | apply kept_elim | apply State.unsup_kept | apply State.wr_kept) | intro _ | extract_lets | split | simp only [kept_mk_iff] | dsimp +zetaDelta only

theorem RegAcc.fab_kept {q : List Instr} (a0 : RegAcc) (a1 : State) (h1 : Kept q a1) : Kept q (@RegAcc.fab a0 a1) := by
  unfold RegAcc.fab
  repeat' first | with_reducible (first | assumption | apply State.writeQuads_kept | apply RegAcc.generic_kept | apply State.wr_kept | apply State.portDown_kept | apply State.when_kept | apply RegAcc.someFields_kept | apply RegAcc.deny_kept | apply State.retrain_kept) | intro _ | split | simp only [kept_mk_iff]

theorem State.connReady_kept {q : List Instr} (a0 : State) (a1 : ℕ) (a2 : ℕ) (h0 : Kept q a0) : Kept q (@State.connReady a0 a1 a2) := by
  unfold State.connReady
  repeat' first | with_reducible assumption | intro _ | extract_lets | with_reducible (first | apply kept_ite | apply kept_guarded | apply kept_foldl | apply kept_fst | apply kept_elim | apply kepto_some | exact kepto_none | apply kepte_ok | exact kepte_error | apply keptb_ok | apply keptb_error | apply kept_next | exact kept_refused | apply State.wr_kept | apply State.connWrite_kept | apply State.setConn_kept | apply State.connState_kept | apply State.connEpoch_kept) | split | simp only [kept_mk_iff] | dsimp +zetaDelta only | with_reducible (first | apply kept_set | apply kept_reg | apply kept_filter | apply kept_empty | apply kept_regs | apply kept_none)

theorem State.connEnable_kept {q : List Instr} (a0 : State) (a1 : ℕ) (a2 : ℕ) (h0 : Kept q a0) : Kept q (@State.connEnable a0 a1 a2) := by
  unfold State.connEnable
  repeat' first | with_reducible (first | assumption | apply State.unsup_kept | apply State.connWrite_kept | apply State.connReady_kept) | intro _ | split | simp only [kept_mk_iff]

theorem RegAcc.rkt_kept {q : List Instr} (a0 : RegAcc) (a1 : State) (h1 : Kept q a1) : Kept q (@RegAcc.rkt a0 a1) := by
  unfold RegAcc.rkt
  repeat' first | with_reducible (first | assumption | apply State.connDisable_kept | apply State.connEnable_kept | apply State.connWrite_kept | apply RegAcc.deny_kept | apply RegAcc.generic_kept) | intro _ | split | simp only [kept_mk_iff]

theorem State.writeHash_kept {q : List Instr} (a0 : State) (a1 : ℕ) (a2 : ℕ) (a3 : ℕ) (h0 : Kept q a0) : Kept q (@State.writeHash a0 a1 a2 a3) := by
  unfold State.writeHash
  repeat' first | with_reducible (first | assumption | apply State.wr_kept) | intro _ | split | simp only [kept_mk_iff]

theorem State.writeRaw_kept {q : List Instr} (a0 : State) (a1 : ℕ) (a2 : ℕ) (h0 : Kept q a0) : Kept q (@State.writeRaw a0 a1 a2) := by
  unfold State.writeRaw
  repeat' first | with_reducible (first | assumption | apply State.unsup_kept | apply State.wr_kept) | intro _ | split | simp only [kept_mk_iff]

theorem RegAcc.pkt_kept {q : List Instr} (a0 : RegAcc) (a1 : State) (h1 : Kept q a1) : Kept q (@RegAcc.pkt a0 a1) := by
  unfold RegAcc.pkt
  repeat' first | with_reducible (first | assumption | apply kept_ite | apply kept_foldl | apply kept_elim | apply State.writeRule_kept | apply State.writeHash_kept | apply State.writeRaw_kept | apply RegAcc.someFields_kept | apply RegAcc.generic_kept) | intro _ | extract_lets | split | simp only [kept_mk_iff] | dsimp +zetaDelta only

theorem State.armAlmanac_kept {q : List Instr} (a0 : State) (a1 : ℕ) (h0 : Kept q a0) : Kept q (@State.armAlmanac a0 a1) := by
  unfold State.armAlmanac
  repeat' first | with_reducible (first | assumption | apply State.missedTarget_kept | apply State.schEvent_kept | apply State.wr_kept) | intro _ | split | simp only [kept_mk_iff]

theorem RegAcc.sch_kept {q : List Instr} (a0 : RegAcc) (a1 : State) (h1 : Kept q a1) : Kept q (@RegAcc.sch a0 a1) := by
  unfold RegAcc.sch
  repeat' first | with_reducible (first | assumption | apply RegAcc.generic_kept | apply RegAcc.deny_kept | apply State.when_kept | apply State.wr_kept | apply State.armAlmanac_kept) | intro _ | split | simp only [kept_mk_iff]

theorem State.writeVolume_kept {q : List Instr} (a0 : State) (a1 : ℕ) (a2 : ℕ) (a3 : ℕ) (h0 : Kept q a0) : Kept q (@State.writeVolume a0 a1 a2 a3) := by
  unfold State.writeVolume
  repeat' first | with_reducible (first | assumption | apply State.wr_kept | apply State.when_kept | apply State.unsup_kept) | intro _ | split | simp only [kept_mk_iff]

theorem State.medEvent_kept {q : List Instr} (a0 : State) (a1 : ℕ) (a2 : ℕ → Fld) (h0 : Kept q a0) : Kept q (@State.medEvent a0 a1 a2) := by
  unfold State.medEvent
  repeat' with_reducible first | assumption | apply State.event_kept

theorem State.mediaDown_kept {q : List Instr} (a0 : State) (a1 : ℕ) (h0 : Kept q a0) : Kept q (@State.mediaDown a0 a1) := by
  unfold State.mediaDown
  repeat' first | with_reducible assumption | intro _ | extract_lets | with_reducible (first | apply kept_ite | apply kept_guarded | apply kept_foldl | apply kept_fst | apply kept_elim | apply kepto_some | exact kepto_none | apply kepte_ok | exact kepte_error | apply keptb_ok | apply keptb_error | apply kept_next | exact kept_refused | apply State.medEvent_kept | apply State.resetMedia_kept | apply State.wr_kept) | split | simp only [kept_mk_iff] | dsimp +zetaDelta only | with_reducible (first | apply kept_set | apply kept_reg | apply kept_filter | apply kept_empty | apply kept_regs | apply kept_none)

theorem RegAcc.blk_kept {q : List Instr} (a0 : RegAcc) (a1 : State) (h1 : Kept q a1) : Kept q (@RegAcc.blk a0 a1) := by
  unfold RegAcc.blk
  repeat' first | with_reducible (first | assumption | apply kept_ite | apply kept_foldl | apply kept_elim | apply State.writeVolume_kept | apply RegAcc.generic_kept | apply State.mediaDown_kept | apply State.when_kept | apply State.resetMedia_kept) | intro _ | extract_lets | split | simp only [kept_mk_iff] | dsimp +zetaDelta only

theorem State.writeNonceId_kept {q : List Instr} (a0 : State) (a1 : Src) (a2 : ℕ) (h0 : Kept q a0) : Kept q (@State.writeNonceId a0 a1 a2) := by
  unfold State.writeNonceId
  repeat' first | with_reducible (first | assumption | apply State.unsup_kept | apply State.wr_kept) | intro _ | split | simp only [kept_mk_iff]

theorem State.makePartKey_kept {q : List Instr} (a0 : State) (a1 : ℕ) (h0 : Kept q a0) : Kept q (@State.makePartKey a0 a1) := by
  unfold State.makePartKey
  repeat' first | with_reducible (first | assumption | apply State.random_kept | apply State.wr_kept) | intro _ | split | simp only [kept_mk_iff]

theorem State.rekey_kept {q : List Instr} (a0 : State) (h0 : Kept q a0) : Kept q (@State.rekey a0) := by
  unfold State.rekey
  repeat' first | with_reducible (first | assumption | apply State.each_kept | apply State.makePartKey_kept) | intro _ | split | simp only [kept_mk_iff]

theorem State.exportKeyWord_kept {q : List Instr} (a0 : State) (a1 : ℕ) (a2 : ℕ) (a3 : ℕ) (h0 : Kept q a0) : Kept q (@State.exportKeyWord a0 a1 a2 a3) := by
  unfold State.exportKeyWord
  repeat' first | with_reducible (first | assumption | apply State.wr_kept) | intro _ | split | simp only [kept_mk_iff]

theorem State.writeExportKey_kept {q : List Instr} (a0 : State) (a1 : ℕ) (a2 : ℕ) (a3 : ℕ) (h0 : Kept q a0) : Kept q (@State.writeExportKey a0 a1 a2 a3) := by
  unfold State.writeExportKey
  repeat' first | with_reducible (first | assumption | apply State.unsup_kept | apply State.exportKeyWord_kept) | intro _ | split | simp only [kept_mk_iff]

theorem RegAcc.ciph_kept {q : List Instr} (a0 : RegAcc) (a1 : State) (h1 : Kept q a1) : Kept q (@RegAcc.ciph a0 a1) := by
  unfold RegAcc.ciph
  repeat' first | with_reducible (first | assumption | apply kept_ite | apply kept_foldl | apply kept_elim | apply State.writeNonceId_kept | apply State.when_kept | apply RegAcc.someFields_kept | apply RegAcc.deny_kept | apply State.writeEpoch_kept | apply State.rekey_kept | apply RegAcc.generic_kept | apply State.writeExportKey_kept) | intro _ | extract_lets | split | simp only [kept_mk_iff] | dsimp +zetaDelta only

theorem State.ckpTriggerCmd_kept {q : List Instr} (a0 : State) (a1 : ℕ) (h0 : Kept q a0) : Kept q (@State.ckpTriggerCmd a0 a1) := by
  unfold State.ckpTriggerCmd
  repeat' first | with_reducible assumption | intro _ | extract_lets | with_reducible (first | apply kept_ite | apply kept_guarded | apply kept_foldl | apply kept_fst | apply kept_elim | apply kepto_some | exact kepto_none | apply kepte_ok | exact kepte_error | apply keptb_ok | apply keptb_error | apply kept_next | exact kept_refused | apply State.wr_kept | apply State.setCkp_kept) | split | simp only [kept_mk_iff] | dsimp +zetaDelta only | with_reducible (first | apply kept_set | apply kept_reg | apply kept_filter | apply kept_empty | apply kept_regs | apply kept_none)

theorem State.ckpAbortCmd_kept {q : List Instr} (a0 : State) (a1 : ℕ) (h0 : Kept q a0) : Kept q (@State.ckpAbortCmd a0 a1) := by
  unfold State.ckpAbortCmd
  repeat' first | with_reducible (first | assumption | apply State.wr_kept | apply State.ckpAbort_kept) | intro _ | split | simp only [kept_mk_iff]

theorem RegAcc.ckp_kept {q : List Instr} (a0 : RegAcc) (a1 : State) (h1 : Kept q a1) : Kept q (@RegAcc.ckp a0 a1) := by
  unfold RegAcc.ckp
  repeat' first | with_reducible (first | assumption | apply RegAcc.deny_kept | apply RegAcc.generic_kept | apply State.when_kept | apply State.wr_kept | apply State.ckpTriggerCmd_kept | apply State.ckpAbortCmd_kept | apply RegAcc.someFields_kept) | intro _ | split | simp only [kept_mk_iff]

theorem RegAcc.flt_kept {q : List Instr} (a0 : RegAcc) (a1 : State) (h1 : Kept q a1) : Kept q (@RegAcc.flt a0 a1) := by
  unfold RegAcc.flt
  repeat' first | with_reducible (first | assumption | apply State.armSwitch_kept | apply RegAcc.generic_kept) | intro _ | split | simp only [kept_mk_iff]

theorem State.writeMap_kept {q : List Instr} (a0 : State) (a1 : Src) (a2 : ℕ) (a3 : ℕ) (h0 : Kept q a0) : Kept q (@State.writeMap a0 a1 a2 a3) := by
  unfold State.writeMap
  repeat' first | with_reducible (first | assumption | apply State.unsup_kept | apply State.refreshSlots_kept | apply State.each_kept | apply State.wr_kept) | intro _ | split | simp only [kept_mk_iff]

theorem State.startTc_kept {q : List Instr} (a0 : State) (a1 : ℕ) (h0 : Kept q a0) : Kept q (@State.startTc a0 a1) := by
  unfold State.startTc
  repeat' with_reducible first | assumption | apply State.takeSnap_kept | apply State.setCtx_kept | apply State.ungate_kept

theorem State.tcStart_kept {q : List Instr} (a0 : State) (a1 : Src) (a2 : ℕ) (h0 : Kept q a0) : Kept q (@State.tcStart a0 a1 a2) := by
  unfold State.tcStart
  repeat' first | with_reducible (first | assumption | apply State.startTc_kept | apply State.unsup_kept) | intro _ | split | simp only [kept_mk_iff]

theorem State.tcStop_kept {q : List Instr} (a0 : State) (a1 : ℕ) (h0 : Kept q a0) : Kept q (@State.tcStop a0 a1) := by
  unfold State.tcStop
  repeat' first | with_reducible (first | assumption | apply State.commitBells_kept | apply State.stopCtx_kept) | intro _ | split | simp only [kept_mk_iff]

theorem RegAcc.die_kept {q : List Instr} (a0 : RegAcc) (a1 : State) (h1 : Kept q a1) : Kept q (@RegAcc.die a0 a1) := by
  unfold RegAcc.die
  repeat' first | with_reducible (first | assumption | apply State.writeMap_kept | apply RegAcc.generic_kept | apply State.when_kept | apply RegAcc.someFields_kept | apply RegAcc.deny_kept | apply State.writeShare_kept | apply State.each_kept | apply State.tcStart_kept | apply State.tcStop_kept | apply State.tcBind_kept) | intro _ | split | simp only [kept_mk_iff]

theorem RegAcc.dport_kept {q : List Instr} (a0 : RegAcc) (a1 : State) (h1 : Kept q a1) : Kept q (@RegAcc.dport a0 a1) := by
  unfold RegAcc.dport
  repeat' first | with_reducible (first | assumption | apply State.dportWrite_kept | apply State.when_kept | apply RegAcc.generic_kept | apply State.setAhead_kept) | intro _ | split | simp only [kept_mk_iff]

theorem RegAcc.store_kept {q : List Instr} (a0 : RegAcc) (a1 : State) (a2 : Bool) (h1 : Kept q a1) : Kept q (@RegAcc.store a0 a1 a2) := by
  unfold RegAcc.store
  repeat' first | with_reducible (first | assumption | apply RegAcc.hub_kept | apply RegAcc.generic_kept | apply RegAcc.pci_kept | apply RegAcc.pwr_kept | apply RegAcc.bell_kept | apply RegAcc.part_kept | apply RegAcc.fab_kept | apply RegAcc.rkt_kept | apply RegAcc.pkt_kept | apply RegAcc.sch_kept | apply RegAcc.blk_kept | apply RegAcc.ciph_kept | apply RegAcc.ckp_kept | apply RegAcc.flt_kept | apply RegAcc.mem_kept | apply RegAcc.die_kept | apply RegAcc.dport_kept) | intro _ | split | simp only [kept_mk_iff]

theorem State.confWrite_kept {q : List Instr} (a0 : State) (a1 : ℕ) (a2 : ℕ) (h0 : Kept q a0) : Kept q (@State.confWrite a0 a1 a2) := by
  unfold State.confWrite
  repeat' first | with_reducible (first | assumption | apply State.regWriteBy_kept | apply RegAcc.store_kept) | intro _ | split | simp only [kept_mk_iff]

theorem State.applyLoads_kept {q : List Instr} (a0 : List (ℕ × ℕ)) (a1 : State) (h1 : Kept q a1) : KeptO q (fun t => t) (@State.applyLoads a0 a1) := by
  induction a0 generalizing a1 <;> unfold State.applyLoads
  · exact kepto_some h1
  · rename_i ih
    repeat' first | with_reducible (first | apply ih | apply State.confWrite_kept) | with_reducible assumption | intro _ | extract_lets | with_reducible (first | apply kept_ite | apply kept_guarded | apply kept_foldl | apply kept_fst | apply kept_elim | apply kepto_some | exact kepto_none | apply kepte_ok | exact kepte_error | apply keptb_ok | apply keptb_error | apply kept_next | exact kept_refused) | split | simp only [kept_mk_iff] | dsimp +zetaDelta only | with_reducible (first | apply kept_set | apply kept_reg | apply kept_filter | apply kept_empty | apply kept_regs | apply kept_none)
theorem State.applyLoads_kept_of {q : List Instr} {a0 : List (ℕ × ℕ)} {a1 : State} {t} (e : @State.applyLoads a0 a1 = some t) (h1 : Kept q a1) : Kept q t :=
  (State.applyLoads_kept _ _ h1).get t e

theorem State.sendNext_kept {q : List Instr} (a0 : State) (a1 : ℕ) (h0 : Kept q a0) : Kept q (@State.sendNext a0 a1) := by
  unfold State.sendNext
  repeat' first | with_reducible (first | assumption | apply State.setConn_kept | apply State.putPacket_kept) | intro _ | split | simp only [kept_mk_iff]

theorem State.maybeAck_kept {q : List Instr} (a0 : State) (a1 : ℕ) (a2 : RktPkt) (a3 : Bool) (a4 : Bool) (h0 : Kept q a0) : Kept q (@State.maybeAck a0 a1 a2 a3 a4) := by
  unfold State.maybeAck
  repeat' first | with_reducible (first | assumption | apply State.sendAck_kept | apply State.setConn_kept) | intro _ | split | simp only [kept_mk_iff]

theorem State.placePacket_kept {q : List Instr} (a0 : State) (a1 : ℕ) (a2 : RxMsg) (a3 : RktPkt) (h0 : Kept q a0) : Kept q (@State.placePacket a0 a1 a2 a3) := by
  unfold State.placePacket
  repeat' first | with_reducible (first | assumption | apply State.localWrite_kept | apply State.deliverOn_kept | apply State.setConn_kept | apply State.settleInvals_kept | apply State.maybeAck_kept) | intro _ | split | simp only [kept_mk_iff]

theorem State.rktTaken_kept {q : List Instr} (a0 : State) (a1 : ℕ) (a2 : RktPkt) (h0 : Kept q a0) : Kept q (@State.rktTaken a0 a1 a2) := by
  unfold State.rktTaken
  repeat' first | with_reducible (first | assumption | apply State.asyncEvent_kept | apply State.rktDrop_kept | apply State.setConn_kept | apply State.sendAck_kept | apply State.inc_kept | apply State.nak2_kept | apply State.placePacket_kept | apply State.endRecv_kept) | intro _ | split | simp only [kept_mk_iff]

theorem State.rktReceive_kept {q : List Instr} (a0 : State) (a1 : RktPkt) (h0 : Kept q a0) : Kept q (@State.rktReceive a0 a1) := by
  unfold State.rktReceive
  repeat' with_reducible first | assumption | apply State.receive_kept | apply State.rktTaken_kept

theorem State.postRecvWqe_kept {q : List Instr} (a0 : State) (a1 : ℕ) (a2 : ℕ) (a3 : List ℕ) (h0 : Kept q a0) : Kept q (@State.postRecvWqe a0 a1 a2 a3) := by
  unfold State.postRecvWqe
  repeat' first | with_reducible (first | assumption | apply State.fetchEntry_kept | apply State.takeRecv_kept) | intro _ | split | simp only [kept_mk_iff]

theorem State.bindArg_kept {q : List Instr} (a0 : State) (a1 : ℕ) (a2 : ℕ) (h0 : Kept q a0) : Kept q (@State.bindArg a0 a1 a2) := by
  unfold State.bindArg
  repeat' first | with_reducible (first | assumption | apply State.wr_kept | apply State.rebind_kept) | intro _ | split | simp only [kept_mk_iff]

theorem State.frameDrop_kept {q : List Instr} (a0 : State) (a1 : ℕ) (h0 : Kept q a0) : Kept q (@State.frameDrop a0 a1) := by
  unfold State.frameDrop
  exact h0

theorem State.startWqe_kept {q : List Instr} (a0 : State) (a1 : ℕ) (a2 : ℕ) (a3 : Wqe) (h0 : Kept q a0) : Kept q (@State.startWqe a0 a1 a2 a3) := by
  unfold State.startWqe
  exact h0

theorem State.invalWqe_kept {q : List Instr} (a0 : State) (a1 : ℕ) (a2 : ℕ) (a3 : Wqe) (h0 : Kept q a0) : Kept q (@State.invalWqe a0 a1 a2 a3) := by
  unfold State.invalWqe
  repeat' first | with_reducible (first | assumption | apply State.endWqe_kept | apply State.settleInvals_kept | apply State.setRegion_kept | apply State.startWqe_kept) | intro _ | split | simp only [kept_mk_iff]

theorem State.timeoutCounter_kept {q : List Instr} (a0 : State) (a1 : ℕ) (h0 : Kept q a0) : Kept q (@State.timeoutCounter a0 a1) := by
  unfold State.timeoutCounter
  repeat' first | with_reducible (first | assumption | apply State.resumeAs_kept) | intro _ | split | simp only [kept_mk_iff]

theorem State.xtsRun_kept {q : List Instr} (a0 : State) (a1 : CipherReq) (a2 : Bool) (h0 : Kept q a0) : Kept q (@State.xtsRun a0 a1 a2) := by
  unfold State.xtsRun
  repeat' with_reducible first | assumption | apply State.ciDone_kept | apply State.ciWrite_kept

theorem State.announceStep_kept {q : List Instr} (a0 : State) (a1 : ℕ) (a2 : ℕ) (a3 : ℕ) (h0 : Kept q a0) : Kept q (@State.announceStep a0 a1 a2 a3) := by
  unfold State.announceStep
  repeat' first | with_reducible (first | assumption | apply State.each_kept | apply State.when_kept | apply State.missedTarget_kept | apply State.setCkp_kept) | intro _ | split | simp only [kept_mk_iff]

theorem State.step__kept {q : List Instr} (a0 : State) (a1 : ℕ) (h0 : Kept q a0) : Kept q (@State.step_ a0 a1) := by
  unfold State.step_
  repeat' first | with_reducible assumption | intro _ | extract_lets | with_reducible (first | apply kept_ite | apply kept_guarded | apply kept_foldl | apply kept_fst | apply kept_elim | apply kepto_some | exact kepto_none | apply kepte_ok | exact kepte_error | apply keptb_ok | apply keptb_error | apply kept_next | exact kept_refused | apply State.issue_kept | apply State.finish_kept | apply State.announceStep_kept) | split | simp only [kept_mk_iff] | dsimp +zetaDelta only | with_reducible (first | apply kept_set | apply kept_reg | apply kept_filter | apply kept_empty | apply kept_regs | apply kept_none)

theorem State.ret_kept {q : List Instr} (a0 : State) (a1 : ℕ) (h0 : Kept q a0) : Kept q (@State.ret a0 a1) := by
  unfold State.ret
  repeat' first | with_reducible assumption | intro _ | extract_lets | with_reducible (first | apply kept_ite | apply kept_guarded | apply kept_foldl | apply kept_fst | apply kept_elim | apply kepto_some | exact kepto_none | apply kepte_ok | exact kepte_error | apply keptb_ok | apply keptb_error | apply kept_next | exact kept_refused | apply State.issue_kept | apply State.load_kept | apply State.load_kept_of (by assumption) | apply State.finish_kept) | split | simp only [kept_mk_iff] | dsimp +zetaDelta only | with_reducible (first | apply kept_set | apply kept_reg | apply kept_filter | apply kept_empty | apply kept_regs | apply kept_none)

theorem State.voltageReached_kept {q : List Instr} (a0 : State) (h0 : Kept q a0) : Kept q (@State.voltageReached a0) := by
  unfold State.voltageReached
  repeat' first | with_reducible assumption | intro _ | extract_lets | with_reducible (first | apply kept_ite | apply kept_guarded | apply kept_foldl | apply kept_fst | apply kept_elim | apply kepto_some | exact kepto_none | apply kepte_ok | exact kepte_error | apply keptb_ok | apply keptb_error | apply kept_next | exact kept_refused | apply State.setClock_kept | apply State.emit_kept) | split | simp only [kept_mk_iff] | dsimp +zetaDelta only | with_reducible (first | apply kept_set | apply kept_reg | apply kept_filter | apply kept_empty | apply kept_regs | apply kept_none)

theorem State.runWqe_kept {q : List Instr} (a0 : State) (a1 : ℕ) (a2 : ℕ) (a3 : ℕ) (a4 : ℕ) (a5 : State → Wqe → State) (h0 : Kept q a0) (h5 : ∀ z0 z1, Kept q z0 → Kept q (a5 z0 z1)) : Kept q (@State.runWqe a0 a1 a2 a3 a4 a5) := by
  unfold State.runWqe
  repeat' first | with_reducible (first | assumption | apply h5) | intro _ | split | simp only [kept_mk_iff]

theorem State.rawSend_kept {q : List Instr} (a0 : State) (a1 : ℕ) (a2 : ℕ) (a3 : Wqe) (h0 : Kept q a0) : Kept q (@State.rawSend a0 a1 a2 a3) := by
  unfold State.rawSend
  repeat' first | with_reducible (first | assumption | apply State.startWqe_kept | apply State.endWqe_kept | apply State.readHostFor_kept | apply State.noteVia_kept | apply State.launchRaw_kept) | intro _ | split | simp only [kept_mk_iff]

theorem State.cfgStore_kept {q : List Instr} (a0 : State) (a1 : ℕ) (h0 : Kept q a0) : Kept q (@State.cfgStore a0 a1).1 := by
  unfold State.cfgStore
  repeat' first | with_reducible (first | assumption | apply State.wr_kept) | intro _ | split | simp only [kept_mk_iff]

theorem State.cfgCommand_kept {q : List Instr} (a0 : State) (a1 : ℕ) (h0 : Kept q a0) : Kept q (@State.cfgCommand a0 a1) := by
  unfold State.cfgCommand
  repeat' with_reducible first | assumption | apply State.wr_kept | apply State.cfgStore_kept

theorem State.runFirmware_kept {q : List Instr} (a0 : State) (a1 : Firmware) (h0 : Kept q a0) : Kept q (@State.runFirmware a0 a1) := by
  unfold State.runFirmware
  repeat' first | with_reducible (first | assumption | apply State.reeveRuns_kept | apply State.putHandlers_kept | apply State.each_kept | apply State.iocStart_kept | apply State.wr_kept) | intro _ | split | simp only [kept_mk_iff]

theorem State.loadPack_kept {q : List Instr} (a0 : State) (a1 : Except ℕ Firmware) (h0 : Kept q a0) : Kept q (@State.loadPack a0 a1) := by
  unfold State.loadPack
  repeat' first | with_reducible (first | assumption | apply State.endFw_kept | apply State.runFirmware_kept | apply State.wr_kept) | intro _ | split | simp only [kept_mk_iff]

theorem State.fwLoad_kept {q : List Instr} (a0 : State) (h0 : Kept q a0) : Kept q (@State.fwLoad a0) := by
  unfold State.fwLoad
  repeat' first | with_reducible (first | assumption | apply State.endFw_kept | apply State.loadPack_kept) | intro _ | split | simp only [kept_mk_iff]

theorem State.fwActivate_kept {q : List Instr} (a0 : State) (h0 : Kept q a0) : Kept q (@State.fwActivate a0) := by
  unfold State.fwActivate
  repeat' first | with_reducible (first | assumption | apply State.endFw_kept | apply State.missedTarget_kept | apply State.wr_kept) | intro _ | split | simp only [kept_mk_iff]

theorem State.fwCancel_kept {q : List Instr} (a0 : State) (h0 : Kept q a0) : Kept q (@State.fwCancel a0) := by
  unfold State.fwCancel
  repeat' first | with_reducible (first | assumption | apply State.endFw_kept | apply State.wr_kept) | intro _ | split | simp only [kept_mk_iff]

theorem State.raiseSvn_kept {q : List Instr} (a0 : State) (h0 : Kept q a0) : Kept q (@State.raiseSvn a0) := by
  unfold State.raiseSvn
  repeat' first | with_reducible (first | assumption | apply State.endFw_kept | apply State.wr_kept) | intro _ | split | simp only [kept_mk_iff]

theorem State.fwCommand_kept {q : List Instr} (a0 : State) (a1 : ℕ) (h0 : Kept q a0) : Kept q (@State.fwCommand a0 a1) := by
  unfold State.fwCommand
  repeat' first | with_reducible (first | assumption | apply State.fwLoad_kept | apply State.fwActivate_kept | apply State.fwCancel_kept | apply State.raiseSvn_kept) | intro _ | split | simp only [kept_mk_iff]

theorem State.mgtCommand_kept {q : List Instr} (a0 : State) (a1 : ℕ) (h0 : Kept q a0) : Kept q (@State.mgtCommand a0 a1) := by
  unfold State.mgtCommand
  repeat' first | with_reducible (first | assumption | apply State.cfgCommand_kept | apply State.fwCommand_kept) | intro _ | split | simp only [kept_mk_iff]

theorem State.serve_kept {q : List Instr} (a0 : State) (a1 : ℕ) (a2 : ℕ) (a3 : Bool) (a4 : State → State) (h0 : Kept q a0) (h4 : ∀ z0, Kept q z0 → Kept q (a4 z0)) : Kept q (@State.serve a0 a1 a2 a3 a4) := by
  unfold State.serve
  repeat' first | with_reducible (first | assumption | apply h4 | apply State.reply_kept) | intro _ | split | simp only [kept_mk_iff]

theorem State.signReport_kept {q : List Instr} (a0 : State) (a1 : List ℕ) (h0 : Kept q a0) : KeptO q (fun t => t.1) (@State.signReport a0 a1) := by
  unfold State.signReport
  repeat' first | with_reducible assumption | intro _ | extract_lets | with_reducible (first | apply kept_ite | apply kept_guarded | apply kept_foldl | apply kept_fst | apply kept_elim | apply kepto_some | exact kepto_none | apply kepte_ok | exact kepte_error | apply keptb_ok | apply keptb_error | apply kept_next | exact kept_refused | apply State.wr_kept | apply State.when_kept | apply State.mgtEvent_kept) | split | simp only [kept_mk_iff] | dsimp +zetaDelta only | with_reducible (first | apply kept_set | apply kept_reg | apply kept_filter | apply kept_empty | apply kept_regs | apply kept_none)

theorem State.signReport_kept_of {q : List Instr} {a0 : State} {a1 : List ℕ} {t u} (e : @State.signReport a0 a1 = some (t, u)) (h0 : Kept q a0) : Kept q t :=
  (State.signReport_kept _ _ h0).get (t, u) e

theorem State.attestChunk_kept {q : List Instr} (a0 : State) (a1 : ℕ) (a2 : ℕ) (a3 : ℕ) (h0 : Kept q a0) : Kept q (@State.attestChunk a0 a1 a2 a3) := by
  unfold State.attestChunk
  repeat' first | with_reducible (first | assumption | apply State.reply_kept | apply State.signReport_kept | apply State.signReport_kept_of (by assumption)) | intro _ | split | simp only [kept_mk_iff]

theorem orKeep_kept {q : List Instr} (a0 : State) (a1 : Option State) (h0 : Kept q a0) (h1 : KeptO q (fun t => t) a1) : KeptB q (orKeep a0 a1) := by
  unfold orKeep
  split
  · exact keptb_ok (h1.get _ rfl)
  · exact keptb_error h0
theorem State.cpdq_kept {q : List Instr} (a0 : State) (a1 : ℕ) (a2 : CForm) (a3 : Bool) (h0 : Kept q a0) : Kept q (@State.cpdq a0 a1 a2 a3) := by
  unfold State.cpdq
  repeat' first | with_reducible (first | assumption | apply State.enqueue_kept | apply orKeep_kept | apply State.offerCpd_kept | apply State.offerCpd_kept_of (by assumption) | apply State.when_kept | apply State.cpyErr_kept) | intro _ | split | simp only [kept_mk_iff]

theorem State.attestGo_kept {q : List Instr} (a0 : State) (h0 : Kept q a0) : Kept q (@State.attestGo a0) := by
  unfold State.attestGo
  repeat' first | with_reducible (first | assumption | apply State.wr_kept | apply State.signReport_kept | apply State.signReport_kept_of (by assumption) | apply State.putBytes_kept) | intro _ | split | simp only [kept_mk_iff]

theorem State.writeOpen_kept {q : List Instr} (a0 : State) (a1 : Src) (a2 : ℕ) (a3 : ℕ) (h0 : Kept q a0) : Kept q (@State.writeOpen a0 a1 a2 a3) := by
  unfold State.writeOpen
  repeat' first | with_reducible (first | assumption | apply State.unsup_kept | apply State.wr_kept) | intro _ | split | simp only [kept_mk_iff]

theorem RegAcc.openWord_kept {q : List Instr} (a0 : RegAcc) (a1 : State) (h1 : Kept q a1) : Kept q (@RegAcc.openWord a0 a1) := by
  unfold RegAcc.openWord
  repeat' first | with_reducible (first | assumption | apply State.writeOpen_kept | apply RegAcc.generic_kept | apply RegAcc.deny_kept) | intro _ | split | simp only [kept_mk_iff]

theorem RegAcc.mgt_kept {q : List Instr} (a0 : RegAcc) (a1 : State) (h1 : Kept q a1) : Kept q (@RegAcc.mgt a0 a1) := by
  unfold RegAcc.mgt
  repeat' first | with_reducible (first | assumption | apply State.mgtCommand_kept | apply RegAcc.deny_kept | apply State.attestGo_kept | apply RegAcc.openWord_kept | apply RegAcc.generic_kept) | intro _ | split | simp only [kept_mk_iff]

theorem State.challenge_kept {q : List Instr} (a0 : State) (h0 : Kept q a0) : Kept q (@State.challenge a0) := by
  unfold State.challenge
  repeat' with_reducible first | assumption | apply State.random_kept | apply State.wr_kept

theorem State.unlock_kept {q : List Instr} (a0 : State) (h0 : Kept q a0) : Kept q (@State.unlock a0) := by
  unfold State.unlock
  repeat' first | with_reducible (first | assumption | apply State.wr_kept | apply State.tstLog_kept) | intro _ | split | simp only [kept_mk_iff]

theorem State.unlockCommand_kept {q : List Instr} (a0 : State) (a1 : ℕ) (h0 : Kept q a0) : Kept q (@State.unlockCommand a0 a1) := by
  unfold State.unlockCommand
  repeat' first | with_reducible (first | assumption | apply State.challenge_kept | apply State.unlock_kept) | intro _ | split | simp only [kept_mk_iff]

theorem State.stopLoop_kept {q : List Instr} (a0 : State) (a1 : Src) (a2 : ℕ) (a3 : ℕ) (h0 : Kept q a0) : Kept q (@State.stopLoop a0 a1 a2 a3) := by
  unfold State.stopLoop
  repeat' first | with_reducible (first | assumption | apply State.endLoop_kept | apply State.wr_kept | apply State.unsup_kept) | intro _ | split | simp only [kept_mk_iff]

theorem RegAcc.perturb_kept {q : List Instr} (a0 : RegAcc) (a1 : State) (a2 : Fld) (h1 : Kept q a1) : Kept q (@RegAcc.perturb a0 a1 a2) := by
  unfold RegAcc.perturb
  repeat' first | with_reducible (first | assumption | apply RegAcc.someFields_kept | apply RegAcc.deny_kept | apply State.tstArm_kept) | intro _ | split | simp only [kept_mk_iff]

theorem State.writeBist_kept {q : List Instr} (a0 : State) (a1 : ℕ) (h0 : Kept q a0) : Kept q (@State.writeBist a0 a1) := by
  unfold State.writeBist
  repeat' first | with_reducible (first | assumption | apply State.wr_kept) | intro _ | split | simp only [kept_mk_iff]

theorem RegAcc.tst_kept {q : List Instr} (a0 : RegAcc) (a1 : State) (h1 : Kept q a1) : Kept q (@RegAcc.tst a0 a1) := by
  unfold RegAcc.tst
  repeat' first | with_reducible (first | assumption | apply kept_ite | apply RegAcc.deny_kept | apply State.unlockCommand_kept | apply State.allOff_kept | apply State.startLoop_kept | apply State.stopLoop_kept | apply RegAcc.perturb_kept | apply State.writeLate_kept | apply State.writeInject_kept | apply State.writeBist_kept | apply RegAcc.generic_kept) | intro _ | extract_lets | split | simp only [kept_mk_iff] | dsimp +zetaDelta only

theorem RegAcc.full_kept {q : List Instr} (a0 : RegAcc) (a1 : State) (h1 : Kept q a1) : Kept q (@RegAcc.full a0 a1) := by
  unfold RegAcc.full
  repeat' first | with_reducible (first | assumption | apply RegAcc.mgt_kept | apply RegAcc.tst_kept | apply RegAcc.store_kept) | intro _ | split | simp only [kept_mk_iff]

theorem State.regWrite_kept {q : List Instr} (a0 : State) (a1 : Src) (a2 : ℕ) (a3 : ℕ) (a4 : ℕ) (h0 : Kept q a0) : Kept q (@State.regWrite a0 a1 a2 a3 a4) := by
  unfold State.regWrite
  repeat' with_reducible first | assumption | apply State.regWriteBy_kept | apply RegAcc.full_kept

theorem State.store_kept {q : List Instr} (a0 : State) (a1 : ℕ) (a2 : Ctx) (a3 : ℕ) (a4 : ℕ) (a5 : ℕ) (h0 : Kept q a0) : KeptE q (fun t => t.1) (@State.store a0 a1 a2 a3 a4 a5) := by
  unfold State.store
  repeat' first | with_reducible assumption | intro _ | extract_lets | with_reducible (first | apply kept_ite | apply kept_guarded | apply kept_foldl | apply kept_fst | apply kept_elim | apply kepto_some | exact kepto_none | apply kepte_ok | exact kepte_error | apply keptb_ok | apply keptb_error | apply kept_next | exact kept_refused | apply State.memCost_kept | apply State.place_kept | apply State.regCost_kept | apply State.regWrite_kept) | split | simp only [kept_mk_iff] | dsimp +zetaDelta only | with_reducible (first | apply kept_set | apply kept_reg | apply kept_filter | apply kept_empty | apply kept_regs | apply kept_none)

theorem State.store_kept_of {q : List Instr} {a0 : State} {a1 : ℕ} {a2 : Ctx} {a3 : ℕ} {a4 : ℕ} {a5 : ℕ} {t u} (e : @State.store a0 a1 a2 a3 a4 a5 = .ok (t, u)) (h0 : Kept q a0) : Kept q t :=
  (State.store_kept _ _ _ _ _ _ h0).get (t, u) e

theorem State.push_kept {q : List Instr} (a0 : State) (a1 : ℕ) (a2 : BitVec 12) (h0 : Kept q a0) : Kept q (@State.push a0 a1 a2) := by
  unfold State.push
  repeat' first | with_reducible assumption | intro _ | extract_lets | with_reducible (first | apply kept_ite | apply kept_guarded | apply kept_foldl | apply kept_fst | apply kept_elim | apply kepto_some | exact kepto_none | apply kepte_ok | exact kepte_error | apply keptb_ok | apply keptb_error | apply kept_next | exact kept_refused | apply State.issue_kept | apply State.store_kept | apply State.store_kept_of (by assumption) | apply State.finish_kept) | split | simp only [kept_mk_iff] | dsimp +zetaDelta only | with_reducible (first | apply kept_set | apply kept_reg | apply kept_filter | apply kept_empty | apply kept_regs | apply kept_none)

theorem State.loadedMop_kept {q : List Instr} (a0 : State) (a1 : ℕ) (a2 : ℕ) (a3 : Mop) (h0 : Kept q a0) : Kept q (@State.loadedMop a0 a1 a2 a3) := by
  unfold State.loadedMop
  exact h0

theorem State.beginReplay_kept {q : List Instr} (a0 : State) (a1 : ℕ) (a2 : ℕ) (a3 : Replay) (h0 : Kept q a0) : Kept q (@State.beginReplay a0 a1 a2 a3) := by
  unfold State.beginReplay
  repeat' first | with_reducible (first | assumption | apply kept_ite | apply kept_foldl | apply kept_elim | apply State.setReplay_kept | apply State.setSlot_kept | apply State.setCopy_kept | apply State.setCtx_kept | apply State.setMopLog_kept | apply State.acceptMop_kept | apply State.tryResume_kept | apply State.releaseLog_kept) | intro _ | extract_lets | split | simp only [kept_mk_iff] | dsimp +zetaDelta only

theorem State.startReplay_kept {q : List Instr} (a0 : State) (a1 : ℕ) (h0 : Kept q a0) : Kept q (@State.startReplay a0 a1) := by
  unfold State.startReplay
  repeat' first | with_reducible (first | assumption | apply State.beginReplay_kept) | intro _ | split | simp only [kept_mk_iff]

theorem State.frameLost_kept {q : List Instr} (a0 : State) (a1 : ℕ) (h0 : Kept q a0) : Kept q (@State.frameLost a0 a1) := by
  unfold State.frameLost
  repeat' first | with_reducible (first | assumption | apply State.frameMissed_kept) | intro _ | split | simp only [kept_mk_iff]

theorem State.registerRegion_kept {q : List Instr} (a0 : State) (a1 : ℕ) (a2 : ℕ) (a3 : Wqe) (h0 : Kept q a0) : Kept q (@State.registerRegion a0 a1 a2 a3) := by
  unfold State.registerRegion
  repeat' with_reducible first | assumption | apply State.endWqe_kept | apply State.setRegion_kept

theorem State.regWqe_kept {q : List Instr} (a0 : State) (a1 : ℕ) (a2 : ℕ) (a3 : Wqe) (h0 : Kept q a0) : Kept q (@State.regWqe a0 a1 a2 a3) := by
  unfold State.regWqe
  repeat' first | with_reducible (first | assumption | apply State.endWqe_kept | apply State.registerRegion_kept) | intro _ | split | simp only [kept_mk_iff]

theorem State.fire_kept {q : List Instr} (a0 : State) (a1 : ℕ) (a2 : ℕ) (a3 : ℕ) (a4 : Bool) (h0 : Kept q a0) : Kept q (@State.fire a0 a1 a2 a3 a4) := by
  unfold State.fire
  repeat' first | with_reducible (first | assumption | apply State.setRecvs_kept | apply State.setWqes_kept) | intro _ | split | simp only [kept_mk_iff]

theorem State.clearRecv_kept {q : List Instr} (a0 : State) (a1 : ℕ) (a2 : ℕ) (h0 : Kept q a0) : Kept q (@State.clearRecv a0 a1 a2) := by
  unfold State.clearRecv
  repeat' first | with_reducible assumption | intro _ | extract_lets | with_reducible (first | apply kept_ite | apply kept_guarded | apply kept_foldl | apply kept_fst | apply kept_elim | apply kepto_some | exact kepto_none | apply kepte_ok | exact kepte_error | apply keptb_ok | apply keptb_error | apply kept_next | exact kept_refused | apply State.flushRecv_kept | apply State.fire_kept) | split | simp only [kept_mk_iff] | dsimp +zetaDelta only | with_reducible (first | apply kept_set | apply kept_reg | apply kept_filter | apply kept_empty | apply kept_regs | apply kept_none)

theorem State.tryRetrains_kept {q : List Instr} (a0 : State) (h0 : Kept q a0) : Kept q (@State.tryRetrains a0) := by
  unfold State.tryRetrains
  repeat' first | with_reducible (first | assumption | apply kept_ite | apply kept_foldl | apply kept_elim | apply State.tryRetrain_kept) | intro _ | extract_lets | split | simp only [kept_mk_iff] | dsimp +zetaDelta only

theorem State.occupy_kept {q : List Instr} (a0 : State) (a1 : ℕ) (a2 : ℕ) (a3 : ℕ) (h0 : Kept q a0) : Kept q (@State.occupy a0 a1 a2 a3) := by
  unfold State.occupy
  repeat' with_reducible first | assumption | apply State.pfcSend_kept | apply State.setPort_kept

theorem State.drainIngress_kept {q : List Instr} (a0 : State) (h0 : Kept q a0) : Kept q (@State.drainIngress a0) := by
  unfold State.drainIngress
  repeat' first | with_reducible (first | assumption | apply kept_ite | apply kept_foldl | apply kept_elim | apply State.occupy_kept | apply State.draw_kept) | intro _ | extract_lets | split | simp only [kept_mk_iff] | dsimp +zetaDelta only

theorem State.tick_kept {q : List Instr} (a0 : State) (h0 : Kept q a0) : Kept q (@State.tick a0) := by
  unfold State.tick
  repeat' first | with_reducible assumption | intro _ | extract_lets | with_reducible (first | apply kept_ite | apply kept_guarded | apply kept_foldl | apply kept_fst | apply kept_elim | apply kepto_some | exact kepto_none | apply kepte_ok | exact kepte_error | apply keptb_ok | apply keptb_error | apply kept_next | exact kept_refused | apply State.tryRetrains_kept | apply State.drainIngress_kept | apply State.settleTests_kept | apply State.settleEngines_kept) | split | simp only [kept_mk_iff] | dsimp +zetaDelta only | with_reducible (first | apply kept_set | apply kept_reg | apply kept_filter | apply kept_empty | apply kept_regs | apply kept_none)

theorem State.endCpd_kept {q : List Instr} (a0 : State) (a1 : ℕ) (a2 : Cpd) (a3 : ℕ) (h0 : Kept q a0) : Kept q (@State.endCpd a0 a1 a2 a3) := by
  unfold State.endCpd
  repeat' first | with_reducible (first | assumption | apply kept_ite | apply kept_foldl | apply kept_elim | apply State.commitBells_kept | apply State.postCpd_kept | apply State.setCopy_kept | apply State.tryResume_kept) | intro _ | extract_lets | split | simp only [kept_mk_iff] | dsimp +zetaDelta only

theorem State.endHubCopies_kept {q : List Instr} (a0 : State) (a1 : ℕ) (h0 : Kept q a0) : Kept q (@State.endHubCopies a0 a1) := by
  unfold State.endHubCopies
  repeat' first | with_reducible assumption | intro _ | extract_lets | with_reducible (first | apply kept_ite | apply kept_guarded | apply kept_foldl | apply kept_fst | apply kept_elim | apply kepto_some | exact kepto_none | apply kepte_ok | exact kepte_error | apply keptb_ok | apply keptb_error | apply kept_next | exact kept_refused | apply State.endCpd_kept) | split | simp only [kept_mk_iff] | dsimp +zetaDelta only | with_reducible (first | apply kept_set | apply kept_reg | apply kept_filter | apply kept_empty | apply kept_regs | apply kept_none)

theorem State.endHubWriters_kept {q : List Instr} (a0 : State) (a1 : ℕ) (h0 : Kept q a0) : Kept q (@State.endHubWriters a0 a1) := by
  unfold State.endHubWriters
  repeat' first | with_reducible assumption | intro _ | extract_lets | with_reducible (first | apply kept_ite | apply kept_guarded | apply kept_foldl | apply kept_fst | apply kept_elim | apply kepto_some | exact kepto_none | apply kepte_ok | exact kepte_error | apply keptb_ok | apply keptb_error | apply kept_next | exact kept_refused | apply State.endConnWriters_kept | apply State.endBlkWriters_kept | apply State.endHubCopies_kept | apply State.each_kept | apply State.when_kept | apply State.wr_kept) | split | simp only [kept_mk_iff] | dsimp +zetaDelta only | with_reducible (first | apply kept_set | apply kept_reg | apply kept_filter | apply kept_empty | apply kept_regs | apply kept_none)

theorem State.hitTarget_kept {q : List Instr} (a0 : State) (a1 : ℕ) (a2 : ℕ) (a3 : ℕ) (a4 : ℕ × ℕ) (h0 : Kept q a0) : Kept q (@State.hitTarget a0 a1 a2 a3 a4) := by
  unfold State.hitTarget
  repeat' first | with_reducible (first | assumption | apply State.beginInject_kept | apply State.faultBy_kept | apply State.hitAtEdge_kept | apply State.when_kept | apply State.endHubWriters_kept) | intro _ | split | simp only [kept_mk_iff]

theorem State.pathUp_kept {q : List Instr} (a0 : State) (a1 : ℕ) (h0 : Kept q a0) : Kept q (@State.pathUp a0 a1) := by
  unfold State.pathUp
  repeat' first | with_reducible (first | assumption | apply kept_ite | apply kept_foldl | apply kept_elim | apply State.setPath_kept | apply State.rktEvent_kept | apply State.wr_kept | apply State.asyncEvent_kept | apply State.setConn_kept | apply State.sendAck_kept | apply State.when_kept | apply State.sendResync_kept | apply State.resend_kept) | intro _ | extract_lets | split | simp only [kept_mk_iff] | dsimp +zetaDelta only

theorem State.probeAnswered_kept {q : List Instr} (a0 : State) (a1 : ℕ) (a2 : RktPkt) (h0 : Kept q a0) : Kept q (@State.probeAnswered a0 a1 a2) := by
  unfold State.probeAnswered
  repeat' first | with_reducible (first | assumption | apply State.pathUp_kept | apply State.setPath_kept) | intro _ | split | simp only [kept_mk_iff]

theorem State.powerSample_kept {q : List Instr} (a0 : State) (a1 : ℕ) (a2 : ℕ) (h0 : Kept q a0) : Kept q (@State.powerSample a0 a1 a2) := by
  unfold State.powerSample
  repeat' first | with_reducible (first | assumption | apply State.wr_kept | apply State.when_kept | apply State.inc_kept | apply State.pwrEvent_kept) | intro _ | split | simp only [kept_mk_iff]

theorem State.sourceEdge_kept {q : List Instr} (a0 : State) (a1 : ℤ) (h0 : Kept q a0) : Kept q (@State.sourceEdge a0 a1) := by
  unfold State.sourceEdge
  repeat' first | with_reducible (first | assumption | apply State.wr_kept) | intro _ | split | simp only [kept_mk_iff]

theorem State.bellIn_kept {q : List Instr} (a0 : State) (a1 : ℕ) (h0 : Kept q a0) : Kept q (@State.bellIn a0 a1) := by
  unfold State.bellIn
  repeat' first | with_reducible (first | assumption | apply State.sourceMiss_kept | apply State.sourceEdge_kept) | intro _ | split | simp only [kept_mk_iff]

theorem State.onConn_kept {q : List Instr} (a0 : State) (a1 : ℕ) (a2 : ℕ) (a3 : Wqe) (a4 : State → ℕ → State) (h0 : Kept q a0) (h4 : ∀ z0 z1, Kept q z0 → Kept q (a4 z0 z1)) : Kept q (@State.onConn a0 a1 a2 a3 a4) := by
  unfold State.onConn
  repeat' first | with_reducible (first | assumption | apply h4 | apply State.endWqe_kept | apply State.startWqe_kept) | intro _ | split | simp only [kept_mk_iff]

theorem State.fireInject_kept {q : List Instr} (a0 : State) (a1 : ℕ) (a2 : ℕ) (a3 : ℕ) (h0 : Kept q a0) : Kept q (@State.fireInject a0 a1 a2 a3) := by
  unfold State.fireInject
  repeat' first | with_reducible (first | assumption | apply State.endInject_kept | apply State.hitTarget_kept) | intro _ | split | simp only [kept_mk_iff]

theorem State.takeLeaf_kept {q : List Instr} (a0 : State) (h0 : Kept q a0) : Kept q (@State.takeLeaf a0) := by
  unfold State.takeLeaf
  repeat' with_reducible first | assumption | apply State.wr_kept

theorem State.runWaiting_kept {q : List Instr} (a0 : State) (h0 : Kept q a0) : Kept q (@State.runWaiting a0) := by
  unfold State.runWaiting
  repeat' first | with_reducible (first | assumption | apply kept_ite | apply kept_foldl | apply kept_elim | apply State.unlockCommand_kept | apply State.cfgCommand_kept | apply State.fwCommand_kept | apply State.carryOut_kept) | intro _ | extract_lets | split | simp only [kept_mk_iff] | dsimp +zetaDelta only

theorem State.reeveBack_kept {q : List Instr} (a0 : State) (h0 : Kept q a0) : Kept q (@State.reeveBack a0) := by
  unfold State.reeveBack
  repeat' first | with_reducible (first | assumption | apply State.takeLeaf_kept | apply State.wr_kept | apply State.reeveRuns_kept | apply State.pumpCmds_kept | apply State.runWaiting_kept) | intro _ | split | simp only [kept_mk_iff]

theorem State.restartReeve_kept {q : List Instr} (a0 : State) (h0 : Kept q a0) : Kept q (@State.restartReeve a0) := by
  unfold State.restartReeve
  repeat' first | with_reducible (first | assumption | apply State.reeveBack_kept) | intro _ | split | simp only [kept_mk_iff]

theorem State.postMop_kept {q : List Instr} (a0 : State) (a1 : ℕ) (a2 : ℕ) (a3 : Mop) (a4 : ℕ) (h0 : Kept q a0) : Kept q (@State.postMop a0 a1 a2 a3 a4) := by
  unfold State.postMop
  repeat' first | with_reducible (first | assumption | apply State.tally_kept | apply State.writeStatus_kept | apply State.when_kept | apply State.postCqe_kept | apply State.bump_kept | apply State.inc_kept | apply State.meErr_kept) | intro _ | split | simp only [kept_mk_iff]

theorem State.completeMop_kept {q : List Instr} (a0 : State) (a1 : ℕ) (a2 : ℕ) (a3 : ℕ) (h0 : Kept q a0) : Kept q (@State.completeMop a0 a1 a2 a3) := by
  unfold State.completeMop
  repeat' first | with_reducible (first | assumption | apply State.setSlot_kept | apply State.tryResume_kept | apply State.commitBells_kept | apply State.postMop_kept | apply State.storeCells_kept) | intro _ | split | simp only [kept_mk_iff]

theorem State.readEvents_kept {q : List Instr} (a0 : State) (a1 : ℕ) (h0 : Kept q a0) : Kept q (@State.readEvents a0 a1) := by
  unfold State.readEvents
  repeat' first | with_reducible assumption | intro _ | extract_lets | with_reducible (first | apply kept_ite | apply kept_guarded | apply kept_foldl | apply kept_fst | apply kept_elim | apply kepto_some | exact kepto_none | apply kepte_ok | exact kepte_error | apply keptb_ok | apply keptb_error | apply kept_next | exact kept_refused | apply State.reply_kept | apply State.each_kept | apply State.wr_kept) | split | simp only [kept_mk_iff] | dsimp +zetaDelta only | with_reducible (first | apply kept_set | apply kept_reg | apply kept_filter | apply kept_empty | apply kept_regs | apply kept_none)

theorem State.address_kept {q : List Instr} (a0 : State) (a1 : ℕ) (a2 : MForm) (a3 : Ctx → BitVec 32 → Ctx) (h0 : Kept q a0) : Kept q (@State.address a0 a1 a2 a3) := by
  unfold State.address
  repeat' first | with_reducible assumption | intro _ | extract_lets | with_reducible (first | apply kept_ite | apply kept_guarded | apply kept_foldl | apply kept_fst | apply kept_elim | apply kepto_some | exact kepto_none | apply kepte_ok | exact kepte_error | apply keptb_ok | apply keptb_error | apply kept_next | exact kept_refused | apply State.issue_kept | apply State.finish_kept) | split | simp only [kept_mk_iff] | dsimp +zetaDelta only | with_reducible (first | apply kept_set | apply kept_reg | apply kept_filter | apply kept_empty | apply kept_regs | apply kept_none)

theorem State.volCore_kept {q : List Instr} (a0 : State) (a1 : BlkCmd) (h0 : Kept q a0) : Kept q (@State.volCore a0 a1) := by
  unfold State.volCore
  repeat' first | with_reducible assumption | intro _ | extract_lets | with_reducible (first | apply kept_ite | apply kept_guarded | apply kept_foldl | apply kept_fst | apply kept_elim | apply kepto_some | exact kepto_none | apply kepte_ok | exact kepte_error | apply keptb_ok | apply keptb_error | apply kept_next | exact kept_refused | apply State.when_kept | apply State.useCore_kept) | split | simp only [kept_mk_iff] | dsimp +zetaDelta only | with_reducible (first | apply kept_set | apply kept_reg | apply kept_filter | apply kept_empty | apply kept_regs | apply kept_none)

theorem State.gcmEnc_kept {q : List Instr} (a0 : State) (a1 : CipherReq) (a2 : ℕ) (h0 : Kept q a0) : Kept q (@State.gcmEnc a0 a1 a2) := by
  unfold State.gcmEnc
  repeat' first | with_reducible (first | assumption | apply State.ciDone_kept | apply State.gcmSeal_kept | apply State.nonce_kept) | intro _ | split | simp only [kept_mk_iff]

theorem State.floorOn_kept {q : List Instr} (a0 : State) (a1 : ℕ) (h0 : Kept q a0) : Kept q (@State.floorOn a0 a1) := by
  unfold State.floorOn
  repeat' first | with_reducible (first | assumption | apply State.applyFloor_kept) | intro _ | split | simp only [kept_mk_iff]

theorem State.overCurrent_kept {q : List Instr} (a0 : State) (h0 : Kept q a0) : Kept q (@State.overCurrent a0) := by
  unfold State.overCurrent
  repeat' first | with_reducible (first | assumption | apply State.floorOn_kept | apply State.wr_kept | apply State.when_kept | apply State.emit_kept) | intro _ | split | simp only [kept_mk_iff]

theorem State.putBitmap_kept {q : List Instr} (a0 : State) (a1 : ℕ) (a2 : BitmapWrite) (h0 : Kept q a0) : Kept q (@State.putBitmap a0 a1 a2) := by
  unfold State.putBitmap
  repeat' first | with_reducible (first | assumption | apply State.incSat_kept | apply State.emit_kept) | intro _ | split | simp only [kept_mk_iff]

theorem State.flushBitmap_kept {q : List Instr} (a0 : State) (a1 : ℕ) (h0 : Kept q a0) : Kept q (@State.flushBitmap a0 a1) := by
  unfold State.flushBitmap
  repeat' first | with_reducible (first | assumption | apply kept_ite | apply kept_foldl | apply kept_elim | apply State.putBitmap_kept | apply State.setPart_kept) | intro _ | extract_lets | split | simp only [kept_mk_iff] | dsimp +zetaDelta only

theorem State.fence_kept {q : List Instr} (a0 : State) (a1 : ℕ) (a2 : BitVec 12) (h0 : Kept q a0) : Kept q (@State.fence a0 a1 a2) := by
  unfold State.fence
  repeat' first | with_reducible assumption | intro _ | extract_lets | with_reducible (first | apply kept_ite | apply kept_guarded | apply kept_foldl | apply kept_fst | apply kept_elim | apply kepto_some | exact kepto_none | apply kepte_ok | exact kepte_error | apply keptb_ok | apply keptb_error | apply kept_next | exact kept_refused | apply State.issue_kept | apply State.finish_kept | apply State.draw_kept) | split | simp only [kept_mk_iff] | dsimp +zetaDelta only | with_reducible (first | apply kept_set | apply kept_reg | apply kept_filter | apply kept_empty | apply kept_regs | apply kept_none)

theorem State.resetReeve_kept {q : List Instr} (a0 : State) (a1 : ℕ) (h0 : Kept q a0) : Kept q (@State.resetReeve a0 a1) := by
  unfold State.resetReeve
  repeat' first | with_reducible (first | assumption | apply State.reeveFails_kept) | intro _ | split | simp only [kept_mk_iff]

theorem State.stopArray_kept {q : List Instr} (a0 : State) (a1 : ℕ) (a2 : ℕ → Fld) (h0 : Kept q a0) : Kept q (@State.stopArray a0 a1 a2) := by
  unfold State.stopArray
  repeat' with_reducible first | assumption | apply State.meErr_kept | apply State.setSlot_kept

theorem State.drainingMop_kept {q : List Instr} (a0 : State) (a1 : ℕ) (a2 : ℕ) (a3 : Mop) (h0 : Kept q a0) : Kept q (@State.drainingMop a0 a1 a2 a3) := by
  unfold State.drainingMop
  exact h0

theorem State.startDrain_kept {q : List Instr} (a0 : State) (a1 : ℕ) (a2 : ℕ) (h0 : Kept q a0) : Kept q (@State.startDrain a0 a1 a2) := by
  unfold State.startDrain
  repeat' first | with_reducible (first | assumption | apply State.stopArray_kept | apply State.drainingMop_kept) | intro _ | split | simp only [kept_mk_iff]

theorem State.bringUp_kept {q : List Instr} (a0 : State) (a1 : ℕ) (a2 : List Namespace) (h0 : Kept q a0) : Kept q (@State.bringUp a0 a1 a2) := by
  unfold State.bringUp
  repeat' first | with_reducible assumption | intro _ | extract_lets | with_reducible (first | apply kept_ite | apply kept_guarded | apply kept_foldl | apply kept_fst | apply kept_elim | apply kepto_some | exact kepto_none | apply kepte_ok | exact kepte_error | apply keptb_ok | apply keptb_error | apply kept_next | exact kept_refused | apply State.emit_kept) | split | simp only [kept_mk_iff] | dsimp +zetaDelta only | with_reducible (first | apply kept_set | apply kept_reg | apply kept_filter | apply kept_empty | apply kept_regs | apply kept_none)

theorem State.setKeySlot_kept {q : List Instr} (a0 : State) (a1 : ℕ) (a2 : ℕ) (a3 : KeySlot) (h0 : Kept q a0) : Kept q (@State.setKeySlot a0 a1 a2 a3) := by
  unfold State.setKeySlot
  exact h0

theorem State.fillSlot_kept {q : List Instr} (a0 : State) (a1 : CipherReq) (a2 : List ℕ) (h0 : Kept q a0) : Kept q (@State.fillSlot a0 a1 a2) := by
  unfold State.fillSlot
  repeat' first | with_reducible (first | assumption | apply State.ciDone_kept | apply State.setKeySlot_kept) | intro _ | split | simp only [kept_mk_iff]

theorem State.pauseBy_kept {q : List Instr} (a0 : State) (a1 : ℕ) (a2 : ℕ) (a3 : ℕ) (a4 : ℕ) (h0 : Kept q a0) : Kept q (@State.pauseBy a0 a1 a2 a3 a4) := by
  unfold State.pauseBy
  repeat' first | with_reducible (first | assumption | apply State.setPort_kept) | intro _ | split | simp only [kept_mk_iff]

theorem State.pauseFrame_kept {q : List Instr} (a0 : State) (a1 : ℕ) (h0 : Kept q a0) : Kept q (@State.pauseFrame a0 a1) := by
  unfold State.pauseFrame
  repeat' with_reducible first | assumption | apply State.fabEvent_kept | apply State.setPort_kept

theorem State.frameIn_kept {q : List Instr} (a0 : State) (a1 : ℕ) (a2 : List ℕ) (a3 : Bool) (a4 : ℕ) (a5 : Bool) (h0 : Kept q a0) : Kept q (@State.frameIn a0 a1 a2 a3 a4 a5) := by
  unfold State.frameIn
  repeat' first | with_reducible (first | assumption | apply State.frameDrop_kept | apply State.pauseFrame_kept | apply State.occupy_kept | apply State.pipeline_kept) | intro _ | split | simp only [kept_mk_iff]

theorem State.branch_kept {q : List Instr} (a0 : State) (a1 : ℕ) (a2 : BitVec 4) (a3 : BitVec 22) (h0 : Kept q a0) : Kept q (@State.branch a0 a1 a2 a3) := by
  unfold State.branch
  repeat' first | with_reducible assumption | intro _ | extract_lets | with_reducible (first | apply kept_ite | apply kept_guarded | apply kept_foldl | apply kept_fst | apply kept_elim | apply kepto_some | exact kepto_none | apply kepte_ok | exact kepte_error | apply keptb_ok | apply keptb_error | apply kept_next | exact kept_refused | apply State.issue_kept | apply State.finish_kept) | split | simp only [kept_mk_iff] | dsimp +zetaDelta only | with_reducible (first | apply kept_set | apply kept_reg | apply kept_filter | apply kept_empty | apply kept_regs | apply kept_none)

theorem State.pathDown_kept {q : List Instr} (a0 : State) (a1 : ℕ) (h0 : Kept q a0) : Kept q (@State.pathDown a0 a1) := by
  unfold State.pathDown
  repeat' with_reducible first | assumption | apply State.pathsDown_kept

theorem State.retransmit_kept {q : List Instr} (a0 : State) (a1 : ℕ) (a2 : ℕ) (a3 : Flight) (h0 : Kept q a0) : Kept q (@State.retransmit a0 a1 a2 a3) := by
  unfold State.retransmit
  repeat' first | with_reducible (first | assumption | apply State.declareLost_kept | apply State.setPath_kept | apply State.pathDown_kept) | intro _ | split | simp only [kept_mk_iff]

theorem State.rtoExpire_kept {q : List Instr} (a0 : State) (a1 : ℕ) (a2 : ℕ) (h0 : Kept q a0) : Kept q (@State.rtoExpire a0 a1 a2) := by
  unfold State.rtoExpire
  repeat' first | with_reducible (first | assumption | apply State.atTime_kept | apply State.connError_kept | apply State.sendResync_kept | apply State.retransmit_kept) | intro _ | split | simp only [kept_mk_iff]

theorem State.thaw_kept {q : List Instr} (a0 : State) (a1 : ℕ) (h0 : Kept q a0) : Kept q (@State.thaw a0 a1) := by
  unfold State.thaw
  repeat' first | with_reducible assumption | intro _ | extract_lets | with_reducible (first | apply kept_ite | apply kept_guarded | apply kept_foldl | apply kept_fst | apply kept_elim | apply kepto_some | exact kepto_none | apply kepte_ok | exact kepte_error | apply keptb_ok | apply keptb_error | apply kept_next | exact kept_refused | apply State.enterState_kept | apply State.takeSnap_kept | apply State.setCtx_kept | apply State.ungate_kept | apply State.postFront_kept | apply State.setWqes_kept | apply State.actLatched_kept | apply State.fire_kept) | split | simp only [kept_mk_iff] | dsimp +zetaDelta only | with_reducible (first | apply kept_set | apply kept_reg | apply kept_filter | apply kept_empty | apply kept_regs | apply kept_none)

theorem State.granHold_kept {q : List Instr} (a0 : State) (a1 : ℕ) (a2 : ℕ) (h0 : Kept q a0) : Kept q (@State.granHold a0 a1 a2) := by
  unfold State.granHold
  repeat' with_reducible first | assumption | apply State.write_kept | apply State.wr_kept

theorem State.granaryDrain_kept {q : List Instr} (a0 : State) (a1 : ℕ) (a2 : ℕ) (a3 : Option Bool) (h0 : Kept q a0) : Kept q (@State.granaryDrain a0 a1 a2 a3) := by
  unfold State.granaryDrain
  repeat' first | with_reducible (first | assumption | apply State.emit_kept | apply State.granHold_kept | apply State.when_kept | apply State.ckpEvent_kept) | intro _ | split | simp only [kept_mk_iff]

theorem State.reformed_kept {q : List Instr} (a0 : State) (a1 : ℕ) (a2 : Bool) (a3 : ℕ) (h0 : Kept q a0) : Kept q (@State.reformed a0 a1 a2 a3) := by
  unfold State.reformed
  repeat' first | with_reducible (first | assumption | apply State.portAsync_kept | apply State.fabEvent_kept | apply State.linkOn_kept | apply State.portDown_kept) | intro _ | split | simp only [kept_mk_iff]

theorem State.partnerReforms_kept {q : List Instr} (a0 : State) (a1 : ℕ) (a2 : ℕ) (h0 : Kept q a0) : Kept q (@State.partnerReforms a0 a1 a2) := by
  unfold State.partnerReforms
  repeat' first | with_reducible (first | assumption | apply State.when_kept | apply State.startReform_kept) | intro _ | split | simp only [kept_mk_iff]

theorem State.offerMop_kept {q : List Instr} (a0 : State) (a1 : ℕ) (a2 : Ctx) (a3 : List ℕ) (h0 : Kept q a0) : KeptO q (fun t => t) (@State.offerMop a0 a1 a2 a3) := by
  unfold State.offerMop
  repeat' first | with_reducible assumption | intro _ | extract_lets | with_reducible (first | apply kept_ite | apply kept_guarded | apply kept_foldl | apply kept_fst | apply kept_elim | apply kepto_some | exact kepto_none | apply kepte_ok | exact kepte_error | apply keptb_ok | apply keptb_error | apply kept_next | exact kept_refused | apply State.issueMop_kept) | split | simp only [kept_mk_iff] | dsimp +zetaDelta only | with_reducible (first | apply kept_set | apply kept_reg | apply kept_filter | apply kept_empty | apply kept_regs | apply kept_none)

theorem State.offerMop_kept_of {q : List Instr} {a0 : State} {a1 : ℕ} {a2 : Ctx} {a3 : List ℕ} {t} (e : @State.offerMop a0 a1 a2 a3 = some t) (h0 : Kept q a0) : Kept q t :=
  (State.offerMop_kept _ _ _ _ h0).get t e

theorem State.mediaBack_kept {q : List Instr} (a0 : State) (a1 : ℕ) (a2 : List Namespace) (a3 : ℕ) (a4 : ℕ) (h0 : Kept q a0) : Kept q (@State.mediaBack a0 a1 a2 a3 a4) := by
  unfold State.mediaBack
  repeat' first | with_reducible (first | assumption | apply State.bringUp_kept | apply State.wr_kept | apply State.medEvent_kept) | intro _ | split | simp only [kept_mk_iff]

theorem State.convert_kept {q : List Instr} (a0 : State) (a1 : ℕ) (a2 : BitVec 12) (a3 : Ctx → Fmt → Ctx) (h0 : Kept q a0) : Kept q (@State.convert a0 a1 a2 a3) := by
  unfold State.convert
  repeat' with_reducible first | assumption | apply State.register_kept

theorem State.reAlign_kept {q : List Instr} (a0 : State) (a1 : ℕ) (a2 : ℕ) (a3 : ℕ) (h0 : Kept q a0) : Kept q (@State.reAlign a0 a1 a2 a3) := by
  unfold State.reAlign
  repeat' first | with_reducible assumption | intro _ | extract_lets | with_reducible (first | apply kept_ite | apply kept_guarded | apply kept_foldl | apply kept_fst | apply kept_elim | apply kepto_some | exact kepto_none | apply kepte_ok | exact kepte_error | apply keptb_ok | apply keptb_error | apply kept_next | exact kept_refused | apply State.setBell_kept | apply State.seekPace_kept) | split | simp only [kept_mk_iff] | dsimp +zetaDelta only | with_reducible (first | apply kept_set | apply kept_reg | apply kept_filter | apply kept_empty | apply kept_regs | apply kept_none)

theorem State.windowBytes_kept {q : List Instr} (a0 : State) (a1 : ℕ) (a2 : ℕ) (a3 : ℕ) (h0 : Kept q a0) : Kept q (@State.windowBytes a0 a1 a2 a3).1 := by
  unfold State.windowBytes
  repeat' first | with_reducible assumption | intro _ | extract_lets | with_reducible (first | apply kept_ite | apply kept_guarded | apply kept_foldl | apply kept_fst | apply kept_elim | apply kepto_some | exact kepto_none | apply kepte_ok | exact kepte_error | apply keptb_ok | apply keptb_error | apply kept_next | exact kept_refused | apply State.regRead_kept) | split | simp only [kept_mk_iff] | dsimp +zetaDelta only | with_reducible (first | apply kept_set | apply kept_reg | apply kept_filter | apply kept_empty | apply kept_regs | apply kept_none)

theorem State.coreBytes_kept {q : List Instr} (a0 : State) (a1 : ℕ) (a2 : Ctx) (a3 : ℕ) (a4 : ℕ) (h0 : Kept q a0) : KeptE q (fun t => t.1) (@State.coreBytes a0 a1 a2 a3 a4) := by
  unfold State.coreBytes
  repeat' first | with_reducible assumption | intro _ | extract_lets | with_reducible (first | apply kept_ite | apply kept_guarded | apply kept_foldl | apply kept_fst | apply kept_elim | apply kepto_some | exact kepto_none | apply kepte_ok | exact kepte_error | apply keptb_ok | apply keptb_error | apply kept_next | exact kept_refused | apply State.windowBytes_kept) | split | simp only [kept_mk_iff] | dsimp +zetaDelta only | with_reducible (first | apply kept_set | apply kept_reg | apply kept_filter | apply kept_empty | apply kept_regs | apply kept_none)

theorem State.coreBytes_kept_of {q : List Instr} {a0 : State} {a1 : ℕ} {a2 : Ctx} {a3 : ℕ} {a4 : ℕ} {t u} (e : @State.coreBytes a0 a1 a2 a3 a4 = .ok (t, u)) (h0 : Kept q a0) : Kept q t :=
  (State.coreBytes_kept _ _ _ _ _ h0).get (t, u) e

theorem State.phash_kept {q : List Instr} (a0 : State) (a1 : ℕ) (a2 : CForm) (h0 : Kept q a0) : Kept q (@State.phash a0 a1 a2) := by
  unfold State.phash
  repeat' first | with_reducible assumption | intro _ | extract_lets | with_reducible (first | apply kept_ite | apply kept_guarded | apply kept_foldl | apply kept_fst | apply kept_elim | apply kepto_some | exact kepto_none | apply kepte_ok | exact kepte_error | apply keptb_ok | apply keptb_error | apply kept_next | exact kept_refused | apply State.issue_kept | apply State.coreBytes_kept | apply State.coreBytes_kept_of (by assumption) | apply State.finish_kept) | split | simp only [kept_mk_iff] | dsimp +zetaDelta only | with_reducible (first | apply kept_set | apply kept_reg | apply kept_filter | apply kept_empty | apply kept_regs | apply kept_none)

theorem State.hostReset_kept {q : List Instr} (a0 : State) (h0 : Kept q a0) : Kept q (@State.hostReset a0) := by
  unfold State.hostReset
  repeat' first | with_reducible (first | assumption | apply State.linkDown_kept | apply State.pfReset_kept) | intro _ | split | simp only [kept_mk_iff]

theorem State.wakeUp_kept {q : List Instr} (a0 : State) (a1 : Fld) (h0 : Kept q a0) : Kept q (@State.wakeUp a0 a1) := by
  unfold State.wakeUp
  repeat' first | with_reducible (first | assumption | apply State.pwrEvent_kept | apply State.wr_kept | apply State.setTransit_kept | apply State.endReq_kept) | intro _ | split | simp only [kept_mk_iff]

theorem State.wakeBy_kept {q : List Instr} (a0 : State) (a1 : ℕ) (a2 : ℕ) (a3 : ℕ) (h0 : Kept q a0) : Kept q (@State.wakeBy a0 a1 a2 a3) := by
  unfold State.wakeBy
  repeat' first | with_reducible (first | assumption | apply State.wakeUp_kept | apply State.wr_kept) | intro _ | split | simp only [kept_mk_iff]

theorem State.uncache_kept {q : List Instr} (a0 : State) (a1 : ℕ) (a2 : ℕ) (h0 : Kept q a0) : Kept q (@State.uncache a0 a1 a2) := by
  unfold State.uncache
  repeat' first | with_reducible assumption | intro _ | extract_lets | with_reducible (first | apply kept_ite | apply kept_guarded | apply kept_foldl | apply kept_fst | apply kept_elim | apply kepto_some | exact kepto_none | apply kepte_ok | exact kepte_error | apply keptb_ok | apply keptb_error | apply kept_next | exact kept_refused | apply State.each_kept | apply State.setCipherCore_kept) | split | simp only [kept_mk_iff] | dsimp +zetaDelta only | with_reducible (first | apply kept_set | apply kept_reg | apply kept_filter | apply kept_empty | apply kept_regs | apply kept_none)

theorem State.completeCipher_kept {q : List Instr} (a0 : State) (a1 : CipherReq) (a2 : ℕ) (h0 : Kept q a0) : Kept q (@State.completeCipher a0 a1 a2) := by
  unfold State.completeCipher
  repeat' first | with_reducible (first | assumption | apply State.when_kept | apply State.uncache_kept | apply State.wr_kept | apply State.ciphEvent_kept | apply State.bump_kept | apply State.postCqe_kept) | intro _ | split | simp only [kept_mk_iff]

theorem State.dmac_kept {q : List Instr} (a0 : State) (a1 : ℕ) (a2 : BitVec 12) (h0 : Kept q a0) : Kept q (@State.dmac a0 a1 a2) := by
  unfold State.dmac
  repeat' first | with_reducible assumption | intro _ | extract_lets | with_reducible (first | apply kept_ite | apply kept_guarded | apply kept_foldl | apply kept_fst | apply kept_elim | apply kepto_some | exact kepto_none | apply kepte_ok | exact kepte_error | apply keptb_ok | apply keptb_error | apply kept_next | exact kept_refused | apply State.issue_kept | apply State.load_kept | apply State.load_kept_of (by assumption) | apply State.finish_kept) | split | simp only [kept_mk_iff] | dsimp +zetaDelta only | with_reducible (first | apply kept_set | apply kept_reg | apply kept_filter | apply kept_empty | apply kept_regs | apply kept_none)

theorem State.sensorSample_kept {q : List Instr} (a0 : State) (a1 : ℕ) (a2 : ℕ) (h0 : Kept q a0) : Kept q (@State.sensorSample a0 a1 a2) := by
  unfold State.sensorSample
  repeat' first | with_reducible (first | assumption | apply State.wr_kept | apply State.when_kept | apply State.floorOn_kept) | intro _ | split | simp only [kept_mk_iff]

theorem State.nakTaken_kept {q : List Instr} (a0 : State) (a1 : ℕ) (a2 : ℕ) (a3 : ℕ) (h0 : Kept q a0) : Kept q (@State.nakTaken a0 a1 a2 a3) := by
  unfold State.nakTaken
  repeat' first | with_reducible (first | assumption | apply State.connError_kept | apply State.setConn_kept | apply State.when_kept) | intro _ | split | simp only [kept_mk_iff]

theorem State.delivered_kept {q : List Instr} (a0 : State) (a1 : ℕ) (a2 : ℕ) (h0 : Kept q a0) : Kept q (@State.delivered a0 a1 a2) := by
  unfold State.delivered
  repeat' first | with_reducible (first | assumption | apply kept_ite | apply kept_foldl | apply kept_elim | apply State.setConn_kept | apply State.endOwner_kept) | intro _ | extract_lets | split | simp only [kept_mk_iff] | dsimp +zetaDelta only

theorem State.resyncAnswered_kept {q : List Instr} (a0 : State) (a1 : ℕ) (a2 : ℕ) (a3 : ℕ) (h0 : Kept q a0) : Kept q (@State.resyncAnswered a0 a1 a2 a3) := by
  unfold State.resyncAnswered
  repeat' with_reducible first | assumption | apply State.delivered_kept | apply State.setConn_kept

theorem State.ackTaken_kept {q : List Instr} (a0 : State) (a1 : ℕ) (a2 : RktPkt) (h0 : Kept q a0) : Kept q (@State.ackTaken a0 a1 a2) := by
  unfold State.ackTaken
  repeat' first | with_reducible (first | assumption | apply kept_ite | apply kept_foldl | apply kept_elim | apply State.nakTaken_kept | apply State.resyncAnswered_kept | apply State.setConn_kept | apply State.declareLost_kept | apply State.when_kept | apply State.setPath_kept | apply State.delivered_kept) | intro _ | extract_lets | split | simp only [kept_mk_iff] | dsimp +zetaDelta only

theorem State.dropDoorbell_kept {q : List Instr} (a0 : State) (a1 : ℕ) (h0 : Kept q a0) : Kept q (@State.dropDoorbell a0 a1) := by
  unfold State.dropDoorbell
  exact h0

theorem State.doorbell_kept {q : List Instr} (a0 : State) (a1 : ℕ) (a2 : ℕ) (a3 : ℕ) (a4 : ℕ) (h0 : Kept q a0) : Kept q (@State.doorbell a0 a1 a2 a3 a4) := by
  unfold State.doorbell
  repeat' first | with_reducible (first | assumption | apply State.dropDoorbell_kept | apply State.setQueue_kept | apply State.actDoorbell_kept) | intro _ | split | simp only [kept_mk_iff]

theorem State.loadImage_kept {q : List Instr} (a0 : State) (a1 : List ℕ) (h0 : Kept q a0) : KeptO q (fun t => t) (@State.loadImage a0 a1) := by
  unfold State.loadImage
  have hl : Kept q (a0.each 16 (fun n t => t.wr (Reg.ME_LOG_CTRL_STAGGER n) (4 * n))) := State.each_kept _ _ _ h0 (fun _ _ g => State.wr_kept _ _ _ g)
  split
  · cases e : State.applyLoads (imageLoads a1) (a0.each 16 (fun n t => t.wr (Reg.ME_LOG_CTRL_STAGGER n) (4 * n))) with
    | none => exact kepto_none
    | some t =>
      have h : Kept q t := (State.applyLoads_kept _ _ hl).get t e
      exact kepto_some (kept_foldl h fun _ _ g => State.wr_kept _ _ _ g)
  · exact kepto_none
theorem State.loadImage_kept_of {q : List Instr} {a0 : State} {a1 : List ℕ} {t} (e : @State.loadImage a0 a1 = some t) (h0 : Kept q a0) : Kept q t :=
  (State.loadImage_kept _ _ h0).get t e

theorem State.configB_kept {q : List Instr} (a0 : State) (h0 : Kept q a0) : KeptO q (fun t => t) (@State.configB a0) := by
  unfold State.configB
  repeat' with_reducible first | assumption | apply State.loadImage_kept | apply State.loadImage_kept_of (by assumption) | apply State.minimal_kept

theorem State.configB_kept_of {q : List Instr} {a0 : State} {t} (e : @State.configB a0 = some t) (h0 : Kept q a0) : Kept q t :=
  (State.configB_kept _ h0).get t e

theorem State.interrupt_kept {q : List Instr} (a0 : State) (a1 : ℕ) (a2 : ℕ) (h0 : Kept q a0) : Kept q (@State.interrupt a0 a1 a2) := by
  unfold State.interrupt
  repeat' first | with_reducible (first | assumption | apply State.takeExc_kept) | intro _ | split | simp only [kept_mk_iff]

theorem State.storeReg_kept {q : List Instr} (a0 : State) (a1 : ℕ) (a2 : MForm) (a3 : Bool) (a4 : Ctx → ℕ) (h0 : Kept q a0) : Kept q (@State.storeReg a0 a1 a2 a3 a4) := by
  unfold State.storeReg
  repeat' first | with_reducible assumption | intro _ | extract_lets | with_reducible (first | apply kept_ite | apply kept_guarded | apply kept_foldl | apply kept_fst | apply kept_elim | apply kepto_some | exact kepto_none | apply kepte_ok | exact kepte_error | apply keptb_ok | apply keptb_error | apply kept_next | exact kept_refused | apply State.issue_kept | apply State.store_kept | apply State.store_kept_of (by assumption) | apply State.finish_kept) | split | simp only [kept_mk_iff] | dsimp +zetaDelta only | with_reducible (first | apply kept_set | apply kept_reg | apply kept_filter | apply kept_empty | apply kept_regs | apply kept_none)

theorem State.releaseCounter_kept {q : List Instr} (a0 : State) (a1 : ℕ) (h0 : Kept q a0) : Kept q (@State.releaseCounter a0 a1) := by
  unfold State.releaseCounter
  repeat' first | with_reducible (first | assumption | apply State.resumeAs_kept) | intro _ | split | simp only [kept_mk_iff]

theorem State.waitCounter_kept {q : List Instr} (a0 : State) (a1 : ℕ) (a2 : BitVec 12) (h0 : Kept q a0) : Kept q (@State.waitCounter a0 a1 a2) := by
  unfold State.waitCounter
  repeat' first | with_reducible assumption | intro _ | extract_lets | with_reducible (first | apply kept_ite | apply kept_guarded | apply kept_foldl | apply kept_fst | apply kept_elim | apply kepto_some | exact kepto_none | apply kepte_ok | exact kepte_error | apply keptb_ok | apply keptb_error | apply kept_next | exact kept_refused | apply State.issue_kept | apply State.owedLess_kept | apply State.freezeCtx_kept | apply State.releaseCounter_kept | apply State.setCtx_kept) | split | simp only [kept_mk_iff] | dsimp +zetaDelta only | with_reducible (first | apply kept_set | apply kept_reg | apply kept_filter | apply kept_empty | apply kept_regs | apply kept_none)

theorem State.trained_kept {q : List Instr} (a0 : State) (a1 : ℕ) (a2 : ℕ) (a3 : Bool) (h0 : Kept q a0) : Kept q (@State.trained a0 a1 a2 a3) := by
  unfold State.trained
  repeat' first | with_reducible (first | assumption | apply State.wr_kept | apply State.when_kept | apply State.pciEvent_kept) | intro _ | split | simp only [kept_mk_iff]

theorem State.clearSend_kept {q : List Instr} (a0 : State) (a1 : ℕ) (a2 : ℕ) (h0 : Kept q a0) : Kept q (@State.clearSend a0 a1 a2) := by
  unfold State.clearSend
  repeat' first | with_reducible assumption | intro _ | extract_lets | with_reducible (first | apply kept_ite | apply kept_guarded | apply kept_foldl | apply kept_fst | apply kept_elim | apply kepto_some | exact kepto_none | apply kepte_ok | exact kepte_error | apply keptb_ok | apply keptb_error | apply kept_next | exact kept_refused | apply State.fire_kept | apply State.setQueue_kept | apply State.flushSend_kept) | split | simp only [kept_mk_iff] | dsimp +zetaDelta only | with_reducible (first | apply kept_set | apply kept_reg | apply kept_filter | apply kept_empty | apply kept_regs | apply kept_none)

theorem State.clearQueue_kept {q : List Instr} (a0 : State) (a1 : ℕ) (a2 : ℕ) (a3 : ℕ) (h0 : Kept q a0) : Kept q (@State.clearQueue a0 a1 a2 a3) := by
  unfold State.clearQueue
  repeat' first | with_reducible assumption | intro _ | extract_lets | with_reducible (first | apply kept_ite | apply kept_guarded | apply kept_foldl | apply kept_fst | apply kept_elim | apply kepto_some | exact kepto_none | apply kepte_ok | exact kepte_error | apply keptb_ok | apply keptb_error | apply kept_next | exact kept_refused | apply State.clearSend_kept | apply State.clearRecv_kept | apply State.resetQueue_kept) | split | simp only [kept_mk_iff] | dsimp +zetaDelta only | with_reducible (first | apply kept_set | apply kept_reg | apply kept_filter | apply kept_empty | apply kept_regs | apply kept_none)

theorem State.resetBy_kept {q : List Instr} (a0 : State) (a1 : ℕ) (a2 : State → State) (h0 : Kept q a0) (h2 : ∀ z0, Kept q z0 → Kept q (a2 z0)) : Kept q (@State.resetBy a0 a1 a2) := by
  unfold State.resetBy
  repeat' first | with_reducible (first | assumption | apply h2 | apply State.unsup_kept) | intro _ | split | simp only [kept_mk_iff]

theorem State.freeze_kept {q : List Instr} (a0 : State) (a1 : ℕ) (h0 : Kept q a0) : Kept q (@State.freeze a0 a1) := by
  unfold State.freeze
  repeat' first | with_reducible (first | assumption | apply kept_ite | apply kept_foldl | apply kept_elim | apply State.enterState_kept | apply State.setPart_kept | apply State.freezeCtx_kept | apply State.tryFrozen_kept) | intro _ | extract_lets | split | simp only [kept_mk_iff] | dsimp +zetaDelta only

theorem State.noteExtreme_kept {q : List Instr} (a0 : State) (a1 : ℕ) (h0 : Kept q a0) : Kept q (@State.noteExtreme a0 a1) := by
  unfold State.noteExtreme
  exact h0

theorem State.sampleAll_kept {q : List Instr} (a0 : State) (h0 : Kept q a0) : Kept q (@State.sampleAll a0) := by
  unfold State.sampleAll
  repeat' first | with_reducible (first | assumption | apply State.each_kept | apply State.noteExtreme_kept) | intro _ | split | simp only [kept_mk_iff]

theorem State.stageWrite_kept {q : List Instr} (a0 : State) (a1 : BlkCmd) (h0 : Kept q a0) : Kept q (@State.stageWrite a0 a1) := by
  unfold State.stageWrite
  repeat' first | with_reducible assumption | intro _ | extract_lets | with_reducible (first | apply kept_ite | apply kept_guarded | apply kept_foldl | apply kept_fst | apply kept_elim | apply kepto_some | exact kepto_none | apply kepte_ok | exact kepte_error | apply keptb_ok | apply keptb_error | apply kept_next | exact kept_refused | apply State.blkEnd_kept | apply State.notePieces_kept | apply State.setBlk_kept | apply State.readHostFor_kept | apply State.stageBytes_kept) | split | simp only [kept_mk_iff] | dsimp +zetaDelta only | with_reducible (first | apply kept_set | apply kept_reg | apply kept_filter | apply kept_empty | apply kept_regs | apply kept_none)

theorem State.endStretch_kept {q : List Instr} (a0 : State) (a1 : ℕ) (a2 : ℕ) (h0 : Kept q a0) : Kept q (@State.endStretch a0 a1 a2) := by
  unfold State.endStretch
  repeat' first | with_reducible assumption | intro _ | extract_lets | with_reducible (first | apply kept_ite | apply kept_guarded | apply kept_foldl | apply kept_fst | apply kept_elim | apply kepto_some | exact kepto_none | apply kepte_ok | exact kepte_error | apply keptb_ok | apply keptb_error | apply kept_next | exact kept_refused | apply State.atTime_kept | apply State.incSat_kept) | split | simp only [kept_mk_iff] | dsimp +zetaDelta only | with_reducible (first | apply kept_set | apply kept_reg | apply kept_filter | apply kept_empty | apply kept_regs | apply kept_none)

theorem State.auxLoss_kept {q : List Instr} (a0 : State) (h0 : Kept q a0) : Kept q (@State.auxLoss a0) := ⟨h0.1, rfl, rfl⟩
theorem State.streamedMop_kept {q : List Instr} (a0 : State) (a1 : ℕ) (a2 : ℕ) (a3 : Mop) (h0 : Kept q a0) : Kept q (@State.streamedMop a0 a1 a2 a3) := by
  unfold State.streamedMop
  repeat' first | with_reducible (first | assumption | apply State.setCredit_kept | apply State.setSlot_kept | apply State.wr_kept | apply State.when_kept | apply State.inc_kept | apply State.incSat_kept) | intro _ | split | simp only [kept_mk_iff]

theorem State.streamMop_kept {q : List Instr} (a0 : State) (a1 : ℕ) (a2 : ℕ) (h0 : Kept q a0) : Kept q (@State.streamMop a0 a1 a2) := by
  unfold State.streamMop
  repeat' first | with_reducible (first | assumption | apply State.stopArray_kept | apply State.streamedMop_kept) | intro _ | split | simp only [kept_mk_iff]

theorem State.releaseBell_kept {q : List Instr} (a0 : State) (a1 : ℕ) (h0 : Kept q a0) : Kept q (@State.releaseBell a0 a1) := by
  unfold State.releaseBell
  repeat' first | with_reducible (first | assumption | apply State.releaseFor_kept) | intro _ | split | simp only [kept_mk_iff]

theorem State.prebiasOn_kept {q : List Instr} (a0 : State) (a1 : ℕ) (h0 : Kept q a0) : Kept q (@State.prebiasOn a0 a1) := by
  unfold State.prebiasOn
  repeat' first | with_reducible (first | assumption | apply State.atTime_kept | apply State.emit_kept) | intro _ | split | simp only [kept_mk_iff]

theorem State.trap_kept {q : List Instr} (a0 : State) (a1 : ℕ) (a2 : BitVec 12) (h0 : Kept q a0) : Kept q (@State.trap a0 a1 a2) := by
  unfold State.trap
  repeat' first | with_reducible assumption | intro _ | extract_lets | with_reducible (first | apply kept_ite | apply kept_guarded | apply kept_foldl | apply kept_fst | apply kept_elim | apply kepto_some | exact kepto_none | apply kepte_ok | exact kepte_error | apply keptb_ok | apply keptb_error | apply kept_next | exact kept_refused | apply State.issue_kept | apply State.takeExc_kept) | split | simp only [kept_mk_iff] | dsimp +zetaDelta only | with_reducible (first | apply kept_set | apply kept_reg | apply kept_filter | apply kept_empty | apply kept_regs | apply kept_none)

theorem State.endTest_kept {q : List Instr} (a0 : State) (a1 : ℕ) (a2 : ℕ) (a3 : ℕ) (h0 : Kept q a0) : Kept q (@State.endTest a0 a1 a2 a3) := by
  unfold State.endTest
  repeat' first | with_reducible (first | assumption | apply State.blkEvent_kept | apply State.wr_kept | apply State.blkEnd_kept) | intro _ | split | simp only [kept_mk_iff]

theorem State.completeBsc_kept {q : List Instr} (a0 : State) (a1 : BlkCmd) (a2 : ℕ) (h0 : Kept q a0) : Kept q (@State.completeBsc a0 a1 a2) := by
  unfold State.completeBsc
  repeat' first | with_reducible (first | assumption | apply State.endTest_kept | apply State.blkEnd_kept | apply State.setBlk_kept | apply State.settleTests_kept) | intro _ | split | simp only [kept_mk_iff]

theorem State.hbEnd_kept {q : List Instr} (a0 : State) (h0 : Kept q a0) : Kept q (@State.hbEnd a0) := by
  unfold State.hbEnd
  repeat' first | with_reducible (first | assumption | apply State.atTime_kept | apply State.nextPeriod_kept | apply State.wr_kept | apply State.pciEvent_kept | apply State.quiesceSoon_kept) | intro _ | split | simp only [kept_mk_iff]

theorem State.wordWrite_kept {q : List Instr} (a0 : State) (a1 : Src) (a2 : ℕ) (a3 : ℕ) (a4 : ℕ) (a5 : ℕ) (a6 : Bool) (a7 : State → ℕ → ℕ → State) (h0 : Kept q a0) (h7 : ∀ z0 z1 z2, Kept q z0 → Kept q (a7 z0 z1 z2)) : Kept q (@State.wordWrite a0 a1 a2 a3 a4 a5 a6 a7) := by
  unfold State.wordWrite
  repeat' first | with_reducible (first | assumption | apply h7 | apply State.unsup_kept | apply State.rejectShape_kept) | intro _ | split | simp only [kept_mk_iff]

theorem State.msixWrite_kept {q : List Instr} (a0 : State) (a1 : ℕ) (a2 : ℕ) (a3 : ℕ) (h0 : Kept q a0) : Kept q (@State.msixWrite a0 a1 a2 a3) := by
  unfold State.msixWrite
  repeat' first | with_reducible (first | assumption | apply State.setVector_kept | apply State.when_kept | apply State.sendMsix_kept) | intro _ | split | simp only [kept_mk_iff]

theorem State.writeRecord_kept {q : List Instr} (a0 : State) (a1 : ℕ) (a2 : ℕ) (a3 : ℕ) (a4 : ℕ) (a5 : ℕ) (h0 : Kept q a0) : Kept q (@State.writeRecord a0 a1 a2 a3 a4 a5) := by
  unfold State.writeRecord
  repeat' first | with_reducible (first | assumption | apply State.setQueue_kept | apply State.clearQueue_kept | apply State.setPart_kept) | intro _ | split | simp only [kept_mk_iff]

theorem State.vfWrite_kept {q : List Instr} (a0 : State) (a1 : ℕ) (a2 : ℕ) (a3 : ℕ) (h0 : Kept q a0) : Kept q (@State.vfWrite a0 a1 a2 a3) := by
  unfold State.vfWrite
  repeat' first | with_reducible (first | assumption | apply State.dropDoorbell_kept | apply State.doorbell_kept | apply State.writeRecord_kept | apply State.unsup_kept) | intro _ | split | simp only [kept_mk_iff]

theorem State.busWrite_kept {q : List Instr} (a0 : State) (a1 : Src) (a2 : ℕ) (a3 : ℕ) (a4 : ℕ) (h0 : Kept q a0) : Kept q (@State.busWrite a0 a1 a2 a3 a4) := by
  unfold State.busWrite
  repeat' first | with_reducible (first | assumption | apply State.wordWrite_kept | apply State.msixWrite_kept | apply State.regWrite_kept | apply State.vfWrite_kept) | intro _ | split | simp only [kept_mk_iff]

theorem State.adopt_kept {q : List Instr} (a0 : State) (a1 : BellFrame) (a2 : ℤ) (h0 : Kept q a0) : Kept q (@State.adopt a0 a1 a2) := by
  unfold State.adopt
  repeat' first | with_reducible (first | assumption | apply State.edge_kept | apply State.reAlign_kept) | intro _ | split | simp only [kept_mk_iff]

theorem State.announce_kept {q : List Instr} (a0 : State) (a1 : ℕ) (a2 : ℕ) (h0 : Kept q a0) : Kept q (@State.announce a0 a1 a2) := by
  unfold State.announce
  repeat' first | with_reducible assumption | intro _ | extract_lets | with_reducible (first | apply kept_ite | apply kept_guarded | apply kept_foldl | apply kept_fst | apply kept_elim | apply kepto_some | exact kepto_none | apply kepte_ok | exact kepte_error | apply keptb_ok | apply keptb_error | apply kept_next | exact kept_refused) | split | simp only [kept_mk_iff] | dsimp +zetaDelta only | with_reducible (first | apply kept_set | apply kept_reg | apply kept_filter | apply kept_empty | apply kept_regs | apply kept_none)

theorem State.adoptParams_kept {q : List Instr} (a0 : State) (a1 : BellFrame) (a2 : ℤ) (a3 : Bool) (h0 : Kept q a0) : Kept q (@State.adoptParams a0 a1 a2 a3) := by
  unfold State.adoptParams
  repeat' first | with_reducible (first | assumption | apply State.reAlign_kept | apply State.announce_kept) | intro _ | split | simp only [kept_mk_iff]

theorem State.acceptFrame_kept {q : List Instr} (a0 : State) (a1 : BellFrame) (a2 : ℕ) (a3 : Bool) (h0 : Kept q a0) : Kept q (@State.acceptFrame a0 a1 a2 a3) := by
  unfold State.acceptFrame
  repeat' first | with_reducible (first | assumption | apply kept_ite | apply State.when_kept | apply State.bellEvent_kept | apply State.missFrame_kept | apply State.wr_kept | apply State.adopt_kept | apply State.frameMissed_kept | apply State.sourceEdge_kept | apply State.adoptParams_kept | apply State.sendFrame_kept) | intro _ | extract_lets | split | simp only [kept_mk_iff] | dsimp +zetaDelta only

theorem State.demote_kept {q : List Instr} (a0 : State) (h0 : Kept q a0) : Kept q (@State.demote a0) := by
  unfold State.demote
  repeat' first | with_reducible (first | assumption | apply State.wr_kept) | intro _ | split | simp only [kept_mk_iff]

theorem State.frameBell_kept {q : List Instr} (a0 : State) (a1 : BellFrame) (a2 : ℕ) (h0 : Kept q a0) : Kept q (@State.frameBell a0 a1 a2) := by
  unfold State.frameBell
  repeat' first | with_reducible (first | assumption | apply State.rktDrop_kept | apply State.frameMissed_kept | apply State.badParam_kept | apply State.acceptFrame_kept | apply State.demote_kept) | intro _ | split | simp only [kept_mk_iff]

theorem State.bellInMissed_kept {q : List Instr} (a0 : State) (a1 : ℕ) (h0 : Kept q a0) : Kept q (@State.bellInMissed a0 a1) := by
  unfold State.bellInMissed
  repeat' first | with_reducible (first | assumption | apply State.sourceMiss_kept) | intro _ | split | simp only [kept_mk_iff]

theorem State.becomeMaster_kept {q : List Instr} (a0 : State) (h0 : Kept q a0) : Kept q (@State.becomeMaster a0) := by
  unfold State.becomeMaster
  repeat' first | with_reducible (first | assumption | apply State.wr_kept | apply State.inc_kept) | intro _ | split | simp only [kept_mk_iff]

theorem State.takeReport_kept {q : List Instr} (a0 : State) (a1 : ℕ) (a2 : BellReport) (h0 : Kept q a0) : Kept q (@State.takeReport a0 a1 a2) := by
  unfold State.takeReport
  repeat' first | with_reducible (first | assumption | apply State.rktDrop_kept) | intro _ | split | simp only [kept_mk_iff]

theorem State.chosenMop_kept {q : List Instr} (a0 : State) (a1 : ℕ) (a2 : ℕ) (a3 : ℕ) (a4 : Bool) (h0 : Kept q a0) : Kept q (@State.chosenMop a0 a1 a2 a3 a4) := by
  unfold State.chosenMop
  repeat' with_reducible first | assumption | apply State.wr_kept | apply State.setCredit_kept | apply State.setSlot_kept

theorem State.chooseMop_kept {q : List Instr} (a0 : State) (a1 : ℕ) (a2 : ℕ) (h0 : Kept q a0) : Kept q (@State.chooseMop a0 a1 a2) := by
  unfold State.chooseMop
  repeat' first | with_reducible (first | assumption | apply State.chosenMop_kept) | intro _ | split | simp only [kept_mk_iff]

theorem State.loadMop_kept {q : List Instr} (a0 : State) (a1 : ℕ) (a2 : ℕ) (h0 : Kept q a0) : Kept q (@State.loadMop a0 a1 a2) := by
  unfold State.loadMop
  repeat' first | with_reducible (first | assumption | apply State.stopArray_kept | apply State.loadedMop_kept) | intro _ | split | simp only [kept_mk_iff]

theorem State.lut_kept {q : List Instr} (a0 : State) (a1 : ℕ) (a2 : MForm) (h0 : Kept q a0) : Kept q (@State.lut a0 a1 a2) := by
  unfold State.lut
  repeat' first | with_reducible assumption | intro _ | extract_lets | with_reducible (first | apply kept_ite | apply kept_guarded | apply kept_foldl | apply kept_fst | apply kept_elim | apply kepto_some | exact kepto_none | apply kepte_ok | exact kepte_error | apply keptb_ok | apply keptb_error | apply kept_next | exact kept_refused | apply State.issue_kept | apply State.finish_kept) | split | simp only [kept_mk_iff] | dsimp +zetaDelta only | with_reducible (first | apply kept_set | apply kept_reg | apply kept_filter | apply kept_empty | apply kept_regs | apply kept_none)

theorem State.decBranch_kept {q : List Instr} (a0 : State) (a1 : ℕ) (a2 : Bool) (a3 : BitVec 22) (h0 : Kept q a0) : Kept q (@State.decBranch a0 a1 a2 a3) := by
  unfold State.decBranch
  repeat' first | with_reducible assumption | intro _ | extract_lets | with_reducible (first | apply kept_ite | apply kept_guarded | apply kept_foldl | apply kept_fst | apply kept_elim | apply kepto_some | exact kepto_none | apply kepte_ok | exact kepte_error | apply keptb_ok | apply keptb_error | apply kept_next | exact kept_refused | apply State.issue_kept | apply State.finish_kept) | split | simp only [kept_mk_iff] | dsimp +zetaDelta only | with_reducible (first | apply kept_set | apply kept_reg | apply kept_filter | apply kept_empty | apply kept_regs | apply kept_none)

theorem State.jumpTo_kept {q : List Instr} (a0 : State) (a1 : ℕ) (a2 : MForm) (h0 : Kept q a0) : Kept q (@State.jumpTo a0 a1 a2) := by
  unfold State.jumpTo
  repeat' first | with_reducible assumption | intro _ | extract_lets | with_reducible (first | apply kept_ite | apply kept_guarded | apply kept_foldl | apply kept_fst | apply kept_elim | apply kepto_some | exact kepto_none | apply kepte_ok | exact kepte_error | apply keptb_ok | apply keptb_error | apply kept_next | exact kept_refused | apply State.issue_kept | apply State.finish_kept) | split | simp only [kept_mk_iff] | dsimp +zetaDelta only | with_reducible (first | apply kept_set | apply kept_reg | apply kept_filter | apply kept_empty | apply kept_regs | apply kept_none)

theorem State.call_kept {q : List Instr} (a0 : State) (a1 : ℕ) (a2 : MForm) (h0 : Kept q a0) : Kept q (@State.call a0 a1 a2) := by
  unfold State.call
  repeat' first | with_reducible assumption | intro _ | extract_lets | with_reducible (first | apply kept_ite | apply kept_guarded | apply kept_foldl | apply kept_fst | apply kept_elim | apply kepto_some | exact kepto_none | apply kepte_ok | exact kepte_error | apply keptb_ok | apply keptb_error | apply kept_next | exact kept_refused | apply State.issue_kept | apply State.store_kept | apply State.store_kept_of (by assumption) | apply State.finish_kept) | split | simp only [kept_mk_iff] | dsimp +zetaDelta only | with_reducible (first | apply kept_set | apply kept_reg | apply kept_filter | apply kept_empty | apply kept_regs | apply kept_none)

theorem State.waitBell_kept {q : List Instr} (a0 : State) (a1 : ℕ) (h0 : Kept q a0) : Kept q (@State.waitBell a0 a1) := by
  unfold State.waitBell
  repeat' first | with_reducible assumption | intro _ | extract_lets | with_reducible (first | apply kept_ite | apply kept_guarded | apply kept_foldl | apply kept_fst | apply kept_elim | apply kepto_some | exact kepto_none | apply kepte_ok | exact kepte_error | apply keptb_ok | apply keptb_error | apply kept_next | exact kept_refused | apply State.issue_kept | apply State.releaseBell_kept | apply State.owedLess_kept | apply State.setCtx_kept) | split | simp only [kept_mk_iff] | dsimp +zetaDelta only | with_reducible (first | apply kept_set | apply kept_reg | apply kept_filter | apply kept_empty | apply kept_regs | apply kept_none)

theorem State.waitTarget_kept {q : List Instr} (a0 : State) (a1 : ℕ) (h0 : Kept q a0) : Kept q (@State.waitTarget a0 a1) := by
  unfold State.waitTarget
  repeat' first | with_reducible assumption | intro _ | extract_lets | with_reducible (first | apply kept_ite | apply kept_guarded | apply kept_foldl | apply kept_fst | apply kept_elim | apply kepto_some | exact kepto_none | apply kepte_ok | exact kepte_error | apply keptb_ok | apply keptb_error | apply kept_next | exact kept_refused | apply State.issue_kept | apply State.releaseTarget_kept | apply State.owedLess_kept | apply State.setCtx_kept) | split | simp only [kept_mk_iff] | dsimp +zetaDelta only | with_reducible (first | apply kept_set | apply kept_reg | apply kept_filter | apply kept_empty | apply kept_regs | apply kept_none)

theorem State.readCounter_kept {q : List Instr} (a0 : State) (a1 : ℕ) (a2 : BitVec 12) (h0 : Kept q a0) : Kept q (@State.readCounter a0 a1 a2) := by
  unfold State.readCounter
  repeat' with_reducible first | assumption | apply State.register_kept

theorem State.pop_kept {q : List Instr} (a0 : State) (a1 : ℕ) (a2 : BitVec 12) (h0 : Kept q a0) : Kept q (@State.pop a0 a1 a2) := by
  unfold State.pop
  repeat' first | with_reducible assumption | intro _ | extract_lets | with_reducible (first | apply kept_ite | apply kept_guarded | apply kept_foldl | apply kept_fst | apply kept_elim | apply kepto_some | exact kepto_none | apply kepte_ok | exact kepte_error | apply keptb_ok | apply keptb_error | apply kept_next | exact kept_refused | apply State.issue_kept | apply State.load_kept | apply State.load_kept_of (by assumption) | apply State.finish_kept) | split | simp only [kept_mk_iff] | dsimp +zetaDelta only | with_reducible (first | apply kept_set | apply kept_reg | apply kept_filter | apply kept_empty | apply kept_regs | apply kept_none)

theorem State.mtsr_kept {q : List Instr} (a0 : State) (a1 : ℕ) (a2 : BitVec 12) (h0 : Kept q a0) : Kept q (@State.mtsr a0 a1 a2) := by
  unfold State.mtsr
  repeat' first | with_reducible assumption | intro _ | extract_lets | with_reducible (first | apply kept_ite | apply kept_guarded | apply kept_foldl | apply kept_fst | apply kept_elim | apply kepto_some | exact kepto_none | apply kepte_ok | exact kepte_error | apply keptb_ok | apply keptb_error | apply kept_next | exact kept_refused | apply State.issue_kept | apply State.finish_kept) | split | simp only [kept_mk_iff] | dsimp +zetaDelta only | with_reducible (first | apply kept_set | apply kept_reg | apply kept_filter | apply kept_empty | apply kept_regs | apply kept_none)

theorem State.halt_kept {q : List Instr} (a0 : State) (a1 : ℕ) (h0 : Kept q a0) : Kept q (@State.halt a0 a1) := by
  unfold State.halt
  repeat' first | with_reducible assumption | intro _ | extract_lets | with_reducible (first | apply kept_ite | apply kept_guarded | apply kept_foldl | apply kept_fst | apply kept_elim | apply kepto_some | exact kepto_none | apply kepte_ok | exact kepte_error | apply keptb_ok | apply keptb_error | apply kept_next | exact kept_refused | apply State.issue_kept | apply State.haltCtx_kept) | split | simp only [kept_mk_iff] | dsimp +zetaDelta only | with_reducible (first | apply kept_set | apply kept_reg | apply kept_filter | apply kept_empty | apply kept_regs | apply kept_none)

theorem State.restartWatchdog_kept {q : List Instr} (a0 : State) (a1 : ℕ) (h0 : Kept q a0) : Kept q (@State.restartWatchdog a0 a1) := by
  unfold State.restartWatchdog
  repeat' first | with_reducible assumption | intro _ | extract_lets | with_reducible (first | apply kept_ite | apply kept_guarded | apply kept_foldl | apply kept_fst | apply kept_elim | apply kepto_some | exact kepto_none | apply kepte_ok | exact kepte_error | apply keptb_ok | apply keptb_error | apply kept_next | exact kept_refused | apply State.issue_kept | apply State.finish_kept) | split | simp only [kept_mk_iff] | dsimp +zetaDelta only | with_reducible (first | apply kept_set | apply kept_reg | apply kept_filter | apply kept_empty | apply kept_regs | apply kept_none)

theorem State.mopq_kept {q : List Instr} (a0 : State) (a1 : ℕ) (a2 : CForm) (a3 : Bool) (h0 : Kept q a0) : Kept q (@State.mopq a0 a1 a2 a3) := by
  unfold State.mopq
  repeat' first | with_reducible (first | assumption | apply State.enqueue_kept | apply orKeep_kept | apply State.offerMop_kept | apply State.offerMop_kept_of (by assumption)) | intro _ | split | simp only [kept_mk_iff]

theorem State.mestat_kept {q : List Instr} (a0 : State) (a1 : ℕ) (h0 : Kept q a0) : Kept q (@State.mestat a0 a1) := by
  unfold State.mestat
  repeat' with_reducible first | assumption | apply State.register_kept

theorem State.pcsum_kept {q : List Instr} (a0 : State) (a1 : ℕ) (a2 : CForm) (h0 : Kept q a0) : Kept q (@State.pcsum a0 a1 a2) := by
  unfold State.pcsum
  repeat' first | with_reducible assumption | intro _ | extract_lets | with_reducible (first | apply kept_ite | apply kept_guarded | apply kept_foldl | apply kept_fst | apply kept_elim | apply kepto_some | exact kepto_none | apply kepte_ok | exact kepte_error | apply keptb_ok | apply keptb_error | apply kept_next | exact kept_refused | apply State.issue_kept | apply State.coreBytes_kept | apply State.coreBytes_kept_of (by assumption) | apply State.finish_kept) | split | simp only [kept_mk_iff] | dsimp +zetaDelta only | with_reducible (first | apply kept_set | apply kept_reg | apply kept_filter | apply kept_empty | apply kept_regs | apply kept_none)

theorem State.submit_kept {q : List Instr} (a0 : State) (a1 : List ℕ) (h0 : Kept q a0) : Kept q (@State.submit a0 a1).1 := by
  unfold State.submit
  exact h0

theorem State.pcls_kept {q : List Instr} (a0 : State) (a1 : ℕ) (a2 : CForm) (a3 : Bool) (h0 : Kept q a0) : Kept q (@State.pcls a0 a1 a2 a3) := by
  unfold State.pcls
  repeat' first | with_reducible assumption | intro _ | extract_lets | with_reducible (first | apply kept_ite | apply kept_guarded | apply kept_foldl | apply kept_fst | apply kept_elim | apply kepto_some | exact kepto_none | apply kepte_ok | exact kepte_error | apply keptb_ok | apply keptb_error | apply kept_next | exact kept_refused | apply State.issue_kept | apply State.coreBytes_kept | apply State.coreBytes_kept_of (by assumption) | apply State.draw_kept | apply State.finish_kept | apply State.setCtx_kept | apply State.submit_kept) | split | simp only [kept_mk_iff] | dsimp +zetaDelta only | with_reducible (first | apply kept_set | apply kept_reg | apply kept_filter | apply kept_empty | apply kept_regs | apply kept_none)

theorem State.releaseStall_kept {q : List Instr} (a0 : State) (a1 : ℕ) (h0 : Kept q a0) : Kept q (@State.releaseStall a0 a1) := by
  unfold State.releaseStall
  repeat' first | with_reducible (first | assumption | apply State.resumeAs_kept | apply State.offerMop_kept | apply State.offerMop_kept_of (by assumption) | apply State.offerCpd_kept | apply State.offerCpd_kept_of (by assumption) | apply State.takeCiph_kept | apply State.submit_kept) | intro _ | split | simp only [kept_mk_iff]

theorem State.ilkTake_kept {q : List Instr} (a0 : State) (a1 : ℕ) (a2 : ℕ) (a3 : ℕ) (h0 : Kept q a0) : Kept q (@State.ilkTake a0 a1 a2 a3) := by
  unfold State.ilkTake
  repeat' first | with_reducible assumption | intro _ | extract_lets | with_reducible (first | apply kept_ite | apply kept_guarded | apply kept_foldl | apply kept_fst | apply kept_elim | apply kepto_some | exact kepto_none | apply kepte_ok | exact kepte_error | apply keptb_ok | apply keptb_error | apply kept_next | exact kept_refused | apply State.reachChunk_kept) | split | simp only [kept_mk_iff] | dsimp +zetaDelta only | with_reducible (first | apply kept_set | apply kept_reg | apply kept_filter | apply kept_empty | apply kept_regs | apply kept_none)

theorem State.startRemote_kept {q : List Instr} (a0 : State) (a1 : ℕ) (a2 : Cpd) (h0 : Kept q a0) : Kept q (@State.startRemote a0 a1 a2) := by
  unfold State.startRemote
  repeat' first | with_reducible assumption | intro _ | extract_lets | with_reducible (first | apply kept_ite | apply kept_guarded | apply kept_foldl | apply kept_fst | apply kept_elim | apply kepto_some | exact kepto_none | apply kepte_ok | exact kepte_error | apply keptb_ok | apply keptb_error | apply kept_next | exact kept_refused | apply State.setCopy_kept | apply State.noteReads_kept | apply State.when_kept | apply State.ilkTake_kept | apply State.handMessage_kept) | split | simp only [kept_mk_iff] | dsimp +zetaDelta only | with_reducible (first | apply kept_set | apply kept_reg | apply kept_filter | apply kept_empty | apply kept_regs | apply kept_none)

theorem State.startCpd_kept {q : List Instr} (a0 : State) (a1 : ℕ) (h0 : Kept q a0) : Kept q (@State.startCpd a0 a1) := by
  unfold State.startCpd
  repeat' first | with_reducible (first | assumption | apply State.setCopy_kept | apply State.holdWrite_kept | apply State.startRemote_kept) | intro _ | split | simp only [kept_mk_iff]

theorem State.releaseHeld_kept {q : List Instr} (a0 : State) (h0 : Kept q a0) : Kept q (@State.releaseHeld a0) := by
  unfold State.releaseHeld
  repeat' first | with_reducible (first | assumption | apply kept_ite | apply kept_foldl | apply kept_elim | apply State.releaseOne_kept) | intro _ | extract_lets | split | simp only [kept_mk_iff] | dsimp +zetaDelta only

theorem State.copyRows_kept {q : List Instr} (a0 : State) (a1 : ℕ) (a2 : Cpd) (h0 : Kept q a0) : Kept q (@State.copyRows a0 a1 a2).1 := by
  unfold State.copyRows
  repeat' first | with_reducible (first | assumption | apply kept_ite | apply kept_foldl | apply kept_elim | apply State.moveRows_kept | apply State.inc_kept | apply State.when_kept | apply State.ilkTake_kept) | intro _ | extract_lets | split | simp only [kept_mk_iff] | dsimp +zetaDelta only

theorem State.completeCpd_kept {q : List Instr} (a0 : State) (a1 : ℕ) (a2 : ℕ) (h0 : Kept q a0) : Kept q (@State.completeCpd a0 a1 a2) := by
  unfold State.completeCpd
  repeat' first | with_reducible (first | assumption | apply State.endCpd_kept | apply State.holdCpd_kept | apply State.copyRows_kept) | intro _ | split | simp only [kept_mk_iff]

theorem State.ckpEnded_kept {q : List Instr} (a0 : State) (a1 : ℕ) (a2 : ℕ) (a3 : ℕ) (a4 : ℕ) (h0 : Kept q a0) : Kept q (@State.ckpEnded a0 a1 a2 a3 a4) := by
  unfold State.ckpEnded
  repeat' first | with_reducible (first | assumption | apply State.ckpAbort_kept | apply State.ckpFeed_kept | apply State.setCkp_kept | apply State.ckpPut_kept | apply State.wr_kept | apply State.ckpEvent_kept) | intro _ | split | simp only [kept_mk_iff]

theorem State.loseBadLines_kept {q : List Instr} (a0 : State) (a1 : ℕ) (h0 : Kept q a0) : Kept q (@State.loseBadLines a0 a1) := by
  unfold State.loseBadLines
  repeat' first | with_reducible (first | assumption) | intro _ | split | simp only [kept_mk_iff]

theorem State.switchDevice_kept {q : List Instr} (a0 : State) (h0 : Kept q a0) : Kept q (@State.switchDevice a0) := by
  unfold State.switchDevice
  repeat' first | with_reducible (first | assumption | apply State.loseBadLines_kept | apply State.moveDevice_kept | apply State.setPromoting_kept) | intro _ | split | simp only [kept_mk_iff]

theorem State.suddenLoss_kept {q : List Instr} (a0 : State) (a1 : ℕ) (h0 : Kept q a0) : Kept q (@State.suddenLoss a0 a1) := by
  unfold State.suddenLoss
  repeat' first | with_reducible (first | assumption | apply State.memErr_kept | apply State.setPromoting_kept | apply State.noStandby_kept | apply State.loseDevice_kept) | intro _ | split | simp only [kept_mk_iff]

theorem State.packKeys_kept {q : List Instr} (a0 : State) (h0 : Kept q a0) : Kept q (@State.packKeys a0) := by
  unfold State.packKeys
  repeat' first | with_reducible assumption | intro _ | extract_lets | with_reducible (first | apply kept_ite | apply kept_guarded | apply kept_foldl | apply kept_fst | apply kept_elim | apply kepto_some | exact kepto_none | apply kepte_ok | exact kepte_error | apply keptb_ok | apply keptb_error | apply kept_next | exact kept_refused | apply State.wr_kept) | split | simp only [kept_mk_iff] | dsimp +zetaDelta only | with_reducible (first | apply kept_set | apply kept_reg | apply kept_filter | apply kept_empty | apply kept_regs | apply kept_none)

theorem State.takeShares_kept {q : List Instr} (a0 : State) (a1 : ℕ) (a2 : Grants) (h0 : Kept q a0) : Kept q (@State.takeShares a0 a1 a2) := by
  unfold State.takeShares
  repeat' first | with_reducible (first | assumption | apply State.each_kept | apply State.writeShare_kept) | intro _ | split | simp only [kept_mk_iff]

theorem State.createPart_kept {q : List Instr} (a0 : State) (a1 : ℕ) (a2 : Grants) (h0 : Kept q a0) : Kept q (@State.createPart a0 a1 a2) := by
  unfold State.createPart
  repeat' first | with_reducible (first | assumption | apply State.zero_kept | apply State.setPart_kept | apply State.enterState_kept | apply State.packKeys_kept | apply State.makePartKey_kept | apply State.takeShares_kept) | intro _ | split | simp only [kept_mk_iff]

theorem State.eraseSlots_kept {q : List Instr} (a0 : State) (a1 : ℕ) (a2 : ℕ) (h0 : Kept q a0) : Kept q (@State.eraseSlots a0 a1 a2) := by
  unfold State.eraseSlots
  repeat' first | with_reducible assumption | intro _ | extract_lets | with_reducible (first | apply kept_ite | apply kept_guarded | apply kept_foldl | apply kept_fst | apply kept_elim | apply kepto_some | exact kepto_none | apply kepte_ok | exact kepte_error | apply keptb_ok | apply keptb_error | apply kept_next | exact kept_refused | apply State.each_kept | apply State.setCipherCore_kept) | split | simp only [kept_mk_iff] | dsimp +zetaDelta only | with_reducible (first | apply kept_set | apply kept_reg | apply kept_filter | apply kept_empty | apply kept_regs | apply kept_none)

theorem State.changeGrants_kept {q : List Instr} (a0 : State) (a1 : ℕ) (a2 : Grants) (h0 : Kept q a0) : Kept q (@State.changeGrants a0 a1 a2) := by
  unfold State.changeGrants
  repeat' with_reducible first | assumption | apply State.zero_kept | apply State.settleShrink_kept | apply State.packKeys_kept | apply State.eraseSlots_kept | apply State.takeShares_kept | apply State.setPart_kept

theorem State.unbind_kept {q : List Instr} (a0 : State) (a1 : ℕ) (h0 : Kept q a0) : Kept q (@State.unbind a0 a1) := by
  unfold State.unbind
  repeat' first | with_reducible assumption | intro _ | extract_lets | with_reducible (first | apply kept_ite | apply kept_guarded | apply kept_foldl | apply kept_fst | apply kept_elim | apply kepto_some | exact kepto_none | apply kepte_ok | exact kepte_error | apply keptb_ok | apply keptb_error | apply kept_next | exact kept_refused | apply State.setCtx_kept | apply State.wr_kept | apply State.rebind_kept) | split | simp only [kept_mk_iff] | dsimp +zetaDelta only | with_reducible (first | apply kept_set | apply kept_reg | apply kept_filter | apply kept_empty | apply kept_regs | apply kept_none)

theorem State.dropKeys_kept {q : List Instr} (a0 : State) (a1 : ℕ) (h0 : Kept q a0) : Kept q (@State.dropKeys a0 a1) := by
  unfold State.dropKeys
  repeat' first | with_reducible assumption | intro _ | extract_lets | with_reducible (first | apply kept_ite | apply kept_guarded | apply kept_foldl | apply kept_fst | apply kept_elim | apply kepto_some | exact kepto_none | apply kepte_ok | exact kepte_error | apply keptb_ok | apply keptb_error | apply kept_next | exact kept_refused | apply State.wr_kept | apply State.each_kept | apply State.setCipherCore_kept) | split | simp only [kept_mk_iff] | dsimp +zetaDelta only | with_reducible (first | apply kept_set | apply kept_reg | apply kept_filter | apply kept_empty | apply kept_regs | apply kept_none)

theorem State.destroyPart_kept {q : List Instr} (a0 : State) (a1 : ℕ) (h0 : Kept q a0) : Kept q (@State.destroyPart a0 a1) := by
  unfold State.destroyPart
  repeat' first | with_reducible (first | assumption | apply kept_ite | apply kept_foldl | apply kept_elim | apply State.stopWork_kept | apply State.unbind_kept | apply State.dropKeys_kept | apply State.zero_kept | apply State.takeShares_kept | apply State.enterState_kept | apply State.wr_kept | apply State.setPart_kept | apply State.packKeys_kept | apply State.each_kept) | intro _ | extract_lets | split | simp only [kept_mk_iff] | dsimp +zetaDelta only

theorem State.setLogging_kept {q : List Instr} (a0 : State) (a1 : ℕ) (a2 : Bool) (a3 : Bool) (h0 : Kept q a0) : Kept q (@State.setLogging a0 a1 a2 a3) := by
  unfold State.setLogging
  repeat' with_reducible first | assumption | apply State.wr_kept | apply State.setPart_kept

theorem State.savePart_kept {q : List Instr} (a0 : State) (a1 : ℕ) (h0 : Kept q a0) : Kept q (@State.savePart a0 a1).1 := by
  unfold State.savePart
  repeat' first | with_reducible (first | assumption | apply State.hostWrite_kept | apply State.wr_kept) | intro _ | split | simp only [kept_mk_iff]

theorem State.restorePart_kept {q : List Instr} (a0 : State) (a1 : ℕ) (a2 : Blob) (h0 : Kept q a0) : Kept q (@State.restorePart a0 a1 a2) := by
  unfold State.restorePart
  repeat' first | with_reducible (first | assumption | apply kept_ite | apply kept_foldl | apply kept_elim | apply State.wr_kept | apply State.connReset_kept | apply State.setCtx_kept | apply State.setCells_kept | apply State.zero_kept | apply State.setKeySlot_kept | apply State.enterState_kept | apply State.setLogging_kept | apply State.setPart_kept) | intro _ | extract_lets | split | simp only [kept_mk_iff] | dsimp +zetaDelta only

theorem State.applyCmd_kept {q : List Instr} (a0 : State) (a1 : PartCmd) (h0 : Kept q a0) : Kept q (@State.applyCmd a0 a1).1 := by
  unfold State.applyCmd
  repeat' first | with_reducible (first | assumption | apply kept_ite | apply kept_foldl | apply kept_elim | apply State.createPart_kept | apply State.changeGrants_kept | apply State.wr_kept | apply State.setPart_kept | apply State.bindArg_kept | apply State.unbind_kept | apply State.actLatched_kept | apply State.startTc_kept | apply State.enterState_kept | apply State.freeze_kept | apply State.thaw_kept | apply State.stopWork_kept | apply State.when_kept | apply State.each_kept | apply State.onSlot_kept | apply State.abortMops_kept | apply State.commitBells_kept | apply State.abortCpds_kept | apply State.destroyPart_kept | apply State.setLogging_kept | apply State.flushBitmap_kept | apply State.savePart_kept | apply State.restorePart_kept) | intro _ | extract_lets | split | simp only [kept_mk_iff] | dsimp +zetaDelta only

theorem State.cmdEdge_kept {q : List Instr} (a0 : State) (h0 : Kept q a0) : Kept q (@State.cmdEdge a0) := by
  unfold State.cmdEdge
  repeat' first | with_reducible (first | assumption | apply State.applyCmd_kept | apply State.endCmd_kept | apply State.pumpCmds_kept) | intro _ | split | simp only [kept_mk_iff]

theorem State.bitmapWrite_kept {q : List Instr} (a0 : State) (a1 : ℕ) (h0 : Kept q a0) : Kept q (@State.bitmapWrite a0 a1) := by
  unfold State.bitmapWrite
  repeat' first | with_reducible (first | assumption | apply State.setPart_kept | apply State.putBitmap_kept) | intro _ | split | simp only [kept_mk_iff]

theorem State.readTimeout_kept {q : List Instr} (a0 : State) (a1 : ℕ) (h0 : Kept q a0) : Kept q (@State.readTimeout a0 a1) := by
  unfold State.readTimeout
  repeat' first | with_reducible (first | assumption | apply State.atTime_kept | apply State.aer_kept | apply State.readFailed_kept | apply State.quarantineTag_kept | apply State.freeRead_kept | apply State.sendHeldReads_kept | apply State.pciEvent_kept | apply State.incSat_kept) | intro _ | split | simp only [kept_mk_iff]

theorem State.endStorm_kept {q : List Instr} (a0 : State) (a1 : ℕ) (a2 : ℕ) (h0 : Kept q a0) : Kept q (@State.endStorm a0 a1 a2) := by
  unfold State.endStorm
  exact h0

theorem State.ackReceive_kept {q : List Instr} (a0 : State) (a1 : RktPkt) (h0 : Kept q a0) : Kept q (@State.ackReceive a0 a1) := by
  unfold State.ackReceive
  repeat' with_reducible first | assumption | apply State.receive_kept | apply State.ackTaken_kept

theorem State.probePath_kept {q : List Instr} (a0 : State) (a1 : ℕ) (h0 : Kept q a0) : Kept q (@State.probePath a0 a1) := by
  unfold State.probePath
  repeat' first | with_reducible (first | assumption | apply State.sendProbe_kept | apply State.setPath_kept) | intro _ | split | simp only [kept_mk_iff]

theorem State.answerProbe_kept {q : List Instr} (a0 : State) (a1 : ℕ) (a2 : RktPkt) (h0 : Kept q a0) : Kept q (@State.answerProbe a0 a1 a2) := by
  unfold State.answerProbe
  repeat' with_reducible first | assumption | apply State.sendControl_kept

theorem State.sendWqe_kept {q : List Instr} (a0 : State) (a1 : ℕ) (a2 : ℕ) (a3 : Wqe) (a4 : ℕ) (a5 : List ℕ) (h0 : Kept q a0) : Kept q (@State.sendWqe a0 a1 a2 a3 a4 a5) := by
  unfold State.sendWqe
  repeat' first | with_reducible (first | assumption | apply State.onConn_kept | apply State.endWqe_kept | apply State.noteVia_kept | apply State.handMessage_kept) | intro _ | split | simp only [kept_mk_iff]

theorem State.askWqe_kept {q : List Instr} (a0 : State) (a1 : ℕ) (a2 : ℕ) (a3 : Wqe) (a4 : ℕ) (a5 : List ℕ) (h0 : Kept q a0) : Kept q (@State.askWqe a0 a1 a2 a3 a4 a5) := by
  unfold State.askWqe
  repeat' first | with_reducible (first | assumption | apply State.onConn_kept | apply State.handMessage_kept) | intro _ | split | simp only [kept_mk_iff]

theorem State.copyWqe_kept {q : List Instr} (a0 : State) (a1 : ℕ) (a2 : ℕ) (a3 : Wqe) (h0 : Kept q a0) : Kept q (@State.copyWqe a0 a1 a2 a3) := by
  unfold State.copyWqe
  repeat' first | with_reducible (first | assumption | apply State.when_kept | apply State.cpyErr_kept | apply State.acceptCpd_kept | apply State.startWqe_kept) | intro _ | split | simp only [kept_mk_iff]

theorem State.ageAll_kept {q : List Instr} (a0 : State) (h0 : Kept q a0) : Kept q (@State.ageAll a0) := by
  unfold State.ageAll
  repeat' first | with_reducible assumption | intro _ | extract_lets | with_reducible (first | apply kept_ite | apply kept_guarded | apply kept_foldl | apply kept_fst | apply kept_elim | apply kepto_some | exact kepto_none | apply kepte_ok | exact kepte_error | apply keptb_ok | apply keptb_error | apply kept_next | exact kept_refused | apply State.ageClasses_kept) | split | simp only [kept_mk_iff] | dsimp +zetaDelta only | with_reducible (first | apply kept_set | apply kept_reg | apply kept_filter | apply kept_empty | apply kept_regs | apply kept_none)

theorem State.refillAll_kept {q : List Instr} (a0 : State) (h0 : Kept q a0) : Kept q (@State.refillAll a0) := by
  unfold State.refillAll
  repeat' first | with_reducible assumption | intro _ | extract_lets | with_reducible (first | apply kept_ite | apply kept_guarded | apply kept_foldl | apply kept_fst | apply kept_elim | apply kepto_some | exact kepto_none | apply kepte_ok | exact kepte_error | apply keptb_ok | apply keptb_error | apply kept_next | exact kept_refused) | split | simp only [kept_mk_iff] | dsimp +zetaDelta only | with_reducible (first | apply kept_set | apply kept_reg | apply kept_filter | apply kept_empty | apply kept_regs | apply kept_none)

theorem State.takeOver_kept {q : List Instr} (a0 : State) (a1 : ℕ) (h0 : Kept q a0) : Kept q (@State.takeOver a0 a1) := by
  unfold State.takeOver
  repeat' first | with_reducible (first | assumption | apply State.wr_kept | apply State.each_kept | apply State.setPort_kept | apply State.schEvent_kept) | intro _ | split | simp only [kept_mk_iff]

theorem State.takeAlmanac_kept {q : List Instr} (a0 : State) (a1 : ℕ) (h0 : Kept q a0) : Kept q (@State.takeAlmanac a0 a1) := by
  unfold State.takeAlmanac
  repeat' first | with_reducible (first | assumption | apply State.ageClasses_kept | apply State.takeOver_kept) | intro _ | split | simp only [kept_mk_iff]

theorem State.landRead_kept {q : List Instr} (a0 : State) (a1 : BlkCmd) (a2 : List ℕ) (h0 : Kept q a0) : Kept q (@State.landRead a0 a1 a2) := by
  unfold State.landRead
  repeat' first | with_reducible (first | assumption | apply State.blkEnd_kept | apply State.setBlk_kept | apply State.toBuffer_kept | apply State.volCore_kept) | intro _ | split | simp only [kept_mk_iff]

theorem State.landLog_kept {q : List Instr} (a0 : State) (a1 : BlkCmd) (a2 : List ℕ) (h0 : Kept q a0) : Kept q (@State.landLog a0 a1 a2) := by
  unfold State.landLog
  repeat' first | with_reducible (first | assumption | apply State.setBlk_kept | apply State.toBuffer_kept) | intro _ | split | simp only [kept_mk_iff]

theorem State.startTest_kept {q : List Instr} (a0 : State) (a1 : BlkCmd) (a2 : ℕ) (a3 : ℕ) (h0 : Kept q a0) : Kept q (@State.startTest a0 a1 a2 a3) := by
  unfold State.startTest
  repeat' first | with_reducible (first | assumption | apply State.emit_kept | apply State.setBlk_kept | apply State.wr_kept) | intro _ | split | simp only [kept_mk_iff]

theorem State.selfTest_kept {q : List Instr} (a0 : State) (a1 : BlkCmd) (h0 : Kept q a0) : Kept q (@State.selfTest a0 a1) := by
  unfold State.selfTest
  repeat' first | with_reducible (first | assumption | apply State.blkEnd_kept | apply State.endTest_kept | apply State.settleTests_kept | apply State.emit_kept | apply State.startTest_kept) | intro _ | split | simp only [kept_mk_iff]

theorem State.dispatchRemote_kept {q : List Instr} (a0 : State) (a1 : BlkCmd) (h0 : Kept q a0) : Kept q (@State.dispatchRemote a0 a1) := by
  unfold State.dispatchRemote
  repeat' first | with_reducible (first | assumption | apply State.blkEnd_kept | apply State.setBlk_kept | apply State.handMessage_kept | apply State.volCore_kept) | intro _ | split | simp only [kept_mk_iff]

theorem State.dispatchBsc_kept {q : List Instr} (a0 : State) (a1 : ℕ) (h0 : Kept q a0) : Kept q (@State.dispatchBsc a0 a1) := by
  unfold State.dispatchBsc
  repeat' first | with_reducible (first | assumption | apply State.blkEnd_kept | apply State.dispatchRemote_kept | apply State.emit_kept | apply State.when_kept | apply State.setBlk_kept | apply State.settleTests_kept | apply State.volCore_kept) | intro _ | split | simp only [kept_mk_iff]

theorem State.promoteBsc_kept {q : List Instr} (a0 : State) (a1 : ℕ) (a2 : ℕ) (a3 : ℕ) (h0 : Kept q a0) : Kept q (@State.promoteBsc a0 a1 a2 a3) := by
  unfold State.promoteBsc
  repeat' first | with_reducible (first | assumption | apply State.atTime_kept | apply State.incSat_kept | apply State.blkEvent_kept | apply State.setBlk_kept) | intro _ | split | simp only [kept_mk_iff]

theorem State.stopTest_kept {q : List Instr} (a0 : State) (a1 : ℕ) (h0 : Kept q a0) : Kept q (@State.stopTest a0 a1) := by
  unfold State.stopTest
  repeat' first | with_reducible assumption | intro _ | extract_lets | with_reducible (first | apply kept_ite | apply kept_guarded | apply kept_foldl | apply kept_fst | apply kept_elim | apply kepto_some | exact kepto_none | apply kepte_ok | exact kepte_error | apply keptb_ok | apply keptb_error | apply kept_next | exact kept_refused | apply State.settleTests_kept | apply State.endTest_kept | apply State.emit_kept | apply State.atTime_kept) | split | simp only [kept_mk_iff] | dsimp +zetaDelta only | with_reducible (first | apply kept_set | apply kept_reg | apply kept_filter | apply kept_empty | apply kept_regs | apply kept_none)

theorem State.fetchCipher_kept {q : List Instr} (a0 : State) (a1 : ℕ) (a2 : ℕ) (a3 : List ℕ) (h0 : Kept q a0) : Kept q (@State.fetchCipher a0 a1 a2 a3) := by
  unfold State.fetchCipher
  repeat' first | with_reducible (first | assumption | apply State.fetchEntry_kept | apply State.takeCipher_kept) | intro _ | split | simp only [kept_mk_iff]

theorem State.gcmDec_kept {q : List Instr} (a0 : State) (a1 : CipherReq) (h0 : Kept q a0) : Kept q (@State.gcmDec a0 a1) := by
  unfold State.gcmDec
  repeat' first | with_reducible (first | assumption | apply State.ciDone_kept | apply State.ciWrite_kept | apply State.gcmKeep_kept) | intro _ | split | simp only [kept_mk_iff]

theorem State.eraseSlot_kept {q : List Instr} (a0 : State) (a1 : ℕ) (a2 : ℕ) (h0 : Kept q a0) : Kept q (@State.eraseSlot a0 a1 a2) := by
  unfold State.eraseSlot
  repeat' first | with_reducible assumption | intro _ | extract_lets | with_reducible (first | apply kept_ite | apply kept_guarded | apply kept_foldl | apply kept_fst | apply kept_elim | apply kepto_some | exact kepto_none | apply kepte_ok | exact kepte_error | apply keptb_ok | apply keptb_error | apply kept_next | exact kept_refused | apply State.setKeySlot_kept) | split | simp only [kept_mk_iff] | dsimp +zetaDelta only | with_reducible (first | apply kept_set | apply kept_reg | apply kept_filter | apply kept_empty | apply kept_regs | apply kept_none)

theorem State.unwrapRun_kept {q : List Instr} (a0 : State) (a1 : CipherReq) (h0 : Kept q a0) : Kept q (@State.unwrapRun a0 a1) := by
  unfold State.unwrapRun
  repeat' first | with_reducible (first | assumption | apply State.ciDone_kept | apply State.setKeySlot_kept) | intro _ | split | simp only [kept_mk_iff]

theorem State.dropSealed_kept {q : List Instr} (a0 : State) (h0 : Kept q a0) : Kept q (@State.dropSealed a0) := by
  unfold State.dropSealed
  repeat' first | with_reducible assumption | intro _ | extract_lets | with_reducible (first | apply kept_ite | apply kept_guarded | apply kept_foldl | apply kept_fst | apply kept_elim | apply kepto_some | exact kepto_none | apply kepte_ok | exact kepte_error | apply keptb_ok | apply keptb_error | apply kept_next | exact kept_refused | apply State.connError_kept) | split | simp only [kept_mk_iff] | dsimp +zetaDelta only | with_reducible (first | apply kept_set | apply kept_reg | apply kept_filter | apply kept_empty | apply kept_regs | apply kept_none)

theorem State.eraseAll_kept {q : List Instr} (a0 : State) (h0 : Kept q a0) : Kept q (@State.eraseAll a0) := by
  unfold State.eraseAll
  repeat' first | with_reducible (first | assumption | apply kept_ite | apply kept_foldl | apply kept_elim | apply State.ciDone_kept | apply State.when_kept | apply State.ciWrite_kept | apply State.dropSealed_kept | apply State.each_kept | apply State.wr_kept) | intro _ | extract_lets | split | simp only [kept_mk_iff] | dsimp +zetaDelta only

theorem State.restoreFrom_kept {q : List Instr} (a0 : State) (a1 : ℕ) (a2 : List (List ℕ)) (a3 : List (Option (List ℕ))) (h0 : Kept q a0) : Kept q (@State.restoreFrom a0 a1 a2 a3) := by
  unfold State.restoreFrom
  repeat' first | with_reducible assumption | intro _ | extract_lets | with_reducible (first | apply kept_ite | apply kept_guarded | apply kept_foldl | apply kept_fst | apply kept_elim | apply kepto_some | exact kepto_none | apply kepte_ok | exact kepte_error | apply keptb_ok | apply keptb_error | apply kept_next | exact kept_refused | apply State.writeVia_kept | apply State.write_kept | apply State.restoreEnd_kept) | split | simp only [kept_mk_iff] | dsimp +zetaDelta only | with_reducible (first | apply kept_set | apply kept_reg | apply kept_filter | apply kept_empty | apply kept_regs | apply kept_none)

theorem State.restoreList_kept {q : List Instr} (a0 : State) (a1 : ℕ) (a2 : List (List ℕ)) (a3 : List ImageRead) (h0 : Kept q a0) : Kept q (@State.restoreList a0 a1 a2 a3) := by
  unfold State.restoreList
  repeat' first | with_reducible assumption | intro _ | extract_lets | with_reducible (first | apply kept_ite | apply kept_guarded | apply kept_foldl | apply kept_fst | apply kept_elim | apply kepto_some | exact kepto_none | apply kepte_ok | exact kepte_error | apply keptb_ok | apply keptb_error | apply kept_next | exact kept_refused | apply State.restoreEnd_kept | apply State.restoreFrom_kept) | split | simp only [kept_mk_iff] | dsimp +zetaDelta only | with_reducible (first | apply kept_set | apply kept_reg | apply kept_filter | apply kept_empty | apply kept_regs | apply kept_none)

theorem State.ckpRestore_kept {q : List Instr} (a0 : State) (a1 : ℕ) (a2 : List (List ℕ)) (a3 : List ImageRead) (h0 : Kept q a0) : Kept q (@State.ckpRestore a0 a1 a2 a3) := by
  unfold State.ckpRestore
  repeat' first | with_reducible (first | assumption | apply State.restoreEnd_kept | apply State.restoreList_kept | apply State.setCkp_kept | apply State.readHostFor_kept | apply State.wr_kept | apply State.when_kept) | intro _ | split | simp only [kept_mk_iff]

theorem State.thermStep_kept {q : List Instr} (a0 : State) (h0 : Kept q a0) : Kept q (@State.thermStep a0) := by
  unfold State.thermStep
  repeat' first | with_reducible (first | assumption | apply State.pwrEvent_kept | apply State.wr_kept) | intro _ | split | simp only [kept_mk_iff]

theorem State.startRom_kept {q : List Instr} (a0 : State) (a1 : Bool) (h0 : Kept q a0) : Kept q (@State.startRom a0 a1) := by
  unfold State.startRom
  repeat' first | with_reducible assumption | intro _ | extract_lets | with_reducible (first | apply kept_ite | apply kept_guarded | apply kept_foldl | apply kept_fst | apply kept_elim | apply kepto_some | exact kepto_none | apply kepte_ok | exact kepte_error | apply keptb_ok | apply keptb_error | apply kept_next | exact kept_refused | apply State.wr_kept | apply State.reeveRom0_kept | apply State.takeLeaf_kept) | split | simp only [kept_mk_iff] | dsimp +zetaDelta only | with_reducible (first | apply kept_set | apply kept_reg | apply kept_filter | apply kept_empty | apply kept_regs | apply kept_none)

theorem State.config_kept {q : List Instr} (a0 : State) (h0 : Kept q a0) : KeptO q (fun t => t) (@State.config a0) := by
  have hf : Kept q ({ a0.startFails 4 3 with rv := a0.rv } : State) := by
    rw [kept_mk_iff]; exact State.startFails_kept _ _ _ h0
  unfold State.config
  dsimp only
  split
  · exact kepto_some (State.minimal_kept _ _ _ h0)
  split
  · exact State.configB_kept _ h0
  split
  · rename_i e
    have ht := State.loadImage_kept_of e h0
    refine kepto_some ?_
    split
    · exact State.minimal_kept _ _ _ ht
    · exact ht
  · exact State.configB_kept _ hf
theorem State.config_kept_of {q : List Instr} {a0 : State} {t} (e : @State.config a0 = some t) (h0 : Kept q a0) : Kept q t :=
  (State.config_kept _ h0).get t e

theorem State.startSteps_kept {q : List Instr} (a0 : State) (a1 : Bool) (a2 : Found) (h0 : Kept q a0) : Kept q (@State.startSteps a0 a1 a2) := by
  unfold State.startSteps
  repeat' first | with_reducible (first | assumption | apply State.startRom_kept | apply State.startFails_kept | apply State.wr_kept | apply State.config_kept | apply State.config_kept_of (by assumption) | apply State.startRest_kept) | intro _ | split | simp only [kept_mk_iff]

theorem State.coldStart_kept {q : List Instr} (a0 : State) (a1 : Found) (h0 : Kept q a0) : Kept q (@State.coldStart a0 a1) := by
  unfold State.coldStart
  repeat' first | with_reducible (first | assumption | apply State.wipe_kept | apply State.linkDown_kept | apply State.emit_kept | apply State.startSteps_kept) | intro _ | split | simp only [kept_mk_iff]

theorem State.wakeStart_kept {q : List Instr} (a0 : State) (a1 : Found) (h0 : Kept q a0) : Kept q (@State.wakeStart a0 a1) := by
  have h : Kept q (a0.linkDown.wipe true) := State.wipe_kept _ _ (State.linkDown_kept _ h0)
  exact State.startSteps_kept _ _ _ ⟨h.1, h0.2.1, h.2.2⟩
theorem State.warmStart_kept {q : List Instr} (a0 : State) (a1 : Found) (h0 : Kept q a0) : Kept q (@State.warmStart a0 a1) := by
  unfold State.warmStart
  repeat' first | with_reducible (first | assumption | apply State.enterDeep_kept | apply State.wakeStart_kept) | intro _ | split | simp only [kept_mk_iff]

theorem State.persistLog_kept {q : List Instr} (a0 : State) (h0 : Kept q a0) : Kept q (@State.persistLog a0) := by
  unfold State.persistLog
  repeat' first | with_reducible assumption | intro _ | extract_lets | with_reducible (first | apply kept_ite | apply kept_guarded | apply kept_foldl | apply kept_fst | apply kept_elim | apply kepto_some | exact kepto_none | apply kepte_ok | exact kepte_error | apply keptb_ok | apply keptb_error | apply kept_next | exact kept_refused) | split | simp only [kept_mk_iff] | dsimp +zetaDelta only | with_reducible (first | apply kept_set | apply kept_reg | apply kept_filter | apply kept_empty | apply kept_regs | apply kept_none)

theorem State.readSensors_kept {q : List Instr} (a0 : State) (a1 : ℕ) (a2 : ℕ) (a3 : ℕ) (h0 : Kept q a0) : Kept q (@State.readSensors a0 a1 a2 a3) := by
  unfold State.readSensors
  repeat' first | with_reducible (first | assumption | apply State.reply_kept) | intro _ | split | simp only [kept_mk_iff]

theorem State.readLog_kept {q : List Instr} (a0 : State) (a1 : ℕ) (a2 : ℕ) (h0 : Kept q a0) : Kept q (@State.readLog a0 a1 a2) := by
  unfold State.readLog
  repeat' first | with_reducible (first | assumption | apply State.reply_kept | apply State.markSeen_kept) | intro _ | split | simp only [kept_mk_iff]

theorem State.handlersGoOn_kept {q : List Instr} (a0 : State) (h0 : Kept q a0) : Kept q (@State.handlersGoOn a0) := by
  unfold State.handlersGoOn
  repeat' first | with_reducible assumption | intro _ | extract_lets | with_reducible (first | apply kept_ite | apply kept_guarded | apply kept_foldl | apply kept_fst | apply kept_elim | apply kepto_some | exact kepto_none | apply kepte_ok | exact kepte_error | apply keptb_ok | apply keptb_error | apply kept_next | exact kept_refused | apply State.switched_kept | apply State.putHandlers_kept) | split | simp only [kept_mk_iff] | dsimp +zetaDelta only | with_reducible (first | apply kept_set | apply kept_reg | apply kept_filter | apply kept_empty | apply kept_regs | apply kept_none)

theorem State.switchFirmware_kept {q : List Instr} (a0 : State) (a1 : Bool) (h0 : Kept q a0) : Kept q (@State.switchFirmware a0 a1) := by
  unfold State.switchFirmware
  repeat' first | with_reducible (first | assumption | apply State.handlersGoOn_kept | apply State.deferFirmware_kept | apply State.wr_kept | apply State.endFw_kept | apply State.resetReeve_kept | apply State.newFirmware_kept) | intro _ | split | simp only [kept_mk_iff]

theorem State.endBist_kept {q : List Instr} (a0 : State) (a1 : Bool) (h0 : Kept q a0) : Kept q (@State.endBist a0 a1) := by
  unfold State.endBist
  repeat' first | with_reducible assumption | intro _ | extract_lets | with_reducible (first | apply kept_ite | apply kept_guarded | apply kept_foldl | apply kept_fst | apply kept_elim | apply kepto_some | exact kepto_none | apply kepte_ok | exact kepte_error | apply keptb_ok | apply keptb_error | apply kept_next | exact kept_refused | apply State.wr_kept | apply State.refreshSlots_kept) | split | simp only [kept_mk_iff] | dsimp +zetaDelta only | with_reducible (first | apply kept_set | apply kept_reg | apply kept_filter | apply kept_empty | apply kept_regs | apply kept_none)

theorem State.endPause_kept {q : List Instr} (a0 : State) (a1 : ℕ) (a2 : ℕ) (h0 : Kept q a0) : Kept q (@State.endPause a0 a1 a2) := by
  unfold State.endPause
  exact h0

theorem State.vfRead_kept {q : List Instr} (a0 : State) (a1 : ℕ) (a2 : ℕ) (h0 : Kept q a0) : Kept q (@State.vfRead a0 a1 a2).1 := by
  unfold State.vfRead
  repeat' first | with_reducible assumption | intro _ | extract_lets | with_reducible (first | apply kept_ite | apply kept_guarded | apply kept_foldl | apply kept_fst | apply kept_elim | apply kepto_some | exact kepto_none | apply kepte_ok | exact kepte_error | apply keptb_ok | apply keptb_error | apply kept_next | exact kept_refused | apply State.unsup_kept) | split | simp only [kept_mk_iff] | dsimp +zetaDelta only | with_reducible (first | apply kept_set | apply kept_reg | apply kept_filter | apply kept_empty | apply kept_regs | apply kept_none)

theorem State.vfReadWide_kept {q : List Instr} (a0 : State) (a1 : ℕ) (a2 : ℕ) (h0 : Kept q a0) : Kept q (@State.vfReadWide a0 a1 a2).1 := by
  unfold State.vfReadWide
  repeat' first | with_reducible assumption | intro _ | extract_lets | with_reducible (first | apply kept_ite | apply kept_guarded | apply kept_foldl | apply kept_fst | apply kept_elim | apply kepto_some | exact kepto_none | apply kepte_ok | exact kepte_error | apply keptb_ok | apply keptb_error | apply kept_next | exact kept_refused) | split | simp only [kept_mk_iff] | dsimp +zetaDelta only | with_reducible (first | apply kept_set | apply kept_reg | apply kept_filter | apply kept_empty | apply kept_regs | apply kept_none)

theorem State.stNat_kept {q : List Instr} (a0 : State) (a1 : ℕ) (a2 : ℕ) (a3 : ℕ) (h0 : Kept q a0) : Kept q (@State.stNat a0 a1 a2 a3) := by
  unfold State.stNat
  repeat' with_reducible first | assumption | apply State.setBytes_kept

end Sys2Proof.Machine
end

