-- ==== Sys2Proof/Laws/Memory.lean ====
section
/-! SUPPORT. Memory: a read after a write, and its canonical form kept by every store. -/

namespace Sys2Proof.Machine

/-- A byte outside the looped-back test buffers is stored in memory. -/
theorem State.setByte_eq {s : State} {a v : Nat} (h : gddrSize ≤ a) : s.setByte a v = { s with mem := Tab.set (0 : Byte) s.mem a (BitVec.ofNat 8 v) } := by
  simp [State.setByte, State.loopCell, h]

/-- Bytes stored at ascending addresses change memory alone: every byte outside them reads as before, each of them as stored. -/
theorem State.setBytes_eq (bs : List Nat) : ∀ {s : State} {a : Nat}, gddrSize ≤ a → ∃ mem, s.setBytes a bs = { s with mem := mem } ∧
    (∀ b, b < a ∨ a + bs.length ≤ b → Tab.get (0 : Byte) mem b = Tab.get 0 s.mem b) ∧ ∀ i, i < bs.length → Tab.get (0 : Byte) mem (a + i) = BitVec.ofNat 8 (bs.getD i 0) := by
  induction bs with
  | nil => intro s a h; exact ⟨s.mem, rfl, fun _ _ => rfl, fun i hi => absurd hi (Nat.not_lt_zero _)⟩
  | cons v r ih =>
    intro s a h
    obtain ⟨mem, h1, h2, h3⟩ := ih (s := s.setByte a v) (a := a + 1) (by omega)
    rw [State.setByte_eq h] at h1 h2
    refine ⟨mem, by simp only [State.setBytes]; rw [State.setByte_eq h]; exact h1, fun b hb => ?_, fun i hi => ?_⟩
    · rw [h2 b (by simp at hb; omega)]
      show Tab.get 0 (Tab.set 0 s.mem a _) b = _
      rw [Tab.get_set, if_neg (by simp at hb; omega)]
    · cases i with
      | zero =>
        rw [h2 _ (by omega)]
        show Tab.get 0 (Tab.set 0 s.mem a _) (a + 0) = _
        rw [Tab.get_set, if_pos (by omega)]; rfl
      | succ i =>
        have := h3 i (by simp at hi; omega)
        rw [show a + (i + 1) = a + 1 + i by omega, this]; rfl

/-- Storing a byte keeps the canonical form of memory. -/
theorem State.setByte_memWf {s : State} {a v : Nat} (h : s.memWf = true) : (s.setByte a v).memWf = true := by
  unfold State.setByte
  split
  · exact Tab.wf_set h
  · exact h

/-- Storing bytes keeps the canonical form of memory. -/
theorem State.setBytes_memWf (bs : List Nat) : ∀ {s : State} {a : Nat}, s.memWf = true → (s.setBytes a bs).memWf = true := by
  induction bs with
  | nil => exact fun h => h
  | cons v r ih => exact fun h => ih (State.setByte_memWf h)

/-- Storing a list of cells keeps the canonical form of memory. -/
theorem State.setCells_memWf (l : List (Nat × Nat)) : ∀ {s : State}, s.memWf = true → (s.setCells l).memWf = true := by
  induction l with
  | nil => exact fun h => h
  | cons e r ih => exact fun h => ih (s := _) (State.setByte_memWf h)

/-- Storing a number keeps the canonical form of memory. -/
theorem State.stNat_memWf {s : State} {a n v : Nat} (h : s.memWf = true) : (s.stNat a n v).memWf = true := State.setBytes_memWf _ h

/-- At reset memory is canonical. -/
theorem State.reset_memWf : State.reset.memWf = true := rfl

/-- A number of `n` bytes has `n` bytes. -/
theorem leBytes_length (n : Nat) : ∀ v, (leBytes n v).length = n := by
  induction n with
  | zero => intro v; rfl
  | succ n ih => intro v; simp [leBytes, ih]

/-- The bytes of a number, read back. -/
theorem leNat_leBytes (n : Nat) : ∀ v, leNat (leBytes n v) = v % 2 ^ (8 * n) := by
  induction n with
  | zero => intro v; simp [leBytes, leNat, Nat.mod_one]
  | succ n ih =>
    intro v
    simp only [leBytes, leNat, ih]
    have : 2 ^ (8 * (n + 1)) = 256 * 2 ^ (8 * n) := by rw [Nat.mul_add, Nat.pow_add]; ring
    rw [this, Nat.mod_mul]

end Sys2Proof.Machine
end

