-- ==== Sys2Proof/Laws/State.lean ====
section
/-! SUPPORT. What each update of one part of State leaves: one lemma per field per update, so that no proof unfolds a record
update. -/

namespace Sys2Proof.Machine

variable (s : State)

/-! ### emit changes out alone -/

@[simp] theorem State.emit_pending (o : Out) : (s.emit o).pending = s.pending := rfl
@[simp] theorem State.emit_now (o : Out) : (s.emit o).now = s.now := rfl
@[simp] theorem State.emit_free (o : Out) : (s.emit o).free = s.free := rfl
@[simp] theorem State.emit_regs (o : Out) : (s.emit o).regs = s.regs := rfl
@[simp] theorem State.emit_heldLow (o : Out) : (s.emit o).heldLow = s.heldLow := rfl
@[simp] theorem State.emit_latchedHigh (o : Out) : (s.emit o).latchedHigh = s.latchedHigh := rfl
@[simp] theorem State.emit_mem (o : Out) : (s.emit o).mem = s.mem := rfl
@[simp] theorem State.emit_bell (o : Out) : (s.emit o).bell = s.bell := rfl
@[simp] theorem State.emit_slots (o : Out) : (s.emit o).slots = s.slots := rfl
@[simp] theorem State.emit_credits (o : Out) : (s.emit o).credits = s.credits := rfl
@[simp] theorem State.emit_shares (o : Out) : (s.emit o).shares = s.shares := rfl
@[simp] theorem State.emit_counters (o : Out) : (s.emit o).counters = s.counters := rfl
@[simp] theorem State.emit_ctxs (o : Out) : (s.emit o).ctxs = s.ctxs := rfl
@[simp] theorem State.emit_heavy (o : Out) : (s.emit o).heavy = s.heavy := rfl
@[simp] theorem State.emit_copies (o : Out) : (s.emit o).copies = s.copies := rfl
@[simp] theorem State.emit_cpdId (o : Out) : (s.emit o).cpdId = s.cpdId := rfl
@[simp] theorem State.emit_memSt (o : Out) : (s.emit o).memSt = s.memSt := rfl
@[simp] theorem State.emit_dports (o : Out) : (s.emit o).dports = s.dports := rfl
@[simp] theorem State.emit_parts (o : Out) : (s.emit o).parts = s.parts := rfl
@[simp] theorem State.emit_partCmds (o : Out) : (s.emit o).partCmds = s.partCmds := rfl
@[simp] theorem State.emit_queues (o : Out) : (s.emit o).queues = s.queues := rfl
@[simp] theorem State.emit_pci (o : Out) : (s.emit o).pci = s.pci := rfl
@[simp] theorem State.emit_reeveInts (o : Out) : (s.emit o).reeveInts = s.reeveInts := rfl
@[simp] theorem State.emit_conns (o : Out) : (s.emit o).conns = s.conns := rfl
@[simp] theorem State.emit_paths (o : Out) : (s.emit o).paths = s.paths := rfl
@[simp] theorem State.emit_wqes (o : Out) : (s.emit o).wqes = s.wqes := rfl
@[simp] theorem State.emit_recvs (o : Out) : (s.emit o).recvs = s.recvs := rfl
@[simp] theorem State.emit_regions (o : Out) : (s.emit o).regions = s.regions := rfl
@[simp] theorem State.emit_flt (o : Out) : (s.emit o).flt = s.flt := rfl
@[simp] theorem State.emit_fab (o : Out) : (s.emit o).fab = s.fab := rfl
@[simp] theorem State.emit_blk (o : Out) : (s.emit o).blk = s.blk := rfl
@[simp] theorem State.emit_ciph (o : Out) : (s.emit o).ciph = s.ciph := rfl
@[simp] theorem State.emit_evlog (o : Out) : (s.emit o).evlog = s.evlog := rfl
@[simp] theorem State.emit_pwr (o : Out) : (s.emit o).pwr = s.pwr := rfl
@[simp] theorem State.emit_rv (o : Out) : (s.emit o).rv = s.rv := rfl
@[simp] theorem State.emit_tst (o : Out) : (s.emit o).tst = s.tst := rfl
@[simp] theorem State.emit_hostBlobs (o : Out) : (s.emit o).hostBlobs = s.hostBlobs := rfl

/-! ### wr changes regs alone -/

@[simp] theorem State.wr_pending (f : Fld) (v : Nat) : (s.wr f v).pending = s.pending := rfl
@[simp] theorem State.wr_out (f : Fld) (v : Nat) : (s.wr f v).out = s.out := rfl
@[simp] theorem State.wr_now (f : Fld) (v : Nat) : (s.wr f v).now = s.now := rfl
@[simp] theorem State.wr_free (f : Fld) (v : Nat) : (s.wr f v).free = s.free := rfl
@[simp] theorem State.wr_heldLow (f : Fld) (v : Nat) : (s.wr f v).heldLow = s.heldLow := rfl
@[simp] theorem State.wr_latchedHigh (f : Fld) (v : Nat) : (s.wr f v).latchedHigh = s.latchedHigh := rfl
@[simp] theorem State.wr_mem (f : Fld) (v : Nat) : (s.wr f v).mem = s.mem := rfl
@[simp] theorem State.wr_bell (f : Fld) (v : Nat) : (s.wr f v).bell = s.bell := rfl
@[simp] theorem State.wr_slots (f : Fld) (v : Nat) : (s.wr f v).slots = s.slots := rfl
@[simp] theorem State.wr_credits (f : Fld) (v : Nat) : (s.wr f v).credits = s.credits := rfl
@[simp] theorem State.wr_shares (f : Fld) (v : Nat) : (s.wr f v).shares = s.shares := rfl
@[simp] theorem State.wr_counters (f : Fld) (v : Nat) : (s.wr f v).counters = s.counters := rfl
@[simp] theorem State.wr_ctxs (f : Fld) (v : Nat) : (s.wr f v).ctxs = s.ctxs := rfl
@[simp] theorem State.wr_heavy (f : Fld) (v : Nat) : (s.wr f v).heavy = s.heavy := rfl
@[simp] theorem State.wr_copies (f : Fld) (v : Nat) : (s.wr f v).copies = s.copies := rfl
@[simp] theorem State.wr_cpdId (f : Fld) (v : Nat) : (s.wr f v).cpdId = s.cpdId := rfl
@[simp] theorem State.wr_memSt (f : Fld) (v : Nat) : (s.wr f v).memSt = s.memSt := rfl
@[simp] theorem State.wr_dports (f : Fld) (v : Nat) : (s.wr f v).dports = s.dports := rfl
@[simp] theorem State.wr_parts (f : Fld) (v : Nat) : (s.wr f v).parts = s.parts := rfl
@[simp] theorem State.wr_partCmds (f : Fld) (v : Nat) : (s.wr f v).partCmds = s.partCmds := rfl
@[simp] theorem State.wr_queues (f : Fld) (v : Nat) : (s.wr f v).queues = s.queues := rfl
@[simp] theorem State.wr_pci (f : Fld) (v : Nat) : (s.wr f v).pci = s.pci := rfl
@[simp] theorem State.wr_reeveInts (f : Fld) (v : Nat) : (s.wr f v).reeveInts = s.reeveInts := rfl
@[simp] theorem State.wr_conns (f : Fld) (v : Nat) : (s.wr f v).conns = s.conns := rfl
@[simp] theorem State.wr_paths (f : Fld) (v : Nat) : (s.wr f v).paths = s.paths := rfl
@[simp] theorem State.wr_wqes (f : Fld) (v : Nat) : (s.wr f v).wqes = s.wqes := rfl
@[simp] theorem State.wr_recvs (f : Fld) (v : Nat) : (s.wr f v).recvs = s.recvs := rfl
@[simp] theorem State.wr_regions (f : Fld) (v : Nat) : (s.wr f v).regions = s.regions := rfl
@[simp] theorem State.wr_flt (f : Fld) (v : Nat) : (s.wr f v).flt = s.flt := rfl
@[simp] theorem State.wr_fab (f : Fld) (v : Nat) : (s.wr f v).fab = s.fab := rfl
@[simp] theorem State.wr_blk (f : Fld) (v : Nat) : (s.wr f v).blk = s.blk := rfl
@[simp] theorem State.wr_ciph (f : Fld) (v : Nat) : (s.wr f v).ciph = s.ciph := rfl
@[simp] theorem State.wr_evlog (f : Fld) (v : Nat) : (s.wr f v).evlog = s.evlog := rfl
@[simp] theorem State.wr_pwr (f : Fld) (v : Nat) : (s.wr f v).pwr = s.pwr := rfl
@[simp] theorem State.wr_rv (f : Fld) (v : Nat) : (s.wr f v).rv = s.rv := rfl
@[simp] theorem State.wr_tst (f : Fld) (v : Nat) : (s.wr f v).tst = s.tst := rfl
@[simp] theorem State.wr_hostBlobs (f : Fld) (v : Nat) : (s.wr f v).hostBlobs = s.hostBlobs := rfl

/-! ### setSlot changes slots alone -/

@[simp] theorem State.setSlot_pending (ps : Nat) (x : Slot) : (s.setSlot ps x).pending = s.pending := rfl
@[simp] theorem State.setSlot_out (ps : Nat) (x : Slot) : (s.setSlot ps x).out = s.out := rfl
@[simp] theorem State.setSlot_now (ps : Nat) (x : Slot) : (s.setSlot ps x).now = s.now := rfl
@[simp] theorem State.setSlot_free (ps : Nat) (x : Slot) : (s.setSlot ps x).free = s.free := rfl
@[simp] theorem State.setSlot_regs (ps : Nat) (x : Slot) : (s.setSlot ps x).regs = s.regs := rfl
@[simp] theorem State.setSlot_heldLow (ps : Nat) (x : Slot) : (s.setSlot ps x).heldLow = s.heldLow := rfl
@[simp] theorem State.setSlot_latchedHigh (ps : Nat) (x : Slot) : (s.setSlot ps x).latchedHigh = s.latchedHigh := rfl
@[simp] theorem State.setSlot_mem (ps : Nat) (x : Slot) : (s.setSlot ps x).mem = s.mem := rfl
@[simp] theorem State.setSlot_bell (ps : Nat) (x : Slot) : (s.setSlot ps x).bell = s.bell := rfl
@[simp] theorem State.setSlot_credits (ps : Nat) (x : Slot) : (s.setSlot ps x).credits = s.credits := rfl
@[simp] theorem State.setSlot_shares (ps : Nat) (x : Slot) : (s.setSlot ps x).shares = s.shares := rfl
@[simp] theorem State.setSlot_counters (ps : Nat) (x : Slot) : (s.setSlot ps x).counters = s.counters := rfl
@[simp] theorem State.setSlot_ctxs (ps : Nat) (x : Slot) : (s.setSlot ps x).ctxs = s.ctxs := rfl
@[simp] theorem State.setSlot_heavy (ps : Nat) (x : Slot) : (s.setSlot ps x).heavy = s.heavy := rfl
@[simp] theorem State.setSlot_copies (ps : Nat) (x : Slot) : (s.setSlot ps x).copies = s.copies := rfl
@[simp] theorem State.setSlot_cpdId (ps : Nat) (x : Slot) : (s.setSlot ps x).cpdId = s.cpdId := rfl
@[simp] theorem State.setSlot_memSt (ps : Nat) (x : Slot) : (s.setSlot ps x).memSt = s.memSt := rfl
@[simp] theorem State.setSlot_dports (ps : Nat) (x : Slot) : (s.setSlot ps x).dports = s.dports := rfl
@[simp] theorem State.setSlot_parts (ps : Nat) (x : Slot) : (s.setSlot ps x).parts = s.parts := rfl
@[simp] theorem State.setSlot_partCmds (ps : Nat) (x : Slot) : (s.setSlot ps x).partCmds = s.partCmds := rfl
@[simp] theorem State.setSlot_queues (ps : Nat) (x : Slot) : (s.setSlot ps x).queues = s.queues := rfl
@[simp] theorem State.setSlot_pci (ps : Nat) (x : Slot) : (s.setSlot ps x).pci = s.pci := rfl
@[simp] theorem State.setSlot_reeveInts (ps : Nat) (x : Slot) : (s.setSlot ps x).reeveInts = s.reeveInts := rfl
@[simp] theorem State.setSlot_conns (ps : Nat) (x : Slot) : (s.setSlot ps x).conns = s.conns := rfl
@[simp] theorem State.setSlot_paths (ps : Nat) (x : Slot) : (s.setSlot ps x).paths = s.paths := rfl
@[simp] theorem State.setSlot_wqes (ps : Nat) (x : Slot) : (s.setSlot ps x).wqes = s.wqes := rfl
@[simp] theorem State.setSlot_recvs (ps : Nat) (x : Slot) : (s.setSlot ps x).recvs = s.recvs := rfl
@[simp] theorem State.setSlot_regions (ps : Nat) (x : Slot) : (s.setSlot ps x).regions = s.regions := rfl
@[simp] theorem State.setSlot_flt (ps : Nat) (x : Slot) : (s.setSlot ps x).flt = s.flt := rfl
@[simp] theorem State.setSlot_fab (ps : Nat) (x : Slot) : (s.setSlot ps x).fab = s.fab := rfl
@[simp] theorem State.setSlot_blk (ps : Nat) (x : Slot) : (s.setSlot ps x).blk = s.blk := rfl
@[simp] theorem State.setSlot_ciph (ps : Nat) (x : Slot) : (s.setSlot ps x).ciph = s.ciph := rfl
@[simp] theorem State.setSlot_evlog (ps : Nat) (x : Slot) : (s.setSlot ps x).evlog = s.evlog := rfl
@[simp] theorem State.setSlot_pwr (ps : Nat) (x : Slot) : (s.setSlot ps x).pwr = s.pwr := rfl
@[simp] theorem State.setSlot_rv (ps : Nat) (x : Slot) : (s.setSlot ps x).rv = s.rv := rfl
@[simp] theorem State.setSlot_tst (ps : Nat) (x : Slot) : (s.setSlot ps x).tst = s.tst := rfl
@[simp] theorem State.setSlot_hostBlobs (ps : Nat) (x : Slot) : (s.setSlot ps x).hostBlobs = s.hostBlobs := rfl

/-! ### setCtx changes ctxs alone -/

@[simp] theorem State.setCtx_pending (c : Nat) (x : Ctx) : (s.setCtx c x).pending = s.pending := rfl
@[simp] theorem State.setCtx_out (c : Nat) (x : Ctx) : (s.setCtx c x).out = s.out := rfl
@[simp] theorem State.setCtx_now (c : Nat) (x : Ctx) : (s.setCtx c x).now = s.now := rfl
@[simp] theorem State.setCtx_free (c : Nat) (x : Ctx) : (s.setCtx c x).free = s.free := rfl
@[simp] theorem State.setCtx_regs (c : Nat) (x : Ctx) : (s.setCtx c x).regs = s.regs := rfl
@[simp] theorem State.setCtx_heldLow (c : Nat) (x : Ctx) : (s.setCtx c x).heldLow = s.heldLow := rfl
@[simp] theorem State.setCtx_latchedHigh (c : Nat) (x : Ctx) : (s.setCtx c x).latchedHigh = s.latchedHigh := rfl
@[simp] theorem State.setCtx_mem (c : Nat) (x : Ctx) : (s.setCtx c x).mem = s.mem := rfl
@[simp] theorem State.setCtx_bell (c : Nat) (x : Ctx) : (s.setCtx c x).bell = s.bell := rfl
@[simp] theorem State.setCtx_slots (c : Nat) (x : Ctx) : (s.setCtx c x).slots = s.slots := rfl
@[simp] theorem State.setCtx_credits (c : Nat) (x : Ctx) : (s.setCtx c x).credits = s.credits := rfl
@[simp] theorem State.setCtx_shares (c : Nat) (x : Ctx) : (s.setCtx c x).shares = s.shares := rfl
@[simp] theorem State.setCtx_counters (c : Nat) (x : Ctx) : (s.setCtx c x).counters = s.counters := rfl
@[simp] theorem State.setCtx_heavy (c : Nat) (x : Ctx) : (s.setCtx c x).heavy = s.heavy := rfl
@[simp] theorem State.setCtx_copies (c : Nat) (x : Ctx) : (s.setCtx c x).copies = s.copies := rfl
@[simp] theorem State.setCtx_cpdId (c : Nat) (x : Ctx) : (s.setCtx c x).cpdId = s.cpdId := rfl
@[simp] theorem State.setCtx_memSt (c : Nat) (x : Ctx) : (s.setCtx c x).memSt = s.memSt := rfl
@[simp] theorem State.setCtx_dports (c : Nat) (x : Ctx) : (s.setCtx c x).dports = s.dports := rfl
@[simp] theorem State.setCtx_parts (c : Nat) (x : Ctx) : (s.setCtx c x).parts = s.parts := rfl
@[simp] theorem State.setCtx_partCmds (c : Nat) (x : Ctx) : (s.setCtx c x).partCmds = s.partCmds := rfl
@[simp] theorem State.setCtx_queues (c : Nat) (x : Ctx) : (s.setCtx c x).queues = s.queues := rfl
@[simp] theorem State.setCtx_pci (c : Nat) (x : Ctx) : (s.setCtx c x).pci = s.pci := rfl
@[simp] theorem State.setCtx_reeveInts (c : Nat) (x : Ctx) : (s.setCtx c x).reeveInts = s.reeveInts := rfl
@[simp] theorem State.setCtx_conns (c : Nat) (x : Ctx) : (s.setCtx c x).conns = s.conns := rfl
@[simp] theorem State.setCtx_paths (c : Nat) (x : Ctx) : (s.setCtx c x).paths = s.paths := rfl
@[simp] theorem State.setCtx_wqes (c : Nat) (x : Ctx) : (s.setCtx c x).wqes = s.wqes := rfl
@[simp] theorem State.setCtx_recvs (c : Nat) (x : Ctx) : (s.setCtx c x).recvs = s.recvs := rfl
@[simp] theorem State.setCtx_regions (c : Nat) (x : Ctx) : (s.setCtx c x).regions = s.regions := rfl
@[simp] theorem State.setCtx_flt (c : Nat) (x : Ctx) : (s.setCtx c x).flt = s.flt := rfl
@[simp] theorem State.setCtx_fab (c : Nat) (x : Ctx) : (s.setCtx c x).fab = s.fab := rfl
@[simp] theorem State.setCtx_blk (c : Nat) (x : Ctx) : (s.setCtx c x).blk = s.blk := rfl
@[simp] theorem State.setCtx_ciph (c : Nat) (x : Ctx) : (s.setCtx c x).ciph = s.ciph := rfl
@[simp] theorem State.setCtx_evlog (c : Nat) (x : Ctx) : (s.setCtx c x).evlog = s.evlog := rfl
@[simp] theorem State.setCtx_pwr (c : Nat) (x : Ctx) : (s.setCtx c x).pwr = s.pwr := rfl
@[simp] theorem State.setCtx_rv (c : Nat) (x : Ctx) : (s.setCtx c x).rv = s.rv := rfl
@[simp] theorem State.setCtx_tst (c : Nat) (x : Ctx) : (s.setCtx c x).tst = s.tst := rfl
@[simp] theorem State.setCtx_hostBlobs (c : Nat) (x : Ctx) : (s.setCtx c x).hostBlobs = s.hostBlobs := rfl

/-! ### setCopy changes copies alone -/

@[simp] theorem State.setCopy_pending (u : Nat) (x : CopyEng) : (s.setCopy u x).pending = s.pending := rfl
@[simp] theorem State.setCopy_out (u : Nat) (x : CopyEng) : (s.setCopy u x).out = s.out := rfl
@[simp] theorem State.setCopy_now (u : Nat) (x : CopyEng) : (s.setCopy u x).now = s.now := rfl
@[simp] theorem State.setCopy_free (u : Nat) (x : CopyEng) : (s.setCopy u x).free = s.free := rfl
@[simp] theorem State.setCopy_regs (u : Nat) (x : CopyEng) : (s.setCopy u x).regs = s.regs := rfl
@[simp] theorem State.setCopy_heldLow (u : Nat) (x : CopyEng) : (s.setCopy u x).heldLow = s.heldLow := rfl
@[simp] theorem State.setCopy_latchedHigh (u : Nat) (x : CopyEng) : (s.setCopy u x).latchedHigh = s.latchedHigh := rfl
@[simp] theorem State.setCopy_mem (u : Nat) (x : CopyEng) : (s.setCopy u x).mem = s.mem := rfl
@[simp] theorem State.setCopy_bell (u : Nat) (x : CopyEng) : (s.setCopy u x).bell = s.bell := rfl
@[simp] theorem State.setCopy_slots (u : Nat) (x : CopyEng) : (s.setCopy u x).slots = s.slots := rfl
@[simp] theorem State.setCopy_credits (u : Nat) (x : CopyEng) : (s.setCopy u x).credits = s.credits := rfl
@[simp] theorem State.setCopy_shares (u : Nat) (x : CopyEng) : (s.setCopy u x).shares = s.shares := rfl
@[simp] theorem State.setCopy_counters (u : Nat) (x : CopyEng) : (s.setCopy u x).counters = s.counters := rfl
@[simp] theorem State.setCopy_ctxs (u : Nat) (x : CopyEng) : (s.setCopy u x).ctxs = s.ctxs := rfl
@[simp] theorem State.setCopy_heavy (u : Nat) (x : CopyEng) : (s.setCopy u x).heavy = s.heavy := rfl
@[simp] theorem State.setCopy_cpdId (u : Nat) (x : CopyEng) : (s.setCopy u x).cpdId = s.cpdId := rfl
@[simp] theorem State.setCopy_memSt (u : Nat) (x : CopyEng) : (s.setCopy u x).memSt = s.memSt := rfl
@[simp] theorem State.setCopy_dports (u : Nat) (x : CopyEng) : (s.setCopy u x).dports = s.dports := rfl
@[simp] theorem State.setCopy_parts (u : Nat) (x : CopyEng) : (s.setCopy u x).parts = s.parts := rfl
@[simp] theorem State.setCopy_partCmds (u : Nat) (x : CopyEng) : (s.setCopy u x).partCmds = s.partCmds := rfl
@[simp] theorem State.setCopy_queues (u : Nat) (x : CopyEng) : (s.setCopy u x).queues = s.queues := rfl
@[simp] theorem State.setCopy_pci (u : Nat) (x : CopyEng) : (s.setCopy u x).pci = s.pci := rfl
@[simp] theorem State.setCopy_reeveInts (u : Nat) (x : CopyEng) : (s.setCopy u x).reeveInts = s.reeveInts := rfl
@[simp] theorem State.setCopy_conns (u : Nat) (x : CopyEng) : (s.setCopy u x).conns = s.conns := rfl
@[simp] theorem State.setCopy_paths (u : Nat) (x : CopyEng) : (s.setCopy u x).paths = s.paths := rfl
@[simp] theorem State.setCopy_wqes (u : Nat) (x : CopyEng) : (s.setCopy u x).wqes = s.wqes := rfl
@[simp] theorem State.setCopy_recvs (u : Nat) (x : CopyEng) : (s.setCopy u x).recvs = s.recvs := rfl
@[simp] theorem State.setCopy_regions (u : Nat) (x : CopyEng) : (s.setCopy u x).regions = s.regions := rfl
@[simp] theorem State.setCopy_flt (u : Nat) (x : CopyEng) : (s.setCopy u x).flt = s.flt := rfl
@[simp] theorem State.setCopy_fab (u : Nat) (x : CopyEng) : (s.setCopy u x).fab = s.fab := rfl
@[simp] theorem State.setCopy_blk (u : Nat) (x : CopyEng) : (s.setCopy u x).blk = s.blk := rfl
@[simp] theorem State.setCopy_ciph (u : Nat) (x : CopyEng) : (s.setCopy u x).ciph = s.ciph := rfl
@[simp] theorem State.setCopy_evlog (u : Nat) (x : CopyEng) : (s.setCopy u x).evlog = s.evlog := rfl
@[simp] theorem State.setCopy_pwr (u : Nat) (x : CopyEng) : (s.setCopy u x).pwr = s.pwr := rfl
@[simp] theorem State.setCopy_rv (u : Nat) (x : CopyEng) : (s.setCopy u x).rv = s.rv := rfl
@[simp] theorem State.setCopy_tst (u : Nat) (x : CopyEng) : (s.setCopy u x).tst = s.tst := rfl
@[simp] theorem State.setCopy_hostBlobs (u : Nat) (x : CopyEng) : (s.setCopy u x).hostBlobs = s.hostBlobs := rfl

/-! ### setPart changes parts alone -/

@[simp] theorem State.setPart_pending (p : Nat) (x : Part) : (s.setPart p x).pending = s.pending := rfl
@[simp] theorem State.setPart_out (p : Nat) (x : Part) : (s.setPart p x).out = s.out := rfl
@[simp] theorem State.setPart_now (p : Nat) (x : Part) : (s.setPart p x).now = s.now := rfl
@[simp] theorem State.setPart_free (p : Nat) (x : Part) : (s.setPart p x).free = s.free := rfl
@[simp] theorem State.setPart_regs (p : Nat) (x : Part) : (s.setPart p x).regs = s.regs := rfl
@[simp] theorem State.setPart_heldLow (p : Nat) (x : Part) : (s.setPart p x).heldLow = s.heldLow := rfl
@[simp] theorem State.setPart_latchedHigh (p : Nat) (x : Part) : (s.setPart p x).latchedHigh = s.latchedHigh := rfl
@[simp] theorem State.setPart_mem (p : Nat) (x : Part) : (s.setPart p x).mem = s.mem := rfl
@[simp] theorem State.setPart_bell (p : Nat) (x : Part) : (s.setPart p x).bell = s.bell := rfl
@[simp] theorem State.setPart_slots (p : Nat) (x : Part) : (s.setPart p x).slots = s.slots := rfl
@[simp] theorem State.setPart_credits (p : Nat) (x : Part) : (s.setPart p x).credits = s.credits := rfl
@[simp] theorem State.setPart_shares (p : Nat) (x : Part) : (s.setPart p x).shares = s.shares := rfl
@[simp] theorem State.setPart_counters (p : Nat) (x : Part) : (s.setPart p x).counters = s.counters := rfl
@[simp] theorem State.setPart_ctxs (p : Nat) (x : Part) : (s.setPart p x).ctxs = s.ctxs := rfl
@[simp] theorem State.setPart_heavy (p : Nat) (x : Part) : (s.setPart p x).heavy = s.heavy := rfl
@[simp] theorem State.setPart_copies (p : Nat) (x : Part) : (s.setPart p x).copies = s.copies := rfl
@[simp] theorem State.setPart_cpdId (p : Nat) (x : Part) : (s.setPart p x).cpdId = s.cpdId := rfl
@[simp] theorem State.setPart_memSt (p : Nat) (x : Part) : (s.setPart p x).memSt = s.memSt := rfl
@[simp] theorem State.setPart_dports (p : Nat) (x : Part) : (s.setPart p x).dports = s.dports := rfl
@[simp] theorem State.setPart_partCmds (p : Nat) (x : Part) : (s.setPart p x).partCmds = s.partCmds := rfl
@[simp] theorem State.setPart_queues (p : Nat) (x : Part) : (s.setPart p x).queues = s.queues := rfl
@[simp] theorem State.setPart_pci (p : Nat) (x : Part) : (s.setPart p x).pci = s.pci := rfl
@[simp] theorem State.setPart_reeveInts (p : Nat) (x : Part) : (s.setPart p x).reeveInts = s.reeveInts := rfl
@[simp] theorem State.setPart_conns (p : Nat) (x : Part) : (s.setPart p x).conns = s.conns := rfl
@[simp] theorem State.setPart_paths (p : Nat) (x : Part) : (s.setPart p x).paths = s.paths := rfl
@[simp] theorem State.setPart_wqes (p : Nat) (x : Part) : (s.setPart p x).wqes = s.wqes := rfl
@[simp] theorem State.setPart_recvs (p : Nat) (x : Part) : (s.setPart p x).recvs = s.recvs := rfl
@[simp] theorem State.setPart_regions (p : Nat) (x : Part) : (s.setPart p x).regions = s.regions := rfl
@[simp] theorem State.setPart_flt (p : Nat) (x : Part) : (s.setPart p x).flt = s.flt := rfl
@[simp] theorem State.setPart_fab (p : Nat) (x : Part) : (s.setPart p x).fab = s.fab := rfl
@[simp] theorem State.setPart_blk (p : Nat) (x : Part) : (s.setPart p x).blk = s.blk := rfl
@[simp] theorem State.setPart_ciph (p : Nat) (x : Part) : (s.setPart p x).ciph = s.ciph := rfl
@[simp] theorem State.setPart_evlog (p : Nat) (x : Part) : (s.setPart p x).evlog = s.evlog := rfl
@[simp] theorem State.setPart_pwr (p : Nat) (x : Part) : (s.setPart p x).pwr = s.pwr := rfl
@[simp] theorem State.setPart_rv (p : Nat) (x : Part) : (s.setPart p x).rv = s.rv := rfl
@[simp] theorem State.setPart_tst (p : Nat) (x : Part) : (s.setPart p x).tst = s.tst := rfl
@[simp] theorem State.setPart_hostBlobs (p : Nat) (x : Part) : (s.setPart p x).hostBlobs = s.hostBlobs := rfl

/-! ### setQueue changes queues alone -/

@[simp] theorem State.setQueue_pending (p cls q : Nat) (x : Queue) : (s.setQueue p cls q x).pending = s.pending := rfl
@[simp] theorem State.setQueue_out (p cls q : Nat) (x : Queue) : (s.setQueue p cls q x).out = s.out := rfl
@[simp] theorem State.setQueue_now (p cls q : Nat) (x : Queue) : (s.setQueue p cls q x).now = s.now := rfl
@[simp] theorem State.setQueue_free (p cls q : Nat) (x : Queue) : (s.setQueue p cls q x).free = s.free := rfl
@[simp] theorem State.setQueue_regs (p cls q : Nat) (x : Queue) : (s.setQueue p cls q x).regs = s.regs := rfl
@[simp] theorem State.setQueue_heldLow (p cls q : Nat) (x : Queue) : (s.setQueue p cls q x).heldLow = s.heldLow := rfl
@[simp] theorem State.setQueue_latchedHigh (p cls q : Nat) (x : Queue) : (s.setQueue p cls q x).latchedHigh = s.latchedHigh := rfl
@[simp] theorem State.setQueue_mem (p cls q : Nat) (x : Queue) : (s.setQueue p cls q x).mem = s.mem := rfl
@[simp] theorem State.setQueue_bell (p cls q : Nat) (x : Queue) : (s.setQueue p cls q x).bell = s.bell := rfl
@[simp] theorem State.setQueue_slots (p cls q : Nat) (x : Queue) : (s.setQueue p cls q x).slots = s.slots := rfl
@[simp] theorem State.setQueue_credits (p cls q : Nat) (x : Queue) : (s.setQueue p cls q x).credits = s.credits := rfl
@[simp] theorem State.setQueue_shares (p cls q : Nat) (x : Queue) : (s.setQueue p cls q x).shares = s.shares := rfl
@[simp] theorem State.setQueue_counters (p cls q : Nat) (x : Queue) : (s.setQueue p cls q x).counters = s.counters := rfl
@[simp] theorem State.setQueue_ctxs (p cls q : Nat) (x : Queue) : (s.setQueue p cls q x).ctxs = s.ctxs := rfl
@[simp] theorem State.setQueue_heavy (p cls q : Nat) (x : Queue) : (s.setQueue p cls q x).heavy = s.heavy := rfl
@[simp] theorem State.setQueue_copies (p cls q : Nat) (x : Queue) : (s.setQueue p cls q x).copies = s.copies := rfl
@[simp] theorem State.setQueue_cpdId (p cls q : Nat) (x : Queue) : (s.setQueue p cls q x).cpdId = s.cpdId := rfl
@[simp] theorem State.setQueue_memSt (p cls q : Nat) (x : Queue) : (s.setQueue p cls q x).memSt = s.memSt := rfl
@[simp] theorem State.setQueue_dports (p cls q : Nat) (x : Queue) : (s.setQueue p cls q x).dports = s.dports := rfl
@[simp] theorem State.setQueue_parts (p cls q : Nat) (x : Queue) : (s.setQueue p cls q x).parts = s.parts := rfl
@[simp] theorem State.setQueue_partCmds (p cls q : Nat) (x : Queue) : (s.setQueue p cls q x).partCmds = s.partCmds := rfl
@[simp] theorem State.setQueue_pci (p cls q : Nat) (x : Queue) : (s.setQueue p cls q x).pci = s.pci := rfl
@[simp] theorem State.setQueue_reeveInts (p cls q : Nat) (x : Queue) : (s.setQueue p cls q x).reeveInts = s.reeveInts := rfl
@[simp] theorem State.setQueue_conns (p cls q : Nat) (x : Queue) : (s.setQueue p cls q x).conns = s.conns := rfl
@[simp] theorem State.setQueue_paths (p cls q : Nat) (x : Queue) : (s.setQueue p cls q x).paths = s.paths := rfl
@[simp] theorem State.setQueue_wqes (p cls q : Nat) (x : Queue) : (s.setQueue p cls q x).wqes = s.wqes := rfl
@[simp] theorem State.setQueue_recvs (p cls q : Nat) (x : Queue) : (s.setQueue p cls q x).recvs = s.recvs := rfl
@[simp] theorem State.setQueue_regions (p cls q : Nat) (x : Queue) : (s.setQueue p cls q x).regions = s.regions := rfl
@[simp] theorem State.setQueue_flt (p cls q : Nat) (x : Queue) : (s.setQueue p cls q x).flt = s.flt := rfl
@[simp] theorem State.setQueue_fab (p cls q : Nat) (x : Queue) : (s.setQueue p cls q x).fab = s.fab := rfl
@[simp] theorem State.setQueue_blk (p cls q : Nat) (x : Queue) : (s.setQueue p cls q x).blk = s.blk := rfl
@[simp] theorem State.setQueue_ciph (p cls q : Nat) (x : Queue) : (s.setQueue p cls q x).ciph = s.ciph := rfl
@[simp] theorem State.setQueue_evlog (p cls q : Nat) (x : Queue) : (s.setQueue p cls q x).evlog = s.evlog := rfl
@[simp] theorem State.setQueue_pwr (p cls q : Nat) (x : Queue) : (s.setQueue p cls q x).pwr = s.pwr := rfl
@[simp] theorem State.setQueue_rv (p cls q : Nat) (x : Queue) : (s.setQueue p cls q x).rv = s.rv := rfl
@[simp] theorem State.setQueue_tst (p cls q : Nat) (x : Queue) : (s.setQueue p cls q x).tst = s.tst := rfl
@[simp] theorem State.setQueue_hostBlobs (p cls q : Nat) (x : Queue) : (s.setQueue p cls q x).hostBlobs = s.hostBlobs := rfl

/-! ### setConn changes conns alone -/

@[simp] theorem State.setConn_pending (c : Nat) (x : Conn) : (s.setConn c x).pending = s.pending := rfl
@[simp] theorem State.setConn_out (c : Nat) (x : Conn) : (s.setConn c x).out = s.out := rfl
@[simp] theorem State.setConn_now (c : Nat) (x : Conn) : (s.setConn c x).now = s.now := rfl
@[simp] theorem State.setConn_free (c : Nat) (x : Conn) : (s.setConn c x).free = s.free := rfl
@[simp] theorem State.setConn_regs (c : Nat) (x : Conn) : (s.setConn c x).regs = s.regs := rfl
@[simp] theorem State.setConn_heldLow (c : Nat) (x : Conn) : (s.setConn c x).heldLow = s.heldLow := rfl
@[simp] theorem State.setConn_latchedHigh (c : Nat) (x : Conn) : (s.setConn c x).latchedHigh = s.latchedHigh := rfl
@[simp] theorem State.setConn_mem (c : Nat) (x : Conn) : (s.setConn c x).mem = s.mem := rfl
@[simp] theorem State.setConn_bell (c : Nat) (x : Conn) : (s.setConn c x).bell = s.bell := rfl
@[simp] theorem State.setConn_slots (c : Nat) (x : Conn) : (s.setConn c x).slots = s.slots := rfl
@[simp] theorem State.setConn_credits (c : Nat) (x : Conn) : (s.setConn c x).credits = s.credits := rfl
@[simp] theorem State.setConn_shares (c : Nat) (x : Conn) : (s.setConn c x).shares = s.shares := rfl
@[simp] theorem State.setConn_counters (c : Nat) (x : Conn) : (s.setConn c x).counters = s.counters := rfl
@[simp] theorem State.setConn_ctxs (c : Nat) (x : Conn) : (s.setConn c x).ctxs = s.ctxs := rfl
@[simp] theorem State.setConn_heavy (c : Nat) (x : Conn) : (s.setConn c x).heavy = s.heavy := rfl
@[simp] theorem State.setConn_copies (c : Nat) (x : Conn) : (s.setConn c x).copies = s.copies := rfl
@[simp] theorem State.setConn_cpdId (c : Nat) (x : Conn) : (s.setConn c x).cpdId = s.cpdId := rfl
@[simp] theorem State.setConn_memSt (c : Nat) (x : Conn) : (s.setConn c x).memSt = s.memSt := rfl
@[simp] theorem State.setConn_dports (c : Nat) (x : Conn) : (s.setConn c x).dports = s.dports := rfl
@[simp] theorem State.setConn_parts (c : Nat) (x : Conn) : (s.setConn c x).parts = s.parts := rfl
@[simp] theorem State.setConn_partCmds (c : Nat) (x : Conn) : (s.setConn c x).partCmds = s.partCmds := rfl
@[simp] theorem State.setConn_queues (c : Nat) (x : Conn) : (s.setConn c x).queues = s.queues := rfl
@[simp] theorem State.setConn_pci (c : Nat) (x : Conn) : (s.setConn c x).pci = s.pci := rfl
@[simp] theorem State.setConn_reeveInts (c : Nat) (x : Conn) : (s.setConn c x).reeveInts = s.reeveInts := rfl
@[simp] theorem State.setConn_paths (c : Nat) (x : Conn) : (s.setConn c x).paths = s.paths := rfl
@[simp] theorem State.setConn_wqes (c : Nat) (x : Conn) : (s.setConn c x).wqes = s.wqes := rfl
@[simp] theorem State.setConn_recvs (c : Nat) (x : Conn) : (s.setConn c x).recvs = s.recvs := rfl
@[simp] theorem State.setConn_regions (c : Nat) (x : Conn) : (s.setConn c x).regions = s.regions := rfl
@[simp] theorem State.setConn_flt (c : Nat) (x : Conn) : (s.setConn c x).flt = s.flt := rfl
@[simp] theorem State.setConn_fab (c : Nat) (x : Conn) : (s.setConn c x).fab = s.fab := rfl
@[simp] theorem State.setConn_blk (c : Nat) (x : Conn) : (s.setConn c x).blk = s.blk := rfl
@[simp] theorem State.setConn_ciph (c : Nat) (x : Conn) : (s.setConn c x).ciph = s.ciph := rfl
@[simp] theorem State.setConn_evlog (c : Nat) (x : Conn) : (s.setConn c x).evlog = s.evlog := rfl
@[simp] theorem State.setConn_pwr (c : Nat) (x : Conn) : (s.setConn c x).pwr = s.pwr := rfl
@[simp] theorem State.setConn_rv (c : Nat) (x : Conn) : (s.setConn c x).rv = s.rv := rfl
@[simp] theorem State.setConn_tst (c : Nat) (x : Conn) : (s.setConn c x).tst = s.tst := rfl
@[simp] theorem State.setConn_hostBlobs (c : Nat) (x : Conn) : (s.setConn c x).hostBlobs = s.hostBlobs := rfl

/-! ### setPath changes paths alone -/

@[simp] theorem State.setPath_pending (i : Nat) (x : PathSt) : (s.setPath i x).pending = s.pending := rfl
@[simp] theorem State.setPath_out (i : Nat) (x : PathSt) : (s.setPath i x).out = s.out := rfl
@[simp] theorem State.setPath_now (i : Nat) (x : PathSt) : (s.setPath i x).now = s.now := rfl
@[simp] theorem State.setPath_free (i : Nat) (x : PathSt) : (s.setPath i x).free = s.free := rfl
@[simp] theorem State.setPath_regs (i : Nat) (x : PathSt) : (s.setPath i x).regs = s.regs := rfl
@[simp] theorem State.setPath_heldLow (i : Nat) (x : PathSt) : (s.setPath i x).heldLow = s.heldLow := rfl
@[simp] theorem State.setPath_latchedHigh (i : Nat) (x : PathSt) : (s.setPath i x).latchedHigh = s.latchedHigh := rfl
@[simp] theorem State.setPath_mem (i : Nat) (x : PathSt) : (s.setPath i x).mem = s.mem := rfl
@[simp] theorem State.setPath_bell (i : Nat) (x : PathSt) : (s.setPath i x).bell = s.bell := rfl
@[simp] theorem State.setPath_slots (i : Nat) (x : PathSt) : (s.setPath i x).slots = s.slots := rfl
@[simp] theorem State.setPath_credits (i : Nat) (x : PathSt) : (s.setPath i x).credits = s.credits := rfl
@[simp] theorem State.setPath_shares (i : Nat) (x : PathSt) : (s.setPath i x).shares = s.shares := rfl
@[simp] theorem State.setPath_counters (i : Nat) (x : PathSt) : (s.setPath i x).counters = s.counters := rfl
@[simp] theorem State.setPath_ctxs (i : Nat) (x : PathSt) : (s.setPath i x).ctxs = s.ctxs := rfl
@[simp] theorem State.setPath_heavy (i : Nat) (x : PathSt) : (s.setPath i x).heavy = s.heavy := rfl
@[simp] theorem State.setPath_copies (i : Nat) (x : PathSt) : (s.setPath i x).copies = s.copies := rfl
@[simp] theorem State.setPath_cpdId (i : Nat) (x : PathSt) : (s.setPath i x).cpdId = s.cpdId := rfl
@[simp] theorem State.setPath_memSt (i : Nat) (x : PathSt) : (s.setPath i x).memSt = s.memSt := rfl
@[simp] theorem State.setPath_dports (i : Nat) (x : PathSt) : (s.setPath i x).dports = s.dports := rfl
@[simp] theorem State.setPath_parts (i : Nat) (x : PathSt) : (s.setPath i x).parts = s.parts := rfl
@[simp] theorem State.setPath_partCmds (i : Nat) (x : PathSt) : (s.setPath i x).partCmds = s.partCmds := rfl
@[simp] theorem State.setPath_queues (i : Nat) (x : PathSt) : (s.setPath i x).queues = s.queues := rfl
@[simp] theorem State.setPath_pci (i : Nat) (x : PathSt) : (s.setPath i x).pci = s.pci := rfl
@[simp] theorem State.setPath_reeveInts (i : Nat) (x : PathSt) : (s.setPath i x).reeveInts = s.reeveInts := rfl
@[simp] theorem State.setPath_conns (i : Nat) (x : PathSt) : (s.setPath i x).conns = s.conns := rfl
@[simp] theorem State.setPath_wqes (i : Nat) (x : PathSt) : (s.setPath i x).wqes = s.wqes := rfl
@[simp] theorem State.setPath_recvs (i : Nat) (x : PathSt) : (s.setPath i x).recvs = s.recvs := rfl
@[simp] theorem State.setPath_regions (i : Nat) (x : PathSt) : (s.setPath i x).regions = s.regions := rfl
@[simp] theorem State.setPath_flt (i : Nat) (x : PathSt) : (s.setPath i x).flt = s.flt := rfl
@[simp] theorem State.setPath_fab (i : Nat) (x : PathSt) : (s.setPath i x).fab = s.fab := rfl
@[simp] theorem State.setPath_blk (i : Nat) (x : PathSt) : (s.setPath i x).blk = s.blk := rfl
@[simp] theorem State.setPath_ciph (i : Nat) (x : PathSt) : (s.setPath i x).ciph = s.ciph := rfl
@[simp] theorem State.setPath_evlog (i : Nat) (x : PathSt) : (s.setPath i x).evlog = s.evlog := rfl
@[simp] theorem State.setPath_pwr (i : Nat) (x : PathSt) : (s.setPath i x).pwr = s.pwr := rfl
@[simp] theorem State.setPath_rv (i : Nat) (x : PathSt) : (s.setPath i x).rv = s.rv := rfl
@[simp] theorem State.setPath_tst (i : Nat) (x : PathSt) : (s.setPath i x).tst = s.tst := rfl
@[simp] theorem State.setPath_hostBlobs (i : Nat) (x : PathSt) : (s.setPath i x).hostBlobs = s.hostBlobs := rfl

/-! ### setWqes changes wqes alone -/

@[simp] theorem State.setWqes_pending (p q : Nat) (l : List Wqe) : (s.setWqes p q l).pending = s.pending := rfl
@[simp] theorem State.setWqes_out (p q : Nat) (l : List Wqe) : (s.setWqes p q l).out = s.out := rfl
@[simp] theorem State.setWqes_now (p q : Nat) (l : List Wqe) : (s.setWqes p q l).now = s.now := rfl
@[simp] theorem State.setWqes_free (p q : Nat) (l : List Wqe) : (s.setWqes p q l).free = s.free := rfl
@[simp] theorem State.setWqes_regs (p q : Nat) (l : List Wqe) : (s.setWqes p q l).regs = s.regs := rfl
@[simp] theorem State.setWqes_heldLow (p q : Nat) (l : List Wqe) : (s.setWqes p q l).heldLow = s.heldLow := rfl
@[simp] theorem State.setWqes_latchedHigh (p q : Nat) (l : List Wqe) : (s.setWqes p q l).latchedHigh = s.latchedHigh := rfl
@[simp] theorem State.setWqes_mem (p q : Nat) (l : List Wqe) : (s.setWqes p q l).mem = s.mem := rfl
@[simp] theorem State.setWqes_bell (p q : Nat) (l : List Wqe) : (s.setWqes p q l).bell = s.bell := rfl
@[simp] theorem State.setWqes_slots (p q : Nat) (l : List Wqe) : (s.setWqes p q l).slots = s.slots := rfl
@[simp] theorem State.setWqes_credits (p q : Nat) (l : List Wqe) : (s.setWqes p q l).credits = s.credits := rfl
@[simp] theorem State.setWqes_shares (p q : Nat) (l : List Wqe) : (s.setWqes p q l).shares = s.shares := rfl
@[simp] theorem State.setWqes_counters (p q : Nat) (l : List Wqe) : (s.setWqes p q l).counters = s.counters := rfl
@[simp] theorem State.setWqes_ctxs (p q : Nat) (l : List Wqe) : (s.setWqes p q l).ctxs = s.ctxs := rfl
@[simp] theorem State.setWqes_heavy (p q : Nat) (l : List Wqe) : (s.setWqes p q l).heavy = s.heavy := rfl
@[simp] theorem State.setWqes_copies (p q : Nat) (l : List Wqe) : (s.setWqes p q l).copies = s.copies := rfl
@[simp] theorem State.setWqes_cpdId (p q : Nat) (l : List Wqe) : (s.setWqes p q l).cpdId = s.cpdId := rfl
@[simp] theorem State.setWqes_memSt (p q : Nat) (l : List Wqe) : (s.setWqes p q l).memSt = s.memSt := rfl
@[simp] theorem State.setWqes_dports (p q : Nat) (l : List Wqe) : (s.setWqes p q l).dports = s.dports := rfl
@[simp] theorem State.setWqes_parts (p q : Nat) (l : List Wqe) : (s.setWqes p q l).parts = s.parts := rfl
@[simp] theorem State.setWqes_partCmds (p q : Nat) (l : List Wqe) : (s.setWqes p q l).partCmds = s.partCmds := rfl
@[simp] theorem State.setWqes_queues (p q : Nat) (l : List Wqe) : (s.setWqes p q l).queues = s.queues := rfl
@[simp] theorem State.setWqes_pci (p q : Nat) (l : List Wqe) : (s.setWqes p q l).pci = s.pci := rfl
@[simp] theorem State.setWqes_reeveInts (p q : Nat) (l : List Wqe) : (s.setWqes p q l).reeveInts = s.reeveInts := rfl
@[simp] theorem State.setWqes_conns (p q : Nat) (l : List Wqe) : (s.setWqes p q l).conns = s.conns := rfl
@[simp] theorem State.setWqes_paths (p q : Nat) (l : List Wqe) : (s.setWqes p q l).paths = s.paths := rfl
@[simp] theorem State.setWqes_recvs (p q : Nat) (l : List Wqe) : (s.setWqes p q l).recvs = s.recvs := rfl
@[simp] theorem State.setWqes_regions (p q : Nat) (l : List Wqe) : (s.setWqes p q l).regions = s.regions := rfl
@[simp] theorem State.setWqes_flt (p q : Nat) (l : List Wqe) : (s.setWqes p q l).flt = s.flt := rfl
@[simp] theorem State.setWqes_fab (p q : Nat) (l : List Wqe) : (s.setWqes p q l).fab = s.fab := rfl
@[simp] theorem State.setWqes_blk (p q : Nat) (l : List Wqe) : (s.setWqes p q l).blk = s.blk := rfl
@[simp] theorem State.setWqes_ciph (p q : Nat) (l : List Wqe) : (s.setWqes p q l).ciph = s.ciph := rfl
@[simp] theorem State.setWqes_evlog (p q : Nat) (l : List Wqe) : (s.setWqes p q l).evlog = s.evlog := rfl
@[simp] theorem State.setWqes_pwr (p q : Nat) (l : List Wqe) : (s.setWqes p q l).pwr = s.pwr := rfl
@[simp] theorem State.setWqes_rv (p q : Nat) (l : List Wqe) : (s.setWqes p q l).rv = s.rv := rfl
@[simp] theorem State.setWqes_tst (p q : Nat) (l : List Wqe) : (s.setWqes p q l).tst = s.tst := rfl
@[simp] theorem State.setWqes_hostBlobs (p q : Nat) (l : List Wqe) : (s.setWqes p q l).hostBlobs = s.hostBlobs := rfl

/-! ### setRecvs changes recvs alone -/

@[simp] theorem State.setRecvs_pending (p q : Nat) (l : List Wqe) : (s.setRecvs p q l).pending = s.pending := rfl
@[simp] theorem State.setRecvs_out (p q : Nat) (l : List Wqe) : (s.setRecvs p q l).out = s.out := rfl
@[simp] theorem State.setRecvs_now (p q : Nat) (l : List Wqe) : (s.setRecvs p q l).now = s.now := rfl
@[simp] theorem State.setRecvs_free (p q : Nat) (l : List Wqe) : (s.setRecvs p q l).free = s.free := rfl
@[simp] theorem State.setRecvs_regs (p q : Nat) (l : List Wqe) : (s.setRecvs p q l).regs = s.regs := rfl
@[simp] theorem State.setRecvs_heldLow (p q : Nat) (l : List Wqe) : (s.setRecvs p q l).heldLow = s.heldLow := rfl
@[simp] theorem State.setRecvs_latchedHigh (p q : Nat) (l : List Wqe) : (s.setRecvs p q l).latchedHigh = s.latchedHigh := rfl
@[simp] theorem State.setRecvs_mem (p q : Nat) (l : List Wqe) : (s.setRecvs p q l).mem = s.mem := rfl
@[simp] theorem State.setRecvs_bell (p q : Nat) (l : List Wqe) : (s.setRecvs p q l).bell = s.bell := rfl
@[simp] theorem State.setRecvs_slots (p q : Nat) (l : List Wqe) : (s.setRecvs p q l).slots = s.slots := rfl
@[simp] theorem State.setRecvs_credits (p q : Nat) (l : List Wqe) : (s.setRecvs p q l).credits = s.credits := rfl
@[simp] theorem State.setRecvs_shares (p q : Nat) (l : List Wqe) : (s.setRecvs p q l).shares = s.shares := rfl
@[simp] theorem State.setRecvs_counters (p q : Nat) (l : List Wqe) : (s.setRecvs p q l).counters = s.counters := rfl
@[simp] theorem State.setRecvs_ctxs (p q : Nat) (l : List Wqe) : (s.setRecvs p q l).ctxs = s.ctxs := rfl
@[simp] theorem State.setRecvs_heavy (p q : Nat) (l : List Wqe) : (s.setRecvs p q l).heavy = s.heavy := rfl
@[simp] theorem State.setRecvs_copies (p q : Nat) (l : List Wqe) : (s.setRecvs p q l).copies = s.copies := rfl
@[simp] theorem State.setRecvs_cpdId (p q : Nat) (l : List Wqe) : (s.setRecvs p q l).cpdId = s.cpdId := rfl
@[simp] theorem State.setRecvs_memSt (p q : Nat) (l : List Wqe) : (s.setRecvs p q l).memSt = s.memSt := rfl
@[simp] theorem State.setRecvs_dports (p q : Nat) (l : List Wqe) : (s.setRecvs p q l).dports = s.dports := rfl
@[simp] theorem State.setRecvs_parts (p q : Nat) (l : List Wqe) : (s.setRecvs p q l).parts = s.parts := rfl
@[simp] theorem State.setRecvs_partCmds (p q : Nat) (l : List Wqe) : (s.setRecvs p q l).partCmds = s.partCmds := rfl
@[simp] theorem State.setRecvs_queues (p q : Nat) (l : List Wqe) : (s.setRecvs p q l).queues = s.queues := rfl
@[simp] theorem State.setRecvs_pci (p q : Nat) (l : List Wqe) : (s.setRecvs p q l).pci = s.pci := rfl
@[simp] theorem State.setRecvs_reeveInts (p q : Nat) (l : List Wqe) : (s.setRecvs p q l).reeveInts = s.reeveInts := rfl
@[simp] theorem State.setRecvs_conns (p q : Nat) (l : List Wqe) : (s.setRecvs p q l).conns = s.conns := rfl
@[simp] theorem State.setRecvs_paths (p q : Nat) (l : List Wqe) : (s.setRecvs p q l).paths = s.paths := rfl
@[simp] theorem State.setRecvs_wqes (p q : Nat) (l : List Wqe) : (s.setRecvs p q l).wqes = s.wqes := rfl
@[simp] theorem State.setRecvs_regions (p q : Nat) (l : List Wqe) : (s.setRecvs p q l).regions = s.regions := rfl
@[simp] theorem State.setRecvs_flt (p q : Nat) (l : List Wqe) : (s.setRecvs p q l).flt = s.flt := rfl
@[simp] theorem State.setRecvs_fab (p q : Nat) (l : List Wqe) : (s.setRecvs p q l).fab = s.fab := rfl
@[simp] theorem State.setRecvs_blk (p q : Nat) (l : List Wqe) : (s.setRecvs p q l).blk = s.blk := rfl
@[simp] theorem State.setRecvs_ciph (p q : Nat) (l : List Wqe) : (s.setRecvs p q l).ciph = s.ciph := rfl
@[simp] theorem State.setRecvs_evlog (p q : Nat) (l : List Wqe) : (s.setRecvs p q l).evlog = s.evlog := rfl
@[simp] theorem State.setRecvs_pwr (p q : Nat) (l : List Wqe) : (s.setRecvs p q l).pwr = s.pwr := rfl
@[simp] theorem State.setRecvs_rv (p q : Nat) (l : List Wqe) : (s.setRecvs p q l).rv = s.rv := rfl
@[simp] theorem State.setRecvs_tst (p q : Nat) (l : List Wqe) : (s.setRecvs p q l).tst = s.tst := rfl
@[simp] theorem State.setRecvs_hostBlobs (p q : Nat) (l : List Wqe) : (s.setRecvs p q l).hostBlobs = s.hostBlobs := rfl

/-! ### setRegion changes regions alone -/

@[simp] theorem State.setRegion_pending (p i : Nat) (r : Region) : (s.setRegion p i r).pending = s.pending := rfl
@[simp] theorem State.setRegion_out (p i : Nat) (r : Region) : (s.setRegion p i r).out = s.out := rfl
@[simp] theorem State.setRegion_now (p i : Nat) (r : Region) : (s.setRegion p i r).now = s.now := rfl
@[simp] theorem State.setRegion_free (p i : Nat) (r : Region) : (s.setRegion p i r).free = s.free := rfl
@[simp] theorem State.setRegion_regs (p i : Nat) (r : Region) : (s.setRegion p i r).regs = s.regs := rfl
@[simp] theorem State.setRegion_heldLow (p i : Nat) (r : Region) : (s.setRegion p i r).heldLow = s.heldLow := rfl
@[simp] theorem State.setRegion_latchedHigh (p i : Nat) (r : Region) : (s.setRegion p i r).latchedHigh = s.latchedHigh := rfl
@[simp] theorem State.setRegion_mem (p i : Nat) (r : Region) : (s.setRegion p i r).mem = s.mem := rfl
@[simp] theorem State.setRegion_bell (p i : Nat) (r : Region) : (s.setRegion p i r).bell = s.bell := rfl
@[simp] theorem State.setRegion_slots (p i : Nat) (r : Region) : (s.setRegion p i r).slots = s.slots := rfl
@[simp] theorem State.setRegion_credits (p i : Nat) (r : Region) : (s.setRegion p i r).credits = s.credits := rfl
@[simp] theorem State.setRegion_shares (p i : Nat) (r : Region) : (s.setRegion p i r).shares = s.shares := rfl
@[simp] theorem State.setRegion_counters (p i : Nat) (r : Region) : (s.setRegion p i r).counters = s.counters := rfl
@[simp] theorem State.setRegion_ctxs (p i : Nat) (r : Region) : (s.setRegion p i r).ctxs = s.ctxs := rfl
@[simp] theorem State.setRegion_heavy (p i : Nat) (r : Region) : (s.setRegion p i r).heavy = s.heavy := rfl
@[simp] theorem State.setRegion_copies (p i : Nat) (r : Region) : (s.setRegion p i r).copies = s.copies := rfl
@[simp] theorem State.setRegion_cpdId (p i : Nat) (r : Region) : (s.setRegion p i r).cpdId = s.cpdId := rfl
@[simp] theorem State.setRegion_memSt (p i : Nat) (r : Region) : (s.setRegion p i r).memSt = s.memSt := rfl
@[simp] theorem State.setRegion_dports (p i : Nat) (r : Region) : (s.setRegion p i r).dports = s.dports := rfl
@[simp] theorem State.setRegion_parts (p i : Nat) (r : Region) : (s.setRegion p i r).parts = s.parts := rfl
@[simp] theorem State.setRegion_partCmds (p i : Nat) (r : Region) : (s.setRegion p i r).partCmds = s.partCmds := rfl
@[simp] theorem State.setRegion_queues (p i : Nat) (r : Region) : (s.setRegion p i r).queues = s.queues := rfl
@[simp] theorem State.setRegion_pci (p i : Nat) (r : Region) : (s.setRegion p i r).pci = s.pci := rfl
@[simp] theorem State.setRegion_reeveInts (p i : Nat) (r : Region) : (s.setRegion p i r).reeveInts = s.reeveInts := rfl
@[simp] theorem State.setRegion_conns (p i : Nat) (r : Region) : (s.setRegion p i r).conns = s.conns := rfl
@[simp] theorem State.setRegion_paths (p i : Nat) (r : Region) : (s.setRegion p i r).paths = s.paths := rfl
@[simp] theorem State.setRegion_wqes (p i : Nat) (r : Region) : (s.setRegion p i r).wqes = s.wqes := rfl
@[simp] theorem State.setRegion_recvs (p i : Nat) (r : Region) : (s.setRegion p i r).recvs = s.recvs := rfl
@[simp] theorem State.setRegion_flt (p i : Nat) (r : Region) : (s.setRegion p i r).flt = s.flt := rfl
@[simp] theorem State.setRegion_fab (p i : Nat) (r : Region) : (s.setRegion p i r).fab = s.fab := rfl
@[simp] theorem State.setRegion_blk (p i : Nat) (r : Region) : (s.setRegion p i r).blk = s.blk := rfl
@[simp] theorem State.setRegion_ciph (p i : Nat) (r : Region) : (s.setRegion p i r).ciph = s.ciph := rfl
@[simp] theorem State.setRegion_evlog (p i : Nat) (r : Region) : (s.setRegion p i r).evlog = s.evlog := rfl
@[simp] theorem State.setRegion_pwr (p i : Nat) (r : Region) : (s.setRegion p i r).pwr = s.pwr := rfl
@[simp] theorem State.setRegion_rv (p i : Nat) (r : Region) : (s.setRegion p i r).rv = s.rv := rfl
@[simp] theorem State.setRegion_tst (p i : Nat) (r : Region) : (s.setRegion p i r).tst = s.tst := rfl
@[simp] theorem State.setRegion_hostBlobs (p i : Nat) (r : Region) : (s.setRegion p i r).hostBlobs = s.hostBlobs := rfl

/-! ### setCredit changes credits alone -/

@[simp] theorem State.setCredit_pending (n p : Nat) (v : Int) : (s.setCredit n p v).pending = s.pending := rfl
@[simp] theorem State.setCredit_out (n p : Nat) (v : Int) : (s.setCredit n p v).out = s.out := rfl
@[simp] theorem State.setCredit_now (n p : Nat) (v : Int) : (s.setCredit n p v).now = s.now := rfl
@[simp] theorem State.setCredit_free (n p : Nat) (v : Int) : (s.setCredit n p v).free = s.free := rfl
@[simp] theorem State.setCredit_regs (n p : Nat) (v : Int) : (s.setCredit n p v).regs = s.regs := rfl
@[simp] theorem State.setCredit_heldLow (n p : Nat) (v : Int) : (s.setCredit n p v).heldLow = s.heldLow := rfl
@[simp] theorem State.setCredit_latchedHigh (n p : Nat) (v : Int) : (s.setCredit n p v).latchedHigh = s.latchedHigh := rfl
@[simp] theorem State.setCredit_mem (n p : Nat) (v : Int) : (s.setCredit n p v).mem = s.mem := rfl
@[simp] theorem State.setCredit_bell (n p : Nat) (v : Int) : (s.setCredit n p v).bell = s.bell := rfl
@[simp] theorem State.setCredit_slots (n p : Nat) (v : Int) : (s.setCredit n p v).slots = s.slots := rfl
@[simp] theorem State.setCredit_shares (n p : Nat) (v : Int) : (s.setCredit n p v).shares = s.shares := rfl
@[simp] theorem State.setCredit_counters (n p : Nat) (v : Int) : (s.setCredit n p v).counters = s.counters := rfl
@[simp] theorem State.setCredit_ctxs (n p : Nat) (v : Int) : (s.setCredit n p v).ctxs = s.ctxs := rfl
@[simp] theorem State.setCredit_heavy (n p : Nat) (v : Int) : (s.setCredit n p v).heavy = s.heavy := rfl
@[simp] theorem State.setCredit_copies (n p : Nat) (v : Int) : (s.setCredit n p v).copies = s.copies := rfl
@[simp] theorem State.setCredit_cpdId (n p : Nat) (v : Int) : (s.setCredit n p v).cpdId = s.cpdId := rfl
@[simp] theorem State.setCredit_memSt (n p : Nat) (v : Int) : (s.setCredit n p v).memSt = s.memSt := rfl
@[simp] theorem State.setCredit_dports (n p : Nat) (v : Int) : (s.setCredit n p v).dports = s.dports := rfl
@[simp] theorem State.setCredit_parts (n p : Nat) (v : Int) : (s.setCredit n p v).parts = s.parts := rfl
@[simp] theorem State.setCredit_partCmds (n p : Nat) (v : Int) : (s.setCredit n p v).partCmds = s.partCmds := rfl
@[simp] theorem State.setCredit_queues (n p : Nat) (v : Int) : (s.setCredit n p v).queues = s.queues := rfl
@[simp] theorem State.setCredit_pci (n p : Nat) (v : Int) : (s.setCredit n p v).pci = s.pci := rfl
@[simp] theorem State.setCredit_reeveInts (n p : Nat) (v : Int) : (s.setCredit n p v).reeveInts = s.reeveInts := rfl
@[simp] theorem State.setCredit_conns (n p : Nat) (v : Int) : (s.setCredit n p v).conns = s.conns := rfl
@[simp] theorem State.setCredit_paths (n p : Nat) (v : Int) : (s.setCredit n p v).paths = s.paths := rfl
@[simp] theorem State.setCredit_wqes (n p : Nat) (v : Int) : (s.setCredit n p v).wqes = s.wqes := rfl
@[simp] theorem State.setCredit_recvs (n p : Nat) (v : Int) : (s.setCredit n p v).recvs = s.recvs := rfl
@[simp] theorem State.setCredit_regions (n p : Nat) (v : Int) : (s.setCredit n p v).regions = s.regions := rfl
@[simp] theorem State.setCredit_flt (n p : Nat) (v : Int) : (s.setCredit n p v).flt = s.flt := rfl
@[simp] theorem State.setCredit_fab (n p : Nat) (v : Int) : (s.setCredit n p v).fab = s.fab := rfl
@[simp] theorem State.setCredit_blk (n p : Nat) (v : Int) : (s.setCredit n p v).blk = s.blk := rfl
@[simp] theorem State.setCredit_ciph (n p : Nat) (v : Int) : (s.setCredit n p v).ciph = s.ciph := rfl
@[simp] theorem State.setCredit_evlog (n p : Nat) (v : Int) : (s.setCredit n p v).evlog = s.evlog := rfl
@[simp] theorem State.setCredit_pwr (n p : Nat) (v : Int) : (s.setCredit n p v).pwr = s.pwr := rfl
@[simp] theorem State.setCredit_rv (n p : Nat) (v : Int) : (s.setCredit n p v).rv = s.rv := rfl
@[simp] theorem State.setCredit_tst (n p : Nat) (v : Int) : (s.setCredit n p v).tst = s.tst := rfl
@[simp] theorem State.setCredit_hostBlobs (n p : Nat) (v : Int) : (s.setCredit n p v).hostBlobs = s.hostBlobs := rfl

/-! ### bump changes counters alone -/

@[simp] theorem State.bump_pending (p id : Nat) : (s.bump p id).pending = s.pending := rfl
@[simp] theorem State.bump_out (p id : Nat) : (s.bump p id).out = s.out := rfl
@[simp] theorem State.bump_now (p id : Nat) : (s.bump p id).now = s.now := rfl
@[simp] theorem State.bump_free (p id : Nat) : (s.bump p id).free = s.free := rfl
@[simp] theorem State.bump_regs (p id : Nat) : (s.bump p id).regs = s.regs := rfl
@[simp] theorem State.bump_heldLow (p id : Nat) : (s.bump p id).heldLow = s.heldLow := rfl
@[simp] theorem State.bump_latchedHigh (p id : Nat) : (s.bump p id).latchedHigh = s.latchedHigh := rfl
@[simp] theorem State.bump_mem (p id : Nat) : (s.bump p id).mem = s.mem := rfl
@[simp] theorem State.bump_bell (p id : Nat) : (s.bump p id).bell = s.bell := rfl
@[simp] theorem State.bump_slots (p id : Nat) : (s.bump p id).slots = s.slots := rfl
@[simp] theorem State.bump_credits (p id : Nat) : (s.bump p id).credits = s.credits := rfl
@[simp] theorem State.bump_shares (p id : Nat) : (s.bump p id).shares = s.shares := rfl
@[simp] theorem State.bump_ctxs (p id : Nat) : (s.bump p id).ctxs = s.ctxs := rfl
@[simp] theorem State.bump_heavy (p id : Nat) : (s.bump p id).heavy = s.heavy := rfl
@[simp] theorem State.bump_copies (p id : Nat) : (s.bump p id).copies = s.copies := rfl
@[simp] theorem State.bump_cpdId (p id : Nat) : (s.bump p id).cpdId = s.cpdId := rfl
@[simp] theorem State.bump_memSt (p id : Nat) : (s.bump p id).memSt = s.memSt := rfl
@[simp] theorem State.bump_dports (p id : Nat) : (s.bump p id).dports = s.dports := rfl
@[simp] theorem State.bump_parts (p id : Nat) : (s.bump p id).parts = s.parts := rfl
@[simp] theorem State.bump_partCmds (p id : Nat) : (s.bump p id).partCmds = s.partCmds := rfl
@[simp] theorem State.bump_queues (p id : Nat) : (s.bump p id).queues = s.queues := rfl
@[simp] theorem State.bump_pci (p id : Nat) : (s.bump p id).pci = s.pci := rfl
@[simp] theorem State.bump_reeveInts (p id : Nat) : (s.bump p id).reeveInts = s.reeveInts := rfl
@[simp] theorem State.bump_conns (p id : Nat) : (s.bump p id).conns = s.conns := rfl
@[simp] theorem State.bump_paths (p id : Nat) : (s.bump p id).paths = s.paths := rfl
@[simp] theorem State.bump_wqes (p id : Nat) : (s.bump p id).wqes = s.wqes := rfl
@[simp] theorem State.bump_recvs (p id : Nat) : (s.bump p id).recvs = s.recvs := rfl
@[simp] theorem State.bump_regions (p id : Nat) : (s.bump p id).regions = s.regions := rfl
@[simp] theorem State.bump_flt (p id : Nat) : (s.bump p id).flt = s.flt := rfl
@[simp] theorem State.bump_fab (p id : Nat) : (s.bump p id).fab = s.fab := rfl
@[simp] theorem State.bump_blk (p id : Nat) : (s.bump p id).blk = s.blk := rfl
@[simp] theorem State.bump_ciph (p id : Nat) : (s.bump p id).ciph = s.ciph := rfl
@[simp] theorem State.bump_evlog (p id : Nat) : (s.bump p id).evlog = s.evlog := rfl
@[simp] theorem State.bump_pwr (p id : Nat) : (s.bump p id).pwr = s.pwr := rfl
@[simp] theorem State.bump_rv (p id : Nat) : (s.bump p id).rv = s.rv := rfl
@[simp] theorem State.bump_tst (p id : Nat) : (s.bump p id).tst = s.tst := rfl
@[simp] theorem State.bump_hostBlobs (p id : Nat) : (s.bump p id).hostBlobs = s.hostBlobs := rfl

/-! ### setVector changes pci alone -/

@[simp] theorem State.setVector_pending (func vec : Nat) (v : Vector) : (s.setVector func vec v).pending = s.pending := rfl
@[simp] theorem State.setVector_out (func vec : Nat) (v : Vector) : (s.setVector func vec v).out = s.out := rfl
@[simp] theorem State.setVector_now (func vec : Nat) (v : Vector) : (s.setVector func vec v).now = s.now := rfl
@[simp] theorem State.setVector_free (func vec : Nat) (v : Vector) : (s.setVector func vec v).free = s.free := rfl
@[simp] theorem State.setVector_regs (func vec : Nat) (v : Vector) : (s.setVector func vec v).regs = s.regs := rfl
@[simp] theorem State.setVector_heldLow (func vec : Nat) (v : Vector) : (s.setVector func vec v).heldLow = s.heldLow := rfl
@[simp] theorem State.setVector_latchedHigh (func vec : Nat) (v : Vector) : (s.setVector func vec v).latchedHigh = s.latchedHigh := rfl
@[simp] theorem State.setVector_mem (func vec : Nat) (v : Vector) : (s.setVector func vec v).mem = s.mem := rfl
@[simp] theorem State.setVector_bell (func vec : Nat) (v : Vector) : (s.setVector func vec v).bell = s.bell := rfl
@[simp] theorem State.setVector_slots (func vec : Nat) (v : Vector) : (s.setVector func vec v).slots = s.slots := rfl
@[simp] theorem State.setVector_credits (func vec : Nat) (v : Vector) : (s.setVector func vec v).credits = s.credits := rfl
@[simp] theorem State.setVector_shares (func vec : Nat) (v : Vector) : (s.setVector func vec v).shares = s.shares := rfl
@[simp] theorem State.setVector_counters (func vec : Nat) (v : Vector) : (s.setVector func vec v).counters = s.counters := rfl
@[simp] theorem State.setVector_ctxs (func vec : Nat) (v : Vector) : (s.setVector func vec v).ctxs = s.ctxs := rfl
@[simp] theorem State.setVector_heavy (func vec : Nat) (v : Vector) : (s.setVector func vec v).heavy = s.heavy := rfl
@[simp] theorem State.setVector_copies (func vec : Nat) (v : Vector) : (s.setVector func vec v).copies = s.copies := rfl
@[simp] theorem State.setVector_cpdId (func vec : Nat) (v : Vector) : (s.setVector func vec v).cpdId = s.cpdId := rfl
@[simp] theorem State.setVector_memSt (func vec : Nat) (v : Vector) : (s.setVector func vec v).memSt = s.memSt := rfl
@[simp] theorem State.setVector_dports (func vec : Nat) (v : Vector) : (s.setVector func vec v).dports = s.dports := rfl
@[simp] theorem State.setVector_parts (func vec : Nat) (v : Vector) : (s.setVector func vec v).parts = s.parts := rfl
@[simp] theorem State.setVector_partCmds (func vec : Nat) (v : Vector) : (s.setVector func vec v).partCmds = s.partCmds := rfl
@[simp] theorem State.setVector_queues (func vec : Nat) (v : Vector) : (s.setVector func vec v).queues = s.queues := rfl
@[simp] theorem State.setVector_reeveInts (func vec : Nat) (v : Vector) : (s.setVector func vec v).reeveInts = s.reeveInts := rfl
@[simp] theorem State.setVector_conns (func vec : Nat) (v : Vector) : (s.setVector func vec v).conns = s.conns := rfl
@[simp] theorem State.setVector_paths (func vec : Nat) (v : Vector) : (s.setVector func vec v).paths = s.paths := rfl
@[simp] theorem State.setVector_wqes (func vec : Nat) (v : Vector) : (s.setVector func vec v).wqes = s.wqes := rfl
@[simp] theorem State.setVector_recvs (func vec : Nat) (v : Vector) : (s.setVector func vec v).recvs = s.recvs := rfl
@[simp] theorem State.setVector_regions (func vec : Nat) (v : Vector) : (s.setVector func vec v).regions = s.regions := rfl
@[simp] theorem State.setVector_flt (func vec : Nat) (v : Vector) : (s.setVector func vec v).flt = s.flt := rfl
@[simp] theorem State.setVector_fab (func vec : Nat) (v : Vector) : (s.setVector func vec v).fab = s.fab := rfl
@[simp] theorem State.setVector_blk (func vec : Nat) (v : Vector) : (s.setVector func vec v).blk = s.blk := rfl
@[simp] theorem State.setVector_ciph (func vec : Nat) (v : Vector) : (s.setVector func vec v).ciph = s.ciph := rfl
@[simp] theorem State.setVector_evlog (func vec : Nat) (v : Vector) : (s.setVector func vec v).evlog = s.evlog := rfl
@[simp] theorem State.setVector_pwr (func vec : Nat) (v : Vector) : (s.setVector func vec v).pwr = s.pwr := rfl
@[simp] theorem State.setVector_rv (func vec : Nat) (v : Vector) : (s.setVector func vec v).rv = s.rv := rfl
@[simp] theorem State.setVector_tst (func vec : Nat) (v : Vector) : (s.setVector func vec v).tst = s.tst := rfl
@[simp] theorem State.setVector_hostBlobs (func vec : Nat) (v : Vector) : (s.setVector func vec v).hostBlobs = s.hostBlobs := rfl

/-! ### setBlk changes blk alone -/

@[simp] theorem State.setBlk_pending (d : BlkCmd) : (s.setBlk d).pending = s.pending := rfl
@[simp] theorem State.setBlk_out (d : BlkCmd) : (s.setBlk d).out = s.out := rfl
@[simp] theorem State.setBlk_now (d : BlkCmd) : (s.setBlk d).now = s.now := rfl
@[simp] theorem State.setBlk_free (d : BlkCmd) : (s.setBlk d).free = s.free := rfl
@[simp] theorem State.setBlk_regs (d : BlkCmd) : (s.setBlk d).regs = s.regs := rfl
@[simp] theorem State.setBlk_heldLow (d : BlkCmd) : (s.setBlk d).heldLow = s.heldLow := rfl
@[simp] theorem State.setBlk_latchedHigh (d : BlkCmd) : (s.setBlk d).latchedHigh = s.latchedHigh := rfl
@[simp] theorem State.setBlk_mem (d : BlkCmd) : (s.setBlk d).mem = s.mem := rfl
@[simp] theorem State.setBlk_bell (d : BlkCmd) : (s.setBlk d).bell = s.bell := rfl
@[simp] theorem State.setBlk_slots (d : BlkCmd) : (s.setBlk d).slots = s.slots := rfl
@[simp] theorem State.setBlk_credits (d : BlkCmd) : (s.setBlk d).credits = s.credits := rfl
@[simp] theorem State.setBlk_shares (d : BlkCmd) : (s.setBlk d).shares = s.shares := rfl
@[simp] theorem State.setBlk_counters (d : BlkCmd) : (s.setBlk d).counters = s.counters := rfl
@[simp] theorem State.setBlk_ctxs (d : BlkCmd) : (s.setBlk d).ctxs = s.ctxs := rfl
@[simp] theorem State.setBlk_heavy (d : BlkCmd) : (s.setBlk d).heavy = s.heavy := rfl
@[simp] theorem State.setBlk_copies (d : BlkCmd) : (s.setBlk d).copies = s.copies := rfl
@[simp] theorem State.setBlk_cpdId (d : BlkCmd) : (s.setBlk d).cpdId = s.cpdId := rfl
@[simp] theorem State.setBlk_memSt (d : BlkCmd) : (s.setBlk d).memSt = s.memSt := rfl
@[simp] theorem State.setBlk_dports (d : BlkCmd) : (s.setBlk d).dports = s.dports := rfl
@[simp] theorem State.setBlk_parts (d : BlkCmd) : (s.setBlk d).parts = s.parts := rfl
@[simp] theorem State.setBlk_partCmds (d : BlkCmd) : (s.setBlk d).partCmds = s.partCmds := rfl
@[simp] theorem State.setBlk_queues (d : BlkCmd) : (s.setBlk d).queues = s.queues := rfl
@[simp] theorem State.setBlk_pci (d : BlkCmd) : (s.setBlk d).pci = s.pci := rfl
@[simp] theorem State.setBlk_reeveInts (d : BlkCmd) : (s.setBlk d).reeveInts = s.reeveInts := rfl
@[simp] theorem State.setBlk_conns (d : BlkCmd) : (s.setBlk d).conns = s.conns := rfl
@[simp] theorem State.setBlk_paths (d : BlkCmd) : (s.setBlk d).paths = s.paths := rfl
@[simp] theorem State.setBlk_wqes (d : BlkCmd) : (s.setBlk d).wqes = s.wqes := rfl
@[simp] theorem State.setBlk_recvs (d : BlkCmd) : (s.setBlk d).recvs = s.recvs := rfl
@[simp] theorem State.setBlk_regions (d : BlkCmd) : (s.setBlk d).regions = s.regions := rfl
@[simp] theorem State.setBlk_flt (d : BlkCmd) : (s.setBlk d).flt = s.flt := rfl
@[simp] theorem State.setBlk_fab (d : BlkCmd) : (s.setBlk d).fab = s.fab := rfl
@[simp] theorem State.setBlk_ciph (d : BlkCmd) : (s.setBlk d).ciph = s.ciph := rfl
@[simp] theorem State.setBlk_evlog (d : BlkCmd) : (s.setBlk d).evlog = s.evlog := rfl
@[simp] theorem State.setBlk_pwr (d : BlkCmd) : (s.setBlk d).pwr = s.pwr := rfl
@[simp] theorem State.setBlk_rv (d : BlkCmd) : (s.setBlk d).rv = s.rv := rfl
@[simp] theorem State.setBlk_tst (d : BlkCmd) : (s.setBlk d).tst = s.tst := rfl
@[simp] theorem State.setBlk_hostBlobs (d : BlkCmd) : (s.setBlk d).hostBlobs = s.hostBlobs := rfl

/-! ### setCiReq changes ciph alone -/

@[simp] theorem State.setCiReq_pending (r : CipherReq) : (s.setCiReq r).pending = s.pending := rfl
@[simp] theorem State.setCiReq_out (r : CipherReq) : (s.setCiReq r).out = s.out := rfl
@[simp] theorem State.setCiReq_now (r : CipherReq) : (s.setCiReq r).now = s.now := rfl
@[simp] theorem State.setCiReq_free (r : CipherReq) : (s.setCiReq r).free = s.free := rfl
@[simp] theorem State.setCiReq_regs (r : CipherReq) : (s.setCiReq r).regs = s.regs := rfl
@[simp] theorem State.setCiReq_heldLow (r : CipherReq) : (s.setCiReq r).heldLow = s.heldLow := rfl
@[simp] theorem State.setCiReq_latchedHigh (r : CipherReq) : (s.setCiReq r).latchedHigh = s.latchedHigh := rfl
@[simp] theorem State.setCiReq_mem (r : CipherReq) : (s.setCiReq r).mem = s.mem := rfl
@[simp] theorem State.setCiReq_bell (r : CipherReq) : (s.setCiReq r).bell = s.bell := rfl
@[simp] theorem State.setCiReq_slots (r : CipherReq) : (s.setCiReq r).slots = s.slots := rfl
@[simp] theorem State.setCiReq_credits (r : CipherReq) : (s.setCiReq r).credits = s.credits := rfl
@[simp] theorem State.setCiReq_shares (r : CipherReq) : (s.setCiReq r).shares = s.shares := rfl
@[simp] theorem State.setCiReq_counters (r : CipherReq) : (s.setCiReq r).counters = s.counters := rfl
@[simp] theorem State.setCiReq_ctxs (r : CipherReq) : (s.setCiReq r).ctxs = s.ctxs := rfl
@[simp] theorem State.setCiReq_heavy (r : CipherReq) : (s.setCiReq r).heavy = s.heavy := rfl
@[simp] theorem State.setCiReq_copies (r : CipherReq) : (s.setCiReq r).copies = s.copies := rfl
@[simp] theorem State.setCiReq_cpdId (r : CipherReq) : (s.setCiReq r).cpdId = s.cpdId := rfl
@[simp] theorem State.setCiReq_memSt (r : CipherReq) : (s.setCiReq r).memSt = s.memSt := rfl
@[simp] theorem State.setCiReq_dports (r : CipherReq) : (s.setCiReq r).dports = s.dports := rfl
@[simp] theorem State.setCiReq_parts (r : CipherReq) : (s.setCiReq r).parts = s.parts := rfl
@[simp] theorem State.setCiReq_partCmds (r : CipherReq) : (s.setCiReq r).partCmds = s.partCmds := rfl
@[simp] theorem State.setCiReq_queues (r : CipherReq) : (s.setCiReq r).queues = s.queues := rfl
@[simp] theorem State.setCiReq_pci (r : CipherReq) : (s.setCiReq r).pci = s.pci := rfl
@[simp] theorem State.setCiReq_reeveInts (r : CipherReq) : (s.setCiReq r).reeveInts = s.reeveInts := rfl
@[simp] theorem State.setCiReq_conns (r : CipherReq) : (s.setCiReq r).conns = s.conns := rfl
@[simp] theorem State.setCiReq_paths (r : CipherReq) : (s.setCiReq r).paths = s.paths := rfl
@[simp] theorem State.setCiReq_wqes (r : CipherReq) : (s.setCiReq r).wqes = s.wqes := rfl
@[simp] theorem State.setCiReq_recvs (r : CipherReq) : (s.setCiReq r).recvs = s.recvs := rfl
@[simp] theorem State.setCiReq_regions (r : CipherReq) : (s.setCiReq r).regions = s.regions := rfl
@[simp] theorem State.setCiReq_flt (r : CipherReq) : (s.setCiReq r).flt = s.flt := rfl
@[simp] theorem State.setCiReq_fab (r : CipherReq) : (s.setCiReq r).fab = s.fab := rfl
@[simp] theorem State.setCiReq_blk (r : CipherReq) : (s.setCiReq r).blk = s.blk := rfl
@[simp] theorem State.setCiReq_evlog (r : CipherReq) : (s.setCiReq r).evlog = s.evlog := rfl
@[simp] theorem State.setCiReq_pwr (r : CipherReq) : (s.setCiReq r).pwr = s.pwr := rfl
@[simp] theorem State.setCiReq_rv (r : CipherReq) : (s.setCiReq r).rv = s.rv := rfl
@[simp] theorem State.setCiReq_tst (r : CipherReq) : (s.setCiReq r).tst = s.tst := rfl
@[simp] theorem State.setCiReq_hostBlobs (r : CipherReq) : (s.setCiReq r).hostBlobs = s.hostBlobs := rfl

/-! ### setKeySlot changes ciph alone -/

@[simp] theorem State.setKeySlot_pending (p k : Nat) (x : KeySlot) : (s.setKeySlot p k x).pending = s.pending := rfl
@[simp] theorem State.setKeySlot_out (p k : Nat) (x : KeySlot) : (s.setKeySlot p k x).out = s.out := rfl
@[simp] theorem State.setKeySlot_now (p k : Nat) (x : KeySlot) : (s.setKeySlot p k x).now = s.now := rfl
@[simp] theorem State.setKeySlot_free (p k : Nat) (x : KeySlot) : (s.setKeySlot p k x).free = s.free := rfl
@[simp] theorem State.setKeySlot_regs (p k : Nat) (x : KeySlot) : (s.setKeySlot p k x).regs = s.regs := rfl
@[simp] theorem State.setKeySlot_heldLow (p k : Nat) (x : KeySlot) : (s.setKeySlot p k x).heldLow = s.heldLow := rfl
@[simp] theorem State.setKeySlot_latchedHigh (p k : Nat) (x : KeySlot) : (s.setKeySlot p k x).latchedHigh = s.latchedHigh := rfl
@[simp] theorem State.setKeySlot_mem (p k : Nat) (x : KeySlot) : (s.setKeySlot p k x).mem = s.mem := rfl
@[simp] theorem State.setKeySlot_bell (p k : Nat) (x : KeySlot) : (s.setKeySlot p k x).bell = s.bell := rfl
@[simp] theorem State.setKeySlot_slots (p k : Nat) (x : KeySlot) : (s.setKeySlot p k x).slots = s.slots := rfl
@[simp] theorem State.setKeySlot_credits (p k : Nat) (x : KeySlot) : (s.setKeySlot p k x).credits = s.credits := rfl
@[simp] theorem State.setKeySlot_shares (p k : Nat) (x : KeySlot) : (s.setKeySlot p k x).shares = s.shares := rfl
@[simp] theorem State.setKeySlot_counters (p k : Nat) (x : KeySlot) : (s.setKeySlot p k x).counters = s.counters := rfl
@[simp] theorem State.setKeySlot_ctxs (p k : Nat) (x : KeySlot) : (s.setKeySlot p k x).ctxs = s.ctxs := rfl
@[simp] theorem State.setKeySlot_heavy (p k : Nat) (x : KeySlot) : (s.setKeySlot p k x).heavy = s.heavy := rfl
@[simp] theorem State.setKeySlot_copies (p k : Nat) (x : KeySlot) : (s.setKeySlot p k x).copies = s.copies := rfl
@[simp] theorem State.setKeySlot_cpdId (p k : Nat) (x : KeySlot) : (s.setKeySlot p k x).cpdId = s.cpdId := rfl
@[simp] theorem State.setKeySlot_memSt (p k : Nat) (x : KeySlot) : (s.setKeySlot p k x).memSt = s.memSt := rfl
@[simp] theorem State.setKeySlot_dports (p k : Nat) (x : KeySlot) : (s.setKeySlot p k x).dports = s.dports := rfl
@[simp] theorem State.setKeySlot_parts (p k : Nat) (x : KeySlot) : (s.setKeySlot p k x).parts = s.parts := rfl
@[simp] theorem State.setKeySlot_partCmds (p k : Nat) (x : KeySlot) : (s.setKeySlot p k x).partCmds = s.partCmds := rfl
@[simp] theorem State.setKeySlot_queues (p k : Nat) (x : KeySlot) : (s.setKeySlot p k x).queues = s.queues := rfl
@[simp] theorem State.setKeySlot_pci (p k : Nat) (x : KeySlot) : (s.setKeySlot p k x).pci = s.pci := rfl
@[simp] theorem State.setKeySlot_reeveInts (p k : Nat) (x : KeySlot) : (s.setKeySlot p k x).reeveInts = s.reeveInts := rfl
@[simp] theorem State.setKeySlot_conns (p k : Nat) (x : KeySlot) : (s.setKeySlot p k x).conns = s.conns := rfl
@[simp] theorem State.setKeySlot_paths (p k : Nat) (x : KeySlot) : (s.setKeySlot p k x).paths = s.paths := rfl
@[simp] theorem State.setKeySlot_wqes (p k : Nat) (x : KeySlot) : (s.setKeySlot p k x).wqes = s.wqes := rfl
@[simp] theorem State.setKeySlot_recvs (p k : Nat) (x : KeySlot) : (s.setKeySlot p k x).recvs = s.recvs := rfl
@[simp] theorem State.setKeySlot_regions (p k : Nat) (x : KeySlot) : (s.setKeySlot p k x).regions = s.regions := rfl
@[simp] theorem State.setKeySlot_flt (p k : Nat) (x : KeySlot) : (s.setKeySlot p k x).flt = s.flt := rfl
@[simp] theorem State.setKeySlot_fab (p k : Nat) (x : KeySlot) : (s.setKeySlot p k x).fab = s.fab := rfl
@[simp] theorem State.setKeySlot_blk (p k : Nat) (x : KeySlot) : (s.setKeySlot p k x).blk = s.blk := rfl
@[simp] theorem State.setKeySlot_evlog (p k : Nat) (x : KeySlot) : (s.setKeySlot p k x).evlog = s.evlog := rfl
@[simp] theorem State.setKeySlot_pwr (p k : Nat) (x : KeySlot) : (s.setKeySlot p k x).pwr = s.pwr := rfl
@[simp] theorem State.setKeySlot_rv (p k : Nat) (x : KeySlot) : (s.setKeySlot p k x).rv = s.rv := rfl
@[simp] theorem State.setKeySlot_tst (p k : Nat) (x : KeySlot) : (s.setKeySlot p k x).tst = s.tst := rfl
@[simp] theorem State.setKeySlot_hostBlobs (p k : Nat) (x : KeySlot) : (s.setKeySlot p k x).hostBlobs = s.hostBlobs := rfl

/-! ### setCipherCore changes ciph alone -/

@[simp] theorem State.setCipherCore_pending (i : Nat) (x : CipherCore) : (s.setCipherCore i x).pending = s.pending := rfl
@[simp] theorem State.setCipherCore_out (i : Nat) (x : CipherCore) : (s.setCipherCore i x).out = s.out := rfl
@[simp] theorem State.setCipherCore_now (i : Nat) (x : CipherCore) : (s.setCipherCore i x).now = s.now := rfl
@[simp] theorem State.setCipherCore_free (i : Nat) (x : CipherCore) : (s.setCipherCore i x).free = s.free := rfl
@[simp] theorem State.setCipherCore_regs (i : Nat) (x : CipherCore) : (s.setCipherCore i x).regs = s.regs := rfl
@[simp] theorem State.setCipherCore_heldLow (i : Nat) (x : CipherCore) : (s.setCipherCore i x).heldLow = s.heldLow := rfl
@[simp] theorem State.setCipherCore_latchedHigh (i : Nat) (x : CipherCore) : (s.setCipherCore i x).latchedHigh = s.latchedHigh := rfl
@[simp] theorem State.setCipherCore_mem (i : Nat) (x : CipherCore) : (s.setCipherCore i x).mem = s.mem := rfl
@[simp] theorem State.setCipherCore_bell (i : Nat) (x : CipherCore) : (s.setCipherCore i x).bell = s.bell := rfl
@[simp] theorem State.setCipherCore_slots (i : Nat) (x : CipherCore) : (s.setCipherCore i x).slots = s.slots := rfl
@[simp] theorem State.setCipherCore_credits (i : Nat) (x : CipherCore) : (s.setCipherCore i x).credits = s.credits := rfl
@[simp] theorem State.setCipherCore_shares (i : Nat) (x : CipherCore) : (s.setCipherCore i x).shares = s.shares := rfl
@[simp] theorem State.setCipherCore_counters (i : Nat) (x : CipherCore) : (s.setCipherCore i x).counters = s.counters := rfl
@[simp] theorem State.setCipherCore_ctxs (i : Nat) (x : CipherCore) : (s.setCipherCore i x).ctxs = s.ctxs := rfl
@[simp] theorem State.setCipherCore_heavy (i : Nat) (x : CipherCore) : (s.setCipherCore i x).heavy = s.heavy := rfl
@[simp] theorem State.setCipherCore_copies (i : Nat) (x : CipherCore) : (s.setCipherCore i x).copies = s.copies := rfl
@[simp] theorem State.setCipherCore_cpdId (i : Nat) (x : CipherCore) : (s.setCipherCore i x).cpdId = s.cpdId := rfl
@[simp] theorem State.setCipherCore_memSt (i : Nat) (x : CipherCore) : (s.setCipherCore i x).memSt = s.memSt := rfl
@[simp] theorem State.setCipherCore_dports (i : Nat) (x : CipherCore) : (s.setCipherCore i x).dports = s.dports := rfl
@[simp] theorem State.setCipherCore_parts (i : Nat) (x : CipherCore) : (s.setCipherCore i x).parts = s.parts := rfl
@[simp] theorem State.setCipherCore_partCmds (i : Nat) (x : CipherCore) : (s.setCipherCore i x).partCmds = s.partCmds := rfl
@[simp] theorem State.setCipherCore_queues (i : Nat) (x : CipherCore) : (s.setCipherCore i x).queues = s.queues := rfl
@[simp] theorem State.setCipherCore_pci (i : Nat) (x : CipherCore) : (s.setCipherCore i x).pci = s.pci := rfl
@[simp] theorem State.setCipherCore_reeveInts (i : Nat) (x : CipherCore) : (s.setCipherCore i x).reeveInts = s.reeveInts := rfl
@[simp] theorem State.setCipherCore_conns (i : Nat) (x : CipherCore) : (s.setCipherCore i x).conns = s.conns := rfl
@[simp] theorem State.setCipherCore_paths (i : Nat) (x : CipherCore) : (s.setCipherCore i x).paths = s.paths := rfl
@[simp] theorem State.setCipherCore_wqes (i : Nat) (x : CipherCore) : (s.setCipherCore i x).wqes = s.wqes := rfl
@[simp] theorem State.setCipherCore_recvs (i : Nat) (x : CipherCore) : (s.setCipherCore i x).recvs = s.recvs := rfl
@[simp] theorem State.setCipherCore_regions (i : Nat) (x : CipherCore) : (s.setCipherCore i x).regions = s.regions := rfl
@[simp] theorem State.setCipherCore_flt (i : Nat) (x : CipherCore) : (s.setCipherCore i x).flt = s.flt := rfl
@[simp] theorem State.setCipherCore_fab (i : Nat) (x : CipherCore) : (s.setCipherCore i x).fab = s.fab := rfl
@[simp] theorem State.setCipherCore_blk (i : Nat) (x : CipherCore) : (s.setCipherCore i x).blk = s.blk := rfl
@[simp] theorem State.setCipherCore_evlog (i : Nat) (x : CipherCore) : (s.setCipherCore i x).evlog = s.evlog := rfl
@[simp] theorem State.setCipherCore_pwr (i : Nat) (x : CipherCore) : (s.setCipherCore i x).pwr = s.pwr := rfl
@[simp] theorem State.setCipherCore_rv (i : Nat) (x : CipherCore) : (s.setCipherCore i x).rv = s.rv := rfl
@[simp] theorem State.setCipherCore_tst (i : Nat) (x : CipherCore) : (s.setCipherCore i x).tst = s.tst := rfl
@[simp] theorem State.setCipherCore_hostBlobs (i : Nat) (x : CipherCore) : (s.setCipherCore i x).hostBlobs = s.hostBlobs := rfl

/-! ### setCkp changes flt alone -/

@[simp] theorem State.setCkp_pending (k : Nat) (x : Ckp) : (s.setCkp k x).pending = s.pending := rfl
@[simp] theorem State.setCkp_out (k : Nat) (x : Ckp) : (s.setCkp k x).out = s.out := rfl
@[simp] theorem State.setCkp_now (k : Nat) (x : Ckp) : (s.setCkp k x).now = s.now := rfl
@[simp] theorem State.setCkp_free (k : Nat) (x : Ckp) : (s.setCkp k x).free = s.free := rfl
@[simp] theorem State.setCkp_regs (k : Nat) (x : Ckp) : (s.setCkp k x).regs = s.regs := rfl
@[simp] theorem State.setCkp_heldLow (k : Nat) (x : Ckp) : (s.setCkp k x).heldLow = s.heldLow := rfl
@[simp] theorem State.setCkp_latchedHigh (k : Nat) (x : Ckp) : (s.setCkp k x).latchedHigh = s.latchedHigh := rfl
@[simp] theorem State.setCkp_mem (k : Nat) (x : Ckp) : (s.setCkp k x).mem = s.mem := rfl
@[simp] theorem State.setCkp_bell (k : Nat) (x : Ckp) : (s.setCkp k x).bell = s.bell := rfl
@[simp] theorem State.setCkp_slots (k : Nat) (x : Ckp) : (s.setCkp k x).slots = s.slots := rfl
@[simp] theorem State.setCkp_credits (k : Nat) (x : Ckp) : (s.setCkp k x).credits = s.credits := rfl
@[simp] theorem State.setCkp_shares (k : Nat) (x : Ckp) : (s.setCkp k x).shares = s.shares := rfl
@[simp] theorem State.setCkp_counters (k : Nat) (x : Ckp) : (s.setCkp k x).counters = s.counters := rfl
@[simp] theorem State.setCkp_ctxs (k : Nat) (x : Ckp) : (s.setCkp k x).ctxs = s.ctxs := rfl
@[simp] theorem State.setCkp_heavy (k : Nat) (x : Ckp) : (s.setCkp k x).heavy = s.heavy := rfl
@[simp] theorem State.setCkp_copies (k : Nat) (x : Ckp) : (s.setCkp k x).copies = s.copies := rfl
@[simp] theorem State.setCkp_cpdId (k : Nat) (x : Ckp) : (s.setCkp k x).cpdId = s.cpdId := rfl
@[simp] theorem State.setCkp_memSt (k : Nat) (x : Ckp) : (s.setCkp k x).memSt = s.memSt := rfl
@[simp] theorem State.setCkp_dports (k : Nat) (x : Ckp) : (s.setCkp k x).dports = s.dports := rfl
@[simp] theorem State.setCkp_parts (k : Nat) (x : Ckp) : (s.setCkp k x).parts = s.parts := rfl
@[simp] theorem State.setCkp_partCmds (k : Nat) (x : Ckp) : (s.setCkp k x).partCmds = s.partCmds := rfl
@[simp] theorem State.setCkp_queues (k : Nat) (x : Ckp) : (s.setCkp k x).queues = s.queues := rfl
@[simp] theorem State.setCkp_pci (k : Nat) (x : Ckp) : (s.setCkp k x).pci = s.pci := rfl
@[simp] theorem State.setCkp_reeveInts (k : Nat) (x : Ckp) : (s.setCkp k x).reeveInts = s.reeveInts := rfl
@[simp] theorem State.setCkp_conns (k : Nat) (x : Ckp) : (s.setCkp k x).conns = s.conns := rfl
@[simp] theorem State.setCkp_paths (k : Nat) (x : Ckp) : (s.setCkp k x).paths = s.paths := rfl
@[simp] theorem State.setCkp_wqes (k : Nat) (x : Ckp) : (s.setCkp k x).wqes = s.wqes := rfl
@[simp] theorem State.setCkp_recvs (k : Nat) (x : Ckp) : (s.setCkp k x).recvs = s.recvs := rfl
@[simp] theorem State.setCkp_regions (k : Nat) (x : Ckp) : (s.setCkp k x).regions = s.regions := rfl
@[simp] theorem State.setCkp_fab (k : Nat) (x : Ckp) : (s.setCkp k x).fab = s.fab := rfl
@[simp] theorem State.setCkp_blk (k : Nat) (x : Ckp) : (s.setCkp k x).blk = s.blk := rfl
@[simp] theorem State.setCkp_ciph (k : Nat) (x : Ckp) : (s.setCkp k x).ciph = s.ciph := rfl
@[simp] theorem State.setCkp_evlog (k : Nat) (x : Ckp) : (s.setCkp k x).evlog = s.evlog := rfl
@[simp] theorem State.setCkp_pwr (k : Nat) (x : Ckp) : (s.setCkp k x).pwr = s.pwr := rfl
@[simp] theorem State.setCkp_rv (k : Nat) (x : Ckp) : (s.setCkp k x).rv = s.rv := rfl
@[simp] theorem State.setCkp_tst (k : Nat) (x : Ckp) : (s.setCkp k x).tst = s.tst := rfl
@[simp] theorem State.setCkp_hostBlobs (k : Nat) (x : Ckp) : (s.setCkp k x).hostBlobs = s.hostBlobs := rfl

/-! ### setReplay changes flt alone -/

@[simp] theorem State.setReplay_pending (n : Nat) (r : Option Replay) : (s.setReplay n r).pending = s.pending := rfl
@[simp] theorem State.setReplay_out (n : Nat) (r : Option Replay) : (s.setReplay n r).out = s.out := rfl
@[simp] theorem State.setReplay_now (n : Nat) (r : Option Replay) : (s.setReplay n r).now = s.now := rfl
@[simp] theorem State.setReplay_free (n : Nat) (r : Option Replay) : (s.setReplay n r).free = s.free := rfl
@[simp] theorem State.setReplay_regs (n : Nat) (r : Option Replay) : (s.setReplay n r).regs = s.regs := rfl
@[simp] theorem State.setReplay_heldLow (n : Nat) (r : Option Replay) : (s.setReplay n r).heldLow = s.heldLow := rfl
@[simp] theorem State.setReplay_latchedHigh (n : Nat) (r : Option Replay) : (s.setReplay n r).latchedHigh = s.latchedHigh := rfl
@[simp] theorem State.setReplay_mem (n : Nat) (r : Option Replay) : (s.setReplay n r).mem = s.mem := rfl
@[simp] theorem State.setReplay_bell (n : Nat) (r : Option Replay) : (s.setReplay n r).bell = s.bell := rfl
@[simp] theorem State.setReplay_slots (n : Nat) (r : Option Replay) : (s.setReplay n r).slots = s.slots := rfl
@[simp] theorem State.setReplay_credits (n : Nat) (r : Option Replay) : (s.setReplay n r).credits = s.credits := rfl
@[simp] theorem State.setReplay_shares (n : Nat) (r : Option Replay) : (s.setReplay n r).shares = s.shares := rfl
@[simp] theorem State.setReplay_counters (n : Nat) (r : Option Replay) : (s.setReplay n r).counters = s.counters := rfl
@[simp] theorem State.setReplay_ctxs (n : Nat) (r : Option Replay) : (s.setReplay n r).ctxs = s.ctxs := rfl
@[simp] theorem State.setReplay_heavy (n : Nat) (r : Option Replay) : (s.setReplay n r).heavy = s.heavy := rfl
@[simp] theorem State.setReplay_copies (n : Nat) (r : Option Replay) : (s.setReplay n r).copies = s.copies := rfl
@[simp] theorem State.setReplay_cpdId (n : Nat) (r : Option Replay) : (s.setReplay n r).cpdId = s.cpdId := rfl
@[simp] theorem State.setReplay_memSt (n : Nat) (r : Option Replay) : (s.setReplay n r).memSt = s.memSt := rfl
@[simp] theorem State.setReplay_dports (n : Nat) (r : Option Replay) : (s.setReplay n r).dports = s.dports := rfl
@[simp] theorem State.setReplay_parts (n : Nat) (r : Option Replay) : (s.setReplay n r).parts = s.parts := rfl
@[simp] theorem State.setReplay_partCmds (n : Nat) (r : Option Replay) : (s.setReplay n r).partCmds = s.partCmds := rfl
@[simp] theorem State.setReplay_queues (n : Nat) (r : Option Replay) : (s.setReplay n r).queues = s.queues := rfl
@[simp] theorem State.setReplay_pci (n : Nat) (r : Option Replay) : (s.setReplay n r).pci = s.pci := rfl
@[simp] theorem State.setReplay_reeveInts (n : Nat) (r : Option Replay) : (s.setReplay n r).reeveInts = s.reeveInts := rfl
@[simp] theorem State.setReplay_conns (n : Nat) (r : Option Replay) : (s.setReplay n r).conns = s.conns := rfl
@[simp] theorem State.setReplay_paths (n : Nat) (r : Option Replay) : (s.setReplay n r).paths = s.paths := rfl
@[simp] theorem State.setReplay_wqes (n : Nat) (r : Option Replay) : (s.setReplay n r).wqes = s.wqes := rfl
@[simp] theorem State.setReplay_recvs (n : Nat) (r : Option Replay) : (s.setReplay n r).recvs = s.recvs := rfl
@[simp] theorem State.setReplay_regions (n : Nat) (r : Option Replay) : (s.setReplay n r).regions = s.regions := rfl
@[simp] theorem State.setReplay_fab (n : Nat) (r : Option Replay) : (s.setReplay n r).fab = s.fab := rfl
@[simp] theorem State.setReplay_blk (n : Nat) (r : Option Replay) : (s.setReplay n r).blk = s.blk := rfl
@[simp] theorem State.setReplay_ciph (n : Nat) (r : Option Replay) : (s.setReplay n r).ciph = s.ciph := rfl
@[simp] theorem State.setReplay_evlog (n : Nat) (r : Option Replay) : (s.setReplay n r).evlog = s.evlog := rfl
@[simp] theorem State.setReplay_pwr (n : Nat) (r : Option Replay) : (s.setReplay n r).pwr = s.pwr := rfl
@[simp] theorem State.setReplay_rv (n : Nat) (r : Option Replay) : (s.setReplay n r).rv = s.rv := rfl
@[simp] theorem State.setReplay_tst (n : Nat) (r : Option Replay) : (s.setReplay n r).tst = s.tst := rfl
@[simp] theorem State.setReplay_hostBlobs (n : Nat) (r : Option Replay) : (s.setReplay n r).hostBlobs = s.hostBlobs := rfl

/-! ### setMopLog changes flt alone -/

@[simp] theorem State.setMopLog_pending (n : Nat) (l : List LogMop) : (s.setMopLog n l).pending = s.pending := rfl
@[simp] theorem State.setMopLog_out (n : Nat) (l : List LogMop) : (s.setMopLog n l).out = s.out := rfl
@[simp] theorem State.setMopLog_now (n : Nat) (l : List LogMop) : (s.setMopLog n l).now = s.now := rfl
@[simp] theorem State.setMopLog_free (n : Nat) (l : List LogMop) : (s.setMopLog n l).free = s.free := rfl
@[simp] theorem State.setMopLog_regs (n : Nat) (l : List LogMop) : (s.setMopLog n l).regs = s.regs := rfl
@[simp] theorem State.setMopLog_heldLow (n : Nat) (l : List LogMop) : (s.setMopLog n l).heldLow = s.heldLow := rfl
@[simp] theorem State.setMopLog_latchedHigh (n : Nat) (l : List LogMop) : (s.setMopLog n l).latchedHigh = s.latchedHigh := rfl
@[simp] theorem State.setMopLog_mem (n : Nat) (l : List LogMop) : (s.setMopLog n l).mem = s.mem := rfl
@[simp] theorem State.setMopLog_bell (n : Nat) (l : List LogMop) : (s.setMopLog n l).bell = s.bell := rfl
@[simp] theorem State.setMopLog_slots (n : Nat) (l : List LogMop) : (s.setMopLog n l).slots = s.slots := rfl
@[simp] theorem State.setMopLog_credits (n : Nat) (l : List LogMop) : (s.setMopLog n l).credits = s.credits := rfl
@[simp] theorem State.setMopLog_shares (n : Nat) (l : List LogMop) : (s.setMopLog n l).shares = s.shares := rfl
@[simp] theorem State.setMopLog_counters (n : Nat) (l : List LogMop) : (s.setMopLog n l).counters = s.counters := rfl
@[simp] theorem State.setMopLog_ctxs (n : Nat) (l : List LogMop) : (s.setMopLog n l).ctxs = s.ctxs := rfl
@[simp] theorem State.setMopLog_heavy (n : Nat) (l : List LogMop) : (s.setMopLog n l).heavy = s.heavy := rfl
@[simp] theorem State.setMopLog_copies (n : Nat) (l : List LogMop) : (s.setMopLog n l).copies = s.copies := rfl
@[simp] theorem State.setMopLog_cpdId (n : Nat) (l : List LogMop) : (s.setMopLog n l).cpdId = s.cpdId := rfl
@[simp] theorem State.setMopLog_memSt (n : Nat) (l : List LogMop) : (s.setMopLog n l).memSt = s.memSt := rfl
@[simp] theorem State.setMopLog_dports (n : Nat) (l : List LogMop) : (s.setMopLog n l).dports = s.dports := rfl
@[simp] theorem State.setMopLog_parts (n : Nat) (l : List LogMop) : (s.setMopLog n l).parts = s.parts := rfl
@[simp] theorem State.setMopLog_partCmds (n : Nat) (l : List LogMop) : (s.setMopLog n l).partCmds = s.partCmds := rfl
@[simp] theorem State.setMopLog_queues (n : Nat) (l : List LogMop) : (s.setMopLog n l).queues = s.queues := rfl
@[simp] theorem State.setMopLog_pci (n : Nat) (l : List LogMop) : (s.setMopLog n l).pci = s.pci := rfl
@[simp] theorem State.setMopLog_reeveInts (n : Nat) (l : List LogMop) : (s.setMopLog n l).reeveInts = s.reeveInts := rfl
@[simp] theorem State.setMopLog_conns (n : Nat) (l : List LogMop) : (s.setMopLog n l).conns = s.conns := rfl
@[simp] theorem State.setMopLog_paths (n : Nat) (l : List LogMop) : (s.setMopLog n l).paths = s.paths := rfl
@[simp] theorem State.setMopLog_wqes (n : Nat) (l : List LogMop) : (s.setMopLog n l).wqes = s.wqes := rfl
@[simp] theorem State.setMopLog_recvs (n : Nat) (l : List LogMop) : (s.setMopLog n l).recvs = s.recvs := rfl
@[simp] theorem State.setMopLog_regions (n : Nat) (l : List LogMop) : (s.setMopLog n l).regions = s.regions := rfl
@[simp] theorem State.setMopLog_fab (n : Nat) (l : List LogMop) : (s.setMopLog n l).fab = s.fab := rfl
@[simp] theorem State.setMopLog_blk (n : Nat) (l : List LogMop) : (s.setMopLog n l).blk = s.blk := rfl
@[simp] theorem State.setMopLog_ciph (n : Nat) (l : List LogMop) : (s.setMopLog n l).ciph = s.ciph := rfl
@[simp] theorem State.setMopLog_evlog (n : Nat) (l : List LogMop) : (s.setMopLog n l).evlog = s.evlog := rfl
@[simp] theorem State.setMopLog_pwr (n : Nat) (l : List LogMop) : (s.setMopLog n l).pwr = s.pwr := rfl
@[simp] theorem State.setMopLog_rv (n : Nat) (l : List LogMop) : (s.setMopLog n l).rv = s.rv := rfl
@[simp] theorem State.setMopLog_tst (n : Nat) (l : List LogMop) : (s.setMopLog n l).tst = s.tst := rfl
@[simp] theorem State.setMopLog_hostBlobs (n : Nat) (l : List LogMop) : (s.setMopLog n l).hostBlobs = s.hostBlobs := rfl

/-! ### setPort changes fab alone -/

@[simp] theorem State.setPort_pending (l : Nat) (x : PortSt) : (s.setPort l x).pending = s.pending := rfl
@[simp] theorem State.setPort_out (l : Nat) (x : PortSt) : (s.setPort l x).out = s.out := rfl
@[simp] theorem State.setPort_now (l : Nat) (x : PortSt) : (s.setPort l x).now = s.now := rfl
@[simp] theorem State.setPort_free (l : Nat) (x : PortSt) : (s.setPort l x).free = s.free := rfl
@[simp] theorem State.setPort_regs (l : Nat) (x : PortSt) : (s.setPort l x).regs = s.regs := rfl
@[simp] theorem State.setPort_heldLow (l : Nat) (x : PortSt) : (s.setPort l x).heldLow = s.heldLow := rfl
@[simp] theorem State.setPort_latchedHigh (l : Nat) (x : PortSt) : (s.setPort l x).latchedHigh = s.latchedHigh := rfl
@[simp] theorem State.setPort_mem (l : Nat) (x : PortSt) : (s.setPort l x).mem = s.mem := rfl
@[simp] theorem State.setPort_bell (l : Nat) (x : PortSt) : (s.setPort l x).bell = s.bell := rfl
@[simp] theorem State.setPort_slots (l : Nat) (x : PortSt) : (s.setPort l x).slots = s.slots := rfl
@[simp] theorem State.setPort_credits (l : Nat) (x : PortSt) : (s.setPort l x).credits = s.credits := rfl
@[simp] theorem State.setPort_shares (l : Nat) (x : PortSt) : (s.setPort l x).shares = s.shares := rfl
@[simp] theorem State.setPort_counters (l : Nat) (x : PortSt) : (s.setPort l x).counters = s.counters := rfl
@[simp] theorem State.setPort_ctxs (l : Nat) (x : PortSt) : (s.setPort l x).ctxs = s.ctxs := rfl
@[simp] theorem State.setPort_heavy (l : Nat) (x : PortSt) : (s.setPort l x).heavy = s.heavy := rfl
@[simp] theorem State.setPort_copies (l : Nat) (x : PortSt) : (s.setPort l x).copies = s.copies := rfl
@[simp] theorem State.setPort_cpdId (l : Nat) (x : PortSt) : (s.setPort l x).cpdId = s.cpdId := rfl
@[simp] theorem State.setPort_memSt (l : Nat) (x : PortSt) : (s.setPort l x).memSt = s.memSt := rfl
@[simp] theorem State.setPort_dports (l : Nat) (x : PortSt) : (s.setPort l x).dports = s.dports := rfl
@[simp] theorem State.setPort_parts (l : Nat) (x : PortSt) : (s.setPort l x).parts = s.parts := rfl
@[simp] theorem State.setPort_partCmds (l : Nat) (x : PortSt) : (s.setPort l x).partCmds = s.partCmds := rfl
@[simp] theorem State.setPort_queues (l : Nat) (x : PortSt) : (s.setPort l x).queues = s.queues := rfl
@[simp] theorem State.setPort_pci (l : Nat) (x : PortSt) : (s.setPort l x).pci = s.pci := rfl
@[simp] theorem State.setPort_reeveInts (l : Nat) (x : PortSt) : (s.setPort l x).reeveInts = s.reeveInts := rfl
@[simp] theorem State.setPort_conns (l : Nat) (x : PortSt) : (s.setPort l x).conns = s.conns := rfl
@[simp] theorem State.setPort_paths (l : Nat) (x : PortSt) : (s.setPort l x).paths = s.paths := rfl
@[simp] theorem State.setPort_wqes (l : Nat) (x : PortSt) : (s.setPort l x).wqes = s.wqes := rfl
@[simp] theorem State.setPort_recvs (l : Nat) (x : PortSt) : (s.setPort l x).recvs = s.recvs := rfl
@[simp] theorem State.setPort_regions (l : Nat) (x : PortSt) : (s.setPort l x).regions = s.regions := rfl
@[simp] theorem State.setPort_flt (l : Nat) (x : PortSt) : (s.setPort l x).flt = s.flt := rfl
@[simp] theorem State.setPort_blk (l : Nat) (x : PortSt) : (s.setPort l x).blk = s.blk := rfl
@[simp] theorem State.setPort_ciph (l : Nat) (x : PortSt) : (s.setPort l x).ciph = s.ciph := rfl
@[simp] theorem State.setPort_evlog (l : Nat) (x : PortSt) : (s.setPort l x).evlog = s.evlog := rfl
@[simp] theorem State.setPort_pwr (l : Nat) (x : PortSt) : (s.setPort l x).pwr = s.pwr := rfl
@[simp] theorem State.setPort_rv (l : Nat) (x : PortSt) : (s.setPort l x).rv = s.rv := rfl
@[simp] theorem State.setPort_tst (l : Nat) (x : PortSt) : (s.setPort l x).tst = s.tst := rfl
@[simp] theorem State.setPort_hostBlobs (l : Nat) (x : PortSt) : (s.setPort l x).hostBlobs = s.hostBlobs := rfl

/-! ### draw advances the count of free values alone -/

@[simp] theorem State.draw_pending : s.draw.2.pending = s.pending := rfl
@[simp] theorem State.draw_out : s.draw.2.out = s.out := rfl
@[simp] theorem State.draw_now : s.draw.2.now = s.now := rfl
@[simp] theorem State.draw_regs : s.draw.2.regs = s.regs := rfl
@[simp] theorem State.draw_heldLow : s.draw.2.heldLow = s.heldLow := rfl
@[simp] theorem State.draw_latchedHigh : s.draw.2.latchedHigh = s.latchedHigh := rfl
@[simp] theorem State.draw_mem : s.draw.2.mem = s.mem := rfl
@[simp] theorem State.draw_bell : s.draw.2.bell = s.bell := rfl
@[simp] theorem State.draw_slots : s.draw.2.slots = s.slots := rfl
@[simp] theorem State.draw_credits : s.draw.2.credits = s.credits := rfl
@[simp] theorem State.draw_shares : s.draw.2.shares = s.shares := rfl
@[simp] theorem State.draw_counters : s.draw.2.counters = s.counters := rfl
@[simp] theorem State.draw_ctxs : s.draw.2.ctxs = s.ctxs := rfl
@[simp] theorem State.draw_heavy : s.draw.2.heavy = s.heavy := rfl
@[simp] theorem State.draw_copies : s.draw.2.copies = s.copies := rfl
@[simp] theorem State.draw_cpdId : s.draw.2.cpdId = s.cpdId := rfl
@[simp] theorem State.draw_memSt : s.draw.2.memSt = s.memSt := rfl
@[simp] theorem State.draw_dports : s.draw.2.dports = s.dports := rfl
@[simp] theorem State.draw_parts : s.draw.2.parts = s.parts := rfl
@[simp] theorem State.draw_partCmds : s.draw.2.partCmds = s.partCmds := rfl
@[simp] theorem State.draw_queues : s.draw.2.queues = s.queues := rfl
@[simp] theorem State.draw_pci : s.draw.2.pci = s.pci := rfl
@[simp] theorem State.draw_reeveInts : s.draw.2.reeveInts = s.reeveInts := rfl
@[simp] theorem State.draw_conns : s.draw.2.conns = s.conns := rfl
@[simp] theorem State.draw_paths : s.draw.2.paths = s.paths := rfl
@[simp] theorem State.draw_wqes : s.draw.2.wqes = s.wqes := rfl
@[simp] theorem State.draw_recvs : s.draw.2.recvs = s.recvs := rfl
@[simp] theorem State.draw_regions : s.draw.2.regions = s.regions := rfl
@[simp] theorem State.draw_flt : s.draw.2.flt = s.flt := rfl
@[simp] theorem State.draw_fab : s.draw.2.fab = s.fab := rfl
@[simp] theorem State.draw_blk : s.draw.2.blk = s.blk := rfl
@[simp] theorem State.draw_ciph : s.draw.2.ciph = s.ciph := rfl
@[simp] theorem State.draw_evlog : s.draw.2.evlog = s.evlog := rfl
@[simp] theorem State.draw_pwr : s.draw.2.pwr = s.pwr := rfl
@[simp] theorem State.draw_rv : s.draw.2.rv = s.rv := rfl
@[simp] theorem State.draw_tst : s.draw.2.tst = s.tst := rfl
@[simp] theorem State.draw_hostBlobs : s.draw.2.hostBlobs = s.hostBlobs := rfl
@[simp] theorem State.draw_free : s.draw.2.free = s.free + 1 := rfl

end Sys2Proof.Machine
end

