-- ==== Sys2Proof/Tests/Slice0.lean ====
section
/-! SUPPORT. Small states and tests: ill-formed commands, each check of WellFormed in turn, worked examples of the spec, and for every
statement with hypotheses a state and operands that meet them together. -/

namespace Sys2Proof.Tests

open Sys2Proof.Machine

set_option linter.unusedVariables false
set_option maxRecDepth 8000

/-! ## Small states for the tests -/

/-- A module whose registers a PF driver reaches. -/
def up : State := State.reset
def goodFrame : BellFrame :=
  { tag := 0, epoch := 0, handover := false, count := 0, periodCur := 64, paceCur := 64, periodNext := 64, paceNext := 64
    masterX := 0, masterY := 0, masterZ := 0, corr := 0 }
def goodReport : BellReport :=
  { tag := 0, attainable := 64, modules := 1, count := 0, backlog := 0, late := 0, missing := 0, missingAt := [] }
def aMop : Mop :=
  { words := [0x800000], part := 0, bell := 0, rej := none, stage := .queued, chosenAt := 0, buf := 0, loaded := false, lent := false
    firstStep := 0, lastStep := 0, ramped := false, unitEnds := [], unitSteps := [], paid := 0, portEnd := 0, view := [], viewEnd := 0, start := []
    accSat := 0, outSat := 0, fmtErr := 0, skipped := 0, out := [], satEnds := [], replay := false, since := 0, cut := false }
/-- A member that sends a report for bell 0. -/
def reporting : State :=
  ((((up.wr Reg.BELL_CTRL_EN 1).wr Reg.BELL_CTRL_REPORT_EN 1).wr Reg.RKT_BELL_CFG_RELAY 1).wr (Reg.RKT_BELL_PEER_EN 0) 1).wr Reg.BELL_COUNT_COUNT 1
def oneMop (m : Mop) : State := { (up.setSlot 0 { Slot.reset with queue := [m] }) with credits := [(0, 100)] }
/-- The same, long enough after time 0 for every phase of the MOP to have ended. -/
def oneMopLater (m : Mop) : State := { oneMop m with now := 4000 }
/-- A module in which context `c` runs at PC 0 with a level in ST. -/
def running (c level : Nat) : State := up.setCtx c { Ctx.reset with run := .running, st := BitVec.ofNat 32 (level * 256) }
/-- An immediate of a word, and a memory operand at an address. -/
def immForm : MForm := { am := 0, sx := false, sz := 2, d20 := 5, ext := 0 }
def memForm (a : BitVec 20) : MForm := { am := 2, sx := false, sz := 2, d20 := a, ext := 0 }
def addrForm (a : BitVec 16) : CForm := { cam := 2, d16 := a, ext := 0 }
def operandOf (s : State) (c : Nat) (m : MForm) : State × BitVec 64 × Nat :=
  match s.operand c (s.ctx c) m with
  | .ok r => r
  | .error _ => (s, 0, 0)
def aCpd : Cpd :=
  { id := 0, words := [], part := 0, levelP := false, bell := 0, src := .hub, stage := .queued, held := none, since := 0 }
/-- Context 0 with a stack in its local memory; an engine slot that serves no engine; a copy engine where a partition has its 64 CPDs. -/
def stacked : State := up.setCtx 0 { Ctx.reset with run := .running, st := 256, sp := 64 }
def unmapped : State := (running 0 1).wr (meMapFld 0) 15
def fullCopy : State := (running 0 1).setCopy 0 { CopyEng.reset with queue := List.replicate 64 aCpd }
def withCpd (d : Cpd) : State := up.setCopy 0 { CopyEng.reset with queue := [d] }
def withHeld (h : HeldWrite) : State := { up with memSt := { up.memSt with held := [h] } }
/-- Operational firmware; partition 1 in a state. -/
def live : State := up.wr Reg.MGT_STATUS_STATE 2
def part1 (st : PartState) : State := live.setPart 1 { Part.reset with state := st }
def emptyBlob : Blob :=
  { frozenBell := 0, grants := Grants.none, ctxs := [], queues := [], counters := [], slices := [], regions := [], wqes := [], recvs := []
    bells := [], promoted := [], volumes := [], keys := [], partKey := [], logs := [], logging := false, activeB := false }
/-- Partition 1 READY on VF 1, whose requests reach the host, and its blob of version 1.0 in host memory. -/
def restorable : State :=
  { (live.setPart 1 { Part.reset with state := .ready, vf := some 1 }).wr Reg.PCI_STATUS_LINK_UP 1 with
    hostBlobs := [(0, some emptyBlob)], pci := { up.pci with bme := [(1, true)] } }
/-- Partition 1 with one slice and a memory segment for its window. -/
def sliceable : State :=
  live.setPart 1 { Part.reset with state := .run, grants := { Grants.none with slices := 1, segs := [{ pbase := 0, mbase := 0, len := 1 }] } }
def aRead : HostRead := { func := 0, pasid := none, addr := 0, len := 4, got := 0, use := .gone 0, issuedAt := 0 }
def timedRead : State := { up with pci := { up.pci with reads := [(3, some aRead)] } }
def aPkt : RktPkt :=
  { ver := 1, typ := 1, ackReq := false, last := true, retx := false, enc := false, imm := false, rsv := false, path := 0, cepoch := 0
    dstConn := 0, psn := 0, msn := 0, offset := 0, msgLen := 0, ppsn := 0, tstamp := 0, ext := [0, 0, 0, 0, 0, 0, 0], payload := [], iv := 0
    authTag := 0, srcAddr := 0, ce := false }
def aFlight : Flight := { psn := 0, slot := 0, ppsn := 0, sentAt := 0, tries := 1, bytes := 0, lost := false, refused := false, acked := false }
/-- Connection 0 enabled; with one message to send on a path that is up. -/
def connected (x : Conn) : State := ((up.wr (Reg.RKT_CONN_EN 0) 1).wr (Reg.RKT_PEER_EN 0) 1).setConn 0 x
def sending : State :=
  (connected { Conn.reset with
    state := .rts, msgs := [TxMsg.new 0 [] 0 [] (.cpd 0 0) 0 0], nextPsn := 1, credit := 5, slots := [(0, { PathSlot.reset with cwnd := 4096 })] }).wr
    (Reg.RKT_PATH_UP 0) 1
def aWqe : Wqe := { idx := 0, words := [7], firing := 0, trigVal := 0, bell := 0, since := 0, stage := .waiting, info := 0 }
/-- Queue pair 0 of P0 with a work request and a connection. -/
def requesting (w : Wqe) : State := { (connected { Conn.reset with state := .rts }) with wqes := [(0, [w])] }
def aFrag : HeldFrag := { key := [], bytes := [], heldAt := 0 }
/-- A module that holds one block command; one that holds one cipher request. -/
def aBsc (op : Nat) : BlkCmd :=
  { id := 0, part := 0, queue := 0, idx := 0, words := [op], list := [], age := 0, urgent := false, stage := .fetched, missing := 0
    left := 0, failed := false, landed := false, kill := none, silent := false, sentAt := 0 }
def withBlk (d : BlkCmd) : State := { up with blk := { up.blk with cmds := [d] } }
def onTest : State := { up with blk := { up.blk with tests := [(0, some { cmd := 0, extended := false, time := 0, since := 0 })] } }
def aReq (op : Nat) (stage : CipherStage) : CipherReq :=
  { id := 0, part := 0, queue := 0, idx := 0, words := [op], stage := stage, key := none, missing := 0, host := [], info := 0, silent := false }
def withReq (r : CipherReq) : State := { up with ciph := { up.ciph with reqs := [r] } }
/-- A WRITE of one block of 512 bytes from address 2^63. -/
def bscWrite : List Nat := [2, 0, 0, 0, 0, 0, 0, 0x80000000]
def gcmOf (s : State) (r : CipherReq) : GcmCtx :=
  match s.gcmBegin r true ((s.ciInput r 3).take 12) (r.key.elim [] (·.mat)) with
  | .ok c => c
  | .error _ => { slot := 0, gen := 0, dec := false, iv := [], ctr := 0, y := 0, aad := 0, text := 0 }
def aReplay : Replay := { b0 := 0, d := 0, begun := false, left := [], hidden := [], ctxs := [] }
def replaying : State := { up with flt := { up.flt with replays := [(0, some aReplay)] } }
/-- Checkpoint context 0 of P0 with a trigger that its bell has reached. -/
def triggered : State := (up.wr (Reg.CKP_CTRL_EN 0) 1).setCkp 0 { Ckp.reset with due := some (0, some 7) }
def aRun : CkpRun := { bell := 0, step := 0, slot := 0, header := [], table := [], trailer := [], todo := [], waiting := 0, phase := 0, no := 0 }
/-- A switch-over of engine 0 that waits for its spare. -/
def waitingSpare : State := { up with flt := { up.flt with waitSpare := [{ n := 0, d := 0, b0 := 0, counted := true, planned := false }] } }
/-- A wake sequence for a port whose address is 0. -/
def vesperSeq : Nat := 0xAAAA * 2 ^ 80 + 0x1F35 * 2 ^ 64 + vesperCrc 0
def noneFound : Found := { puf := false, sram := false, repair := { slots := [], iocs := 0, spares := 0 }, positions := [], watchdog := 0 }
def aFirmware : Firmware := { major := 1, minor := 0, patch := 0, svn := 0, comps := [] }
def withFirmware : State := { live with rv := { live.rv with fw := some aFirmware } }
/-- A fault of code 1 that is due. -/
def fires : State := { up.wr Reg.TST_INJECT_CODE 1 with tst := { up.tst with inject := some (0, (0, 0)) } }
def rowAt (a : Nat) : RegRow := match findReg a with
  | some (r, _, _) => r
  | none => { name := "", base := 0, dims := [], bits := 0, dom := .hub, fields := [] }
theorem findReg_rowAt {a ra : Nat} {idx : List Nat} (h : (findReg a).map Prod.snd = some (ra, idx)) : findReg a = some (rowAt a, ra, idx) := by
  simp only [rowAt]
  cases hf : findReg a with
  | none => simp [hf] at h
  | some x => simp [hf] at h; simp [← h]
/-- The state after a command that answers a next state. -/
def stepped (i : Instr) (s : State) : State := match exec i s with
  | .next t => t
  | _ => s
/-- A window of 2 MiB at 0 lies in the one segment of `sliceable`. -/
theorem no_hole : ¬ ∃ a, bits 0x0001000000100005 32 16 * 0x200000 ≤ a ∧ a < (bits 0x0001000000100005 32 16 + bits 0x0001000000100005 48 16) * 0x200000 ∧
    Machine.translate (sliceable.bounds 1).segs a = none := by
  rintro ⟨a, -, h, e⟩
  rw [show (bits 0x0001000000100005 32 16 + bits 0x0001000000100005 48 16) * 0x200000 = 0x200000 by decide] at h
  rw [show (sliceable.bounds 1).segs = [{ pbase := 0, mbase := 0, len := 1 }] by decide +kernel] at e
  simp [Machine.translate] at e
  omega
/-- A module with one fragment entry. -/
def anEntry : FragEntry := { key := [], decision := { action := 0, part := 0, queue := 0, badEntry := false }, lastUse := 0 }
def fragmented : State := { up with fab := { up.fab with frags := [anEntry] } }
/-- The driver heartbeat is watched: nothing missed yet, the heartbeat of this period seen, two periods missed; and the end of the period. -/
def holding : State := connected { Conn.reset with state := .rts, nakHold := true }
def probing : State := (up.wr (Reg.FAB_PORT_STATUS_LINK_UP 0) 1).wr (Reg.RKT_PATH_UP 5) 0
def hostRing (cls q : Nat) : State := { ((up.wr Reg.PCI_STATUS_LINK_UP 1).setQueue 0 cls q { Queue.reset with en := true, pi := 1, base := 0, slice := 0x7FF }) with pci := { up.pci with bme := [(0, true)], configured := true } }
def anInval : Inval := { q := 0, idx := 0, firing := 0, gen := 0, base := 0, len := 0 }
def invalidating : State := up.setRegion 0 0 { Region.reset with inval := [anInval] }
def retrying : State := { up with rv := { up.rv with retry := true } }
/-- Partition 1 is stopped and holds the range that slot 1 names. -/
def openableRange : State :=
  ((up.setPart 1 { Part.reset with state := .stopped, grants := { Grants.none with segs := [{ pbase := 0, mbase := 0, len := 1 }] } }).wr (Reg.MGT_OPEN_BASE 1) 0).wr
    (Reg.MGT_OPEN_LEN 1) 65536
def looping : State := (up.wr (Reg.TST_LOOP_EN 3) 1).wr (Reg.TST_LOOP_LIMIT 3) 1
def watched : State := up.wr Reg.PCI_DRV_STATE 1
def watchedSeen : State := { watched with pci := { up.pci with hbSeen := true } }
def watchedLate : State := watched.wr Reg.PCI_HB_CFG_MISSES 2
def periodEnd (s : State) : State := s.atTime (s.pci.hbStart + s.pci.hbPeriod * 4000000)

/-! ## Worked examples of the spec -/

/-- The bytes 0x31 to 0x39 of "123456789" taken by CRC one after another (R99). -/
def crcRun (x : Ctx) : Nat → Ctx
  | 0 => x
  | n + 1 => crcRun (x.aluCrc (BitVec.ofNat 64 (0x31 + (8 - n))) 8) n

/-- The worked example after R100: the CRC-32 of "123456789". -/
theorem test_crc32 : (crcRun { Ctx.reset with a := 0xFFFFFFFF, crcPoly := 0x04C11DB7, crcCfg := 0xA0 } 9).a ^^^ 0xFFFFFFFF = 0xCBF43926 := by decide +kernel

/-- Table 4.11: the two DMAC steps of the S4 × S8 block, and the flags after them. -/
theorem test_dmac : (Ctx.reset.regDmac 0x05FF0100F807FE03 0xFD40804D6405D80C false false 8).a = BitVec.ofInt 64 (-856) ∧
    ((Ctx.reset.regDmac 0x05FF0100F807FE03 0xFD40804D6405D80C false false 8).regDmac 0xFD0300F906FC0202 0x08CE7F0114F50A09 false false 8).a =
      BitVec.ofInt 64 (-835) := by decide +kernel

/-- PAR of 0x0103 in 16 bits: three ones; byte 0 has two, byte 1 has one (R100). -/
theorem test_par : (Ctx.reset.aluPar 0x0103 16).a = 0x201 := by decide

/-- BREV of 0b1101 in 8 bits (R100). -/
theorem test_brev : (Ctx.reset.aluBrev 0x0D 8).a = 0xB0 := by decide

/-- An ADD that carries out of bit 63 and gives 0 sets Z and C and clears N and V (Table 4.3). -/
theorem test_add_wraps : (({ Ctx.reset with a := 0xFFFFFFFFFFFFFFFF } : Ctx).aluAdd 1 false).st = 5 := by decide

/-- TRAP with ARG 0x123 at level F: PC is VBAR + 64 · 7, EPC the next instruction, ECAUSE the code and ARG, 7 cycles (R118, R119). -/
theorem test_trap : ((stepped (.trap 0 0x123) (running 0 1)).ctx 0).pc = 448 ∧ ((stepped (.trap 0 0x123) (running 0 1)).ctx 0).epc = 4 ∧
    ((stepped (.trap 0 0x123) (running 0 1)).ctx 0).ecause = 0x12307 ∧ ((stepped (.trap 0 0x123) (running 0 1)).ctx 0).cycle = 7 := by decide

/-- A memory keeps the canonical form: writing 0 removes the entry (R90). -/
theorem test_memory : ((up.setByte (2 ^ 41) 7).setByte (2 ^ 41 + 1) 9).mem = [(2 ^ 41, 7), (2 ^ 41 + 1, 9)] ∧ ((up.setByte (2 ^ 41) 7).setByte (2 ^ 41) 0).mem = [] := by decide

/-- R64: a break takes the KEEP MOPs queued before the first ZERO MOP; one by a rejected MOP those queued after the last. -/
theorem test_break : (breakHead 1 [Mop.fresh [0x100000] 1 0 0, Mop.fresh [0] 1 0 0, Mop.fresh [0x100000] 1 0 0]).map (·.rej) = [some 5, none, none] ∧
    (breakTail 1 [Mop.fresh [0x100000] 1 0 0, Mop.fresh [0] 1 0 0, Mop.fresh [0x100000] 1 0 0]).map (·.rej) = [none, none, some 5] := by decide

/-- Table 3.9: the work delivered at the window ends of the ramp. -/
theorem test_ramp : [8, 16, 24, 32, 40, 48, 56, 64, 65].map rampWork = [1, 3, 6, 10, 15, 21, 28, 36, 37] := by decide

/-! ## Well-formed commands -/

/-- One operand at its bound, each check of WellFormed in turn. -/
theorem test_ill_formed_1 : ([.barAccessRejected 65 0 0 false [],
    .unsupportedRequest 65 false [],
    .configRequest 65 0 false 0,
    .configRequest 0 4096 false 0,
    .bellReportReceived 1 goodReport,
    .bellReportReceived 18 goodReport,
    .mopChoose 16,
    .mopStreamStart 16,
    .accLoadStart 16,
    .drainStart 16,
    .mopComplete 16 0,
    .mopComplete 0 64,
    .chainBreak 16,
    .meShareWrite 16 0 0,
    .meShareWrite 0 64 0,
    .meMapWrite 2 0,
    .mapLockSet 2,
    .spareReady 2,
    .lda 321 immForm,
    .sta 321 immForm,
    .ldx 321 immForm,
    .stx 321 immForm,
    .ldy 321 immForm,
    .sty 321 immForm,
    .ldb 321 immForm,
    .stb 321 immForm,
    .adrx 321 immForm,
    .adry 321 immForm,
    .add 321 immForm,
    .adc 321 immForm] : List Instr).all (fun i => !i.wf) = true := by decide

/-- One operand at its bound, each check of WellFormed in turn. -/
theorem test_ill_formed_2 : ([.sub 321 immForm,
    .sbc 321 immForm,
    .and 321 immForm,
    .or 321 immForm,
    .xor 321 immForm,
    .cmp 321 immForm,
    .adds 321 immForm,
    .mul 321 immForm,
    .mulh 321 immForm,
    .mac 321 immForm,
    .max 321 immForm,
    .min 321 immForm,
    .tst 321 immForm,
    .shl 321 immForm,
    .shr 321 immForm,
    .sar 321 immForm,
    .rol 321 immForm,
    .rshr 321 immForm,
    .clz 321 immForm,
    .popc 321 immForm,
    .crc 321 immForm,
    .par 321 immForm,
    .brev 321 immForm,
    .lut 321 immForm,
    .tax 321,
    .txa 321,
    .tay 321,
    .tya 321,
    .tab 321,
    .tba 321] : List Instr).all (fun i => !i.wf) = true := by decide

/-- One operand at its bound, each check of WellFormed in turn. -/
theorem test_ill_formed_3 : ([.swab 321,
    .txy 321,
    .tyx 321,
    .tsa 321,
    .tas 321,
    .neg 321,
    .not 321,
    .abs 321,
    .clra 321,
    .sext 321 0,
    .zext 321 0,
    .sats 321 0,
    .satu 321 0,
    .addb 321,
    .clrb 321,
    .inx 321 0,
    .iny 321 0,
    .cvt 321 0,
    .pack 321 0,
    .unpk 321 0,
    .dmac 321 0,
    .b 321 0 0,
    .dbnz 321 false 0,
    .jmp 321 immForm,
    .call 321 immForm,
    .ret 321,
    .nop 321,
    .waitbell 321,
    .waitbellRelease 321,
    .waitbellt 321] : List Instr).all (fun i => !i.wf) = true := by decide

/-- One operand at its bound, each check of WellFormed in turn. -/
theorem test_ill_formed_4 : ([.waitbelltRelease 321,
    .heavy 321 0,
    .step 321,
    .wait 321 0,
    .waitRelease 321,
    .waitTimeout 321,
    .rdcnt 321 0,
    .fence 321 0,
    .trap 321 0,
    .push 321 0,
    .pop 321 0,
    .mfsr 321 0,
    .mtsr 321 0,
    .eret 321,
    .halt 321,
    .ei 321,
    .di 321,
    .wdog 321,
    .mopq 321 (addrForm 0),
    .mopqt 321 (addrForm 0),
    .mestat 321,
    .cpdq 321 (addrForm 0),
    .cpdqt 321 (addrForm 0),
    .ciq 321 (addrForm 0),
    .ciqt 321 (addrForm 0),
    .pcsum 321 (addrForm 0),
    .phash 321 (addrForm 0),
    .pcls 321 (addrForm 0),
    .pclst 321 (addrForm 0),
    .enqueueStallRelease 321] : List Instr).all (fun i => !i.wf) = true := by decide

/-- One operand at its bound, each check of WellFormed in turn. -/
theorem test_ill_formed_5 : ([.interruptTaken 321 0,
    .contextStart 288,
    .contextStop 288,
    .tcCtxBindWrite 288 false 0,
    .cpdStart 22,
    .cpdComplete 22 0,
    .cpdComplete 0 64,
    .positionRetire 24,
    .suddenPromotion 24,
    .dportDataRead 2,
    .dportDataWrite 2 0,
    .dportApertureRead 2 0,
    .dportApertureWrite 2 [],
    .dportFlush 2,
    .create 64 false,
    .grant 64 false,
    .bindVf 64 false,
    .bindCtx 64 false,
    .unbindCtx 64 false,
    .start 64 false,
    .freeze 64 false,
    .thaw 64 false,
    .stop 64 false,
    .resetWork 64 false,
    .destroy 64 false,
    .logStart 64 false,
    .logSwap 64 false,
    .logStop 64 false,
    .save 64 false,
    .restore 64 false .bad 0 0] : List Instr).all (fun i => !i.wf) = true := by decide

/-- One operand at its bound, each check of WellFormed in turn. -/
theorem test_ill_formed_6 : ([.freezeSlow 64,
    .doorbell 64 0 0 0,
    .doorbell 0 4 0 0,
    .doorbell 0 0 4096 0,
    .queueRecordWrite 64 0 0 0 0,
    .queueRecordWrite 0 4 0 0 0,
    .queueRecordWrite 0 0 4096 0 0,
    .queueRecordWrite 0 0 0 8 0,
    .sliceWrite 64 0 0,
    .sliceWrite 0 1024 0,
    .bitmapWrite 64,
    .completionReceived 65 0 0 false [] [],
    .completionReceived 0 16384 0 false [] [],
    .poisonedWrite 65 [],
    .completionTimeout 16384,
    .quarantineEnd 16384,
    .busMasterEnableChange 65 false,
    .vfFlr 0,
    .vfFlr 65,
    .frameReceived 32 [] false 0 false,
    .pfcFrameReceived 32 0 0,
    .pfcStorm 32 0,
    .pfcStorm 0 8,
    .pfcStormEnd 32 0,
    .pfcStormEnd 0 8,
    .laneFail { lane := 32, cause := .lost },
    .portReformed 32 { up := true, partner := 0 },
    .fabRetrainRestore 32,
    .retrainComplete 32 false,
    .rktPacketSend 16384] : List Instr).all (fun i => !i.wf) = true := by decide

/-- One operand at its bound, each check of WellFormed in turn. -/
theorem test_ill_formed_7 : ([.ackDelayExpiry 16384,
    .rtoExpiry 16384 0,
    .nakHoldEnd 16384,
    .allPathsDown 16384,
    .pathProbe 4096,
    .probeReceived 4096 aPkt,
    .probeRespReceived 4096 aPkt,
    .connEnable 16384 0,
    .connDisable { conn := 16384, value := 0 },
    .wqeFetch 64 0 [],
    .wqeFetch 0 4096 [],
    .write 64 0 0,
    .write 0 4096 0,
    .send 64 0 0,
    .send 0 4096 0,
    .read 64 0 0,
    .read 0 4096 0,
    .atomic 64 0 0,
    .atomic 0 4096 0,
    .reg 64 0 0,
    .reg 0 4096 0,
    .inval 64 0 0,
    .inval 0 4096 0,
    .wqeNop 64 0 0,
    .wqeNop 0 4096 0,
    .copy 64 0 0,
    .copy 0 4096 0,
    .recv 64 0 [],
    .recv 0 4096 [],
    .rawSend 64 0 0] : List Instr).all (fun i => !i.wf) = true := by decide

/-- One operand at its bound, each check of WellFormed in turn. -/
theorem test_ill_formed_8 : ([.rawSend 0 4096 0,
    .armedFire 64 (.send 0),
    .armedFire 0 (.send 4096),
    .qwaitFire 64 (.send 0),
    .qwaitFire 0 (.send 4096),
    .invalWaitExpiry 64 0,
    .invalWaitExpiry 0 262144,
    .ruleWrite 4096 0 0,
    .ruleWrite 0 16 0,
    .hashCommit 64 0,
    .rawConfigWrite 64 0,
    .txFrameSelect 32,
    .almanacArm 32,
    .almanacCancel 32,
    .almanacTakeover 32,
    .almanacEntryAdvance 32,
    .volumeWrite 1024 0 0,
    .volumeWrite 0 8 0,
    .bscDispatch 3,
    .agePromotion 64 0 0,
    .agePromotion 0 2048 0,
    .ssdTimeout 2,
    .ssdControllerFatal 2,
    .mediaLinkDown 2,
    .mediaReset 2,
    .mediaResetDone 2 [] 0 0,
    .selfTestResult 2 0,
    .selfTestTimeout 2,
    .cipherFetch 64 0 [],
    .cipherFetch 0 2048 []] : List Instr).all (fun i => !i.wf) = true := by decide

/-- One operand at its bound, each check of WellFormed in turn. -/
theorem test_ill_formed_9 : ([.exportKeyWrite 0 0,
    .exportKeyWrite 64 0,
    .cipherAlarm 4,
    .faultDetected 0 64 0 0 0,
    .faultDetected 0 0 17 0 0,
    .faultDetected 0 0 0 32 0,
    .replayStart 16,
    .iocRestart 32 0,
    .ckpTrigger 4 0,
    .ckpTriggerCmd 4,
    .ckpAbort 4,
    .ckpRestore 4 [] [],
    .granaryDrain 4 0 none,
    .granaryDrain 0 2 none,
    .clockGate 144,
    .wake 5 0 0,
    .wake 0 32 0,
    .vesperDetect 32 0 0,
    .powerSample 65536 0,
    .powerSample 0 65536,
    .alertHoldEnd 4,
    .sensorSample 66 0,
    .thermalShutdown 64,
    .droopDetect 3,
    .droopEnd 3 0,
    .entdaa 128,
    .setdasa 0 128,
    .setdasa 128 0,
    .setEndpointId 256,
    .getStatus 128] : List Instr).all (fun i => !i.wf) = true := by decide

/-- One operand at its bound, each check of WellFormed in turn. -/
theorem test_ill_formed_10 : ([.getSensors 128 0 0,
    .getEventLogEntry 128 0,
    .getEvents 128,
    .getIdentity 128 0,
    .attest 128 0 0,
    .powerOff 128,
    .powerWarmStart 128 noneFound,
    .powerColdStart 128 noneFound,
    .sidebandDport 128 0 0 false [],
    .cfgWrite 128 0,
    .cfgWrite 0 2,
    .openRangeWrite 4 0,
    .loopEnable 55 0,
    .loopDisable 55,
    .loopLimitExpiry 55,
    .injectFire 64 0 0,
    .injectFire 0 17 0,
    .injectFire 0 0 32,
    .fabPortLinkUp 32,
    .pfcPauseEnd 32 0,
    .pfcPauseEnd 0 8] : List Instr).all (fun i => !i.wf) = true := by decide

/-- An ill-formed command leaves the state. -/
theorem test_ill_formed_leaves : exec (.lda 321 immForm) up = .next up := rfl

/-! ## Every statement's hypotheses can be met -/

theorem meets_BellEdgesAndLoadCompleteAsStated :
    (∃ (s : State), s.on Reg.BELL_CTRL_EN = true) ∧
    (∃ (s : State) (v : Nat), s.pfOpen 3 = true ∧ s.on Reg.BELL_CTRL_EN = false ∧ bits v 3 2 ≠ 3 ∧ (s.bellFields v).enRefused
      (bits v 3 2) = false) ∧
    (∃ (s : State) (v : Nat), s.pfOpen 3 = true ∧ s.on Reg.BELL_CTRL_EN = true ∧ bits v 3 2 ≠ 3 ∧ bits v 1 2 = s.rd
      Reg.BELL_CTRL_SOURCE ∧ bits v 3 2 = s.rd Reg.BELL_CTRL_ROLE) ∧
    (∃ (s : State) (v : Nat), s.pfOpen 3 = true ∧ s.on Reg.BELL_CTRL_EN = false) :=
  ⟨⟨State.reset.wr Reg.BELL_CTRL_EN 1, by decide⟩,
   ⟨up, 8, by decide⟩,
   ⟨up.wr Reg.BELL_CTRL_EN 1, 0, by decide⟩,
   ⟨up, 5, by decide⟩⟩

theorem meets_BellFramesAndInputEdgesComplete :
    (∃ (s u : State) (f : BellFrame) (time : Nat), u = s.atTime time ∧ f.rsv = false ∧ f.head.bad = false ∧ u.on
      Reg.BELL_CTRL_EN = true ∧ f.tag = u.rd Reg.BELL_CTRL_TAG ∧ f.valid = true ∧ u.isMaster = false ∧ (u.bell.epochSeen =
      false ∨ u.newerEpoch f.epoch = true ∨ f.epoch = u.rd Reg.BELL_STATUS_EPOCH)) ∧
    (∃ (s u : State) (time : Nat), u = s.atTime time ∧ u.on Reg.BELL_CTRL_EN = true ∧ 2 ≤ u.source ∧ s.now ≤ time ∧
      u.bell.edgeAt ≤ time ∧ u.count ∉ u.bell.inDone ∧ time - u.bell.edgeAt ≤ 1000 ∧ 2 * time ≤ u.bell.nextAt +
      u.bell.edgeAt) ∧
    (∃ (s : State) (k : Nat), s.on Reg.BELL_CTRL_EN = true ∧ s.isMaster = false ∧ k ≤ s.count ∧ s.count ≤ k + 4 ∧
      s.bell.enCount < k) ∧
    (∃ (s : State) (k : Nat), s.on Reg.BELL_CTRL_EN = true ∧ 2 ≤ s.source ∧ k ≤ s.count ∧ s.count ≤ k + 4 ∧ s.bell.enCount <
      k ∧ k ∉ s.bell.inDone ∧ k ∉ s.bell.inRejected) ∧
    (∃ (s : State), s.on Reg.BELL_CTRL_EN = true ∧ s.on Reg.BELL_STATUS_HOLDOVER = true ∧ s.rd Reg.BELL_HOLD_HOLD_LIMIT ≤
      s.bell.holdBells) ∧
    (∃ (s : State), s.on Reg.BELL_CTRL_EN = true ∧ s.on Reg.BELL_STATUS_HOLDOVER = false ∧ 8 ≤ s.bell.goodEdges) ∧
    (∃ (s : State), s.on Reg.BELL_CTRL_EN = true ∧ s.rd Reg.BELL_CTRL_ROLE = 2 ∧ s.isMaster = false ∧ 4 ≤ s.bell.frameMiss ∧
      s.on Reg.FLT_STATUS_MODULE_FATAL = false) :=
  ⟨⟨up.wr Reg.BELL_CTRL_EN 1, (up.wr Reg.BELL_CTRL_EN 1).atTime 0, goodFrame, 0, by decide⟩,
   ⟨((up.wr Reg.BELL_CTRL_EN 1).wr Reg.BELL_CTRL_SOURCE 2), ((up.wr Reg.BELL_CTRL_EN 1).wr Reg.BELL_CTRL_SOURCE 2).atTime 0, 0, by decide⟩,
   ⟨(up.wr Reg.BELL_CTRL_EN 1).wr Reg.BELL_COUNT_COUNT 1, 1, by decide⟩,
   ⟨((up.wr Reg.BELL_CTRL_EN 1).wr Reg.BELL_CTRL_SOURCE 2).wr Reg.BELL_COUNT_COUNT 1, 1, by decide⟩,
   ⟨(((up.wr Reg.BELL_CTRL_EN 1).wr Reg.BELL_STATUS_HOLDOVER 1).wr Reg.BELL_HOLD_HOLD_LIMIT 0), by decide⟩,
   ⟨{ (up.wr Reg.BELL_CTRL_EN 1) with bell := { Bell.reset with goodEdges := 8 } }, by decide⟩,
   ⟨{ ((up.wr Reg.BELL_CTRL_EN 1).wr Reg.BELL_CTRL_ROLE 2) with bell := { Bell.reset with frameMiss := 4 } }, by decide⟩⟩

theorem meets_BellReportsAndLatenessComplete :
    (∃ (s : State), s.rd Reg.BELL_LIMITS_LATE_LIMIT ≤ s.bell.lateRun) ∧
    (∃ (s u : State), s.on Reg.BELL_CTRL_EN = true ∧ s.isMaster = false ∧ s.on Reg.BELL_CTRL_REPORT_EN = true ∧ s.on
      Reg.RKT_BELL_CFG_RELAY = true ∧ s.bell.enCount < s.count ∧ s.bell.reportSent ≤ s.count - 1 ∧ u = s.atTime s.reportAt ∧
      u.on (Reg.RKT_BELL_PEER_EN u.parentEntry) = true) ∧
    (∃ (s : State) (e : Nat) (r : BellReport), r.rsv = false ∧ r.head.bad = false ∧ 1 < e ∧ e < 18 ∧ s.on Reg.BELL_CTRL_EN =
      true ∧ e ∈ s.children ∧ r.tag = s.rd Reg.BELL_CTRL_TAG) ∧
    (∃ (s : State) (xyz : Nat), xyz < 0xFFFF ∧ Tab.get 0 s.bell.missRuns xyz = 4) :=
  ⟨⟨up.wr Reg.BELL_LIMITS_LATE_LIMIT 0, by decide⟩,
   ⟨reporting, reporting.atTime reporting.reportAt, by decide +kernel⟩,
   ⟨((up.wr Reg.BELL_CTRL_EN 1).wr Reg.RKT_BELL_CFG_RELAY 1).wr (Reg.RKT_BELL_PEER_EN 2) 1, 2, goodReport, by decide⟩,
   ⟨{ up with bell := { Bell.reset with missRuns := [(3, 4)] } }, 3, by decide⟩⟩

theorem meets_MopStagesComplete :
    (∃ (s : State) (n ps p : Nat) (lent : Bool), n < 16 ∧ s.slotOf n = some ps ∧ (s.slot ps).closeStale.fenced = false ∧
      (s.slot ps).closeStale.queue.any (fun m => decide (m.stage = .chosen)) = false ∧ s.midStream (s.slot ps).closeStale =
      false ∧ s.choice n (s.slot ps).closeStale = some (p, lent)) ∧
    (∃ (s : State) (n ps : Nat) (m : Mop), n < 16 ∧ s.slotOf n = some ps ∧ (s.slot ps).queue.find? (fun q => decide (q.stage
      = .chosen)) = some m ∧ s.mayStream n (s.slot ps) m = true ∧ s.operandBad n m = false ∧ s.scaleBad n m = false) ∧
    (∃ (s : State) (n ps : Nat) (m : Mop), n < 16 ∧ s.slotOf n = some ps ∧ (s.slot ps).queue.find? (fun q => decide (q.stage
      = .chosen)) = some m ∧ m.load = true ∧ m.loaded = false ∧ (s.slot ps).fenced = false ∧ s.loadBlocked (s.slot ps) m =
      false ∧ s.anyBad n m.loadReads = false) ∧
    (∃ (s : State) (n ps : Nat) (m : Mop), n < 16 ∧ s.slotOf n = some ps ∧ (s.slot ps).fenced = false ∧ (s.slot ps).drainNext
      = some m ∧ 12 ≤ s.engClocks m.lastStep s.now ∧ (s.slot ps).portFree ≤ s.now ∧ s.anyBad n m.tileReads = false) ∧
    (∃ (s : State) (n ps p : Nat) (m : Mop), n < 16 ∧ p < 64 ∧ s.slotOf n = some ps ∧ (s.slot ps).queue.find? (fun q =>
      q.part == p) = some m ∧ m.rej = none ∧ s.mopDone m = true ∧ (s.slot ps).fenced = false) ∧
    (∃ (s : State) (n ps p st : Nat) (m : Mop), n < 16 ∧ p < 64 ∧ s.slotOf n = some ps ∧ (s.slot ps).queue.find? (fun q =>
      q.part == p) = some m ∧ m.rej = some st ∧ (s.slot ps).turnOf m = true ∧ (s.slot ps).fenced = false) ∧
    (∃ (s : State) (n ps w : Nat) (h : Chain), n < 16 ∧ s.slotOf n = some ps ∧ (s.slot ps).closeStale.chain = some h ∧
      h.waitFrom = some w ∧ s.choice n (s.slot ps).closeStale = none ∧ w ≤ s.now ∧ 8 * (s.credit n h.part - s.engClocks w
      s.now) ≤ -(s.bellClocks8 : Int)) :=
  ⟨⟨oneMop aMop, 0, 0, 0, false, by decide⟩,
   ⟨oneMopLater { aMop with stage := .chosen }, 0, 0, { aMop with stage := .chosen }, by decide +kernel⟩,
   ⟨oneMop { aMop with stage := .chosen, words := [0x200000] }, 0, 0, { aMop with stage := .chosen, words := [0x200000] }, by decide⟩,
   ⟨oneMopLater { aMop with stage := .streaming }, 0, 0, { aMop with stage := .streaming }, by decide⟩,
   ⟨oneMopLater { aMop with stage := .draining }, 0, 0, 0, { aMop with stage := .draining }, by decide⟩,
   ⟨oneMop { aMop with rej := some 1 }, 0, 0, 0, 1, { aMop with rej := some 1 }, by decide⟩,
   ⟨{ up.setSlot 0 { Slot.reset with chain := some { part := 0, rows := 1, cols := 1, buf := 0, waitFrom := some 0 } } with credits := [(0, -10000000)] }, 0, 0, 0, { part := 0, rows := 1, cols := 1, buf := 0, waitFrom := some 0 }, by decide⟩⟩

theorem meets_ShareAndMapWritesComplete :
    (∃ (s : State) (n p v : Nat), s.pfOpen 15 = true ∧ n < 16 ∧ p < 64 ∧ s.shareSum n - s.rd (Reg.ME_SHARE_SHARE n p) + bits
      v 0 7 ≤ 64 ∧ (s.slotOf n).isSome = true) ∧
    (∃ (s : State) (d v : Nat), s.pfOpen 15 = true ∧ d < 2 ∧ s.mapBad d v = false) ∧
    (∃ (s : State) (d : Nat), s.pfOpen 15 = true ∧ d < 2) ∧
    (∃ (s u : State) (d i : Nat), d < 2 ∧ (s.heldSlots d).head? = some i ∧ u = (s.refreshSlots d).wr
      (Reg.ME_DIE_STATUS_SPARE_AVAIL d) 1 ∧ u.flt.waitSpare.find? (fun w => w.n / 8 == d) = none) ∧
    (∃ (s u : State) (d i : Nat) (w : SpareWait), d < 2 ∧ (s.heldSlots d).head? = some i ∧ u = (s.refreshSlots d).wr
      (Reg.ME_DIE_STATUS_SPARE_AVAIL d) 1 ∧ u.flt.waitSpare.find? (fun w => w.n / 8 == d) = some w) :=
  ⟨⟨up, 0, 1, 8, by decide⟩,
   ⟨up, 0, 0x76543210, by decide⟩,
   ⟨up, 0, by decide⟩,
   ⟨up, (up.refreshSlots 0).wr (Reg.ME_DIE_STATUS_SPARE_AVAIL 0) 1, 0, 8, by decide +kernel⟩,
   ⟨waitingSpare, (waitingSpare.refreshSlots 0).wr (Reg.ME_DIE_STATUS_SPARE_AVAIL 0) 1, 0, 8, { n := 0, d := 0, b0 := 0, counted := true, planned := false }, by decide +kernel⟩⟩

theorem meets_OperandInstructionsComplete :
    (∃ (s : State) (c : Nat) (m : MForm) (r : State × BitVec 64 × Nat), s.canIssue c m.len ∧ m.ok = true ∧ s.operand c (s.ctx
      c) m = .ok r) ∧
    (∃ (s : State) (c : Nat) (m : MForm) (r : State × BitVec 64 × Nat), s.canIssue c m.len ∧ m.ok = true ∧ m.notLong = true ∧
      s.operand c (s.ctx c) m = .ok r) ∧
    (∃ (s : State) (c : Nat) (m : MForm) (r : State × BitVec 64 × Nat), s.canIssue c m.len ∧ m.ok = true ∧ c < 288 ∧
      s.operand c (s.ctx c) m = .ok r) ∧
    (∃ (s : State) (c : Nat) (m : MForm) (r : State × BitVec 64 × Nat), s.canIssue c m.len ∧ m.ok = true ∧ (s.ctx c).crcOk =
      true ∧ s.operand c (s.ctx c) m = .ok r) ∧
    (∃ (s : State) (c : Nat) (m : MForm) (r : State × BitVec 64 × Nat) (q : State × Nat × Nat), s.canIssue c m.len ∧ m.ok =
      true ∧ s.operand c (s.ctx c) m = .ok r ∧ r.1.load c (s.ctx c) (s.ctx c).y.toNat m.nbytes = .ok q) ∧
    (∃ (s : State) (c : Nat) (m : MForm), s.canIssue c m.len ∧ m.ok = true ∧ m.imm = false) :=
  ⟨⟨running 0 1, 0, immForm, operandOf (running 0 1) 0 immForm, by decide⟩,
   ⟨running 0 1, 0, immForm, operandOf (running 0 1) 0 immForm, by decide⟩,
   ⟨running 0 1, 0, immForm, operandOf (running 0 1) 0 immForm, by decide⟩,
   ⟨up.setCtx 0 { Ctx.reset with run := .running, st := 256, crcCfg := 32 }, 0, immForm, operandOf (up.setCtx 0 { Ctx.reset with run := .running, st := 256, crcCfg := 32 }) 0 immForm, by decide⟩,
   ⟨running 0 1, 0, immForm, operandOf (running 0 1) 0 immForm, (running 0 1, 0, 1), by decide⟩,
   ⟨running 0 1, 0, memForm 8, by decide⟩⟩

theorem meets_StoresAndLookupComplete :
    (∃ (s : State) (c : Nat) (m : MForm) (r : State × Nat), s.canIssue c m.len ∧ m.ok = true ∧ m.imm = false ∧ m.sx = false ∧
      s.store c (s.ctx c) (m.ea (s.ctx c)) m.nbytes (s.ctx c).a.toNat = .ok r) ∧
    (∃ (s : State) (c : Nat) (m : MForm) (r : State × Nat), s.canIssue c m.len ∧ m.ok = true ∧ m.imm = false ∧ m.sx = false ∧
      m.notLong = true ∧ s.store c (s.ctx c) (m.ea (s.ctx c)) m.nbytes (s.ctx c).x.toNat = .ok r) ∧
    (∃ (s : State) (c : Nat) (m : MForm) (r : State × Nat), s.canIssue c m.len ∧ m.ok = true ∧ m.imm = false ∧ m.sx = false ∧
      m.notLong = true ∧ s.store c (s.ctx c) (m.ea (s.ctx c)) m.nbytes (s.ctx c).y.toNat = .ok r) ∧
    (∃ (s : State) (c : Nat) (m : MForm) (r : State × Nat), s.canIssue c m.len ∧ m.ok = true ∧ m.imm = false ∧ m.sx = false ∧
      c < 288 ∧ s.store c (s.ctx c) (m.ea (s.ctx c)) m.nbytes (s.ctx c).b.toNat = .ok r) ∧
    (∃ (s : State) (c : Nat) (m : MForm) (a q n h table : Nat) (b : Int) (interp : Bool), s.canIssue c m.len ∧ m.ok = true ∧
      m.imm = false ∧ c < 288 ∧ s.reach c (s.ctx c) (m.ea (s.ctx c)) 16 false = .ok (.mem a false) ∧ s.readable a 16 = true ∧
      lutFields (s.bytes a 16) = some (b, h, interp, n, table) ∧ s.coreAddr c (s.ctx c) table (2 * n) false = some (.mem q
      false) ∧ s.readable (q + 2 * (lookupAt n (sext 32 (s.ctx c).a.toNat) b h).1) (if interp && (lookupAt n (sext 32 (s.ctx
      c).a.toNat) b h).2 != 0 then 4 else 2) = true) :=
  ⟨⟨running 0 1, 0, memForm 64, ((running 0 1).place (tcBase 0 0 + 64) [0, 0, 0, 0], 1), by decide⟩,
   ⟨running 0 1, 0, memForm 64, ((running 0 1).place (tcBase 0 0 + 64) [0, 0, 0, 0], 1), by decide⟩,
   ⟨running 0 1, 0, memForm 64, ((running 0 1).place (tcBase 0 0 + 64) [0, 0, 0, 0], 1), by decide⟩,
   ⟨running 0 1, 0, memForm 64, ((running 0 1).place (tcBase 0 0 + 64) [0, 0, 0, 0], 1), by decide⟩,
   ⟨running 0 1, 0, memForm 64, tcBase 0 0 + 64, tcBase 0 0, 256, 0, 0, 0, false, by decide⟩⟩

theorem meets_RegisterInstructionsComplete :
    (∃ (s : State) (c : Nat), s.canIssue c 4) ∧
    (∃ (s : State) (c : Nat), s.canIssue c 4 ∧ c < 288) ∧
    (∃ (s : State) (c : Nat) (arg : BitVec 12), s.canIssue c 4) ∧
    (∃ (s : State) (c : Nat) (arg : BitVec 12), s.canIssue c 4 ∧ 1 ≤ arg.toNat ∧ arg.toNat ≤ 64) ∧
    (∃ (s : State) (c : Nat) (arg : BitVec 12), s.canIssue c 4 ∧ 1 ≤ arg.toNat ∧ arg.toNat ≤ 63) ∧
    (∃ (s : State) (c : Nat) (arg : BitVec 12) (f : Fmt), s.canIssue c 4 ∧ argFmt arg = some f) ∧
    (∃ (s : State) (c : Nat) (arg : BitVec 12) (r q : State × Nat × Nat), s.canIssue c 4 ∧ c < 288 ∧ arg.toNat < 16 ∧
      arg.toNat / 4 % 4 ≠ 3 ∧ (s.ctx c).x.toNat % 8 = 0 ∧ (s.ctx c).y.toNat % 8 = 0 ∧ s.load c (s.ctx c) (s.ctx c).x.toNat 8
      = .ok r ∧ r.1.load c (s.ctx c) (s.ctx c).y.toNat 8 = .ok q) :=
  ⟨⟨running 0 1, 0, by decide⟩,
   ⟨running 0 1, 0, by decide⟩,
   ⟨running 0 1, 0, 0xFFF, by decide⟩,
   ⟨running 0 1, 0, 64, by decide⟩,
   ⟨running 0 1, 0, 63, by decide⟩,
   ⟨running 0 1, 0, 3, .s4, by decide⟩,
   ⟨running 0 1, 0, 0, (running 0 1, 0, 1), (running 0 1, 0, 1), by decide⟩⟩

theorem meets_BranchesAndStackComplete :
    (∃ (s : State) (c : Nat) (k : BitVec 4) (off : BitVec 22), s.canIssue c 4 ∧ k ≠ 15) ∧
    (∃ (s : State) (c : Nat) (off : BitVec 22), s.canIssue c 4) ∧
    (∃ (s : State) (c : Nat) (m : MForm), s.canIssue c m.len ∧ m.ok = true ∧ m.imm = false) ∧
    (∃ (s : State) (c : Nat) (m : MForm) (r : State × Nat), s.canIssue c m.len ∧ m.ok = true ∧ m.imm = false ∧ s.store c
      (s.ctx c) ((s.ctx c).sp - 8).toNat 8 ((s.ctx c).pc + BitVec.ofNat 32 m.len).toNat = .ok r) ∧
    (∃ (s : State) (c : Nat) (r : State × Nat × Nat), s.canIssue c 4 ∧ s.load c (s.ctx c) (s.ctx c).sp.toNat 8 = .ok r) ∧
    (∃ (s : State) (c : Nat) (arg : BitVec 12) (r : State × Nat), s.canIssue c 4 ∧ (c < 288 ∨ arg.toNat % 4 ≠ 1) ∧ s.store c
      (s.ctx c) ((s.ctx c).sp - 8).toNat 8 ((s.ctx c).slotValue (arg.toNat % 4)) = .ok r) ∧
    (∃ (s : State) (c : Nat) (arg : BitVec 12) (r : State × Nat × Nat), s.canIssue c 4 ∧ (c < 288 ∨ arg.toNat % 4 ≠ 1) ∧
      s.load c (s.ctx c) (s.ctx c).sp.toNat 8 = .ok r) :=
  ⟨⟨running 0 1, 0, 0, 1, by decide⟩,
   ⟨running 0 1, 0, 1, by decide⟩,
   ⟨running 0 1, 0, memForm 8, by decide⟩,
   ⟨stacked, 0, memForm 8, (stacked.place (tcBase 0 0 + 56) [4, 0, 0, 0, 0, 0, 0, 0], 1), by decide⟩,
   ⟨stacked, 0, (stacked, 0, 1), by decide⟩,
   ⟨stacked, 0, 1, (stacked.place (tcBase 0 0 + 56) [0, 0, 0, 0, 0, 0, 0, 0], 1), by decide⟩,
   ⟨stacked, 0, 1, (stacked, 0, 1), by decide⟩⟩

theorem meets_SystemInstructionsComplete :
    (∃ (s : State) (c : Nat) (arg : BitVec 12), s.canIssue c 4) ∧
    (∃ (s : State) (c : Nat) (arg : BitVec 12), s.canIssue c 4) ∧
    (∃ (s : State) (c : Nat) (arg : BitVec 12), s.canIssue c 4 ∧ counterDefined arg.toNat = true) ∧
    (∃ (s : State) (c n : Nat) (arg : BitVec 12), s.canIssue c 4 ∧ c < 288 ∧ s.engineOf (ctxSlot c) = some n) ∧
    (∃ (s : State) (c : Nat), s.canIssue c 4 ∧ c < 288 ∧ (s.ctx c).lastStep.elim true (fun l => decide (l < (s.ctx
      c).a.toNat)) = true) ∧
    (∃ (s : State) (c : Nat), s.canIssue c 4 ∧ c < 288 ∧ (s.ctx c).lastStep.elim true (fun l => decide (l < (s.ctx
      c).a.toNat)) = false) ∧
    (∃ (s : State) (c : Nat) (arg : BitVec 12), s.canIssue c 4 ∧ srListed c arg = true ∧ srLevel arg ≤ (s.ctx c).level) ∧
    (∃ (s : State) (c : Nat) (arg : BitVec 12), s.canIssue c 4 ∧ srListed c arg = true ∧ srLevel arg ≤ (s.ctx c).level ∧ arg
      ≠ 0x23) ∧
    (∃ (s : State) (c : Nat), s.canIssue c 4 ∧ 1 ≤ (s.ctx c).level) ∧
    (∃ (s : State) (c : Nat), s.canIssue c 4 ∧ 1 ≤ (s.ctx c).level ∧ 288 ≤ c) ∧
    (∃ (s : State), s.canIssue 320 4 ∧ 2 ≤ (s.ctx 320).level) :=
  ⟨⟨running 0 1, 0, 0, by decide⟩,
   ⟨running 0 1, 0, 5, by decide⟩,
   ⟨running 0 1, 0, 0x43F, by decide⟩,
   ⟨running 0 1, 0, 0, 0xFFF, by decide⟩,
   ⟨running 0 1, 0, by decide⟩,
   ⟨up.setCtx 0 { Ctx.reset with run := .running, st := 256, lastStep := some 0 }, 0, by decide⟩,
   ⟨running 0 1, 0, 0x14, by decide⟩,
   ⟨running 0 1, 0, 0x14, by decide⟩,
   ⟨running 0 1, 0, by decide⟩,
   ⟨running 288 1, 288, by decide⟩,
   ⟨running 320 2, by decide⟩⟩

theorem meets_WaitsAndReleasesComplete :
    (∃ (s : State) (c : Nat), s.canIssue c 4) ∧
    (∃ (s : State) (c since : Nat), c < 321 ∧ (s.ctx c).run = .waiting .bell since ∧ (s.ctx c).pb.toNat + 1 ≤ s.count ∧ (isTc
      c && s.freezesAt (s.ctxPart c) ((s.ctx c).pb.toNat + 1)) = false ∧ s.snapRoom c ((s.ctx c).pb.toNat + 1) = true) ∧
    (∃ (s : State) (c : Nat), s.canIssue c 4 ∧ (s.ctx c).pb.toNat < (s.ctx c).a.toNat) ∧
    (∃ (s : State) (c b since : Nat), c < 321 ∧ (s.ctx c).run = .waiting (.bellT b false) since ∧ b ≤ s.count ∧ (isTc c &&
      s.freezesAt (s.ctxPart c) b) = false ∧ s.snapRoom c b = true) ∧
    (∃ (s : State) (c : Nat) (arg : BitVec 12), s.canIssue c 4 ∧ counterDefined arg.toNat = true ∧ (isTc c && decide
      (s.partState (s.counterPart c (s.ctx c)) = .freezing)) = false) ∧
    (∃ (s : State) (c p id target since : Nat) (lim : Option Nat), c < 321 ∧ (s.ctx c).run = .waiting (.counter p id target
      lim) since ∧ reached (s.counterSeen c p id) target = true) ∧
    (∃ (s : State) (c p id target since lim : Nat), c < 321 ∧ (s.ctx c).run = .waiting (.counter p id target (some lim))
      since ∧ lim ≤ s.coreClocks c since) :=
  ⟨⟨running 0 1, 0, by decide⟩,
   ⟨(up.setCtx 0 { Ctx.reset with run := .waiting .bell 0 }).wr Reg.BELL_COUNT_COUNT 1, 0, 0, by decide⟩,
   ⟨up.setCtx 0 { Ctx.reset with run := .running, st := 256, a := 3 }, 0, by decide⟩,
   ⟨(up.setCtx 0 { Ctx.reset with run := .waiting (.bellT 1 false) 0 }).wr Reg.BELL_COUNT_COUNT 1, 0, 1, 0, by decide⟩,
   ⟨running 0 1, 0, 0, by decide⟩,
   ⟨up.setCtx 0 { Ctx.reset with run := .waiting (.counter 0 0 0 none) 0 }, 0, 0, 0, 0, 0, none, by decide⟩,
   ⟨{ up.setCtx 288 { Ctx.reset with run := .waiting (.counter 0 0 5 (some 1)) 0 } with now := 100 }, 288, 0, 0, 5, 0, 1, by decide⟩⟩

theorem meets_CoprocessorInstructionsComplete :
    (∃ (s : State) (c : Nat) (f : CForm) (r : State × List Nat × Nat) (t : State), s.canIssue c f.len ∧ f.ok = true ∧ c < 288
      ∧ s.descriptor c (s.ctx c) (f.ca (s.ctx c)) 64 = .ok r ∧ r.1.offerMop c (s.ctx c) (wordsOf r.2.1) = some t) ∧
    (∃ (s : State) (c : Nat) (f : CForm) (r : State × List Nat × Nat), s.canIssue c f.len ∧ f.ok = true ∧ c < 288 ∧
      s.descriptor c (s.ctx c) (f.ca (s.ctx c)) 64 = .ok r ∧ r.1.offerMop c (s.ctx c) (wordsOf r.2.1) = none) ∧
    (∃ (s : State) (c : Nat) (f : CForm) (r : State × List Nat × Nat) (t : State), s.canIssue c f.len ∧ f.ok = true ∧
      s.descriptor c (s.ctx c) (f.ca (s.ctx c)) 32 = .ok r ∧ r.1.offerCpd c (s.ctx c) (wordsOf r.2.1) = some t) ∧
    (∃ (s : State) (c : Nat) (f : CForm) (r : State × List Nat × Nat), s.canIssue c f.len ∧ f.ok = true ∧ s.descriptor c
      (s.ctx c) (f.ca (s.ctx c)) 32 = .ok r ∧ r.1.offerCpd c (s.ctx c) (wordsOf r.2.1) = none) ∧
    (∃ (s : State) (c : Nat) (f : CForm) (r : State × List Nat × Nat), s.canIssue c f.len ∧ f.ok = true ∧ 288 ≤ c ∧
      s.descriptor c (s.ctx c) (f.ca (s.ctx c)) 64 = .ok r) ∧
    (∃ (s : State) (c : Nat), s.canIssue c 4 ∧ c < 288) ∧
    (∃ (s t : State) (c : Nat) (f : CForm) (bs : List Nat), s.canIssue c f.len ∧ f.ok = true ∧ isIoc c = true ∧ (s.ctx
      c).x.toNat ≤ 65536 ∧ s.coreBytes c (s.ctx c) (f.ca (s.ctx c)) (s.ctx c).x.toNat = .ok (t, bs)) ∧
    (∃ (s t u : State) (c : Nat) (f : CForm) (bs key : List Nat), s.canIssue c f.len ∧ f.ok = true ∧ isIoc c = true ∧ (s.ctx
      c).x.toNat ≤ 36 ∧ s.coreBytes c (s.ctx c) (f.ca (s.ctx c)) (s.ctx c).x.toNat = .ok (t, bs) ∧ t.coreBytes c (s.ctx c)
      (s.ctx c).y.toNat ((s.ctx c).x.toNat + 4) = .ok (u, key)) ∧
    (∃ (s t : State) (c : Nat) (f : CForm) (bs : List Nat), s.canIssue c f.len ∧ f.ok = true ∧ isIoc c = true ∧ s.coreBytes c
      (s.ctx c) (f.ca (s.ctx c)) 64 = .ok (t, bs)) ∧
    (∃ (s t : State) (c len cost since : Nat) (w : List Nat), c < 321 ∧ (((s.ctx c).run = .waiting (.mopRoom w len cost)
      since ∧ s.offerMop c (s.ctx c) w = some t) ∨ ((s.ctx c).run = .waiting (.cpdRoom w len cost) since ∧ s.offerCpd c
      (s.ctx c) w = some t) ∨ ((s.ctx c).run = .waiting (.ciphRoom w len cost) since ∧ s.takeCiph c w = t))) :=
  ⟨⟨running 0 1, 0, addrForm 64, (running 0 1, List.replicate 64 0, 1), ((running 0 1).offerMop 0 ((running 0 1).ctx 0) (List.replicate 16 0)).getD up, by decide⟩,
   ⟨unmapped, 0, addrForm 64, (unmapped, List.replicate 64 0, 1), by decide⟩,
   ⟨running 0 1, 0, addrForm 64, (running 0 1, List.replicate 32 0, 1), ((running 0 1).offerCpd 0 ((running 0 1).ctx 0) (List.replicate 8 0)).getD up, by decide⟩,
   ⟨fullCopy, 0, addrForm 64, (fullCopy, List.replicate 32 0, 1), by exact ⟨by decide, by decide, rfl, rfl⟩⟩,
   ⟨running 288 1, 288, addrForm 64, (running 288 1, List.replicate 64 0, 1), by decide⟩,
   ⟨running 0 1, 0, by decide⟩,
   ⟨running 288 1, running 288 1, 288, addrForm 64, [], by decide⟩,
   ⟨running 288 1, running 288 1, running 288 1, 288, addrForm 64, [], [0, 0, 0, 0], by decide⟩,
   ⟨running 288 1, running 288 1, 288, { addrForm 64 with d16 := 64 }, List.replicate 64 0, by decide⟩,
   ⟨(running 288 1).setCtx 288 { Ctx.reset with run := .waiting (.ciphRoom (List.replicate 16 0) 4 5) 0 }, ((running 288 1).setCtx 288 { Ctx.reset with run := .waiting (.ciphRoom (List.replicate 16 0) 4 5) 0 }).takeCiph 288 (List.replicate 16 0), 288, 4, 5, 0, List.replicate 16 0, by decide⟩⟩

theorem meets_ContextCommandsAndInterruptsComplete :
    (∃ (s : State) (c cause : Nat), 288 ≤ c ∧ c < 320 ∧ (s.ctx c).run = .running ∧ (s.ctx c).flag 10 = true) ∧
    (∃ (s : State) (c cause w : Nat), 288 ≤ c ∧ c < 320 ∧ ((s.ctx c).run = .waiting .bell w ∨ (∃ b m, (s.ctx c).run =
      .waiting (.bellT b m) w) ∨ ∃ p i v l, (s.ctx c).run = .waiting (.counter p i v l) w) ∧ (s.ctx c).flag 10 = true) ∧
    (∃ (s : State) (cause : Nat), (s.ctx 320).run = .running ∧ (s.ctx 320).flag 10 = true) ∧
    (∃ (s : State) (c : Nat), s.pfOpen 15 = true ∧ c < 288 ∧ s.ctxBound c = true ∧ (s.ctx c).alive = false ∧ (s.ctx c).run ≠
      .halted ∧ s.partState (s.ctxPart c) = .run) ∧
    (∃ (s : State) (c : Nat), s.pfOpen 15 = true ∧ c < 288 ∧ (s.ctx c).alive = true) ∧
    (∃ (s : State) (c v : Nat), s.pfOpen 15 = true ∧ c < 288 ∧ (s.ctx c).alive = false) ∧
    (∃ (s : State) (c v : Nat), s.pfOpen 15 = true ∧ c < 288 ∧ (s.ctx c).alive = false ∧ s.bindBad c v = false) :=
  ⟨⟨up.setCtx 288 { Ctx.reset with run := .running, st := 0x500 }, 288, 3, by decide⟩,
   ⟨up.setCtx 288 { Ctx.reset with run := .waiting .bell 0, st := 0x500 }, 288, 3, 0, by exact ⟨by decide, by decide, Or.inl rfl, by decide⟩⟩,
   ⟨up.setCtx 320 { Ctx.reset with run := .running, st := 0x600 }, 3, by decide⟩,
   ⟨up.wr (Reg.TC_CTX_BIND_EN 0 0 0) 1, 0, by decide⟩,
   ⟨running 0 0, 0, by decide⟩,
   ⟨up, 0, 64, by decide⟩,
   ⟨up, 0, 0, by decide⟩⟩

theorem meets_CopiesStartAndComplete :
    (∃ (s : State) (u : Nat) (d : Cpd), u < 22 ∧ (s.copy u).flying < 8 ∧ s.cpdChoice (s.copy u).startable = some d ∧
      cpdReplay d.words ≠ 2 ∧ cpdKind d.words = 2 ∧ s.cpdHit d = none) ∧
    (∃ (s : State) (u : Nat) (d : Cpd), u < 22 ∧ (s.copy u).flying < 8 ∧ s.cpdChoice (s.copy u).startable = some d ∧
      cpdReplay d.words ≠ 2 ∧ cpdKind d.words ≠ 2) ∧
    (∃ (s t : State) (h : HeldWrite) (b : Nat × Nat) (bs : List (Nat × Nat)) (held : Nat), s.memSt.held.find? (fun g =>
      s.chunkFree g || decide (s.memSt.staged.length < 64)) = some h ∧ t = (if s.chunkFree h = true then s else s.reachChunk
      h.region h.chunk true) ∧ held = Tab.get 0 t.memSt.heldTime h.region + (s.now - h.since) ∧ h.bytes = b :: bs ∧ h.who =
      .other) ∧
    (∃ (s t : State) (h : HeldWrite) (b : Nat × Nat) (bs : List (Nat × Nat)) (held : Nat), s.memSt.held.find? (fun g =>
      s.chunkFree g || decide (s.memSt.staged.length < 64)) = some h ∧ t = (if s.chunkFree h = true then s else s.reachChunk
      h.region h.chunk true) ∧ held = Tab.get 0 t.memSt.heldTime h.region + (s.now - h.since) ∧ h.bytes = [] ∧ b = (0, 0) ∧
      bs = [] ∧ h.who = .other) ∧
    (∃ (s : State) (u p : Nat) (d : Cpd) (c : Nat), u < 22 ∧ p < 64 ∧ (s.copy u).startable.queue.find? (fun e => e.part == p)
      = some d ∧ (s.copy u).restore = false ∧ (decide (u < 18) && (s.slot u).fenced) = false ∧ d.stage = .inflight ∧ d.held =
      none ∧ s.cpdHit d = none ∧ cpdReplay d.words ≠ 2 ∧ d.src = .context c) :=
  ⟨⟨withCpd { aCpd with words := [2] }, 0, { aCpd with words := [2] }, by decide⟩,
   ⟨withCpd aCpd, 0, aCpd, by decide⟩,
   ⟨withHeld { region := 0, chunk := 0, since := 0, bytes := [(64, 5)], who := .other }, withHeld { region := 0, chunk := 0, since := 0, bytes := [(64, 5)], who := .other }, { region := 0, chunk := 0, since := 0, bytes := [(64, 5)], who := .other }, (64, 5), [], 0, by decide⟩,
   ⟨withHeld { region := 0, chunk := 0, since := 0, bytes := [], who := .other }, withHeld { region := 0, chunk := 0, since := 0, bytes := [], who := .other }, { region := 0, chunk := 0, since := 0, bytes := [], who := .other }, (0, 0), [], 0, by decide⟩,
   ⟨withCpd { aCpd with words := [2], stage := .inflight, src := .context 0 }, 0, 0, { aCpd with words := [2], stage := .inflight, src := .context 0 }, 0, by decide⟩⟩

theorem meets_MemoryScrubAndSparingComplete :
    (∃ (s : State), s.on Reg.MEM_SCRUB_EN = true) ∧
    (∃ (s : State) (pd : Nat), pd < 24 ∧ s.rd (Reg.MEM_DEV_ROLE pd) = 0 ∧ (s.memSt.promoting ++ s.memSt.sudden).any (fun q =>
      q.1 == pd) = false) ∧
    (∃ (s : State) (v : Nat), s.pfOpen 14 = true ∧ bits (setBits v 5 1 1) 0 5 ≤ 23 ∧ 1 ≤ bits (setBits v 5 1 1) 8 8 ∧ bits
      (setBits v 5 1 1) 8 8 ≤ 64 ∧ bit (setBits v 5 1 1) 6 = false ∧ bit (setBits v 5 1 1) 5 = true) ∧
    (∃ (s : State) (q : Nat × Nat), s.pfOpen 14 = true ∧ s.memSt.promoting.find? (fun q => q.1 == s.rd Reg.MEM_PROMOTE_PD) =
      some q) ∧
    (∃ (s : State), s.pfOpen 14 = true ∧ s.memSt.promoting.find? (fun q => q.1 == s.rd Reg.MEM_PROMOTE_PD) = none) ∧
    (∃ (s : State) (pd sb : Nat) (r : List (Nat × Nat)), s.memSt.promoting = (pd, sb) :: r) ∧
    (∃ (s t : State) (pd : Nat), pd < 24 ∧ s.rd (Reg.MEM_DEV_ROLE pd) = 0 ∧ s.memSt.sudden.any (fun q => q.1 == pd) = false ∧
      t = (s.setPromoting (s.memSt.promoting.filter (fun q => q.1 != pd))).memErr Reg.MEM_ERR_TRAIN_FAIL ∧ t.standbyFree
      (standbyOf pd) = true) :=
  ⟨⟨up.wr Reg.MEM_SCRUB_EN 1, by decide⟩,
   ⟨up, 3, by decide⟩,
   ⟨up, 0x103, by decide⟩,
   ⟨{ up with memSt := { up.memSt with promoting := [(0, 24)] } }, (0, 24), by decide⟩,
   ⟨{ up with memSt := { up.memSt with promoting := [(3, 24)] } }, by decide⟩,
   ⟨{ up with memSt := { up.memSt with promoting := [(3, 24)] } }, 3, 24, [], by decide⟩,
   ⟨up, (up.setPromoting []).memErr Reg.MEM_ERR_TRAIN_FAIL, 3, by decide +kernel⟩⟩

theorem meets_DataPortsComplete :
    (∃ (s : State) (i : Nat), ((i = 0 ∧ s.pfOpen 17 = true) ∨ (i = 1 ∧ s.pwr.off = false)) ∧ s.on (Reg.DPORT_CTRL_EN i) =
      true ∧ s.dportOpen (s.dportAddr i) 4 = true ∧ s.readable (s.dportAddr i) 4 = true) ∧
    (∃ (s : State) (i v : Nat), ((i = 0 ∧ s.pfOpen 17 = true) ∨ (i = 1 ∧ s.pwr.off = false)) ∧ s.on (Reg.DPORT_CTRL_EN i) =
      true ∧ s.dportOpen (s.dportAddr i) 4 = true) ∧
    (∃ (s : State) (i n : Nat), ((i = 0 ∧ s.pfOpen 17 = true) ∨ (i = 1 ∧ s.pwr.off = false)) ∧ n % 4 = 0) ∧
    (∃ (s : State) (i : Nat) (bs : List Nat), ((i = 0 ∧ s.pfOpen 17 = true) ∨ (i = 1 ∧ s.pwr.off = false)) ∧ bs.length % 4 =
      0 ∧ s.on (Reg.DPORT_CTRL_EN i) = true ∧ s.dportOpen (s.dportAddr i) bs.length = true) ∧
    (∃ (s : State) (i : Nat), ((i = 0 ∧ s.pfOpen 17 = true) ∨ (i = 1 ∧ s.pwr.off = false))) :=
  ⟨⟨(up.wr (Reg.DPORT_CTRL_EN 1) 1), 1, by decide⟩,
   ⟨(up.wr (Reg.DPORT_CTRL_EN 1) 1), 1, 5, by decide⟩,
   ⟨(up.wr (Reg.DPORT_CTRL_EN 1) 1), 1, 64, by decide⟩,
   ⟨(up.wr (Reg.DPORT_CTRL_EN 1) 1), 1, [1, 2, 3, 4], by decide⟩,
   ⟨up, 0, by decide⟩⟩

theorem meets_PartitionCommandsAreTakenAndChecked :
    (∃ (s : State) (p : Nat) (tgt : Bool), s.pfOpen 4 = true ∧ p < 64 ∧ s.on (Reg.PART_CMD_STATUS_BUSY p) = false ∧
      s.partCmds = [] ∧ (s.takeCmd (s.newCmd p 0x1 tgt false 0 0 none)).checkCmd (s.newCmd p 0x1 tgt false 0 0 none) = none) ∧
    (∃ (s : State) (p : Nat) (tgt : Bool), s.pfOpen 4 = true ∧ p < 64 ∧ s.on (Reg.PART_CMD_STATUS_BUSY p) = false ∧
      s.partCmds = [] ∧ (s.takeCmd (s.newCmd p 0x2 tgt false 0 0 none)).checkCmd (s.newCmd p 0x2 tgt false 0 0 none) = none) ∧
    (∃ (s : State) (p : Nat) (tgt : Bool), s.pfOpen 4 = true ∧ p < 64 ∧ s.on (Reg.PART_CMD_STATUS_BUSY p) = false ∧
      s.partCmds = [] ∧ (s.takeCmd (s.newCmd p 0x3 tgt false 0 0 none)).checkCmd (s.newCmd p 0x3 tgt false 0 0 none) = none) ∧
    (∃ (s : State) (p : Nat) (tgt : Bool), s.pfOpen 4 = true ∧ p < 64 ∧ s.on (Reg.PART_CMD_STATUS_BUSY p) = false ∧
      s.partCmds = [] ∧ (s.takeCmd (s.newCmd p 0x4 tgt false 0 0 none)).checkCmd (s.newCmd p 0x4 tgt false 0 0 none) = none) ∧
    (∃ (s : State) (p : Nat) (tgt : Bool), s.pfOpen 4 = true ∧ p < 64 ∧ s.on (Reg.PART_CMD_STATUS_BUSY p) = false ∧
      s.partCmds = [] ∧ (s.takeCmd (s.newCmd p 0x104 tgt false 0 0 none)).checkCmd (s.newCmd p 0x104 tgt false 0 0 none) =
      none) ∧
    (∃ (s : State) (p : Nat) (tgt : Bool), s.pfOpen 4 = true ∧ p < 64 ∧ s.on (Reg.PART_CMD_STATUS_BUSY p) = false ∧
      s.partCmds = [] ∧ (s.takeCmd (s.newCmd p 0x5 tgt false 0 0 none)).checkCmd (s.newCmd p 0x5 tgt false 0 0 none) = none) ∧
    (∃ (s : State) (p : Nat) (tgt : Bool), s.pfOpen 4 = true ∧ p < 64 ∧ s.on (Reg.PART_CMD_STATUS_BUSY p) = false ∧
      s.partCmds = [] ∧ (s.takeCmd (s.newCmd p 0x6 tgt false 0 0 none)).checkCmd (s.newCmd p 0x6 tgt false 0 0 none) = none) ∧
    (∃ (s : State) (p : Nat) (tgt : Bool), s.pfOpen 4 = true ∧ p < 64 ∧ s.on (Reg.PART_CMD_STATUS_BUSY p) = false ∧
      s.partCmds = [] ∧ (s.takeCmd (s.newCmd p 0x7 tgt false 0 0 none)).checkCmd (s.newCmd p 0x7 tgt false 0 0 none) = none) ∧
    (∃ (s : State) (p : Nat) (tgt : Bool), s.pfOpen 4 = true ∧ p < 64 ∧ s.on (Reg.PART_CMD_STATUS_BUSY p) = false ∧
      s.partCmds = [] ∧ (s.takeCmd (s.newCmd p 0x8 tgt false 0 0 none)).checkCmd (s.newCmd p 0x8 tgt false 0 0 none) = none) ∧
    (∃ (s : State) (p : Nat) (tgt : Bool), s.pfOpen 4 = true ∧ p < 64 ∧ s.on (Reg.PART_CMD_STATUS_BUSY p) = false ∧
      s.partCmds = [] ∧ (s.takeCmd (s.newCmd p 0x9 tgt false 0 0 none)).checkCmd (s.newCmd p 0x9 tgt false 0 0 none) = none) ∧
    (∃ (s : State) (p : Nat) (tgt : Bool), s.pfOpen 4 = true ∧ p < 64 ∧ s.on (Reg.PART_CMD_STATUS_BUSY p) = false ∧
      s.partCmds = [] ∧ (s.takeCmd (s.newCmd p 0xA tgt false 0 0 none)).checkCmd (s.newCmd p 0xA tgt false 0 0 none) = none) ∧
    (∃ (s : State) (p : Nat) (tgt : Bool), s.pfOpen 4 = true ∧ p < 64 ∧ s.on (Reg.PART_CMD_STATUS_BUSY p) = false ∧
      s.partCmds = [] ∧ (s.takeCmd (s.newCmd p 0xB tgt false 0 0 none)).checkCmd (s.newCmd p 0xB tgt false 0 0 none) = none) ∧
    (∃ (s : State) (p : Nat) (tgt : Bool), s.pfOpen 4 = true ∧ p < 64 ∧ s.on (Reg.PART_CMD_STATUS_BUSY p) = false ∧
      s.partCmds = [] ∧ (s.takeCmd (s.newCmd p 0x10B tgt false 0 0 none)).checkCmd (s.newCmd p 0x10B tgt false 0 0 none) =
      none) ∧
    (∃ (s : State) (p : Nat) (tgt : Bool), s.pfOpen 4 = true ∧ p < 64 ∧ s.on (Reg.PART_CMD_STATUS_BUSY p) = false ∧
      s.partCmds = [] ∧ (s.takeCmd (s.newCmd p 0x20B tgt false 0 0 none)).checkCmd (s.newCmd p 0x20B tgt false 0 0 none) =
      none) ∧
    (∃ (s : State) (p : Nat) (tgt : Bool), s.pfOpen 4 = true ∧ p < 64 ∧ s.on (Reg.PART_CMD_STATUS_BUSY p) = false ∧
      s.partCmds = [] ∧ (s.takeCmd (s.newCmd p 0xC tgt false 0 0 none)).checkCmd (s.newCmd p 0xC tgt false 0 0 none) = none) ∧
    (∃ (s : State) (p : Nat) (tgt : Bool) (blob : BlobRead) (major minor : Nat), s.pfOpen 4 = true ∧ p < 64 ∧ s.on
      (Reg.PART_CMD_STATUS_BUSY p) = false ∧ s.partCmds = [] ∧ (s.takeCmd (s.newCmd p 0xD tgt blob.digestOk major minor
      blob.foreign)).hostHeld p = false ∧ (s.takeCmd (s.newCmd p 0xD tgt blob.digestOk major minor blob.foreign)).checkCmd
      (s.newCmd p 0xD tgt blob.digestOk major minor blob.foreign) = none) :=
  ⟨⟨part1 .free, 1, false, by decide⟩,
   ⟨part1 .ready, 1, false, by decide⟩,
   ⟨(part1 .ready).wr (Reg.PART_VF_VF 1) 1, 1, false, by decide⟩,
   ⟨part1 .ready, 1, false, by decide⟩,
   ⟨((part1 .ready).wr (Reg.TC_CTX_BIND_EN 0 0 0) 1).wr (Reg.TC_CTX_BIND_PART 0 0 0) 1, 1, false, by decide⟩,
   ⟨part1 .ready, 1, false, by decide⟩,
   ⟨part1 .run, 1, false, by decide⟩,
   ⟨part1 .frozen, 1, false, by decide⟩,
   ⟨part1 .run, 1, false, by decide⟩,
   ⟨part1 .run, 1, false, by decide⟩,
   ⟨part1 .stopped, 1, false, by decide⟩,
   ⟨part1 .run, 1, false, by decide⟩,
   ⟨live.setPart 1 { Part.reset with state := .run, logging := true }, 1, false, by decide⟩,
   ⟨live.setPart 1 { Part.reset with state := .run, logging := true }, 1, false, by decide⟩,
   ⟨{ (part1 .frozen) with ciph := { up.ciph with exportKeys := [(1, some [1])] } }, 1, false, by decide⟩,
   ⟨restorable, 1, false, .own, 1, 0, by decide⟩⟩

theorem meets_PartitionEdgeAndDoorbellsComplete :
    (∃ (s : State) (x : PartCmd) (r : List PartCmd), s.partCmds = x :: r ∧ x.checked = true ∧ x.bell ≤ s.count ∧ s.cmdWaits x
      = false ∧ s.partState x.part ∈ fromStates x.code) ∧
    (∃ (s : State) (p f : Nat), p < 64 ∧ s.partState p = .freezing ∧ (s.part p).freezeAt = some f ∧ f + s.rd
      (Reg.PART_LIMITS_FREEZE p) ≤ s.count) ∧
    (∃ (s : State) (p cls q v : Nat), p < 64 ∧ cls < 4 ∧ q < 4096 ∧ v < 65536 ∧ s.queueGranted p cls q = true ∧ (s.queue p
      cls q).en = true ∧ s.partState p = .run ∧ ¬(s.quiesced p = true ∧ (s.queue p cls q).base < 2 ^ 63)) ∧
    (∃ (s : State) (p cls q v : Nat), p < 64 ∧ cls < 4 ∧ q < 4096 ∧ v < 65536 ∧ s.queueGranted p cls q = true ∧ (s.queue p
      cls q).en = true ∧ s.partState p = .run ∧ s.quiesced p = true ∧ (s.queue p cls q).base < 2 ^ 63) ∧
    (∃ (s : State) (p cls q v : Nat), p < 64 ∧ cls < 4 ∧ q < 4096 ∧ v < 65536 ∧ s.queueGranted p cls q = true ∧ (s.queue p
      cls q).en = true ∧ (s.partState p = .ready ∨ s.partState p = .freezing ∨ s.partState p = .frozen)) ∧
    (∃ (s : State) (p cls q v : Nat), s.pfOpen 4 = true ∧ p < 64 ∧ cls < 4 ∧ q < 4096 ∧ s.queueGranted p cls q = true ∧
      (s.queue p cls q).en = false) ∧
    (∃ (s : State) (p cls q v : Nat), s.pfOpen 4 = true ∧ p < 64 ∧ cls < 4 ∧ q < 4096 ∧ s.queueGranted p cls q = true) ∧
    (∃ (s : State) (p cls q v : Nat), s.pfOpen 4 = true ∧ p < 64 ∧ cls < 4 ∧ q < 4096 ∧ s.queueGranted p cls q = true ∧
      (s.queue p cls q).en = false ∧ bit (v % 2 ^ 32) 16 = true ∧ cls ≠ 3 ∧ s.setupBad p (v % 2 ^ 32) = false ∧
      s.queueResetting p cls q = false) ∧
    (∃ (s : State) (p sl v : Nat), s.pfOpen 4 = true ∧ p < 64 ∧ sl < 1024 ∧ sl < (s.part p).grants.slices ∧ s.on
      (Reg.PART_SLICE_EN p sl) = false ∧ bit v 20 = false) ∧
    (∃ (s : State) (p sl v : Nat), s.pfOpen 4 = true ∧ p < 64 ∧ sl < 1024 ∧ sl < (s.part p).grants.slices ∧ s.on
      (Reg.PART_SLICE_EN p sl) = false ∧ bit v 20 = true ∧ s.sliceOutside p (bits v 32 16) (bits v 48 16) = false ∧
      (List.range 1024).any (fun i => i != sl && s.on (Reg.PART_SLICE_EN p i) && s.rd (Reg.PART_SLICE_PASID p i) == bits v 0
      20) = false) ∧
    (∃ (s : State) (p : Nat) (w : BitmapWrite) (r : List BitmapWrite), p < 64 ∧ (s.part p).bitmapDue = w :: r ∧ s.hostHeld p
      = false) :=
  ⟨⟨{ part1 .run with partCmds := [{ (part1 .run).newCmd 1 6 false false 0 0 none with checked := true }] }, { (part1 .run).newCmd 1 6 false false 0 0 none with checked := true }, [], by decide⟩,
   ⟨(live.setPart 1 { Part.reset with state := .freezing, freezeAt := some 0 }).wr (Reg.PART_LIMITS_FREEZE 1) 0, 1, 0, by decide⟩,
   ⟨(live.setPart 1 { Part.reset with state := .run, grants := { Grants.none with qp := 4 } }).setQueue 1 0 2 { Queue.reset with en := true }, 1, 0, 2, 1, by decide⟩,
   ⟨((live.setPart 1 { Part.reset with state := .run, grants := { Grants.none with qp := 4 } }).setQueue 1 0 2 { Queue.reset with en := true }).wr Reg.PCI_QUIESCED_PARTS 2, 1, 0, 2, 1, by decide⟩,
   ⟨(live.setPart 1 { Part.reset with state := .frozen, grants := { Grants.none with qp := 4 } }).setQueue 1 0 2 { Queue.reset with en := true }, 1, 0, 2, 1, by decide⟩,
   ⟨live.setPart 1 { Part.reset with state := .run, grants := { Grants.none with qp := 4 } }, 1, 0, 2, 64, by decide⟩,
   ⟨live.setPart 1 { Part.reset with state := .run, grants := { Grants.none with qp := 4 } }, 1, 0, 2, 64, by decide⟩,
   ⟨live.setPart 1 { Part.reset with state := .run, grants := { Grants.none with qp := 4 } }, 1, 0, 2, 0x1FFE4, by decide⟩,
   ⟨(live.setPart 1 { Part.reset with state := .run, grants := { Grants.none with slices := 4 } }), 1, 2, 5, by decide⟩,
   ⟨sliceable, 1, 0, 0x0001000000100005, by decide +kernel⟩,
   ⟨live.setPart 1 { Part.reset with bitmapDue := [{ range := 0, word := 5, mapB := false }] }, 1, { range := 0, word := 5, mapB := false }, [], by decide⟩⟩

theorem meets_HostRequestsComplete :
    (∃ (s : State) (f off len : Nat) (w : Bool) (h : List Nat), f < 65 ∧ (f ≠ 0 ∨ s.pci.dstate ≠ .d3hot)) ∧
    (∃ (s : State) (off len : Nat) (w : Bool) (h : List Nat), s.pci.dstate = .d3hot) ∧
    (∃ (s : State) (f : Nat) (posted : Bool) (h : List Nat), f < 65) ∧
    (∃ (s : State) (f off v : Nat), f < 65 ∧ off < 4096 ∧ s.pci.perst = false ∧ s.pci.configured = true ∧ s.funcPresent f =
      true) ∧
    (∃ (s : State) (f : Nat) (h : List Nat), f < 65) ∧
    (∃ (s : State) (f tag : Nat) (r : HostRead) (bs h : List Nat), f < 65 ∧ tag < 16384 ∧ Tab.get none s.pci.quarantine tag =
      none ∧ Tab.get none s.pci.reads tag = some r ∧ s.hostLooped r.func = false ∧ bs.length = r.len - r.got ∧ r.got ≤ r.len
      ∧ (∀ p cls q, r.use ≠ .entry p cls q)) ∧
    (∃ (s : State) (f tag p cls q : Nat) (r : HostRead) (bs h : List Nat), f < 65 ∧ tag < 16384 ∧ Tab.get none
      s.pci.quarantine tag = none ∧ Tab.get none s.pci.reads tag = some r ∧ s.hostLooped r.func = false ∧ bs.length = r.len -
      r.got ∧ r.got ≤ r.len ∧ r.use = .entry p cls q) ∧
    (∃ (s u : State) (tag : Nat) (r : HostRead), tag < 16384 ∧ Tab.get none s.pci.reads tag = some r ∧ s.pci.cplDisable =
      false ∧ u = s.atTime (r.issuedAt + cplTimer s.pci.cplTimeout)) ∧
    (∃ (s : State) (tag : Nat) (q : Quarantine), tag < 16384 ∧ Tab.get none s.pci.quarantine tag = some q ∧ q.endsAt ≤ s.now) :=
  ⟨⟨up, 0, 0, 3, false, [0, 0, 0], by decide⟩,
   ⟨{ up with pci := { up.pci with dstate := .d3hot } }, 0, 3, false, [0, 0, 0], by decide⟩,
   ⟨up, 64, false, [0, 0, 0], by decide⟩,
   ⟨{ up with pci := { up.pci with configured := true, perst := false } }, 0, 4, 6, by decide⟩,
   ⟨up, 0, [0, 0, 0], by decide⟩,
   ⟨{ up with pci := { up.pci with reads := [(3, some aRead)] } }, 0, 3, aRead, [1, 2, 3, 4], [], by exact ⟨by decide, by decide, by decide, by decide, by decide, by decide, by decide, fun _ _ _ h => ReadFor.noConfusion h⟩⟩,
   ⟨{ up with pci := { up.pci with reads := [(3, some { aRead with use := .entry 0 0 0 })] } }, 0, 3, 0, 0, 0, { aRead with use := .entry 0 0 0 }, [1, 2, 3, 4], [], by decide⟩,
   ⟨timedRead, timedRead.atTime (cplTimer timedRead.pci.cplTimeout), 3, aRead, by decide⟩,
   ⟨{ up with pci := { up.pci with quarantine := [(3, some { func := 0, orphan := false, endsAt := 0 })] } }, 3, { func := 0, orphan := false, endsAt := 0 }, by decide⟩⟩

theorem meets_LinkAndResetEventsComplete :
    (∃ (s : State) (w sp : Nat) (fl : Bool), s.on Reg.PCI_STATUS_LINK_UP = true ∧ s.trainable w sp = true) ∧
    (∃ (s : State) (w sp : Nat) (fl : Bool), s.on Reg.PCI_STATUS_LINK_UP = false ∧ s.pci.perst = false ∧ s.trainable w sp =
      true ∧ s.on (Reg.TST_LOOP_ACTIVE 32) = false) ∧
    (∃ (s : State) (f : Nat) (on : Bool), f < 65) ∧
    (∃ (s : State) (v : Nat), 0 < v ∧ v < 65) ∧
    (∃ (s : State), s.on Reg.PCI_STATUS_LINK_UP = true) ∧
    (∃ (s : State) (low : Nat), s.rd Reg.HUB_FILTER_PERST ≤ low ∧ s.pci.perst = false) :=
  ⟨⟨up.wr Reg.PCI_STATUS_LINK_UP 1, 16, 5, false, by decide⟩,
   ⟨{ up with pci := { up.pci with perst := false } }, 16, 5, false, by decide⟩,
   ⟨up, 0, true, by decide⟩,
   ⟨up, 64, by decide⟩,
   ⟨up.wr Reg.PCI_STATUS_LINK_UP 1, by decide⟩,
   ⟨{ up with pci := { up.pci with perst := false } }, 1000, by decide⟩⟩

theorem meets_DriverSessionCommandsComplete :
    (∃ (s : State), s.pfOpen 0 = true ∧ s.rd Reg.PCI_DRV_STATE ≠ 1 ∧ s.fwRuns = true) ∧
    (∃ (s : State), s.pfOpen 0 = true) ∧
    (∃ (s : State), s.pfOpen 0 = true ∧ s.rd Reg.PCI_DRV_STATE = 1) ∧
    (∃ (s u : State), s.rd Reg.PCI_DRV_STATE = 1 ∧ s.rv.hbHeld = false ∧ u = s.atTime (s.pci.hbStart + s.pci.hbPeriod *
      4000000) ∧ u.pci.hbSeen = true) ∧
    (∃ (s u : State), s.rd Reg.PCI_DRV_STATE = 1 ∧ s.rv.hbHeld = false ∧ u = s.atTime (s.pci.hbStart + s.pci.hbPeriod *
      4000000) ∧ u.pci.hbSeen = false ∧ u.rd Reg.PCI_HB_CFG_MISSES < 2) ∧
    (∃ (s u : State), s.rd Reg.PCI_DRV_STATE = 1 ∧ s.rv.hbHeld = false ∧ u = s.atTime (s.pci.hbStart + s.pci.hbPeriod *
      4000000) ∧ u.pci.hbSeen = false ∧ 2 ≤ u.rd Reg.PCI_HB_CFG_MISSES) ∧
    (∃ (s : State) (m : Nat), s.pfOpen 0 = true ∧ s.rd Reg.PCI_DRV_STATE = 1) :=
  ⟨⟨live, by decide⟩,
   ⟨up, by decide⟩,
   ⟨up.wr Reg.PCI_DRV_STATE 1, by decide⟩,
   ⟨watchedSeen, periodEnd watchedSeen, by exact ⟨by decide, by decide, rfl, by decide⟩⟩,
   ⟨watched, periodEnd watched, by exact ⟨by decide, by decide, rfl, by decide, by decide⟩⟩,
   ⟨watchedLate, periodEnd watchedLate, by exact ⟨by decide, by decide, rfl, by decide, by decide⟩⟩,
   ⟨up.wr Reg.PCI_DRV_STATE 1, 2, by decide⟩⟩

theorem meets_RktPacketsComplete :
    (∃ (s : State) (k v : RktPkt), k.typ ≤ 6 ∧ k.malformed (s.segOf k) = false ∧ k.dstConn < 16384 ∧ s.on (Reg.RKT_CONN_EN
      k.dstConn) = true ∧ s.on (Reg.RKT_PEER_EN (s.rd (Reg.RKT_CONN_PEER k.dstConn))) = true ∧ k.srcAddr = s.rd
      (Reg.RKT_PEER_ADDR (s.rd (Reg.RKT_CONN_PEER k.dstConn))) ∧ k.srcV6 = s.on (Reg.RKT_PEER_V6 (s.rd (Reg.RKT_CONN_PEER
      k.dstConn))) ∧ (s.conn k.dstConn).state = .rts ∧ k.cepoch = (s.conn k.dstConn).epoch ∧ (s.openCore k.dstConn).openPkt
      k.dstConn k = some v) ∧
    (∃ (s : State) (c psn j : Nat) (m : TxMsg), c < 16384 ∧ (s.conn c).state = .rts ∧ (s.conn c).nakHold = false ∧ (s.conn
      c).resync = none ∧ (s.conn c).sendPsn = psn ∧ psn ≠ (s.conn c).nextPsn ∧ seqLt psn (s.conn c).credit = true ∧
      s.msgOfPsn c psn = some m ∧ m.missing = 0 ∧ sdiff m.msn (s.conn c).firstMsn < 1024 ∧ s.pickSlot c (s.conn c).lastSlot
      (min (s.seg c) (m.wireLen - (sdiff psn m.psn).toNat * s.seg c)) = some j) ∧
    (∃ (s : State) (k v : RktPkt), k.typ = 7 ∧ k.malformed (s.segOf k) = false ∧ k.dstConn < 16384 ∧ s.on (Reg.RKT_CONN_EN
      k.dstConn) = true ∧ s.on (Reg.RKT_PEER_EN (s.rd (Reg.RKT_CONN_PEER k.dstConn))) = true ∧ k.srcAddr = s.rd
      (Reg.RKT_PEER_ADDR (s.rd (Reg.RKT_CONN_PEER k.dstConn))) ∧ k.srcV6 = s.on (Reg.RKT_PEER_V6 (s.rd (Reg.RKT_CONN_PEER
      k.dstConn))) ∧ (s.conn k.dstConn).state = .rts ∧ k.cepoch = (s.conn k.dstConn).epoch ∧ (s.openCore k.dstConn).openPkt
      k.dstConn k = some v) ∧
    (∃ (s : State) (c t : Nat), c < 16384 ∧ (s.conn c).firstUnacked = some t ∧ (s.conn c).state = .rts) ∧
    (∃ (s : State) (k v : RktPkt), k.typ = 0xC ∧ k.malformed (s.segOf k) = false ∧ k.dstConn < 16384 ∧ s.on (Reg.RKT_CONN_EN
      k.dstConn) = true ∧ s.on (Reg.RKT_PEER_EN (s.rd (Reg.RKT_CONN_PEER k.dstConn))) = true ∧ k.srcAddr = s.rd
      (Reg.RKT_PEER_ADDR (s.rd (Reg.RKT_CONN_PEER k.dstConn))) ∧ k.srcV6 = s.on (Reg.RKT_PEER_V6 (s.rd (Reg.RKT_CONN_PEER
      k.dstConn))) ∧ (s.conn k.dstConn).state = .rts ∧ 0 < (k.cepoch + 256 - (s.conn k.dstConn).epoch) % 256 ∧ (k.cepoch +
      256 - (s.conn k.dstConn).epoch) % 256 < 128 ∧ (s.openCore k.dstConn).openPkt k.dstConn k = some v) :=
  ⟨⟨connected { Conn.reset with state := .rts }, aPkt, aPkt, by decide⟩,
   ⟨sending, 0, 0, 0, TxMsg.new 0 [] 0 [] (.cpd 0 0) 0 0, by decide⟩,
   ⟨connected { Conn.reset with state := .rts }, { aPkt with typ := 7 }, { aPkt with typ := 7 }, by decide⟩,
   ⟨connected { Conn.reset with state := .rts, firstUnacked := some 0 }, 0, 0, by decide⟩,
   ⟨connected { Conn.reset with state := .rts }, { aPkt with typ := 0xC, cepoch := 1 }, { aPkt with typ := 0xC, cepoch := 1 }, by decide⟩⟩

theorem meets_RktTimersAndProbesComplete :
    (∃ (s : State) (c psn : Nat) (f : Flight), c < 16384 ∧ (s.conn c).state = .rts ∧ (s.conn c).resync = none ∧ (s.conn
      c).flights.find? (fun g => g.psn == psn && !g.acked && !g.lost) = some f) ∧
    (∃ (s u : State) (c : Nat), c < 16384 ∧ (s.conn c).nakHold = true ∧ u = s.atTime ((s.conn c).nakAt + s.rd
      Reg.RKT_TIMING_RTO_MIN * 4000)) ∧
    (∃ (s : State) (c d : Nat), c < 16384 ∧ (s.conn c).state = .rts ∧ (s.nextUp c 0).isNone = true ∧ (s.conn c).downSince =
      some d) ∧
    (∃ (s u : State) (i : Nat), i < 4096 ∧ s.on (Reg.RKT_PATH_UP i) = false ∧ s.on (Reg.FAB_PORT_STATUS_LINK_UP (s.rd
      (Reg.RKT_PATH_PORT i))) = true ∧ u = s.atTime ((s.path i).probeAt + s.rd Reg.RKT_RETRY_PROBE_MS * 4000000)) ∧
    (∃ (s : State) (i : Nat) (k : RktPkt), i < 4096 ∧ k.typ = 0xA ∧ k.malformed 1024 = false) ∧
    (∃ (s : State) (i : Nat) (k : RktPkt), i < 4096 ∧ k.typ = 0xB ∧ k.malformed 1024 = false) :=
  ⟨⟨connected { Conn.reset with state := .rts, flights := [aFlight] }, 0, 0, aFlight, by decide⟩,
   ⟨holding, holding.atTime (holding.rd Reg.RKT_TIMING_RTO_MIN * 4000), 0, by exact ⟨by decide, by decide, rfl⟩⟩,
   ⟨(connected { Conn.reset with state := .rts, downSince := some 0 }).wr (Reg.RKT_PATH_UP 0) 0, 0, 0, by decide⟩,
   ⟨probing, probing.atTime (probing.rd Reg.RKT_RETRY_PROBE_MS * 4000000), 5, by exact ⟨by decide, by decide, by decide, rfl⟩⟩,
   ⟨up, 5, RktPkt.plain 0xA [7, 8, 0, 0], by decide⟩,
   ⟨up, 5, RktPkt.plain 0xB [7, 8, 0, 0], by decide⟩⟩

theorem meets_ConnectionsEnableAndDisable :
    (∃ (s : State) (c v : Nat), s.pfOpen 6 = true ∧ c < 16384 ∧ s.on (Reg.RKT_CONN_EN c) = false ∧ s.connBad c v = false) ∧
    (∃ (s : State) (w : ConnWrite), s.pfOpen 6 = true ∧ w.conn < 16384 ∧ s.on (Reg.RKT_CONN_EN w.conn) = true) :=
  ⟨⟨(up.wr (Reg.PKT_RAW_BASE 0) 100).wr Reg.BELL_CTRL_EN 0, 0, 0, by decide⟩,
   ⟨connected { Conn.reset with state := .rts }, ⟨0, 0⟩, by decide⟩⟩

theorem meets_WorkRequestsOnConnectionsComplete :
    (∃ (s : State) (p q : Nat) (l : List Nat), p < 64 ∧ q < 4096 ∧ s.mayFetch p 0 q = true ∧ s.headHeld p q = false ∧ (l ≠ []
      ∨ 2 ^ 63 ≤ (s.queue p 0 q).base) ∧ ((s.queue p 0 q).base < 2 ^ 63 ∨ s.readableVia p true (s.queue p 0 q).entryAt 64 =
      true)) ∧
    (∃ (s : State) (p q : Nat), p < 64 ∧ q < 4096 ∧ s.mayFetch p 0 q = true ∧ s.headHeld p q = false ∧ (s.queue p 0 q).base <
      2 ^ 63) ∧
    (∃ (s : State) (p q : Nat) (l : List Nat), p < 64 ∧ q < 4096 ∧ s.mayFetch p 1 q = true ∧ (s.recvsOf p q).any (fun w =>
      decide (w.stage = .armed)) = false ∧ (l ≠ [] ∨ 2 ^ 63 ≤ (s.queue p 1 q).base) ∧ ((s.queue p 1 q).base < 2 ^ 63 ∨
      s.readableVia p true (s.queue p 1 q).entryAt 64 = true)) ∧
    (∃ (s : State) (p q : Nat), p < 64 ∧ q < 4096 ∧ s.mayFetch p 1 q = true ∧ (s.recvsOf p q).any (fun w => decide (w.stage =
      .armed)) = false ∧ (s.queue p 1 q).base < 2 ^ 63) ∧
    (∃ (s : State) (p q idx : Nat) (w : Wqe) (c : Nat), p < 64 ∧ q < 4096 ∧ s.wqeReady p q idx 1 = some w ∧ s.connFor p q =
      some c ∧ s.mayHand c = true ∧ s.payloadOk p (wqeLaddr w.words w.firing) (wqeLen w.words) = true) ∧
    (∃ (s : State) (p q idx : Nat) (w : Wqe) (c : Nat), p < 64 ∧ q < 4096 ∧ s.isRaw p q = false ∧ s.wqeReady p q idx 2 = some
      w ∧ s.connFor p q = some c ∧ s.mayHand c = true ∧ s.payloadOk p (wqeLaddr w.words w.firing) (wqeLen w.words) = true) ∧
    (∃ (s : State) (p q idx : Nat) (w : Wqe) (c : Nat), p < 64 ∧ q < 4096 ∧ s.wqeReady p q idx 3 = some w ∧ s.connFor p q =
      some c ∧ s.mayHand c = true) ∧
    (∃ (s : State) (p q idx : Nat) (w : Wqe) (c : Nat), p < 64 ∧ q < 4096 ∧ s.wqeReady p q idx 4 = some w ∧ s.connFor p q =
      some c ∧ s.mayHand c = true) :=
  ⟨⟨up.setQueue 0 0 0 { Queue.reset with en := true, pi := 1, base := 2 ^ 63, slice := 0x7FF }, 0, 0, [], by decide⟩,
   ⟨hostRing 0 0, 0, 0, by decide⟩,
   ⟨up.setQueue 0 1 0 { Queue.reset with en := true, pi := 1, base := 2 ^ 63, slice := 0x7FF }, 0, 0, [], by decide⟩,
   ⟨hostRing 1 0, 0, 0, by decide⟩,
   ⟨requesting { aWqe with words := [1] }, 0, 0, 0, { aWqe with words := [1] }, 0, by decide⟩,
   ⟨requesting { aWqe with words := [2] }, 0, 0, 0, { aWqe with words := [2] }, 0, by decide⟩,
   ⟨requesting { aWqe with words := [3] }, 0, 0, 0, { aWqe with words := [3] }, 0, by decide⟩,
   ⟨requesting { aWqe with words := [4] }, 0, 0, 0, { aWqe with words := [4] }, 0, by decide⟩⟩

theorem meets_LocalWorkRequestsComplete :
    (∃ (s : State) (p q idx : Nat) (w : Wqe), p < 64 ∧ q < 4096 ∧ s.wqeReady p q idx 5 = some w ∧ s.regBad p q w = false) ∧
    (∃ (s : State) (p q idx : Nat) (w : Wqe), p < 64 ∧ q < 4096 ∧ s.wqeReady p q idx 6 = some w ∧ (s.region p (bits
      (w.words.getD 10 0) 0 18)).valid = true ∧ (s.region p (bits (w.words.getD 10 0) 0 18)).gen = bits (w.words.getD 10 0)
      24 8 ∧ bits (w.words.getD 10 0) 18 6 = 0 ∧ bits (w.words.getD 10 0) 0 18 < s.regionCount p) ∧
    (∃ (s : State) (p q idx : Nat) (w : Wqe), p < 64 ∧ q < 4096 ∧ s.wqeReady p q idx 7 = some w) ∧
    (∃ (s : State) (p q idx : Nat) (w : Wqe), p < 64 ∧ q < 4096 ∧ s.wqeReady p q idx 8 = some w ∧ s.cpdRoom (s.cpdUnit
      (wqeCpd w.words w.firing)) p (wqeCpd w.words w.firing) = true) ∧
    (∃ (s : State) (p q idx : Nat) (w : Wqe), p < 64 ∧ q < 4096 ∧ s.isRaw p q = true ∧ s.wqeReady p q idx 2 = some w ∧
      wqeRaddr w.words w.firing = bits (wqeRaddr w.words w.firing) 0 5 + bits (wqeRaddr w.words w.firing) 8 3 * 256 ∧
      w.words.getD 10 0 = 0 ∧ wqeFld w.words 0 15 1 = 0 ∧ s.portExists (bits (wqeRaddr w.words w.firing) 0 5) = true ∧ 14 ≤
      wqeLen w.words ∧ wqeLen w.words + 4 ≤ s.rd (Reg.FAB_PORT_CTRL_MTU (bits (wqeRaddr w.words w.firing) 0 5)) ∧ 2 ^ 63 ≤
      wqeLaddr w.words w.firing ∧ s.payloadOk p (wqeLaddr w.words w.firing) (wqeLen w.words) = true) ∧
    (∃ (s : State) (p q : Nat) (w : Wqe), p < 64 ∧ q < 4096 ∧ armedOf (s.wqesOf p q) = some w ∧ s.trigMet p w = true ∧ wqeArm
      w.words = 1) ∧
    (∃ (s : State) (p q : Nat) (w : Wqe), p < 64 ∧ q < 4096 ∧ armedOf (s.recvsOf p q) = some w ∧ s.trigMet p w = true ∧
      wqeArm w.words = 1) ∧
    (∃ (s : State) (p q : Nat) (w : Wqe), p < 64 ∧ q < 4096 ∧ armedOf (s.wqesOf p q) = some w ∧ s.trigMet p w = true ∧ wqeArm
      w.words = 2) ∧
    (∃ (s : State) (p q : Nat) (w : Wqe), p < 64 ∧ q < 4096 ∧ armedOf (s.recvsOf p q) = some w ∧ s.trigMet p w = true ∧
      wqeArm w.words = 2) ∧
    (∃ (s u : State) (p i : Nat) (x : Inval) (r : List Inval), p < 64 ∧ i < 262144 ∧ (s.region p i).inval = x :: r ∧ u =
      s.atTime (x.since + s.rd Reg.RKT_RMA_CFG_INVAL_WAIT * 4000000)) :=
  ⟨⟨(requesting { aWqe with words := [5, 0, 0, 0, 0, 0x80000000, 0, 0, 0, 0, 0, 0, 64] }).setQueue 0 0 0 { Queue.reset with slice := 0x7FF }, 0, 0, 0, { aWqe with words := [5, 0, 0, 0, 0, 0x80000000, 0, 0, 0, 0, 0, 0, 64] }, by decide⟩,
   ⟨(requesting { aWqe with words := [6] }).setRegion 0 0 { Region.reset with valid := true, gen := 0 }, 0, 0, 0, { aWqe with words := [6] }, by decide⟩,
   ⟨requesting { aWqe with words := [7] }, 0, 0, 0, { aWqe with words := [7] }, by decide⟩,
   ⟨requesting { aWqe with words := [8] }, 0, 0, 0, { aWqe with words := [8] }, by decide⟩,
   ⟨(requesting { aWqe with words := [2, 0, 0, 0, 0, 0x80000000, 64] }).wr (Reg.PKT_RAW_COUNT 0) 1, 0, 0, 0, { aWqe with words := [2, 0, 0, 0, 0, 0x80000000, 64] }, by decide⟩,
   ⟨requesting { aWqe with words := [4103], stage := .armed }, 0, 0, { aWqe with words := [4103], stage := .armed }, by decide⟩,
   ⟨{ up with recvs := [(0, [{ aWqe with words := [4105], stage := .armed }])] }, 0, 0, { aWqe with words := [4105], stage := .armed }, by decide⟩,
   ⟨requesting { aWqe with words := [8199], stage := .armed }, 0, 0, { aWqe with words := [8199], stage := .armed }, by decide⟩,
   ⟨{ up with recvs := [(0, [{ aWqe with words := [8201], stage := .armed }])] }, 0, 0, { aWqe with words := [8201], stage := .armed }, by decide⟩,
   ⟨invalidating, invalidating.atTime (invalidating.rd Reg.RKT_RMA_CFG_INVAL_WAIT * 4000000), 0, 0, anInval, [], by exact ⟨by decide, by decide, by decide, rfl⟩⟩⟩

theorem meets_FabricPortsComplete :
    (∃ (s : State) (l : Nat) (b : List Nat) (occ : Nat), l < 32 ∧ s.portExists l = true ∧ s.on (Reg.FAB_PORT_STATUS_LINK_UP
      l) = true ∧ 64 ≤ b.length + 4 ∧ b.length + 4 ≤ s.rd (Reg.FAB_PORT_CTRL_MTU l) ∧ beNat (b.take 6) = s.rd
      (Reg.FAB_PORT_MAC_MAC l) ∧ beNat (b.take 6) ≠ 0x0180C2000001 ∧ (s.occupy l (s.framePrio b) occ).asleep = false) ∧
    (∃ (s : State) (l m q : Nat), l < 32) ∧
    (∃ (s : State) (l i : Nat), l < 32 ∧ i < 8 ∧ Tab.get 0 (s.port l).paused i ≠ 0) ∧
    (∃ (s : State) (l i : Nat), l < 32 ∧ i < 8 ∧ Tab.get 0 (s.port l).stormEnd i ≠ 0) ∧
    (∃ (s : State) (l i : Nat), l < 32 ∧ i < 8 ∧ Tab.get 0 (s.port l).paused i ≠ 0 ∧ s.storming l i = false ∧ s.stormAt l i <
      Tab.get 0 (s.port l).pauseEnd i) ∧
    (∃ (s : State) (n : Nat), n < 32 ∧ s.portExists (s.portOfLane n) = true ∧ bit (s.rd (Reg.FAB_PORT_STATUS_LANES
      (s.portOfLane n))) (n % 4) = true ∧ s.on (Reg.TST_LOOP_ACTIVE (s.portOfLane n)) = false) ∧
    (∃ (s : State) (n e k : Nat), n < 32 ∧ s.portExists (s.portOfLane n) = true ∧ s.rd Reg.FAB_LANE_LIMITS_SYM_LIMIT < e) ∧
    (∃ (s : State) (l m : Nat) (lanes : List Nat), l < 32 ∧ s.on (Reg.FAB_PORT_STATUS_LINK_UP l) = false ∧ s.on
      (Reg.FAB_PORT_STATUS_TRAINING l) = true ∧ s.reformLanes l m = some lanes) ∧
    (∃ (s : State) (l : Nat), s.pfOpen 5 = true ∧ l < 32 ∧ s.portExists l = true ∧ s.on (Reg.FAB_PORT_CTRL_EN l) = true) ∧
    (∃ (s u : State) (l : Nat), l < 32 ∧ u = s.tryRetrain l ∧ u.on (Reg.FAB_PORT_STATUS_TRAINING l) = true) ∧
    (∃ (s : State) (v : Nat), s.pfOpen 5 = true) ∧
    (∃ (s : State) (l : Nat), l < 32 ∧ s.portExists l = true ∧ s.on (Reg.FAB_PORT_CTRL_EN l) = true) :=
  ⟨⟨(up.wr (Reg.FAB_PORT_STATUS_LINK_UP 0) 1), 0, List.replicate 60 0, 0, by decide⟩,
   ⟨up, 0, 1, 5, by decide⟩,
   ⟨up.setPort 0 { PortSt.reset with paused := [(7, 1)] }, 0, 7, by decide⟩,
   ⟨up.setPort 0 { PortSt.reset with stormEnd := [(7, 1)] }, 0, 7, by decide⟩,
   ⟨up.setPort 0 { PortSt.reset with paused := [(3, 1)], pauseEnd := [(3, 10 ^ 12)] }, 0, 3, by decide⟩,
   ⟨up.wr (Reg.FAB_PORT_STATUS_LANES 0) 15, 2, by decide⟩,
   ⟨up.wr Reg.FAB_LANE_LIMITS_SYM_LIMIT 5, 2, 6, 1, by decide⟩,
   ⟨((up.wr (Reg.FAB_PORT_STATUS_TRAINING 0) 1).wr (Reg.FAB_PORT_STATUS_LANES 0) 15).wr (Reg.FAB_PORT_STATUS_WIDTH 0) 4, 0, 4, [0, 1], by decide⟩,
   ⟨up.wr (Reg.FAB_PORT_CTRL_EN 0) 1, 0, by decide⟩,
   ⟨up.wr (Reg.FAB_PORT_STATUS_TRAINING 0) 1, (up.wr (Reg.FAB_PORT_STATUS_TRAINING 0) 1).tryRetrain 0, 0, by decide⟩,
   ⟨up, 1, by decide⟩,
   ⟨up.wr (Reg.FAB_PORT_CTRL_EN 0) 1, 0, by decide⟩⟩

theorem meets_PacketTablesAndSchedulerComplete :
    (∃ (s : State) (r v : Nat), s.pfOpen 7 = true ∧ r < 4096 ∧ (bits v 6 1 = 0 ∨ valOutsideMask (s.rd (Reg.PKT_RULE_VAL_MASK
      r)) = false)) ∧
    (∃ (s : State) (r i v : Nat), s.pfOpen 7 = true ∧ r < 4096 ∧ 4 ≤ i ∧ i < 16 ∧ s.on (Reg.PKT_RULE_VALID r) = false) ∧
    (∃ (s : State) (p v : Nat), s.pfOpen 7 = true ∧ p < 64) ∧
    (∃ (s : State) (p v : Nat), s.pfOpen 7 = true ∧ p < 64 ∧ (s.partState p = .free ∨ s.partState p = .ready) ∧ bits v 0 12 +
      bits v 12 13 ≤ s.rd (Reg.PART_QCOUNT_QP p)) ∧
    (∃ (s u : State) (f : HeldFrag) (r : List HeldFrag), s.fab.heldFrags = f :: r ∧ u = s.atTime (f.heldAt + s.rd
      Reg.PKT_FRAG_CFG_HOLD * 4000)) ∧
    (∃ (s u : State) (i : Nat) (e : FragEntry), s.fab.frags[i]? = some e ∧ u = s.atTime (e.lastUse + s.rd
      Reg.PKT_FRAG_CFG_LIFE * 4000)) ∧
    (∃ (s : State) (l i : Nat), l < 32 ∧ s.portExists l = true ∧ s.on (Reg.FAB_PORT_STATUS_LINK_UP l) = true ∧ ((s.ageClasses
      l).port l).waiting.findIdx? (fun f => f.cls == 8) = some i) ∧
    (∃ (s : State) (l : Nat), s.pfOpen 8 = true ∧ l < 32 ∧ s.on (Reg.SCH_ALM_CMD_ARMED l) = false ∧ s.count < s.rd
      (Reg.SCH_ALM_TAKE_BELL l) ∧ (s.on (Reg.SCH_ALM_CMD_SH_EN l) && !almOk (s.shadowAlm l)) = false) ∧
    (∃ (s : State) (l : Nat), s.pfOpen 8 = true ∧ l < 32) ∧
    (∃ (s : State) (l : Nat), l < 32 ∧ s.on (Reg.SCH_ALM_CMD_ARMED l) = true ∧ s.rd (Reg.SCH_ALM_TAKE_BELL l) ≤ s.count) ∧
    (∃ (s : State) (l : Nat), l < 32 ∧ s.on (Reg.SCH_ALM_STATUS_EN l) = true) :=
  ⟨⟨up, 0, 64, by decide⟩,
   ⟨up, 0, 4, 64, by decide⟩,
   ⟨up, 0, 15, by decide⟩,
   ⟨part1 .ready, 1, 0, by decide⟩,
   ⟨{ up with fab := { up.fab with heldFrags := [aFrag] } }, State.atTime { up with fab := { up.fab with heldFrags := [aFrag] } } (aFrag.heldAt + State.rd { up with fab := { up.fab with heldFrags := [aFrag] } } Reg.PKT_FRAG_CFG_HOLD * 4000), aFrag, [], by exact ⟨rfl, rfl⟩⟩,
   ⟨fragmented, fragmented.atTime (anEntry.lastUse + fragmented.rd Reg.PKT_FRAG_CFG_LIFE * 4000), 0, anEntry, by exact ⟨rfl, rfl⟩⟩,
   ⟨(up.wr (Reg.FAB_PORT_STATUS_LINK_UP 0) 1).setPort 0 { PortSt.reset with waiting := [{ cls := 8, part := 0, len := 64, body := .raw 0 0 0 0 [] }] }, 0, 0, by decide⟩,
   ⟨up.wr (Reg.SCH_ALM_TAKE_BELL 0) 5, 0, by decide⟩,
   ⟨up, 0, by decide⟩,
   ⟨up.wr (Reg.SCH_ALM_CMD_ARMED 0) 1, 0, by decide⟩,
   ⟨up.wr (Reg.SCH_ALM_STATUS_EN 0) 1, 0, by decide⟩⟩

theorem meets_BlockCommandsComplete :
    (∃ (s : State) (v x : Nat), s.pfOpen 9 = true ∧ v < 1024 ∧ s.on (Reg.BLK_VOL_EN v) = false) ∧
    (∃ (s : State) (v x : Nat), s.pfOpen 9 = true ∧ v < 1024 ∧ s.on (Reg.BLK_VOL_EN v) = true ∧ bit x 6 = false ∧ s.blk.cmds
      = []) ∧
    (∃ (s : State) (w l : List Nat) (t : State) (p q : Nat), s.blkPick = some (t, p, q) ∧ (w ≠ [] ∨ 2 ^ 63 ≤ (t.queue p 3
      q).base) ∧ ((t.queue p 3 q).base < 2 ^ 63 ∨ t.readableVia p true (t.queue p 3 q).entryAt 64 = true)) ∧
    (∃ (s : State) (l : List Nat) (t : State) (p q : Nat), s.blkPick = some (t, p, q) ∧ (t.queue p 3 q).base < 2 ^ 63) ∧
    (∃ (s : State) (id : Nat) (d : BlkCmd) (bs : List Nat), s.blkCmd id = some d ∧ bscOp d.words = 1 ∧ s.backing d ≠ 2 ∧
      d.stage = .dispatched ∧ d.landed = false ∧ d.kill = none ∧ s.volKeyless d = false) ∧
    (∃ (s : State) (id : Nat) (d : BlkCmd) (a n : Nat), s.blkCmd id = some d ∧ bscOp d.words = 2 ∧ d.stage = .fetched ∧
      d.missing = 0 ∧ s.volKeyless d = false ∧ bscPieces d.words d.list (s.bscBytes d.words) = [(a, n)] ∧ 2 ^ 63 ≤ a ∧
      s.readableVia d.part true (a % 2 ^ 48) n = true) ∧
    (∃ (s : State) (id : Nat) (d : BlkCmd), s.blkCmd id = some d ∧ bscOp d.words = 3 ∧ d.stage = .fetched ∧ s.volKeyless d =
      false) ∧
    (∃ (s : State) (id : Nat) (d : BlkCmd), s.blkCmd id = some d ∧ bscOp d.words = 4 ∧ d.stage = .fetched ∧ s.volKeyless d =
      false) ∧
    (∃ (s : State) (id : Nat) (d : BlkCmd) (bs : List Nat), s.blkCmd id = some d ∧ bscOp d.words = 5 ∧ d.stage = .dispatched
      ∧ d.landed = false ∧ d.kill = none) ∧
    (∃ (s : State) (m : Nat) (d : BlkCmd), m < 2 ∧ s.dispatchNext m = some d ∧ s.volKeyless d = false ∧ (bscOp d.words ≠ 2 ∨
      s.stagingBad d = false) ∧ s.on (Reg.MED_STATUS_READY m) = true ∧ s.ssdLoad m < s.rd (Reg.MED_CFG_DEPTH m)) ∧
    (∃ (s : State) (d : BlkCmd), s.dispatchNext 2 = some d ∧ s.volKeyless d = false ∧ (bscOp d.words ≠ 2 ∨ s.stagingBad d =
      false)) ∧
    (∃ (s : State) (id : Nat) (d : BlkCmd) (n : Nat), s.blkCmd id = some d ∧ d.stage = .dispatched ∧ s.backing d ≠ 2 ∧ bscOp
      d.words ≠ 6 ∧ (n ≠ 0 ∨ (bscOp d.words = 3 ∧ s.blkHeld d.id = false))) ∧
    (∃ (s : State) (p q i : Nat) (d : BlkCmd), p < 64 ∧ q < 2048 ∧ (s.blk.cmds.find? (fun d => d.part == p && d.queue == q &&
      d.idx == i && !d.urgent && decide (d.stage = .listing ∨ d.stage = .fetched ∨ d.stage = .ready)) = some d)) :=
  ⟨⟨up, 1023, 7, by decide⟩,
   ⟨up.wr (Reg.BLK_VOL_EN 3) 1, 3, 0, by decide⟩,
   ⟨(up.setQueue 0 3 0 { Queue.reset with en := true, pi := 1, base := 2 ^ 63, slice := 0x7FF }), [], [], (up.setQueue 0 3 0 { Queue.reset with en := true, pi := 1, base := 2 ^ 63, slice := 0x7FF }), 0, 0, by decide⟩,
   ⟨hostRing 3 0, [], hostRing 3 0, 0, 0, by decide⟩,
   ⟨withBlk { aBsc 1 with stage := .dispatched }, 0, { aBsc 1 with stage := .dispatched }, [], by decide⟩,
   ⟨withBlk { aBsc 2 with words := bscWrite }, 0, { aBsc 2 with words := bscWrite }, 2 ^ 63, 512, by decide +kernel⟩,
   ⟨withBlk { aBsc 3 with stage := .fetched }, 0, { aBsc 3 with stage := .fetched }, by decide⟩,
   ⟨withBlk { aBsc 4 with stage := .fetched }, 0, { aBsc 4 with stage := .fetched }, by decide⟩,
   ⟨withBlk { aBsc 5 with stage := .dispatched }, 0, { aBsc 5 with stage := .dispatched }, [], by decide⟩,
   ⟨(withBlk { aBsc 3 with stage := .ready }).wr (Reg.MED_STATUS_READY 0) 1, 0, { aBsc 3 with stage := .ready }, by decide⟩,
   ⟨(withBlk { aBsc 1 with stage := .ready }).wr (Reg.BLK_VOL_BACKING 0) 2, { aBsc 1 with stage := .ready }, by decide⟩,
   ⟨withBlk { aBsc 3 with stage := .dispatched }, 0, { aBsc 3 with stage := .dispatched }, 0, by decide⟩,
   ⟨withBlk (aBsc 3), 0, 0, 0, aBsc 3, by decide⟩⟩

theorem meets_MediaEventsComplete :
    (∃ (s : State) (m t : Nat), m < 2 ∧ s.ssdDue m = some t) ∧
    (∃ (s : State) (m : Nat), m < 2) ∧
    (∃ (s : State) (m : Nat), s.pfOpen 10 = true ∧ m < 2) ∧
    (∃ (s : State) (m : Nat) (l : List Namespace) (w sp : Nat), m < 2 ∧ s.restricted = false ∧ s.on (Reg.MED_CTRL_EN m) =
      true) ∧
    (∃ (s : State) (id : Nat) (d : BlkCmd), s.blkCmd id = some d ∧ bscOp d.words = 6 ∧ d.stage = .fetched ∧ s.on
      (Reg.MED_STATUS_READY (s.backing d)) = true ∧ bscFld d.words 10 16 4 ≠ 15 ∧ Tab.get none s.blk.tests (s.backing d) =
      none ∧ s.volKeyless d = false) ∧
    (∃ (s : State) (m r : Nat), m < 2 ∧ (Tab.get none s.blk.tests m).isSome = true) ∧
    (∃ (s : State) (m : Nat) (x : SsdTest), m < 2 ∧ Tab.get none s.settleTests.blk.tests m = some x ∧ (s.testLimit m x ≤
      x.time ∨ s.ssdLoad m = 0)) :=
  ⟨⟨withBlk { aBsc 3 with stage := .dispatched }, 0, 4000000000 * State.reset.rd (Reg.MED_CFG_CMD_TIMEOUT 0), by decide⟩,
   ⟨up, 1, by decide⟩,
   ⟨up, 1, by decide⟩,
   ⟨up.wr (Reg.MED_CTRL_EN 1) 1, 1, [], 4, 5, by decide⟩,
   ⟨(withBlk (aBsc 6)).wr (Reg.MED_STATUS_READY 0) 1, 0, aBsc 6, by decide⟩,
   ⟨onTest, 0, 1, by decide⟩,
   ⟨onTest, 0, { cmd := 0, extended := false, time := 0, since := 0 }, by decide⟩⟩

theorem meets_CipherRequestsComplete :
    (∃ (s : State) (p q : Nat) (w : List Nat), p < 64 ∧ q < 2048 ∧ s.mayFetch p 3 (2048 + q) = true ∧ (w ≠ [] ∨ 2 ^ 63 ≤
      (s.queue p 3 (2048 + q)).base) ∧ ((s.queue p 3 (2048 + q)).base < 2 ^ 63 ∨ s.readableVia p true (s.queue p 3 (2048 +
      q)).entryAt 64 = true)) ∧
    (∃ (s : State) (p q : Nat), p < 64 ∧ q < 2048 ∧ s.mayFetch p 3 (2048 + q) = true ∧ (s.queue p 3 (2048 + q)).base < 2 ^
      63) ∧
    (∃ (s : State) (r : CipherReq), s.ciNext = some r ∧
      ({ s with ciph := { s.ciph with lastPart := r.part, lastQueue := Tab.set 65536 s.ciph.lastQueue r.part r.queue } } :
      State).ciStartBad r = none) ∧
    (∃ (s : State) (id core : Nat) (r : CipherReq), s.ciReq id = some r ∧ r.stage = .started core ∧ ciOp r.words = 1 ∧
      r.missing = 0 ∧ (ciInputs r.words).any (fun i => decide (2 ^ 63 ≤ i.2.1) && !s.readableVia r.part true (i.2.1 % 2 ^ 48)
      i.2.2) = false ∧ ciBegins r.words = true) ∧
    (∃ (s : State) (id core : Nat) (r : CipherReq) (c : GcmCtx), s.ciReq id = some r ∧ r.stage = .started core ∧ ciOp r.words
      = 2 ∧ r.missing = 0 ∧ (ciInputs r.words).any (fun i => decide (2 ^ 63 ≤ i.2.1) && !s.readableVia r.part true (i.2.1 % 2
      ^ 48) i.2.2) = false ∧ s.gcmBegin r true ((s.ciInput r 3).take 12) (r.key.elim [] (·.mat)) = .ok c) ∧
    (∃ (s : State) (id core : Nat) (r : CipherReq), s.ciReq id = some r ∧ r.stage = .started core ∧ ciOp r.words = 3 ∧
      r.missing = 0 ∧ (ciInputs r.words).any (fun i => decide (2 ^ 63 ≤ i.2.1) && !s.readableVia r.part true (i.2.1 % 2 ^ 48)
      i.2.2) = false) ∧
    (∃ (s : State) (id core : Nat) (r : CipherReq), s.ciReq id = some r ∧ r.stage = .started core ∧ ciOp r.words = 4 ∧
      r.missing = 0 ∧ (ciInputs r.words).any (fun i => decide (2 ^ 63 ≤ i.2.1) && !s.readableVia r.part true (i.2.1 % 2 ^ 48)
      i.2.2) = false) ∧
    (∃ (s : State) (id core : Nat) (r : CipherReq), s.ciReq id = some r ∧ r.stage = .started core ∧ ciOp r.words = 5 ∧
      r.missing = 0 ∧ (ciInputs r.words).any (fun i => decide (2 ^ 63 ≤ i.2.1) && !s.readableVia r.part true (i.2.1 % 2 ^ 48)
      i.2.2) = false ∧ ciBegins r.words = true ∧ ciEnds r.words = true) ∧
    (∃ (s : State) (id core : Nat) (r : CipherReq), s.ciReq id = some r ∧ r.stage = .started core ∧ ciOp r.words = 6 ∧
      r.missing = 0 ∧ (ciInputs r.words).any (fun i => decide (2 ^ 63 ≤ i.2.1) && !s.readableVia r.part true (i.2.1 % 2 ^ 48)
      i.2.2) = false ∧ (s.keySlot r.part (ciSlot r.words)).full = false) ∧
    (∃ (s : State) (id core : Nat) (r : CipherReq), s.ciReq id = some r ∧ r.stage = .started core ∧ ciOp r.words = 7 ∧
      r.missing = 0 ∧ (ciInputs r.words).any (fun i => decide (2 ^ 63 ≤ i.2.1) && !s.readableVia r.part true (i.2.1 % 2 ^ 48)
      i.2.2) = false ∧ (s.keySlot r.part (ciSlot r.words)).full = false) ∧
    (∃ (s : State) (id core : Nat) (r : CipherReq), s.ciReq id = some r ∧ r.stage = .started core ∧ ciOp r.words = 8 ∧
      r.missing = 0 ∧ (ciInputs r.words).any (fun i => decide (2 ^ 63 ≤ i.2.1) && !s.readableVia r.part true (i.2.1 % 2 ^ 48)
      i.2.2) = false) ∧
    (∃ (s : State) (id core : Nat) (r : CipherReq) (pk : List Nat) (x : KeySlot), s.ciReq id = some r ∧ r.stage = .started
      core ∧ ciOp r.words = 9 ∧ r.missing = 0 ∧ (ciInputs r.words).any (fun i => decide (2 ^ 63 ≤ i.2.1) && !s.readableVia
      r.part true (i.2.1 % 2 ^ 48) i.2.2) = false ∧ s.partKey r.part = some pk ∧ r.key = some x) ∧
    (∃ (s : State) (id core : Nat) (r : CipherReq) (pk : List Nat), s.ciReq id = some r ∧ r.stage = .started core ∧ ciOp
      r.words = 10 ∧ r.missing = 0 ∧ (ciInputs r.words).any (fun i => decide (2 ^ 63 ≤ i.2.1) && !s.readableVia r.part true
      (i.2.1 % 2 ^ 48) i.2.2) = false ∧ s.partKey r.part = some pk ∧ (s.keySlot r.part (ciSlot r.words)).full = false) ∧
    (∃ (s : State) (id st : Nat) (r : CipherReq), s.ciReq id = some r ∧ r.stage = .ended st ∧ s.keyInUse r = false ∧
      s.memSt.held.any (fun h => decide (h.who = .cipher r.id)) = false) :=
  ⟨⟨up.setQueue 0 3 2048 { Queue.reset with en := true, pi := 1, base := 2 ^ 63, slice := 0x7FF }, 0, 0, [], by decide⟩,
   ⟨hostRing 3 2048, 0, 0, by decide⟩,
   ⟨withReq (aReq 5 .queued), aReq 5 .queued, by decide⟩,
   ⟨withReq { aReq 1 (.started 0) with words := [1] }, 0, 0, { aReq 1 (.started 0) with words := [1] }, by decide⟩,
   ⟨withReq (aReq 2 (.started 0)), 0, 0, aReq 2 (.started 0), gcmOf (withReq (aReq 2 (.started 0))) (aReq 2 (.started 0)), by exact ⟨by decide, by decide, by decide, by decide, by decide, rfl⟩⟩,
   ⟨withReq (aReq 3 (.started 0)), 0, 0, aReq 3 (.started 0), by decide⟩,
   ⟨withReq (aReq 4 (.started 0)), 0, 0, aReq 4 (.started 0), by decide⟩,
   ⟨withReq (aReq 5 (.started 0)), 0, 0, aReq 5 (.started 0), by decide⟩,
   ⟨withReq (aReq 6 (.started 0)), 0, 0, aReq 6 (.started 0), by decide⟩,
   ⟨withReq (aReq 7 (.started 0)), 0, 0, aReq 7 (.started 0), by decide⟩,
   ⟨withReq (aReq 8 (.started 0)), 0, 0, aReq 8 (.started 0), by decide⟩,
   ⟨(let t := withReq { aReq 9 (.started 0) with key := some KeySlot.reset }; { t with ciph := { t.ciph with partKeys := [(0, some [])] } }), 0, 0, { aReq 9 (.started 0) with key := some KeySlot.reset }, [], KeySlot.reset, by decide⟩,
   ⟨(let t := withReq (aReq 10 (.started 0)); { t with ciph := { t.ciph with partKeys := [(0, some [])] } }), 0, 0, aReq 10 (.started 0), [], by decide⟩,
   ⟨withReq (aReq 5 (.ended 0)), 0, 0, aReq 5 (.ended 0), by decide⟩⟩

theorem meets_CipherRegistersAndAlarmsComplete :
    (∃ (s : State) (v : Nat), s.rd Reg.CIPH_EPOCH_EPOCH < v % 2 ^ 24) ∧
    (∃ (s : State) (p v : Nat), s.pfOpen 11 = true ∧ 0 < p ∧ p < 64 ∧ (s.partState p = .ready ∨ s.partState p = .frozen)) ∧
    (∃ (s : State) (v : Nat), s.pfOpen 11 = true ∧ s.keysHeld = 0) :=
  ⟨⟨up, 5, by decide⟩,
   ⟨part1 .ready, 1, 0, by decide⟩,
   ⟨up, 3, by decide⟩⟩

theorem meets_FaultCommandsComplete :
    (∃ (s : State) (p e u a : Nat) (c : Nat), p < 64 ∧ e < 17 ∧ u < 32 ∧ (c = 0x40 ∨ c = 0x50)) ∧
    (∃ (s : State) (p e u a : Nat), p < 64 ∧ e < 17 ∧ u < 32) ∧
    (∃ (s : State) (p e u a : Nat) (c : Nat), p < 64 ∧ e < 17 ∧ u < 32 ∧ (c = 0xA ∨ c = 0x20)) ∧
    (∃ (s : State) (p e u a : Nat) (c : Nat), p < 64 ∧ e < 17 ∧ u < 32 ∧ 1 ≤ c ∧ c ≤ 7) ∧
    (∃ (s : State) (p e u a : Nat), p < 64 ∧ e < 17 ∧ u < 32 ∧ e ≠ 16) ∧
    (∃ (s : State) (p e u a : Nat), p < 64 ∧ e < 17 ∧ u < 32) ∧
    (∃ (s : State) (p e u a c i : Nat), p < 64 ∧ e < 17 ∧ u < 32 ∧ (c = 3 ∨ c = 5) ∧ s.slotOf e = some u ∧ (s.showCheck c
      e).slotOf e = some u ∧ (s.showCheck c e).flt.waitSpare = [] ∧ (s.showCheck c e).triesOf e (((s.showCheck c e).replayOf
      e).elim ((s.showCheck c e).rd Reg.BELL_COMMIT_NEXT) (·.b0)) < (s.showCheck c e).rd Reg.FLT_CFG_REPLAY_LIMIT ∧
      ((s.showCheck c e).freeSpares (e / 8)).head? = some i) ∧
    (∃ (s : State) (p e u a : Nat) (c : Nat), p < 64 ∧ e < 17 ∧ u < 32 ∧ (c = 9 ∨ c = 0x30 ∨ c = 0x31)) ∧
    (∃ (s : State) (p e u a : Nat) (c q : Nat), p < 64 ∧ e < 17 ∧ u < 32 ∧ (c = 0x10 ∨ c = 0x14) ∧ s.byOwner a = (2, q)) ∧
    (∃ (s : State) (p e u a : Nat) (c q : Nat), p < 64 ∧ e < 17 ∧ u < 32 ∧ (c = 0x10 ∨ c = 0x14) ∧ s.byOwner a = (3, q)) ∧
    (∃ (s : State) (p e u a : Nat) (c q : Nat), p < 64 ∧ e < 17 ∧ u < 32 ∧ (c = 0x10 ∨ c = 0x14) ∧ s.byOwner a = (0, q)) ∧
    (∃ (s : State) (p e u a : Nat) (q : Nat) (t : State), p < 64 ∧ e < 17 ∧ u < 32 ∧ e = 16 ∧ t = s.endHubWriters a ∧
      t.byOwner a = (2, q)) ∧
    (∃ (s : State) (p e u a : Nat) (c : Nat), p < 64 ∧ e < 17 ∧ u < 32 ∧ (c = 0x12 ∨ c = 0x13 ∨ c = 0x21 ∨ c = 0x22 ∨ c =
      0x41)) ∧
    (∃ (s : State) (p e u a : Nat) (q : Nat) (t : State), p < 64 ∧ e < 17 ∧ u < 32 ∧ e = 16 ∧ t = s.endHubWriters a ∧
      t.byOwner a = (0, q)) ∧
    (∃ (s : State) (p e u a : Nat) (q : Nat) (t : State), p < 64 ∧ e < 17 ∧ u < 32 ∧ e = 16 ∧ t = s.endHubWriters a ∧
      t.byOwner a = (3, q)) ∧
    (∃ (s : State) (p e u a : Nat) (c : Nat), p < 64 ∧ e < 17 ∧ u < 32 ∧ faultClass c = none) ∧
    (∃ (s : State) (n ps : Nat) (r : Replay), n < 16 ∧ s.replayOf n = some r ∧ s.slotOf n = some ps ∧ r.begun = false ∧
      (s.copy ps).queue.any (fun d => decide (d.src = .replay)) = false) ∧
    (∃ (s : State) (v : Nat), s.pfOpen 13 = true ∧ s.on Reg.FLT_SWITCH_ARMED = false ∧ bit v 4 = true ∧ (s.wr
      Reg.FLT_SWITCH_ENGINE (bits v 0 4)).count < (s.wr Reg.FLT_SWITCH_ENGINE (bits v 0 4)).rd Reg.FLT_SWITCH_BELL_BELL) ∧
    (∃ (s : State), s.on Reg.FLT_SWITCH_ARMED = true ∧ s.rd Reg.FLT_SWITCH_BELL_BELL ≤ s.count) :=
  ⟨⟨up, 0, 0, 0, 0, 0x40, by decide⟩,
   ⟨up, 0, 16, 0, 0, by decide⟩,
   ⟨up, 0, 0, 0, 0, 0xA, by decide⟩,
   ⟨up, 1, 0, 0, 0, 3, by decide⟩,
   ⟨up, 1, 0, 0, 0, by decide⟩,
   ⟨up, 0, 0, 0, 0, by decide⟩,
   ⟨up, 1, 0, 0, 0, 3, 8, by decide⟩,
   ⟨up, 1, 0, 0, 0, 9, by decide⟩,
   ⟨sliceable, 1, 0, 0, 0, 0x10, 1, by decide⟩,
   ⟨up, 1, 0, 0, 0, 0x10, 0, by decide⟩,
   ⟨(up.wr (Reg.CKP_GRAN_EN 0) 1).wr (Reg.CKP_GRAN_LEN 0) 3, 1, 0, 0, 0, 0x10, 0, by decide⟩,
   ⟨sliceable, 1, 16, 0, 0, 1, (sliceable).endHubWriters 0, by decide⟩,
   ⟨up, 1, 0, 0, 0, 0x12, by decide⟩,
   ⟨(up.wr (Reg.CKP_GRAN_EN 0) 1).wr (Reg.CKP_GRAN_LEN 0) 3, 1, 16, 0, 0, 0, ((up.wr (Reg.CKP_GRAN_EN 0) 1).wr (Reg.CKP_GRAN_LEN 0) 3).endHubWriters 0, by decide⟩,
   ⟨up, 1, 16, 0, 0, 0, (up).endHubWriters 0, by decide⟩,
   ⟨up, 1, 0, 0, 0, 0, by decide⟩,
   ⟨replaying, 0, 0, aReplay, by decide⟩,
   ⟨up.wr Reg.FLT_SWITCH_BELL_BELL 9, 16, by decide⟩,
   ⟨up.wr Reg.FLT_SWITCH_ARMED 1, by decide⟩⟩

theorem meets_CheckpointCommandsComplete :
    (∃ (s : State) (k : Nat), s.pfOpen 12 = true ∧ k < 4 ∧ s.on (Reg.CKP_CTRL_EN k) = true) ∧
    (∃ (s : State) (k : Nat), s.pfOpen 12 = true ∧ k < 4 ∧ s.on (Reg.CKP_CTRL_EN k) = false) ∧
    (∃ (s t : State) (k hold step : Nat), k < 4 ∧ s.ckpDue k = some (t, step) ∧ (t.ckp k).run = none ∧ t.partState (t.rd
      (Reg.CKP_CTRL_PART k)) = .run ∧ t.workBehind (t.rd (Reg.CKP_CTRL_PART k)) = false ∧ bit hold (t.ckpNext k) = false ∧
      (if t.ckpNext k = 0 then (t.ckp k).step1 else (t.ckp k).step0) = none ∧ (t.ckpRegions k).any (fun r => (t.ckpBase k
      r).isNone) = false) ∧
    (∃ (s : State) (k : Nat), s.pfOpen 12 = true ∧ k < 4 ∧ (s.ckp k).run.isSome = true) ∧
    (∃ (s : State) (k : Nat) (es : List (List Nat)) (im : List ImageRead), s.pfOpen 12 = true ∧ k < 4 ∧ s.partState (s.rd
      (Reg.CKP_CTRL_PART k)) = .frozen ∧ s.mayRequest 0 = true ∧ es ≠ [] ∧ s.restoreBad k es (im.map ImageRead.bytes) =
      false) ∧
    (∃ (s : State) (k : Nat) (im : List ImageRead), s.pfOpen 12 = true ∧ k < 4 ∧ s.partState (s.rd (Reg.CKP_CTRL_PART k)) =
      .frozen ∧ s.rd (Reg.CKP_RESTORE_N_COUNT k) ≠ 0 ∧ (s.ckp k).list = [] ∧ (s.ckp k).listMissing = 0 ∧ (s.ckp k).run =
      none) ∧
    (∃ (s w : State) (g i : Nat), w =
      { s with flt := { s.flt with granGens := Tab.set 0 s.flt.granGens g (Tab.get 0 s.flt.granGens g + 1) } } ∧ g < 4 ∧ i <
      2 ∧ s.on (Reg.CKP_GRAN_EN g) = true ∧ s.rd (Reg.CKP_GRAN_DRAIN_EVERY g) ≠ 0 ∧ Tab.get false s.flt.granLost (g * 2 + i)
      = false ∧ (Tab.get 0 s.flt.granGens g + 1) % s.rd (Reg.CKP_GRAN_DRAIN_EVERY g) = 0 ∧ bit (s.rd (Reg.CKP_GRAN_HOLD g)) i
      = false) ∧
    (∃ (s : State) (g i : Nat) (ok : Bool), g < 4 ∧ i < 2 ∧ s.on (Reg.CKP_GRAN_EN g) = true ∧ bit (s.rd (Reg.CKP_GRAN_HOLD
      g)) i = true) ∧
    (∃ (s : State) (n ps : Nat) (r : Replay), n < 16 ∧ s.replayOf n = some r ∧ s.slotOf n = some ps ∧ r.begun = false ∧
      (s.copy ps).queue.any (fun d => decide (d.src = .replay)) = false) ∧
    (∃ (s : State) (v : Nat), s.pfOpen 13 = true ∧ s.on Reg.FLT_SWITCH_ARMED = false ∧ bit v 4 = true ∧ (s.wr
      Reg.FLT_SWITCH_ENGINE (bits v 0 4)).count < (s.wr Reg.FLT_SWITCH_ENGINE (bits v 0 4)).rd Reg.FLT_SWITCH_BELL_BELL) ∧
    (∃ (s : State), s.on Reg.FLT_SWITCH_ARMED = true ∧ s.rd Reg.FLT_SWITCH_BELL_BELL ≤ s.count) ∧
    (∃ (s u : State) (n ps i : Nat), s.on Reg.FLT_SWITCH_ARMED = true ∧ s.rd Reg.FLT_SWITCH_BELL_BELL ≤ s.count ∧ n = s.rd
      Reg.FLT_SWITCH_ENGINE ∧ s.slotOf n = some ps ∧ u = s.wr Reg.FLT_SWITCH_ARMED 0 ∧ u.slotOf n = some ps ∧ u.flt.waitSpare
      = [] ∧ (u.freeSpares (n / 8)).head? = some i) :=
  ⟨⟨up.wr (Reg.CKP_CTRL_EN 3) 1, 3, by decide⟩,
   ⟨up, 3, by decide⟩,
   ⟨triggered, triggered.setCkp 0 { triggered.ckp 0 with due := none, seen := some 0 }, 0, 0, 7, by decide⟩,
   ⟨up.setCkp 0 { Ckp.reset with run := some aRun }, 0, by decide⟩,
   ⟨(let t := ((((part1 .frozen).wr (Reg.CKP_CTRL_PART 0) 1).wr (Reg.CKP_RESTORE_N_COUNT 0) 1).wr Reg.PCI_STATUS_LINK_UP 1); { t with pci := { t.pci with bme := [(0, true)] } }), 0, [[1, 1]], [.failed true], by decide⟩,
   ⟨((part1 .frozen).wr (Reg.CKP_CTRL_PART 0) 1).wr (Reg.CKP_RESTORE_N_COUNT 0) 1, 0, [], by decide⟩,
   ⟨(up.wr (Reg.CKP_GRAN_EN 0) 1).wr (Reg.CKP_GRAN_DRAIN_EVERY 0) 1, (let t := (up.wr (Reg.CKP_GRAN_EN 0) 1).wr (Reg.CKP_GRAN_DRAIN_EVERY 0) 1; { t with flt := { t.flt with granGens := Tab.set 0 t.flt.granGens 0 (Tab.get 0 t.flt.granGens 0 + 1) } }), 0, 1, by exact ⟨rfl, by decide⟩⟩,
   ⟨(up.wr (Reg.CKP_GRAN_EN 0) 1).wr (Reg.CKP_GRAN_HOLD 0) 1, 0, 0, true, by decide⟩,
   ⟨replaying, 0, 0, aReplay, by decide⟩,
   ⟨up.wr Reg.FLT_SWITCH_BELL_BELL 9, 16, by decide⟩,
   ⟨up.wr Reg.FLT_SWITCH_ARMED 1, by decide⟩,
   ⟨up.wr Reg.FLT_SWITCH_ARMED 1, (up.wr Reg.FLT_SWITCH_ARMED 1).wr Reg.FLT_SWITCH_ARMED 0, 0, 0, 8, by exact ⟨by decide, by decide, by decide, by decide, rfl, by decide, by decide, by decide⟩⟩⟩

theorem meets_PowerStateCommandsComplete :
    (∃ (s : State) (b : Nat), b < 144 ∧ s.on Reg.PWR_IDLE_EN = true ∧ s.rd Reg.PWR_IDLE_BELLS ≤ Tab.get 0 s.pwr.idle b ∧
      s.blockBusy b = false ∧ Tab.get false s.pwr.touched b = false) ∧
    (∃ (s : State), s.pfOpen 1 = true ∧ s.pwr.off = false ∧ s.on Reg.PWR_REQ_BUSY = false ∧ s.rd Reg.MGT_STATUS_STATE ≠ 4 ∧
      s.fwRuns = true ∧ s.maySleep = true) ∧
    (∃ (s : State), s.pwr.off = false ∧ s.on Reg.PWR_REQ_BUSY = false ∧ s.rd Reg.MGT_STATUS_STATE ≠ 4 ∧ s.fwRuns = true ∧
      s.maySleep = true ∧ s.tenantsFree = true ∧ s.dsUnits.length ≤ 64 ∧ (List.range 26).any (fun p => bit (s.rd
      Reg.PWR_DS_MEM_PD) p && s.devLost p) = false) ∧
    (∃ (s : State), s.pfOpen 1 = true ∧ s.pwr.off = false ∧ s.on Reg.PWR_REQ_BUSY = false ∧ s.rd Reg.MGT_STATUS_STATE ≠ 4) ∧
    (∃ (s : State), s.pwr.transit = some (.entering 2)) ∧
    (∃ (s : State), s.pwr.transit = some (.entering 3)) ∧
    (∃ (s : State), s.pwr.transit = some (.entering 4)) ∧
    (∃ (s : State) (l low : Nat), l < 32 ∧ s.on Reg.PWR_WAKE_EN_PCIE = true ∧ (s.inState 3 = true ∨ s.inState 2 = true)) ∧
    (∃ (s : State) (l low : Nat), l < 32 ∧ s.on Reg.PWR_WAKE_EN_FAB_FRAME = true ∧ s.inState 2 = true) ∧
    (∃ (s : State) (l low : Nat), l < 32 ∧ bit (s.rd Reg.PWR_WAKE_EN_FAB_SIG) (l / 4) = true ∧ s.inState 3 = true) ∧
    (∃ (s : State) (l low : Nat), l < 32 ∧ s.rd Reg.HUB_FILTER_WAKE ≤ low ∧ (s.inState 3 = true ∨ s.inState 2 = true) ∧
      s.pwr.off = false) ∧
    (∃ (s : State) (l a b : Nat), l < 32 ∧ s.on Reg.PWR_WAKE_EN_VESPER = true ∧ s.vesperOk l a = true ∧ s.vesperOk l b = true
      ∧ (s.inState 2 = true ∨ s.inState 3 = true)) ∧
    (∃ (s u t : State) (k : Nat) (d : Bool), s.pwr.transit = some (.returning d k) ∧ 0 < k ∧ (k < 3 ∨ d = true) ∧ u = (if 3 ≤
      k ∧ d = true then s.wr Reg.PWR_STATUS_FLOOR (if s.pwr.floors = [] then 0 else 1) else s) ∧ t = u.wr Reg.PWR_STATE_RDY
      (Nat.lor (u.rd Reg.PWR_STATE_RDY) (2 ^ k))) :=
  ⟨⟨{ (up.wr Reg.PWR_IDLE_EN 1) with pwr := { up.pwr with idle := [(3, 70000)] } }, 3, by decide⟩,
   ⟨live, by decide⟩,
   ⟨live, by decide +kernel⟩,
   ⟨live, by decide⟩,
   ⟨live.setTransit (some (.entering 2)), by decide⟩,
   ⟨live.setTransit (some (.entering 3)), by decide⟩,
   ⟨live.setTransit (some (.entering 4)), by decide⟩,
   ⟨(live.wr Reg.PWR_WAKE_EN_PCIE 1).wr Reg.PWR_STATE_STATE 2, 0, 0, by decide⟩,
   ⟨(live.wr Reg.PWR_WAKE_EN_FAB_FRAME 1).wr Reg.PWR_STATE_STATE 2, 0, 0, by decide⟩,
   ⟨(live.wr Reg.PWR_WAKE_EN_FAB_SIG 1).wr Reg.PWR_STATE_STATE 3, 3, 0, by decide⟩,
   ⟨live.wr Reg.PWR_STATE_STATE 2, 0, 100000, by decide⟩,
   ⟨(live.wr Reg.PWR_WAKE_EN_VESPER 1).wr Reg.PWR_STATE_STATE 2, 0, vesperSeq, vesperSeq, by decide +kernel⟩,
   ⟨live.setTransit (some (.returning false 1)), live.setTransit (some (.returning false 1)), (live.setTransit (some (.returning false 1))).wr Reg.PWR_STATE_RDY (Nat.lor ((live.setTransit (some (.returning false 1))).rd Reg.PWR_STATE_RDY) (2 ^ 1)), 1, false, by exact ⟨rfl, by decide, by decide, rfl, rfl⟩⟩⟩

theorem meets_ProtectionCommandsComplete :
    (∃ (s t : State), t = s.setClock (s.pwr.wanted.getD s.pwr.clock)) ∧
    (∃ (s : State) (v : Nat), s.pfOpen 1 = true ∧ (bit v 0 = false ∨ (s.rd Reg.BELL_CTRL_SOURCE = 0 ∧ s.on
      Reg.BELL_CTRL_REPORT_EN = false))) ∧
    (∃ (s : State) (mv a : Nat), mv < 65536 ∧ a < 65536 ∧ 0 < s.rd Reg.PWR_CAP_TAU ∧ ((mv * a / 100000 :: s.pwr.samples).take
      (s.rd Reg.PWR_CAP_TAU * 100)).sum / max ((mv * a / 100000 :: s.pwr.samples).take (s.rd Reg.PWR_CAP_TAU * 100)).length 1
      ≤ s.rd Reg.PWR_CAP_WATTS) ∧
    (∃ (s : State) (low : Nat), s.rd Reg.HUB_FILTER_ALERT ≤ low) ∧
    (∃ (s : State) (i : Nat), i < 4 ∧ i ≠ 1 ∧ (i ≠ 3 ∨ s.on Reg.PWR_STATUS_THERM = false)) ∧
    (∃ (s u : State), u = s.when (s.on Reg.PWR_STATUS_ALERT_REG && s.on Reg.PWR_CTRL_ALERT_OUT_EN) (fun t => t.emit (.pin
      "PWR_ALERT_N" true))) ∧
    (∃ (s : State) (i v : Nat), i < 66) ∧
    (∃ (s : State), s.throttled = true ∧ s.rd Reg.PWR_CTRL_THERM_STEP ≤ s.pwr.hot ∧ 16 < s.rd Reg.PWR_STATUS_THERM_PACE) ∧
    (∃ (s : State), s.throttled = false ∧ 4 * s.rd Reg.PWR_CTRL_THERM_STEP ≤ s.pwr.cool ∧ s.rd Reg.PWR_STATUS_THERM_PACE <
      72) ∧
    (∃ (s : State) (i : Nat), i < 64) ∧
    (∃ (s u : State) (b : Nat), s.on Reg.PWR_CTRL_PREBIAS_EN = true ∧ s.rd Reg.PWR_HEAVY_MIN ≤ s.heavySum b - (if b = 0 then
      0 else s.heavySum (b - 1)) ∧ b = s.count + 1 ∧ u = s.atTime s.prebiasAt) ∧
    (∃ (s u : State) (x : Nat × Nat), s.pwr.prebias = some x ∧ x.1 ≤ s.count ∧ u = (if x.1 = s.count then s.atTime
      (s.bell.edgeAt + s.rd Reg.PWR_HEAVY_HOLD * 500) else s)) ∧
    (∃ (s : State) (d : Nat), d < 3 ∧ s.on Reg.PWR_CTRL_DROOP_EN = true ∧ Tab.get 0 s.pwr.stretch d = 0) ∧
    (∃ (s : State) (d lost : Nat), d < 3 ∧ Tab.get 0 s.pwr.stretch d ≠ 0 ∧ 16 ≤ lost) :=
  ⟨⟨up, up.setClock (up.pwr.wanted.getD up.pwr.clock), by rfl⟩,
   ⟨up, 0, by decide⟩,
   ⟨up.wr Reg.PWR_CAP_TAU 1, 0, 0, by decide⟩,
   ⟨up, 100000, by decide⟩,
   ⟨up, 2, by decide⟩,
   ⟨up, up, by rfl⟩,
   ⟨up, 3, 50, by decide⟩,
   ⟨{ (((up.wr (Reg.PWR_TEMP_TEMP 0) 0x1FF).wr (Reg.PWR_TEMP_VALID 0) 1).wr Reg.PWR_STATUS_THERM_PACE 72) with pwr := { up.pwr with hot := 1000 } }, by decide⟩,
   ⟨{ up.wr Reg.PWR_STATUS_THERM_PACE 20 with pwr := { up.pwr with cool := 1000 } }, by decide⟩,
   ⟨up, 7, by decide⟩,
   ⟨(up.wr Reg.PWR_CTRL_PREBIAS_EN 1).wr Reg.PWR_HEAVY_MIN 0, ((up.wr Reg.PWR_CTRL_PREBIAS_EN 1).wr Reg.PWR_HEAVY_MIN 0).atTime ((up.wr Reg.PWR_CTRL_PREBIAS_EN 1).wr Reg.PWR_HEAVY_MIN 0).prebiasAt, 1, by exact ⟨by decide, by decide, by decide, rfl⟩⟩,
   ⟨{ (up.wr Reg.BELL_COUNT_COUNT 5) with pwr := { up.pwr with prebias := some (1, 2) } }, { (up.wr Reg.BELL_COUNT_COUNT 5) with pwr := { up.pwr with prebias := some (1, 2) } }, (1, 2), by exact ⟨rfl, by decide, rfl⟩⟩,
   ⟨up.wr Reg.PWR_CTRL_DROOP_EN 1, 2, by decide⟩,
   ⟨{ up with pwr := { up.pwr with stretch := [(1, 5)] } }, 1, 16, by decide⟩⟩

theorem meets_StartsAndReeveCommandsComplete :
    (∃ (s t : State) (f : Found), t = (if (s.linkDown.wipe false).pwr.aux = true then s.linkDown.wipe false else
      ({ s.linkDown.wipe false with pwr := { (s.linkDown.wipe false).pwr with aux := true, auxOut := true } } : State).emit
      (.pin "AUX_OUT" true))) ∧
    (∃ (s : State) (f : Found), s.pwr.transit = some (.returning true 4)) ∧
    (∃ (s u : State) (f : Found), s.rv.retry = true ∧ u = s.atTime (s.rv.retryFrom + 400000000)) ∧
    (∃ (s : State) (f : Found), s.pfOpen 2 = true ∧ s.pwr.off = false) ∧
    (∃ (s u : State), s.reeveUp = true ∧ u = s.atTime (s.rv.wdogAt + s.rd Reg.MGT_WDOG_TIMEOUT * 4000000)) ∧
    (∃ (s : State), s.rd Reg.MGT_STATUS_STATE = 2 ∧ s.pwr.off = false) ∧
    (∃ (s : State), s.rd Reg.MGT_STATUS_STATE = 4) ∧
    (∃ (s : State), (∀ b ∈ s.evlog.waiting, 2 ≤ logSeverity b)) ∧
    (∃ (s : State), s.fwRuns = true) ∧
    (∃ (s : State) (i n : Nat) (x : Firmware), i < 32 ∧ s.rv.fw = some x ∧ s.fwRuns = true ∧ s.iocOffline i = false ∧ bit
      (s.rd Reg.HUB_IOC_RUN_RUN) i = false) :=
  ⟨⟨up, (if (up.linkDown.wipe false).pwr.aux = true then up.linkDown.wipe false else ({ up.linkDown.wipe false with pwr := { (up.linkDown.wipe false).pwr with aux := true, auxOut := true } } : State).emit (.pin "AUX_OUT" true)), noneFound, by rfl⟩,
   ⟨up.setTransit (some (.returning true 4)), noneFound, by decide⟩,
   ⟨retrying, retrying.atTime (retrying.rv.retryFrom + 400000000), noneFound, by exact ⟨by decide, rfl⟩⟩,
   ⟨up, noneFound, by decide⟩,
   ⟨live, live.atTime (live.rv.wdogAt + live.rd Reg.MGT_WDOG_TIMEOUT * 4000000), by exact ⟨by decide, rfl⟩⟩,
   ⟨live, by decide⟩,
   ⟨up.wr Reg.MGT_STATUS_STATE 4, by decide⟩,
   ⟨up, by decide⟩,
   ⟨live, by decide⟩,
   ⟨withFirmware, 3, 0, aFirmware, by decide⟩⟩

theorem meets_ManagementCommandsComplete :
    (∃ (s : State), s.pfOpen 2 = true ∧ s.pwr.off = false ∧ s.rd Reg.MGT_STATUS_STATE ≠ 4 ∧ s.rd Reg.MGT_STATUS_STATE ≠ 5) ∧
    (∃ (s : State), s.pfOpen 2 = true ∧ s.pwr.off = false ∧ s.rd Reg.MGT_STATUS_STATE ≠ 4 ∧ s.rd Reg.MGT_STATUS_STATE ≠ 5) ∧
    (∃ (s : State), s.pfOpen 2 = true ∧ s.pwr.off = false ∧ s.rd Reg.MGT_STATUS_STATE = 2 ∧ s.on Reg.MGT_FW_STATUS_ARMED =
      false ∧ s.rv.handlers = []) ∧
    (∃ (s : State), s.pfOpen 2 = true ∧ s.pwr.off = false ∧ s.rd Reg.MGT_STATUS_STATE = 1 ∧ s.on Reg.MGT_FW_STATUS_ARMED =
      false ∧ s.rv.handlers = []) ∧
    (∃ (s : State) (x : Firmware), s.pfOpen 2 = true ∧ s.pwr.off = false ∧ s.rd Reg.MGT_STATUS_STATE = 2 ∧ s.on
      Reg.MGT_FW_STATUS_ARMED = false ∧ s.rv.handlers = [] ∧ s.rv.staged = some x ∧ s.count < s.rd Reg.MGT_FW_BELL_BELL) ∧
    (∃ (s : State), s.pfOpen 2 = true ∧ s.pwr.off = false ∧ s.rd Reg.MGT_STATUS_STATE = 2 ∧ s.on Reg.MGT_FW_STATUS_ARMED =
      true ∧ s.count < s.rd Reg.MGT_FW_BELL_BELL) ∧
    (∃ (s : State) (x : Firmware), s.pfOpen 2 = true ∧ s.pwr.off = false ∧ s.rd Reg.MGT_STATUS_STATE = 2 ∧ s.rv.fw = some x) ∧
    (∃ (s : State) (x : Firmware), s.rv.handlers = [] ∧ s.rd Reg.MGT_STATUS_STATE = 2 ∧ s.on Reg.MGT_FW_STATUS_ARMED = true ∧
      s.rd Reg.MGT_FW_BELL_BELL ≤ s.count ∧ s.on Reg.PWR_STATUS_EMERG = false ∧ 2 ≤ s.rd Reg.PWR_STATUS_QUIET ∧ s.partCmds =
      [] ∧ s.pwr.transit = none ∧ s.rv.staged = some x) ∧
    (∃ (s : State) (ready : Bool), s.rv.handlers = [] ∧ s.rd Reg.MGT_STATUS_STATE = 2 ∧ s.on Reg.MGT_FW_STATUS_ARMED = true ∧
      s.rd Reg.MGT_FW_BELL_BELL ≤ s.count ∧ (s.on Reg.PWR_STATUS_EMERG = true ∨ s.rd Reg.PWR_STATUS_QUIET < 2)) ∧
    (∃ (s : State) (x : Firmware) (ready : Bool), s.fwRuns = true ∧ s.rv.fw = some x ∧ s.rv.handlers ≠ []) ∧
    (∃ (s : State), s.pfOpen 2 = true ∧ s.pwr.off = false ∧ s.fwRuns = true ∧ s.rd Reg.TST_STATUS_MODE = 0 ∧ s.rd
      Reg.MGT_XMSS_NEXT < 65536) ∧
    (∃ (s : State) (n v : Nat), s.pfOpen 2 = true ∧ n < 4 ∧ bit v 6 = false) ∧
    (∃ (s : State) (n v : Nat), s.pfOpen 2 = true ∧ n < 4 ∧ bit v 6 = true ∧ (s.rd (Reg.MGT_OPEN_BASE n)) % 65536 = 0 ∧ (s.rd
      (Reg.MGT_OPEN_LEN n)) % 65536 = 0 ∧ (s.rd (Reg.MGT_OPEN_LEN n)) ≠ 0 ∧ s.openable (bits v 0 6) (s.rd (Reg.MGT_OPEN_BASE
      n)) (s.rd (Reg.MGT_OPEN_LEN n)) = true) ∧
    (∃ (s : State) (n v : Nat), s.pfOpen 2 = true ∧ n < 4 ∧ bit v 6 = true ∧ ((s.rd (Reg.MGT_OPEN_BASE n)) % 65536 ≠ 0 ∨
      (s.rd (Reg.MGT_OPEN_LEN n)) % 65536 ≠ 0 ∨ (s.rd (Reg.MGT_OPEN_LEN n)) = 0 ∨ s.openable (bits v 0 6) (s.rd
      (Reg.MGT_OPEN_BASE n)) (s.rd (Reg.MGT_OPEN_LEN n)) = false)) ∧
    (∃ (s : State), s.pfOpen 18 = true ∧ s.pwr.off = false ∧ s.rd Reg.MGT_STATUS_STATE ≠ 4 ∧ s.rd Reg.MGT_STATUS_STATE ≠ 5) ∧
    (∃ (s : State), s.pfOpen 18 = true ∧ s.pwr.off = false ∧ s.rd Reg.MGT_STATUS_STATE ≠ 4 ∧ s.rd Reg.MGT_STATUS_STATE ≠ 5) :=
  ⟨⟨live, by decide⟩,
   ⟨live, by decide⟩,
   ⟨live, by decide⟩,
   ⟨up.wr Reg.MGT_STATUS_STATE 1, by decide⟩,
   ⟨({ live with rv := { live.rv with staged := some aFirmware } } : State).wr Reg.MGT_FW_BELL_BELL 9, aFirmware, by decide⟩,
   ⟨(live.wr Reg.MGT_FW_STATUS_ARMED 1).wr Reg.MGT_FW_BELL_BELL 9, by decide⟩,
   ⟨withFirmware, aFirmware, by decide⟩,
   ⟨(({ live with rv := { live.rv with staged := some aFirmware } } : State).wr Reg.MGT_FW_STATUS_ARMED 1).wr Reg.PWR_STATUS_QUIET 2, aFirmware, by decide⟩,
   ⟨(({ live with rv := { live.rv with staged := some aFirmware } } : State).wr Reg.MGT_FW_STATUS_ARMED 1).wr Reg.PWR_STATUS_QUIET 0, true, by decide⟩,
   ⟨({ withFirmware with rv := { withFirmware.rv with handlers := [2] } } : State), aFirmware, true, by decide⟩,
   ⟨live, by decide⟩,
   ⟨up, 1, 5, by decide⟩,
   ⟨openableRange, 1, 65, by decide⟩,
   ⟨up, 1, 65, by decide⟩,
   ⟨live, by decide⟩,
   ⟨live, by decide⟩⟩

theorem meets_SidebandCommandsComplete :
    (∃ (s : State) (d : Nat), d < 128 ∧ s.sidebandUp = true ∧ s.rv.dynAddr = none) ∧
    (∃ (s : State) (d : Nat), d < 128 ∧ s.rv.staticAddr < 128 ∧ s.sidebandUp = true ∧ s.rv.dynAddr = none) ∧
    (∃ (s : State) (e : Nat), 0 < e ∧ e < 255 ∧ s.sidebandUp = true) ∧
    (∃ (s : State), s.sidebandUp = true) ∧
    (∃ (s : State) (i : Nat), i < 128 ∧ s.sidebandUp = true) ∧
    (∃ (s : State) (i a n : Nat), i < 128 ∧ s.sidebandUp = true ∧ s.fwRuns = true ∧ 0 < n ∧ n ≤ 8 ∧ a + n ≤ 67) ∧
    (∃ (s : State) (i e : Nat), i < 128 ∧ s.sidebandUp = true ∧ e < s.rd Reg.MGT_LOG_INDEX ∧ s.rd Reg.MGT_LOG_INDEX ≤ e +
      8192) ∧
    (∃ (s : State) (i c : Nat), i < 128 ∧ s.sidebandUp = true ∧ c < 2) ∧
    (∃ (s : State) (i x : Nat), i < 128 ∧ s.sidebandUp = true ∧ s.fwRuns = true ∧ s.rd Reg.TST_STATUS_MODE = 0 ∧ s.rd
      Reg.MGT_XMSS_NEXT < 65536) ∧
    (∃ (s : State) (i x c : Nat), i < 128 ∧ s.sidebandUp = true ∧ s.fwRuns = true ∧ s.rd Reg.TST_STATUS_MODE = 0 ∧ 0 < c ∧ c
      < 62) ∧
    (∃ (s : State) (i : Nat) (f : Found), i < 128 ∧ s.sidebandUp = true ∧ s.on Reg.PWR_REQ_BUSY = false) ∧
    (∃ (s : State) (i a n : Nat) (b : List Nat), i < 128 ∧ s.sidebandUp = true ∧ 0 < n ∧ n ≤ 48 ∧ n % 4 = 0 ∧ a % 4 = 0 ∧
      s.dportOpen a n = true ∧ b.length = n) ∧
    (∃ (s : State) (i a n : Nat), i < 128 ∧ s.sidebandUp = true ∧ 0 < n ∧ n ≤ 48 ∧ n % 4 = 0 ∧ a % 4 = 0 ∧ s.dportOpen a n =
      true) ∧
    (∃ (s : State) (i k : Nat), i < 128 ∧ k < 2 ∧ s.sidebandUp = true) :=
  ⟨⟨{ up with rv := { up.rv with dynAddr := none } }, 5, by decide⟩,
   ⟨{ up with rv := { up.rv with dynAddr := none } }, 5, by decide⟩,
   ⟨live, 9, by decide⟩,
   ⟨live, by decide⟩,
   ⟨live, 9, by decide⟩,
   ⟨live, 9, 60, 7, by decide⟩,
   ⟨live.wr Reg.MGT_LOG_INDEX 5, 9, 3, by decide⟩,
   ⟨live, 9, 1, by decide⟩,
   ⟨live, 9, 7, by decide⟩,
   ⟨live, 9, 7, 61, by decide⟩,
   ⟨live, 9, noneFound, by decide⟩,
   ⟨(((up.wr (Reg.MGT_OPEN_LEN 0) 65536).wr (Reg.MGT_OPEN_EN 0) 1)), 9, 64, 8, [1, 2, 3, 4, 5, 6, 7, 8], by decide⟩,
   ⟨(((up.wr (Reg.MGT_OPEN_LEN 0) 65536).wr (Reg.MGT_OPEN_EN 0) 1)), 9, 64, 8, by decide⟩,
   ⟨live, 9, 1, by decide⟩⟩

theorem meets_TestCommandsComplete :
    (∃ (s t : State), s.pfOpen 18 = true ∧ t = ((((s.each 4 (fun k t => (t.wr (Reg.TST_DELAY_EN k) 0).wr (Reg.TST_BP_EN k)
      0)).wr Reg.TST_JITTER_EN 0).wr Reg.TST_LATE_ARMED 0).wr Reg.TST_INJECT_ARMED 0)) ∧
    (∃ (s t : State) (l v : Nat), s.pfOpen 18 = true ∧ l < 32 ∧ s.loopOpen l (bits v 0 3) = true ∧ s.on (Reg.TST_LOOP_ACTIVE
      l) = false ∧ t = s.loopSet .pf l v ∧ t.on (Reg.TST_LOOP_ACTIVE l) = false) ∧
    (∃ (s : State) (i : Nat), s.pfOpen 18 = true ∧ i < 55 ∧ s.on (Reg.TST_LOOP_ACTIVE i) = true) ∧
    (∃ (s u : State) (i : Nat), i < 55 ∧ s.on (Reg.TST_LOOP_EN i) = true ∧ s.rd (Reg.TST_LOOP_LIMIT i) ≠ 0 ∧ u = s.atTime
      (Tab.get 0 s.tst.loopAt i + s.rd (Reg.TST_LOOP_LIMIT i) * 4000000)) ∧
    (∃ (s t : State) (v w : Nat), s.pfOpen 18 = true ∧ w = setBits v 32 1 1 ∧ s.testMode ≠ 0 ∧ bits w 4 8 ≠ 0 ∧ bit w 32 =
      true ∧ t = ((s.wr Reg.TST_LATE_ENGINE (bits w 0 4)).wr Reg.TST_LATE_BACKLOG (bits w 12 20)).wr Reg.TST_LATE_COUNT (bits
      w 4 8) ∧ t.on Reg.TST_LATE_ARMED = false ∧ t.rd Reg.TST_LATE_COUNT ≠ 0 ∧ t.count < t.rd Reg.TST_LATE_BELL_BELL) ∧
    (∃ (s t : State) (v w : Nat), s.pfOpen 18 = true ∧ w = setBits (setBits v 18 1 1) 19 1 0 ∧ s.testMode ≠ 0 ∧ s.on
      Reg.TST_INJECT_ARMED = false ∧ bit w 19 = false ∧ bit w 18 = true ∧ t = (((s.wr Reg.TST_INJECT_CODE (bits w 0 8)).wr
      Reg.TST_INJECT_UNIT (bits w 8 5)).wr Reg.TST_INJECT_ENGINE (bits w 13 4)).wr Reg.TST_INJECT_DIE (bits w 17 1) ∧ t.on
      Reg.TST_INJECT_ARMED = false) ∧
    (∃ (s : State) (b : Nat) (o : Nat × Nat), s.pfOpen 18 = true ∧ s.testMode ≠ 0 ∧ s.tst.inject = some (b, o) ∧ s.count < b) ∧
    (∃ (s : State) (p e u b : Nat) (o : Nat × Nat), p < 64 ∧ e < 17 ∧ u < 32 ∧ s.tst.inject = some (b, o) ∧ b ≤ s.count ∧
      s.rd Reg.TST_INJECT_CODE = 1) ∧
    (∃ (s t : State) (v w : Nat), s.pfOpen 18 = true ∧ w = setBits v 8 1 1 ∧ bit w 8 = true ∧ t = ((s.wr Reg.TST_BIST_CODE
      4).wr Reg.TST_BIST_UNIT (bits w 3 4)).wr Reg.TST_BIST_DIE (bits w 7 1) ∧ t.tst.bist = none ∧ bits w 0 3 = 4 ∧
      t.bistOpen 4 (bits w 3 4) (bits w 7 1) = true) ∧
    (∃ (s : State) (ok : Bool) (u d : Nat), s.tst.bist = some (4, u, d)) :=
  ⟨⟨up, ((((up.each 4 (fun k t => (t.wr (Reg.TST_DELAY_EN k) 0).wr (Reg.TST_BP_EN k) 0)).wr Reg.TST_JITTER_EN 0).wr Reg.TST_LATE_ARMED 0).wr Reg.TST_INJECT_ARMED 0), by exact ⟨by decide, rfl⟩⟩,
   ⟨up, up.loopSet .pf 0 9, 0, 9, by exact ⟨by decide, by decide, by decide, by decide, rfl, by decide⟩⟩,
   ⟨up.wr (Reg.TST_LOOP_ACTIVE 3) 1, 3, by decide⟩,
   ⟨looping, looping.atTime (looping.rd (Reg.TST_LOOP_LIMIT 3) * 4000000), 3, by exact ⟨by decide, by decide, by decide, rfl⟩⟩,
   ⟨(up.wr Reg.TST_STATUS_MODE 1).wr Reg.TST_LATE_BELL_BELL 9, (((((up.wr Reg.TST_STATUS_MODE 1).wr Reg.TST_LATE_BELL_BELL 9).wr Reg.TST_LATE_ENGINE 0).wr Reg.TST_LATE_BACKLOG 0).wr Reg.TST_LATE_COUNT 1), 16, setBits 16 32 1 1, by decide⟩,
   ⟨up.wr Reg.TST_STATUS_MODE 1, ((((up.wr Reg.TST_STATUS_MODE 1).wr Reg.TST_INJECT_CODE (bits (setBits (setBits 5 18 1 1) 19 1 0) 0 8)).wr Reg.TST_INJECT_UNIT (bits (setBits (setBits 5 18 1 1) 19 1 0) 8 5)).wr Reg.TST_INJECT_ENGINE (bits (setBits (setBits 5 18 1 1) 19 1 0) 13 4)).wr Reg.TST_INJECT_DIE (bits (setBits (setBits 5 18 1 1) 19 1 0) 17 1), 5, setBits (setBits 5 18 1 1) 19 1 0, by decide⟩,
   ⟨{ up.wr Reg.TST_STATUS_MODE 1 with tst := { up.tst with inject := some (9, (0, 0)) } }, 9, (0, 0), by decide⟩,
   ⟨fires, 0, 0, 0, 0, (0, 0), by decide⟩,
   ⟨up, ((up.wr Reg.TST_BIST_CODE 4).wr Reg.TST_BIST_UNIT 0).wr Reg.TST_BIST_DIE 0, 4, setBits 4 8 1 1, by decide⟩,
   ⟨{ up with tst := { up.tst with bist := some (4, 0, 0) } }, true, 0, 0, by decide⟩⟩

theorem meets_RegisterWritesComplete :
    (∃ (s : State) (src : Src) (a v : Nat) (r : RegRow) (ra : Nat) (idx : List Nat), ((src = .pf ∧ s.pfOpen (accessBlock (a))
      = true ∧ a < 2 ^ 26) ∨ src = .reeve ∨ (∃ c, src = .core c)) ∧ findReg a = some (r, ra, idx) ∧ (a - ra) % 4 = 0 ∧ r.bits
      ≠ 64) ∧
    (∃ (s : State) (src : Src) (a v : Nat) (r : RegRow) (idx : List Nat), ((src = .pf ∧ s.pfOpen (accessBlock (a)) = true ∧ a
      < 2 ^ 26) ∨ src = .reeve ∨ (∃ c, src = .core c)) ∧ findReg a = some (r, a, idx) ∧ r.bits = 64) ∧
    (∃ (s : State) (src : Src) (a v : Nat) (r : RegRow) (idx : List Nat), ((src = .pf ∧ s.pfOpen (accessBlock (a + 4)) = true
      ∧ a + 4 < 2 ^ 26) ∨ src = .reeve ∨ (∃ c, src = .core c)) ∧ findReg (a + 4) = some (r, a, idx) ∧ r.bits = 64) ∧
    (∃ (s : State) (src : Src) (a v : Nat) (r : RegRow) (ra : Nat) (idx : List Nat), ((src = .pf ∧ s.pfOpen (accessBlock (a))
      = true ∧ a < 2 ^ 26) ∨ src = .reeve ∨ (∃ c, src = .core c)) ∧ findReg a = some (r, ra, idx) ∧ (a - ra) % 8 = 0 ∧ 64 ≤
      r.bits ∧ 8 * (a - ra) + 64 ≤ r.bits) ∧
    (∃ (s : State) (src : Src) (a n v : Nat), ((src = .pf ∧ s.pfOpen (accessBlock (a)) = true ∧ a < 2 ^ 26) ∨ src = .reeve ∨
      (∃ c, src = .core c)) ∧ findReg a = none) ∧
    (∃ (s : State) (src : Src) (a n v : Nat) (r : RegRow) (ra : Nat) (idx : List Nat), ((src = .pf ∧ s.pfOpen (accessBlock
      (a)) = true ∧ a < 2 ^ 26) ∨ src = .reeve ∨ (∃ c, src = .core c)) ∧ findReg a = some (r, ra, idx) ∧ (n = 1 ∨ (n = 2 ∧ a
      % 4 ≠ 3))) ∧
    (∃ (s : State) (a n v : Nat) (r : RegRow) (ra : Nat) (idx : List Nat), s.pfOpen (accessBlock a) = true ∧ a < 2 ^ 26 ∧
      findReg a = some (r, ra, idx) ∧ narrowWrite a n = false ∧ r.carries (a - ra) n = false) ∧
    (∃ (s : State) (a n v : Nat), s.pfOpen (accessBlock a) = false) ∧
    (∃ (s : State) (o v : Nat), s.pfOpen (accessBlock (2 ^ 26 + o)) = true ∧ o % 4 = 0) ∧
    (∃ (s : State) (n o v : Nat), s.pwr.off = false ∧ s.funcPresent n = true ∧ o < 2 ^ 26 ∧ o % 4 = 0) ∧
    (∃ (s : State) (n o v : Nat), s.pwr.off = false ∧ s.funcPresent n = true ∧ o < 2 ^ 26 ∧ 0x10000 ≤ o ∧ o % 8 = 0) ∧
    (∃ (s : State) (n o v : Nat), s.pwr.off = false ∧ s.funcPresent n = true ∧ o % 4 = 0) ∧
    (∃ (s : State) (n a k v : Nat), s.funcPresent n = false) ∧
    (∃ (s : State) (v : Nat), s.pfOpen 1 = true ∧ 0 < bits v 0 8) ∧
    (∃ (s : State) (v : Nat), s.pfOpen 1 = true ∧ bits v 0 8 = 0) :=
  ⟨⟨up, .pf, Reg.PWR_IDLE, 5, rowAt Reg.PWR_IDLE, Reg.PWR_IDLE, [], by exact ⟨Or.inl (by decide), findReg_rowAt (by decide +kernel), by decide, by decide +kernel⟩⟩,
   ⟨up, .reeve, Reg.BELL_COUNT, 5, rowAt Reg.BELL_COUNT, [], by exact ⟨Or.inr (Or.inl rfl), findReg_rowAt (by decide +kernel), by decide +kernel⟩⟩,
   ⟨up, .core 3, Reg.BELL_COUNT, 5, rowAt (Reg.BELL_COUNT + 4), [], by exact ⟨Or.inr (Or.inr ⟨3, rfl⟩), findReg_rowAt (by decide +kernel), by decide +kernel⟩⟩,
   ⟨up, .pf, Reg.BELL_COUNT, 5, rowAt Reg.BELL_COUNT, Reg.BELL_COUNT, [], by exact ⟨Or.inl (by decide), findReg_rowAt (by decide +kernel), by decide, by decide +kernel, by decide +kernel⟩⟩,
   ⟨up, .pf, 0x3FFFC, 4, 0, by exact ⟨Or.inl (by decide), by decide +kernel⟩⟩,
   ⟨up, .pf, Reg.PWR_IDLE, 1, 5, rowAt Reg.PWR_IDLE, Reg.PWR_IDLE, [], by exact ⟨Or.inl (by decide), findReg_rowAt (by decide +kernel), by decide⟩⟩,
   ⟨up, Reg.PWR_IDLE, 3, 5, rowAt Reg.PWR_IDLE, Reg.PWR_IDLE, [], by exact ⟨by decide, by decide, findReg_rowAt (by decide +kernel), by decide, by decide +kernel⟩⟩,
   ⟨{ up with pci := { up.pci with dstate := .d3hot } }, Reg.PWR_IDLE, 4, 5, by decide⟩,
   ⟨up, 12, 0, by decide⟩,
   ⟨{ up with pci := { up.pci with vfEnable := true, numVfs := 8 } }, 3, 8, 5, by decide⟩,
   ⟨{ up with pci := { up.pci with vfEnable := true, numVfs := 8 } }, 3, 0x10000, 5, by decide⟩,
   ⟨{ up with pci := { up.pci with vfEnable := true, numVfs := 8 } }, 3, 12, 0, by decide⟩,
   ⟨up, 3, 8, 4, 5, by decide⟩,
   ⟨up, 5, by decide⟩,
   ⟨up, 256, by decide⟩⟩

theorem meets_OperandInstructionFrame :
    ∃ (s t : State) (c : Nat) (m : MForm) (i : Instr), i ∈ operandOps c m ∧ s.canIssue c m.len ∧ m.ok = true ∧ s.plainOperand
      c m ∧ exec i s = .next t :=
  ⟨running 0 1, stepped (.lda 0 immForm) (running 0 1), 0, immForm, .lda 0 immForm, by exact ⟨by decide, by decide, by decide, .inl (by decide), rfl⟩⟩

theorem meets_FlagFrame :
    (∃ (s t : State) (c : Nat) (m : MForm) (i : Instr), i ∈ zeroNegativeOps c m ∧ s.canIssue c m.len ∧ m.ok = true ∧
      s.plainOperand c m ∧ exec i s = .next t) ∧
    (∃ (s t : State) (c : Nat) (m : MForm) (i : Instr), i ∈ sumOps c m ∧ s.canIssue c m.len ∧ m.ok = true ∧ s.plainOperand c
      m ∧ exec i s = .next t) ∧
    (∃ (s t : State) (c : Nat) (m : MForm) (i : Instr), i ∈ shiftOps c m ∧ s.canIssue c m.len ∧ m.ok = true ∧ s.plainOperand
      c m ∧ exec i s = .next t) ∧
    (∃ (s t : State) (c : Nat) (m : MForm) (i : Instr), i ∈ countOps c m ∧ s.canIssue c m.len ∧ m.ok = true ∧ s.plainOperand
      c m ∧ exec i s = .next t) ∧
    (∃ (s t : State) (c : Nat) (m : MForm) (i : Instr), i = .adds c m ∧ s.canIssue c m.len ∧ m.ok = true ∧ s.plainOperand c m
      ∧ exec i s = .next t) ∧
    (∃ (s t : State) (c : Nat) (m : MForm) (i : Instr), i = .mul c m ∧ s.canIssue c m.len ∧ m.ok = true ∧ s.plainOperand c m
      ∧ exec i s = .next t) ∧
    (∃ (s t : State) (c : Nat) (m : MForm) (i : Instr) (r : State × BitVec 64 × Nat), i ∈ shiftOps c m ∧ s.canIssue c m.len ∧
      m.ok = true ∧ s.plainOperand c m ∧ exec i s = .next t ∧ s.operand c (s.ctx c) m = .ok r ∧ r.2.1.toNat % 64 = 0) :=
  ⟨⟨running 0 1, stepped (.and 0 immForm) (running 0 1), 0, immForm, .and 0 immForm, by exact ⟨by decide, by decide, by decide, .inl (by decide), rfl⟩⟩,
   ⟨running 0 1, stepped (.cmp 0 immForm) (running 0 1), 0, immForm, .cmp 0 immForm, by exact ⟨by decide, by decide, by decide, .inl (by decide), rfl⟩⟩,
   ⟨running 0 1, stepped (.shl 0 immForm) (running 0 1), 0, immForm, .shl 0 immForm, by exact ⟨by decide, by decide, by decide, .inl (by decide), rfl⟩⟩,
   ⟨running 0 1, stepped (.par 0 immForm) (running 0 1), 0, immForm, .par 0 immForm, by exact ⟨by decide, by decide, by decide, .inl (by decide), rfl⟩⟩,
   ⟨running 0 1, stepped (.adds 0 immForm) (running 0 1), 0, immForm, .adds 0 immForm, by exact ⟨by decide, by decide, by decide, .inl (by decide), rfl⟩⟩,
   ⟨running 0 1, stepped (.mul 0 immForm) (running 0 1), 0, immForm, .mul 0 immForm, by exact ⟨by decide, by decide, by decide, .inl (by decide), rfl⟩⟩,
   ⟨running 0 1, stepped (.shl 0 { immForm with d20 := 64 }) (running 0 1), 0, { immForm with d20 := 64 }, .shl 0 { immForm with d20 := 64 }, operandOf (running 0 1) 0 { immForm with d20 := 64 }, by exact ⟨by decide, by decide, by decide, .inl (by decide), rfl, rfl, by decide⟩⟩⟩

theorem meets_SumFlags :
    ∃ (s : State) (c : Nat) (m : MForm) (r : State × BitVec 64 × Nat), s.canIssue c m.len ∧ m.ok = true ∧ s.operand c (s.ctx
      c) m = .ok r :=
  ⟨running 0 1, 0, immForm, operandOf (running 0 1) 0 immForm, by decide⟩

theorem meets_AccumulatorFunctionFrame :
    ∃ (s t : State) (c : Nat) (arg : BitVec 12) (i : Instr), i ∈ accumulatorOps c arg ∧ s.canIssue c 4 ∧ 1 ≤ arg.toNat ∧
      arg.toNat ≤ 63 ∧ exec i s = .next t :=
  ⟨running 0 1, stepped (.neg 0) (running 0 1), 0, 1, .neg 0, by exact ⟨by decide, by decide, by decide, by decide, rfl⟩⟩

theorem meets_StoreFrame :
    (∃ (s t : State) (c : Nat) (m : MForm) (i : Instr), i ∈ storeOps c m ∧ s.canIssue c m.len ∧ m.ok = true ∧ m.imm = false ∧
      m.sx = false ∧ m.notLong = true ∧ c < 288 ∧ exec i s = .next t) ∧
    (∃ (s t : State) (c : Nat) (m : MForm), s.canIssue c m.len ∧ m.ok = true ∧ m.imm = false ∧ m.sx = false ∧ exec (.sta c m)
      s = .next t) :=
  ⟨⟨running 0 1, stepped (.sta 0 (memForm 64)) (running 0 1), 0, memForm 64, .sta 0 (memForm 64), by exact ⟨by decide, by decide, by decide, by decide, by decide, by decide, by decide, rfl⟩⟩,
   ⟨running 0 1, stepped (.sta 0 (memForm 64)) (running 0 1), 0, memForm 64, by exact ⟨by decide, by decide, by decide, by decide, rfl⟩⟩⟩

theorem meets_StoredBytesReadBack :
    ∃ (s t : State) (c : Nat) (m : MForm), s.canIssue c m.len ∧ m.ok = true ∧ m.imm = false ∧ m.sx = false ∧ exec (.sta c m)
      s = .next t :=
  ⟨running 0 1, stepped (.sta 0 (memForm 64)) (running 0 1), 0, memForm 64, by exact ⟨by decide, by decide, by decide, by decide, rfl⟩⟩

theorem meets_StepRunsTheCommandAtTheFront :
    (∃ (s : State) (c : Instr) (r : List Instr), s.pending = c :: r) ∧
    (∃ (s : State), s.pending = []) :=
  ⟨⟨{ up with pending := [.nop 0] }, .nop 0, [], by decide⟩,
   ⟨up, by decide⟩⟩


theorem meets_QueueIsTheStepsAlone :
    ∃ (i : Instr) (s t : State), s.canonical ∧ exec i s = .next t :=
  ⟨.nop 0, up, stepped (.nop 0) up, by exact ⟨by decide, rfl⟩⟩

theorem meets_CanonicalFormIsKept :
    ∃ (s t : State), s.canonical ∧ step s = .next t :=
  ⟨up, up.tick, by exact ⟨by decide, rfl⟩⟩


theorem meets_ExceptionEntry :
    (∃ (s : State) (c : Nat) (m : MForm) (i : Instr), i ∈ operandOps c m ++ storeOps c m ∧ c < 321 ∧ (s.ctx c).run = .running
      ∧ (s.ctx c).pc.toNat % 4 ≠ 0 ∧ s.ownHandler c) ∧
    (∃ (s : State) (c : Nat) (m : MForm) (i : Instr), i ∈ operandOps c m ++ storeOps c m ∧ s.canIssue c m.len ∧ m.ok = false
      ∧ s.ownHandler c) ∧
    (∃ (s : State) (c : Nat) (m : MForm) (i : Instr) (code a : Nat), i ∈ operandOps c m ∧ s.canIssue c m.len ∧ m.ok = true ∧
      s.ownHandler c ∧ s.operand c (s.ctx c) m = .error (.exc code a)) ∧
    (∃ (s : State) (c : Nat) (m : MForm) (i : Instr), i ∈ storeOps c m ∧ s.canIssue c m.len ∧ m.ok = true ∧ (m.imm = true ∨
      m.sx = true) ∧ s.ownHandler c) ∧
    (∃ (s : State) (c : Nat) (i : Instr), i ∈ absentOps c ∧ s.canIssue c 4 ∧ s.ownHandler c) ∧
    (∃ (s : State) (c : Nat) (i : Instr), i ∈ [.halt c, .eret c] ∧ s.canIssue c 4 ∧ (s.ctx c).level = 0 ∧ s.ownHandler c) :=
  ⟨⟨(running 0 1).setCtx 0 { (running 0 1).ctx 0 with pc := 2 }, 0, immForm, .lda 0 immForm, by decide⟩,
   ⟨running 0 1, 0, { immForm with am := 3 }, .lda 0 { immForm with am := 3 }, by decide⟩,
   ⟨running 0 1, 0, { memForm 64 with d20 := 1 }, .lda 0 { memForm 64 with d20 := 1 }, 3, 1, by decide⟩,
   ⟨running 0 1, 0, immForm, .sta 0 immForm, by decide⟩,
   ⟨running 0 1, 0, .ei 0, by decide⟩,
   ⟨running 288 0, 288, .halt 288, by decide⟩⟩

theorem meets_ReportedAndDoubleExceptions :
    (∃ (s : State) (c : Nat) (m : MForm) (i : Instr), i ∈ operandOps c m ∧ c < 288 ∧ (s.ctx c).run = .running ∧ (s.ctx
      c).pc.toNat % 4 ≠ 0 ∧ (s.ctx c).level = 0 ∧ (s.ctx c).flag 11 = false) ∧
    (∃ (s : State) (c : Nat) (m : MForm) (i : Instr), i ∈ operandOps c m ∧ c < 321 ∧ (s.ctx c).run = .running ∧ (s.ctx
      c).pc.toNat % 4 ≠ 0 ∧ (s.ctx c).flag 11 = true) :=
  ⟨⟨(running 0 0).setCtx 0 { (running 0 0).ctx 0 with pc := 2 }, 0, immForm, .lda 0 immForm, by decide⟩,
   ⟨(running 0 0).setCtx 0 { (running 0 0).ctx 0 with pc := 2, st := 2048 }, 0, immForm, .lda 0 immForm, by decide⟩⟩

theorem meets_RollbackFloorOnlyRises :
    (∃ (s : State) (x : Firmware), s.pfOpen 2 = true ∧ s.pwr.off = false ∧ s.rd Reg.MGT_STATUS_STATE = 2 ∧ s.rv.fw = some x) ∧
    (∃ (s t : State), exec .raiseSvn s = .next t) :=
  ⟨⟨withFirmware, aFirmware, by decide⟩,
   ⟨withFirmware, stepped .raiseSvn withFirmware, by exact rfl⟩⟩

theorem meets_ParityAndReversal :
    (∃ (s : State) (c : Nat) (m : MForm) (r : State × BitVec 64 × Nat), s.canIssue c m.len ∧ m.ok = true ∧ s.operand c (s.ctx
      c) m = .ok r) ∧
    (∃ (s : State) (c : Nat) (m : MForm) (r : State × BitVec 64 × Nat), s.canIssue c m.len ∧ m.ok = true ∧ s.operand c (s.ctx
      c) m = .ok r) :=
  ⟨⟨running 0 1, 0, immForm, operandOf (running 0 1) 0 immForm, by decide⟩,
   ⟨running 0 1, 0, immForm, operandOf (running 0 1) 0 immForm, by decide⟩⟩


theorem meets_EventsLatchAndInterrupt :
    (∃ (s : State) (f en : Fld) (vec : Nat), s.rd f = 1) ∧
    (∃ (s : State) (f en : Fld) (vec : Nat), s.rd f ≠ 1 ∧ bit ((s.wr f 1).rd en) f.lsb = false) ∧
    (∃ (s : State) (f en : Fld) (vec : Nat), s.rd f ≠ 1 ∧ bit ((s.wr f 1).rd en) f.lsb = true ∧ f.addr ≠ Reg.MGT_EVENT) :=
  ⟨⟨up.wr Reg.BELL_EVENT_MISSED_TARGET 1, Reg.BELL_EVENT_MISSED_TARGET, Reg.BELL_EVENT_EN_EN, 1, by decide⟩,
   ⟨up, Reg.BELL_EVENT_MISSED_TARGET, Reg.BELL_EVENT_EN_EN, 1, by decide⟩,
   ⟨up.wr Reg.BELL_EVENT_EN_EN 0xFFFFFFFF, Reg.BELL_EVENT_MISSED_TARGET, Reg.BELL_EVENT_EN_EN, 1, by decide⟩⟩

theorem meets_CompletionCountersWrap :
    ∃ (s : State) (p id p2 id2 : Nat), id < 65536 ∧ id2 < 65536 :=
  ⟨up, 0, 0, 1, 1, by decide⟩

theorem meets_SliceWritesFollowTheirRule :
    (∃ (s : State) (p sl v : Nat), s.pfOpen 4 = true ∧ p < 64 ∧ sl < 1024 ∧ sl < (s.part p).grants.slices ∧ s.on
      (Reg.PART_SLICE_EN p sl) = true ∧ bit v 20 = true) ∧
    (∃ (s : State) (p sl v : Nat), s.pfOpen 4 = true ∧ p < 64 ∧ sl < 1024 ∧ sl < (s.part p).grants.slices ∧ s.on
      (Reg.PART_SLICE_EN p sl) = true ∧ bit v 20 = false ∧ s.queues.any (fun e => e.1 / 4096 / 4 == p && e.2.en && e.2.slice
      == sl) = true) ∧
    (∃ (s : State) (p sl v : Nat), s.pfOpen 4 = true ∧ p < 64 ∧ sl < 1024 ∧ sl < (s.part p).grants.slices ∧ s.on
      (Reg.PART_SLICE_EN p sl) = true ∧ bit v 20 = false ∧ s.queues.any (fun e => e.1 / 4096 / 4 == p && e.2.en && e.2.slice
      == sl) = false) ∧
    (∃ (s : State) (p sl v : Nat), s.pfOpen 4 = true ∧ p < 64 ∧ sl < 1024 ∧ sl < (s.part p).grants.slices ∧ s.on
      (Reg.PART_SLICE_EN p sl) = false ∧ bit v 20 = false) ∧
    (∃ (s : State) (p sl v : Nat), s.pfOpen 4 = true ∧ p < 64 ∧ sl < 1024 ∧ sl < (s.part p).grants.slices ∧ s.on
      (Reg.PART_SLICE_EN p sl) = false ∧ bit v 20 = true ∧ (¬ (∃ a, bits v 32 16 * 0x200000 ≤ a ∧ a < (bits v 32 16 + bits v
      48 16) * 0x200000 ∧ Machine.translate (s.bounds p).segs a = none)) ∧ (¬ (∃ i, i < 1024 ∧ i ≠ sl ∧ s.on
      (Reg.PART_SLICE_EN p i) = true ∧ s.rd (Reg.PART_SLICE_PASID p i) = bits v 0 20))) ∧
    (∃ (s : State) (p sl v : Nat), s.pfOpen 4 = true ∧ p < 64 ∧ sl < 1024 ∧ sl < (s.part p).grants.slices ∧ s.on
      (Reg.PART_SLICE_EN p sl) = false ∧ bit v 20 = true ∧ ((∃ a, bits v 32 16 * 0x200000 ≤ a ∧ a < (bits v 32 16 + bits v 48
      16) * 0x200000 ∧ Machine.translate (s.bounds p).segs a = none) ∨ (∃ i, i < 1024 ∧ i ≠ sl ∧ s.on (Reg.PART_SLICE_EN p i)
      = true ∧ s.rd (Reg.PART_SLICE_PASID p i) = bits v 0 20))) :=
  ⟨⟨sliceable.wr (Reg.PART_SLICE_EN 1 0) 1, 1, 0, 0x100000, by decide +kernel⟩,
   ⟨(sliceable.wr (Reg.PART_SLICE_EN 1 0) 1).setQueue 1 0 0 { Queue.reset with en := true }, 1, 0, 0, by decide +kernel⟩,
   ⟨sliceable.wr (Reg.PART_SLICE_EN 1 0) 1, 1, 0, 0, by decide +kernel⟩,
   ⟨sliceable, 1, 0, 0, by decide +kernel⟩,
   ⟨sliceable, 1, 0, 0x0001000000100005, by exact ⟨rfl, by decide, by decide, by decide +kernel, rfl, by decide, no_hole, by decide +kernel⟩⟩,
   ⟨sliceable, 1, 0, 0x0040000000100005, by exact ⟨rfl, by decide, by decide, by decide +kernel, rfl, by decide, .inl ⟨2 ^ 26, by decide, by decide, by decide +kernel⟩⟩⟩⟩

end Sys2Proof.Tests
end

section
/-! SUPPORT. What every command answers: a next state, the same state where its operands name no unit, and in each case the
queue and the canonical forms of the state it started from. -/

namespace Sys2Proof.Machine

/-- The outcome `o` of a command on `s` is a next state, which is `s` itself when the operands name no unit (`ok` is false), and
which has the queue and the canonical forms of `s`. -/
def Answers (ok : Bool) (s : State) (o : Host.Outcome State Fault Refusal) : Prop :=
  ∃ t, o = .next t ∧ (ok = false → t = s) ∧ ∀ q, Kept q s → Kept q t

/-! ### The four ways in which a command is guarded -/

/-- A command that any operands make answers its state. -/
theorem answers_next {s t : State} (h : ∀ q, Kept q s → Kept q t) : Answers true s (.next t) :=
  ⟨t, rfl, nofun, h⟩

/-- A command of guarded operands answers its state, or the state as it was. -/
theorem answers_guarded {ok : Bool} {s t : State} (h : ∀ q, Kept q s → Kept q t) : Answers ok s (s.guarded ok t) := by
  cases ok with
  | true => exact ⟨t, rfl, nofun, h⟩
  | false => exact ⟨s, rfl, fun _ => rfl, fun _ hs => hs⟩

/-- A command whose operands all name units may be guarded by more than its operands. -/
theorem Answers.anyOperands {ok : Bool} {s : State} {o : Host.Outcome State Fault Refusal} (h : Answers ok s o) :
    Answers true s o := by
  obtain ⟨t, ho, _, hk⟩ := h
  exact ⟨t, ho, nofun, hk⟩

/-- A command of the PF has its effect, or none where its block does not answer. -/
theorem Answers.fromPf {ok : Bool} {s : State} {b : Nat} {o : Host.Outcome State Fault Refusal} (h : Answers ok s o) :
    Answers ok s (s.fromPf b o) := by
  obtain ⟨t, rfl, hs, hk⟩ := h
  refine ⟨if s.pfOpen b then t else s, rfl, fun e => ?_, fun q hq => kept_ite (hk q hq) hq⟩
  rw [hs e, ite_self]

/-- A command through a data port has its effect, or none where the port does not answer. -/
theorem Answers.viaPort {ok : Bool} {s : State} {i : Nat} {o : Host.Outcome State Fault Refusal} (h : Answers ok s o) :
    Answers ok s (s.viaPort i o) := by
  unfold State.viaPort
  split
  · exact h.fromPf
  · split
    · exact ⟨s, rfl, fun _ => rfl, fun _ hq => hq⟩
    · exact h

/-! ### Commands whose effect branches on the state -/

theorem execConfigRequest_answers (f off : Nat) (w : Bool) (v : Nat) (s : State) :
    Answers (decide (f < 65) && decide (off < 4096)) s (execConfigRequest f off w v s) :=
  answers_guarded fun _ h =>
    kept_ite h (kept_ite (State.emit_kept (h0 := h) ..) (kept_ite (State.emit_kept (h0 := h) ..)
      (kept_ite (State.cfgWrite_kept (h0 := State.emit_kept (h0 := h) ..) ..) (State.emit_kept (h0 := h) ..))))

theorem execChainBreak_answers (n : Nat) (s : State) : Answers (decide (n < 16)) s (execChainBreak n s) := by
  refine answers_guarded fun _ h => State.onSlot_kept (h0 := h) (h2 := fun ps => ?_) ..
  dsimp only
  split
  · exact kept_ite (State.breakChain_kept (h0 := State.setCredit_kept (h0 := h) ..) ..) h
  · exact h

theorem execEret_answers (c : Nat) (s : State) : Answers (decide (c < 321)) s (execEret c s) :=
  answers_guarded fun _ h => State.issue_kept (h0 := h) (h5 := fun _ _ g => kepte_ok (State.finish_kept (h0 := g) ..)) ..

theorem execCpdComplete_answers (u p : Nat) (s : State) :
    Answers (decide (u < 22) && decide (p < 64)) s (execCpdComplete u p s) := by
  refine answers_guarded fun _ h => ?_
  have g := State.completeCpd_kept s u p h
  dsimp only
  split
  · exact g
  · refine kept_ite g ?_
    split
    · exact State.ckpEnded_kept (h0 := g) ..
    · exact g

theorem execPatrolScrub_answers (r : MemRead) (s : State) : Answers true s (execPatrolScrub r s) := by
  refine answers_next fun _ h => kept_ite h ?_
  cases r with
  | ok => exact kept_mk h
  | corrected => exact State.corrected_kept (h0 := kept_mk h) ..
  | uncorrectable => exact State.uncorrectable_kept (h0 := kept_mk h) ..

theorem execCommonsScrub_answers (r : MemRead) (s : State) : Answers true s (execCommonsScrub r s) := by
  refine answers_next fun _ h => ?_
  cases r with
  | ok => exact kept_mk h
  | corrected => exact State.memErr_kept (h0 := kept_mk h) ..
  | uncorrectable => exact kept_mk h

theorem execDportApertureRead_answers (i len : Nat) (s : State) : Answers (decide (i < 2)) s (execDportApertureRead i len s) :=
  (answers_guarded fun _ h => kept_ite (State.unsup_kept (h0 := h) ..)
    (State.portReturn_kept (h0 := State.when_kept (h0 := State.dportRead_kept (h0 := h) ..)
      (h2 := fun _ g => State.setAhead_kept (h0 := g) ..) ..) ..)).viaPort

theorem execFreezeSlow_answers (p : Nat) (s : State) : Answers (decide (p < 64)) s (execFreezeSlow p s) := by
  refine answers_guarded fun _ h => ?_
  split
  · exact kept_ite (State.partEvent_kept (h0 := h) ..) h
  · exact h

theorem execQuarantineEnd_answers (tag : Nat) (s : State) : Answers (decide (tag < 16384)) s (execQuarantineEnd tag s) := by
  refine answers_guarded fun _ h => ?_
  split
  · exact kept_ite (State.sendHeldReads_kept (h0 := kept_mk h) ..) h
  · exact h

theorem execFragmentHoldExpiry_answers (s : State) : Answers true s (execFragmentHoldExpiry s) := by
  refine answers_next fun _ h => ?_
  split
  · exact h
  · exact State.fragStatus_kept (h0 := State.expireFrag_kept (h0 := kept_mk (State.atTime_kept (h0 := h) ..)) ..) ..

theorem execFragmentEntryExpiry_answers (i : Nat) (s : State) : Answers true s (execFragmentEntryExpiry i s) := by
  refine answers_next fun _ h => ?_
  split
  · exact h
  · exact State.fragStatus_kept (h0 := kept_mk (State.atTime_kept (h0 := h) ..)) ..

theorem execAckDelayExpiry_answers (c : Nat) (s : State) : Answers (decide (c < 16384)) s (execAckDelayExpiry c s) := by
  refine answers_guarded fun _ h => ?_
  split
  · exact h
  · exact State.when_kept (h0 := h) (h2 := fun _ g => State.sendAck_kept (h0 := State.atTime_kept (h0 := g) ..) ..) ..

theorem execNakHoldEnd_answers (c : Nat) (s : State) : Answers (decide (c < 16384)) s (execNakHoldEnd c s) :=
  answers_guarded fun _ h => kept_ite h
    (kept_foldl (State.setConn_kept (h0 := State.atTime_kept (h0 := h) ..) ..) fun _ _ g => State.resend_kept (h0 := g) ..)

theorem execAllPathsDown_answers (c : Nat) (s : State) : Answers (decide (c < 16384)) s (execAllPathsDown c s) :=
  answers_guarded fun _ h => State.when_kept (h0 := h)
    (h2 := fun _ g => kept_elim g fun _ => State.connError_kept (h0 := State.atTime_kept (h0 := g) ..) ..) ..

theorem execInvalWaitExpiry_answers (p idx : Nat) (s : State) :
    Answers (decide (p < 64) && decide (idx < 262144)) s (execInvalWaitExpiry p idx s) := by
  refine answers_guarded fun _ h => ?_
  split
  · exact h
  · exact State.settleInvals_kept (h0 := State.asyncEvent_kept (h0 := State.when_kept
      (h0 := kept_foldl (State.atTime_kept (h0 := h) ..) fun _ _ g => State.connBreak_kept (h0 := g) ..)
      (h2 := fun _ g => State.dropHeldInto_kept (h0 := g) ..) ..) ..) ..

theorem execFlush_answers (id : Nat) (s : State) : Answers true s (execFlush id s) :=
  answers_next fun _ h => State.onBlk_kept (h0 := h) (h3 := fun _ => kept_ite h
    (kept_ite (State.blkEnd_kept (h0 := h) ..) (kept_ite (State.blkEnd_kept (h0 := h) ..) (State.setBlk_kept (h0 := h) ..)))) ..

theorem execTrim_answers (id : Nat) (s : State) : Answers true s (execTrim id s) :=
  answers_next fun _ h => State.onBlk_kept (h0 := h) (h3 := fun _ => kept_ite h
    (kept_ite (State.blkEnd_kept (h0 := h) ..) (kept_ite (State.setBlk_kept (h0 := h) ..) (State.blkEnd_kept (h0 := h) ..)))) ..

theorem execBackingComplete_answers (id nvme : Nat) (s : State) : Answers true s (execBackingComplete id nvme s) := by
  refine answers_next fun _ h => ?_
  split
  · exact State.completeBsc_kept (h0 := h) ..
  · exact h

theorem execSsdTimeout_answers (m : Nat) (s : State) : Answers (decide (m < 2)) s (execSsdTimeout m s) := by
  refine answers_guarded fun _ h => ?_
  split
  · exact h
  · exact State.medEvent_kept (h0 := State.resetMedia_kept (h0 := State.atTime_kept (h0 := h) ..) ..) ..

theorem execMediaResetDone_answers (m : Nat) (l : List Namespace) (w sp : Nat) (s : State) :
    Answers (decide (m < 2)) s (execMediaResetDone m l w sp s) :=
  answers_guarded fun _ h => kept_ite h
    (State.when_kept (h0 := State.mediaBack_kept (h0 := h) ..) (h2 := fun _ g => State.medEvent_kept (h0 := g) ..) ..)

theorem execSelfTestResult_answers (m r : Nat) (s : State) : Answers (decide (m < 2)) s (execSelfTestResult m r s) :=
  answers_guarded fun _ h => State.when_kept (h0 := h)
    (h2 := fun _ g => State.endTest_kept (h0 := State.wr_kept (h0 := State.settleTests_kept (h0 := g) ..) ..) ..) ..

theorem execCipherComplete_answers (id : Nat) (s : State) : Answers true s (execCipherComplete id s) := by
  refine answers_next fun _ h => ?_
  split
  · exact h
  · split
    · exact kept_ite h (State.completeCipher_kept (h0 := h) ..)
    · exact h

theorem execCipherAlarm_answers (source : Nat) (s : State) : Answers (decide (source < 4)) s (execCipherAlarm source s) := by
  refine answers_guarded fun _ h => ?_
  have unkeyed : Kept _ (if source = 3 then { s with rv := { s.rv with auxKey := false } } else s) := kept_ite (kept_mk h) h
  exact State.fault_kept (h0 := State.ciphEvent_kept (h0 := State.incSat_kept (h0 := State.wr_kept
    (h0 := State.wr_kept (h0 := State.eraseAll_kept (h0 := unkeyed) ..) ..) ..) ..) ..) ..

theorem execPlannedSwitch_answers (s : State) : Answers true s (execPlannedSwitch s) :=
  answers_next fun _ h => kept_ite (State.fault_kept (h0 := State.wr_kept (h0 := h) ..) ..) h

theorem execVesperDetect_answers (port a b : Nat) (s : State) : Answers (decide (port < 32)) s (execVesperDetect port a b s) :=
  answers_guarded fun _ h => kept_ite (State.wr_kept (h0 := State.wakeUp_kept (h0 := h) ..) ..) h

theorem execPrebiasEnd_answers (s : State) : Answers true s (execPrebiasEnd s) := by
  refine answers_next fun _ h => ?_
  split
  · exact h
  · exact kept_ite h (State.emit_kept (h0 := kept_mk (kept_ite (State.atTime_kept (h0 := h) ..) h)) ..)

theorem execDroopDetect_answers (d : Nat) (s : State) : Answers (decide (d < 3)) s (execDroopDetect d s) :=
  answers_guarded fun _ h => kept_ite h (State.pwrEvent_kept (h0 := State.incSat_kept (h0 := kept_mk h) ..) ..)

theorem execRetrainComplete_answers (port : Nat) (ok : Bool) (s : State) :
    Answers (decide (port < 32)) s (execRetrainComplete port ok s) :=
  answers_guarded fun _ h => kept_ite (State.retrained_kept (h0 := State.tryRetrain_kept (h0 := h) ..) ..) h

theorem execSetEndpointId_answers (eid : Nat) (s : State) : Answers (decide (eid < 256)) s (execSetEndpointId eid s) :=
  answers_guarded fun _ h => kept_ite h
    (kept_ite (State.control_kept (h0 := h) ..) (State.control_kept (h0 := kept_mk h) ..))

theorem execPowerOff_answers (inst : Nat) (s : State) : Answers (decide (inst < 128)) s (execPowerOff inst s) :=
  answers_guarded fun _ h => State.serve_kept (h0 := h) (h4 := fun _ g =>
    kept_ite (State.reply_kept (h0 := g) ..) (State.powerReq_kept (h0 := State.reply_kept (h0 := g) ..) ..)) ..

/-! ### Every command -/

/-- A command answers a next state, its own where its operands name no unit, with the queue and the canonical forms kept. -/
theorem exec_answers (i : Instr) (s : State) : Answers i.wf s (exec i s) := by
  cases i with
  -- Register accesses (Machine/RegAll.lean)
  | registerWrite => exact answers_next fun _ h => State.busWrite_kept (h0 := h) ..
  -- The host interface (Machine/Pcie.lean)
  | barAccessRejected | unsupportedRequest =>
      exact answers_guarded fun _ h =>
        State.when_kept (h0 := State.aer_kept (h0 := h) ..) (h2 := fun _ g => State.emit_kept (h0 := g) ..) ..
  | configRequest => exact execConfigRequest_answers ..
  | linkRetrain => exact answers_next fun _ h => State.when_kept (h0 := h) (h2 := fun _ g => State.trained_kept (h0 := g) ..) ..
  | d3hotEntry => exact answers_next fun _ h => State.setDState_kept (h0 := h) ..
  | completionReceived => exact answers_guarded fun _ h => State.completion_kept (h0 := h) ..
  | poisonedWrite => exact answers_guarded fun _ h => State.aer_kept (h0 := h) ..
  | completionTimeout => exact answers_guarded fun _ h => State.readTimeout_kept (h0 := h) ..
  | quarantineEnd => exact execQuarantineEnd_answers ..
  | busMasterEnableChange => exact answers_guarded fun _ h => State.setBme_kept (h0 := h) ..
  | vfFlr => exact answers_guarded fun _ h => State.vfFlr_kept (h0 := h) ..
  | pfReset => exact answers_next fun _ h => State.pfReset_kept (h0 := h) ..
  | linkDown => exact answers_next fun _ h => State.linkDown_kept (h0 := h) ..
  | perstAssert => exact answers_next fun _ h => kept_ite h (State.hostReset_kept (h0 := h) ..)
  | perstDeassert => exact answers_next fun _ h => kept_mk h
  | attach => exact (answers_next fun _ h => State.attach_kept (h0 := h) ..).fromPf
  | detach => exact (answers_next fun _ h => State.detach_kept (h0 := h) ..).fromPf
  | heartbeat => exact (answers_next fun _ h => State.heartbeat_kept (h0 := h) ..).fromPf
  | heartbeatPeriodEnd => exact answers_next fun _ h => State.hbEnd_kept (h0 := h) ..
  | quiesce => exact answers_next fun _ h => State.quiesceNow_kept (h0 := h) ..
  | pciResume => exact (answers_next fun _ h => State.resumeParts_kept (h0 := h) ..).fromPf
  | hostLinkUp =>
      exact answers_next fun _ h =>
        State.when_kept (h0 := h) (h2 := fun _ g => State.trained_kept (h0 := State.wr_kept (h0 := g) ..) ..) ..
  -- The bell (Machine/Bell.lean)
  | bellEdge => exact answers_next fun _ h => State.bellEdge_kept (h0 := h) ..
  | bellEnable | bellDisable => exact (answers_next fun _ h => State.writeBellCtrl_kept (h0 := h) ..).fromPf
  | bellCountLoad => exact (answers_next fun _ h => State.loadCount_kept (h0 := h) ..).fromPf
  | bellFrameReceived => exact answers_next fun _ h => State.frameBell_kept (h0 := State.atTime_kept (h0 := h) ..) ..
  | bellInEdge => exact answers_next fun _ h => State.bellIn_kept (h0 := State.atTime_kept (h0 := h) ..) ..
  | bellFrameMissing => exact answers_next fun _ h => State.frameLost_kept (h0 := h) ..
  | bellInMissing => exact answers_next fun _ h => State.bellInMissed_kept (h0 := h) ..
  | holdoverLimitReached =>
      exact answers_next fun _ h =>
        State.when_kept (h0 := h) (h2 := fun _ g => State.bellEvent_kept (h0 := State.wr_kept (h0 := g) ..) ..) ..
  | bellLock =>
      exact answers_next fun _ h =>
        State.when_kept (h0 := h) (h2 := fun _ g => State.wr_kept (h0 := State.wr_kept (h0 := g) ..) ..) ..
  | deputyTakeover => exact answers_next fun _ h => kept_ite h (State.becomeMaster_kept (h0 := h) ..)
  | lateLimitReached =>
      exact answers_next fun _ h => State.when_kept (h0 := h) (h2 := fun _ g => State.bellEvent_kept (h0 := g) ..) ..
  | bellReportSend => exact answers_next fun _ h => State.sendReport_kept (h0 := h) ..
  | bellReportReceived => exact answers_guarded fun _ h => State.takeReport_kept (h0 := h) ..
  | moduleLost => exact answers_next fun _ h => State.moduleLost_kept (h0 := h) ..
  -- The matrix engines (Machine/Engine.lean)
  | mopChoose =>
      exact answers_guarded fun _ h => State.onSlot_kept (h0 := h) (h2 := fun _ => State.chooseMop_kept (h0 := h) ..) ..
  | mopStreamStart =>
      exact answers_guarded fun _ h => State.onSlot_kept (h0 := h) (h2 := fun _ => State.streamMop_kept (h0 := h) ..) ..
  | accLoadStart =>
      exact answers_guarded fun _ h => State.onSlot_kept (h0 := h) (h2 := fun _ => State.loadMop_kept (h0 := h) ..) ..
  | drainStart =>
      exact answers_guarded fun _ h => State.onSlot_kept (h0 := h) (h2 := fun _ => State.startDrain_kept (h0 := h) ..) ..
  | mopComplete =>
      exact answers_guarded fun _ h => State.onSlot_kept (h0 := h) (h2 := fun _ => State.completeMop_kept (h0 := h) ..) ..
  | chainBreak => exact execChainBreak_answers ..
  | meShareWrite => exact (answers_guarded fun _ h => State.writeShare_kept (h0 := h) ..).fromPf
  | meMapWrite => exact (answers_guarded fun _ h => State.writeMap_kept (h0 := h) ..).fromPf
  | mapLockSet => exact (answers_guarded fun _ h => State.wr_kept (h0 := h) ..).fromPf
  -- Faults and replay (Machine/Fault.lean)
  | spareReady => exact answers_guarded fun _ h => State.spareReady_kept (h0 := h) ..
  | cipherAlarm => exact execCipherAlarm_answers ..
  | replayStart => exact answers_guarded fun _ h => State.startReplay_kept (h0 := h) ..
  | switchArm => exact (answers_next fun _ h => State.armSwitch_kept (h0 := h) ..).fromPf
  | plannedSwitch => exact execPlannedSwitch_answers ..
  -- Instructions on A and an operand (Machine/AisArith.lean)
  | lda | ldx | ldy | ldb | add | adc | sub | sbc | and | or | xor | cmp | adds | mul | mulh | max | min | tst | shl | shr |
    sar | rol | rshr | clz | popc | crc | par | brev =>
      exact answers_guarded fun _ h => State.operate_kept (h0 := h) ..
  | sta | stx | sty | stb => exact answers_guarded fun _ h => State.storeReg_kept (h0 := h) ..
  | adrx | adry => exact answers_guarded fun _ h => State.address_kept (h0 := h) ..
  | mac => exact answers_guarded fun _ h => State.multiplyAdd_kept (h0 := h) ..
  | lut => exact answers_guarded fun _ h => State.lut_kept (h0 := h) ..
  -- The group REG (Machine/AisReg.lean)
  | tax | txa | tay | tya | tab | tba | swab | txy | tyx | tsa | tas | neg | not | abs | clra | sext | zext | sats | satu |
    addb | clrb | inx | iny =>
      exact answers_guarded fun _ h => State.register_kept (h0 := h) ..
  | cvt | pack | unpk => exact answers_guarded fun _ h => State.convert_kept (h0 := h) ..
  | dmac => exact answers_guarded fun _ h => State.dmac_kept (h0 := h) ..
  -- Control instructions and exceptions (Machine/AisCtl.lean)
  | b => exact answers_guarded fun _ h => State.branch_kept (h0 := h) ..
  | dbnz => exact answers_guarded fun _ h => State.decBranch_kept (h0 := h) ..
  | jmp => exact answers_guarded fun _ h => State.jumpTo_kept (h0 := h) ..
  | call => exact answers_guarded fun _ h => State.call_kept (h0 := h) ..
  | ret => exact answers_guarded fun _ h => State.ret_kept (h0 := h) ..
  | nop | ei | di => exact answers_guarded fun _ h => State.register_kept (h0 := h) ..
  | heavy => exact answers_guarded fun _ h => State.announceHeavy_kept (h0 := h) ..
  | step => exact answers_guarded fun _ h => State.step__kept (h0 := h) ..
  | rdcnt => exact answers_guarded fun _ h => State.readCounter_kept (h0 := h) ..
  | fence => exact answers_guarded fun _ h => State.fence_kept (h0 := h) ..
  | trap => exact answers_guarded fun _ h => State.trap_kept (h0 := h) ..
  | push => exact answers_guarded fun _ h => State.push_kept (h0 := h) ..
  | pop => exact answers_guarded fun _ h => State.pop_kept (h0 := h) ..
  | mfsr => exact answers_guarded fun _ h => State.mfsr_kept (h0 := h) ..
  | mtsr => exact answers_guarded fun _ h => State.mtsr_kept (h0 := h) ..
  | eret => exact execEret_answers ..
  | halt => exact answers_guarded fun _ h => State.halt_kept (h0 := h) ..
  | wdog => exact answers_guarded fun _ h => State.restartWatchdog_kept (h0 := h) ..
  | interruptTaken => exact answers_guarded fun _ h => State.interrupt_kept (h0 := h) ..
  -- Waits (Machine/AisWait.lean)
  | waitbell => exact answers_guarded fun _ h => State.waitBell_kept (h0 := h) ..
  | waitbellRelease => exact answers_guarded fun _ h => State.releaseBell_kept (h0 := h) ..
  | waitbellt => exact answers_guarded fun _ h => State.waitTarget_kept (h0 := h) ..
  | waitbelltRelease => exact answers_guarded fun _ h => State.releaseTarget_kept (h0 := h) ..
  | wait => exact answers_guarded fun _ h => State.waitCounter_kept (h0 := h) ..
  | waitRelease => exact answers_guarded fun _ h => State.releaseCounter_kept (h0 := h) ..
  | waitTimeout => exact answers_guarded fun _ h => State.timeoutCounter_kept (h0 := h) ..
  -- Coprocessor instructions (Machine/AisCp.lean)
  | mopq | mopqt => exact answers_guarded fun _ h => State.mopq_kept (h0 := h) ..
  | mestat => exact answers_guarded fun _ h => State.mestat_kept (h0 := h) ..
  | cpdq | cpdqt => exact answers_guarded fun _ h => State.cpdq_kept (h0 := h) ..
  | ciq | ciqt => exact answers_guarded fun _ h => State.ciq_kept (h0 := h) ..
  | pcsum => exact answers_guarded fun _ h => State.pcsum_kept (h0 := h) ..
  | phash => exact answers_guarded fun _ h => State.phash_kept (h0 := h) ..
  | pcls | pclst => exact answers_guarded fun _ h => State.pcls_kept (h0 := h) ..
  | enqueueStallRelease => exact answers_guarded fun _ h => State.releaseStall_kept (h0 := h) ..
  -- Contexts (Machine/Ctx.lean)
  | contextStart => exact (answers_guarded fun _ h => State.tcStart_kept (h0 := h) ..).fromPf
  | contextStop => exact (answers_guarded fun _ h => State.tcStop_kept (h0 := h) ..).fromPf
  | tcCtxBindWrite => exact (answers_guarded fun _ h => State.tcBind_kept (h0 := h) ..).fromPf
  -- Copies and memory devices (Machine/Copy.lean)
  | cpdStart => exact answers_guarded fun _ h => State.startCpd_kept (h0 := h) ..
  | patrolScrub => exact execPatrolScrub_answers ..
  | commonsScrub => exact execCommonsScrub_answers ..
  | positionRetire => exact answers_guarded fun _ h => State.startPromotion_kept (h0 := h) ..
  | plannedPromotionStart => exact (answers_next fun _ h => State.writePromote_kept (h0 := h) ..).fromPf
  | promotionAbort => exact (answers_next fun _ h => State.abortPromotion_kept (h0 := h) ..).fromPf
  | promotionSwitch => exact answers_next fun _ h => State.switchDevice_kept (h0 := h) ..
  | suddenPromotion => exact answers_guarded fun _ h => State.suddenLoss_kept (h0 := h) ..
  | dportDataRead =>
      exact (answers_guarded fun _ h => State.portReturn_kept (h0 := State.dportRead_kept (h0 := h) ..) ..).viaPort
  | dportDataWrite => exact (answers_guarded fun _ h => State.dportWrite_kept (h0 := h) ..).viaPort
  | dportApertureRead => exact execDportApertureRead_answers ..
  | dportApertureWrite =>
      exact (answers_guarded fun _ h => kept_ite (State.unsup_kept (h0 := h) ..) (State.dportWrite_kept (h0 := h) ..)).viaPort
  | dportFlush => exact (answers_guarded fun _ h => State.setAhead_kept (h0 := h) ..).viaPort
  -- The interlock (Machine/Interlock.lean)
  | ilkWriteRelease => exact answers_next fun _ h => State.releaseHeld_kept (h0 := h) ..
  | faultDetected =>
      exact answers_guarded fun _ h =>
        State.fault_kept (h0 := State.when_kept (h0 := h) (h2 := fun _ g => State.endHubWriters_kept (h0 := g) ..) ..) ..
  -- Checkpoints (Machine/Ckpt.lean)
  | cpdComplete => exact execCpdComplete_answers ..
  | ckpTrigger => exact answers_guarded fun _ h => State.ckpTrigger_kept (h0 := h) ..
  | ckpTriggerCmd => exact (answers_guarded fun _ h => State.ckpTriggerCmd_kept (h0 := h) ..).fromPf
  | ckpAbort => exact (answers_guarded fun _ h => State.ckpAbortCmd_kept (h0 := h) ..).fromPf
  | ckpRestore => exact (answers_guarded fun _ h => State.ckpRestore_kept (h0 := h) ..).fromPf
  | granaryDrain => exact answers_guarded fun _ h => State.granaryDrain_kept (h0 := h) ..
  -- Partitions and their queues (Machine/Partition.lean)
  | create | grant | bindVf | bindCtx | unbindCtx | start | freeze | thaw | stop | resetWork | destroy | logStart | logSwap
    | logStop | save | restore =>
      exact (answers_guarded fun _ h => State.partCmd_kept (h0 := h) ..).fromPf
  | partCmdEdge => exact answers_next fun _ h => State.cmdEdge_kept (h0 := h) ..
  | freezeSlow => exact execFreezeSlow_answers ..
  | doorbell => exact answers_guarded fun _ h => State.doorbell_kept (h0 := h) ..
  | queueRecordWrite => exact (answers_guarded fun _ h => State.writeRecord_kept (h0 := h) ..).fromPf
  | sliceWrite => exact (answers_guarded fun _ h => State.writeSlice_kept (h0 := h) ..).fromPf
  | bitmapWrite => exact answers_guarded fun _ h => State.bitmapWrite_kept (h0 := h) ..
  -- Ports (Machine/Port.lean)
  | frameReceived => exact answers_guarded fun _ h => State.frameIn_kept (h0 := h) ..
  | pfcFrameReceived =>
      exact answers_guarded fun _ h =>
        State.ageClasses_kept (h0 := State.each_kept (h0 := h) (h2 := fun _ _ g => State.pauseBy_kept (h0 := g) ..) ..) ..
  | pfcStorm =>
      exact answers_guarded fun _ h =>
        State.when_kept (h0 := h) (h2 := fun _ g => State.storm_kept (h0 := State.atTime_kept (h0 := g) ..) ..) ..
  | pfcStormEnd =>
      exact answers_guarded fun _ h =>
        State.when_kept (h0 := h) (h2 := fun _ g => State.endStorm_kept (h0 := State.atTime_kept (h0 := g) ..) ..) ..
  | laneFail => exact answers_guarded fun _ h => State.laneTrouble_kept (h0 := h) ..
  | portReformed => exact answers_guarded fun _ h => State.reformed_kept (h0 := State.partnerReforms_kept (h0 := h) ..) ..
  | fabRetrainRestore => exact (answers_guarded fun _ h => State.retrain_kept (h0 := h) ..).fromPf
  | retrainComplete => exact execRetrainComplete_answers ..
  | fabCfgWrite => exact (answers_next fun _ h => State.writeQuads_kept (h0 := h) ..).fromPf
  | fabPortLinkUp =>
      exact answers_guarded fun _ h => State.when_kept (h0 := h) (h2 := fun _ g => State.linkOn_kept (h0 := g) ..) ..
  | pfcPauseEnd =>
      exact answers_guarded fun _ h =>
        State.when_kept (h0 := h) (h2 := fun _ g => State.endPause_kept (h0 := State.atTime_kept (h0 := g) ..) ..) ..
  -- Frames and fragments (Machine/Packet.lean)
  | fragmentHoldExpiry => exact execFragmentHoldExpiry_answers ..
  | fragmentEntryExpiry => exact execFragmentEntryExpiry_answers ..
  | rawSend =>
      exact answers_guarded fun _ h =>
        kept_ite (State.runWqe_kept (h0 := h) (h5 := fun _ _ g => State.rawSend_kept (h0 := g) ..) ..) h
  | ruleWrite => exact (answers_guarded fun _ h => State.writeRule_kept (h0 := h) ..).fromPf
  | hashCommit => exact (answers_guarded fun _ h => State.writeHash_kept (h0 := h) ..).fromPf
  | rawConfigWrite => exact (answers_guarded fun _ h => State.writeRaw_kept (h0 := h) ..).fromPf
  -- The reliable transport (Machine/Rkt.lean)
  | rktPacketReceived => exact (answers_guarded fun _ h => State.rktReceive_kept (h0 := h) ..).anyOperands
  | rktPacketSend => exact answers_guarded fun _ h => State.sendNext_kept (h0 := h) ..
  | ackReceived => exact (answers_guarded fun _ h => State.ackReceive_kept (h0 := h) ..).anyOperands
  | ackDelayExpiry => exact execAckDelayExpiry_answers ..
  | rtoExpiry => exact answers_guarded fun _ h => State.rtoExpire_kept (h0 := h) ..
  | nakHoldEnd => exact execNakHoldEnd_answers ..
  | resyncReceived => exact (answers_guarded fun _ h => State.resyncReceive_kept (h0 := h) ..).anyOperands
  | allPathsDown => exact execAllPathsDown_answers ..
  | pathProbe =>
      exact answers_guarded fun _ h =>
        State.when_kept (h0 := h) (h2 := fun _ g => State.probePath_kept (h0 := State.atTime_kept (h0 := g) ..) ..) ..
  | probeReceived =>
      exact answers_guarded fun _ h =>
        kept_ite h (kept_ite (State.rktDrop_kept (h0 := h) ..) (State.answerProbe_kept (h0 := h) ..))
  | probeRespReceived =>
      exact answers_guarded fun _ h =>
        kept_ite h (kept_ite (State.rktDrop_kept (h0 := h) ..)
          (State.probeAnswered_kept (h0 := State.probeDelay_kept (h0 := h) ..) ..))
  | connEnable => exact (answers_guarded fun _ h => State.connEnable_kept (h0 := h) ..).fromPf
  | connDisable => exact (answers_guarded fun _ h => State.connDisable_kept (h0 := h) ..).fromPf
  -- Work requests (Machine/Rma.lean)
  | wqeFetch => exact answers_guarded fun _ h => State.fetchWqe_kept (h0 := h) ..
  | write =>
      exact answers_guarded fun _ h => State.runWqe_kept (h0 := h) (h5 := fun _ _ g => State.sendWqe_kept (h0 := g) ..) ..
  | send =>
      exact answers_guarded fun _ h =>
        kept_ite h (State.runWqe_kept (h0 := h) (h5 := fun _ _ g => State.sendWqe_kept (h0 := g) ..) ..)
  | read | atomic =>
      exact answers_guarded fun _ h => State.runWqe_kept (h0 := h) (h5 := fun _ _ g => State.askWqe_kept (h0 := g) ..) ..
  | reg => exact answers_guarded fun _ h => State.runWqe_kept (h0 := h) (h5 := fun _ _ g => State.regWqe_kept (h0 := g) ..) ..
  | inval =>
      exact answers_guarded fun _ h => State.runWqe_kept (h0 := h) (h5 := fun _ _ g => State.invalWqe_kept (h0 := g) ..) ..
  | wqeNop =>
      exact answers_guarded fun _ h => State.runWqe_kept (h0 := h) (h5 := fun _ _ g => State.endWqe_kept (h0 := g) ..) ..
  | copy => exact answers_guarded fun _ h => State.runWqe_kept (h0 := h) (h5 := fun _ _ g => State.copyWqe_kept (h0 := g) ..) ..
  | recv => exact answers_guarded fun _ h => State.postRecvWqe_kept (h0 := h) ..
  | armedFire | qwaitFire => exact answers_guarded fun _ h => State.fire_kept (h0 := h) ..
  | invalWaitExpiry => exact execInvalWaitExpiry_answers ..
  -- The frame scheduler (Machine/Sched.lean)
  | shaperRefill =>
      exact answers_next fun _ h => State.ageAll_kept (h0 := State.refillAll_kept (h0 := State.atTime_kept (h0 := h) ..) ..) ..
  | txFrameSelect =>
      exact answers_guarded fun _ h =>
        State.when_kept (h0 := h) (h2 := fun _ g => State.ageClasses_kept (h0 := State.selectFrame_kept (h0 := g) ..) ..) ..
  | almanacArm =>
      exact (answers_guarded fun _ h =>
        State.when_kept (h0 := h) (h2 := fun _ g => State.armAlmanac_kept (h0 := g) ..) ..).fromPf
  | almanacCancel => exact (answers_guarded fun _ h => State.wr_kept (h0 := h) ..).fromPf
  | almanacTakeover => exact answers_guarded fun _ h => State.takeAlmanac_kept (h0 := h) ..
  | almanacEntryAdvance =>
      exact answers_guarded fun _ h =>
        State.when_kept (h0 := h) (h2 := fun _ g =>
          State.ageClasses_kept (h0 := State.wr_kept (h0 := State.atTime_kept (h0 := g) ..) ..) ..) ..
  -- Block storage (Machine/Block.lean)
  | volumeWrite => exact (answers_guarded fun _ h => State.writeVolume_kept (h0 := h) ..).fromPf
  | bscFetch => exact answers_next fun _ h => State.fetchBsc_kept (h0 := h) ..
  | blkRead => exact answers_next fun _ h => State.onBlk_kept (h0 := h) (h3 := fun _ => State.landRead_kept (h0 := h) ..) ..
  | blkWrite => exact answers_next fun _ h => State.onBlk_kept (h0 := h) (h3 := fun _ => State.stageWrite_kept (h0 := h) ..) ..
  | flush => exact execFlush_answers ..
  | trim => exact execTrim_answers ..
  | getLog => exact answers_next fun _ h => State.onBlk_kept (h0 := h) (h3 := fun _ => State.landLog_kept (h0 := h) ..) ..
  | selfTest => exact answers_next fun _ h => State.onBlk_kept (h0 := h) (h3 := fun _ => State.selfTest_kept (h0 := h) ..) ..
  | bscDispatch => exact answers_guarded fun _ h => State.dispatchBsc_kept (h0 := h) ..
  | backingComplete => exact execBackingComplete_answers ..
  | agePromotion => exact answers_guarded fun _ h => State.promoteBsc_kept (h0 := h) ..
  | ssdTimeout => exact execSsdTimeout_answers ..
  | ssdControllerFatal => exact answers_guarded fun _ h => State.medEvent_kept (h0 := State.resetMedia_kept (h0 := h) ..) ..
  | mediaLinkDown => exact answers_guarded fun _ h => State.mediaDown_kept (h0 := h) ..
  | mediaReset => exact (answers_guarded fun _ h => State.resetMedia_kept (h0 := h) ..).fromPf
  | mediaResetDone => exact execMediaResetDone_answers ..
  | selfTestResult => exact execSelfTestResult_answers ..
  | selfTestTimeout => exact answers_guarded fun _ h => State.stopTest_kept (h0 := h) ..
  -- The cipher engines (Machine/Cipher.lean)
  | cipherFetch => exact answers_guarded fun _ h => State.fetchCipher_kept (h0 := h) ..
  | cipherStart => exact answers_next fun _ h => State.startCipher_kept (h0 := h) ..
  | gcmEnc => exact answers_next fun _ h => State.runCipher_kept (h0 := h) (h3 := fun _ _ => State.gcmEnc_kept (h0 := h) ..) ..
  | gcmDec => exact answers_next fun _ h => State.runCipher_kept (h0 := h) (h3 := fun _ _ => State.gcmDec_kept (h0 := h) ..) ..
  | xtsEnc | xtsDec =>
      exact answers_next fun _ h => State.runCipher_kept (h0 := h) (h3 := fun _ _ => State.xtsRun_kept (h0 := h) ..) ..
  | hash => exact answers_next fun _ h => State.runCipher_kept (h0 := h) (h3 := fun _ _ => State.hashRun_kept (h0 := h) ..) ..
  | load => exact answers_next fun _ h => State.runCipher_kept (h0 := h) (h3 := fun _ _ => State.fillSlot_kept (h0 := h) ..) ..
  | genkey =>
      exact answers_next fun _ h =>
        State.runCipher_kept (h0 := h) (h3 := fun _ _ => State.fillSlot_kept (h0 := State.random_kept (h0 := h) ..) ..) ..
  | erase =>
      exact answers_next fun _ h =>
        State.runCipher_kept (h0 := h) (h3 := fun _ _ => State.ciDone_kept (h0 := State.eraseSlot_kept (h0 := h) ..) ..) ..
  | wrap => exact answers_next fun _ h => State.runCipher_kept (h0 := h) (h3 := fun _ _ => State.wrapRun_kept (h0 := h) ..) ..
  | unwrap =>
      exact answers_next fun _ h => State.runCipher_kept (h0 := h) (h3 := fun _ _ => State.unwrapRun_kept (h0 := h) ..) ..
  | cipherComplete => exact execCipherComplete_answers ..
  | epochWrite => exact answers_next fun _ h => State.writeEpoch_kept (h0 := h) ..
  | exportKeyWrite => exact (answers_guarded fun _ h => State.writeExportKey_kept (h0 := h) ..).fromPf
  | nonceIdWrite => exact (answers_next fun _ h => State.writeNonceId_kept (h0 := h) ..).fromPf
  | alarmClear => exact answers_next fun _ h => State.rekey_kept (h0 := State.wr_kept (h0 := h) ..) ..
  -- Start and firmware (Machine/Start.lean)
  | iocRestart => exact answers_guarded fun _ h => State.restartIoc_kept (h0 := h) ..
  | coldStart => exact answers_next fun _ h => State.coldStart_kept (h0 := h) ..
  | warmStart => exact answers_next fun _ h => kept_ite (State.wakeStart_kept (h0 := h) ..) h
  | startRetry => exact answers_next fun _ h => kept_ite (State.coldStart_kept (h0 := State.atTime_kept (h0 := h) ..) ..) h
  | resetWarm =>
      exact (answers_next fun _ h =>
        State.resetBy_kept (h0 := h) (h2 := fun _ g => State.warmStart_kept (h0 := g) ..) ..).fromPf
  | resetCold =>
      exact (answers_next fun _ h =>
        State.resetBy_kept (h0 := h) (h2 := fun _ g => State.coldStart_kept (h0 := g) ..) ..).fromPf
  | watchdogExpiry => exact answers_next fun _ h => kept_ite (State.resetReeve_kept (h0 := State.atTime_kept (h0 := h) ..) ..) h
  | reeveRestart => exact answers_next fun _ h => State.restartReeve_kept (h0 := h) ..
  | logPersist => exact answers_next fun _ h => State.persistLog_kept (h0 := h) ..
  | telemetrySample => exact answers_next fun _ h => State.sampleAll_kept (h0 := h) ..
  | cfgWriteA | cfgWriteB | fwLoad | fwActivate | fwCancel | raiseSvn =>
      exact (answers_next fun _ h => State.mgtCommand_kept (h0 := h) ..).fromPf
  | fwSwitchover => exact answers_next fun _ h => State.switchFirmware_kept (h0 := h) ..
  | openRangeWrite => exact (answers_guarded fun _ h => State.writeOpen_kept (h0 := h) ..).fromPf
  | attestGo => exact (answers_next fun _ h => State.attestGo_kept (h0 := h) ..).fromPf
  -- Power (Machine/Power.lean)
  | clockGate => exact answers_guarded fun _ h => kept_ite (kept_mk h) h
  | sleepRequest | offRequest => exact (answers_next fun _ h => State.powerReq_kept (h0 := h) ..).fromPf
  | deepSleepRequest => exact answers_next fun _ h => State.powerReq_kept (h0 := h) ..
  | powerEntryComplete => exact answers_next fun _ h => State.entryDone_kept (h0 := h) ..
  | wake => exact answers_guarded fun _ h => State.wakeBy_kept (h0 := h) ..
  | vesperDetect => exact execVesperDetect_answers ..
  | returnStepReady => exact answers_next fun _ h => State.returnStep_kept (h0 := h) ..
  | voltageReached => exact answers_next fun _ h => State.voltageReached_kept (h0 := h) ..
  | paceModeWrite => exact (answers_next fun _ h => State.writePwrCtrl_kept (h0 := h) ..).fromPf
  | powerSample => exact answers_guarded fun _ h => State.powerSample_kept (h0 := h) ..
  | pwrAlertAssert => exact answers_next fun _ h => kept_ite h (State.floorOn_kept (h0 := State.wr_kept (h0 := h) ..) ..)
  | alertHoldEnd => exact answers_guarded fun _ h => State.floorOff_kept (h0 := h) ..
  | regulatorOvercurrent => exact answers_next fun _ h => State.overCurrent_kept (h0 := h) ..
  | inputUndervoltage => exact answers_next fun _ h => State.floorOn_kept (h0 := State.wr_kept (h0 := h) ..) ..
  | sensorSample => exact answers_guarded fun _ h => State.sensorSample_kept (h0 := h) ..
  | thermalStep => exact answers_next fun _ h => State.thermStep_kept (h0 := h) ..
  | thermalShutdown => exact answers_guarded fun _ h => State.enterOff_kept (h0 := h) ..
  | undervoltageLockout => exact answers_next fun _ h => State.enterOff_kept (h0 := h) ..
  | hotswapTrip | auxOutShort => exact answers_next fun _ h => State.emit_kept (h0 := kept_mk h) ..
  | prebiasStart => exact answers_next fun _ h => State.prebiasOn_kept (h0 := h) ..
  | prebiasEnd => exact execPrebiasEnd_answers ..
  | droopDetect => exact execDroopDetect_answers ..
  | droopEnd => exact answers_guarded fun _ h => kept_ite h (State.endStretch_kept (h0 := h) ..)
  -- The sideband (Machine/Sideband.lean)
  | entdaa => exact answers_guarded fun _ h => kept_ite h (State.emit_kept (h0 := kept_mk h) ..)
  | setdasa => exact answers_guarded fun _ h => kept_ite h (kept_mk h)
  | setEndpointId => exact execSetEndpointId_answers ..
  | getEndpointId | getMctpVersionSupport | getMessageTypeSupport | getVendorDefinedMsgSupport =>
      exact answers_next fun _ h => State.control_kept (h0 := h) ..
  | getStatus => exact answers_guarded fun _ h => State.serve_kept (h0 := h) (h4 := fun _ g => State.reply_kept (h0 := g) ..) ..
  | getSensors =>
      exact answers_guarded fun _ h => State.serve_kept (h0 := h) (h4 := fun _ g => State.readSensors_kept (h0 := g) ..) ..
  | getEventLogEntry =>
      exact answers_guarded fun _ h => State.serve_kept (h0 := h) (h4 := fun _ g => State.readLog_kept (h0 := g) ..) ..
  | getEvents =>
      exact answers_guarded fun _ h => State.serve_kept (h0 := h) (h4 := fun _ g => State.readEvents_kept (h0 := g) ..) ..
  | getIdentity =>
      exact answers_guarded fun _ h => State.serve_kept (h0 := h) (h4 := fun _ g => State.readIdentity_kept (h0 := g) ..) ..
  | attest =>
      exact answers_guarded fun _ h => State.serve_kept (h0 := h) (h4 := fun _ g => State.attestChunk_kept (h0 := g) ..) ..
  | powerOff => exact execPowerOff_answers ..
  | powerWarmStart =>
      exact answers_guarded fun _ h =>
        State.serve_kept (h0 := h) (h4 := fun _ g => State.warmStart_kept (h0 := State.reply_kept (h0 := g) ..) ..) ..
  | powerColdStart =>
      exact answers_guarded fun _ h =>
        State.serve_kept (h0 := h) (h4 := fun _ g => State.coldStart_kept (h0 := State.reply_kept (h0 := g) ..) ..) ..
  | sidebandDport =>
      exact answers_guarded fun _ h => State.serve_kept (h0 := h) (h4 := fun _ g => State.sidePort_kept (h0 := g) ..) ..
  | cfgWrite =>
      exact answers_guarded fun _ h =>
        State.serve_kept (h0 := h) (h4 := fun _ g => State.reply_kept (h0 := State.cfgStore_kept (h0 := g) ..) ..) ..
  -- The test block (Machine/Test.lean)
  | challenge | unlock => exact (answers_next fun _ h => State.unlockCommand_kept (h0 := h) ..).fromPf
  | allOff => exact (answers_next fun _ h => State.allOff_kept (h0 := h) ..).fromPf
  | loopEnable => exact (answers_guarded fun _ h => State.startLoop_kept (h0 := h) ..).fromPf
  | loopDisable => exact (answers_guarded fun _ h => State.endLoop_kept (h0 := h) ..).fromPf
  | loopLimitExpiry =>
      exact answers_guarded fun _ h => kept_ite (State.endLoop_kept (h0 := State.atTime_kept (h0 := h) ..) ..) h
  | lateArm => exact (answers_next fun _ h => State.writeLate_kept (h0 := h) ..).fromPf
  | injectArm => exact (answers_next fun _ h => State.writeInject_kept (h0 := h) ..).fromPf
  | injectCancel =>
      exact (answers_next fun _ h => kept_ite (State.tstClosed_kept (h0 := h) ..) (State.cancelInject_kept (h0 := h) ..)).fromPf
  | injectFire => exact answers_guarded fun _ h => State.fireInject_kept (h0 := h) ..
  | bistStart => exact (answers_next fun _ h => State.writeBist_kept (h0 := h) ..).fromPf
  | bistComplete => exact answers_next fun _ h => State.endBist_kept (h0 := h) ..
  | auxPowerLoss => exact answers_next fun _ h => State.auxLoss_kept _ h

end Sys2Proof.Machine
end

section
/-! SUPPORT. The scope of the machine: what one step is, what it keeps, what holds at reset, and how events and host requests act. -/

namespace Sys2Proof.Machine

/-! ### Steps -/

/-- Settles O48: the two branches of `step`. -/
theorem stepRunsTheCommandAtTheFront : Obligations.StepRunsTheCommandAtTheFront := by
  constructor
  · intro s c r h
    simp only [step, h]
  · intro s h
    simp only [step, h]

/-- Settles O49, by the case split over the commands in `exec_answers`. -/
theorem everyCommandRunsOrIsIllFormed : Obligations.EveryCommandRunsOrIsIllFormed := by
  intro i s
  obtain ⟨t, ht, hs, _⟩ := exec_answers i s
  exact ⟨⟨t, ht⟩, fun hw => by rw [ht, hs hw]⟩

/-- The next state of a command keeps the queue and the canonical forms. -/
theorem exec_kept {q : List Instr} {i : Instr} {s t : State} (h : Kept q s) (e : exec i s = .next t) : Kept q t := by
  obtain ⟨u, hu, _, hk⟩ := exec_answers i s
  obtain rfl : u = t := Host.Outcome.next.inj (hu.symm.trans e)
  exact hk q h

/-- Settles O50: `Kept` holds the queue fixed, and each command keeps it. -/
theorem queueIsTheStepsAlone : Obligations.QueueIsTheStepsAlone := by
  intro i s t h e
  exact (exec_kept ⟨rfl, h⟩ e).1

/-- Settles O51: a step is a unit of time, or a command on the state without that command, and both keep the canonical forms. -/
theorem canonicalFormIsKept : Obligations.CanonicalFormIsKept := by
  intro s t h e
  cases hp : s.pending with
  | nil =>
    obtain rfl : s.tick = t := Host.Outcome.next.inj ((stepRunsTheCommandAtTheFront.2 s hp).symm.trans e)
    exact (State.tick_kept s (q := s.pending) ⟨rfl, h⟩).2
  | cons i r =>
    rw [stepRunsTheCommandAtTheFront.1 s i r hp] at e
    have h' : Kept r { s with pending := r } := ⟨rfl, h⟩
    exact (exec_kept h' e).2

/-! ### Reset and the register fields -/

/-- At reset every byte of memory reads 0: nothing is stored, and no test buffer is looped back. -/
theorem State.byte_reset (a : Nat) : State.reset.byte a = 0 := by
  unfold State.byte
  split <;> rfl

/-- Settles O52. -/
theorem resetState : Obligations.ResetState :=
  ⟨rfl, ⟨State.reset_memWf, rfl⟩, State.rd_reset, State.byte_reset⟩

/-- Settles O57. -/
theorem registerFieldsAreIndependent : Obligations.RegisterFieldsAreIndependent :=
  fun s f g v => ⟨State.rd_wr s f v, State.rd_wr_other s f g v, rfl⟩

/-! ### Events -/

/-- An event whose bit is 1 changes nothing. -/
theorem State.event_of_set {s : State} {f : Fld} (en : Fld) (vec : Nat) (h : s.rd f = 1) : s.event f en vec = s :=
  if_pos h

/-- An event that is not enabled sets its bit. -/
theorem State.event_of_disabled {s : State} {f en : Fld} (vec : Nat) (h : s.rd f ≠ 1) (he : bit ((s.wr f 1).rd en) f.lsb = false) :
    s.event f en vec = s.wr f 1 := by
  simp [State.event, h, he]

/-- An event that is enabled sets its bit and raises its vector. -/
theorem State.event_of_enabled {s : State} {f en : Fld} (vec : Nat) (h : s.rd f ≠ 1) (he : bit ((s.wr f 1).rd en) f.lsb = true) :
    s.event f en vec = (s.wr f 1).raise vec f.addr := by
  simp [State.event, h, he]

/-- Settles O58: the three cases of an event, and what `quiet` says that none of them touches. -/
theorem eventsLatchAndInterrupt : Obligations.EventsLatchAndInterrupt := by
  refine ⟨fun s f en vec h => State.event_of_set en vec h, fun s f en vec h he => State.event_of_disabled vec h he,
    fun s f en vec h he ha => ?_, fun s f en vec => ?_⟩
  · rw [State.event_of_enabled vec h he]
    exact (State.quiet_raise _ vec f.addr).2 ha
  · obtain ⟨hctxs, hslots, hcopies, hqueues, hparts, hconns, hcounters, hpending, _⟩ := State.quiet_event s f en vec
    exact ⟨hctxs, hslots, hcopies, hqueues, hparts, hconns, hcounters, hpending⟩

/-! ### Host requests -/

section Completion

variable {s : State} {func tag : Nat} {r : HostRead} {bs header : List Nat}

/-- A completion with all that its read still lacks ends the read: its bytes are delivered (R187). -/
theorem State.completion_readData (hq : Tab.get none s.pci.quarantine tag = none) (hr : Tab.get none s.pci.reads tag = some r)
    (hl : s.hostLooped r.func = false) (hn : bs.length = r.len - r.got) (hg : r.got ≤ r.len) (hu : ∀ p cls q, r.use ≠ .entry p cls q) :
    s.completion func tag 0 false bs header = ((s.freeRead tag).readData r.use r.got (bs.map (· % 256))).sendHeldReads := by
  have hall : r.len ≤ r.got + bs.length := by omega
  simp [State.completion, hq, hr, hl, List.take_of_length_le hn.le, hall, -List.map_take]

/-- Where the read was for a ring entry, the entry is taken from its bytes (R187). -/
theorem State.completion_takeEntry {p cls q : Nat} (hq : Tab.get none s.pci.quarantine tag = none)
    (hr : Tab.get none s.pci.reads tag = some r) (hl : s.hostLooped r.func = false) (hn : bs.length = r.len - r.got)
    (hg : r.got ≤ r.len) (hu : r.use = .entry p cls q) :
    s.completion func tag 0 false bs header = ((s.freeRead tag).takeEntry p cls q
      ((List.range 16).map (fun i => leNat (((r.data ++ bs.map (· % 256)).drop (4 * i)).take 4))) none).sendHeldReads := by
  have hall : r.len ≤ r.got + bs.length := by omega
  simp [State.completion, hq, hr, hl, hu, List.take_of_length_le hn.le, hall, -List.map_take]

end Completion

/-- A read whose completion is late is given up, its tag quarantined, and the timeout reported (R184, R185). -/
theorem State.readTimeout_of_outstanding {s : State} {tag : Nat} {r : HostRead} (hr : Tab.get none s.pci.reads tag = some r)
    (hc : s.pci.cplDisable = false) {u : State} (hu : u = s.atTime (r.issuedAt + cplTimer s.pci.cplTimeout)) :
    s.readTimeout tag = (((((((u.freeRead tag).quarantineTag tag r.func false).readFailed r.use).aer r.func "Completion Timeout"
      (some (r.header tag (u.on Reg.PCI_CPL_CFG_RO_DATA && Tab.get true u.pci.roEnable r.func)))).incSat
      Reg.PCI_CPL_STATS_TIMEOUTS 1).pciEvent Reg.PCI_EVENT_CPL_TIMEOUT).sendHeldReads) := by
  rw [hu, State.readTimeout, hr]
  simp only [hc, Bool.false_eq_true, if_false]

/-- Settles O19: each request is well formed, and its meaning takes the one branch that the hypotheses leave. -/
theorem hostRequestsComplete : Obligations.HostRequestsComplete := by
  refine ⟨?aborted, ?closed, ?unsupported, ?config, ?poisoned, ?data, ?entry, ?timeout, ?quarantine⟩
  case aborted =>
    intro s f off len w h hf hopen
    have hclosed : (f == 0 && decide (s.pci.dstate = .d3hot)) = false := by
      rcases hopen with h0 | hd
      · simp [h0]
      · simp [hd]
    refine (guarded_of (decide_eq_true hf)).trans ?_
    simp [hclosed]
  case closed =>
    intro s off len w h hd
    refine (guarded_of (by decide)).trans ?_
    simp [hd]
  case unsupported =>
    intro s f posted h hf
    exact guarded_of (decide_eq_true hf)
  case config =>
    intro s f off v hf ho hp hc hpres
    have hwf : (decide (f < 65) && decide (off < 4096)) = true := by simp [hf, ho]
    constructor
    · refine (guarded_of hwf).trans ?_
      simp [hp, hc, hpres]
    · refine (guarded_of hwf).trans ?_
      simp [hp, hc, hpres]
  case poisoned =>
    intro s f h hf
    exact guarded_of (decide_eq_true hf)
  case data =>
    intro s f tag r bs h hf ht hq hr hl hn hg hu
    refine (guarded_of (by simp [hf, ht])).trans ?_
    rw [State.completion_readData hq hr hl hn hg hu]
  case entry =>
    intro s f tag p cls q r bs h hf ht hq hr hl hn hg hu
    refine (guarded_of (by simp [hf, ht])).trans ?_
    rw [State.completion_takeEntry hq hr hl hn hg hu]
  case timeout =>
    intro s u tag r ht hr hc hu
    refine (guarded_of (decide_eq_true ht)).trans ?_
    rw [State.readTimeout_of_outstanding hr hc hu]
  case quarantine =>
    intro s tag q ht hq he
    refine (guarded_of (decide_eq_true ht)).trans ?_
    simp [hq, he]

end Sys2Proof.Machine
end

section
/-! SUPPORT. The bell: what its edges, its control register, its frames and its reports do where their checks are passed. -/

namespace Sys2Proof.Machine

/-! ### Guards that are passed -/

/-- A command of the PF has its effect while its block answers. -/
theorem State.fromPf_of_open {s t : State} {b : Nat} (h : s.pfOpen b = true) : s.fromPf b (.next t) = .next t := by
  simp [State.fromPf, h]

/-- A change under a condition that holds. -/
theorem State.when_of {s : State} {c : Bool} (f : State → State) (h : c = true) : s.when c f = f s := if_pos h

/-! ### BELL_CTRL and BELL_COUNT (R12, R15, R34) -/

/-- Replacing bit 0 leaves every field above it. -/
theorem bits_setBits_zero_one {v b lo w : Nat} (h : 0 < lo) : bits (setBits v 0 1 b) lo w = bits v lo w := by
  obtain ⟨k, rfl⟩ : ∃ k, lo = k + 1 := ⟨lo - 1, by omega⟩
  have hhalf : setBits v 0 1 b / 2 = v / 2 := by
    simp only [setBits]
    omega
  simp only [bits, Nat.shiftRight_eq_div_pow, pow_succ', ← Nat.div_div_eq_div_mul, hhalf]

/-- Bit 0 reads what replaced it. -/
theorem bit_setBits_zero_one (v : Nat) (b : Bool) : bit (setBits v 0 1 (b2n b)) 0 = b := by
  have hlow : bits (setBits v 0 1 (b2n b)) 0 1 = b2n b % 2 := by
    simp only [bits, setBits, Nat.shiftRight_zero]
    omega
  rw [bit, hlow]
  cases b <;> rfl

/-- BELL_CTRL's fields but EN do not depend on bit 0 of the value written. -/
theorem State.bellFields_setBits_zero (s : State) (v b : Nat) : s.bellFields (setBits v 0 1 b) = s.bellFields v := by
  simp only [State.bellFields, bits_setBits_zero_one, Nat.succ_pos]

/-- The bell's own generator at its next edge. -/
theorem State.bellEdge_of_enabled {s : State} (hen : s.on Reg.BELL_CTRL_EN = true) :
    s.bellEdge = (s.atTime s.bell.nextAt).edge (s.count + 1) s.bell.nextAt s.bell.nextPeriod s.bell.nextPace false := by
  simp [State.bellEdge, hen]

/-- A write of BELL_CTRL with a legal role, that changes neither source nor role of a bell that runs, is no BAD_PARAM. -/
theorem State.writeBellCtrl_of_legal {s : State} {v : Nat} (hlegal : bits v 3 2 ≠ 3)
    (hsame : s.on Reg.BELL_CTRL_EN = true → bits v 1 2 = s.rd Reg.BELL_CTRL_SOURCE ∧ bits v 3 2 = s.rd Reg.BELL_CTRL_ROLE) (en : Bool) :
    s.writeBellCtrl (setBits v 0 1 (b2n en)) =
      (if en && !s.on Reg.BELL_CTRL_EN then
        if (s.bellFields v).enRefused (bits v 3 2) then (s.bellFields v).badParam else ((s.bellFields v).wr Reg.BELL_CTRL_EN 1).bellStart
      else if !en && s.on Reg.BELL_CTRL_EN then ((s.bellFields v).wr Reg.BELL_CTRL_EN 0).bellStop
      else s.bellFields v) := by
  have hok : ¬ (bits v 3 2 = 3 ∨
      (s.on Reg.BELL_CTRL_EN = true ∧ (bits v 1 2 ≠ s.rd Reg.BELL_CTRL_SOURCE ∨ bits v 3 2 ≠ s.rd Reg.BELL_CTRL_ROLE))) := by
    rintro (h | ⟨hen, h | h⟩)
    · exact hlegal h
    · exact h (hsame hen).1
    · exact h (hsame hen).2
  simp only [State.writeBellCtrl, State.bellFields_setBits_zero, bits_setBits_zero_one, bit_setBits_zero_one, Nat.succ_pos]
  exact if_neg hok

/-- EN written 1 to a bell that does not run starts it, when the checks of a master are passed (R23, R229). -/
theorem State.writeBellCtrl_starts {s : State} {v : Nat} (hen : s.on Reg.BELL_CTRL_EN = false) (hlegal : bits v 3 2 ≠ 3)
    (hfit : (s.bellFields v).enRefused (bits v 3 2) = false) :
    s.writeBellCtrl (setBits v 0 1 1) = ((s.bellFields v).wr Reg.BELL_CTRL_EN 1).bellStart := by
  refine (State.writeBellCtrl_of_legal hlegal (by simp [hen]) true).trans ?_
  simp [hen, hfit]

/-- EN written 0 to a bell that runs stops it, when source and role stay (R34). -/
theorem State.writeBellCtrl_stops {s : State} {v : Nat} (hen : s.on Reg.BELL_CTRL_EN = true) (hlegal : bits v 3 2 ≠ 3)
    (hsource : bits v 1 2 = s.rd Reg.BELL_CTRL_SOURCE) (hrole : bits v 3 2 = s.rd Reg.BELL_CTRL_ROLE) :
    s.writeBellCtrl (setBits v 0 1 0) = ((s.bellFields v).wr Reg.BELL_CTRL_EN 0).bellStop := by
  refine (State.writeBellCtrl_of_legal hlegal (fun _ => ⟨hsource, hrole⟩) false).trans ?_
  simp [hen]

/-- While the bell does not run, a write of BELL_COUNT loads it (R34). -/
theorem State.loadCount_of_disabled {s : State} (v : Nat) (hen : s.on Reg.BELL_CTRL_EN = false) :
    s.loadCount v = (s.countLoaded (v % 2 ^ 64)).commitBells := by
  simp [State.loadCount, hen]

/-- Settles O1: a write of BELL_CTRL is decided by EN and bit 0 of the value, the edge and the load by EN alone. -/
theorem bellEdgesAndLoadCompleteAsStated : Obligations.BellEdgesAndLoadCompleteAsStated := by
  refine ⟨?edge, ?enable, ?disable, ?load⟩
  case edge =>
    intro s hen
    exact congrArg Host.Outcome.next (State.bellEdge_of_enabled hen)
  case enable =>
    intro s v hpf hen hlegal hfit
    rw [← State.writeBellCtrl_starts hen hlegal hfit]
    exact State.fromPf_of_open hpf
  case disable =>
    intro s v hpf hen hlegal hsource hrole
    rw [← State.writeBellCtrl_stops hen hlegal hsource hrole]
    exact State.fromPf_of_open hpf
  case load =>
    intro s v hpf hen
    rw [← State.loadCount_of_disabled v hen]
    exact State.fromPf_of_open hpf

/-! ### Bell frames, BELL_IN and what is missing (R15 to R19) -/

/-- A module that is no master takes a valid frame of its tag, unless it knows its epoch and the frame's is an older one (R17, R19). -/
theorem State.frameBell_accepts {s : State} {f : BellFrame} (time : Nat) (hrsv : f.rsv = false) (hhead : f.head.bad = false)
    (hen : s.on Reg.BELL_CTRL_EN = true) (htag : f.tag = s.rd Reg.BELL_CTRL_TAG) (hvalid : f.valid = true) (hm : s.isMaster = false)
    (hepoch : s.bell.epochSeen = false ∨ s.newerEpoch f.epoch = true ∨ f.epoch = s.rd Reg.BELL_STATUS_EPOCH) :
    s.frameBell f time = s.acceptFrame f time (s.newerEpoch f.epoch) := by
  have hnotOlder : ¬ (s.bell.epochSeen = true ∧ (!s.newerEpoch f.epoch) = true ∧ f.epoch ≠ s.rd Reg.BELL_STATUS_EPOCH) := by
    rintro ⟨hseen, hnew, hne⟩
    rcases hepoch with h | h | h
    · simp [h] at hseen
    · simp [h] at hnew
    · exact hne h
  simp only [State.frameBell, hrsv, hhead, hen, htag, hvalid, hm, Bool.or_self, Bool.not_true, Bool.false_eq_true, ne_eq, not_true_eq_false,
    or_self, if_false]
  exact if_neg hnotOlder

/-- An edge on BELL_IN at most 250 ns after the local edge, and no nearer to the next one, corrects the bell in progress (R16). -/
theorem State.bellIn_after {s : State} {t : Nat} (hen : s.on Reg.BELL_CTRL_EN = true) (hsource : 2 ≤ s.source)
    (hafter : s.bell.edgeAt ≤ t) (hfirst : s.count ∉ s.bell.inDone) (hnear : t - s.bell.edgeAt ≤ 1000)
    (hhalf : 2 * t ≤ s.bell.nextAt + s.bell.edgeAt) :
    s.bellIn t = ({ s with bell := { s.bell with inDone := s.bell.inDone ++ [s.count] } } : State).sourceEdge ((s.bell.edgeAt : Int) - t) := by
  have hruns : ¬ ((!s.on Reg.BELL_CTRL_EN) = true ∨ s.source < 2) := by simp [hen, hsource.not_gt]
  have hthis : ¬ ((s.bell.nextAt : Int) - t < t - s.bell.edgeAt) := by omega
  have hwithin : ¬ ((s.bell.edgeAt : Int) - t < -1000 ∨ 1000 < (s.bell.edgeAt : Int) - t) := by omega
  rw [State.bellIn, if_neg hruns]
  simp only [hthis, decide_false, Bool.false_eq_true, if_false, hfirst, hwithin]

/-- A frame past its deadline counts as missing to a module that is no master: of the bell in progress or one of the four before it,
and of a bell that began after the write of EN (R16). -/
theorem State.frameLost_counts {s : State} {k : Nat} (hen : s.on Reg.BELL_CTRL_EN = true) (hm : s.isMaster = false) (hle : k ≤ s.count)
    (hrecent : s.count ≤ k + 4) (hbegun : s.bell.enCount < k) : s.frameLost k = s.frameMissed k := by
  simp [State.frameLost, hen, hm, hle, hrecent, hbegun]

/-- A BELL_IN edge past its time counts as missing, once, for the same bells (R16). -/
theorem State.bellInMissed_counts {s : State} {k : Nat} (hen : s.on Reg.BELL_CTRL_EN = true) (hsource : 2 ≤ s.source) (hle : k ≤ s.count)
    (hrecent : s.count ≤ k + 4) (hbegun : s.bell.enCount < k) (hdone : k ∉ s.bell.inDone) (hrej : k ∉ s.bell.inRejected) :
    s.bellInMissed k = ({ s with bell := { s.bell with inDone := s.bell.inDone ++ [k] } } : State).sourceMiss := by
  simp [State.bellInMissed, hen, hsource.not_gt, hle.not_gt, hrecent.not_gt, hbegun.not_ge, hdone, hrej]

/-- Settles O2: each command takes the branch that its hypotheses leave; a BELL_IN edge is nearest to that of the bell in progress. -/
theorem bellFramesAndInputEdgesComplete : Obligations.BellFramesAndInputEdgesComplete := by
  refine ⟨?frame, ?input, ?frameMissing, ?inputMissing, ?holdover, ?lock, ?takeover⟩
  case frame =>
    intro s u f time hu hrsv hhead hen htag hvalid hm hepoch
    rw [← State.frameBell_accepts _ hrsv hhead hen htag hvalid hm hepoch, hu]
    rfl
  case input =>
    intro s u time hu hen hsource hnow hafter hfirst hnear hhalf
    rw [← State.bellIn_after hen hsource hafter hfirst hnear hhalf, hu]
    show Host.Outcome.next ((s.atTime time).bellIn (max s.now time)) = _
    rw [max_eq_right hnow]
  case frameMissing =>
    intro s k hen hm hle hrecent hbegun
    exact congrArg Host.Outcome.next (State.frameLost_counts hen hm hle hrecent hbegun)
  case inputMissing =>
    intro s k hen hsource hle hrecent hbegun hdone hrej
    exact congrArg Host.Outcome.next (State.bellInMissed_counts hen hsource hle hrecent hbegun hdone hrej)
  case holdover =>
    intro s hen hhold hlimit
    exact congrArg Host.Outcome.next (State.when_of _ (by simp [hen, hhold, hlimit]))
  case lock =>
    intro s hen hhold hgood
    exact congrArg Host.Outcome.next (State.when_of _ (by simp [hen, hhold, hgood]))
  case takeover =>
    intro s hen hrole hm hmiss hfatal
    exact congrArg Host.Outcome.next (if_neg (by simp [hen, hrole, hm, hmiss, hfatal]))

/-! ### Reports and lost modules (R20, R23, R229, R343) -/

/-- The report of the bell that has ended, sent once, to a parent whose entry is valid (R229). -/
theorem State.sendReport_pushes {s u : State} (hen : s.on Reg.BELL_CTRL_EN = true) (hm : s.isMaster = false)
    (hreport : s.on Reg.BELL_CTRL_REPORT_EN = true) (hrelay : s.on Reg.RKT_BELL_CFG_RELAY = true) (hended : s.bell.enCount < s.count)
    (hunsent : s.bell.reportSent ≤ s.count - 1) (hu : u = s.atTime s.reportAt)
    (hparent : u.on (Reg.RKT_BELL_PEER_EN u.parentEntry) = true) :
    s.sendReport = ({ u with bell := { u.bell with reportSent := s.count - 1 + 1 } } : State).pushPeer (u.peerPath u.parentEntry) 9
      (.report u.parentEntry (u.peerPath u.parentEntry)
        (u.mergeReports (s.count - 1) (some (u.bell.ownLate, u.bell.ownBacklog, u.rd Reg.BELL_PACE_ATTAINABLE)))) := by
  have hsends : ¬ ((!s.on Reg.BELL_CTRL_EN) = true ∨ s.isMaster = true ∨ (!s.on Reg.BELL_CTRL_REPORT_EN) = true ∨
      (!s.on Reg.RKT_BELL_CFG_RELAY) = true ∨ s.count ≤ s.bell.enCount ∨ s.count - 1 < s.bell.reportSent) := by
    simp [hen, hm, hreport, hrelay, hended, hunsent]
  simp only [State.sendReport, if_neg hsends, ← hu, hparent, if_true]

/-- A report from a child with the module's tag is the child's last (R229). -/
theorem State.takeReport_keeps {s : State} {e : Nat} {r : BellReport} (hrsv : r.rsv = false) (hhead : r.head.bad = false)
    (hen : s.on Reg.BELL_CTRL_EN = true) (hchild : e ∈ s.children) (htag : r.tag = s.rd Reg.BELL_CTRL_TAG) :
    s.takeReport e r = { s with bell := { s.bell with reports := Tab.set none s.bell.reports e (some r) } } := by
  simp [State.takeReport, hrsv, hhead, hen, hchild, htag]

/-- A module that has been listed missing for four bells is recorded by its coordinates, and its run stands at 5 (R343). -/
theorem State.moduleLost_named {s : State} {xyz : Nat} (hnamed : xyz < 0xFFFF) (hrun : Tab.get 0 s.bell.missRuns xyz = 4) :
    s.moduleLost xyz = (({ s with bell := { s.bell with missRuns := Tab.set 0 s.bell.missRuns xyz 5 } } : State).recordLost xyz).fltEvent
      Reg.FLT_EVENT_LOST := by
  have hne : xyz ≠ 0xFFFF := hnamed.ne
  simp only [State.moduleLost, hne, if_false, hrun, ne_eq, not_true_eq_false]

/-- Settles O3: each command takes the branch that its hypotheses leave. -/
theorem bellReportsAndLatenessComplete : Obligations.BellReportsAndLatenessComplete := by
  refine ⟨?late, ?send, ?receive, ?lost⟩
  case late =>
    intro s hlimit
    exact congrArg Host.Outcome.next (State.when_of _ (decide_eq_true hlimit))
  case send =>
    intro s u hen hm hreport hrelay hended hunsent hu hparent
    exact congrArg Host.Outcome.next (State.sendReport_pushes hen hm hreport hrelay hended hunsent hu hparent)
  case receive =>
    intro s e r hrsv hhead hlow hhigh hen hchild htag
    rw [← State.takeReport_keeps hrsv hhead hen hchild htag]
    exact guarded_of (by simp [hlow, hhigh])
  case lost =>
    intro s xyz hnamed hrun
    exact congrArg Host.Outcome.next (State.moduleLost_named hnamed hrun)

end Sys2Proof.Machine
end

section
/-! SUPPORT. The matrix engines: what a MOP's stages and the commands on shares, slot maps and spares do where their checks are
passed. -/

namespace Sys2Proof.Machine

/-! ### The stages of a MOP (R60, R64 to R66, R71 to R73, R77, R78) -/

section Stages

variable {s : State} {n ps : Nat} {m : Mop}

/-- A stage of an engine that has a slot is its effect there. -/
theorem State.guarded_onSlot {f : Nat → State} {ok : Bool} (hok : ok = true) (hslot : s.slotOf n = some ps) :
    s.guarded ok (s.onSlot n f) = .next (f ps) := by
  rw [guarded_of hok, State.onSlot, hslot]
  rfl

/-- The round robin's MOP is chosen when none is chosen and none is between its first step and its last (R71, R78). -/
theorem State.chooseMop_of_choice {p : Nat} {lent : Bool} (hfence : (s.slot ps).closeStale.fenced = false)
    (hnone : (s.slot ps).closeStale.queue.any (fun m => decide (m.stage = .chosen)) = false)
    (hmid : s.midStream (s.slot ps).closeStale = false) (hchoice : s.choice n (s.slot ps).closeStale = some (p, lent)) :
    s.chooseMop n ps = s.chosenMop n ps p lent := by
  simp only [State.chooseMop, hfence, hnone, hmid, hchoice, Bool.or_self, Bool.false_eq_true, if_false]

/-- The chosen MOP streams when it may and what it reads has no parity error (R71). -/
theorem State.streamMop_of_mayStream (hchosen : (s.slot ps).queue.find? (fun q => decide (q.stage = .chosen)) = some m)
    (hmay : s.mayStream n (s.slot ps) m = true) (hoperand : s.operandBad n m = false) (hscale : s.scaleBad n m = false) :
    s.streamMop n ps = s.streamedMop n ps m := by
  simp only [State.streamMop, hchosen, hmay, hoperand, hscale, Bool.not_true, Bool.false_eq_true, if_false]

/-- The chosen MOP's accumulators are loaded when its buffer and the drain port are free (R60, R73). -/
theorem State.loadMop_of_free (hchosen : (s.slot ps).queue.find? (fun q => decide (q.stage = .chosen)) = some m) (hload : m.load = true)
    (hfirst : m.loaded = false) (hfence : (s.slot ps).fenced = false) (hfree : s.loadBlocked (s.slot ps) m = false)
    (hgood : s.anyBad n m.loadReads = false) : s.loadMop n ps = s.loadedMop n ps m := by
  simp only [State.loadMop, hchosen, hload, hfirst, hfence, hfree, hgood, Bool.not_true, Bool.or_self, Bool.false_eq_true, if_false]

/-- The MOP that ended its stream first drains 12 clocks after its last step, when the port is free (R72). -/
theorem State.startDrain_of_final (hfence : (s.slot ps).fenced = false) (hnext : (s.slot ps).drainNext = some m)
    (hfinal : 12 ≤ s.engClocks m.lastStep s.now) (hport : (s.slot ps).portFree ≤ s.now) (hgood : s.anyBad n m.tileReads = false) :
    s.startDrain n ps = s.drainingMop n ps m := by
  have hready : ¬ (s.engClocks m.lastStep s.now < 12 ∨ s.now < (s.slot ps).portFree) := by omega
  simp only [State.startDrain, hfence, hnext, hready, hgood, Bool.false_eq_true, if_false]

/-- A MOP whose phases have ended stores its output and posts its completion with status 0 (R65, R66). -/
theorem State.completeMop_of_done {p : Nat} (holdest : (s.slot ps).queue.find? (fun q => q.part == p) = some m) (hrej : m.rej = none)
    (hdone : s.mopDone m = true) (hfence : (s.slot ps).fenced = false) :
    s.completeMop n ps p = ((((s.setSlot ps { s.slot ps with queue := (s.slot ps).queue.eraseP (fun q => q.part == p) }).storeCells
      m.out).postMop n ps m 0).commitBells).tryResume n := by
  simp only [State.completeMop, holdest, hrej, hdone, hfence, Bool.not_true, Bool.or_self, Bool.false_eq_true, if_false]

/-- A rejected MOP whose turn it is posts its completion with the status of its rejection (R64, R65). -/
theorem State.completeMop_of_rejected {p st : Nat} (holdest : (s.slot ps).queue.find? (fun q => q.part == p) = some m)
    (hrej : m.rej = some st) (hturn : (s.slot ps).turnOf m = true) (hfence : (s.slot ps).fenced = false) :
    s.completeMop n ps p = (((s.setSlot ps { s.slot ps with queue := (s.slot ps).queue.eraseP (fun q => q.part == p) }).postMop
      n ps m st).commitBells).tryResume n := by
  simp only [State.completeMop, holdest, hrej, hturn, hfence, Bool.not_true, Bool.or_self, Bool.false_eq_true, if_false]

/-- A chain with no next MOP to choose is broken once its wait brings its partition's credit to minus one bell or below (R64, R77). -/
theorem execChainBreak_of_waited {w : Nat} {h : Chain} (hn : n < 16) (hslot : s.slotOf n = some ps)
    (hchain : (s.slot ps).closeStale.chain = some h) (hwait : h.waitFrom = some w) (hnone : s.choice n (s.slot ps).closeStale = none)
    (hnow : w ≤ s.now) (hspent : 8 * s.waitedCredit n h w ≤ -(s.bellClocks8 : Int)) :
    execChainBreak n s = .next ((s.setCredit n h.part (s.waitedCredit n h w)).breakChain ps h.part) := by
  refine (State.guarded_onSlot (decide_eq_true hn) hslot).trans ?_
  simp [hchain, hwait, hnone, hnow, hspent]

end Stages

/-- Settles O4: the engine's slot takes each stage, and the hypotheses pass the checks of that stage. -/
theorem mopStagesComplete : Obligations.MopStagesComplete := by
  refine ⟨?choose, ?stream, ?load, ?drain, ?done, ?rejected, ?chainBreak⟩
  case choose =>
    intro s n ps p lent hn hslot hfence hnone hmid hchoice
    rw [← State.chooseMop_of_choice hfence hnone hmid hchoice]
    exact State.guarded_onSlot (decide_eq_true hn) hslot
  case stream =>
    intro s n ps m hn hslot hchosen hmay hoperand hscale
    rw [← State.streamMop_of_mayStream hchosen hmay hoperand hscale]
    exact State.guarded_onSlot (decide_eq_true hn) hslot
  case load =>
    intro s n ps m hn hslot hchosen hload hfirst hfence hfree hgood
    rw [← State.loadMop_of_free hchosen hload hfirst hfence hfree hgood]
    exact State.guarded_onSlot (decide_eq_true hn) hslot
  case drain =>
    intro s n ps m hn hslot hfence hnext hfinal hport hgood
    rw [← State.startDrain_of_final hfence hnext hfinal hport hgood]
    exact State.guarded_onSlot (decide_eq_true hn) hslot
  case done =>
    intro s n ps p m hn hp hslot holdest hrej hdone hfence
    rw [← State.completeMop_of_done holdest hrej hdone hfence]
    exact State.guarded_onSlot (by simp [hn, hp]) hslot
  case rejected =>
    intro s n ps p st m hn hp hslot holdest hrej hturn hfence
    rw [← State.completeMop_of_rejected holdest hrej hturn hfence]
    exact State.guarded_onSlot (by simp [hn, hp]) hslot
  case chainBreak =>
    intro s n ps w h hn hslot hchain hwait hnone hnow hspent
    exact execChainBreak_of_waited hn hslot hchain hwait hnone hnow hspent

/-! ### Shares, slot maps and spares (R76, R82, R84, R340) -/

/-- A command of the PF whose operands name a unit has its effect while its block answers. -/
theorem State.fromPf_guarded_of_open {s t : State} {b : Nat} {ok : Bool} (hpf : s.pfOpen b = true) (hok : ok = true) :
    s.fromPf b (s.guarded ok t) = .next t := by
  rw [guarded_of hok, State.fromPf_of_open hpf]

/-- A share that keeps the sum of an engine with a slot within 64 is taken (R76, R84). -/
theorem State.writeShare_within {s : State} {n p v : Nat} (hsum : s.shareSum n - s.rd (Reg.ME_SHARE_SHARE n p) + bits v 0 7 ≤ 64)
    (hslot : (s.slotOf n).isSome = true) :
    s.writeShare n p v = (s.wr (Reg.ME_SHARE_SHARE n p) (bits v 0 7)).when (!s.on Reg.BELL_CTRL_EN)
      (fun t => { t with shares := Tab.set 0 t.shares (n * 64 + p) (bits v 0 7) }) := by
  have honline : (s.slotOf n).isNone = false := by
    rw [Option.isNone_eq_false_iff]
    exact hslot
  simp only [State.writeShare, hsum.not_gt, honline, decide_false, Bool.or_self, Bool.false_eq_true, if_false]

/-- A slot map that is not refused is taken, and the states of the die's slots follow (R82). -/
theorem State.writeMap_of_good {s : State} {src : Src} {d v : Nat} (hgood : s.mapBad d v = false) :
    s.writeMap src d v = (s.each 8 (fun l t => t.wr (meMapFld (8 * d + l)) (bits v (4 * l) 4))).refreshSlots d := by
  simp only [State.writeMap, hgood, Bool.false_eq_true, if_false]

section Spare

variable {s u : State} {d i : Nat}

/-- A die with a held slot, for which no switch-over waits, shows its spare as available (R82). -/
theorem State.spareReady_unawaited (hheld : (s.heldSlots d).head? = some i)
    (hu : u = (s.refreshSlots d).wr (Reg.ME_DIE_STATUS_SPARE_AVAIL d) 1)
    (hnone : u.flt.waitSpare.find? (fun w => w.n / 8 == d) = none) : s.spareReady d = u := by
  subst hu
  simp only [State.spareReady, hheld, hnone]

/-- The first switch-over that waits for a spare of the die goes on with the held slot (R82, R340). -/
theorem State.spareReady_awaited {w : SpareWait} (hheld : (s.heldSlots d).head? = some i)
    (hu : u = (s.refreshSlots d).wr (Reg.ME_DIE_STATUS_SPARE_AVAIL d) 1)
    (hwait : u.flt.waitSpare.find? (fun w => w.n / 8 == d) = some w) : s.spareReady d = u.goOn (d * 9 + i) w := by
  subst hu
  simp only [State.spareReady, hheld, hwait]

end Spare

/-- Settles O5: the writes pass the PF's block and their own checks; a spare is awaited or not. -/
theorem shareAndMapWritesComplete : Obligations.ShareAndMapWritesComplete := by
  refine ⟨?share, ?map, ?lock, ?unawaited, ?awaited⟩
  case share =>
    intro s n p v hpf hn hp hsum hslot
    rw [← State.writeShare_within hsum hslot]
    exact State.fromPf_guarded_of_open hpf (by simp [hn, hp])
  case map =>
    intro s d v hpf hd hgood
    rw [← State.writeMap_of_good (src := .pf) hgood]
    exact State.fromPf_guarded_of_open hpf (decide_eq_true hd)
  case lock =>
    intro s d hpf hd
    exact State.fromPf_guarded_of_open hpf (decide_eq_true hd)
  case unawaited =>
    intro s u d i hd hheld hu hnone
    exact (guarded_of (decide_eq_true hd)).trans (congrArg Host.Outcome.next (State.spareReady_unawaited hheld hu hnone))
  case awaited =>
    intro s u d i w hd hheld hu hwait
    exact (guarded_of (decide_eq_true hd)).trans (congrArg Host.Outcome.next (State.spareReady_awaited hheld hu hwait))

end Sys2Proof.Machine
end

section
/-! SUPPORT. The coprocessor block: what an enqueue, the engine's status and the parse assist do where their checks are passed. -/

namespace Sys2Proof.Machine

/-! ### C-format instructions (R88, R115) -/

/-- A C-format instruction whose body finishes at the next address completes. -/
theorem State.issue_completesC {s t : State} {c : Nat} {f : CForm} {d : Bool} {body : State → Ctx → Except Stop State} {y : Ctx}
    {base cost : Nat} (hi : s.canIssue c f.len) (hd : d = true)
    (hb : body s (s.ctx c) = .ok (t.finish c y ((s.ctx c).pc + BitVec.ofNat 32 f.len) cost)) (hcost : cost = base + extCost f.len) :
    s.guarded (decide (c < 321)) (s.issue c f.len d 0 body) = s.completesC t c f y base := by
  obtain ⟨hc, -⟩ := id hi
  rw [guarded_of (decide_eq_true hc), State.issue_completes hi hd (Nat.not_lt_zero _) hb, hcost]
  rfl

/-- A C-format instruction whose body leaves the state `t` leaves it. -/
theorem State.issue_nextC {s t : State} {c : Nat} {f : CForm} {d : Bool} {body : State → Ctx → Except Stop State}
    (hi : s.canIssue c f.len) (hd : d = true) (hb : body s (s.ctx c) = .ok t) :
    s.guarded (decide (c < 321)) (s.issue c f.len d 0 body) = .next t := by
  obtain ⟨hc, -⟩ := id hi
  rw [guarded_of (decide_eq_true hc), State.issue_completes hi hd (Nat.not_lt_zero _) hb]

/-- A one-word instruction on registers alone, defined and allowed, completes (R88). -/
theorem State.register_completes {s : State} {c level base : Nat} {d : Bool} {g : Ctx → Ctx} (hi : s.canIssue c 4) (hd : d = true)
    (hl : ¬ (s.ctx c).level < level) : s.guarded (decide (c < 321)) (s.register c d level base g) = s.completesR c base (g (s.ctx c)) := by
  obtain ⟨hc, -⟩ := id hi
  have hbody : s.register c d level base g = s.finish c (g (s.ctx c)) ((s.ctx c).pc + 4) base := State.issue_completes hi hd hl rfl
  rw [guarded_of (decide_eq_true hc), hbody]
  rfl

/-! ### Enqueues (R55, R84, R116) -/

section Enqueue

variable {s t : State} {c n : Nat} {f : CForm} {defined : Bool} {r : State × List Nat × Nat}
  {offer : State → Ctx → List Nat → Except State State} {wait : List Nat → Nat → Nat → Wait} {blocked : State → List Nat → State}

/-- An enqueue with room completes, and the try form sets C. -/
theorem State.enqueue_queued (try_ : Bool) (hi : s.canIssue c f.len) (hd : (defined && f.ok) = true)
    (hr : s.descriptor c (s.ctx c) (f.ca (s.ctx c)) n = .ok r) (ho : offer r.1 (s.ctx c) (wordsOf r.2.1) = .ok t) :
    s.guarded (decide (c < 321)) (s.enqueue c f defined try_ n offer wait blocked) =
      s.completesC t c f (if try_ then (s.ctx c).setFlag 2 true else s.ctx c) (4 + r.2.2) :=
  State.issue_completesC hi hd (by simp only [hr, ho]) (Nat.add_right_comm ..)

/-- The try form of an enqueue without room completes and clears C. -/
theorem State.enqueue_refused (hi : s.canIssue c f.len) (hd : (defined && f.ok) = true)
    (hr : s.descriptor c (s.ctx c) (f.ca (s.ctx c)) n = .ok r) (ho : offer r.1 (s.ctx c) (wordsOf r.2.1) = .error t) :
    s.guarded (decide (c < 321)) (s.enqueue c f defined true n offer wait blocked) =
      s.completesC t c f ((s.ctx c).setFlag 2 false) (4 + r.2.2) :=
  State.issue_completesC hi hd (by simp only [hr, ho, if_true]) (Nat.add_right_comm ..)

/-- The plain form of an enqueue without room waits with its descriptor. -/
theorem State.enqueue_waits (hi : s.canIssue c f.len) (hd : (defined && f.ok) = true)
    (hr : s.descriptor c (s.ctx c) (f.ca (s.ctx c)) n = .ok r) (ho : offer r.1 (s.ctx c) (wordsOf r.2.1) = .error t) :
    s.guarded (decide (c < 321)) (s.enqueue c f defined false n offer wait blocked) =
      .next ((blocked t (wordsOf r.2.1)).setCtx c
        { s.ctx c with run := .waiting (wait (wordsOf r.2.1) f.len (4 + extCost f.len + r.2.2)) s.now }) :=
  State.issue_nextC hi hd (by simp only [hr, ho, Bool.false_eq_true, if_false])

/-- The room of CP2's queue, a free value, decides whether CIQ waits and what CIQT says in C (R116; notes/assumptions/37.md). -/
theorem execCiq_of_drawn (hi : s.canIssue c f.len) (hf : f.ok = true) (hc : 288 ≤ c)
    (hr : s.descriptor c (s.ctx c) (f.ca (s.ctx c)) 64 = .ok r) :
    execCiq c f s = (if r.1.draw.1 % 2 = 1 then .next (r.1.draw.2.setCtx c
        { s.ctx c with run := .waiting (.ciphRoom (wordsOf r.2.1) f.len (4 + extCost f.len + r.2.2)) s.now })
      else s.completesC (r.1.draw.2.takeCiph c (wordsOf r.2.1)) c f (s.ctx c) (4 + r.2.2)) ∧
    execCiqt c f s = (if r.1.draw.1 % 2 = 1 then s.completesC r.1.draw.2 c f ((s.ctx c).setFlag 2 false) (4 + r.2.2)
      else s.completesC (r.1.draw.2.takeCiph c (wordsOf r.2.1)) c f ((s.ctx c).setFlag 2 true) (4 + r.2.2)) := by
  have hd : (!isTc c && f.ok) = true := by simp [isTc, hc.not_gt, hf]
  by_cases hfull : r.1.draw.1 % 2 = 1
  · rw [if_pos hfull, if_pos hfull]
    exact ⟨State.enqueue_waits hi hd hr (if_pos hfull), State.enqueue_refused hi hd hr (if_pos hfull)⟩
  · rw [if_neg hfull, if_neg hfull]
    exact ⟨State.enqueue_queued false hi hd hr (if_neg hfull), State.enqueue_queued true hi hd hr (if_neg hfull)⟩

end Enqueue

/-! ### Parse assist (R117, R278) -/

section ParseAssist

variable {s t : State} {c : Nat} {f : CForm} {bs : List Nat}

/-- PCSUM of at most 65536 bytes (R117). -/
theorem execPcsum_completes (hi : s.canIssue c f.len) (hd : (isIoc c && f.ok) = true) (hlen : (s.ctx c).x.toNat ≤ 65536)
    (hbs : s.coreBytes c (s.ctx c) (f.ca (s.ctx c)) (s.ctx c).x.toNat = .ok (t, bs)) :
    execPcsum c f s = s.completesC t c f { s.ctx c with a := BitVec.ofNat 64 (onesSum ((s.ctx c).a.toNat % 65536) bs) }
      (4 + ceilDiv (s.ctx c).x.toNat 16) :=
  State.issue_completesC hi hd (by simp only [hlen.not_gt, if_false, hbs]) rfl

/-- PHASH of at most 36 bytes, whose key can be read (R117). -/
theorem execPhash_completes {u : State} {key : List Nat} (hi : s.canIssue c f.len) (hd : (isIoc c && f.ok) = true)
    (hlen : (s.ctx c).x.toNat ≤ 36) (hbs : s.coreBytes c (s.ctx c) (f.ca (s.ctx c)) (s.ctx c).x.toNat = .ok (t, bs))
    (hkey : t.coreBytes c (s.ctx c) (s.ctx c).y.toNat ((s.ctx c).x.toNat + 4) = .ok (u, key)) :
    execPhash c f s = s.completesC u c f { s.ctx c with a := BitVec.ofNat 64 (toeplitz key bs) } (4 + ceilDiv (s.ctx c).x.toNat 4) :=
  State.issue_completesC hi hd (by simp only [hlen.not_gt, if_false, hbs, hkey]) rfl

/-- The room of the classifier's input, a free value, decides whether PCLS waits and what PCLST says in C (R278). -/
theorem execPcls_of_drawn (hi : s.canIssue c f.len) (hd : (isIoc c && f.ok) = true)
    (hbs : s.coreBytes c (s.ctx c) (f.ca (s.ctx c)) 64 = .ok (t, bs)) :
    execPcls c f s = (if t.draw.1 % 2 = 1 then .next (t.draw.2.setCtx c
        { s.ctx c with run := .waiting (.classRoom bs f.len (5 + extCost f.len)) t.now })
      else s.completesC (t.draw.2.submit bs).1 c f { s.ctx c with a := BitVec.ofNat 64 (t.draw.2.submit bs).2.1 }
        (5 + (t.draw.2.submit bs).2.2)) ∧
    execPclst c f s = (if t.draw.1 % 2 = 1 then s.completesC t.draw.2 c f ((s.ctx c).setFlag 2 false) 5
      else s.completesC (t.draw.2.submit bs).1 c f
        (({ s.ctx c with a := BitVec.ofNat 64 (t.draw.2.submit bs).2.1 } : Ctx).setFlag 2 true) (5 + (t.draw.2.submit bs).2.2)) := by
  by_cases hfull : t.draw.1 % 2 = 1
  · rw [if_pos hfull, if_pos hfull]
    exact ⟨State.issue_nextC hi hd (by simp [hbs, hfull]), State.issue_completesC hi hd (by simp [hbs, hfull]) rfl⟩
  · rw [if_neg hfull, if_neg hfull]
    exact ⟨State.issue_completesC hi hd (by simp [hbs, hfull]) (Nat.add_right_comm ..),
      State.issue_completesC hi hd (by simp [hbs, hfull]) (Nat.add_right_comm ..)⟩

end ParseAssist

/-! ### The end of a stall (R116) -/

section Stall

variable {s t : State} {c len cost since : Nat} {w : List Nat}

/-- A stalled MOPQ goes on once its engine has room. -/
theorem State.releaseStall_mopq (hrun : (s.ctx c).run = .waiting (.mopRoom w len cost) since) (hroom : s.offerMop c (s.ctx c) w = some t) :
    s.releaseStall c = t.resumeAs c { s.ctx c with run := .running } len cost since := by
  simp only [State.releaseStall, hrun, hroom]

/-- A stalled CPDQ goes on once its copy engine has room. -/
theorem State.releaseStall_cpdq (hrun : (s.ctx c).run = .waiting (.cpdRoom w len cost) since) (hroom : s.offerCpd c (s.ctx c) w = some t) :
    s.releaseStall c = t.resumeAs c { s.ctx c with run := .running } len cost since := by
  simp only [State.releaseStall, hrun, hroom]

/-- A stalled CIQ goes on. -/
theorem State.releaseStall_ciq (hrun : (s.ctx c).run = .waiting (.ciphRoom w len cost) since) :
    s.releaseStall c = (s.takeCiph c w).resumeAs c { s.ctx c with run := .running } len cost since := by
  simp only [State.releaseStall, hrun]

end Stall

/-- Settles O12: the enqueues split by what their target offers, the parse assist by its lengths and the drawn room. -/
theorem coprocessorInstructionsComplete : Obligations.CoprocessorInstructionsComplete := by
  refine ⟨?mopq, ?mopqtFull, ?cpdq, ?cpdqtFull, ?ciq, ?mestat, ?pcsum, ?phash, ?pcls, ?release⟩
  case mopq =>
    intro s c f r t hi hf hc hr ho
    have hd : (isTc c && f.ok) = true := by simp [isTc, hc, hf]
    have ho' : orKeep r.1 (r.1.offerMop c (s.ctx c) (wordsOf r.2.1)) = .ok t := by rw [ho]; rfl
    exact ⟨State.enqueue_queued false hi hd hr ho', State.enqueue_queued true hi hd hr ho'⟩
  case mopqtFull =>
    intro s c f r hi hf hc hr ho
    have hd : (isTc c && f.ok) = true := by simp [isTc, hc, hf]
    have ho' : orKeep r.1 (r.1.offerMop c (s.ctx c) (wordsOf r.2.1)) = .error r.1 := by rw [ho]; rfl
    exact State.enqueue_refused hi hd hr ho'
  case cpdq =>
    intro s c f r t hi hf hr ho
    have ho' : orKeep r.1 (r.1.offerCpd c (s.ctx c) (wordsOf r.2.1)) = .ok t := by rw [ho]; rfl
    exact ⟨State.enqueue_queued false hi hf hr ho', State.enqueue_queued true hi hf hr ho'⟩
  case cpdqtFull =>
    intro s c f r hi hf hr ho
    have ho' : orKeep r.1 (r.1.offerCpd c (s.ctx c) (wordsOf r.2.1)) = .error r.1 := by rw [ho]; rfl
    exact State.enqueue_refused hi hf hr ho'
  case ciq =>
    intro s c f r hi hf hc hr
    exact execCiq_of_drawn hi hf hc hr
  case mestat =>
    intro s c hi hc
    exact State.register_completes hi (decide_eq_true hc) (Nat.not_lt_zero _)
  case pcsum =>
    intro s t c f bs hi hf hc hlen hbs
    exact execPcsum_completes hi (by simp [hc, hf]) hlen hbs
  case phash =>
    intro s t u c f bs key hi hf hc hlen hbs hkey
    exact execPhash_completes hi (by simp [hc, hf]) hlen hbs hkey
  case pcls =>
    intro s t c f bs hi hf hc hbs
    exact execPcls_of_drawn hi (by simp [hc, hf]) hbs
  case release =>
    intro s t c len cost since w hc hstall
    refine (guarded_of (decide_eq_true hc)).trans (congrArg Host.Outcome.next ?_)
    rcases hstall with ⟨hrun, hroom⟩ | ⟨hrun, hroom⟩ | ⟨hrun, rfl⟩
    · exact State.releaseStall_mopq hrun hroom
    · exact State.releaseStall_cpdq hrun hroom
    · exact State.releaseStall_ciq hrun

end Sys2Proof.Machine
end

section
/-! SUPPORT. Instructions of formats M, R and J: what each does where it is fetched, defined, allowed, and its accesses are taken. -/

namespace Sys2Proof.Machine

/-! ### Format M (R88, R92 to R95) -/

/-- An instruction that is fetched, defined and allowed answers what its body gives (R88). -/
theorem State.issue_next {s t : State} {c len level : Nat} {d : Bool} {body : State → Ctx → Except Stop State} (hi : s.canIssue c len)
    (hd : d = true) (hl : level ≤ (s.ctx c).level) (hb : body s (s.ctx c) = .ok t) :
    s.guarded (decide (c < 321)) (s.issue c len d level body) = .next t := by
  obtain ⟨hc, -⟩ := id hi
  rw [guarded_of (decide_eq_true hc), State.issue_completes hi hd hl.not_gt hb]

section FormatM

variable {s : State} {c base : Nat} {m : MForm} {d : Bool}

/-- An instruction on an operand that can be read completes with the registers that its operation gives (R94, R95). -/
theorem State.operate_completes {r : State × BitVec 64 × Nat} {f : Ctx → BitVec 64 → Ctx} (hi : s.canIssue c m.len) (hd : d = true)
    (hm : m.ok = true) (hr : s.operand c (s.ctx c) m = .ok r) :
    s.guarded (decide (c < 321)) (s.operate c m d base f) = s.completesM c m r base (f (s.ctx c) r.2.1) :=
  State.issue_next hi (by simp [hd, hm]) (Nat.zero_le _) (by simp only [hr])

/-- A store through an unsigned memory mode, whose address takes it, completes (R94). -/
theorem State.storeReg_completes {r : State × Nat} {v : Ctx → Nat} (hi : s.canIssue c m.len) (hd : d = true) (hm : m.ok = true)
    (himm : m.imm = false) (hsx : m.sx = false) (hr : s.store c (s.ctx c) (m.ea (s.ctx c)) m.nbytes (v (s.ctx c)) = .ok r) :
    s.guarded (decide (c < 321)) (s.storeReg c m d v) = s.completesM c m (r.1, 0, r.2) 1 (s.ctx c) :=
  State.issue_next hi (by simp [hd, hm, himm, hsx]) (Nat.zero_le _) (by simp only [hr])

/-- LUT of a well-formed descriptor, whose entries can be read in local memory, completes with R51's lookup (R102). -/
theorem State.lut_completes {a q n h table : Nat} {b : Int} {interp : Bool} (hi : s.canIssue c m.len) (hm : m.ok = true)
    (himm : m.imm = false) (hc : c < 288) (hreach : s.reach c (s.ctx c) (m.ea (s.ctx c)) 16 false = .ok (.mem a false))
    (hread : s.readable a 16 = true) (hfields : lutFields (s.bytes a 16) = some (b, h, interp, n, table))
    (htable : s.coreAddr c (s.ctx c) table (2 * n) false = some (.mem q false))
    (hentry : s.readable (q + 2 * (lookupAt n (sext 32 (s.ctx c).a.toNat) b h).1)
      (if interp && (lookupAt n (sext 32 (s.ctx c).a.toNat) b h).2 != 0 then 4 else 2) = true) :
    s.guarded (decide (c < 321)) (s.lut c m) = s.completesM c m (s, 0, 0) (if interp then 8 else 7)
      ((s.ctx c).setA (BitVec.ofInt 64 (lookup (fun i => sext 16 (s.ld (q + 2 * i) 2)) n (sext 32 (s.ctx c).a.toNat) b h interp))) := by
  refine State.issue_next hi (by simp [isTc, hc, hm, himm]) (Nat.zero_le _) ?_
  simp only [hreach, hread, hfields, htable, hentry, Bool.not_true, Bool.false_eq_true, if_false]
  rfl

end FormatM

/-- Settles O6: each instruction issues with the checks that its hypotheses pass, and its operand reads. -/
theorem operandInstructionsComplete : Obligations.OperandInstructionsComplete := by
  refine ⟨?accumulator, ?index, ?ldb, ?crc, ?mac, ?address⟩
  case accumulator =>
    intro s c m r hi hm hr
    have h {base : Nat} {f : Ctx → BitVec 64 → Ctx} := State.operate_completes (base := base) (f := f) hi rfl hm hr
    exact ⟨h, h, h, h, h, h, h, h, h, h, h, h, h, h, h, h, h, h, h, h, h, h, h, h⟩
  case index =>
    intro s c m r hi hm hw hr
    exact ⟨State.operate_completes hi hw hm hr, State.operate_completes hi hw hm hr⟩
  case ldb =>
    intro s c m r hi hm hc hr
    exact State.operate_completes hi (decide_eq_true hc) hm hr
  case crc =>
    intro s c m r hi hm hw hr
    exact State.operate_completes hi hw hm hr
  case mac =>
    intro s c m r q hi hm hr hq
    exact State.issue_next hi hm (Nat.zero_le _) (by simp only [hr, hq])
  case address =>
    intro s c m hi hm himm
    have hd : (m.ok && !m.imm) = true := by simp [hm, himm]
    exact ⟨State.issue_next hi hd (Nat.zero_le _) rfl, State.issue_next hi hd (Nat.zero_le _) rfl⟩

/-- Settles O7: each store issues with the checks that its hypotheses pass, and its address takes the access. -/
theorem storesAndLookupComplete : Obligations.StoresAndLookupComplete := by
  refine ⟨?sta, ?stx, ?sty, ?stb, ?lut⟩
  case sta =>
    intro s c m r hi hm himm hsx hr
    exact State.storeReg_completes hi rfl hm himm hsx hr
  case stx =>
    intro s c m r hi hm himm hsx hw hr
    exact State.storeReg_completes hi hw hm himm hsx hr
  case sty =>
    intro s c m r hi hm himm hsx hw hr
    exact State.storeReg_completes hi hw hm himm hsx hr
  case stb =>
    intro s c m r hi hm himm hsx hc hr
    exact State.storeReg_completes hi (decide_eq_true hc) hm himm hsx hr
  case lut =>
    intro s c m a q n h table b interp hi hm himm hc hreach hread hfields htable hentry
    exact State.lut_completes hi hm himm hc hreach hread hfields htable hentry

/-! ### The group REG (R98, R101, R103) -/

/-- A conversion whose argument names a format completes (R103). -/
theorem State.convert_completes {s : State} {c : Nat} {arg : BitVec 12} {f : Ctx → Fmt → Ctx} {k : Fmt} (hi : s.canIssue c 4)
    (hk : argFmt arg = some k) : s.guarded (decide (c < 321)) (s.convert c arg f) = s.completesR c 1 (f (s.ctx c) k) := by
  refine (State.register_completes hi (by simp [hk]) (Nat.not_lt_zero _)).trans ?_
  simp only [hk, Option.elim_some]

/-- DMAC of two aligned words that can be read completes (R101). -/
theorem State.dmac_completes {s : State} {c : Nat} {arg : BitVec 12} {r q : State × Nat × Nat} (hi : s.canIssue c 4) (hc : c < 288)
    (harg : arg.toNat < 16) (hwidth : arg.toNat / 4 % 4 ≠ 3) (hx : (s.ctx c).x.toNat % 8 = 0) (hy : (s.ctx c).y.toNat % 8 = 0)
    (hr : s.load c (s.ctx c) (s.ctx c).x.toNat 8 = .ok r) (hq : r.1.load c (s.ctx c) (s.ctx c).y.toNat 8 = .ok q) :
    s.guarded (decide (c < 321)) (s.dmac c arg) = .next (q.1.finish c ((s.ctx c).regDmac (BitVec.ofNat 64 r.2.1) (BitVec.ofNat 64 q.2.1)
      (arg.getLsbD 0) (arg.getLsbD 1) (8 * 2 ^ (arg.toNat / 4 % 4))) ((s.ctx c).pc + 4) (1 + Nat.max r.2.2 q.2.2)) := by
  have hdefined : (isTc c && decide (arg.toNat / 16 = 0) && decide (arg.toNat / 4 % 4 ≠ 3)) = true := by
    simp [isTc, hc, Nat.div_eq_of_lt harg, hwidth]
  exact State.issue_next hi hdefined (Nat.zero_le _) (by simp only [hx, hy, hr, hq, ne_eq, not_true_eq_false, if_false])

/-- Settles O8: each function is defined by its argument or its core, and works on registers, or on two words at X and Y. -/
theorem registerInstructionsComplete : Obligations.RegisterInstructionsComplete := by
  refine ⟨?moves, ?onB, ?index, ?width, ?satu, ?convert, ?dmac⟩
  case moves =>
    intro s c hi
    have h {f : Ctx → Ctx} := State.register_completes (base := 1) (g := f) hi rfl (Nat.not_lt_zero _)
    exact ⟨h, h, h, h, h, h, h, h, h, h, h, h, h⟩
  case onB =>
    intro s c hi hc
    have h {f : Ctx → Ctx} := State.register_completes (base := 1) (g := f) hi (decide_eq_true hc) (Nat.not_lt_zero _)
    exact ⟨h, h, h, h, h⟩
  case index =>
    intro s c arg hi
    have h {f : Ctx → Ctx} := State.register_completes (base := 1) (g := f) hi rfl (Nat.not_lt_zero _)
    exact ⟨h, h⟩
  case width =>
    intro s c arg hi hlo hhi
    have hd : argIn arg 1 64 = true := by simp [argIn, hlo, hhi]
    have h {f : Ctx → Ctx} := State.register_completes (base := 1) (g := f) hi hd (Nat.not_lt_zero _)
    exact ⟨h, h, h⟩
  case satu =>
    intro s c arg hi hlo hhi
    exact State.register_completes hi (by simp [argIn, hlo, hhi]) (Nat.not_lt_zero _)
  case convert =>
    intro s c arg f hi hf
    exact ⟨State.convert_completes hi hf, State.convert_completes hi hf, State.convert_completes hi hf⟩
  case dmac =>
    intro s c arg r q hi hc harg hwidth hx hy hr hq
    exact State.dmac_completes hi hc harg hwidth hx hy hr hq

/-! ### Branches and the stack (R104, R105) -/

/-- PUSH and POP name a register that the core has: B is a tending core's alone. -/
theorem slotDefined_of {c : Nat} {arg : BitVec 12} (h : c < 288 ∨ arg.toNat % 4 ≠ 1) : (isTc c || arg.toNat % 4 != 1) = true := by
  simpa [isTc] using h

/-- Settles O9: a branch is decided by its condition, a call or stack instruction by its access to the stack. -/
theorem branchesAndStackComplete : Obligations.BranchesAndStackComplete := by
  refine ⟨?b, ?dbnz, ?jmp, ?call, ?ret, ?push, ?pop⟩
  case b =>
    intro s c k off hi hk
    exact State.issue_next hi (bne_iff_ne.mpr hk) (Nat.zero_le _) rfl
  case dbnz =>
    intro s c off hi
    exact ⟨State.issue_next hi rfl (Nat.zero_le _) rfl, State.issue_next hi rfl (Nat.zero_le _) rfl⟩
  case jmp =>
    intro s c m hi hm himm
    exact State.issue_next hi (by simp [hm, himm]) (Nat.zero_le _) rfl
  case call =>
    intro s c m r hi hm himm hr
    exact State.issue_next hi (by simp [hm, himm]) (Nat.zero_le _) (by simp only [hr])
  case ret =>
    intro s c r hi hr
    exact State.issue_next hi rfl (Nat.zero_le _) (by simp only [hr])
  case push =>
    intro s c arg r hi hslot hr
    exact State.issue_next hi (slotDefined_of hslot) (Nat.zero_le _) (by simp only [hr])
  case pop =>
    intro s c arg r hi hslot hr
    exact State.issue_next hi (slotDefined_of hslot) (Nat.zero_le _) (by simp only [hr])

/-! ### System instructions (R105, R106, R111 to R113, R383) -/

/-- FENCE of no class completes at once; another waits for the drain's clocks, a free value (notes/assumptions/33.md). -/
theorem State.fence_completes {s : State} {c : Nat} {arg : BitVec 12} (hi : s.canIssue c 4) :
    s.guarded (decide (c < 321)) (s.fence c arg) = (if arg.toNat % 4 = 0 then s.completesR c 1 (s.ctx c)
      else .next (s.draw.2.finish c (s.ctx c) ((s.ctx c).pc + 4) (1 + s.draw.1))) := by
  by_cases hnone : arg.toNat % 4 = 0
  · rw [if_pos hnone]
    exact State.issue_next hi rfl (Nat.zero_le _) (by simp only [hnone, if_true])
  · rw [if_neg hnone]
    exact State.issue_next hi rfl (Nat.zero_le _) (by simp only [hnone, if_false])

/-- Settles O10: each instruction is one of its core, at a level that it may be given. That a context's first STEP is taken and the LEVEL
that ERET restores are the model's choice (notes/assumptions/8.md, 36.md). -/
theorem systemInstructionsComplete : Obligations.SystemInstructionsComplete := by
  refine ⟨?fence, ?trap, ?rdcnt, ?heavy, ?stepTaken, ?stepRefused, ?mfsr, ?mtsr, ?eretHalt, ?eiDi, ?wdog⟩
  case fence =>
    intro s c arg hi
    exact State.fence_completes hi
  case trap =>
    intro s c arg hi
    exact State.issue_next hi rfl (Nat.zero_le _) rfl
  case rdcnt =>
    intro s c arg hi hdefined
    exact State.register_completes hi hdefined (Nat.not_lt_zero _)
  case heavy =>
    intro s c n arg hi hc hn
    exact State.issue_next hi (decide_eq_true hc) (Nat.zero_le _) (by simp only [hn, Option.elim_some])
  case stepTaken =>
    intro s c hi hc habove
    exact State.issue_next hi (decide_eq_true hc) (Nat.zero_le _) (by simp only [habove, if_true])
  case stepRefused =>
    intro s c hi hc habove
    exact State.issue_next hi (decide_eq_true hc) (Nat.zero_le _) (by simp only [habove, Bool.false_eq_true, if_false])
  case mfsr =>
    intro s c arg hi hlisted hlevel
    exact State.register_completes hi hlisted hlevel.not_gt
  case mtsr =>
    intro s c arg hi hlisted hlevel hcmp
    have hother : arg.toNat ≠ 0x23 := fun h => hcmp (BitVec.eq_of_toNat_eq h)
    exact State.issue_next hi hlisted hlevel (by simp only [hother, if_false])
  case eretHalt =>
    intro s c hi hlevel
    exact ⟨State.issue_next hi rfl hlevel rfl, State.issue_next hi rfl hlevel rfl⟩
  case eiDi =>
    intro s c hi hlevel hc
    have hd : (!isTc c) = true := by simp [isTc, hc]
    exact ⟨State.register_completes hi hd hlevel.not_gt, State.register_completes hi hd hlevel.not_gt⟩
  case wdog =>
    intro s hi hlevel
    exact State.issue_next hi rfl hlevel rfl

end Sys2Proof.Machine
end

section
/-! SUPPORT. What a context waits for and what ends its wait, what interrupts it, how it starts, stops and is bound; and the
completion counters that it may wait for. -/

namespace Sys2Proof.Machine

/-! ### Waits and their releases (R107, R108, R114) -/

section Wait

variable {s : State} {c since : Nat}

/-- A release for a bell at which the context does not freeze, and for which a snapshot has room, gives it the registers `x` (R107, R162,
R332). -/
theorem State.releaseFor_of_room {b : Nat} (x : Ctx) (hfreeze : (isTc c && s.freezesAt (s.ctxPart c) b) = false)
    (hroom : s.snapRoom c b = true) :
    s.releaseFor c x b since =
      ((s.resumeAs c { x with pb := BitVec.ofNat 64 b, late := isTc c && decide (b < s.count) } 4 2 since).takeSnap c).owedLess c := by
  simp only [State.releaseFor, hfreeze, hroom, Bool.not_true, Bool.false_eq_true, if_false]

/-- A WAITBELL whose bell the counter has reached is released for it. -/
theorem State.releaseBell_of_reached (hrun : (s.ctx c).run = .waiting .bell since) (hcount : (s.ctx c).pb.toNat + 1 ≤ s.count) :
    s.releaseBell c = s.releaseFor c { s.ctx c with a := BitVec.ofNat 64 ((s.ctx c).pb.toNat + 1) } ((s.ctx c).pb.toNat + 1) since := by
  simp only [State.releaseBell, hrun, hcount, if_true]

/-- A WAITBELLT that was in time is released with C = 1 once the counter has reached its target. -/
theorem State.releaseTarget_of_reached {b : Nat} (hrun : (s.ctx c).run = .waiting (.bellT b false) since) (hcount : b ≤ s.count) :
    s.releaseTarget c = s.releaseFor c ((s.ctx c).setFlag 2 true) b since := by
  simp only [State.releaseTarget, hrun, hcount.not_gt, if_false]
  rfl

/-- A WAIT whose counter has reached its target ends with C = 1. -/
theorem State.releaseCounter_of_reached {p id target : Nat} {lim : Option Nat}
    (hrun : (s.ctx c).run = .waiting (.counter p id target lim) since) (hreached : reached (s.counterSeen c p id) target = true) :
    s.releaseCounter c = s.resumeAs c ((s.ctx c).setFlag 2 true) 4 2 since := by
  simp only [State.releaseCounter, hrun, hreached, if_true]

/-- A WAIT whose limit has passed ends with C = 0. -/
theorem State.timeoutCounter_of_passed {p id target lim : Nat} (hrun : (s.ctx c).run = .waiting (.counter p id target (some lim)) since)
    (hlim : lim ≤ s.coreClocks c since) : s.timeoutCounter c = s.resumeAs c ((s.ctx c).setFlag 2 false) 4 2 since := by
  simp only [State.timeoutCounter, hrun, hlim, if_true]

end Wait

/-- Settles O11: an instruction enters its wait and looks for its release at once; a release follows what the context waits for. -/
theorem waitsAndReleasesComplete : Obligations.WaitsAndReleasesComplete := by
  refine ⟨?waitbell, ?bellRelease, ?waitbellt, ?targetRelease, ?wait, ?waitRelease, ?waitTimeout⟩
  case waitbell =>
    intro s c hi
    exact State.issue_next hi rfl (Nat.zero_le _) rfl
  case bellRelease =>
    intro s c since hc hrun hcount hfreeze hroom
    refine (guarded_of (decide_eq_true hc)).trans (congrArg Host.Outcome.next ?_)
    rw [State.releaseBell_of_reached hrun hcount, State.releaseFor_of_room _ hfreeze hroom]
  case waitbellt =>
    intro s c hi habove
    exact State.issue_next hi rfl (Nat.zero_le _) (if_neg habove.not_ge)
  case targetRelease =>
    intro s c b since hc hrun hcount hfreeze hroom
    refine (guarded_of (decide_eq_true hc)).trans (congrArg Host.Outcome.next ?_)
    rw [State.releaseTarget_of_reached hrun hcount, State.releaseFor_of_room _ hfreeze hroom]
  case wait =>
    intro s c arg hi hdefined hfreeze
    exact State.issue_next hi hdefined (Nat.zero_le _) (if_neg (by simp [hfreeze]))
  case waitRelease =>
    intro s c p id target since lim hc hrun hreached
    exact (guarded_of (decide_eq_true hc)).trans (congrArg Host.Outcome.next (State.releaseCounter_of_reached hrun hreached))
  case waitTimeout =>
    intro s c p id target since lim hc hrun hlim
    exact (guarded_of (decide_eq_true hc)).trans (congrArg Host.Outcome.next (State.timeoutCounter_of_passed hrun hlim))

/-! ### Interrupts (R106, R121) -/

section Interrupt

variable {s : State} {c cause : Nat}

/-- No clock of a core but a tending core passes between a time and itself. -/
theorem State.coreClocks_now (htc : isTc c = false) : s.coreClocks c s.now = 0 := by
  simp [State.coreClocks, htc, State.hubClocks]

/-- A core that takes interrupts and runs takes one between its instructions; the Reeve's pending cause is taken. -/
theorem State.interrupt_of_running (htc : isTc c = false) (hrun : (s.ctx c).run = .running) (hie : (s.ctx c).flag 10 = true) :
    s.interrupt c cause =
      (if isReeve c then { s with reeveInts := s.reeveInts.erase cause } else s).takeExc c (s.ctx c) 0x10 cause 0 (s.ctx c).pc := by
  have hctx : { s.ctx c with run := .running, cycle := (s.ctx c).cycle + 0 } = s.ctx c := by
    rw [← hrun, show (s.ctx c).cycle + 0 = (s.ctx c).cycle from BitVec.add_zero _]
  simp only [State.interrupt, hrun, htc, hie, Bool.not_true, Bool.or_self, Bool.false_eq_true, if_false, State.coreClocks_now htc]
  exact congrArg (State.takeExc _ c · 0x10 cause 0 (s.ctx c).pc) hctx

/-- An interrupt ends a WAITBELL, WAITBELLT or WAIT of an I/O core, whose clocks have passed (R106). -/
theorem State.interrupt_of_waiting {w : Nat} (htc : isTc c = false) (hreeve : isReeve c = false)
    (hrun : (s.ctx c).run = .waiting .bell w ∨ (∃ b m, (s.ctx c).run = .waiting (.bellT b m) w) ∨
      ∃ p i v l, (s.ctx c).run = .waiting (.counter p i v l) w) (hie : (s.ctx c).flag 10 = true) :
    s.interrupt c cause = s.takeExc c
      { s.ctx c with run := .running, cycle := (s.ctx c).cycle + BitVec.ofNat 64 (s.coreClocks c w) } 0x10 cause 0 (s.ctx c).pc := by
  rcases hrun with hrun | ⟨b, m, hrun⟩ | ⟨p, i, v, l, hrun⟩ <;>
    simp only [State.interrupt, hrun, htc, hreeve, hie, Bool.not_true, Bool.or_self, Bool.false_eq_true, if_false]

end Interrupt

/-! ### Start, stop and binding (R86, R122, R124) -/

section Context

variable {s : State} {c : Nat}

/-- START acts on a bound context of a running partition that neither runs, waits nor is halted. -/
theorem State.tcStart_of_ready {src : Src} (hbound : s.ctxBound c = true) (halive : (s.ctx c).alive = false)
    (hhalt : (s.ctx c).run ≠ .halted) (hpart : s.partState (s.ctxPart c) = .run) : s.tcStart src c = s.startTc c := by
  simp [State.tcStart, hbound, halive, hhalt, hpart]

/-- A context that runs or waits is not halted. -/
theorem Ctx.not_halted_of_alive {x : Ctx} (h : x.alive = true) : x.run ≠ .halted := by
  intro hrun
  simp [Ctx.alive, hrun] at h

/-- A context that is not halted stops with its registers kept. -/
theorem State.stopCtx_of_not_halted (hhalt : (s.ctx c).run ≠ .halted) :
    s.stopCtx c = s.setCtx c { s.ctx c with run := .stopped, frozen := false, late := false, parked := none } := by
  unfold State.stopCtx
  dsimp only
  split
  case h_1 hrun => exact absurd hrun hhalt
  case h_2 => rfl

/-- STOP acts on a context that runs or waits; what it owed to the bells is owed no more. -/
theorem State.tcStop_of_alive (halive : (s.ctx c).alive = true) :
    s.tcStop c = (s.setCtx c { s.ctx c with run := .stopped, frozen := false, late := false, parked := none }).commitBells := by
  simp only [State.tcStop, halive, Bool.true_or, if_true, State.stopCtx_of_not_halted (Ctx.not_halted_of_alive halive)]

/-- A context that neither runs nor waits takes a start PC. -/
theorem State.tcBind_pc {src : Src} (v : Nat) (halive : (s.ctx c).alive = false) :
    s.tcBind src c true v = s.wr (Reg.TC_CTX_PC_START_PC (ctxSlot c) (ctxCore c) (ctxIdx c)) (bits v 2 16) := by
  simp only [State.tcBind, halive, Bool.false_eq_true, if_true, if_false]

/-- A context that neither runs nor waits takes a binding that R124 does not refuse. -/
theorem State.tcBind_binding {src : Src} {v : Nat} (halive : (s.ctx c).alive = false) (hgood : s.bindBad c v = false) :
    s.tcBind src c false v = s.rebind c v := by
  simp only [State.tcBind, halive, hgood, Bool.or_self, Bool.false_eq_true, if_false]

end Context

/-- Settles O13: an interrupt by what the context does, the commands on a context by what it does and how it is bound. -/
theorem contextCommandsAndInterruptsComplete : Obligations.ContextCommandsAndInterruptsComplete := by
  refine ⟨?running, ?waiting, ?reeve, ?start, ?stop, ?pc, ?binding⟩
  case running =>
    intro s c cause hlo hhi hrun hie
    have htc : isTc c = false := by simp [isTc, hlo]
    have hreeve : isReeve c = false := by simp [isReeve, hhi.ne]
    refine (guarded_of (decide_eq_true (by omega))).trans (congrArg Host.Outcome.next ?_)
    rw [State.interrupt_of_running htc hrun hie, hreeve]
    rfl
  case waiting =>
    intro s c cause w hlo hhi hrun hie
    have htc : isTc c = false := by simp [isTc, hlo]
    have hreeve : isReeve c = false := by simp [isReeve, hhi.ne]
    refine (guarded_of (decide_eq_true (by omega))).trans (congrArg Host.Outcome.next ?_)
    exact State.interrupt_of_waiting htc hreeve hrun hie
  case reeve =>
    intro s cause hrun hie
    exact (guarded_of (by decide)).trans (congrArg Host.Outcome.next (State.interrupt_of_running rfl hrun hie))
  case start =>
    intro s c hpf hc hbound halive hhalt hpart
    rw [← State.tcStart_of_ready (src := .pf) hbound halive hhalt hpart]
    exact State.fromPf_guarded_of_open hpf (decide_eq_true hc)
  case stop =>
    intro s c hpf hc halive
    rw [← State.tcStop_of_alive halive]
    exact State.fromPf_guarded_of_open hpf (decide_eq_true hc)
  case pc =>
    intro s c v hpf hc halive
    rw [← State.tcBind_pc (src := .pf) v halive]
    exact State.fromPf_guarded_of_open hpf (decide_eq_true hc)
  case binding =>
    intro s c v hpf hc halive hgood
    rw [← State.tcBind_binding (src := .pf) halive hgood]
    exact State.fromPf_guarded_of_open hpf (decide_eq_true hc)

/-! ### Completion counters (R66, R113) -/

/-- The counters of a partition fill its part of the table. -/
theorem counterKey_injective {p p' id id' : Nat} (hid : id < 65536) (hid' : id' < 65536) (h : p * 65536 + id = p' * 65536 + id') :
    (p, id) = (p', id') := by
  rw [Prod.mk.injEq]
  omega

/-- A bump of one counter leaves every other. -/
theorem State.counter_bump_other {s : State} {p id p' id' : Nat} (hid : id < 65536) (hid' : id' < 65536) (h : (p', id') ≠ (p, id)) :
    (s.bump p id).counter p' id' = s.counter p' id' := by
  have hkey : p' * 65536 + id' ≠ p * 65536 + id := fun e => h (counterKey_injective hid' hid e)
  simp only [State.bump, State.counter, Tab.get_set, if_neg hkey]

/-- Settles O59: a bump writes one entry of the table of counters. -/
theorem completionCountersWrap : Obligations.CompletionCountersWrap :=
  fun s p id _ _ hid hid2 => ⟨State.counter_bump s p id, State.counter_bump_other hid hid2, rfl⟩

end Sys2Proof.Machine
end

section
/-! SUPPORT. What an operation on A leaves: the flags by each flag computation, the registers by each operation, and the state by
each instruction on an operand and each function of the group REG. -/

namespace Sys2Proof.Machine

/-! ### Flags after a flag computation (R87, Table 4.3) -/

section Flags

variable (x : Ctx) (v : BitVec 64) (k : Nat)

/-- Z and N of a result, and every other flag as it was. -/
@[simp] theorem Ctx.flag_zn : (x.zn v).flag k = if k = 1 then v.msb else if k = 0 then v == 0 else x.flag k := by
  simp only [Ctx.zn, Ctx.flag_setFlag _ _ _ _ (by decide : 0 < 32), Ctx.flag_setFlag _ _ _ _ (by decide : 1 < 32)]

@[simp] theorem Ctx.flag_setA : (x.setA v).flag k = if k = 1 then v.msb else if k = 0 then v == 0 else x.flag k :=
  Ctx.flag_zn x v k

/-- An operation that saturates sets Q when it does, and never clears it. -/
theorem Ctx.flag_setSat (z y : Int) :
    (x.setSat z y).flag k = if y ≠ z ∧ k = 4 then true else (x.setA (BitVec.ofInt 64 y)).flag k := by
  unfold Ctx.setSat
  by_cases h : y = z
  · simp [h]
  · simp [h, Ctx.flag_setFlag]

/-- A count sets Z alone. -/
@[simp] theorem Ctx.flag_setAz (n : Nat) : (x.setAz n).flag k = if k = 0 then n % 2 ^ 64 == 0 else x.flag k :=
  Ctx.flag_setFlag x 0 k _ (by decide)

/-- A sum sets Z, N, C and V. -/
theorem Ctx.flag_add (a m : BitVec 64) (c : Bool) :
    (x.add a m c).1.flag k = if k = 3 then outS64 (a.toInt + m.toInt + b2n c) else if k = 2 then decide (2 ^ 64 ≤ a.toNat + m.toNat + b2n c)
      else (x.zn (x.add a m c).2).flag k := by
  simp only [Ctx.add, Ctx.flag_setFlag _ _ _ _ (by decide : 2 < 32), Ctx.flag_setFlag _ _ _ _ (by decide : 3 < 32)]

/-- A difference sets Z, N, C and V. -/
theorem Ctx.flag_sub (a m : BitVec 64) (b : Bool) :
    (x.sub a m b).1.flag k = if k = 3 then outS64 (a.toInt - m.toInt - b2n b) else if k = 2 then decide (m.toNat + b2n b ≤ a.toNat)
      else (x.zn (x.sub a m b).2).flag k := by
  simp only [Ctx.sub, Ctx.flag_setFlag _ _ _ _ (by decide : 2 < 32), Ctx.flag_setFlag _ _ _ _ (by decide : 3 < 32)]

/-- A shift sets C for a count other than 0. -/
theorem Ctx.flag_shifted (n : Nat) (c : Bool) :
    (x.shifted n v c).flag k = if n ≠ 0 ∧ k = 2 then c else (x.setA v).flag k := by
  unfold Ctx.shifted
  by_cases h : n = 0
  · simp [h]
  · simp [h, Ctx.flag_setFlag]

end Flags

/-! ### Operations on A change A and flags alone (R97, R98, R100) -/

/-- `y` is `x` but for A and the flags Z, N, C, V and Q. -/
def Ctx.AccumulatorStep (x y : Ctx) : Prop := y = { x with a := y.a, st := y.st } ∧ ∀ k, 5 ≤ k → y.flag k = x.flag k

namespace Ctx.AccumulatorStep

variable {x y : Ctx}

theorem refl (x : Ctx) : x.AccumulatorStep x := ⟨rfl, fun _ _ => rfl⟩

theorem withA (h : x.AccumulatorStep y) (v : BitVec 64) : x.AccumulatorStep { y with a := v } := by
  obtain ⟨heq, hflag⟩ := h
  exact ⟨by rw [heq], hflag⟩

theorem setFlag (h : x.AccumulatorStep y) {i : Nat} (v : Bool) (hi : i < 5) : x.AccumulatorStep (y.setFlag i v) := by
  obtain ⟨heq, hflag⟩ := h
  refine ⟨by rw [heq]; rfl, fun k hk => ?_⟩
  rw [Ctx.flag_setFlag _ _ _ _ (by omega), if_neg (by omega), hflag k hk]

theorem zn (h : x.AccumulatorStep y) (v : BitVec 64) : x.AccumulatorStep (y.zn v) :=
  (h.setFlag _ (by decide)).setFlag _ (by decide)

theorem setA (h : x.AccumulatorStep y) (v : BitVec 64) : x.AccumulatorStep (y.setA v) := (h.zn v).withA v

theorem setSat (z v : Int) : x.AccumulatorStep (x.setSat z v) := by
  unfold Ctx.setSat
  split
  · exact (refl x).setA _
  · exact ((refl x).setA _).setFlag _ (by decide)

theorem setAz (n : Nat) : x.AccumulatorStep (x.setAz n) := ((refl x).setFlag _ (by decide)).withA _

theorem add (a m : BitVec 64) (c : Bool) : x.AccumulatorStep (x.add a m c).1 :=
  (((refl x).zn _).setFlag _ (by decide)).setFlag _ (by decide)

theorem sub (a m : BitVec 64) (b : Bool) : x.AccumulatorStep (x.sub a m b).1 :=
  (((refl x).zn _).setFlag _ (by decide)).setFlag _ (by decide)

theorem shifted (n : Nat) (v : BitVec 64) (c : Bool) : x.AccumulatorStep (x.shifted n v c) := by
  unfold Ctx.shifted
  split
  · exact (refl x).setA v
  · exact ((refl x).setA v).setFlag c (by decide)

end Ctx.AccumulatorStep

/-! ### The registers once an instruction has completed (R88, R92) -/

/-- The registers of a context once its instruction has completed: those its operation gave, the next PC and its cycles, and the run
that its effect left. -/
theorem State.ctx_finish (s : State) (c : Nat) (y : Ctx) (n : BitVec 32) (k : Nat) :
    (s.finish c y n k).ctx c = { y with
      pc := n, cycle := y.cycle + BitVec.ofNat 64 k, run := (s.ctx c).run, frozen := (s.ctx c).frozen, late := (s.ctx c).late } := by
  rw [State.finish, State.ctx_setCtx, if_pos rfl]

@[simp] theorem State.finish_a (s : State) (c : Nat) (y : Ctx) (n : BitVec 32) (k : Nat) : ((s.finish c y n k).ctx c).a = y.a := by
  rw [State.ctx_finish]

@[simp] theorem State.finish_cycle (s : State) (c : Nat) (y : Ctx) (n : BitVec 32) (k : Nat) :
    ((s.finish c y n k).ctx c).cycle = y.cycle + BitVec.ofNat 64 k := by
  rw [State.ctx_finish]

@[simp] theorem State.finish_flag (s : State) (c : Nat) (y : Ctx) (n : BitVec 32) (k i : Nat) :
    ((s.finish c y n k).ctx c).flag i = y.flag i := by
  rw [State.ctx_finish]
  rfl

/-- The address modes touch neither A nor the cycles. -/
@[simp] theorem MForm.after_a (m : MForm) (y : Ctx) : (m.after y).a = y.a := by
  unfold MForm.after
  split <;> rfl

@[simp] theorem MForm.after_cycle (m : MForm) (y : Ctx) : (m.after y).cycle = y.cycle := by
  unfold MForm.after
  split <;> rfl

/-- A state that an instruction completed to holds the registers and flags that its operation gave, and has paid its cycles. -/
theorem State.completesM_next {s t : State} {c base : Nat} {m : MForm} {r : State × BitVec 64 × Nat} {y : Ctx}
    (e : s.completesM c m r base y = .next t) :
    (t.ctx c).a = y.a ∧ (∀ k, (t.ctx c).flag k = y.flag k) ∧
      (t.ctx c).cycle = y.cycle + BitVec.ofNat 64 (base + extCost m.len + r.2.2) := by
  obtain rfl := Host.Outcome.next.inj e
  simp [MForm.after_flag]

/-- The address modes XP and YP change X and Y alone. -/
theorem MForm.after_eq (m : MForm) (x : Ctx) : m.after x = { x with x := (m.after x).x, y := (m.after x).y } := by
  unfold MForm.after
  split <;> rfl

/-- The address modes change X and Y after an operation on A as they do without it. -/
theorem Ctx.AccumulatorStep.after {x y : Ctx} (h : x.AccumulatorStep y) (m : MForm) :
    m.after y = { m.after x with a := y.a, st := y.st } := by
  obtain ⟨heq, -⟩ := h
  rw [heq]
  unfold MForm.after
  split <;> rfl

/-- The registers after an operation on A whose instruction completed, with `p` and `q` in X and Y: those that no data instruction
writes are as they were, and so is B. -/
theorem Ctx.AccumulatorStep.completed {x y z : Ctx} {p q : BitVec 32} (h : x.AccumulatorStep y)
    (hz : z = { x with
      a := y.a, st := y.st, x := p, y := q, pc := z.pc, cycle := z.cycle, frozen := z.frozen, late := z.late }) :
    x.sameSystem z ∧ z.b = x.b ∧ z.x = p ∧ z.y = q := by
  have hflag : ∀ k, 5 ≤ k → z.flag k = x.flag k := fun k hk => by
    rw [hz]
    exact h.2 k hk
  rw [hz] at hflag ⊢
  exact ⟨⟨rfl, rfl, rfl, rfl, rfl, rfl, rfl, rfl, rfl, rfl, rfl, rfl, rfl, hflag⟩, rfl, rfl, rfl⟩

/-! ### The instructions on A and an operand -/

/-- The base cycles of an instruction on A and an operand, and its operation on the registers (Tables 4.8 and 4.9, R97, R100). -/
def operationOf (m : MForm) : Instr → Nat × (Ctx → BitVec 64 → Ctx)
  | .lda .. => (1, fun x v => x.setA v)
  | .add .. => (1, fun x v => x.aluAdd v false)
  | .adc .. => (1, fun x v => x.aluAdd v (x.flag 2))
  | .sub .. => (1, fun x v => x.aluSub v false)
  | .sbc .. => (1, fun x v => x.aluSub v (!x.flag 2))
  | .and .. => (1, fun x v => x.setA (x.a &&& v))
  | .or .. => (1, fun x v => x.setA (x.a ||| v))
  | .xor .. => (1, fun x v => x.setA (x.a ^^^ v))
  | .cmp .. => (1, Ctx.aluCmp)
  | .adds .. => (1, Ctx.aluAdds)
  | .mul .. => (3, Ctx.aluMul)
  | .mulh .. => (4, Ctx.aluMulh)
  | .max .. => (1, Ctx.aluMax)
  | .min .. => (1, Ctx.aluMin)
  | .tst .. => (1, fun x v => x.zn (x.a &&& v))
  | .shl .. => (1, Ctx.aluShl)
  | .shr .. => (1, Ctx.aluShr)
  | .sar .. => (1, Ctx.aluSar)
  | .rol .. => (1, Ctx.aluRol)
  | .rshr .. => (1, Ctx.aluRshr)
  | .clz .. => (1, fun x v => x.aluClz v m.width)
  | .popc .. => (1, Ctx.aluPopc)
  | .par .. => (1, fun x v => x.aluPar v m.width)
  | .brev .. => (1, fun x v => x.aluBrev v m.width)
  | _ => (0, fun x _ => x)

section Operation

variable {c : Nat} {m : MForm} {i : Instr}

/-- An instruction on A and an operand is issued with its operation. -/
theorem exec_operandOp (h : i ∈ operandOps c m) (s : State) :
    exec i s = s.guarded (decide (c < 321)) (s.operate c m true (operationOf m i).1 (operationOf m i).2) := by
  simp only [operandOps, List.mem_cons, List.not_mem_nil, or_false] at h
  rcases h with rfl | rfl | rfl | rfl | rfl | rfl | rfl | rfl | rfl | rfl | rfl | rfl | rfl | rfl | rfl | rfl | rfl | rfl | rfl | rfl | rfl |
    rfl | rfl | rfl <;> rfl

/-- Each operation changes A and flags alone: it sets A with its Z and N, or with Z, or saturated, or takes a sum, difference or shift. -/
theorem operationOf_step (x : Ctx) (v : BitVec 64) : ∀ i ∈ operandOps c m, x.AccumulatorStep ((operationOf m i).2 x v) := by
  have hA (r : BitVec 64) : x.AccumulatorStep (x.setA r) := (Ctx.AccumulatorStep.refl x).setA r
  have hAz (n : Nat) : x.AccumulatorStep (x.setAz n) := .setAz n
  have hadd (b : Bool) : x.AccumulatorStep (x.aluAdd v b) := (Ctx.AccumulatorStep.add x.a v b).withA _
  have hsub (b : Bool) : x.AccumulatorStep (x.aluSub v b) := (Ctx.AccumulatorStep.sub x.a v b).withA _
  simp only [operandOps, List.forall_mem_cons]
  exact ⟨hA _, hadd _, hadd _, hsub _, hsub _, hA _, hA _, hA _, .sub _ _ _, .setSat _ _, (hA _).setFlag _ (by decide), hA _, hA _, hA _,
    (Ctx.AccumulatorStep.refl x).zn _, .shifted _ _ _, .shifted _ _ _, .shifted _ _ _, hA _, hA _, hAz _, hAz _, hAz _, hAz _,
    List.forall_mem_nil _⟩

theorem zeroNegativeOps_subset : zeroNegativeOps c m ⊆ operandOps c m := by
  simp [zeroNegativeOps, operandOps]

theorem sumOps_subset : sumOps c m ⊆ operandOps c m := by
  simp [sumOps, operandOps]

theorem shiftOps_subset : shiftOps c m ⊆ operandOps c m := by
  simp [shiftOps, operandOps]

theorem countOps_subset : countOps c m ⊆ operandOps c m := by
  simp [countOps, operandOps]

theorem operationOf_flag_zeroNegative {k : Nat} (hk : 2 ≤ k) (x : Ctx) (v : BitVec 64) :
    ∀ i ∈ zeroNegativeOps c m, ((operationOf m i).2 x v).flag k = x.flag k := by
  have hA (r : BitVec 64) : (x.setA r).flag k = x.flag k := by
    rw [Ctx.flag_setA, if_neg (by omega), if_neg (by omega)]
  simp only [zeroNegativeOps, List.forall_mem_cons]
  exact ⟨hA _, hA _, hA _, hA _, hA _, hA _, hA _, hA (x.a &&& v), hA _, hA _, List.forall_mem_nil _⟩

theorem operationOf_flag_sum {k : Nat} (hk : 4 ≤ k) (x : Ctx) (v : BitVec 64) :
    ∀ i ∈ sumOps c m, ((operationOf m i).2 x v).flag k = x.flag k := by
  have hzn (r : BitVec 64) : (x.zn r).flag k = x.flag k := by
    rw [Ctx.flag_zn, if_neg (by omega), if_neg (by omega)]
  have hadd (b : Bool) : (x.aluAdd v b).flag k = x.flag k := by
    refine (Ctx.flag_add x k x.a v b).trans ?_
    rw [if_neg (by omega), if_neg (by omega), hzn]
  have hsub (b : Bool) : (x.sub x.a v b).1.flag k = x.flag k := by
    rw [Ctx.flag_sub, if_neg (by omega), if_neg (by omega), hzn]
  simp only [sumOps, List.forall_mem_cons]
  exact ⟨hadd _, hadd _, hsub _, hsub _, hsub _, List.forall_mem_nil _⟩

/-- A shift keeps V and Q, and C too for a count of 0. -/
theorem operationOf_flag_shift {k : Nat} (x : Ctx) (v : BitVec 64) (hk : 3 ≤ k ∨ k = 2 ∧ shiftBy v = 0) :
    ∀ i ∈ shiftOps c m, ((operationOf m i).2 x v).flag k = x.flag k := by
  have hshifted (r : BitVec 64) (b : Bool) : (x.shifted (shiftBy v) r b).flag k = x.flag k := by
    rw [Ctx.flag_shifted, if_neg (by omega), Ctx.flag_setA, if_neg (by omega), if_neg (by omega)]
  simp only [shiftOps, List.forall_mem_cons]
  exact ⟨hshifted _ _, hshifted _ _, hshifted _ _, List.forall_mem_nil _⟩

theorem operationOf_flag_count {k : Nat} (hk : 1 ≤ k) (x : Ctx) (v : BitVec 64) :
    ∀ i ∈ countOps c m, ((operationOf m i).2 x v).flag k = x.flag k := by
  have hAz (n : Nat) : (x.setAz n).flag k = x.flag k := by
    rw [Ctx.flag_setAz, if_neg (by omega)]
  simp only [countOps, List.forall_mem_cons]
  exact ⟨hAz _, hAz _, hAz _, hAz _, List.forall_mem_nil _⟩

/-- ADDS leaves C and V, and never clears Q. -/
theorem Ctx.flag_aluAdds (x : Ctx) (v : BitVec 64) :
    (x.aluAdds v).flag 2 = x.flag 2 ∧ (x.aluAdds v).flag 3 = x.flag 3 ∧ (x.flag 4 = true → (x.aluAdds v).flag 4 = true) := by
  simp +contextual [Ctx.aluAdds, Ctx.flag_setSat]

/-- MUL leaves C and Q. -/
theorem Ctx.flag_aluMul (x : Ctx) (v : BitVec 64) : (x.aluMul v).flag 2 = x.flag 2 ∧ (x.aluMul v).flag 4 = x.flag 4 := by
  simp [Ctx.aluMul, Ctx.flag_setFlag]

variable {s t : State}

/-- What an instruction on A and an operand that is an immediate or in memory leaves: the registers are those that its operation gave, and
nothing but them and the count of free values differs. -/
theorem exec_operandOp_plain (h : i ∈ operandOps c m) (hi : s.canIssue c m.len) (hm : m.ok = true) (ho : s.plainOperand c m)
    (e : exec i s = .next t) :
    ∃ u v q, s.operand c (s.ctx c) m = .ok (u, v, q) ∧ s.onlyCtx t c ∧ (∀ a, t.byte a = s.byte a) ∧
      t.ctx c = { m.after ((operationOf m i).2 (s.ctx c) v) with
        pc := (t.ctx c).pc, cycle := (t.ctx c).cycle, run := (s.ctx c).run, frozen := (t.ctx c).frozen, late := (t.ctx c).late } := by
  obtain ⟨hc, -⟩ := id hi
  obtain ⟨fr, v, q, hv, hop⟩ := State.operate_plain (base := (operationOf m i).1) (f := (operationOf m i).2) hi hm ho
  rw [exec_operandOp h, guarded_of (decide_eq_true hc), hop] at e
  obtain ⟨honly, hbyte, hctx⟩ := State.finish_frame (s := s) rfl t (Host.Outcome.next.inj e).symm
  refine ⟨_, v, q, hv, honly, hbyte, ?_⟩
  rw [hctx]

/-- The flags after it are those that its operation gave. -/
theorem exec_operandOp_plain_flag (h : i ∈ operandOps c m) (hi : s.canIssue c m.len) (hm : m.ok = true) (ho : s.plainOperand c m)
    (e : exec i s = .next t) :
    ∃ u v q, s.operand c (s.ctx c) m = .ok (u, v, q) ∧ ∀ k, (t.ctx c).flag k = ((operationOf m i).2 (s.ctx c) v).flag k := by
  obtain ⟨u, v, q, hv, -, -, hctx⟩ := exec_operandOp_plain h hi hm ho e
  refine ⟨u, v, q, hv, fun k => ?_⟩
  rw [hctx]
  exact MForm.after_flag m _ k

end Operation

/-- Settles O42: the operation changes A and flags alone, and completing it the registers of the context. -/
theorem operandInstructionFrame : Obligations.OperandInstructionFrame := by
  intro s t c m i h hi hm ho e
  obtain ⟨u, v, q, -, honly, hbyte, hctx⟩ := exec_operandOp_plain h hi hm ho e
  have hstep := operationOf_step (s.ctx c) v i h
  rw [hstep.after, MForm.after_eq] at hctx
  obtain ⟨hsystem, hb, hx, hy⟩ := hstep.completed hctx
  exact ⟨honly, hsystem, hb, hx, hy, hbyte⟩

/-- Settles O43: the flags after an instruction are those after its operation. -/
theorem flagFrame : Obligations.FlagFrame := by
  refine ⟨?zeroNegative, ?sum, ?shift, ?count, ?adds, ?mul, ?shiftByZero⟩
  case zeroNegative =>
    intro s t c m i h hi hm ho e
    obtain ⟨u, v, q, -, hflag⟩ := exec_operandOp_plain_flag (zeroNegativeOps_subset h) hi hm ho e
    have hkeep (k : Nat) (hk : 2 ≤ k) : (t.ctx c).flag k = (s.ctx c).flag k :=
      (hflag k).trans (operationOf_flag_zeroNegative hk _ v i h)
    exact ⟨hkeep 2 (by decide), hkeep 3 (by decide), hkeep 4 (by decide)⟩
  case sum =>
    intro s t c m i h hi hm ho e
    obtain ⟨u, v, q, -, hflag⟩ := exec_operandOp_plain_flag (sumOps_subset h) hi hm ho e
    exact (hflag 4).trans (operationOf_flag_sum (by decide) _ v i h)
  case shift =>
    intro s t c m i h hi hm ho e
    obtain ⟨u, v, q, -, hflag⟩ := exec_operandOp_plain_flag (shiftOps_subset h) hi hm ho e
    have hkeep (k : Nat) (hk : 3 ≤ k) : (t.ctx c).flag k = (s.ctx c).flag k :=
      (hflag k).trans (operationOf_flag_shift _ v (.inl hk) i h)
    exact ⟨hkeep 3 (by decide), hkeep 4 (by decide)⟩
  case count =>
    intro s t c m i h hi hm ho e
    obtain ⟨u, v, q, -, hflag⟩ := exec_operandOp_plain_flag (countOps_subset h) hi hm ho e
    have hkeep (k : Nat) (hk : 1 ≤ k) : (t.ctx c).flag k = (s.ctx c).flag k :=
      (hflag k).trans (operationOf_flag_count hk _ v i h)
    exact ⟨hkeep 1 (by decide), hkeep 2 (by decide), hkeep 3 (by decide), hkeep 4 (by decide)⟩
  case adds =>
    rintro s t c m i rfl hi hm ho e
    obtain ⟨u, v, q, -, hflag⟩ := exec_operandOp_plain_flag (by simp [operandOps]) hi hm ho e
    rw [hflag, hflag, hflag]
    exact Ctx.flag_aluAdds (s.ctx c) v
  case mul =>
    rintro s t c m i rfl hi hm ho e
    obtain ⟨u, v, q, -, hflag⟩ := exec_operandOp_plain_flag (by simp [operandOps]) hi hm ho e
    rw [hflag, hflag]
    exact Ctx.flag_aluMul (s.ctx c) v
  case shiftByZero =>
    intro s t c m i r h hi hm ho e hr hzero
    obtain ⟨u, v, q, hv, hflag⟩ := exec_operandOp_plain_flag (shiftOps_subset h) hi hm ho e
    obtain rfl : r = (u, v, q) := Except.ok.inj (hr.symm.trans hv)
    exact (hflag 2).trans (operationOf_flag_shift _ v (.inr ⟨rfl, hzero⟩) i h)

/-! ### Functions that write A (R98) -/

/-- A function of the group REG that writes A completes with A and flags changed alone. -/
theorem exec_accumulatorOp {s : State} {c : Nat} {arg : BitVec 12} (hi : s.canIssue c 4) (hlo : 1 ≤ arg.toNat) (hhi : arg.toNat ≤ 63) :
    ∀ i ∈ accumulatorOps c arg, ∃ y, (s.ctx c).AccumulatorStep y ∧ exec i s = s.completesR c 1 y := by
  obtain ⟨hmoves, -, -, hwidth, hsatu, -⟩ := registerInstructionsComplete
  obtain ⟨-, htxa, -, htya, -, -, htsa, -, hneg, hnot, habs, hclra, -⟩ := hmoves s c hi
  obtain ⟨hsext, hzext, hsats⟩ := hwidth s c arg hi hlo (by omega)
  have hrefl := Ctx.AccumulatorStep.refl (s.ctx c)
  simp only [accumulatorOps, List.forall_mem_cons]
  exact ⟨⟨_, hrefl.setA _, htxa⟩, ⟨_, hrefl.setA _, htya⟩, ⟨_, hrefl.withA _, htsa⟩, ⟨_, (Ctx.AccumulatorStep.sub _ _ _).withA _, hneg⟩,
    ⟨_, hrefl.setA _, hnot⟩, ⟨_, .setSat _ _, habs⟩, ⟨_, hrefl.setA _, hclra⟩, ⟨_, hrefl.setA _, hsext⟩, ⟨_, hrefl.setA _, hzext⟩,
    ⟨_, .setSat _ _, hsats⟩, ⟨_, .setSat _ _, hsatu s c arg hi hlo hhi⟩, List.forall_mem_nil _⟩

/-- Settles O45: the function changes A and flags alone, and completing it the registers of the context. -/
theorem accumulatorFunctionFrame : Obligations.AccumulatorFunctionFrame := by
  intro s t c arg i h hi hlo hhi e
  obtain ⟨y, hstep, hy⟩ := exec_accumulatorOp hi hlo hhi i h
  obtain ⟨honly, hbyte, hctx⟩ := State.finish_frame (s := s) rfl t (Host.Outcome.next.inj (hy.symm.trans e)).symm
  obtain ⟨hsystem, hb, hx, hy⟩ := hstep.completed (p := (s.ctx c).x) (q := (s.ctx c).y) (z := t.ctx c) (by rw [hctx, hstep.1])
  exact ⟨honly, hsystem, hb, hx, hy, hbyte⟩

end Sys2Proof.Machine
end

section
/-! SUPPORT. Sums and differences: the result and the flags of ADD, ADC, SUB, SBC and CMP. -/

namespace Sys2Proof.Machine

/-! ### Sums and differences (R97, Table 4.3) -/

/-- A value outside s64, as Table 4.3 writes it. -/
theorem outS64_eq (i : Int) : outS64 i = decide (i < -2 ^ 63 ∨ 2 ^ 63 ≤ i) := by
  rw [Bool.decide_or]
  rfl

section Sum

variable (x : Ctx) (v : BitVec 64) (b : Bool)

/-- ADD and ADC: the sum with the carry `b`, its Z, N and C, and V when the signed sum lies outside s64. -/
theorem Ctx.aluAdd_result :
    (x.aluAdd v b).a = x.a + v + (if b then 1 else 0) ∧
    (x.aluAdd v b).flag 0 = decide (x.a + v + (if b then 1 else 0) = 0) ∧
    (x.aluAdd v b).flag 1 = (x.a + v + (if b then 1 else 0)).msb ∧
    (x.aluAdd v b).flag 2 = decide (2 ^ 64 ≤ x.a.toNat + v.toNat + (if b then 1 else 0)) ∧
    (x.aluAdd v b).flag 3 = decide (x.a.toInt + v.toInt + (if b then 1 else 0) < -2 ^ 63 ∨
      2 ^ 63 ≤ x.a.toInt + v.toInt + (if b then 1 else 0)) := by
  have hflag (k : Nat) : (x.aluAdd v b).flag k = (x.add x.a v b).1.flag k := rfl
  have hsum : (x.add x.a v b).2 = x.a + v + (if b then 1 else 0) := by cases b <;> rfl
  refine ⟨hsum, ?_, ?_, ?_, ?_⟩ <;> rw [hflag, Ctx.flag_add]
  · simp [hsum, beq_eq_decide]
  · simp [hsum]
  · cases b <;> rfl
  · rw [if_pos rfl, outS64_eq]
    cases b <;> rfl

/-- SUB, SBC and CMP: the difference, less one where the carry `b` is 0, its Z and N, C when no borrow occurs, and V when the signed
difference lies outside s64. -/
theorem Ctx.sub_result :
    (x.sub x.a v !b).2 = x.a - v - (if b then 0 else 1) ∧
    (x.sub x.a v !b).1.flag 0 = decide (x.a - v - (if b then 0 else 1) = 0) ∧
    (x.sub x.a v !b).1.flag 1 = (x.a - v - (if b then 0 else 1)).msb ∧
    (x.sub x.a v !b).1.flag 2 = decide (v.toNat + (if b then 0 else 1) ≤ x.a.toNat) ∧
    (x.sub x.a v !b).1.flag 3 = decide (x.a.toInt - v.toInt - (if b then 0 else 1) < -2 ^ 63 ∨
      2 ^ 63 ≤ x.a.toInt - v.toInt - (if b then 0 else 1)) := by
  have hdiff : (x.sub x.a v !b).2 = x.a - v - (if b then 0 else 1) := by cases b <;> rfl
  refine ⟨hdiff, ?_, ?_, ?_, ?_⟩ <;> rw [Ctx.flag_sub]
  · simp [hdiff, beq_eq_decide]
  · simp [hdiff]
  · cases b <;> rfl
  · rw [if_pos rfl, outS64_eq]
    cases b <;> rfl

/-- SUB and SBC take the difference with its flags; CMP takes the flags alone. -/
theorem Ctx.aluSub_a : (x.aluSub v b).a = (x.sub x.a v b).2 := by
  rw [Ctx.aluSub]

theorem Ctx.flag_aluSub (k : Nat) : (x.aluSub v b).flag k = (x.sub x.a v b).1.flag k := by
  rw [Ctx.aluSub, Ctx.flag]
  rfl

theorem Ctx.aluCmp_a : (x.aluCmp v).a = x.a := by
  simp only [Ctx.aluCmp, Ctx.sub, Ctx.zn, Ctx.setFlag]

theorem Ctx.flag_aluCmp (k : Nat) : (x.aluCmp v).flag k = (x.sub x.a v false).1.flag k := by
  rw [Ctx.aluCmp]

end Sum

/-- Settles O44: the five instructions complete with a sum or difference of A, the operand and a carry or borrow. -/
theorem sumFlags : Obligations.SumFlags := by
  intro s c m r hi hm hr
  obtain ⟨-, hadd, hadc, hsub, hsbc, -, -, -, hcmp, -⟩ := operandInstructionsComplete.1 s c m r hi hm hr
  refine ⟨fun t e => ?add, fun t e => ?adc, fun t e => ?sub, fun t e => ?sbc, fun t e => ?cmp⟩
  case add =>
    obtain ⟨ha, hflag, -⟩ := State.completesM_next (hadd.symm.trans e)
    simpa [ha, hflag] using Ctx.aluAdd_result (s.ctx c) r.2.1 false
  case adc =>
    obtain ⟨ha, hflag, -⟩ := State.completesM_next (hadc.symm.trans e)
    simp only [ha, hflag]
    exact Ctx.aluAdd_result (s.ctx c) r.2.1 ((s.ctx c).flag 2)
  case sub =>
    obtain ⟨ha, hflag, -⟩ := State.completesM_next (hsub.symm.trans e)
    simpa [ha, hflag, Ctx.aluSub_a, Ctx.flag_aluSub] using Ctx.sub_result (s.ctx c) r.2.1 true
  case sbc =>
    obtain ⟨ha, hflag, -⟩ := State.completesM_next (hsbc.symm.trans e)
    simp only [ha, hflag, Ctx.aluSub_a, Ctx.flag_aluSub]
    exact Ctx.sub_result (s.ctx c) r.2.1 ((s.ctx c).flag 2)
  case cmp =>
    obtain ⟨ha, hflag, -⟩ := State.completesM_next (hcmp.symm.trans e)
    simpa [ha, hflag, Ctx.aluCmp_a, Ctx.flag_aluCmp] using (Ctx.sub_result (s.ctx c) r.2.1 true).2

end Sys2Proof.Machine
end

section
/-! SUPPORT. Numbers given bit by bit as sums of powers of 2, and so the parity of a word and its bits in reversed order (R100). -/

namespace Sys2Proof.Machine

/-! ### Bits of a number -/

/-- One bit of a number. -/
theorem bits_one (v i : Nat) : bits v i 1 = (v.testBit i).toNat := by
  rw [bits, Nat.shiftRight_eq_div_pow, Nat.toNat_testBit, pow_one]

/-- The number whose bit `j` is `f j` for `j` below `n`. -/
def bitSum (f : Nat → Bool) (n : Nat) : Nat := ((List.range n).map (fun j => (f j).toNat * 2 ^ j)).sum

theorem bitSum_succ (f : Nat → Bool) (n : Nat) : bitSum f (n + 1) = 2 * bitSum (fun j => f (j + 1)) n + (f 0).toNat := by
  have hdouble (j : Nat) : (f (j + 1)).toNat * 2 ^ (j + 1) = 2 * ((f (j + 1)).toNat * 2 ^ j) := by
    rw [pow_succ, ← Nat.mul_assoc, Nat.mul_comm]
  simp only [bitSum, List.range_succ_eq_map, List.map_cons, List.map_map, List.sum_cons, Function.comp_def, Nat.succ_eq_add_one, hdouble,
    List.sum_map_mul_left, pow_zero, Nat.mul_one]
  exact Nat.add_comm _ _

/-- Its bits, each read back. -/
theorem testBit_bitSum (n : Nat) : ∀ (f : Nat → Bool) (i : Nat), (bitSum f n).testBit i = (decide (i < n) && f i) := by
  induction n with
  | zero => intro f i; simp [bitSum]
  | succ n ih =>
    intro f i
    rw [bitSum_succ]
    cases i with
    | zero => cases h : f 0 <;> simp [Nat.testBit_zero]
    | succ i =>
      have hhalf : (2 * bitSum (fun j => f (j + 1)) n + (f 0).toNat) / 2 = bitSum (fun j => f (j + 1)) n := by
        have := (f 0).toNat_lt
        omega
      rw [Nat.testBit_succ, hhalf, ih]
      simp

/-! ### Parity -/

theorem popNat_succ (w v : Nat) : popNat (w + 1) v = (v.testBit 0).toNat + popNat w (v >>> 1) := by
  have hshift (i : Nat) : bits v (i + 1) 1 = bits (v >>> 1) i 1 := by
    rw [bits, bits, Nat.add_comm, Nat.shiftRight_add]
  simp only [popNat, List.range_succ_eq_map, List.map_cons, List.map_map, List.sum_cons, Function.comp_def, Nat.succ_eq_add_one, hshift]
  rw [bits_one]

/-- The count of one bits is odd when their exclusive-or is 1. -/
theorem popNat_mod_two (v : BitVec 64) (w : Nat) : ∀ lo, popNat w (v.toNat >>> lo) % 2 = (xorBits v lo w).toNat := by
  induction w with
  | zero => intro lo; rfl
  | succ w ih =>
    intro lo
    have hbit : (v.toNat >>> lo).testBit 0 = v.getLsbD lo := by
      rw [Nat.testBit_shiftRight, Nat.add_zero]
      rfl
    rw [popNat_succ, ← Nat.shiftRight_add, Nat.add_mod, ih, hbit, xorBits]
    cases v.getLsbD lo <;> cases xorBits v (lo + 1) w <;> rfl

/-- The number that PAR gives: the parity of the `w` bits, and from bit 8 on that of each byte. -/
theorem parity_eq (v : BitVec 64) (w : Nat) :
    popNat w v.toNat % 2 + ((List.range (w / 8)).map (fun i => popNat 8 (v.toNat >>> (8 * i)) % 2 * 2 ^ (8 + i))).sum =
      2 ^ 8 * bitSum (fun i => xorBits v (8 * i) 8) (w / 8) + (xorBits v 0 w).toNat := by
  have hword : popNat w v.toNat % 2 = (xorBits v 0 w).toNat := popNat_mod_two v w 0
  rw [hword, Nat.add_comm, bitSum, ← List.sum_map_mul_left]
  simp only [popNat_mod_two, Nat.pow_add, Nat.mul_left_comm]

/-! ### Reversal -/

/-- The bits of a number in reversed order, as a number given bit by bit. -/
theorem brevNat_eq (w v : Nat) : brevNat w v = bitSum (fun j => v.testBit (w - 1 - j)) w := by
  rw [brevNat, ← List.sum_reverse, ← List.map_reverse, List.range_eq_range', List.reverse_range', List.map_map, bitSum]
  refine congrArg List.sum (List.map_congr_left fun j hj => ?_)
  have hback : w - 1 - (w - 1 - j) = j := by
    have hlt := List.mem_range.mp hj
    omega
  simp only [Function.comp_apply, Nat.zero_add, bits_one, hback]

/-! ### PAR and BREV -/

/-- An operand has at most 8 bytes. -/
theorem MForm.nbytes_le (m : MForm) : m.nbytes ≤ 8 :=
  Nat.pow_le_pow_right (by decide) (Nat.le_of_lt_succ m.sz.isLt)

theorem MForm.width_eq (m : MForm) : m.width = 8 * m.nbytes := rfl

/-- A bit of A after a count. -/
theorem Ctx.getLsbD_setAz (x : Ctx) (n k : Nat) : (x.setAz n).a.getLsbD k = (decide (k < 64) && n.testBit k) :=
  BitVec.getLsbD_ofNat 64 n k

/-- A count sets Z when A is 0. -/
theorem Ctx.flag_zero_setAz (x : Ctx) (n : Nat) : (x.setAz n).flag 0 = decide ((x.setAz n).a = 0) := by
  rw [Ctx.flag_setAz, if_pos rfl, beq_eq_decide]
  refine decide_eq_decide.mpr ⟨fun h => BitVec.eq_of_toNat_eq ?_, fun h => ?_⟩
  · exact (BitVec.toNat_ofNat n 64).trans h
  · exact (BitVec.toNat_ofNat n 64).symm.trans (congrArg BitVec.toNat h)

section Result

variable (x : Ctx) (v : BitVec 64) {n : Nat}

/-- A bit of the result of PAR: bit 0 is the parity of the word, bit 8 + i that of byte `i`. -/
theorem Ctx.getLsbD_aluPar (hn : n ≤ 8) (j : Nat) : (x.aluPar v (8 * n)).a.getLsbD j =
    if j < 8 then decide (j = 0) && xorBits v 0 (8 * n) else decide (j - 8 < n) && xorBits v (8 * (j - 8)) 8 := by
  have hlow : (xorBits v 0 (8 * n)).toNat < 2 ^ 8 := (Bool.toNat_lt _).trans (by decide)
  rw [Ctx.aluPar, Ctx.getLsbD_setAz, parity_eq, Nat.mul_div_cancel_left n (by decide), Nat.testBit_two_pow_mul_add _ hlow, testBit_bitSum]
  by_cases hj : j < 8
  · have hin : j < 64 := by omega
    simp only [hj, hin, if_true, decide_true, Bool.true_and]
    cases j <;> cases xorBits v 0 (8 * n) <;> simp [Nat.testBit_succ]
  · simp only [hj, if_false]
    by_cases hbyte : j - 8 < n
    · have hin : j < 64 := by omega
      simp [hin]
    · simp [hbyte]

/-- A bit of the result of BREV. -/
theorem Ctx.getLsbD_aluBrev (hn : n ≤ 8) (i : Nat) :
    (x.aluBrev v (8 * n)).a.getLsbD i = (decide (i < 8 * n) && v.getLsbD (8 * n - 1 - i)) := by
  rw [Ctx.aluBrev, Ctx.getLsbD_setAz, brevNat_eq, testBit_bitSum]
  by_cases hi : i < 8 * n
  · have hin : i < 64 := by omega
    simp [hin, BitVec.getLsbD]
  · simp [hi]

end Result

/-- An instruction that completes with a count leaves it in A, with Z, and has paid its cycles. -/
theorem completes_setAz {s : State} {c base n : Nat} {m : MForm} {r : State × BitVec 64 × Nat} {i : Instr}
    (h : exec i s = s.completesM c m r base ((s.ctx c).setAz n)) :
    ∃ t, exec i s = .next t ∧ (t.ctx c).a = ((s.ctx c).setAz n).a ∧ (t.ctx c).flag 0 = decide ((t.ctx c).a = 0) ∧
      (t.ctx c).cycle = (s.ctx c).cycle + BitVec.ofNat 64 (base + extCost m.len + r.2.2) := by
  obtain ⟨t, ht⟩ : ∃ t, s.completesM c m r base ((s.ctx c).setAz n) = .next t := ⟨_, rfl⟩
  obtain ⟨ha, hflag, hcycle⟩ := State.completesM_next ht
  refine ⟨t, h.trans ht, ha, ?_, hcycle⟩
  rw [hflag, ha]
  exact Ctx.flag_zero_setAz _ _

/-- Settles O56: the bits of the results of PAR and BREV, which the instructions complete with. -/
theorem parityAndReversal : Obligations.ParityAndReversal := by
  refine ⟨?par, ?brev⟩
  case par =>
    intro s c m r hi hm hr
    obtain ⟨t, ht, ha, hz, hcycle⟩ := completes_setAz (i := .par c m) (base := 1) (State.operate_completes hi rfl hm hr)
    have hbit (j : Nat) := (congrArg (BitVec.getLsbD · j) ha).trans (Ctx.getLsbD_aluPar (s.ctx c) r.2.1 m.nbytes_le j)
    refine ⟨t, ht, hbit 0, fun i hi => ?_, fun j hpos hout => ?_, hz, hcycle⟩
    · have hbyte : decide (i < m.nbytes) = decide (8 * i < m.width) := decide_eq_decide.mpr (by rw [m.width_eq]; omega)
      rw [hbit, if_neg (by omega), Nat.add_sub_cancel_left, hbyte]
    · have hle := m.nbytes_le
      rw [hbit]
      rcases hout with hlow | hhigh
      · rw [if_pos hlow, decide_eq_false (by omega), Bool.false_and]
      · rw [if_neg (by omega), decide_eq_false (by omega), Bool.false_and]
  case brev =>
    intro s c m r hi hm hr
    obtain ⟨t, ht, ha, hz, hcycle⟩ := completes_setAz (i := .brev c m) (base := 1) (State.operate_completes hi rfl hm hr)
    exact ⟨t, ht, fun i => (congrArg (BitVec.getLsbD · i) ha).trans (Ctx.getLsbD_aluBrev (s.ctx c) r.2.1 m.nbytes_le i), hz, hcycle⟩

end Sys2Proof.Machine
end

section
/-! SUPPORT. What a store of a core to memory wrote, read back. -/

namespace Sys2Proof.Machine

/-! ### Memory that a core reaches (Table 4.4) -/

/-- The local memory of a core lies behind GDDR7. -/
theorem State.gddrSize_le_localBase (s : State) (c : Nat) : gddrSize ≤ s.localBase c := by
  simp only [State.localBase, tcBase, iocBase, reeveRam, gddrSize]
  split
  · split <;> omega
  · split <;> omega

/-- A core address that names memory names its core's local memory, a tile store, or the Reeve's ROM (Table 4.4). -/
theorem State.coreAddr_mem {s : State} {c a n b : Nat} {x : Ctx} {write tile : Bool} (h : s.coreAddr c x a n write = some (.mem b tile)) :
    ∃ o, b = s.localBase c + o ∨ (∃ e, b = tileBase e + o) ∨ b = reeveRom + o := by
  unfold State.coreAddr at h
  dsimp only at h
  split at h
  · obtain ⟨-, rfl, -⟩ : _ ∧ s.localBase c + a = b ∧ false = tile := by simpa using h
    exact ⟨a, .inl rfl⟩
  · split at h
    · split at h
      · obtain ⟨-, rfl, -⟩ : _ ∧ tileBase _ + (a - 0x40000000) = b ∧ true = tile := by simpa using h
        exact ⟨_, .inr (.inl ⟨_, rfl⟩)⟩
      · cases h
    · split at h
      · obtain ⟨rfl, -⟩ : reeveRom + (a - 0x10000000) = b ∧ false = tile := by simpa using h
        exact ⟨_, .inr (.inr rfl)⟩
      · split at h
        · split at h <;> cases h
        · cases h

/-- All of it lies behind GDDR7, and so outside the loop-backs of its groups. -/
theorem State.gddrSize_le_of_coreAddr {s : State} {c a n b : Nat} {x : Ctx} {write tile : Bool}
    (h : s.coreAddr c x a n write = some (.mem b tile)) : gddrSize ≤ b := by
  obtain ⟨o, rfl | ⟨e, rfl⟩ | rfl⟩ := State.coreAddr_mem h
  · exact (s.gddrSize_le_localBase c).trans (Nat.le_add_right _ _)
  · simp only [tileBase, gddrSize]
    omega
  · simp only [reeveRom, gddrSize]
    omega

/-- An access that is taken is aligned, and its address is open. -/
theorem State.reach_ok {s : State} {c a n : Nat} {x : Ctx} {write : Bool} {p : Place} (h : s.reach c x a n write = .ok p) :
    a % n = 0 ∧ s.coreAddr c x a n write = some p := by
  unfold State.reach at h
  split at h
  · cases h
  case isFalse haligned =>
    split at h
    · cases h
    case h_2 hplace => exact ⟨not_not.mp haligned, hplace.trans (congrArg some (Except.ok.inj h))⟩

/-- The address of a store to memory, as the store reaches it. -/
theorem State.reach_of_storeAddr {s : State} {c a : Nat} {m : MForm} (h : s.storeAddr c m = some a) :
    ∃ tile, s.reach c (s.ctx c) (m.ea (s.ctx c)) m.nbytes true = .ok (.mem a tile) := by
  unfold State.storeAddr at h
  split at h
  case h_1 tile hreach => exact ⟨tile, Option.some.inj h ▸ hreach⟩
  case h_2 => cases h

/-! ### A read after a write (R96) -/

/-- Behind GDDR7 no group is looped back. -/
theorem State.byte_of_le {s : State} {a : Nat} (h : gddrSize ≤ a) : s.byte a = (Tab.get (0 : Byte) s.mem a).toNat := by
  simp only [State.byte, State.loopCell, h, if_true]

/-- The bytes placed behind GDDR7, read back. -/
theorem State.bytes_place {s : State} {a : Nat} {bs : List Nat} (h : gddrSize ≤ a) :
    (s.place a bs).bytes a bs.length = bs.map (· % 256) := by
  obtain ⟨mem, hset, -, hin⟩ := State.setBytes_eq bs (s := s) h
  refine List.ext_getElem (by simp [State.bytes]) fun i hi _ => ?_
  have hi' : i < bs.length := by simpa [State.bytes] using hi
  have hmem : (s.place a bs).mem = mem := by rw [State.place, hset]
  have hbyte : (s.place a bs).byte (a + i) = bs[i] % 256 := by
    rw [State.byte_of_le (h.trans (Nat.le_add_right a i)), hmem, hin i hi', List.getD_eq_getElem _ _ hi']
    exact BitVec.toNat_ofNat _ _
  simpa [State.bytes] using hbyte

/-- The bytes of a number are bytes. -/
theorem leBytes_map_mod (n : Nat) : ∀ v, (leBytes n v).map (· % 256) = leBytes n v := by
  induction n with
  | zero => intro v; rfl
  | succ n ih => intro v; simp [leBytes, ih]

/-- A number stored little-endian behind GDDR7 reads back modulo the width of its bytes. -/
theorem State.ld_place {s : State} {a : Nat} (n v : Nat) (h : gddrSize ≤ a) : (s.place a (leBytes n v)).ld a n = v % 2 ^ (8 * n) := by
  have hbytes := State.bytes_place (s := s) (bs := leBytes n v) h
  rw [leBytes_length, leBytes_map_mod] at hbytes
  rw [State.ld, hbytes, leNat_leBytes]

/-- A store to memory places its bytes, after the draw that the cost of a tile store takes. -/
theorem State.store_of_storeAddr {s : State} {c a : Nat} {m : MForm} (h : s.storeAddr c m = some a) (v : Nat) :
    ∃ (f k : Nat), s.store c (s.ctx c) (m.ea (s.ctx c)) m.nbytes v = .ok (({ s with free := f } : State).place a (leBytes m.nbytes v), k) := by
  obtain ⟨tile, hreach⟩ := State.reach_of_storeAddr h
  cases tile with
  | false => exact ⟨s.free, 1, by simp only [State.store, hreach, State.memCost]; rfl⟩
  | true => exact ⟨s.free + 1, _, by simp only [State.store, hreach, State.memCost]; rfl⟩

/-- Settles O47: the store places the low bytes of A behind GDDR7, and completing it leaves memory alone. -/
theorem storedBytesReadBack : Obligations.StoredBytesReadBack := by
  intro s t c m hi hm himm hsx e a ha
  obtain ⟨tile, hreach⟩ := State.reach_of_storeAddr ha
  have hbehind : gddrSize ≤ a := State.gddrSize_le_of_coreAddr (State.reach_ok hreach).2
  obtain ⟨f, k, hstore⟩ := State.store_of_storeAddr ha (s.ctx c).a.toNat
  obtain rfl := Host.Outcome.next.inj ((storesAndLookupComplete.1 s c m _ hi hm himm hsx hstore).symm.trans e)
  exact State.ld_place m.nbytes _ hbehind

end Sys2Proof.Machine
end

section
/-! SUPPORT. Instructions that are refused, and the entry of the exceptions that they raise. -/

namespace Sys2Proof.Machine

/-! ### Why an instruction ends without its effect (R88, R118) -/

section Refused

variable {s : State} {c len level : Nat} {d : Bool} {body : State → Ctx → Except Stop State}

/-- An instruction at a PC that is no multiple of 4 raises ALIGN (notes/assumptions/42.md). -/
theorem State.issue_raises_align (hc : c < 321) (hrun : (s.ctx c).run = .running) (hpc : (s.ctx c).pc.toNat % 4 ≠ 0) :
    s.guarded (decide (c < 321)) (s.issue c len d level body) =
      .next (s.takeExc c (s.ctx c) 3 (s.ctx c).pc.toNat 0 (s.ctx c).pc) := by
  rw [guarded_of (decide_eq_true hc), State.issue_misaligned hrun hpc]
  rfl

/-- An undefined instruction raises UNDEF. -/
theorem State.issue_raises_undef (hi : s.canIssue c len) (hd : d = false) :
    s.guarded (decide (c < 321)) (s.issue c len d level body) =
      .next (s.takeExc c (s.ctx c) 1 (s.ctx c).pc.toNat 0 (s.ctx c).pc) := by
  obtain ⟨hc, -⟩ := id hi
  rw [guarded_of (decide_eq_true hc), State.issue_undefined hi hd]
  rfl

/-- An instruction of a level above the context's raises PRIV (R89). -/
theorem State.issue_raises_priv (hi : s.canIssue c len) (hl : (s.ctx c).level < level) :
    s.guarded (decide (c < 321)) (s.issue c len true level body) =
      .next (s.takeExc c (s.ctx c) 2 (s.ctx c).pc.toNat 0 (s.ctx c).pc) := by
  obtain ⟨hc, hrun, hfetch, hregs⟩ := hi
  rw [guarded_of (decide_eq_true hc)]
  simp [State.issue, hrun, hfetch, State.fetched, hregs, hl, State.ended]

/-- An instruction whose body raises an exception takes it. -/
theorem State.issue_raises {code a : Nat} (hi : s.canIssue c len) (hd : d = true) (hl : level ≤ (s.ctx c).level)
    (hb : body s (s.ctx c) = .error (.exc code a)) :
    s.guarded (decide (c < 321)) (s.issue c len d level body) = .next (s.takeExc c (s.ctx c) code a 0 (s.ctx c).pc) := by
  obtain ⟨hc, hrun, hfetch, hregs⟩ := hi
  rw [guarded_of (decide_eq_true hc)]
  simp [State.issue, hrun, hfetch, State.fetched, hregs, hd, hl.not_gt, hb, State.ended]

end Refused

/-! ### The instructions that are refused -/

section Ops

variable {c : Nat} {m : MForm} {i : Instr}

/-- Each store stores the low bits of one register, where its core has that register and its width. -/
theorem exec_storeOp (h : i ∈ storeOps c m) :
    ∃ (d : Bool) (v : Ctx → Nat), ∀ s, exec i s = s.guarded (decide (c < 321)) (s.storeReg c m d v) := by
  simp only [storeOps, List.mem_cons, List.not_mem_nil, or_false] at h
  rcases h with rfl | rfl | rfl | rfl
  · exact ⟨true, fun x => x.a.toNat, fun _ => rfl⟩
  · exact ⟨m.notLong, fun x => x.x.toNat, fun _ => rfl⟩
  · exact ⟨m.notLong, fun x => x.y.toNat, fun _ => rfl⟩
  · exact ⟨isTc c, fun x => x.b.toNat, fun _ => rfl⟩

/-- Each instruction on an operand and each store is issued at any level, and undefined where its word is. -/
theorem exec_dataOp (h : i ∈ operandOps c m ++ storeOps c m) :
    ∃ (d : Bool) (body : State → Ctx → Except Stop State), (m.ok = false → d = false) ∧
      ∀ s, exec i s = s.guarded (decide (c < 321)) (s.issue c m.len d 0 body) := by
  rcases List.mem_append.mp h with h | h
  · exact ⟨true && m.ok, _, fun hm => by rw [hm]; rfl, exec_operandOp h⟩
  · obtain ⟨d, v, hexec⟩ := exec_storeOp h
    exact ⟨d && m.ok && !m.imm && !m.sx, _, fun hm => by rw [hm]; simp, hexec⟩

/-- An instruction that its core does not have is issued as undefined. -/
theorem exec_absentOp (h : i ∈ absentOps c) :
    ∃ (d : Bool) (level : Nat) (body : State → State → Ctx → Except Stop State), d = false ∧
      ∀ s, exec i s = s.guarded (decide (c < 321)) (s.issue c 4 d level (body s)) := by
  unfold absentOps at h
  split at h
  case isTrue htc =>
    have hnotIoc : (!isTc c) = false := by rw [htc]; rfl
    have hnotReeve : isReeve c = false := by
      simp only [isTc, decide_eq_true_eq] at htc
      exact beq_eq_false_iff_ne.mpr (by omega)
    simp only [List.mem_cons, List.not_mem_nil, or_false] at h
    rcases h with rfl | rfl | rfl
    · exact ⟨_, _, _, hnotIoc, fun _ => rfl⟩
    · exact ⟨_, _, _, hnotIoc, fun _ => rfl⟩
    · exact ⟨_, _, _, hnotReeve, fun _ => rfl⟩
  case isFalse htc =>
    have hnotTc : isTc c = false := Bool.eq_false_iff.mpr htc
    simp only [List.mem_cons, List.not_mem_nil, or_false] at h
    rcases h with rfl | rfl | rfl | rfl | rfl
    · exact ⟨_, _, _, hnotTc, fun _ => rfl⟩
    · exact ⟨_, _, _, hnotTc, fun _ => rfl⟩
    · exact ⟨_, _, _, hnotTc, fun _ => rfl⟩
    · exact ⟨_, _, _, hnotTc, fun _ => rfl⟩
    · exact ⟨isTc c, 0, fun s t x => .ok (t.finish c { x with
        a := BitVec.ofNat 64 ((s.engineOf (ctxSlot c)).elim 0 (fun n => s.meStat n (ctxSlot c) (s.ctxPart c))) } (x.pc + 4) 4), hnotTc,
        fun _ => rfl⟩

end Ops

/-! ### The entry of an exception (R119) -/

section Entry

variable (x : Ctx) (c code eaddr arg : Nat) (epc : BitVec 32)

theorem Ctx.flag_entered_exl : (x.entered c code eaddr arg epc).flag 11 = true := by
  simp [Ctx.entered, Ctx.flag, entrySt]

theorem Ctx.flag_entered_ie : (x.entered c code eaddr arg epc).flag 10 = false := by
  simp only [Ctx.entered, Ctx.flag, entrySt]
  split <;> simp

theorem Ctx.flag_entered_low {k : Nat} (hk : k < 5) : (x.entered c code eaddr arg epc).flag k = x.flag k := by
  simp only [Ctx.entered, Ctx.flag, entrySt]
  split <;> interval_cases k <;> simp

theorem Ctx.level_entered : (x.entered c code eaddr arg epc).level = if isReeve c then 2 else 1 := by
  have hbits (k : Nat) (hk : k < 2) : ((entrySt c x.st).extractLsb' 8 2).getLsbD k = ((if isReeve c then 2#2 else 1#2).getLsbD k) := by
    unfold entrySt
    split <;> interval_cases k <;> simp
  have hlevel : (entrySt c x.st).extractLsb' 8 2 = if isReeve c then 2#2 else 1#2 := BitVec.eq_of_getLsbD_eq hbits
  rw [show (x.entered c code eaddr arg epc).level = ((entrySt c x.st).extractLsb' 8 2).toNat from rfl, hlevel]
  split <;> rfl

/-- The registers on entry, with no argument and the PC saved. -/
theorem Ctx.takesException_entered : x.takesException (x.entered c code eaddr 0 x.pc) c code eaddr :=
  ⟨rfl, rfl, rfl, rfl, rfl, rfl, Ctx.level_entered .., Ctx.flag_entered_exl .., Ctx.flag_entered_ie ..,
    fun _ hk => Ctx.flag_entered_low (hk := hk) .., rfl, rfl, rfl, rfl, rfl, rfl, rfl, rfl, rfl, rfl, rfl⟩

end Entry

section Own

variable {s : State} {c : Nat}

/-- Recording an exception leaves the registers of every context. -/
theorem State.ctx_recordExc (s : State) (c code : Nat) (double : Bool) (pc d : Nat) : (s.recordExc c code double pc).ctx d = s.ctx d := by
  rw [State.recordExc_regs]
  rfl

/-- While EXL is 0, a context that is no level-P context of a tending core enters its handler, and the exception is recorded. -/
theorem State.takeExc_of_ownHandler (hown : s.ownHandler c) (code eaddr : Nat) :
    s.takeExc c (s.ctx c) code eaddr 0 (s.ctx c).pc =
      (s.setCtx c ((s.ctx c).entered c code eaddr 0 (s.ctx c).pc)).recordExc c code false (s.ctx c).pc.toNat := by
  obtain ⟨hexl, hhandler⟩ := hown
  have hunreported : (isTc c && (s.ctx c).level == 0) = false := by
    rcases hhandler with htc | hlevel
    · rw [htc, Bool.false_and]
    · rw [beq_eq_false_iff_ne.mpr hlevel, Bool.and_false]
  simp only [State.takeExc, hexl, hunreported, Bool.false_eq_true, if_false]

/-- So its registers are those of the entry, and nothing differs but them and the record of the exception. -/
theorem State.takesException_of_ownHandler (hown : s.ownHandler c) (code eaddr : Nat) :
    s.takesException (s.takeExc c (s.ctx c) code eaddr 0 (s.ctx c).pc) c code eaddr := by
  rw [State.takeExc_of_ownHandler hown]
  refine ⟨?_, fun d hd => ?_, ?_⟩
  · rw [State.ctx_recordExc, State.ctx_setCtx, if_pos rfl]
    exact Ctx.takesException_entered ..
  · rw [State.ctx_recordExc, State.ctx_setCtx, if_neg hd]
  · rw [State.recordExc_regs]
    rfl

/-- An instruction that takes an exception in the context's own handler does nothing else. -/
theorem next_takesException {o : Host.Outcome State Fault Refusal} {code eaddr : Nat} (hown : s.ownHandler c)
    (h : o = .next (s.takeExc c (s.ctx c) code eaddr 0 (s.ctx c).pc)) : ∃ t, o = .next t ∧ s.takesException t c code eaddr :=
  ⟨_, h, State.takesException_of_ownHandler hown code eaddr⟩

/-- While EXL is 1 an exception is a double exception (R120). -/
theorem State.takeExc_of_exl {x : Ctx} {code eaddr arg : Nat} {epc : BitVec 32} (hexl : x.flag 11 = true) :
    s.takeExc c x code eaddr arg epc = s.doubleExc c code := by
  simp only [State.takeExc, hexl, if_true]

/-- The exception of a level-P context of a tending core is entered, recorded and reported (R168, notes/assumptions/45.md). -/
theorem State.takeExc_of_levelP {x : Ctx} {code eaddr arg : Nat} {epc : BitVec 32} (htc : isTc c = true) (hlevel : x.level = 0)
    (hexl : x.flag 11 = false) :
    s.takeExc c x code eaddr arg epc = ((s.setCtx c (x.entered c code eaddr arg epc)).recordExc c code false x.pc.toNat).reportExc c := by
  simp only [State.takeExc, hexl, htc, hlevel, beq_self_eq_true, Bool.and_self, Bool.false_eq_true, if_true, if_false]

end Own

/-- Settles O53: each refusal raises its exception, which a context with a handler of its own enters. ALIGN for a misaligned PC and UNDEF
for a signed store are the model's choice (notes/assumptions/42.md, 43.md). -/
theorem exceptionEntry : Obligations.ExceptionEntry := by
  refine ⟨?align, ?undef, ?operand, ?store, ?absent, ?priv⟩
  case align =>
    intro s c m i h hc hrun hpc hown
    obtain ⟨d, body, -, hexec⟩ := exec_dataOp h
    exact next_takesException hown ((hexec s).trans (State.issue_raises_align hc hrun hpc))
  case undef =>
    intro s c m i h hi hm hown
    obtain ⟨d, body, hd, hexec⟩ := exec_dataOp h
    exact next_takesException hown ((hexec s).trans (State.issue_raises_undef hi (hd hm)))
  case operand =>
    intro s c m i code a h hi hm hown hop
    refine next_takesException hown ((exec_operandOp h s).trans ?_)
    exact State.issue_raises hi (by simp [hm]) (Nat.zero_le _) (by simp only [hop])
  case store =>
    intro s c m i h hi hm hform hown
    obtain ⟨d, v, hexec⟩ := exec_storeOp h
    have hd : (d && m.ok && !m.imm && !m.sx) = false := by
      rcases hform with himm | hsx
      · simp [himm]
      · simp [hsx]
    exact next_takesException hown ((hexec s).trans (State.issue_raises_undef hi hd))
  case absent =>
    intro s c i h hi hown
    obtain ⟨d, level, body, hd, hexec⟩ := exec_absentOp h
    exact next_takesException hown ((hexec s).trans (State.issue_raises_undef hi hd))
  case priv =>
    intro s c i h hi hlevel hown
    have hlow : (s.ctx c).level < 1 := Nat.lt_one_iff.mpr hlevel
    simp only [List.mem_cons, List.not_mem_nil, or_false] at h
    rcases h with rfl | rfl
    · exact next_takesException hown (State.issue_raises_priv hi hlow)
    · exact next_takesException hown (State.issue_raises_priv hi hlow)

/-- Settles O54: ALIGN of a level-P context of a tending core is reported, and of a context whose EXL is 1 a double exception. That the
report comes in the same step is the model's choice (notes/assumptions/45.md). -/
theorem reportedAndDoubleExceptions : Obligations.ReportedAndDoubleExceptions := by
  refine ⟨?reported, ?double⟩
  case reported =>
    intro s c m i h hc hrun hpc hlevel hexl
    obtain ⟨d, body, -, hexec⟩ := exec_dataOp (List.mem_append_left _ h)
    rw [hexec, State.issue_raises_align (by omega) hrun hpc, State.takeExc_of_levelP (decide_eq_true hc) hlevel hexl]
  case double =>
    intro s c m i h hc hrun hpc hexl
    obtain ⟨d, body, -, hexec⟩ := exec_dataOp (List.mem_append_left _ h)
    rw [hexec, State.issue_raises_align hc hrun hpc, State.takeExc_of_exl hexl]

end Sys2Proof.Machine
end

section
/-! SUPPORT. Planned copies, the memory devices and the data ports: what each command does where its checks are passed. -/

namespace Sys2Proof.Machine

/-! ### The start and the end of a planned copy (R140, R145, R147) -/

section Copies

variable {s : State} {u : Nat} {d : Cpd}

/-- The arbiter's LOCAL CPD, which a run makes and no interlock holds, is in flight (R145). -/
theorem State.startCpd_local (hfly : (s.copy u).flying < 8) (hchoice : s.cpdChoice (s.copy u).startable = some d)
    (hruns : cpdReplay d.words ≠ 2) (hkind : cpdKind d.words = 2) (hfree : s.cpdHit d = none) :
    s.startCpd u =
      s.setCopy u ({ s.copy u with lastPart := d.part }.upd d.id (fun e => { e with stage := .inflight, held := none })) := by
  simp only [State.startCpd, hfly.not_ge, hchoice, hruns, hkind, hfree, false_and, if_true, if_false]

/-- The arbiter's PUT or GET becomes a message (R145, R258). -/
theorem State.startCpd_remote (hfly : (s.copy u).flying < 8) (hchoice : s.cpdChoice (s.copy u).startable = some d)
    (hruns : cpdReplay d.words ≠ 2) (hkind : cpdKind d.words ≠ 2) : s.startCpd u = s.startRemote u d := by
  simp only [State.startCpd, hfly.not_ge, hchoice, hruns, hkind, false_and, if_false]

/-- The partition's CPD in flight that no interlock holds is copied, and ends with 7 where a read failed (R147). -/
theorem State.completeCpd_inflight {p : Nat} (hfind : (s.copy u).startable.queue.find? (fun e => e.part == p) = some d)
    (hfence : (decide (u < 18) && (s.slot u).fenced) = false) (hstage : d.stage = .inflight) (hheld : d.held = none)
    (hfree : s.cpdHit d = none) (hruns : cpdReplay d.words ≠ 2) :
    s.completeCpd u p = (s.copyRows u d).1.endCpd u d (if (s.copyRows u d).2 then 0 else 7) := by
  simp only [State.completeCpd, hfind, hfence, hstage, hheld, hfree, hruns, Option.isSome_none, Bool.false_and, Bool.false_eq_true,
    false_and, if_false]

/-- Outside a restore every queued CPD may start and complete (R335). -/
theorem CopyEng.startable_of_not_restore {x : CopyEng} (h : x.restore = false) : x.startable = x := by
  simp only [CopyEng.startable, h, Bool.false_eq_true, if_false]

/-- The end of a context's CPD does nothing beyond that of its copy: no checkpoint waits for it (R348). -/
theorem execCpdComplete_context {p c : Nat} (hu : u < 22) (hp : p < 64)
    (hfind : (s.copy u).queue.find? (fun e => e.part == p) = some d) (hsrc : d.src = .context c) :
    execCpdComplete u p s = .next (s.completeCpd u p) := by
  refine (guarded_of (by simp [hu, hp])).trans (congrArg Host.Outcome.next ?_)
  simp only [hfind, hsrc, ite_self]

end Copies

/-! ### The release of a held write (R151 to R153) -/

section Release

/-- A held write that goes on is held no more, and the time that it was held is added to its region's (R152, R153). -/
def State.unheld (s : State) (h : HeldWrite) (held : Nat) : State :=
  ({ s with memSt := { s.memSt with held := s.memSt.held.erase h, heldTime := Tab.set 0 s.memSt.heldTime h.region held } } : State).wr
    (Reg.MEM_ILK_STATUS_HELD_US h.region) (min 65535 (held / 4000))

variable {s t : State} {h : HeldWrite} {held : Nat}

/-- The first held write that may go on is the one released. -/
theorem execIlkWriteRelease_first
    (hfind : s.memSt.held.find? (fun g => s.chunkFree g || decide (s.memSt.staged.length < 64)) = some h) :
    execIlkWriteRelease s = .next (s.releaseOne h) := by
  rw [execIlkWriteRelease, State.releaseHeld, hfind, Option.elim_some]

/-- A write with bytes, for which nobody waits, is placed. -/
theorem State.releaseOne_bytes {b : Nat × Nat} {bs : List (Nat × Nat)}
    (ht : t = if s.chunkFree h = true then s else s.reachChunk h.region h.chunk true)
    (hheld : held = Tab.get 0 t.memSt.heldTime h.region + (s.now - h.since)) (hbytes : h.bytes = b :: bs) (hwho : h.who = .other) :
    s.releaseOne h = (t.unheld h held).write b.1 ((b :: bs).map Prod.snd) .other := by
  subst hheld ht
  simp only [State.releaseOne, hbytes, hwho, State.unheld]

/-- Where none are to be placed, a CPD waits for the chunk: what waits on it in flight goes on. -/
theorem State.releaseOne_copy (ht : t = if s.chunkFree h = true then s else s.reachChunk h.region h.chunk true)
    (hheld : held = Tab.get 0 t.memSt.heldTime h.region + (s.now - h.since)) (hbytes : h.bytes = []) (hwho : h.who = .other) :
    s.releaseOne h = (t.unheld h held).releaseCpds h := by
  subst hheld ht
  simp only [State.releaseOne, hbytes, hwho, State.unheld]

end Release

/-- Settles O14: a start by the kind of its CPD, a release by the bytes of its write, and the completion of a CPD of a context. -/
theorem copiesStartAndComplete : Obligations.CopiesStartAndComplete := by
  refine ⟨?startLocal, ?startRemote, ?releaseBytes, ?releaseCopy, ?complete⟩
  case startLocal =>
    intro s u d hu hfly hchoice hruns hkind hfree
    rw [← State.startCpd_local hfly hchoice hruns hkind hfree]
    exact guarded_of (decide_eq_true hu)
  case startRemote =>
    intro s u d hu hfly hchoice hruns hkind
    rw [← State.startCpd_remote hfly hchoice hruns hkind]
    exact guarded_of (decide_eq_true hu)
  case releaseBytes =>
    intro s t h b bs held hfind ht hheld hbytes hwho
    exact (execIlkWriteRelease_first hfind).trans (congrArg Host.Outcome.next (State.releaseOne_bytes ht hheld hbytes hwho))
  case releaseCopy =>
    intro s t h b bs held hfind ht hheld ⟨hbytes, _, _⟩ hwho
    exact (execIlkWriteRelease_first hfind).trans (congrArg Host.Outcome.next (State.releaseOne_copy ht hheld hbytes hwho))
  case complete =>
    intro s u p d c hu hp hfind hrestore hfence hstage hheld hfree hruns hsrc
    rw [← State.completeCpd_inflight hfind hfence hstage hheld hfree hruns]
    rw [CopyEng.startable_of_not_restore hrestore] at hfind
    exact execCpdComplete_context hu hp hfind hsrc

/-! ### Scrubbing and sparing (R129, R134, R136, R137) -/

/-- A change under a condition that does not hold. -/
theorem State.when_of_not {s : State} {c : Bool} (f : State → State) (h : c = false) : s.when c f = s :=
  if_neg (Bool.eq_false_iff.mp h)

section Devices

variable {s : State} {pd : Nat}

/-- A position that serves a device, and which no promotion is to replace, is promoted to its standby, or failed where that is not
free (R136, R137). -/
theorem State.startPromotion_serving (hpd : pd < 24) (hrole : s.rd (Reg.MEM_DEV_ROLE pd) = 0)
    (hnone : (s.memSt.promoting ++ s.memSt.sudden).any (fun q => q.1 == pd) = false) :
    s.startPromotion pd = if s.standbyFree (standbyOf pd) = true then s.setPromoting (s.memSt.promoting ++ [(pd, standbyOf pd)])
      else s.noStandby pd := by
  have hserves : ¬ (s.rd (Reg.MEM_DEV_ROLE pd) ≠ 0 ∨ (s.memSt.promoting ++ s.memSt.sudden).any (fun q => q.1 == pd) = true) := by
    simp [hrole, hnone]
  rw [State.startPromotion, if_neg hserves]
  cases hfree : s.standbyFree (standbyOf pd) with
  | false => exact if_pos (by simp)
  | true => exact if_neg (by simp [hpd])

/-- A write of MEM_PROMOTE with PD and RATE in their ranges takes both, and with START alone starts a promotion (R136, R447). -/
theorem State.writePromote_start {src : Src} {v : Nat} (hpd : bits v 0 5 ≤ 23) (hlow : 1 ≤ bits v 8 8) (hhigh : bits v 8 8 ≤ 64)
    (habort : bit v 6 = false) (hstart : bit v 5 = true) :
    s.writePromote src v =
      ((s.wr Reg.MEM_PROMOTE_RATE (bits v 8 8)).wr Reg.MEM_PROMOTE_PD (bits v 0 5)).startPromotion (bits v 0 5) := by
  have hrate : (decide (0 < bits v 8 8) && decide (bits v 8 8 ≤ 64)) = true := by
    rw [decide_eq_true (Nat.lt_of_succ_le hlow), decide_eq_true hhigh, Bool.and_self]
  have hgood : (decide (bits v 8 8 = 0) || decide (64 < bits v 8 8) || decide (23 < bits v 0 5)) = false := by
    simp only [Nat.one_le_iff_ne_zero.mp hlow, hhigh.not_gt, hpd.not_gt, decide_false, Bool.or_self]
  have hgo : (bit v 5 && decide (bits v 0 5 ≤ 23)) = true := by rw [hstart, decide_eq_true hpd, Bool.and_self]
  rw [State.writePromote, State.when_of _ hrate, State.when_of _ (decide_eq_true hpd), State.when_of_not _ hgood,
    State.when_of_not _ habort, State.when_of _ hgo]

/-- A position that serves a device and stops answering, whose standby is free, awaits the edge with its device's granules lost (R136). -/
theorem State.suddenLoss_serving {t : State} (hpd : pd < 24) (hrole : s.rd (Reg.MEM_DEV_ROLE pd) = 0)
    (hnone : s.memSt.sudden.any (fun q => q.1 == pd) = false)
    (ht : t = (s.setPromoting (s.memSt.promoting.filter (fun q => q.1 != pd))).memErr Reg.MEM_ERR_TRAIN_FAIL)
    (hfree : t.standbyFree (standbyOf pd) = true) :
    s.suddenLoss pd = ({ t with memSt := { t.memSt with sudden := t.memSt.sudden ++ [(pd, standbyOf pd)] } } : State).loseDevice
      (t.rd (Reg.MEM_DEV_LD pd)) := by
  have hserves : ¬ (s.rd (Reg.MEM_DEV_ROLE pd) ≠ 0 ∨ s.memSt.sudden.any (fun q => q.1 == pd) = true) := by simp [hrole, hnone]
  have hstandby : ¬ (24 ≤ pd ∨ (!t.standbyFree (standbyOf pd)) = true) := by simp [hpd, hfree]
  subst ht
  rw [State.suddenLoss, if_neg hserves]
  exact if_neg hstandby

end Devices

/-- Settles O15: the scrubs by what they read, a promotion by what PD, RATE and the position's role allow. That ABORT ends the oldest
promotion where none is of PD, and TRAIN_FAIL at a sudden loss, are the model's choice (notes/assumptions/71.md). -/
theorem memoryScrubAndSparingComplete : Obligations.MemoryScrubAndSparingComplete := by
  refine ⟨?patrol, ?commons, ?retire, ?plan, ?abort, ?abortOldest, ?switch, ?sudden⟩
  case patrol =>
    intro s hen
    have hruns : ¬ (!s.on Reg.MEM_SCRUB_EN) = true := by simp [hen]
    exact ⟨congrArg Host.Outcome.next (if_neg hruns), congrArg Host.Outcome.next (if_neg hruns)⟩
  case commons => exact fun s => ⟨rfl, rfl⟩
  case retire =>
    intro s pd hpd hrole hnone
    rw [← State.startPromotion_serving hpd hrole hnone]
    exact guarded_of (decide_eq_true hpd)
  case plan =>
    intro s v hpf hpd hlow hhigh habort hstart
    rw [← State.writePromote_start (src := .pf) hpd hlow hhigh habort hstart]
    exact State.fromPf_of_open hpf
  case abort =>
    intro s q hpf hfind
    refine (State.fromPf_of_open hpf).trans (congrArg Host.Outcome.next ?_)
    simp only [State.abortPromotion, hfind]
  case abortOldest =>
    intro s hpf hfind
    refine (State.fromPf_of_open hpf).trans (congrArg Host.Outcome.next ?_)
    simp only [State.abortPromotion, hfind]
  case switch =>
    intro s pd sb r hpromoting
    refine congrArg Host.Outcome.next ?_
    simp only [State.switchDevice, hpromoting]
  case sudden =>
    intro s t pd hpd hrole hnone ht hfree
    rw [← State.suddenLoss_serving hpd hrole hnone ht hfree]
    exact guarded_of (decide_eq_true hpd)

/-! ### Data ports (R155, R156) -/

section Ports

variable {s t : State} {i n : Nat} {bs : List Nat}

/-- An access through a port that its agent drives has its effect. -/
theorem State.viaPort_of_driven (hport : (i = 0 ∧ s.pfOpen 17 = true) ∨ (i = 1 ∧ s.pwr.off = false)) :
    s.viaPort i (s.guarded (decide (i < 2)) t) = .next t := by
  rcases hport with ⟨rfl, hpf⟩ | ⟨rfl, hon⟩
  · exact State.fromPf_guarded_of_open hpf rfl
  · rw [State.viaPort, if_neg one_ne_zero, hon, guarded_of (by decide)]
    exact if_neg Bool.false_ne_true

/-- A read of an open range that is readable answers its bytes, and moves the address on. -/
theorem State.dportRead_of_open (hen : s.on (Reg.DPORT_CTRL_EN i) = true) (hopen : s.dportOpen (s.dportAddr i) n = true)
    (hread : s.readable (s.dportAddr i) n = true) :
    s.dportRead i n =
      ((s.wr (Reg.DPORT_ADDR_ADDR i) ((s.dportAddr i + n) / 4)).markSeen (s.dportAddr i) n, s.bytes (s.dportAddr i) n) := by
  simp only [State.dportRead, hen, hopen, hread, Bool.not_true, Bool.false_eq_true, if_true, if_false]

/-- A write to an open range is stored, and moves the address on. -/
theorem State.dportWrite_of_open (hen : s.on (Reg.DPORT_CTRL_EN i) = true) (hopen : s.dportOpen (s.dportAddr i) bs.length = true) :
    s.dportWrite i bs = s.dportStore i bs := by
  simp only [State.dportWrite, hen, hopen, Bool.not_true, Bool.false_eq_true, if_false]

end Ports

/-- Settles O16: each access is through a port that its agent drives, and passes the checks of its port. That AHEAD shows 4,096 after a
refused read with PREFETCH too is the model's choice (notes/assumptions/55.md). -/
theorem dataPortsComplete : Obligations.DataPortsComplete := by
  refine ⟨?read, ?write, ?apertureRead, ?apertureWrite, ?flush⟩
  case read =>
    intro s i hport hen hopen hread
    refine (State.viaPort_of_driven hport).trans ?_
    rw [State.dportRead_of_open hen hopen hread]
  case write =>
    intro s i v hport hen hopen
    refine (State.viaPort_of_driven hport).trans ?_
    rw [State.dportWrite_of_open (bs := leBytes 4 v) hen hopen]
  case apertureRead =>
    intro s i n hport hwords
    exact (State.viaPort_of_driven hport).trans (congrArg Host.Outcome.next (if_neg (not_not.mpr hwords)))
  case apertureWrite =>
    intro s i bs hport hwords hen hopen
    refine (State.viaPort_of_driven hport).trans (congrArg Host.Outcome.next ?_)
    rw [if_neg (not_not.mpr hwords), State.dportWrite_of_open hen hopen]
  case flush =>
    intro s i hport
    exact State.viaPort_of_driven hport

end Sys2Proof.Machine
end

section
/-! SUPPORT. Partitions: how a command is taken, checked and applied at its edge, and what doorbells, queue records, slices and the
words of the dirty bitmap do where their checks are passed. -/

namespace Sys2Proof.Machine

/-! ### Commands taken and checked (R160, R161) -/

section Taken

variable {s : State} {p code major minor : Nat} {tgt digestOk : Bool} {blob : Option Blob} {x : PartCmd}

/-- The Reeve finds a command good only while its operational firmware runs. -/
theorem State.operational_of_checkCmd (h : s.checkCmd x = none) : s.operational = true := by
  by_contra hoff
  simp [State.checkCmd, Bool.eq_false_iff.mpr hoff] at h

/-- While it runs, the Reeve is not in reset. -/
theorem State.not_resetting_of_operational (h : s.operational = true) : (s.rd Reg.MGT_STATUS_STATE == 4) = false := by
  simp only [State.operational, State.fwRuns, Bool.and_eq_true, Bool.or_eq_true, beq_iff_eq] at h
  rw [beq_eq_false_iff_ne]
  omega

/-- The command at the head is accepted when it is found good, and no RESTORE whose function may not read the host. -/
theorem State.pumpCmds_accepts {r : List PartCmd} (n : Nat) (hcmds : s.partCmds = x :: r) (hnew : x.checked = false)
    (hheld : x.code = 0x0D → s.hostHeld x.part = false) (hgood : s.checkCmd x = none) :
    s.pumpCmds (n + 1) = s.acceptCmd x r := by
  have hnotReset := State.not_resetting_of_operational (State.operational_of_checkCmd hgood)
  have hreads : (x.code == 0x0D && s.hostHeld x.part) = false := by
    by_cases hrestore : x.code = 0x0D
    · simp [hheld hrestore]
    · simp [hrestore]
  simp only [State.pumpCmds, hcmds, hnew, hnotReset, hreads, hgood, Bool.or_self, Bool.false_eq_true, if_false]

/-- A good command to a partition that is not busy, while no other waits, is taken and accepted at once (notes/assumptions/49.md). -/
theorem State.partCmd_accepts (hbusy : s.on (Reg.PART_CMD_STATUS_BUSY p) = false) (hnone : s.partCmds = [])
    (hx : x = s.newCmd p code tgt digestOk major minor blob) (hheld : code = 0x0D → (s.takeCmd x).hostHeld p = false)
    (hgood : (s.takeCmd x).checkCmd x = none) :
    s.partCmd p code tgt digestOk major minor blob = (s.takeCmd x).acceptCmd x [] := by
  have hcmds : (s.takeCmd x).partCmds = [x] := by simp [State.takeCmd, hnone]
  subst hx
  simp only [State.partCmd, hbusy, Bool.false_eq_true, if_false, hcmds, List.length_singleton]
  exact State.pumpCmds_accepts 0 hcmds rfl hheld hgood

/-- So is the command that the PF gives for a partition that the module has. -/
theorem State.fromPf_partCmd (hpf : s.pfOpen 4 = true) (hp : p < 64) (hbusy : s.on (Reg.PART_CMD_STATUS_BUSY p) = false)
    (hnone : s.partCmds = []) (hx : x = s.newCmd p code tgt digestOk major minor blob)
    (hheld : code = 0x0D → (s.takeCmd x).hostHeld p = false) (hgood : (s.takeCmd x).checkCmd x = none) :
    s.fromPf 4 (s.guarded (decide (p < 64)) (s.partCmd p code tgt digestOk major minor blob)) =
      .next ((s.takeCmd x).acceptCmd x []) := by
  rw [State.fromPf_guarded_of_open hpf (decide_eq_true hp), State.partCmd_accepts hbusy hnone hx hheld hgood]

end Taken

/-- Settles O17: each command is a write of its code to PART_CMD; only RESTORE must be able to read the host. That a command is checked
at once is the model's choice (notes/assumptions/49.md). -/
theorem partitionCommandsAreTakenAndChecked : Obligations.PartitionCommandsAreTakenAndChecked := by
  refine ⟨?create, ?grant, ?bindVf, ?bindCtx, ?unbindCtx, ?start, ?freeze, ?thaw, ?stop, ?resetWork, ?destroy, ?logStart, ?logSwap,
    ?logStop, ?save, ?restore⟩
  case restore =>
    intro s p tgt blob major minor hpf hp hbusy hnone hheld hgood
    exact State.fromPf_partCmd hpf hp hbusy hnone rfl (fun _ => hheld) hgood
  all_goals
    intro s p tgt hpf hp hbusy hnone hgood
    exact State.fromPf_partCmd hpf hp hbusy hnone rfl (fun h => absurd h (by decide)) hgood

/-! ### The edge of a command, and FREEZE_SLOW (R161, R162) -/

/-- The checked command at the head, at its edge and with nothing to wait for, is applied and ends, and the next is checked. -/
theorem State.cmdEdge_due {s u : State} {a : State × Nat} {x : PartCmd} {r : List PartCmd} (hcmds : s.partCmds = x :: r)
    (hchecked : x.checked = true) (hbell : x.bell ≤ s.count) (hgo : s.cmdWaits x = false)
    (hstate : s.partState x.part ∈ fromStates x.code) (ha : a = ({ s with partCmds := r } : State).applyCmd x)
    (hu : u = a.1.endCmd x.part (x.code % 256) a.2) : s.cmdEdge = u.pumpCmds u.partCmds.length := by
  have hdue : ¬ ((!x.checked) = true ∨ s.count < x.bell) := by simp [hchecked, hbell]
  subst hu ha
  simp only [State.cmdEdge, hcmds, hdue, hgo, hstate, Bool.false_eq_true, if_false, if_true]

/-- FREEZE_SLOW is raised where the partition is still FREEZING at its limit. -/
theorem execFreezeSlow_due {s : State} {p f : Nat} (hp : p < 64) (hstate : s.partState p = .freezing)
    (hfreeze : (s.part p).freezeAt = some f) (hlimit : f + s.rd (Reg.PART_LIMITS_FREEZE p) ≤ s.count) :
    execFreezeSlow p s = .next (s.partEvent p Reg.PART_EVENT_FREEZE_SLOW) := by
  refine (guarded_of (decide_eq_true hp)).trans (congrArg Host.Outcome.next ?_)
  simp only [hstate, hfreeze, hlimit, if_true]

/-! ### Doorbells (R165, R166, R199) -/

section Doorbells

variable {s : State} {p cls q v : Nat}

/-- A doorbell of a queue that the module has is what the state of its partition makes of it. -/
theorem execDoorbell_named (hp : p < 64) (hcls : cls < 4) (hq : q < 4096) : execDoorbell p cls q v s = .next (s.doorbell p cls q v) :=
  guarded_of (by simp [hp, hcls, hq])

/-- A doorbell with an index in range, of a queue granted and enabled, is not dropped for what it names. -/
theorem not_droppedDoorbell (hv : v < 65536) (hgrant : s.queueGranted p cls q = true) (hen : (s.queue p cls q).en = true) :
    ¬ (65536 ≤ v ∨ (!s.queueGranted p cls q) = true ∨ (!(s.queue p cls q).en) = true) := by
  simp [hv, hgrant, hen]

/-- In RUN it acts, unless its ring is in host memory and the partition quiesced. -/
theorem State.doorbell_acts (hv : v < 65536) (hgrant : s.queueGranted p cls q = true) (hen : (s.queue p cls q).en = true)
    (hrun : s.partState p = .run) (hopen : ¬ (s.quiesced p = true ∧ (s.queue p cls q).base < 2 ^ 63)) :
    s.doorbell p cls q v = s.actDoorbell p cls q v := by
  rw [State.doorbell, if_neg (not_droppedDoorbell hv hgrant hen)]
  simp only [hrun, if_neg hopen]

/-- A quiesced partition's doorbell of a ring in host memory is latched. -/
theorem State.doorbell_quiesced (hv : v < 65536) (hgrant : s.queueGranted p cls q = true) (hen : (s.queue p cls q).en = true)
    (hrun : s.partState p = .run) (hquiesced : s.quiesced p = true) (hhost : (s.queue p cls q).base < 2 ^ 63) :
    s.doorbell p cls q v = s.setQueue p cls q { s.queue p cls q with latched := some v } := by
  rw [State.doorbell, if_neg (not_droppedDoorbell hv hgrant hen)]
  simp only [hrun, hquiesced, hhost, and_self, if_true]

/-- In READY, FREEZING and FROZEN it is latched. -/
theorem State.doorbell_latched (hv : v < 65536) (hgrant : s.queueGranted p cls q = true) (hen : (s.queue p cls q).en = true)
    (hstate : s.partState p = .ready ∨ s.partState p = .freezing ∨ s.partState p = .frozen) :
    s.doorbell p cls q v = s.setQueue p cls q { s.queue p cls q with latched := some v } := by
  rw [State.doorbell, if_neg (not_droppedDoorbell hv hgrant hen)]
  rcases hstate with h | h | h <;> simp only [h]

end Doorbells

/-! ### Queue records (R165, Table 6.6) -/

section Records

variable {s : State} {p cls q v : Nat}

/-- A write of a word of a queue's record by the PF. -/
theorem execQueueRecordWrite_named {word : Nat} (hpf : s.pfOpen 4 = true) (hp : p < 64) (hcls : cls < 4) (hq : q < 4096) (hword : word < 8) :
    execQueueRecordWrite p cls q word v s = .next (s.writeRecord p cls q word v) :=
  State.fromPf_guarded_of_open hpf (by simp [hp, hcls, hq, hword])

variable (hgrant : s.queueGranted p cls q = true)

include hgrant

/-- Word 0 of a queue that is not enabled is the low half of its base. -/
theorem State.writeRecord_baseLow (hen : (s.queue p cls q).en = false) :
    s.writeRecord p cls q 0 v = s.setQueue p cls q { s.queue p cls q with base := setBits (s.queue p cls q).base 0 32 (v % 2 ^ 32) } := by
  simp only [State.writeRecord, hgrant, hen, Bool.not_true, Bool.false_eq_true, if_false]

/-- Word 1 of a queue that is not enabled is the high half of its base. -/
theorem State.writeRecord_baseHigh (hen : (s.queue p cls q).en = false) :
    s.writeRecord p cls q 1 v = s.setQueue p cls q { s.queue p cls q with base := setBits (s.queue p cls q).base 32 32 (v % 2 ^ 32) } := by
  simp only [State.writeRecord, hgrant, hen, Bool.not_true, Bool.false_eq_true, if_false]

/-- Word 2 with EN sets up a queue that is not enabled and has no reset under way, when the set-up is valid. -/
theorem State.writeRecord_setUp (hen : (s.queue p cls q).en = false) (hset : bit (v % 2 ^ 32) 16 = true)
    (hvalid : s.setupBad p (v % 2 ^ 32) = false) (hidle : s.queueResetting p cls q = false) :
    s.writeRecord p cls q 2 v = s.setQueue p cls q ((s.queue p cls q).setUp (bits (v % 2 ^ 32) 0 5) (bits (v % 2 ^ 32) 5 11)
      (if cls = 0 then (s.queue p cls q).w5 else 0)) := by
  simp only [State.writeRecord, hgrant, hen, hset, hvalid, hidle, Bool.not_true, Bool.false_eq_true, if_false]

/-- Words 4 and 6 take the bits that the queue's chapter makes writable. -/
theorem State.writeRecord_chapterWords :
    s.writeRecord p cls q 4 v = s.setQueue p cls q { s.queue p cls q with w4 := Nat.land (v % 2 ^ 32) (recordMask cls q 4) } ∧
    s.writeRecord p cls q 6 v = s.setQueue p cls q { s.queue p cls q with w6 := Nat.land (v % 2 ^ 32) (recordMask cls q 6) } := by
  simp only [State.writeRecord, hgrant, Bool.not_true, Bool.false_eq_true, if_false, and_self]

end Records

/-! ### What a slice's write depends on (R159, R170) -/

/-- The units that a range touches are those from its first byte's to its last one's. -/
theorem mem_unitsOf {a n u b : Nat} : b ∈ unitsOf a n u ↔ 0 < n ∧ ∃ k, a / u ≤ k ∧ k ≤ (a + n - 1) / u ∧ k * u = b := by
  unfold unitsOf
  split
  case isTrue h => simp [h]
  case isFalse h =>
    simp only [List.mem_map, List.mem_range, Nat.pos_of_ne_zero h, true_and]
    constructor
    · rintro ⟨i, hi, rfl⟩
      have hfirst : a / u ≤ (a + n - 1) / u := Nat.div_le_div_right (by omega)
      exact ⟨a / u + i, by omega, by omega, rfl⟩
    · rintro ⟨k, hlo, hhi, rfl⟩
      exact ⟨k - a / u, by omega, by rw [Nat.add_sub_cancel' hlo]⟩

/-- All addresses of one 64 MiB unit are in the grant, or none is (R159). -/
theorem translate_eq_none_of_sameUnit {segs : List Seg} {a b : Nat} (h : a / 2 ^ 26 = b / 2 ^ 26) :
    translate segs a = none ↔ translate segs b = none := by
  simp only [translate, Option.map_eq_none_iff, h]

/-- A slice's window is outside the grant when some byte of it is. -/
theorem State.sliceOutside_iff {s : State} {p wbase wlen : Nat} : s.sliceOutside p wbase wlen = true ↔
    ∃ a, wbase * 0x200000 ≤ a ∧ a < (wbase + wlen) * 0x200000 ∧ translate (s.bounds p).segs a = none := by
  simp only [State.sliceOutside, List.any_eq_true, mem_unitsOf, Option.isNone_iff_eq_none]
  constructor
  · rintro ⟨_, ⟨hlen, k, hlo, hhi, rfl⟩, hnone⟩
    refine ⟨max (wbase * 0x200000) (k * 2 ^ 26), by omega, by omega, ?_⟩
    exact (translate_eq_none_of_sameUnit (by omega)).mp hnone
  · rintro ⟨a, hlo, hhi, hnone⟩
    refine ⟨a / 2 ^ 26 * 2 ^ 26, ⟨by omega, a / 2 ^ 26, by omega, by omega, rfl⟩, ?_⟩
    exact (translate_eq_none_of_sameUnit (by omega)).mp hnone

/-- Another enabled slice of the partition has the PASID. -/
theorem State.pasidElsewhere_iff {s : State} {p sl pasid : Nat} :
    (List.range 1024).any (fun i => i != sl && s.on (Reg.PART_SLICE_EN p i) && s.rd (Reg.PART_SLICE_PASID p i) == pasid) = true ↔
      ∃ i, i < 1024 ∧ i ≠ sl ∧ s.on (Reg.PART_SLICE_EN p i) = true ∧ s.rd (Reg.PART_SLICE_PASID p i) = pasid := by
  simp only [List.any_eq_true, List.mem_range, Bool.and_eq_true, bne_iff_ne, beq_iff_eq, and_assoc]

section Slices

variable {s : State} {p sl v : Nat}

/-- The fields of a slice are at different bits of its register. -/
theorem sliceFields_distinct :
    (Reg.PART_SLICE_EN p sl).key ≠ (Reg.PART_SLICE_WBASE p sl).key ∧ (Reg.PART_SLICE_EN p sl).key ≠ (Reg.PART_SLICE_WLEN p sl).key ∧
    (Reg.PART_SLICE_PASID p sl).key ≠ (Reg.PART_SLICE_EN p sl).key ∧ (Reg.PART_SLICE_PASID p sl).key ≠ (Reg.PART_SLICE_WBASE p sl).key ∧
    (Reg.PART_SLICE_PASID p sl).key ≠ (Reg.PART_SLICE_WLEN p sl).key ∧ (Reg.PART_SLICE_WBASE p sl).key ≠ (Reg.PART_SLICE_WLEN p sl).key := by
  simp [Fld.key, Reg.PART_SLICE_EN, Reg.PART_SLICE_PASID, Reg.PART_SLICE_WBASE, Reg.PART_SLICE_WLEN]

/-- A slice that is written reads EN as given, and the fields of the value. -/
theorem State.rd_putSlice {en : Nat} (hen : en < 2) :
    (s.putSlice p sl v en).rd (Reg.PART_SLICE_EN p sl) = en ∧ (s.putSlice p sl v en).rd (Reg.PART_SLICE_PASID p sl) = bits v 0 20 ∧
    (s.putSlice p sl v en).rd (Reg.PART_SLICE_WBASE p sl) = bits v 32 16 ∧ (s.putSlice p sl v en).rd (Reg.PART_SLICE_WLEN p sl) = bits v 48 16 := by
  obtain ⟨hEnWbase, hEnWlen, hPasidEn, hPasidWbase, hPasidWlen, hWbaseWlen⟩ := sliceFields_distinct (p := p) (sl := sl)
  rw [State.putSlice, State.rd_wr_other _ _ _ _ hEnWlen, State.rd_wr_other _ _ _ _ hEnWbase, State.rd_wr,
    State.rd_wr_other _ _ _ _ hPasidWlen, State.rd_wr_other _ _ _ _ hPasidWbase, State.rd_wr_other _ _ _ _ hPasidEn, State.rd_wr,
    State.rd_wr_other _ _ _ _ hWbaseWlen, State.rd_wr, State.rd_wr]
  exact ⟨Nat.mod_eq_of_lt hen, Nat.mod_mod _ _, Nat.mod_mod _ _, Nat.mod_mod _ _⟩

/-- No field at or above the partitions' registers is MGT_LOG's, which an event may write. -/
theorem Fld.key_ne_mgtLog {f : Fld} (haddr : 0x100000 ≤ f.addr) : f.key ≠ Reg.MGT_LOG_INDEX.key ∧ f.key ≠ Reg.MGT_LOG_LOST.key := by
  simp only [Fld.key, Reg.MGT_LOG_INDEX, Reg.MGT_LOG_LOST, Reg.MGT_LOG]
  omega

/-- A slice that is rejected reads EN as 0, and SLICE_REJECT reads 1. -/
theorem State.rd_rejectedSlice :
    ((s.putSlice p sl v 0).partEvent p Reg.PART_EVENT_SLICE_REJECT).rd (Reg.PART_SLICE_EN p sl) = 0 ∧
    ((s.putSlice p sl v 0).partEvent p Reg.PART_EVENT_SLICE_REJECT).rd (Reg.PART_EVENT_SLICE_REJECT p) = 1 := by
  have hapart : (Reg.PART_SLICE_EN p sl).key ≠ (Reg.PART_EVENT_SLICE_REJECT p).key := by
    simp only [Fld.key, Reg.PART_SLICE_EN, Reg.PART_SLICE, Reg.PART_EVENT_SLICE_REJECT, Reg.PART_EVENT]
    omega
  obtain ⟨henIndex, henLost⟩ := Fld.key_ne_mgtLog (f := Reg.PART_SLICE_EN p sl) (by simp only [Reg.PART_SLICE_EN, Reg.PART_SLICE]; omega)
  obtain ⟨heventIndex, heventLost⟩ := Fld.key_ne_mgtLog (f := Reg.PART_EVENT_SLICE_REJECT p)
    (by simp only [Reg.PART_EVENT_SLICE_REJECT, Reg.PART_EVENT]; omega)
  constructor
  · exact (State.rd_event_other _ _ _ _ _ hapart henIndex henLost).trans (State.rd_putSlice Nat.two_pos).1
  · exact State.rd_event _ _ _ _ Nat.one_lt_two heventIndex heventLost

/-- A write of a slice by the PF. -/
theorem execSliceWrite_named (hpf : s.pfOpen 4 = true) (hp : p < 64) (hslice : sl < 1024) :
    execSliceWrite p sl v s = .next (s.writeSlice p sl v) :=
  State.fromPf_guarded_of_open hpf (by simp [hp, hslice])

variable (hgrant : sl < (s.part p).grants.slices)

include hgrant

/-- An enabled slice is written only to clear EN, once no enabled queue of the partition names it (R170). -/
theorem State.writeSlice_of_enabled (hen : s.on (Reg.PART_SLICE_EN p sl) = true) :
    s.writeSlice p sl v = if bit v 20 = true ∨ s.queues.any (fun e => e.1 / 4096 / 4 == p && e.2.en && e.2.slice == sl) = true then s
      else s.putSlice p sl v 0 := by
  rw [State.writeSlice, if_neg hgrant.not_ge, if_pos hen]

/-- A slice that is not enabled takes a write with EN = 0 (R170). -/
theorem State.writeSlice_staysOff (hen : s.on (Reg.PART_SLICE_EN p sl) = false) (hset : bit v 20 = false) :
    s.writeSlice p sl v = s.putSlice p sl v 0 := by
  simp only [State.writeSlice, hgrant.not_ge, hen, hset, Bool.not_false, Bool.false_eq_true, if_true, if_false]

/-- A slice that is not enabled is enabled by a write whose window lies in the grant, with a PASID that no other enabled slice has; else
it is rejected (R170). -/
theorem State.writeSlice_enables (hen : s.on (Reg.PART_SLICE_EN p sl) = false) (hset : bit v 20 = true) :
    s.writeSlice p sl v = if (s.sliceOutside p (bits v 32 16) (bits v 48 16) ||
        (List.range 1024).any (fun i => i != sl && s.on (Reg.PART_SLICE_EN p i) && s.rd (Reg.PART_SLICE_PASID p i) == bits v 0 20)) = true
      then (s.putSlice p sl v 0).partEvent p Reg.PART_EVENT_SLICE_REJECT
      else s.putSlice p sl v 1 := by
  simp only [State.writeSlice, hgrant.not_ge, hen, hset, Bool.not_true, Bool.false_eq_true, if_false]

end Slices

/-! ### Dirty-page logging (R172) -/

/-- The oldest word due is written when the partition's function may request. -/
theorem State.bitmapWrite_due {s : State} {p : Nat} {w : BitmapWrite} {r : List BitmapWrite} (hdue : (s.part p).bitmapDue = w :: r)
    (hopen : s.hostHeld p = false) : s.bitmapWrite p = (s.putBitmap p w).setPart p { s.part p with bitmapDue := r } := by
  simp only [State.bitmapWrite, hdue, hopen, Bool.false_eq_true, if_false]

/-- Settles O18: each command names units that the module has, and its meaning takes the one branch that the hypotheses leave. -/
theorem partitionEdgeAndDoorbellsComplete : Obligations.PartitionEdgeAndDoorbellsComplete := by
  refine ⟨?edge, ?slow, ?acts, ?quiesced, ?latched, ?base, ?chapter, ?setUp, ?staysOff, ?enables, ?bitmap⟩
  case edge =>
    intro s x r hcmds hchecked hbell hgo hstate
    exact congrArg Host.Outcome.next (State.cmdEdge_due hcmds hchecked hbell hgo hstate rfl rfl)
  case slow =>
    intro s p f hp hstate hfreeze hlimit
    exact execFreezeSlow_due hp hstate hfreeze hlimit
  case acts =>
    intro s p cls q v hp hcls hq hv hgrant hen hrun hopen
    rw [← State.doorbell_acts hv hgrant hen hrun hopen]
    exact execDoorbell_named hp hcls hq
  case quiesced =>
    intro s p cls q v hp hcls hq hv hgrant hen hrun hquiesced hhost
    rw [← State.doorbell_quiesced hv hgrant hen hrun hquiesced hhost]
    exact execDoorbell_named hp hcls hq
  case latched =>
    intro s p cls q v hp hcls hq hv hgrant hen hstate
    rw [← State.doorbell_latched hv hgrant hen hstate]
    exact execDoorbell_named hp hcls hq
  case base =>
    intro s p cls q v hpf hp hcls hq hgrant hen
    rw [← State.writeRecord_baseLow hgrant hen, ← State.writeRecord_baseHigh hgrant hen]
    exact ⟨execQueueRecordWrite_named hpf hp hcls hq (by decide), execQueueRecordWrite_named hpf hp hcls hq (by decide)⟩
  case chapter =>
    intro s p cls q v hpf hp hcls hq hgrant
    obtain ⟨hword4, hword6⟩ := State.writeRecord_chapterWords (v := v) hgrant
    rw [← hword4, ← hword6]
    exact ⟨execQueueRecordWrite_named hpf hp hcls hq (by decide), execQueueRecordWrite_named hpf hp hcls hq (by decide)⟩
  case setUp =>
    intro s p cls q v hpf hp hcls hq hgrant hen hset _ hvalid hidle
    rw [← State.writeRecord_setUp hgrant hen hset hvalid hidle]
    exact execQueueRecordWrite_named hpf hp hcls hq (by decide)
  case staysOff =>
    intro s p sl v hpf hp hslice hgrant hen hset
    rw [← State.writeSlice_staysOff hgrant hen hset]
    exact execSliceWrite_named hpf hp hslice
  case enables =>
    intro s p sl v hpf hp hslice hgrant hen hset hinside hunused
    refine (execSliceWrite_named hpf hp hslice).trans ?_
    rw [State.writeSlice_enables hgrant hen hset, hinside, hunused]
    rfl
  case bitmap =>
    intro s p w r hp hdue hopen
    rw [← State.bitmapWrite_due hdue hopen]
    exact guarded_of (decide_eq_true hp)

/-- Settles O60: EN as it was and EN as written choose the case; the window's bytes and the other slices decide whether EN is set. -/
theorem sliceWritesFollowTheirRule : Obligations.SliceWritesFollowTheirRule := by
  refine ⟨?stays, ?named, ?clears, ?staysOff, ?enables, ?rejected⟩
  case stays =>
    intro s p sl v hpf hp hslice hgrant hen hset
    refine (execSliceWrite_named hpf hp hslice).trans ?_
    rw [State.writeSlice_of_enabled hgrant hen, if_pos (.inl hset)]
  case named =>
    intro s p sl v hpf hp hslice hgrant hen _ hnamed
    refine (execSliceWrite_named hpf hp hslice).trans ?_
    rw [State.writeSlice_of_enabled hgrant hen, if_pos (.inr hnamed)]
  case clears =>
    intro s p sl v hpf hp hslice hgrant hen hset hunnamed
    refine ⟨_, execSliceWrite_named hpf hp hslice, ?_⟩
    rw [State.writeSlice_of_enabled hgrant hen, if_neg (by simp only [hset, hunnamed, Bool.false_eq_true, or_self, not_false_eq_true])]
    exact State.rd_putSlice Nat.two_pos
  case staysOff =>
    intro s p sl v hpf hp hslice hgrant hen hset
    refine ⟨_, execSliceWrite_named hpf hp hslice, ?_⟩
    rw [State.writeSlice_staysOff hgrant hen hset]
    exact State.rd_putSlice Nat.two_pos
  case enables =>
    intro s p sl v hpf hp hslice hgrant hen hset hinside hunused
    refine ⟨_, execSliceWrite_named hpf hp hslice, ?_⟩
    rw [← State.sliceOutside_iff] at hinside
    rw [← State.pasidElsewhere_iff] at hunused
    rw [State.writeSlice_enables hgrant hen hset, if_neg (by rw [Bool.or_eq_true]; exact not_or.mpr ⟨hinside, hunused⟩)]
    exact State.rd_putSlice Nat.one_lt_two
  case rejected =>
    intro s p sl v hpf hp hslice hgrant hen hset hbad
    refine ⟨_, execSliceWrite_named hpf hp hslice, ?_⟩
    rw [← State.sliceOutside_iff, ← State.pasidElsewhere_iff, ← Bool.or_eq_true] at hbad
    rw [State.writeSlice_enables hgrant hen hset, if_pos hbad]
    exact State.rd_rejectedSlice

end Sys2Proof.Machine
end

section
/-! SUPPORT. The host's link and the host driver: what training, power states, resets, heartbeats and RESUME do where their checks are
passed. -/

namespace Sys2Proof.Machine

/-! ### The link and its resets (R175, R176, R181, R194, R433) -/

section HostLink

variable {s : State}

/-- A link that is up retrains to a width and speed within the module's caps (R176). -/
theorem execLinkRetrain_of_up {w sp : Nat} (fl : Bool) (hup : s.on Reg.PCI_STATUS_LINK_UP = true) (hfit : s.trainable w sp = true) :
    execLinkRetrain w sp fl s = .next (s.trained w sp fl) :=
  congrArg Host.Outcome.next (State.when_of _ (by rw [hup, hfit]; rfl))

/-- A link that is down comes up when PERST_N is released and no test loops the endpoint (R175, R194). -/
theorem execHostLinkUp_of_down {w sp : Nat} (fl : Bool) (hdown : s.on Reg.PCI_STATUS_LINK_UP = false) (hreleased : s.pci.perst = false)
    (hfit : s.trainable w sp = true) (hunlooped : s.on (Reg.TST_LOOP_ACTIVE 32) = false) :
    execHostLinkUp w sp fl s = .next ((s.wr Reg.PCI_STATUS_LINK_UP 1).trained w sp fl) :=
  congrArg Host.Outcome.next (State.when_of _ (by rw [hdown, hreleased, hfit, hunlooped]; rfl))

/-- Out of D0 no held request is released (R181). -/
theorem State.setDState_of_ne_d0 {d : DState} (hd : d ≠ .d0) : s.setDState d = { s with pci := { s.pci with dstate := d } } := if_neg hd

/-- Only a link that is up is lost (R194). -/
theorem State.linkDown_of_up (hup : s.on Reg.PCI_STATUS_LINK_UP = true) : s.linkDown = s.linkLost := by
  rw [State.linkDown, hup]
  rfl

/-- PERST_N, not yet taken as low, resets the endpoint once it is low for its filter time (R433, R439). -/
theorem execPerstAssert_of_filtered {low : Nat} (hlong : s.rd Reg.HUB_FILTER_PERST ≤ low) (hreleased : s.pci.perst = false) :
    execPerstAssert low s = .next s.hostReset := by
  have hpassed : ¬ (low < s.rd Reg.HUB_FILTER_PERST ∨ s.pci.perst = true) := not_or.mpr ⟨hlong.not_gt, Bool.eq_false_iff.mp hreleased⟩
  exact congrArg Host.Outcome.next (if_neg hpassed)

end HostLink

/-- Settles O20: a link event is decided by whether the link is up and by what it may train to, a reset names a function that the module
has, and PERST_N is judged by its filter. -/
theorem linkAndResetEventsComplete : Obligations.LinkAndResetEventsComplete := by
  refine ⟨?retrain, ?linkUp, ?d3hot, ?busMaster, ?vfFlr, ?pfReset, ?linkDown, ?perstLow, ?perstHigh⟩
  case retrain =>
    intro s w sp fl hup hfit
    exact execLinkRetrain_of_up fl hup hfit
  case linkUp =>
    intro s w sp fl hdown hreleased hfit hunlooped
    exact execHostLinkUp_of_down fl hdown hreleased hfit hunlooped
  case d3hot =>
    intro s
    exact congrArg Host.Outcome.next (State.setDState_of_ne_d0 (by decide))
  case busMaster =>
    intro s f on hf
    exact guarded_of (decide_eq_true hf)
  case vfFlr =>
    intro s v hpos hv
    exact guarded_of (by simp [hpos, hv])
  case pfReset =>
    intro s flr
    rfl
  case linkDown =>
    intro s hup
    exact congrArg Host.Outcome.next (State.linkDown_of_up hup)
  case perstLow =>
    intro s low hlong hreleased
    exact execPerstAssert_of_filtered hlong hreleased
  case perstHigh =>
    intro s
    rfl

/-! ### The host driver (R197 to R200) -/

section Driver

variable {s u : State}

/-- Firmware that runs attaches a driver where none is attached (R197). -/
theorem State.attach_of_detached (hdetached : s.rd Reg.PCI_DRV_STATE ≠ 1) (hfw : s.fwRuns = true) : s.attach = s.attached := by
  rw [State.attach, hfw]
  exact if_neg (not_or.mpr ⟨hdetached, by decide⟩)

section Attached

variable (hattached : s.rd Reg.PCI_DRV_STATE = 1)

include hattached

/-- A heartbeat of an attached driver counts for the period in progress (R198). -/
theorem State.heartbeat_of_attached : s.heartbeat = { s with pci := { s.pci with hbSeen := true } } :=
  State.when_of _ (beq_iff_eq.mpr hattached)

/-- RESUME of an attached driver is due at the next edge, and acts at once while the bell is off (R200, notes/assumptions/22.md). -/
theorem State.resumeParts_of_attached (parts : Nat) :
    s.resumeParts parts = (s.resumeSoon parts).when (!s.on Reg.BELL_CTRL_EN) (fun t => t.resumeNow) := by
  rw [State.resumeParts, if_neg (not_not.mpr hattached)]
  cases s.on Reg.BELL_CTRL_EN <;> rfl

variable (hrunning : s.rv.hbHeld = false) (hend : u = s.atTime (s.pci.hbStart + s.pci.hbPeriod * 4000000))

include hrunning hend

/-- While no Reeve reset suspends the watch (R385), a period's end starts the next one, or loses the driver at the third miss (R198). -/
theorem State.hbEnd_of_attached :
    s.hbEnd = if u.pci.hbSeen = true then (u.wr Reg.PCI_HB_CFG_MISSES 0).nextPeriod
      else
        if min (u.rd Reg.PCI_HB_CFG_MISSES + 1) 3 = 3 then
          (((u.wr Reg.PCI_HB_CFG_MISSES 3).pciEvent Reg.PCI_EVENT_HB_MISS).wr Reg.PCI_DRV_STATE 3).quiesceSoon
            ((u.wr Reg.PCI_HB_CFG_MISSES 3).pciEvent Reg.PCI_EVENT_HB_MISS).hbScope
        else
          ((u.wr Reg.PCI_HB_CFG_MISSES (min (u.rd Reg.PCI_HB_CFG_MISSES + 1) 3)).pciEvent Reg.PCI_EVENT_HB_MISS).nextPeriod := by
  have hdue : ¬ (s.rd Reg.PCI_DRV_STATE ≠ 1 ∨ s.rv.hbHeld = true) := not_or.mpr ⟨not_not.mpr hattached, Bool.eq_false_iff.mp hrunning⟩
  rw [State.hbEnd, if_neg hdue, ← hend]
  by_cases hthird : min (u.rd Reg.PCI_HB_CFG_MISSES + 1) 3 = 3
  · simp only [hthird, if_true]
  · simp only [hthird, if_false]

/-- A period with a heartbeat clears the misses (R198). -/
theorem State.hbEnd_heard (hseen : u.pci.hbSeen = true) : s.hbEnd = (u.wr Reg.PCI_HB_CFG_MISSES 0).nextPeriod := by
  rw [State.hbEnd_of_attached hattached hrunning hend, if_pos hseen]

/-- The first and the second period in a row without a heartbeat are counted (R198). -/
theorem State.hbEnd_missed (hunseen : u.pci.hbSeen = false) (hfew : u.rd Reg.PCI_HB_CFG_MISSES < 2) :
    s.hbEnd = ((u.wr Reg.PCI_HB_CFG_MISSES (u.rd Reg.PCI_HB_CFG_MISSES + 1)).pciEvent Reg.PCI_EVENT_HB_MISS).nextPeriod := by
  rw [State.hbEnd_of_attached hattached hrunning hend, if_neg (Bool.eq_false_iff.mp hunseen), if_neg (by omega), Nat.min_eq_left (by omega)]

/-- The third loses the driver, and the partitions in its scope are quiesced (R198). -/
theorem State.hbEnd_missedThird (hunseen : u.pci.hbSeen = false) (htwo : 2 ≤ u.rd Reg.PCI_HB_CFG_MISSES) :
    s.hbEnd = (((u.wr Reg.PCI_HB_CFG_MISSES 3).pciEvent Reg.PCI_EVENT_HB_MISS).wr Reg.PCI_DRV_STATE 3).quiesceSoon
      ((u.wr Reg.PCI_HB_CFG_MISSES 3).pciEvent Reg.PCI_EVENT_HB_MISS).hbScope := by
  rw [State.hbEnd_of_attached hattached hrunning hend, if_neg (Bool.eq_false_iff.mp hunseen), if_pos (by omega)]

end Attached

end Driver

/-- Settles O21: the PF's commands pass its block and are decided by whether a driver is attached, and the end of a period by its
heartbeats. That RESUME acts at once while the bell is off is the model's choice (notes/assumptions/22.md). -/
theorem driverSessionCommandsComplete : Obligations.DriverSessionCommandsComplete := by
  refine ⟨?attach, ?detach, ?heartbeat, ?heard, ?missed, ?missedThird, ?quiesce, ?resume⟩
  case attach =>
    intro s hpf hdetached hfw
    rw [← State.attach_of_detached hdetached hfw]
    exact State.fromPf_of_open hpf
  case detach =>
    intro s hpf
    exact State.fromPf_of_open hpf
  case heartbeat =>
    intro s hpf hattached
    rw [← State.heartbeat_of_attached hattached]
    exact State.fromPf_of_open hpf
  case heard =>
    intro s u hattached hrunning hend hseen
    exact congrArg Host.Outcome.next (State.hbEnd_heard hattached hrunning hend hseen)
  case missed =>
    intro s u hattached hrunning hend hunseen hfew
    exact congrArg Host.Outcome.next (State.hbEnd_missed hattached hrunning hend hunseen hfew)
  case missedThird =>
    intro s u hattached hrunning hend hunseen htwo
    exact congrArg Host.Outcome.next (State.hbEnd_missedThird hattached hrunning hend hunseen htwo)
  case quiesce =>
    intro s
    rfl
  case resume =>
    intro s m hpf hattached
    rw [← State.resumeParts_of_attached hattached m]
    exact State.fromPf_of_open hpf

end Sys2Proof.Machine
end

section
/-! SUPPORT. The Ranuk transport: what arriving packets, the sender, the timers, the probes and the writes that enable and disable a
connection do where their checks are passed. -/

namespace Sys2Proof.Machine

/-! ### Packets that pass R214 (R217, R219, R220, R222) -/

section Received

variable {s : State} {k v : RktPkt} {stale : Bool}

/-- Checks that are made in order give no reason when the first is passed and the others give none. -/
theorem ite_some_eq_none {α : Type} {p : Prop} [Decidable p] {a : α} {o : Option α} :
    (if p then some a else o) = none ↔ ¬ p ∧ o = none := by
  split
  case isTrue h => simp [h]
  case isFalse h => simp [h]

/-- A packet passes the checks of R214 exactly when it is well formed, names an enabled connection in RTS, comes from the connection's
peer, and is of an epoch that it may carry. -/
theorem State.refused_eq_none_iff : s.refused k stale = none ↔
    k.malformed (s.segOf k) = false ∧ k.dstConn < 16384 ∧ s.on (Reg.RKT_CONN_EN k.dstConn) = true ∧
    s.on (Reg.RKT_PEER_EN (s.rd (Reg.RKT_CONN_PEER k.dstConn))) = true ∧
    k.srcAddr = s.rd (Reg.RKT_PEER_ADDR (s.rd (Reg.RKT_CONN_PEER k.dstConn))) ∧
    k.srcV6 = s.on (Reg.RKT_PEER_V6 (s.rd (Reg.RKT_CONN_PEER k.dstConn))) ∧ (s.conn k.dstConn).state = .rts ∧ stale = false := by
  simp [State.refused, ite_some_eq_none, and_assoc]

/-- A packet that passes and whose payload opens is taken. -/
theorem State.receive_opened (f : State → Nat → RktPkt → State) (hpass : s.refused k stale = none)
    (hopen : (s.openCore k.dstConn).openPkt k.dstConn k = some v) : s.receive k stale f = f (s.openCore k.dstConn) v.dstConn v := by
  simp only [State.receive, hpass, hopen]

variable (hopen : (s.openCore k.dstConn).openPkt k.dstConn k = some v)

include hopen

/-- A data packet that passes takes its place in the sequence (R217). -/
theorem State.rktReceive_opened (hpass : s.refused k (k.cepoch != (s.conn k.dstConn).epoch) = none) :
    s.rktReceive k = (s.openCore k.dstConn).rktTaken v.dstConn v := State.receive_opened _ hpass hopen

/-- An acknowledgement that passes is taken (R220). -/
theorem State.ackReceive_opened (hpass : s.refused k (k.cepoch != (s.conn k.dstConn).epoch) = none) :
    s.ackReceive k = (s.openCore k.dstConn).ackTaken v.dstConn v := State.receive_opened _ hpass hopen

/-- A RESYNC of a newer epoch that passes is taken; being newer, it is not stale (R222). -/
theorem State.resyncReceive_opened (hpass : s.refused k false = none) (hnewer : 0 < (k.cepoch + 256 - (s.conn k.dstConn).epoch) % 256)
    (hwindow : (k.cepoch + 256 - (s.conn k.dstConn).epoch) % 256 < 128) :
    s.resyncReceive k = (s.openCore k.dstConn).resyncTaken v.dstConn v := by
  simp only [State.resyncReceive, hnewer, hwindow, decide_true, Bool.and_self, Bool.not_true, Bool.false_and, if_true]
  exact State.receive_opened _ hpass hopen

end Received

/-! ### The sender (R216, R219) -/

section Sender

variable {s : State} {c : Nat}

/-- The next PSN of a connection that may send goes on the slot that the windows allow (R216). -/
theorem State.sendNext_places {psn j : Nat} {m : TxMsg} (hrts : (s.conn c).state = .rts) (hfree : (s.conn c).nakHold = false)
    (hsync : (s.conn c).resync = none) (hpsn : (s.conn c).sendPsn = psn) (hmore : psn ≠ (s.conn c).nextPsn)
    (hcredit : seqLt psn (s.conn c).credit = true) (hmsg : s.msgOfPsn c psn = some m) (hwhole : m.missing = 0)
    (hnear : sdiff m.msn (s.conn c).firstMsn < 1024)
    (hslot : s.pickSlot c (s.conn c).lastSlot (min (s.seg c) (m.wireLen - (sdiff psn m.psn).toNat * s.seg c)) = some j) :
    s.sendNext c = (s.putPacket c psn j 1 false).setConn c
      { (s.putPacket c psn j 1 false).conn c with sendPsn := seqAdd psn 1, downSince := none } := by
  subst hpsn
  have hmay : ¬ ((s.conn c).state ≠ .rts ∨ (s.conn c).nakHold = true ∨ (s.conn c).resync.isSome = true ∨
      (s.conn c).sendPsn = (s.conn c).nextPsn ∨ (!seqLt (s.conn c).sendPsn (s.conn c).credit) = true) := by
    simp [hrts, hfree, hsync, hmore, hcredit]
  have hready : ¬ (m.missing ≠ 0 ∨ 1024 ≤ sdiff m.msn (s.conn c).firstMsn) := by
    simp [hwhole, hnear]
  simp only [State.sendNext, if_neg hmay, hmsg, if_neg hready, hslot]

/-- A packet of a connection in RTS that no ACK has answered is acknowledged when the delay of the first one ends (R219). -/
theorem execAckDelayExpiry_due {t : Nat} (hc : c < 16384) (hfirst : (s.conn c).firstUnacked = some t) (hrts : (s.conn c).state = .rts) :
    execAckDelayExpiry c s = .next ((s.atTime (t + s.rd Reg.RKT_TIMING_ACK_DELAY * 500)).sendAck c 0) := by
  refine (guarded_of (decide_eq_true hc)).trans (congrArg Host.Outcome.next ?_)
  simp only [hfirst]
  exact State.when_of _ (decide_eq_true hrts)

end Sender

/-- Settles O22: an arriving packet passes the checks of R214 and is taken, and the sender's next packet passes those of R216. -/
theorem rktPacketsComplete : Obligations.RktPacketsComplete := by
  refine ⟨?data, ?send, ?ack, ?ackDelay, ?resync⟩
  case data =>
    intro s k v htyp hform hconn hen hpeer haddr hv6 hrts hepoch hopen
    have hpass := State.refused_eq_none_iff.mpr ⟨hform, hconn, hen, hpeer, haddr, hv6, hrts, bne_eq_false_iff_eq.mpr hepoch⟩
    exact (guarded_of (by simp [htyp])).trans (congrArg Host.Outcome.next (State.rktReceive_opened hopen hpass))
  case send =>
    intro s c psn j m hc hrts hfree hsync hpsn hmore hcredit hmsg hwhole hnear hslot
    exact (guarded_of (decide_eq_true hc)).trans (congrArg Host.Outcome.next
      (State.sendNext_places hrts hfree hsync hpsn hmore hcredit hmsg hwhole hnear hslot))
  case ack =>
    intro s k v htyp hform hconn hen hpeer haddr hv6 hrts hepoch hopen
    have hpass := State.refused_eq_none_iff.mpr ⟨hform, hconn, hen, hpeer, haddr, hv6, hrts, bne_eq_false_iff_eq.mpr hepoch⟩
    exact (guarded_of (beq_iff_eq.mpr htyp)).trans (congrArg Host.Outcome.next (State.ackReceive_opened hopen hpass))
  case ackDelay =>
    intro s c t hc hfirst hrts
    exact execAckDelayExpiry_due hc hfirst hrts
  case resync =>
    intro s k v htyp hform hconn hen hpeer haddr hv6 hrts hnewer hwindow hopen
    have hpass := State.refused_eq_none_iff.mpr ⟨hform, hconn, hen, hpeer, haddr, hv6, hrts, rfl⟩
    exact (guarded_of (beq_iff_eq.mpr htyp)).trans (congrArg Host.Outcome.next (State.resyncReceive_opened hopen hpass hnewer hwindow))

/-! ### Timers (R220, R221, R223) -/

section Timers

variable {s u : State} {c : Nat}

/-- The RTO of a PSN in flight of a connection that is not resynchronizing sends it again (R220, R221). -/
theorem State.rtoExpire_inFlight {psn : Nat} {f : Flight} (hrts : (s.conn c).state = .rts) (hsync : (s.conn c).resync = none)
    (hflight : (s.conn c).flights.find? (fun g => g.psn == psn && !g.acked && !g.lost) = some f) :
    s.rtoExpire c psn = (s.atTime (f.sentAt + 4 * s.rto c)).retransmit c psn f := by
  simp only [State.rtoExpire, hrts, hsync, hflight, ne_eq, not_true_eq_false, if_false]

/-- A hold by NAK ends RTO_MIN after it began, and what was refused or lost meanwhile is sent again (R220). -/
theorem execNakHoldEnd_held (hc : c < 16384) (hheld : (s.conn c).nakHold = true)
    (hend : u = s.atTime ((s.conn c).nakAt + s.rd Reg.RKT_TIMING_RTO_MIN * 4000)) :
    execNakHoldEnd c s = .next ((((s.conn c).flights.filter (fun f => f.lost && !f.acked)).map (·.psn)).foldl
      (fun t psn => t.resend c psn) (u.setConn c { u.conn c with nakHold := false })) := by
  rw [hend]
  refine (guarded_of (decide_eq_true hc)).trans (congrArg Host.Outcome.next ?_)
  simp only [hheld, Bool.not_true, Bool.false_eq_true, if_false]

/-- A connection with no slot up enters ERROR when RTO_MAX has passed since its last went down (R223). -/
theorem execAllPathsDown_due {d : Nat} (hc : c < 16384) (hrts : (s.conn c).state = .rts) (hnoslot : (s.nextUp c 0).isNone = true)
    (hdown : (s.conn c).downSince = some d) :
    execAllPathsDown c s = .next ((s.atTime (d + s.rd Reg.RKT_TIMING_RTO_MAX * 4000000)).connError c none 3 5 c) := by
  refine (guarded_of (decide_eq_true hc)).trans (congrArg Host.Outcome.next ?_)
  rw [State.when_of _ (by simp only [hrts, hnoslot, decide_true, Bool.and_self]), hdown]
  rfl

end Timers

/-! ### Probes (R224, R228) -/

section Probes

variable {s u : State} {i : Nat} {k : RktPkt}

/-- A path that is down on a port that is up is probed PROBE_MS after its last probe (R224). -/
theorem execPathProbe_due (hi : i < 4096) (hdown : s.on (Reg.RKT_PATH_UP i) = false)
    (hlink : s.on (Reg.FAB_PORT_STATUS_LINK_UP (s.rd (Reg.RKT_PATH_PORT i))) = true)
    (hdue : u = s.atTime ((s.path i).probeAt + s.rd Reg.RKT_RETRY_PROBE_MS * 4000000)) : execPathProbe i s = .next (u.probePath i) := by
  rw [hdue]
  refine (guarded_of (decide_eq_true hi)).trans (congrArg Host.Outcome.next ?_)
  exact State.when_of _ (by simp only [hdown, hlink, Bool.not_false, Bool.and_self])

variable (hi : i < 4096) (hform : k.malformed 1024 = false)

include hi hform

/-- A well-formed PROBE is answered (R224). -/
theorem execProbeReceived_wellFormed (htyp : k.typ = 0xA) : execProbeReceived i k s = .next (s.answerProbe i k) := by
  refine (guarded_of (decide_eq_true hi)).trans (congrArg Host.Outcome.next ?_)
  rw [if_neg (not_not.mpr htyp), if_neg (Bool.eq_false_iff.mp hform)]

/-- A well-formed answer is a value of the link delay, and counts for its path (R224, R228). -/
theorem execProbeRespReceived_wellFormed (htyp : k.typ = 0xB) :
    execProbeRespReceived i k s = .next ((s.probeDelay i k).probeAnswered i k) := by
  refine (guarded_of (decide_eq_true hi)).trans (congrArg Host.Outcome.next ?_)
  rw [if_neg (not_not.mpr htyp), if_neg (Bool.eq_false_iff.mp hform)]

end Probes

/-- Settles O23: each timer finds what it was started for, and a probe or its answer is well formed. That a timer's event moves the clock
to its end, and that every request is FLUSHED where all slots stay down, are the model's readings (notes/assumptions/73.md and 68.md). -/
theorem rktTimersAndProbesComplete : Obligations.RktTimersAndProbesComplete := by
  refine ⟨?rto, ?nakHold, ?allDown, ?probeDue, ?probe, ?answer⟩
  case rto =>
    intro s c psn f hc hrts hsync hflight
    exact (guarded_of (decide_eq_true hc)).trans (congrArg Host.Outcome.next (State.rtoExpire_inFlight hrts hsync hflight))
  case nakHold =>
    intro s u c hc hheld hend
    exact execNakHoldEnd_held hc hheld hend
  case allDown =>
    intro s c d hc hrts hnoslot hdown
    exact execAllPathsDown_due hc hrts hnoslot hdown
  case probeDue =>
    intro s u i hi hdown hlink hdue
    exact execPathProbe_due hi hdown hlink hdue
  case probe =>
    intro s i k hi htyp hform
    exact execProbeReceived_wellFormed hi hform htyp
  case answer =>
    intro s i k hi htyp hform
    exact execProbeRespReceived_wellFormed hi hform htyp

/-! ### Connections enabled and disabled (R232, R233) -/

section Connections

variable {s : State} {c v : Nat}

/-- A connection that is not enabled and whose entry is good is written and stands ready (R232, R233). -/
theorem State.connEnable_of_good (hoff : s.on (Reg.RKT_CONN_EN c) = false) (hgood : s.connBad c v = false) :
    s.connEnable c v = s.connReady c v := by
  rw [State.connEnable, if_neg (Bool.eq_false_iff.mp hoff), if_neg (Bool.eq_false_iff.mp hgood)]

/-- An enabled connection is put in RESET, and the write takes the entry's fields (R232, R233). -/
theorem State.connDisable_of_enabled (hen : s.on (Reg.RKT_CONN_EN c) = true) :
    s.connDisable c v = ((s.connReset c).wr (Reg.RKT_CONN_EN c) 0).connWrite c v := State.when_of _ hen

end Connections

/-- Settles O24: the PF's write passes its block, and whether the connection is enabled decides it. That an enabled connection's numbers
start at 0 is the model's reading (notes/assumptions/14.md). -/
theorem connectionsEnableAndDisable : Obligations.ConnectionsEnableAndDisable := by
  refine ⟨?enable, ?disable⟩
  case enable =>
    intro s c v hpf hc hoff hgood
    rw [← State.connEnable_of_good hoff hgood]
    exact State.fromPf_guarded_of_open hpf (decide_eq_true hc)
  case disable =>
    intro s w hpf hconn hen
    rw [← State.connDisable_of_enabled hen]
    exact State.fromPf_guarded_of_open hpf (decide_eq_true hconn)

end Sys2Proof.Machine
end

section
/-! SUPPORT. The fabric ports: what frames, pauses, storms, lanes and training do where their checks are passed. -/

namespace Sys2Proof.Machine

/-! ### Frames and pauses (R203, R204, R205) -/

section Frames

variable {s : State} {l i occ : Nat} {b : List Nat}

/-- A good frame for the port's address that finds room goes down the packet path while the module is awake (R203, R204). -/
theorem State.frameIn_addressed (hport : s.portExists l = true) (hlink : s.on (Reg.FAB_PORT_STATUS_LINK_UP l) = true)
    (hmin : 64 ≤ b.length + 4) (hmax : b.length + 4 ≤ s.rd (Reg.FAB_PORT_CTRL_MTU l))
    (hmac : beNat (b.take 6) = s.rd (Reg.FAB_PORT_MAC_MAC l)) (hpause : beNat (b.take 6) ≠ 0x0180C2000001)
    (hawake : (s.occupy l (s.framePrio b) occ).asleep = false) :
    s.frameIn l b true occ false = (s.occupy l (s.framePrio b) occ).pipeline l b := by
  have hup : ¬ (!s.portExists l || !s.on (Reg.FAB_PORT_STATUS_LINK_UP l)) = true := by simp [hport, hlink]
  have hgood : ¬ (!true || decide (b.length + 4 < 64) || decide (s.rd (Reg.FAB_PORT_CTRL_MTU l) < b.length + 4)) = true := by
    simp [hmin, hmax]
  have hours : ¬ (!(bit (b.getD 0 0) 0) && beNat (b.take 6) != s.rd (Reg.FAB_PORT_MAC_MAC l)) = true := by simp [hmac]
  simp only [State.frameIn, if_neg hup, if_neg hgood, if_neg (not_and.mpr fun h => absurd h hpause), if_neg hours, hawake,
    Bool.false_and, Bool.false_eq_true, if_false]

/-- The pause of a paused priority ends with its quanta (R204). -/
theorem execPfcPauseEnd_paused (hl : l < 32) (hi : i < 8) (hpaused : Tab.get 0 (s.port l).paused i ≠ 0) :
    execPfcPauseEnd l i s = .next ((s.atTime (Tab.get 0 (s.port l).pauseEnd i)).endPause l i) :=
  (guarded_of (by simp [hl, hi])).trans (congrArg Host.Outcome.next (State.when_of _ (bne_iff_ne.mpr hpaused)))

/-- The storm of a priority ends (R205). -/
theorem execPfcStormEnd_storming (hl : l < 32) (hi : i < 8) (hstorm : Tab.get 0 (s.port l).stormEnd i ≠ 0) :
    execPfcStormEnd l i s = .next ((s.atTime (Tab.get 0 (s.port l).stormEnd i - 1)).endStorm l i) :=
  (guarded_of (by simp [hl, hi])).trans (congrArg Host.Outcome.next (State.when_of _ (bne_iff_ne.mpr hstorm)))

/-- A priority whose pause outlasts PFC_STORM enters a storm (R205). -/
theorem execPfcStorm_overlong (hl : l < 32) (hi : i < 8) (hpaused : Tab.get 0 (s.port l).paused i ≠ 0) (hcalm : s.storming l i = false)
    (hlong : s.stormAt l i < Tab.get 0 (s.port l).pauseEnd i) :
    execPfcStorm l i s = .next ((s.atTime (s.stormAt l i)).storm l i) := by
  refine (guarded_of (by simp [hl, hi])).trans (congrArg Host.Outcome.next (State.when_of _ ?_))
  simp [hpaused, hcalm, hlong]

end Frames

/-! ### Lanes and training (R206, R207, R209) -/

section Lanes

variable {s u : State} {l n : Nat}

/-- A lane in use of a port that is not looped fails: a port of one lane goes down, a wider one re-forms (R206, R207). -/
theorem State.laneFail_inUse (hport : s.portExists (s.portOfLane n) = true)
    (hused : bit (s.rd (Reg.FAB_PORT_STATUS_LANES (s.portOfLane n))) (n % 4) = true)
    (hloop : s.on (Reg.TST_LOOP_ACTIVE (s.portOfLane n)) = false) :
    s.laneFail n = if s.rd (Reg.FAB_PORT_STATUS_WIDTH (s.portOfLane n)) = 1 then (s.laneLost n).portDown (s.portOfLane n)
      else (s.laneLost n).startReform (s.portOfLane n) := by
  simp only [State.laneFail, hport, hused, hloop, Bool.not_true, Bool.or_self, Bool.false_eq_true, if_false]

/-- Loss of signal or of lock fails the lane (R206). -/
theorem State.laneTrouble_lost (hport : s.portExists (s.portOfLane n) = true) : s.laneTrouble n .lost = s.laneFail n := by
  simp only [State.laneTrouble, hport, Bool.not_true, Bool.false_eq_true, if_false]

/-- So do more symbol errors than SYM_LIMIT, their codewords counted (R206). -/
theorem State.laneTrouble_symbols {e k : Nat} (hport : s.portExists (s.portOfLane n) = true)
    (hlimit : s.rd Reg.FAB_LANE_LIMITS_SYM_LIMIT < e) :
    s.laneTrouble n (.symbols e k) = (s.inc (Reg.FAB_FEC_CORR_COUNT (s.portOfLane n)) k).laneFail n := by
  simp only [State.laneTrouble, hport, Bool.not_true, Bool.false_eq_true, if_false]
  exact State.when_of _ (decide_eq_true hlimit)

/-- A port that is not up does not re-form for its partner's lanes: it already does (R207). -/
theorem State.partnerReforms_down {m : Nat} (hdown : s.on (Reg.FAB_PORT_STATUS_LINK_UP l) = false) : s.partnerReforms l m = s :=
  State.when_of_not _ (by simp only [hdown, Bool.false_and])

/-- A port that re-forms in time comes up on the lanes of Table 8.3 (R207). -/
theorem State.reformed_up {m : Nat} {lanes : List Nat} (htraining : s.on (Reg.FAB_PORT_STATUS_TRAINING l) = true)
    (hlanes : s.reformLanes l m = some lanes) :
    s.reformed l true m = ((s.linkOn l lanes).fabEvent l Reg.FAB_PORT_EVENT_REFORMED).portAsync l 2 (l + 256 * lanes.length) := by
  simp only [State.reformed, htraining, hlanes, Bool.not_true, Bool.false_eq_true, if_true, if_false]

/-- A retrain withdraws the paths of an enabled port, and goes on once nothing it carried is outstanding (R209). -/
theorem State.retrain_enabled (hport : s.portExists l = true) (hen : s.on (Reg.FAB_PORT_CTRL_EN l) = true) :
    s.retrain l = ((s.portPathsDown l).setPort l { (s.portPathsDown l).port l with retraining := true }).tryRetrain l :=
  State.when_of _ (by simp only [hport, hen, Bool.and_self])

/-- A link that trains to its end comes up at full width, none of its lanes failed (R209). -/
theorem execRetrainComplete_trained (hl : l < 32) (hu : u = s.tryRetrain l) (htraining : u.on (Reg.FAB_PORT_STATUS_TRAINING l) = true) :
    execRetrainComplete l true s = .next ((u.wr (Reg.FAB_PORT_STATUS_FAILED l) (Nat.land (u.rd (Reg.FAB_PORT_STATUS_FAILED l))
      (15 - laneMask (u.portLanes l)))).linkOn l (u.portLanes l)) := by
  rw [hu] at htraining ⊢
  exact (guarded_of (decide_eq_true hl)).trans (congrArg Host.Outcome.next (if_pos htraining))

/-- An enabled port that has trained comes up at its full width (R207). -/
theorem execFabPortLinkUp_enabled (hl : l < 32) (hport : s.portExists l = true) (hen : s.on (Reg.FAB_PORT_CTRL_EN l) = true) :
    execFabPortLinkUp l s = .next (s.linkOn l (s.portLanes l)) := by
  refine (guarded_of (decide_eq_true hl)).trans (congrArg Host.Outcome.next (State.when_of _ ?_))
  simp only [hport, hen, Bool.and_self]

end Lanes

/-- Settles O27: each event names a port or a lane that the module has, and finds it in the state that it is an event of. -/
theorem fabricPortsComplete : Obligations.FabricPortsComplete := by
  refine ⟨?frame, ?pfc, ?pauseEnd, ?stormEnd, ?storm, ?lost, ?symbols, ?reformed, ?retrain, ?retrained, ?quads, ?linkUp⟩
  case frame =>
    intro s l b occ hl hport hlink hmin hmax hmac hpause hawake
    exact (guarded_of (decide_eq_true hl)).trans (congrArg Host.Outcome.next
      (State.frameIn_addressed hport hlink hmin hmax hmac hpause hawake))
  case pfc =>
    intro s l m q hl
    exact guarded_of (decide_eq_true hl)
  case pauseEnd =>
    intro s l i hl hi hpaused
    exact execPfcPauseEnd_paused hl hi hpaused
  case stormEnd =>
    intro s l i hl hi hstorm
    exact execPfcStormEnd_storming hl hi hstorm
  case storm =>
    intro s l i hl hi hpaused hcalm hlong
    exact execPfcStorm_overlong hl hi hpaused hcalm hlong
  case lost =>
    intro s n hn hport hused hloop
    rw [← State.laneFail_inUse hport hused hloop, ← State.laneTrouble_lost hport]
    exact guarded_of (decide_eq_true hn)
  case symbols =>
    intro s n e k hn hport hlimit
    exact (guarded_of (decide_eq_true hn)).trans (congrArg Host.Outcome.next (State.laneTrouble_symbols hport hlimit))
  case reformed =>
    intro s l m lanes hl hdown htraining hlanes
    rw [← State.reformed_up htraining hlanes]
    exact (guarded_of (decide_eq_true hl)).trans
      (congrArg (fun t => Host.Outcome.next (t.reformed l true m)) (State.partnerReforms_down hdown))
  case retrain =>
    intro s l hpf hl hport hen
    rw [← State.retrain_enabled hport hen]
    exact State.fromPf_guarded_of_open hpf (decide_eq_true hl)
  case retrained =>
    intro s u l hl hu htraining
    exact execRetrainComplete_trained hl hu htraining
  case quads =>
    intro s v hpf
    exact State.fromPf_of_open hpf
  case linkUp =>
    intro s l hl hport hen
    exact execFabPortLinkUp_enabled hl hport hen

end Sys2Proof.Machine
end

section
/-! SUPPORT. Work requests of send and receive queues: what a fetch, a request that is next in order, a firing and the end of INVAL_WAIT do
where their checks are passed. -/

namespace Sys2Proof.Machine

/-! ### Fetching (R185, R240, R243) -/

section Fetching

variable {s : State} {p cls q : Nat} {l : List Nat}

/-- An entry whose words are there, or whose ring in the module can be read, is taken (R240). -/
theorem State.fetchEntry_words (take : State → List Nat → Option Bool → State)
    (hthere : l ≠ [] ∨ 2 ^ 63 ≤ (s.queue p cls q).base)
    (hreads : (s.queue p cls q).base < 2 ^ 63 ∨ s.readableVia p true (s.queue p cls q).entryAt 64 = true) :
    s.fetchEntry p cls q l take = take s (s.ringWords p cls q l) none := by
  have hgiven : ¬ ((s.queue p cls q).base < 2 ^ 63 ∧ l = []) := fun h => hthere.elim (· h.2) (not_le.mpr h.1)
  have hgood : ¬ (2 ^ 63 ≤ (s.queue p cls q).base ∧ (!s.readableVia p true (s.queue p cls q).entryAt 64) = true) := fun h =>
    hreads.elim (not_lt.mpr h.1) (fun hr => by simp [hr] at h)
  rw [State.fetchEntry, if_neg hgiven, if_neg hgood]

/-- With no words, the fetch from a ring in the host is the host's read (R185). -/
theorem State.fetchEntry_hostRead (take : State → List Nat → Option Bool → State) (hhost : (s.queue p cls q).base < 2 ^ 63) :
    s.fetchEntry p cls q [] take =
      s.hostRead p (s.pasidOf p (s.queue p cls q).slice) (s.queue p cls q).entryAt 64 (.entry p cls q) :=
  if_pos ⟨hhost, rfl⟩

/-- A send queue that may fetch, and whose head nothing holds, fetches (R243). -/
theorem execWqeFetch_mayFetch (hp : p < 64) (hq : q < 4096) (hmay : s.mayFetch p 0 q = true) (hfree : s.headHeld p q = false) :
    execWqeFetch p q l s = .next (s.fetchEntry p 0 q l (fun t w e => t.takeWqe p q w e)) :=
  (guarded_of (by simp [hp, hq])).trans (congrArg Host.Outcome.next (if_neg (by simp [hmay, hfree])))

/-- A receive queue that may fetch, and has no armed request, fetches (R250, R252). -/
theorem execRecv_mayFetch (hp : p < 64) (hq : q < 4096) (hmay : s.mayFetch p 1 q = true)
    (hfree : (s.recvsOf p q).any (fun w => decide (w.stage = .armed)) = false) :
    execRecv p q l s = .next (s.fetchEntry p 1 q l (fun t w e => t.takeRecv p q w e)) :=
  (guarded_of (by simp [hp, hq])).trans (congrArg Host.Outcome.next (if_neg (by simp only [hmay, hfree]; decide)))

end Fetching

/-! ### Requests that are next in order (R233, R234, R242) -/

section Ready

variable {s : State} {p q idx op c : Nat} {w : Wqe}

/-- A request that is next in order runs. -/
theorem guarded_runWqe_of_ready {f : State → Wqe → State} (hp : p < 64) (hq : q < 4096) (hready : s.wqeReady p q idx op = some w) :
    s.guarded (p < 64 && q < 4096) (s.runWqe p q idx op f) = .next (f s w) := by
  refine (guarded_of (by simp [hp, hq])).trans (congrArg Host.Outcome.next ?_)
  simp only [State.runWqe, hready]

/-- A message goes to a connection that takes messages (R233, R234). -/
theorem State.onConn_mayHand (f : State → Nat → State) (hconn : s.connFor p q = some c) (hmay : s.mayHand c = true) :
    s.onConn p q w f = f (s.startWqe p q w) c := by
  simp only [State.onConn, hconn, hmay, if_true]

/-- A WRITE or SEND whose local bytes can be read, or lie in the host, hands its message over (R242). -/
theorem State.sendWqe_handed {typ : Nat} {ext : List Nat} (hconn : s.connFor p q = some c) (hmay : s.mayHand c = true)
    (hreads : s.payloadOk p (wqeLaddr w.words w.firing) (wqeLen w.words) = true) :
    s.sendWqe p q w typ ext = (s.startWqe p q w).handMessage c
      { (TxMsg.new typ ext (wqeLen w.words) (s.localRead p (wqeLaddr w.words w.firing) (wqeLen w.words)) (.wqe p q w.idx w.firing)
          (wqeLaddr w.words w.firing) (s.queue p 0 q).slice) with imm := wqeFld w.words 0 15 1 == 1 }
      (if wqeLaddr w.words w.firing < 2 ^ 63 ∧ wqeLen w.words ≠ 0 then some (wqeLaddr w.words w.firing) else none) := by
  rw [State.sendWqe, State.onConn_mayHand _ hconn hmay]
  exact if_neg (by simp [hreads])

/-- A READ or an ATOMIC hands its request over (R242, R244). -/
theorem State.askWqe_handed {typ : Nat} {ext : List Nat} (hconn : s.connFor p q = some c) (hmay : s.mayHand c = true) :
    s.askWqe p q w typ ext = (s.startWqe p q w).handMessage c (TxMsg.new typ ext (if typ = 3 then wqeLen w.words else 0) []
      (.wqe p q w.idx w.firing) (wqeLaddr w.words w.firing) (s.queue p 0 q).slice) none :=
  State.onConn_mayHand _ hconn hmay

/-- A good REG registers its region (R236). -/
theorem State.regWqe_of_good (hgood : s.regBad p q w = false) : s.regWqe p q w = s.registerRegion p q w :=
  if_neg (Bool.eq_false_iff.mp hgood)

/-- INVAL of a valid entry by its key clears it, and ends when nothing is bound to it (R236, R239). -/
theorem State.invalWqe_of_valid (hvalid : (s.region p (bits (w.words.getD 10 0) 0 18)).valid = true)
    (hgen : (s.region p (bits (w.words.getD 10 0) 0 18)).gen = bits (w.words.getD 10 0) 24 8)
    (hzero : bits (w.words.getD 10 0) 18 6 = 0) (hcount : bits (w.words.getD 10 0) 0 18 < s.regionCount p) :
    s.invalWqe p q w = ((s.startWqe p q w).setRegion p (bits (w.words.getD 10 0) 0 18)
      { s.region p (bits (w.words.getD 10 0) 0 18) with
        valid := false
        inval := (s.region p (bits (w.words.getD 10 0) 0 18)).inval ++
          [{ q := q, idx := w.idx, firing := w.firing, gen := (s.region p (bits (w.words.getD 10 0) 0 18)).gen,
             base := (s.region p (bits (w.words.getD 10 0) 0 18)).base, len := (s.region p (bits (w.words.getD 10 0) 0 18)).len,
             since := s.now }] }).settleInvals p :=
  if_neg (by simp only [hvalid, hgen, hzero, not_le.mpr hcount, Bool.not_true, bne_self_eq_false, decide_false, Bool.or_self,
    Bool.false_eq_true, not_false_eq_true])

/-- A COPY whose queue and log have room enters its CPD (R144, R253). -/
theorem State.copyWqe_of_room (hroom : s.cpdRoom (s.cpdUnit (wqeCpd w.words w.firing)) p (wqeCpd w.words w.firing) = true) :
    s.copyWqe p q w = (s.startWqe p q w).acceptCpd (s.cpdUnit (wqeCpd w.words w.firing)) p true none
      (.wqe p q (w.idx + 65536 * w.firing)) (trunc 64 ((w.bell : Int) + sext 16 (cpdFld (wqeCpd w.words w.firing) 1 0 16))) s.count
      (wqeCpd w.words w.firing) :=
  if_neg (by simp [hroom])

/-- A raw SEND with good fields, from a buffer in the module that can be read, launches its frame (R273). -/
theorem State.rawSend_launches
    (hraddr : wqeRaddr w.words w.firing = bits (wqeRaddr w.words w.firing) 0 5 + bits (wqeRaddr w.words w.firing) 8 3 * 256)
    (hrkey : w.words.getD 10 0 = 0) (himm : wqeFld w.words 0 15 1 = 0)
    (hport : s.portExists (bits (wqeRaddr w.words w.firing) 0 5) = true) (hmin : 14 ≤ wqeLen w.words)
    (hmax : wqeLen w.words + 4 ≤ s.rd (Reg.FAB_PORT_CTRL_MTU (bits (wqeRaddr w.words w.firing) 0 5)))
    (hmodule : 2 ^ 63 ≤ wqeLaddr w.words w.firing)
    (hreads : s.payloadOk p (wqeLaddr w.words w.firing) (wqeLen w.words) = true) :
    s.rawSend p q w = (s.startWqe p q w).launchRaw p q w.idx w.firing (bits (wqeRaddr w.words w.firing) 0 5)
      (bits (wqeRaddr w.words w.firing) 8 3) (s.localRead p (wqeLaddr w.words w.firing) (wqeLen w.words)) := by
  have hfields : ¬ (wqeRaddr w.words w.firing ≠ bits (wqeRaddr w.words w.firing) 0 5 + bits (wqeRaddr w.words w.firing) 8 3 * 256 ∨
      w.words.getD 10 0 ≠ 0 ∨ wqeFld w.words 0 15 1 ≠ 0) := by
    rintro (h | h | h)
    exacts [h hraddr, h hrkey, h himm]
  have hframe : ¬ (!s.portExists (bits (wqeRaddr w.words w.firing) 0 5) || decide (wqeLen w.words < 14) ||
      decide (s.rd (Reg.FAB_PORT_CTRL_MTU (bits (wqeRaddr w.words w.firing) 0 5)) < wqeLen w.words + 4)) = true := by
    simp [hport, hmin, hmax]
  simp only [State.rawSend, if_neg hfields, if_neg hframe, if_neg (not_lt.mpr hmodule), hreads, Bool.not_true, Bool.false_eq_true,
    if_false]

end Ready

/-! ### Firings and the end of INVAL_WAIT (R239, R252, R253, R255) -/

section Firings

variable {s u : State} {p q arm i : Nat} {w : Wqe} {l : List Wqe}

/-- The armed request of a list fires when its trigger is met (R252, R255). -/
theorem State.fired_of_met (harmed : armedOf l = some w) (hmet : s.trigMet p w = true) (hkind : wqeArm w.words = arm) :
    s.fired p arm l = fireHead s.count l := by
  simp only [State.fired, harmed, hkind, hmet, and_self, if_true]

/-- The armed request of a send queue fires when its trigger is met. -/
theorem guarded_fire_send (hp : p < 64) (hq : q < 4096) (harmed : armedOf (s.wqesOf p q) = some w) (hmet : s.trigMet p w = true)
    (hkind : wqeArm w.words = arm) :
    s.guarded (p < 64 && q < 4096) (s.fire p q arm false) = .next (s.setWqes p q (fireHead s.count (s.wqesOf p q))) := by
  rw [guarded_of (by simp [hp, hq]), ← State.fired_of_met harmed hmet hkind]
  rfl

/-- The armed request of a receive queue fires when its trigger is met. -/
theorem guarded_fire_recv (hp : p < 64) (hq : q < 4096) (harmed : armedOf (s.recvsOf p q) = some w) (hmet : s.trigMet p w = true)
    (hkind : wqeArm w.words = arm) :
    s.guarded (p < 64 && q < 4096) (s.fire p q arm true) = .next (s.setRecvs p q (fireHead s.count (s.recvsOf p q))) := by
  rw [guarded_of (by simp [hp, hq]), ← State.fired_of_met harmed hmet hkind]
  rfl

/-- The INVAL of an entry that has waited longest is forced INVAL_WAIT after it began: the connections with bound messages break (R239). -/
theorem execInvalWaitExpiry_waiting {x : Inval} {r : List Inval} (hp : p < 64) (hi : i < 262144)
    (hwaits : (s.region p i).inval = x :: r) (hend : u = s.atTime (x.since + s.rd Reg.RKT_RMA_CFG_INVAL_WAIT * 4000000)) :
    execInvalWaitExpiry p i s = .next ((((((s.conns.filter (fun e => e.2.part == p && (e.2.opens.any (fun m => m.boundTo i x.gen) ||
      e.2.msgs.any (fun m => m.boundTo i x.gen)))).map Prod.fst).foldl (fun t c => t.connBreak c none 3) u).when
      (decide (x.base < 2 ^ 63)) (fun t => t.dropHeldInto p x.base x.len)).asyncEvent p 0x0B 0xFFFF (x.gen * 2 ^ 24 + i)).settleInvals
      p) := by
  rw [hend]
  refine (guarded_of (by simp [hp, hi])).trans (congrArg Host.Outcome.next ?_)
  simp only [hwaits]

end Firings

/-- Settles O25: a fetch is decided by where its ring lies, a request by its connection and its local buffer. That the words of a host's
ring come with the command is the model's reading (notes/assumptions/7.md). -/
theorem workRequestsOnConnectionsComplete : Obligations.WorkRequestsOnConnectionsComplete := by
  refine ⟨?fetch, ?fetchHost, ?recv, ?recvHost, ?write, ?send, ?read, ?atomic⟩
  case fetch =>
    intro s p q l hp hq hmay hfree hthere hreads
    exact (execWqeFetch_mayFetch hp hq hmay hfree).trans (congrArg Host.Outcome.next (State.fetchEntry_words _ hthere hreads))
  case fetchHost =>
    intro s p q hp hq hmay hfree hhost
    exact (execWqeFetch_mayFetch hp hq hmay hfree).trans (congrArg Host.Outcome.next (State.fetchEntry_hostRead _ hhost))
  case recv =>
    intro s p q l hp hq hmay hfree hthere hreads
    exact (execRecv_mayFetch hp hq hmay hfree).trans (congrArg Host.Outcome.next (State.fetchEntry_words _ hthere hreads))
  case recvHost =>
    intro s p q hp hq hmay hfree hhost
    exact (execRecv_mayFetch hp hq hmay hfree).trans (congrArg Host.Outcome.next (State.fetchEntry_hostRead _ hhost))
  case write =>
    intro s p q idx w c hp hq hready hconn hmay hreads
    exact (guarded_runWqe_of_ready hp hq hready).trans (congrArg Host.Outcome.next (State.sendWqe_handed hconn hmay hreads))
  case send =>
    intro s p q idx w c hp hq hraw hready hconn hmay hreads
    refine (congrArg (s.guarded _) (if_neg (Bool.eq_false_iff.mp hraw))).trans ?_
    exact (guarded_runWqe_of_ready hp hq hready).trans (congrArg Host.Outcome.next (State.sendWqe_handed hconn hmay hreads))
  case read =>
    intro s p q idx w c hp hq hready hconn hmay
    exact (guarded_runWqe_of_ready hp hq hready).trans (congrArg Host.Outcome.next (State.askWqe_handed hconn hmay))
  case atomic =>
    intro s p q idx w c hp hq hready hconn hmay
    exact (guarded_runWqe_of_ready hp hq hready).trans (congrArg Host.Outcome.next (State.askWqe_handed hconn hmay))

/-- Settles O26: each request is next in order and passes the checks of its operation, a firing meets its trigger, and an INVAL has waited
its time. The bell from which a COPY counts, and that the end of INVAL_WAIT moves the clock, are the model's readings
(notes/assumptions/72.md and 1.md). -/
theorem localWorkRequestsComplete : Obligations.LocalWorkRequestsComplete := by
  refine ⟨?reg, ?inval, ?nop, ?copy, ?raw, ?armedSend, ?armedRecv, ?qwaitSend, ?qwaitRecv, ?invalWait⟩
  case reg =>
    intro s p q idx w hp hq hready hgood
    exact (guarded_runWqe_of_ready hp hq hready).trans (congrArg Host.Outcome.next (State.regWqe_of_good hgood))
  case inval =>
    intro s p q idx w hp hq hready hvalid hgen hzero hcount
    exact (guarded_runWqe_of_ready hp hq hready).trans (congrArg Host.Outcome.next (State.invalWqe_of_valid hvalid hgen hzero hcount))
  case nop =>
    intro s p q idx w hp hq hready
    exact guarded_runWqe_of_ready hp hq hready
  case copy =>
    intro s p q idx w hp hq hready hroom
    exact (guarded_runWqe_of_ready hp hq hready).trans (congrArg Host.Outcome.next (State.copyWqe_of_room hroom))
  case raw =>
    intro s p q idx w hp hq hraw hready hraddr hrkey himm hport hmin hmax hmodule hreads
    refine (congrArg (s.guarded _) (if_pos hraw)).trans ((guarded_runWqe_of_ready hp hq hready).trans (congrArg Host.Outcome.next ?_))
    exact State.rawSend_launches hraddr hrkey himm hport hmin hmax hmodule hreads
  case armedSend =>
    intro s p q w hp hq harmed hmet hkind
    exact guarded_fire_send hp hq harmed hmet hkind
  case armedRecv =>
    intro s p q w hp hq harmed hmet hkind
    exact guarded_fire_recv hp hq harmed hmet hkind
  case qwaitSend =>
    intro s p q w hp hq harmed hmet hkind
    exact guarded_fire_send hp hq harmed hmet hkind
  case qwaitRecv =>
    intro s p q w hp hq harmed hmet hkind
    exact guarded_fire_recv hp hq harmed hmet hkind
  case invalWait =>
    intro s u p i x r hp hi hwaits hend
    exact execInvalWaitExpiry_waiting hp hi hwaits hend

end Sys2Proof.Machine
end

section
/-! SUPPORT. The media ports: what a timeout, the end of a reset and a self-test do where their checks are passed. -/

namespace Sys2Proof.Machine

/-! ### Controller resets (R303, R304) -/

section Resets

variable {s : State} {m : Nat}

/-- An SSD with a command on it is reset at the moment that its oldest command is due (R304). -/
theorem execSsdTimeout_due {t : Nat} (hm : m < 2) (hdue : s.ssdDue m = some t) :
    execSsdTimeout m s = .next (((s.atTime t).resetMedia m).medEvent m Reg.MED_EVENT_TIMEOUT) := by
  refine (guarded_of (decide_eq_true hm)).trans (congrArg Host.Outcome.next ?_)
  simp only [hdue]

/-- A reset that ends at an enabled port brings the SSD back outside minimal mode, on no more than the link that MED_CTRL allows (R303, R304). -/
theorem execMediaResetDone_enabled {l : List Namespace} {w sp : Nat} (hm : m < 2) (hfull : s.restricted = false)
    (hen : s.on (Reg.MED_CTRL_EN m) = true) :
    execMediaResetDone m l w sp s = .next ((s.mediaBack m l (min w (s.mediaLanes m)) (min sp (s.rd (Reg.MED_CTRL_SPEED_CAP m)))).when
      (decide (w < s.mediaLanes m) || decide (sp < s.rd (Reg.MED_CTRL_SPEED_CAP m)))
      (fun t => t.medEvent m Reg.MED_EVENT_DOWNTRAINED)) := by
  refine (guarded_of (decide_eq_true hm)).trans (congrArg Host.Outcome.next ?_)
  simp only [hfull, hen, min_lt_iff, lt_irrefl, or_false, Bool.not_true, Bool.or_self, Bool.false_eq_true, if_false]

end Resets

/-! ### Self-tests (R306) -/

section SelfTests

variable {s : State} {m : Nat}

/-- A fetched command of the operation that a row names is what the row acts on. -/
theorem State.onBlk_of_op {id op : Nat} {d : BlkCmd} (f : BlkCmd → State) (hcmd : s.blkCmd id = some d) (hop : bscOp d.words = op) :
    s.onBlk id op f = f d := by
  simp only [State.onBlk, hcmd, hop, if_true]

/-- A self-test starts on a ready SSD that runs none, for a volume that has its key (R306). -/
theorem State.selfTest_idle {d : BlkCmd} (hstage : d.stage = .fetched) (hready : s.on (Reg.MED_STATUS_READY (s.backing d)) = true)
    (hstart : bscFld d.words 10 16 4 ≠ 15) (hidle : Tab.get none s.blk.tests (s.backing d) = none) (hkey : s.volKeyless d = false) :
    s.selfTest d = s.startTest d (s.backing d) (bscFld d.words 10 16 4) := by
  simp only [State.selfTest, hstage, hready, hstart, hidle, hkey, ne_eq, not_true_eq_false, Bool.not_true, Bool.false_eq_true,
    Option.isSome_none, if_false]

/-- The result of the running test ends it (R306). -/
theorem execSelfTestResult_running {r : Nat} (hm : m < 2) (hruns : (Tab.get none s.blk.tests m).isSome = true) :
    execSelfTestResult m r s = .next ((s.settleTests.wr (Reg.MED_TEST_RESULT m) r).endTest m (if r = 0 then 0 else 7) 0) :=
  (guarded_of (decide_eq_true hm)).trans (congrArg Host.Outcome.next (State.when_of _ hruns))

/-- A test is stopped at its limit, which it has reached or which no command on the SSD keeps from coming (R306). -/
theorem State.stopTest_atLimit {x : SsdTest} (hruns : Tab.get none s.settleTests.blk.tests m = some x)
    (hcomes : s.testLimit m x ≤ x.time ∨ s.ssdLoad m = 0) :
    s.stopTest m = ((s.atTime (s.now + (s.testLimit m x - x.time))).settleTests.emit (.nvme m 0x14 [0, 15])).endTest m 0xA 0 := by
  have hstops : ¬ (s.testLimit m x - x.time ≠ 0 ∧ s.ssdLoad m ≠ 0) := fun h =>
    hcomes.elim (fun hreached => h.1 (Nat.sub_eq_zero_of_le hreached)) h.2
  simp only [State.stopTest, hruns, hstops, if_false]

end SelfTests

/-- Settles O30: each event names a media port, the PF's reset passes its block, and each start, result or limit of a test finds the test that
it needs. That SSD_TIMEOUT and SELF_TEST_TIMEOUT move the clock to their moment is the model's reading (notes/assumptions/1.md). -/
theorem mediaEventsComplete : Obligations.MediaEventsComplete := by
  refine ⟨?timeout, ?lost, ?reset, ?resetDone, ?test, ?result, ?limit⟩
  case timeout =>
    intro s m t hm hdue
    exact execSsdTimeout_due hm hdue
  case lost =>
    intro s m hm
    exact ⟨guarded_of (decide_eq_true hm), guarded_of (decide_eq_true hm)⟩
  case reset =>
    intro s m hpf hm
    exact State.fromPf_guarded_of_open hpf (decide_eq_true hm)
  case resetDone =>
    intro s m l w sp hm hfull hen
    exact execMediaResetDone_enabled hm hfull hen
  case test =>
    intro s id d hcmd hop hstage hready hstart hidle hkey
    exact congrArg Host.Outcome.next ((State.onBlk_of_op _ hcmd hop).trans (State.selfTest_idle hstage hready hstart hidle hkey))
  case result =>
    intro s m r hm hruns
    exact execSelfTestResult_running hm hruns
  case limit =>
    intro s m x hm hruns hcomes
    exact (guarded_of (decide_eq_true hm)).trans (congrArg Host.Outcome.next (State.stopTest_atLimit hruns hcomes))

end Sys2Proof.Machine
end

section
/-! SUPPORT. The cipher engine: what the fetch, the start, each operation and the end of a request do where their checks are passed, and the
writes of its registers. -/

namespace Sys2Proof.Machine

/-! ### Fetch and start (R310, R312, R315) -/

section CipherQueue

variable {s : State} {p q : Nat} {w : List Nat} {r : CipherReq}

/-- A request queue that may fetch does (R310). -/
theorem execCipherFetch_mayFetch (hp : p < 64) (hq : q < 2048) (hmay : s.mayFetch p 3 (2048 + q) = true) :
    execCipherFetch p q w s = .next (s.fetchEntry p 3 (2048 + q) w (fun t w e => t.takeCipher p q w e)) :=
  (guarded_of (by simp [hp, hq])).trans (congrArg Host.Outcome.next (if_neg (by simp [hmay])))

/-- The next request that nothing keeps from starting takes a core (R308, R312). -/
theorem State.startCipher_good (hnext : s.ciNext = some r)
    (hgood : ({ s with ciph := { s.ciph with
      lastPart := r.part, lastQueue := Tab.set 65536 s.ciph.lastQueue r.part r.queue } } : State).ciStartBad r = none) :
    s.startCipher = ({ s with ciph := { s.ciph with
      lastPart := r.part, lastQueue := Tab.set 65536 s.ciph.lastQueue r.part r.queue } } : State).startOn r := by
  simp only [State.startCipher, hnext, hgood]

end CipherQueue

/-! ### Operations (R309, R315, R318 to R323) -/

section CipherOps

variable {s : State} {id op core : Nat} {r : CipherReq}

/-- A started request whose input is there and can be read runs its operation (R135, R309). -/
theorem State.runCipher_ready (f : CipherReq → Nat → State) (hreq : s.ciReq id = some r) (hstage : r.stage = .started core)
    (hop : ciOp r.words = op) (hthere : r.missing = 0)
    (hreads : (ciInputs r.words).any (fun i => decide (2 ^ 63 ≤ i.2.1) && !s.readableVia r.part true (i.2.1 % 2 ^ 48) i.2.2) = false) :
    s.runCipher id op f = f r core := by
  have hruns : ¬ (ciOp r.words ≠ op ∨ r.missing ≠ 0) := not_or.mpr ⟨not_not.mpr hop, not_not.mpr hthere⟩
  simp only [State.runCipher, hreq, hstage, if_neg hruns, hreads, Bool.false_eq_true, if_false]

/-- A first segment is sealed under the core's next nonce, if the core has one (R315, R316). -/
theorem State.gcmEnc_first (hfirst : ciBegins r.words = true) :
    s.gcmEnc r core = (s.nonce core r.part).2.elim (s.nonce core r.part).1 (fun v => (s.nonce core r.part).1.gcmSeal r v.1 v.2) := by
  simp only [State.gcmEnc, hfirst, Bool.not_true, Bool.false_eq_true, if_false]
  cases (s.nonce core r.part).2 <;> rfl

/-- A segment whose context is good is decrypted: a tag that does not match leaves zeros and AUTH_FAIL (R323). -/
theorem State.gcmDec_of_context {c : GcmCtx} (hctx : s.gcmBegin r true ((s.ciInput r 3).take 12) (r.key.elim [] (·.mat)) = .ok c) :
    s.gcmDec r =
      if ciEnds r.words && gcmTag (keySchedule (r.key.elim [] (·.mat))) c.iv (c.after (r.key.elim [] (·.mat)) (s.ciInput r 0)).y
          (c.after (r.key.elim [] (·.mat)) (s.ciInput r 0)).aad (c.after (r.key.elim [] (·.mat)) (s.ciInput r 0)).text !=
            ((s.ciInput r 3).drop 16).take 16 then
        ((s.ciWrite r (ciDst r.words) (gctr (keySchedule (r.key.elim [] (·.mat))) c.ctr (s.ciInput r 0))).ciWrite r (ciDst r.words)
          (List.replicate (s.ciInput r 0).length 0)).ciDone r 6
      else
        ((s.ciWrite r (ciDst r.words) (gctr (keySchedule (r.key.elim [] (·.mat))) c.ctr (s.ciInput r 0))).gcmKeep r
          (c.after (r.key.elim [] (·.mat)) (s.ciInput r 0))).ciDone r 0 := by
  simp only [State.gcmDec, hctx]

/-- A message of one segment is hashed from the empty state (R322). -/
theorem State.hashRun_single (hfirst : ciBegins r.words = true) (hlast : ciEnds r.words = true) :
    s.hashRun r = (s.ciWrite r (ciDst r.words)
      (squeeze (Machine.finish keccakZero (if ciShake r.words then 0x1F else 0x06) (s.ciInput r 0)) (ciOut r.words))).ciDone r 0 := by
  simp only [State.hashRun, hfirst, hlast, Bool.not_true, Bool.false_and, Bool.false_eq_true, if_false, if_true]

/-- An empty slot is filled with the request's kind of key, and its generation advances (R318). -/
theorem State.fillSlot_empty (mat : List Nat) (hempty : (s.keySlot r.part (ciSlot r.words)).full = false) :
    s.fillSlot r mat = (s.setKeySlot r.part (ciSlot r.words)
      { full := true, era := (s.keySlot r.part (ciSlot r.words)).era, typ := ciParam r.words, usage := ciUsage r.words,
        gen := ((s.keySlot r.part (ciSlot r.words)).gen + 1) % 256, mat := mat }).ciDone r 0 :=
  if_neg (Bool.eq_false_iff.mp hempty)

/-- Drawing a key leaves the slots as they are. -/
@[simp] theorem State.random_keySlot (n p k : Nat) : (s.random n).1.keySlot p k = s.keySlot p k := rfl

/-- A slot's key is wrapped under its partition's key (R320). -/
theorem State.wrapRun_keyed {pk : List Nat} {x : KeySlot} (hpart : s.partKey r.part = some pk) (hkey : r.key = some x) :
    s.wrapRun r = (s.ciWrite r (ciDst r.words) (kwWrap pk x.text)).ciDone r 0 := by
  simp only [State.wrapRun, hpart, hkey]

/-- A wrapped key that the partition's key opens fills an empty slot; one that it does not open is AUTH_FAIL (R320). -/
theorem State.unwrapRun_empty {pk : List Nat} (hpart : s.partKey r.part = some pk)
    (hempty : (s.keySlot r.part (ciSlot r.words)).full = false) :
    s.unwrapRun r = (kwUnwrap pk (s.ciInput r 0)).elim (s.ciDone r 6) (fun x =>
      (s.setKeySlot r.part (ciSlot r.words) (KeySlot.ofText (s.keySlot r.part (ciSlot r.words)).era x)).ciDone r 0) := by
  simp only [State.unwrapRun, hpart, hempty, Bool.false_eq_true, if_false]
  cases kwUnwrap pk (s.ciInput r 0) <;> rfl

/-- An ended request whose bytes are visible, and whose erased key no started work holds, is posted (R311, R319). -/
theorem execCipherComplete_visible {st : Nat} (hreq : s.ciReq id = some r) (hstage : r.stage = .ended st) (hfree : s.keyInUse r = false)
    (hvisible : s.memSt.held.any (fun h => decide (h.who = .cipher r.id)) = false) :
    execCipherComplete id s = .next (s.completeCipher r st) := by
  simp only [execCipherComplete, hreq, hstage, hfree, hvisible, Bool.or_self, Bool.false_eq_true, if_false]

end CipherOps

/-- Settles O31: a fetch is decided by where its ring lies, a start by the request's checks, and each operation of a started request by its
segment, its context or its slots. That the words of a host's ring come with the command, and that the numbers drawn for keys and tags are
free, are the model's readings (notes/assumptions/7.md and 3.md). -/
theorem cipherRequestsComplete : Obligations.CipherRequestsComplete := by
  refine ⟨?fetch, ?fetchHost, ?start, ?gcmEnc, ?gcmDec, ?xtsEnc, ?xtsDec, ?hash, ?load, ?genkey, ?erase, ?wrap, ?unwrap, ?complete⟩
  case fetch =>
    intro s p q w hp hq hmay hthere hreads
    exact (execCipherFetch_mayFetch hp hq hmay).trans (congrArg Host.Outcome.next (State.fetchEntry_words _ hthere hreads))
  case fetchHost =>
    intro s p q hp hq hmay hhost
    exact (execCipherFetch_mayFetch hp hq hmay).trans (congrArg Host.Outcome.next (State.fetchEntry_hostRead _ hhost))
  case start =>
    intro s r hnext hgood
    exact congrArg Host.Outcome.next (State.startCipher_good hnext hgood)
  case gcmEnc =>
    intro s id core r hreq hstage hop hthere hreads hfirst
    exact congrArg Host.Outcome.next ((State.runCipher_ready _ hreq hstage hop hthere hreads).trans (State.gcmEnc_first hfirst))
  case gcmDec =>
    intro s id core r c hreq hstage hop hthere hreads hctx
    exact congrArg Host.Outcome.next ((State.runCipher_ready _ hreq hstage hop hthere hreads).trans (State.gcmDec_of_context hctx))
  case xtsEnc =>
    intro s id core r hreq hstage hop hthere hreads
    exact congrArg Host.Outcome.next (State.runCipher_ready _ hreq hstage hop hthere hreads)
  case xtsDec =>
    intro s id core r hreq hstage hop hthere hreads
    exact congrArg Host.Outcome.next (State.runCipher_ready _ hreq hstage hop hthere hreads)
  case hash =>
    intro s id core r hreq hstage hop hthere hreads hfirst hlast
    exact congrArg Host.Outcome.next ((State.runCipher_ready _ hreq hstage hop hthere hreads).trans (State.hashRun_single hfirst hlast))
  case load =>
    intro s id core r hreq hstage hop hthere hreads hempty
    exact congrArg Host.Outcome.next ((State.runCipher_ready _ hreq hstage hop hthere hreads).trans (State.fillSlot_empty _ hempty))
  case genkey =>
    intro s id core r hreq hstage hop hthere hreads hempty
    have hstill : ((s.random (keyBytes (ciParam r.words))).1.keySlot r.part (ciSlot r.words)).full = false := by
      rw [State.random_keySlot, hempty]
    exact congrArg Host.Outcome.next ((State.runCipher_ready _ hreq hstage hop hthere hreads).trans (State.fillSlot_empty _ hstill))
  case erase =>
    intro s id core r hreq hstage hop hthere hreads
    exact congrArg Host.Outcome.next (State.runCipher_ready _ hreq hstage hop hthere hreads)
  case wrap =>
    intro s id core r pk x hreq hstage hop hthere hreads hpart hkey
    exact congrArg Host.Outcome.next ((State.runCipher_ready _ hreq hstage hop hthere hreads).trans (State.wrapRun_keyed hpart hkey))
  case unwrap =>
    intro s id core r pk hreq hstage hop hthere hreads hpart hempty
    exact congrArg Host.Outcome.next ((State.runCipher_ready _ hreq hstage hop hthere hreads).trans (State.unwrapRun_empty hpart hempty))
  case complete =>
    intro s id st r hreq hstage hfree hvisible
    exact execCipherComplete_visible hreq hstage hfree hvisible

/-! ### Registers and alarms (R315, R316, R321, R327, R328) -/

section CipherRegisters

variable {s : State} {p v : Nat}

/-- An epoch above the one in use is taken and recorded for the next start, and the packets that waited for a nonce are sealed in order
(R316). -/
theorem State.writeEpoch_greater (hgreater : s.rd Reg.CIPH_EPOCH_EPOCH < v % 2 ^ 24) :
    s.writeEpoch v = s.ciph.heldPkts.foldl (fun t h => t.sealSend h.conn h.slot h.part h.pkt)
      { (s.wr Reg.CIPH_EPOCH_EPOCH v).wr Reg.CIPH_EPOCH_VALID 1 with
        ciph := { s.ciph with heldPkts := [] }, rv := { s.rv with epoch := max s.rv.epoch (v % 2 ^ 24) } } :=
  if_neg (not_le.mpr hgreater)

/-- A ready or frozen partition takes the words of CIPH_PART_EK (R320, R321). -/
theorem State.writeExportKey_stopped {word : Nat} (hstopped : s.partState p = .ready ∨ s.partState p = .frozen) :
    s.writeExportKey p word v = s.exportKeyWord p word v :=
  if_neg (by simp [hstopped])

/-- The nonce ID is taken while no slot holds a key (R315). -/
theorem State.writeNonceId_keyless {src : Src} (hnone : s.keysHeld = 0) : s.writeNonceId src v = s.wr Reg.CIPH_CFG_NONCE_ID v :=
  if_neg (not_not.mpr hnone)

end CipherRegisters

/-- Settles O32: the writes pass their own checks, and an alarm is one of the four sources. -/
theorem cipherRegistersAndAlarmsComplete : Obligations.CipherRegistersAndAlarmsComplete := by
  refine ⟨?epoch, ?exportKey, ?nonceId, ?volt, ?clock, ?temp, ?shield, ?clear⟩
  case epoch =>
    intro s v hgreater
    exact congrArg Host.Outcome.next (State.writeEpoch_greater hgreater)
  case exportKey =>
    intro s p v hpf hpos hp hstopped
    rw [← State.writeExportKey_stopped hstopped]
    exact State.fromPf_guarded_of_open hpf (by simp [hpos, hp])
  case nonceId =>
    intro s v hpf hnone
    exact (State.fromPf_of_open hpf).trans (congrArg Host.Outcome.next (State.writeNonceId_keyless hnone))
  case volt =>
    intro s
    exact guarded_of (by decide)
  case clock =>
    intro s
    exact guarded_of (by decide)
  case temp =>
    intro s
    exact guarded_of (by decide)
  case shield =>
    intro s
    exact guarded_of (by decide)
  case clear =>
    intro s
    rfl

end Sys2Proof.Machine
end

section
/-! SUPPORT. Faults: the response to each code of Table 13.1, the containment on a spare, and the start of replays and planned switch-overs
where their checks are passed. -/

namespace Sys2Proof.Machine

/-! ### The response to a code (R329, R330, R338, Table 13.1) -/

section Response

variable {s : State} {c p e u a : Nat}

/-- A code whose access is not marked by fault handling leaves the memory as it is. -/
theorem State.markFault_of_unmarked (hc : c ∉ [0x06, 0x07, 0x10, 0x11, 0x14]) : s.markFault c a = s := by
  simp only [List.mem_cons, List.not_mem_nil, or_false, not_or] at hc
  obtain ⟨h6, h7, h10, h11, h14⟩ := hc
  unfold State.markFault
  split
  · exact absurd rfl h6
  · exact absurd rfl h7
  · exact absurd rfl h14
  · exact absurd rfl h10
  · exact absurd rfl h11
  · rfl

/-- A fault that is not a hub write's is classed in the state that it finds. -/
theorem execFaultDetected_direct (hp : p < 64) (he : e < 17) (hu : u < 32) (hdirect : ¬ (c = 0x11 ∧ e = 16)) :
    execFaultDetected c p e u a s = .next (s.fault c p e u a) := by
  have hwhen : (s.when (c == 0x11 && e == 16) (fun t => t.endHubWriters a)) = s := State.when_of_not _ (by simpa using hdirect)
  exact (guarded_of (by simp [hp, he, hu])).trans (by rw [hwhen])

/-- A failed write of the hub is classed once its writer's operation has ended (R338). -/
theorem execFaultDetected_hubWrite (hp : p < 64) (hu : u < 32) :
    execFaultDetected 0x11 p 16 u a s = .next ((s.endHubWriters a).fault 0x11 p 16 u a) :=
  guarded_of (by simp [hp, hu])

/-- The checks of the engines are contained (Table 13.1). -/
theorem faultClass_of_engineCheck (hlow : 1 ≤ c) (hhigh : c ≤ 7) : faultClass c = some 1 :=
  if_pos (Or.inl ⟨hlow, hhigh⟩)

/-- A corrected fault is recorded; that of a GDDR7 access counts at its device (R134). -/
theorem State.fault_corrected (hc : c = 8 ∨ c = 0x40 ∨ c = 0x50) :
    s.fault c p e u a = (s.when (c == 8 && e == 16 && decide (a < gddrSize))
      (fun t => t.corrected (t.pdOf (ldOf a)))).recordFault c 0 p e u := by
  have hclass : faultClass c = some 0 := by rcases hc with rfl | rfl | rfl <;> decide
  have hmark : s.markFault c a = s := State.markFault_of_unmarked (by rcases hc with rfl | rfl | rfl <;> decide)
  have howned : ¬ (c = 0x10 ∨ c = 0x14 ∨ (c = 0x11 ∧ e = 16)) := by omega
  simp only [State.fault, State.faultBy, hclass, hmark, if_neg howned]

/-- A contained fault outside the engines is recorded. -/
theorem State.fault_recorded (hc : c = 0xA ∨ c = 0x20) : s.fault c p e u a = s.recordFault c 1 p e u := by
  have hclass : faultClass c = some 1 := by rcases hc with rfl | rfl <;> decide
  have hmark : s.markFault c a = s := State.markFault_of_unmarked (by rcases hc with rfl | rfl <;> decide)
  have howned : ¬ (c = 0x10 ∨ c = 0x14 ∨ (c = 0x11 ∧ e = 16)) := by omega
  simp only [State.fault, State.faultBy, hclass, hmark, if_neg howned, if_pos hc]

/-- A contained fault of an engine shows its check and is contained, an uncorrectable write after its promotion (R136, R331). -/
theorem State.fault_contained (hclass : faultClass c = some 1) (hengine : ¬ (c = 0xA ∨ c = 0x20)) (howned : ¬ (c = 0x11 ∧ e = 16)) :
    s.fault c p e u a =
      (((s.markFault c a).when (c == 0x11) (fun t => t.startPromotion u)).showCheck c e).contain e c p u := by
  have hcode : ¬ (c = 0x10 ∨ c = 0x14 ∨ (c = 0x11 ∧ e = 16)) := by
    rintro (rfl | rfl | hwrite)
    exacts [absurd hclass (by decide), absurd hclass (by decide), howned hwrite]
  simp only [State.fault, State.faultBy, hclass, if_neg hcode, if_neg hengine]

/-- A partition-fatal fault is recorded and stops its partition (R341). -/
theorem State.fault_partFatal (hc : c = 9 ∨ c = 0x30 ∨ c = 0x31) :
    s.fault c p e u a = (s.recordFault c 2 p e u).partFault c p := by
  have hclass : faultClass c = some 2 := by rcases hc with rfl | rfl | rfl <;> decide
  have hmark : s.markFault c a = s := State.markFault_of_unmarked (by rcases hc with rfl | rfl | rfl <;> decide)
  have howned : ¬ (c = 0x10 ∨ c = 0x14 ∨ (c = 0x11 ∧ e = 16)) := by omega
  simp only [State.fault, State.faultBy, hclass, hmark, if_neg howned]

/-- A module-fatal fault is recorded and stops the module (R342). -/
theorem State.fault_moduleFatal (hc : c = 0x12 ∨ c = 0x13 ∨ c = 0x21 ∨ c = 0x22 ∨ c = 0x41) :
    s.fault c p e u a = (s.recordFault c 3 p e u).moduleFatal c := by
  have hclass : faultClass c = some 3 := by rcases hc with rfl | rfl | rfl | rfl | rfl <;> decide
  have hmark : s.markFault c a = s := State.markFault_of_unmarked (by rcases hc with rfl | rfl | rfl | rfl | rfl <;> decide)
  have howned : ¬ (c = 0x10 ∨ c = 0x14 ∨ (c = 0x11 ∧ e = 16)) := by omega
  simp only [State.fault, State.faultBy, hclass, hmark, if_neg howned]

/-- A code that the table does not list changes nothing. -/
theorem State.fault_unlisted (hnone : faultClass c = none) : s.fault c p e u a = s := by
  simp only [State.fault, State.faultBy, hnone]

end Response

/-! ### Errors in memory, by the owner of the address (R330) -/

section Owner

variable {s : State} {c p e u a q : Nat}

/-- Each code that goes by the owner of the address has a class in the table. -/
theorem faultClass_of_byOwner (hc : c = 0x10 ∨ c = 0x14 ∨ (c = 0x11 ∧ e = 16)) : ∃ cls, faultClass c = some cls := by
  rcases hc with rfl | rfl | ⟨rfl, -⟩
  exacts [⟨3, by decide⟩, ⟨3, by decide⟩, ⟨1, by decide⟩]

/-- An error in a tenant's memory is fatal to the tenant. -/
theorem State.fault_tenant (hc : c = 0x10 ∨ c = 0x14 ∨ (c = 0x11 ∧ e = 16)) (howner : s.byOwner a = (2, q)) :
    s.fault c p e u a = (((s.markFault c a).when (c == 0x11) (fun t => t.startPromotion u)).recordFault c 2 q e u).partFault c q := by
  obtain ⟨cls, hclass⟩ := faultClass_of_byOwner hc
  simp only [State.fault, State.faultBy, hclass, howner, if_pos hc]

/-- An error in the firmware's memory is fatal to the module. -/
theorem State.fault_firmware (hc : c = 0x10 ∨ c = 0x14 ∨ (c = 0x11 ∧ e = 16)) (howner : s.byOwner a = (3, q)) :
    s.fault c p e u a = (((s.markFault c a).when (c == 0x11) (fun t => t.startPromotion u)).recordFault c 3 q e u).moduleFatal c := by
  obtain ⟨cls, hclass⟩ := faultClass_of_byOwner hc
  simp only [State.fault, State.faultBy, hclass, howner, if_pos hc]

/-- An error in a granary loses the generation that it holds. -/
theorem State.fault_granary (hc : c = 0x10 ∨ c = 0x14 ∨ (c = 0x11 ∧ e = 16)) (howner : s.byOwner a = (0, q)) :
    s.fault c p e u a = (((s.markFault c a).when (c == 0x11) (fun t => t.startPromotion u)).recordFault c 0 q e u).loseGranary a := by
  obtain ⟨cls, hclass⟩ := faultClass_of_byOwner hc
  simp only [State.fault, State.faultBy, hclass, howner, if_pos hc]

end Owner

/-! ### Containment on a spare (R331, R334) -/

/-- A failed array or drain check, below the replay limit and with no switch-over waiting, is ordered to replay on the first free spare. -/
theorem State.contain_onSpare {s : State} {c p u n ps i : Nat} (hc : c = 3 ∨ c = 5) (hslot : s.slotOf n = some ps)
    (hwait : s.flt.waitSpare = [])
    (htries : s.triesOf n ((s.replayOf n).elim (s.rd Reg.BELL_COMMIT_NEXT) (·.b0)) < s.rd Reg.FLT_CFG_REPLAY_LIMIT)
    (hspare : (s.freeSpares (n / 8)).head? = some i) :
    s.contain n c p u = (s.recordFault c 1 p n u).orderSpare (n / 8 * 9 + i) ps
      { n := n, d := s.count, b0 := (s.replayOf n).elim (s.rd Reg.BELL_COMMIT_NEXT) (·.b0), counted := true, planned := false } := by
  rcases hc with rfl | rfl <;>
    simp [State.contain, hslot, hwait, hspare, not_le.mpr htries]

/-! ### Replays and planned switch-overs (R336, R340) -/

/-- An ordered replay whose restore has ended begins (R336). -/
theorem State.startReplay_restored {s : State} {n ps : Nat} {r : Replay} (hreplay : s.replayOf n = some r) (hslot : s.slotOf n = some ps)
    (hfirst : r.begun = false) (hrestored : (s.copy ps).queue.any (fun d => decide (d.src = .replay)) = false) :
    s.startReplay n = s.beginReplay n ps r := by
  simp only [State.startReplay, hreplay, hslot, hfirst, hrestored, Bool.or_self, Bool.false_eq_true, if_false]

/-- GO arms the switch-over of an engine for a bell that has not begun (R340). -/
theorem State.armSwitch_later {s : State} {v : Nat} (hfree : s.on Reg.FLT_SWITCH_ARMED = false) (hgo : bit v 4 = true)
    (hlater : (s.wr Reg.FLT_SWITCH_ENGINE (bits v 0 4)).count < (s.wr Reg.FLT_SWITCH_ENGINE (bits v 0 4)).rd Reg.FLT_SWITCH_BELL_BELL) :
    s.armSwitch v = (s.wr Reg.FLT_SWITCH_ENGINE (bits v 0 4)).wr Reg.FLT_SWITCH_ARMED 1 := by
  simp only [State.armSwitch, hfree, hgo, not_le.mpr hlater, Bool.not_true, Bool.false_eq_true, if_false]

/-- An armed switch-over whose bell has come is a fault of cause 0x32 at its engine (R340). -/
theorem execPlannedSwitch_due {s : State} (harmed : s.on Reg.FLT_SWITCH_ARMED = true) (hcome : s.rd Reg.FLT_SWITCH_BELL_BELL ≤ s.count) :
    execPlannedSwitch s = .next ((s.wr Reg.FLT_SWITCH_ARMED 0).fault 0x32 0 (s.rd Reg.FLT_SWITCH_ENGINE)
      ((s.slotOf (s.rd Reg.FLT_SWITCH_ENGINE)).getD 0) 0) :=
  congrArg Host.Outcome.next (if_pos (by simp [harmed, hcome]))

/-- Settles O33: the code gives the response of Table 13.1, the owner of the address that of an error in memory, and a free spare that of a
failed array or drain check. That an unlisted code changes nothing is the model's reading (notes/assumptions/53.md). -/
theorem faultCommandsComplete : Obligations.FaultCommandsComplete := by
  refine ⟨?corrected, ?memory, ?recorded, ?contained, ?engineWrite, ?planned, ?spare, ?partFatal, ?tenant, ?firmware, ?granary, ?hubTenant,
    ?moduleFatal, ?hubGranary, ?hubFirmware, ?unlisted, ?replay, ?arm, ?switch⟩
  case corrected =>
    intro s p e u a c hp he hu hc
    have hcounts : (c == 8 && e == 16 && decide (a < gddrSize)) = false := by rcases hc with rfl | rfl <;> rfl
    refine (execFaultDetected_direct hp he hu (by omega)).trans (congrArg Host.Outcome.next ?_)
    rw [State.fault_corrected (Or.inr hc), State.when_of_not _ hcounts]
  case memory =>
    intro s p e u a hp he hu
    exact (execFaultDetected_direct hp he hu (by omega)).trans (congrArg Host.Outcome.next (State.fault_corrected (Or.inl rfl)))
  case recorded =>
    intro s p e u a c hp he hu hc
    exact (execFaultDetected_direct hp he hu (by omega)).trans (congrArg Host.Outcome.next (State.fault_recorded hc))
  case contained =>
    intro s p e u a c hp he hu hlow hhigh
    refine (execFaultDetected_direct hp he hu (by omega)).trans (congrArg Host.Outcome.next ?_)
    rw [State.fault_contained (faultClass_of_engineCheck hlow hhigh) (by omega) (by omega),
      State.when_of_not _ (beq_false_of_ne (by omega))]
  case engineWrite =>
    intro s p e u a hp he hu hengine
    exact (execFaultDetected_direct hp he hu (by omega)).trans (congrArg Host.Outcome.next
      (State.fault_contained (by decide) (by decide) (fun h => hengine h.2)))
  case planned =>
    intro s p e u a hp he hu
    exact (execFaultDetected_direct hp he hu (by omega)).trans (congrArg Host.Outcome.next
      (State.fault_contained (by decide) (by decide) (by omega)))
  case spare =>
    intro s p e u a c i hp he hu hc _ hslot hwait htries hspare
    have hmark : s.markFault c a = s := State.markFault_of_unmarked (by rcases hc with rfl | rfl <;> decide)
    refine (execFaultDetected_direct hp he hu (by omega)).trans (congrArg Host.Outcome.next ?_)
    rw [State.fault_contained (faultClass_of_engineCheck (by omega) (by omega)) (by omega) (by omega),
      State.when_of_not _ (beq_false_of_ne (by omega)), hmark]
    exact State.contain_onSpare hc hslot hwait htries hspare
  case partFatal =>
    intro s p e u a c hp he hu hc
    exact (execFaultDetected_direct hp he hu (by omega)).trans (congrArg Host.Outcome.next (State.fault_partFatal hc))
  case tenant =>
    intro s p e u a c q hp he hu hc howner
    have hnoWrite : (c == 0x11) = false := by rcases hc with rfl | rfl <;> rfl
    refine (execFaultDetected_direct hp he hu (by omega)).trans (congrArg Host.Outcome.next ?_)
    rw [State.fault_tenant (hc.imp_right Or.inl) howner, State.when_of_not _ hnoWrite]
  case firmware =>
    intro s p e u a c q hp he hu hc howner
    have hnoWrite : (c == 0x11) = false := by rcases hc with rfl | rfl <;> rfl
    refine (execFaultDetected_direct hp he hu (by omega)).trans (congrArg Host.Outcome.next ?_)
    rw [State.fault_firmware (hc.imp_right Or.inl) howner, State.when_of_not _ hnoWrite]
  case granary =>
    intro s p e u a c q hp he hu hc howner
    have hnoWrite : (c == 0x11) = false := by rcases hc with rfl | rfl <;> rfl
    refine (execFaultDetected_direct hp he hu (by omega)).trans (congrArg Host.Outcome.next ?_)
    rw [State.fault_granary (hc.imp_right Or.inl) howner, State.when_of_not _ hnoWrite]
  case hubTenant =>
    rintro s p _ u a q _ hp - hu rfl rfl howner
    exact (execFaultDetected_hubWrite hp hu).trans (congrArg Host.Outcome.next (State.fault_tenant (.inr (.inr ⟨rfl, rfl⟩)) howner))
  case moduleFatal =>
    intro s p e u a c hp he hu hc
    exact (execFaultDetected_direct hp he hu (by omega)).trans (congrArg Host.Outcome.next (State.fault_moduleFatal hc))
  case hubGranary =>
    rintro s p _ u a q _ hp - hu rfl rfl howner
    exact (execFaultDetected_hubWrite hp hu).trans (congrArg Host.Outcome.next (State.fault_granary (.inr (.inr ⟨rfl, rfl⟩)) howner))
  case hubFirmware =>
    rintro s p _ u a q _ hp - hu rfl rfl howner
    exact (execFaultDetected_hubWrite hp hu).trans (congrArg Host.Outcome.next (State.fault_firmware (.inr (.inr ⟨rfl, rfl⟩)) howner))
  case unlisted =>
    intro s p e u a c hp he hu hnone
    have hother : ¬ (c = 0x11 ∧ e = 16) := by
      rintro ⟨rfl, -⟩
      exact absurd hnone (by decide)
    exact (execFaultDetected_direct hp he hu hother).trans (congrArg Host.Outcome.next (State.fault_unlisted hnone))
  case replay =>
    intro s n ps r hn hreplay hslot hfirst hrestored
    exact (guarded_of (decide_eq_true hn)).trans
      (congrArg Host.Outcome.next (State.startReplay_restored hreplay hslot hfirst hrestored))
  case arm =>
    intro s v hpf hfree hgo hlater
    exact (State.fromPf_of_open hpf).trans (congrArg Host.Outcome.next (State.armSwitch_later hfree hgo hlater))
  case switch =>
    intro s harmed hcome
    exact execPlannedSwitch_due harmed hcome

end Sys2Proof.Machine
end

section
/-! SUPPORT. How a command answers once its operands name units and the PF's block answers: it is left to say which state its meaning gives. -/

namespace Sys2Proof.Machine

/-- A command whose operands name a unit answers the state that its meaning gives. -/
theorem guarded_eq {s t u : State} {ok : Bool} (hok : ok = true) (h : t = u) : s.guarded ok t = .next u := by
  rw [guarded_of hok, h]

/-- So does a command of the PF while its block answers. -/
theorem State.fromPf_eq {s t u : State} {b : Nat} (hpf : s.pfOpen b = true) (h : t = u) : s.fromPf b (.next t) = .next u := by
  rw [State.fromPf_of_open hpf, h]

/-- So does a command of the PF whose operands name a unit. -/
theorem State.fromPf_guarded_eq {s t u : State} {b : Nat} {ok : Bool} (hpf : s.pfOpen b = true) (hok : ok = true) (h : t = u) :
    s.fromPf b (s.guarded ok t) = .next u := by
  rw [State.fromPf_guarded_of_open hpf hok, h]

end Sys2Proof.Machine
end

section
/-! SUPPORT. Checkpoints, restores, granaries and planned switch-overs: what each command does where its checks are passed. -/

namespace Sys2Proof.Machine

/-! ### Triggers and aborts (R346, R347, R350, R351) -/

section Trigger

variable {s t : State} {k hold step : Nat}

/-- A trigger command is due at the next edge in an enabled context (R346). -/
theorem State.ckpTriggerCmd_enabled (hen : s.on (Reg.CKP_CTRL_EN k) = true) :
    s.ckpTriggerCmd k = (s.setCkp k { s.ckp k with due := some (s.count + 1, none) }).wr (Reg.CKP_CMD_RESULT k) 0 :=
  if_pos hen

/-- A context that is not enabled answers it BAD_STATE (notes/assumptions/61.md). -/
theorem State.ckpTriggerCmd_disabled (hen : s.on (Reg.CKP_CTRL_EN k) = false) : s.ckpTriggerCmd k = s.wr (Reg.CKP_CMD_RESULT k) 1 :=
  if_neg (Bool.eq_false_iff.mp hen)

/-- A trigger that is due begins a checkpoint when none of the reasons to defer it holds, and each region lies in one segment (R347, R350). -/
theorem State.ckpTrigger_undeferred (hdue : s.ckpDue k = some (t, step)) (hidle : (t.ckp k).run = none)
    (hruns : t.partState (t.rd (Reg.CKP_CTRL_PART k)) = .run) (hbehind : t.workBehind (t.rd (Reg.CKP_CTRL_PART k)) = false)
    (hhold : bit hold (t.ckpNext k) = false) (hother : (if t.ckpNext k = 0 then (t.ckp k).step1 else (t.ckp k).step0) = none)
    (hregions : (t.ckpRegions k).any (fun r => (t.ckpBase k r).isNone) = false) :
    s.ckpTrigger k hold = t.beginCkp k step := by
  simp only [State.ckpTrigger, hdue, hidle, hruns, hbehind, hhold, hother, hregions, Option.isSome_none, Option.elim_none, ne_eq,
    not_true_eq_false, decide_false, Bool.or_self, Bool.false_eq_true, if_false]

/-- An abort ends the checkpoint that runs (R351). -/
theorem State.ckpAbortCmd_running (hruns : (s.ckp k).run.isSome = true) : s.ckpAbortCmd k = (s.ckpAbort k).wr (Reg.CKP_CMD_RESULT k) 0 :=
  if_pos hruns

end Trigger

/-! ### Restores (R355, R356) -/

section Restore

variable {s : State} {k : Nat} {es : List (List Nat)} {im : List ImageRead}

/-- A list of good shape is restored from its sources, or ends with the first that fails. -/
theorem State.restoreList_wellFormed (hgood : s.restoreBad k es (im.map ImageRead.bytes) = false) :
    s.restoreList k es im = (sourceFail (es.filter (fun e => e.headD 0 == 1)) im).elim (s.restoreFrom k es (im.map ImageRead.bytes))
      (fun x => s.restoreEnd k x.2 x.1) := by
  simp only [State.restoreList, hgood, Bool.false_eq_true, if_false]
  cases sourceFail (es.filter (fun e => e.headD 0 == 1)) im <;> rfl

variable (hfrozen : s.partState (s.rd (Reg.CKP_CTRL_PART k)) = .frozen)

include hfrozen

/-- A frozen partition is restored from the list that the command brings, where the host may be read. -/
theorem State.ckpRestore_given (hhost : s.mayRequest 0 = true) (hlist : es ≠ []) : s.ckpRestore k es im = s.restoreList k es im := by
  simp [State.ckpRestore, hfrozen, hlist, hhost]

/-- A command that brings no list asks the host for it, when none is under way (R185, notes/assumptions/7.md). -/
theorem State.ckpRestore_asksHost (hcount : s.rd (Reg.CKP_RESTORE_N_COUNT k) ≠ 0) (hnone : (s.ckp k).list = [])
    (hunasked : (s.ckp k).listMissing = 0) (hidle : (s.ckp k).run = none) :
    s.ckpRestore k [] im = (((s.setCkp k { s.ckp k with listMissing := 64 * s.rd (Reg.CKP_RESTORE_N_COUNT k) }).wr
      (Reg.CKP_STATUS_STATE k) 3).wr (Reg.CKP_CMD_BUSY k) 1).readHostFor 0 0x7FF (s.rd (Reg.CKP_RESTORE_ADDR_ADDR k) * 64)
        (64 * s.rd (Reg.CKP_RESTORE_N_COUNT k)) (fun o => .restore k o) := by
  simp [State.ckpRestore, hfrozen, hcount, hnone, hunasked, hidle, State.when_of]

end Restore

/-! ### Granaries (R350) -/

section Granary

variable {s : State} {g i : Nat}

/-- Every DRAIN_EVERY-th generation that a slot holds is counted, held and drained to the volume. -/
theorem State.granaryDrain_starts {w : State}
    (hw : w = { s with flt := { s.flt with granGens := Tab.set 0 s.flt.granGens g (Tab.get 0 s.flt.granGens g + 1) } })
    (hen : s.on (Reg.CKP_GRAN_EN g) = true) (hevery : s.rd (Reg.CKP_GRAN_DRAIN_EVERY g) ≠ 0)
    (hkept : Tab.get false s.flt.granLost (g * 2 + i) = false)
    (hturn : (Tab.get 0 s.flt.granGens g + 1) % s.rd (Reg.CKP_GRAN_DRAIN_EVERY g) = 0)
    (hfree : bit (s.rd (Reg.CKP_GRAN_HOLD g)) i = false) :
    s.granaryDrain g i none = (w.granHold g (Nat.lor (s.rd (Reg.CKP_GRAN_HOLD g)) (2 ^ i))).emit
      (.drain (s.rd (Reg.CKP_GRAN_DRAIN_VOL g)) (s.rd (Reg.CKP_GRAN_DRAIN_LBA g) + i * s.granSlot g /
          (if s.on (Reg.BLK_VOL_BS (s.rd (Reg.CKP_GRAN_DRAIN_VOL g))) then 4096 else 512))
        (w.bytes (s.rd (Reg.CKP_GRAN_BASE g) + 65536 + i * s.granSlot g) (s.granSlot g))) := by
  subst hw
  simp only [State.granaryDrain, hen, hevery, hkept, hturn, hfree, ne_eq, not_true_eq_false, Bool.not_true, Bool.false_eq_true, or_self,
    if_false]
  rfl

/-- The end of a drain releases the slot, and a failed one is reported. -/
theorem State.granaryDrain_ends {ok : Bool} (hen : s.on (Reg.CKP_GRAN_EN g) = true) (hheld : bit (s.rd (Reg.CKP_GRAN_HOLD g)) i = true) :
    s.granaryDrain g i (some ok) = (s.granHold g (s.rd (Reg.CKP_GRAN_HOLD g) ^^^ 2 ^ i)).when (!ok)
      (fun t => t.ckpEvent Reg.CKP_EVENT_DRAIN_FAIL) := by
  simp only [State.granaryDrain, hen, hheld, Bool.not_true, Bool.false_eq_true, if_false]

end Granary

/-! ### Planned switch-overs (R340) -/

section Planned

variable {s : State} {p u n ps i : Nat}

/-- The cause of a planned switch-over is no check of an engine, and shows none. -/
theorem State.showCheck_planned : s.showCheck 0x32 n = s := by
  unfold State.showCheck
  cases s.slotOf n <;> rfl

/-- A planned switch-over of an engine with a slot, while no switch-over waits, is ordered on the first free spare, whatever the replays
before it. -/
theorem State.contain_planned (hslot : s.slotOf n = some ps) (hwait : s.flt.waitSpare = [])
    (hspare : (s.freeSpares (n / 8)).head? = some i) :
    s.contain n 0x32 p u = (s.recordFault 0x32 1 p n u).orderSpare (n / 8 * 9 + i) ps
      { n := n, d := s.count, b0 := (s.replayOf n).elim (s.rd Reg.BELL_COMMIT_NEXT) (·.b0), counted := false, planned := true } := by
  simp [State.contain, hslot, hwait, hspare]

end Planned

/-- Settles O34: each command passes the checks of its own kind, a trigger those of R347, a restore those of its list, a drain those of
its slot; a planned switch-over is the fault 0x32, contained on a spare. That a context which is not enabled answers BAD_STATE, and that
a restore without a list asks the host for it, are the model's readings (notes/assumptions/61.md and 7.md). -/
theorem checkpointCommandsComplete : Obligations.CheckpointCommandsComplete := by
  refine ⟨?trigger, ?refused, ?begins, ?abort, ?restore, ?asks, ?drain, ?drained, ?replay, ?arm, ?switch, ?spare⟩
  case trigger =>
    intro s k hpf hk hen
    exact State.fromPf_guarded_eq hpf (decide_eq_true hk) (State.ckpTriggerCmd_enabled hen)
  case refused =>
    intro s k hpf hk hen
    exact State.fromPf_guarded_eq hpf (decide_eq_true hk) (State.ckpTriggerCmd_disabled hen)
  case begins =>
    intro s t k hold step hk hdue hidle hruns hbehind hhold hother hregions
    exact guarded_eq (decide_eq_true hk) (State.ckpTrigger_undeferred hdue hidle hruns hbehind hhold hother hregions)
  case abort =>
    intro s k hpf hk hruns
    exact State.fromPf_guarded_eq hpf (decide_eq_true hk) (State.ckpAbortCmd_running hruns)
  case restore =>
    intro s k es im hpf hk hfrozen hhost hlist hgood
    exact State.fromPf_guarded_eq hpf (decide_eq_true hk)
      ((State.ckpRestore_given hfrozen hhost hlist).trans (State.restoreList_wellFormed hgood))
  case asks =>
    intro s k im hpf hk hfrozen hcount hnone hunasked hidle
    exact State.fromPf_guarded_eq hpf (decide_eq_true hk) (State.ckpRestore_asksHost hfrozen hcount hnone hunasked hidle)
  case drain =>
    intro s w g i hw hg hi hen hevery hkept hturn hfree
    exact guarded_eq (by simp [hg, hi]) (State.granaryDrain_starts hw hen hevery hkept hturn hfree)
  case drained =>
    intro s g i ok hg hi hen hheld
    exact guarded_eq (by simp [hg, hi]) (State.granaryDrain_ends hen hheld)
  case replay =>
    intro s n ps r hn hreplay hslot hfirst hrestored
    exact guarded_eq (decide_eq_true hn) (State.startReplay_restored hreplay hslot hfirst hrestored)
  case arm =>
    intro s v hpf hfree hgo hlater
    exact State.fromPf_eq hpf (State.armSwitch_later hfree hgo hlater)
  case switch =>
    intro s harmed hcome
    exact execPlannedSwitch_due harmed hcome
  case spare =>
    rintro s u n ps i harmed hcome rfl hslot rfl hstill hwait hspare
    refine (execPlannedSwitch_due harmed hcome).trans (congrArg Host.Outcome.next ?_)
    rw [hslot, State.fault_contained (by decide) (by decide) (by omega), State.when_of_not _ (by decide),
      State.markFault_of_unmarked (by decide), State.showCheck_planned]
    exact State.contain_planned hstill hwait hspare

end Sys2Proof.Machine
end

section
/-! SUPPORT. Power states: what clock gating, the requests, the wake sources and the steps of a return do where their checks are passed. -/

namespace Sys2Proof.Machine

/-! ### Requests (R361 to R364) -/

section Requests

variable {s : State} {b : Nat}

/-- An enabled idle block that has waited long enough, with no work and untouched, is gated (R360). -/
theorem execClockGate_idle (hb : b < 144) (hen : s.on Reg.PWR_IDLE_EN = true) (hlong : s.rd Reg.PWR_IDLE_BELLS ≤ Tab.get 0 s.pwr.idle b)
    (hidle : s.blockBusy b = false) (huntouched : Tab.get false s.pwr.touched b = false) :
    execClockGate b s = .next { s with pwr := { s.pwr with gated := Tab.set false s.pwr.gated b true } } :=
  guarded_eq (decide_eq_true hb) (if_pos (by simp [hen, hlong, hidle, huntouched]))

/-- A request is carried out at once when none is in progress and the Reeve is not in reset (R361). -/
theorem State.powerReq_free {target : Nat} {sideband : Bool} (hon : s.pwr.off = false) (hfree : s.on Reg.PWR_REQ_BUSY = false)
    (hreeve : s.rd Reg.MGT_STATUS_STATE ≠ 4) : s.powerReq target sideband = s.carryOut target sideband := by
  simp only [State.powerReq, hon, hfree, hreeve, Bool.false_eq_true, if_false]

/-- The entry into Sleep begins when R362 allows it. -/
theorem State.carryOut_sleep {sideband : Bool} (hfw : s.fwRuns = true) (hmay : s.maySleep = true) :
    s.carryOut 2 sideband = (s.wr Reg.PWR_REQ_BUSY 1).setTransit (some (.entering 2)) := by
  simp [State.carryOut, hfw, hmay]

/-- The entry into Deep sleep begins when every tenant is free and what it is to retain can be retained (R363). -/
theorem State.carryOut_deepSleep (hfw : s.fwRuns = true) (hmay : s.maySleep = true) (hfree : s.tenantsFree = true)
    (hunits : s.dsUnits.length ≤ 64) (hdevices : (List.range 26).any (fun p => bit (s.rd Reg.PWR_DS_MEM_PD) p && s.devLost p) = false) :
    s.carryOut 3 false = (s.wr Reg.PWR_REQ_BUSY 1).setTransit (some (.entering 3)) := by
  simp [State.carryOut, hfw, hmay, hfree, hunits.not_gt, hdevices, -List.any_eq_false]

/-- The entry into Off begins whatever runs (R364). -/
theorem State.carryOut_off {sideband : Bool} : s.carryOut 4 sideband = (s.wr Reg.PWR_REQ_BUSY 1).setTransit (some (.entering 4)) := by
  simp [State.carryOut]

end Requests

/-! ### Entries that end (R361) -/

section Entries

variable {s : State}

/-- The module sleeps. -/
theorem State.entryDone_sleep (hentry : s.pwr.transit = some (.entering 2)) :
    s.entryDone = (((s.setTransit none).wr Reg.PWR_STATE_STATE 2).wr Reg.PWR_STATE_RDY 0).endReq 0 := by
  simp only [State.entryDone, hentry]

/-- The module sleeps deeply. -/
theorem State.entryDone_deepSleep (hentry : s.pwr.transit = some (.entering 3)) : s.entryDone = s.enterDeep.endReq 0 := by
  simp only [State.entryDone, hentry]

/-- The module is in Off, by request. -/
theorem State.entryDone_off (hentry : s.pwr.transit = some (.entering 4)) : s.entryDone = s.enterOff 0 0 := by
  simp only [State.entryDone, hentry]

end Entries

/-! ### Wake sources (R365, R366, Table 14.3) -/

section Wake

variable {s : State} {l low : Nat}

/-- The host lanes wake from both kinds of sleep. -/
theorem State.wakeBy_pcie (hen : s.on Reg.PWR_WAKE_EN_PCIE = true) (hstate : s.inState 3 = true ∨ s.inState 2 = true) :
    s.wakeBy 0 l low = s.wakeUp Reg.PWR_WAKE_CAUSE_PCIE :=
  if_pos ⟨hen, hstate.imp_right (fun h => by simp [h])⟩

/-- A fabric frame wakes from Sleep. -/
theorem State.wakeBy_frame (hen : s.on Reg.PWR_WAKE_EN_FAB_FRAME = true) (hstate : s.inState 2 = true) :
    s.wakeBy 1 l low = (s.wakeUp Reg.PWR_WAKE_CAUSE_FAB_FRAME).wr Reg.PWR_WAKE_CAUSE_LANE l :=
  if_pos ⟨hen, by simp [hstate]⟩

/-- A signal on a lane wakes from Deep sleep. -/
theorem State.wakeBy_signal (hen : bit (s.rd Reg.PWR_WAKE_EN_FAB_SIG) (l / 4) = true) (hstate : s.inState 3 = true) :
    s.wakeBy 2 l low = (s.wakeUp Reg.PWR_WAKE_CAUSE_FAB_SIG).wr Reg.PWR_WAKE_CAUSE_LANE l :=
  if_pos ⟨hen, hstate⟩

/-- WAKE_N, low for its filter time, wakes a powered module from both kinds of sleep (R365, R439). -/
theorem State.wakeBy_pin (hlong : s.rd Reg.HUB_FILTER_WAKE ≤ low) (hstate : s.inState 3 = true ∨ s.inState 2 = true)
    (hon : s.pwr.off = false) : s.wakeBy 4 l low = s.wakeUp Reg.PWR_WAKE_CAUSE_WAKE_N := by
  refine (if_neg hlong.not_gt).trans ((if_neg (by simp [hon])).trans (if_pos ?_))
  exact hstate.imp_right (fun h => .inl (by simp [h]))

/-- Two good vesper sequences wake from both kinds of sleep (R366). -/
theorem execVesperDetect_good {a b : Nat} (hl : l < 32) (hen : s.on Reg.PWR_WAKE_EN_VESPER = true) (ha : s.vesperOk l a = true)
    (hb : s.vesperOk l b = true) (hstate : s.inState 2 = true ∨ s.inState 3 = true) :
    execVesperDetect l a b s = .next ((s.wakeUp Reg.PWR_WAKE_CAUSE_VESPER).wr Reg.PWR_WAKE_CAUSE_LANE l) :=
  guarded_eq (decide_eq_true hl) (if_pos ⟨hen, ha, hb, hstate⟩)

end Wake

/-! ### The return (R363, R367, R368) -/

section Return

variable {s : State} {k : Nat} {deep : Bool}

/-- The bit that shows whether a list holds anything. -/
theorem b2n_not_isEmpty {α : Type} (l : List α) [Decidable (l = [])] : b2n (!l.isEmpty) = if l = [] then 0 else 1 := by
  cases l <;> simp [b2n]

/-- A step of the return before its last raises its ready signal and leads to the next; the third of a return from Deep sleep lets FLOOR
show its sources again (R367, R368). -/
theorem State.returnStep_goesOn {u t : State} (hreturn : s.pwr.transit = some (.returning deep k)) (hpos : 0 < k) (hmore : k < 3 ∨ deep = true)
    (hu : u = if 3 ≤ k ∧ deep = true then s.wr Reg.PWR_STATUS_FLOOR (if s.pwr.floors = [] then 0 else 1) else s)
    (ht : t = u.wr Reg.PWR_STATE_RDY (Nat.lor (u.rd Reg.PWR_STATE_RDY) (2 ^ k))) :
    s.returnStep = { t with pwr := { t.pwr with transit := some (.returning deep (min (k + 1) 4)) } } := by
  have hfloor : s.when (decide (3 ≤ k) && deep) (fun t => t.wr Reg.PWR_STATUS_FLOOR (b2n (!t.pwr.floors.isEmpty))) = u := by
    simp only [hu, State.when, b2n_not_isEmpty, Bool.and_eq_true, decide_eq_true_eq]
  simp only [State.returnStep, hreturn, hfloor, ← ht, hpos.ne', if_false, if_pos hmore]

end Return

/-- Settles O35: a request passes the checks of its target, an entry ends in the state that it enters, a wake source acts in the states
that it serves, and a step of the return is not its last. That the hot-swap trip opens the switch and no
more, the loss of the input having rows of its own, is the model's reading (notes/assumptions/62.md). -/
theorem powerStateCommandsComplete : Obligations.PowerStateCommandsComplete := by
  refine ⟨?gate, ?sleep, ?deepSleep, ?off, ?asleep, ?deeplyAsleep, ?isOff, ?pcie, ?frame, ?signal, ?pin, ?vesper, ?step, ?hotswap⟩
  case gate =>
    intro s b hb hen hlong hidle huntouched
    exact execClockGate_idle hb hen hlong hidle huntouched
  case sleep =>
    intro s hpf hon hfree hreeve hfw hmay
    exact State.fromPf_eq hpf ((State.powerReq_free hon hfree hreeve).trans (State.carryOut_sleep hfw hmay))
  case deepSleep =>
    intro s hon hfree hreeve hfw hmay htenants hunits hdevices
    exact congrArg Host.Outcome.next
      ((State.powerReq_free hon hfree hreeve).trans (State.carryOut_deepSleep hfw hmay htenants hunits hdevices))
  case off =>
    intro s hpf hon hfree hreeve
    exact State.fromPf_eq hpf ((State.powerReq_free hon hfree hreeve).trans State.carryOut_off)
  case asleep =>
    intro s hentry
    exact congrArg Host.Outcome.next (State.entryDone_sleep hentry)
  case deeplyAsleep =>
    intro s hentry
    exact congrArg Host.Outcome.next (State.entryDone_deepSleep hentry)
  case isOff =>
    intro s hentry
    exact congrArg Host.Outcome.next (State.entryDone_off hentry)
  case pcie =>
    intro s l low hl hen hstate
    exact guarded_eq (by simp [hl]) (State.wakeBy_pcie hen hstate)
  case frame =>
    intro s l low hl hen hstate
    exact guarded_eq (by simp [hl]) (State.wakeBy_frame hen hstate)
  case signal =>
    intro s l low hl hen hstate
    exact guarded_eq (by simp [hl]) (State.wakeBy_signal hen hstate)
  case pin =>
    intro s l low hl hlong hstate hon
    exact guarded_eq (by simp [hl]) (State.wakeBy_pin hlong hstate hon)
  case vesper =>
    intro s l a b hl hen ha hb hstate
    exact execVesperDetect_good hl hen ha hb hstate
  case step =>
    intro s u t k deep hreturn hpos hmore hu ht
    exact congrArg Host.Outcome.next (State.returnStep_goesOn hreturn hpos hmore hu ht)
  case hotswap =>
    intro s
    rfl

end Sys2Proof.Machine
end

section
/-! SUPPORT. Protection: what set points, power samples, the floor, temperatures, pre-bias and droop do where their checks are passed. -/

namespace Sys2Proof.Machine

/-! ### The pace mode and power samples (R371, R374) -/

section Samples

variable {s : State}

/-- Free mode is refused only beside a bell from outside or reports of it; any other write of PWR_CTRL is taken (R371). -/
theorem State.writePwrCtrl_allowed {src : Src} {v : Nat}
    (hmode : bit v 0 = false ∨ (s.rd Reg.BELL_CTRL_SOURCE = 0 ∧ s.on Reg.BELL_CTRL_REPORT_EN = false)) :
    s.writePwrCtrl src v = s.takePwrCtrl src v := by
  refine if_neg ?_
  rintro ⟨hfree, hsource | hreport⟩
  · exact hmode.elim (fun h => by simp [h] at hfree) (fun h => hsource h.1)
  · exact hmode.elim (fun h => by simp [h] at hfree) (fun h => by simp [h.2] at hreport)

/-- A sample that leaves the mean `l` within the cap moves the input registers and ends the run of samples above it (R374). -/
theorem State.powerSample_withinCap {mv a : Nat} {l : List Nat} (hl : (mv * a / 100000 :: s.pwr.samples).take (s.rd Reg.PWR_CAP_TAU * 100) = l)
    (htau : 0 < s.rd Reg.PWR_CAP_TAU) (hcap : l.sum / max l.length 1 ≤ s.rd Reg.PWR_CAP_WATTS) :
    s.powerSample mv a = ((((({ s with pwr := { s.pwr with
        samples := l, energy := (s.pwr.energy + mv * a) % 10000000, overCount := 0 } } : State).wr Reg.PWR_INPUT_MV mv).wr
      Reg.PWR_INPUT_CURRENT a).wr Reg.PWR_INPUT_NOW (mv * a / 100000)).wr Reg.PWR_INPUT_AVG (l.sum / max l.length 1)).inc Reg.PWR_ENERGY_MJ
      ((s.pwr.energy + mv * a) / 10000000) := by
  have hmet : ¬ (s.rd Reg.PWR_CAP_WATTS < l.sum / max l.length 1 ∧ s.rd Reg.PWR_STATUS_CAP_PACE = 16) := fun h => hcap.not_gt h.1
  have hfew : decide (s.rd Reg.PWR_CAP_TAU * 100 ≤ 0) = false := decide_eq_false (by omega)
  simp only [State.powerSample, hl, if_neg hmet, State.when_of_not _ hfew]

end Samples

/-! ### The floor (R376, R439) -/

section Floor

variable {s : State}

/-- PWR_ALERT_N, low for its filter time, holds the floor. -/
theorem execPwrAlertAssert_filtered {low : Nat} (hlong : s.rd Reg.HUB_FILTER_ALERT ≤ low) :
    execPwrAlertAssert low s = .next ((s.wr Reg.PWR_STATUS_ALERT_PIN 1).floorOn 0) :=
  congrArg Host.Outcome.next (if_neg hlong.not_gt)

/-- A hold other than the regulators' ends, that of the sensors once none is at its emergency limit. -/
theorem State.floorOff_released {i : Nat} (hother : i ≠ 1) (hcool : i ≠ 3 ∨ s.on Reg.PWR_STATUS_THERM = false) :
    s.floorOff i = ({ s.wr (floorBit i) 0 with pwr := { s.pwr with floors := s.pwr.floors.filter (· != i) } } : State).applyFloor := by
  have hends : ¬ (i = 3 ∧ s.on Reg.PWR_STATUS_THERM = true) := fun h => hcool.elim (fun hi => hi h.1) (fun ht => by simp [ht] at h)
  have hpin : (i == 1 && s.on Reg.PWR_STATUS_ALERT_REG && s.on Reg.PWR_CTRL_ALERT_OUT_EN) = false := by simp [hother]
  simp only [State.floorOff, if_neg hends, State.when_of_not _ hpin]

/-- The regulators' hold ends, and with it the module's own hold of PWR_ALERT_N. -/
theorem State.floorOff_regulators {u : State}
    (hu : u = s.when (s.on Reg.PWR_STATUS_ALERT_REG && s.on Reg.PWR_CTRL_ALERT_OUT_EN) (fun t => t.emit (.pin "PWR_ALERT_N" true))) :
    s.floorOff 1 = ({ u.wr (floorBit 1) 0 with pwr := { u.pwr with floors := u.pwr.floors.filter (· != 1) } } : State).applyFloor := by
  subst hu
  exact if_neg (fun h => absurd h.1 (by decide))

end Floor

/-! ### Temperature (R378) -/

section Temperature

variable {s : State}

/-- A sensor above its throttle limit for THERM_STEP bells lowers the thermal pace by one. -/
theorem State.thermStep_down (hhot : s.throttled = true) (hlong : s.rd Reg.PWR_CTRL_THERM_STEP ≤ s.pwr.hot)
    (hroom : 16 < s.rd Reg.PWR_STATUS_THERM_PACE) :
    s.thermStep = (({ s with pwr := { s.pwr with hot := 0 } } : State).wr Reg.PWR_STATUS_THERM_PACE
      (s.rd Reg.PWR_STATUS_THERM_PACE - 1)).pwrEvent Reg.PWR_EVENT_THROTTLE := by
  rw [State.thermStep, if_pos hhot, if_pos ⟨hlong, hroom⟩]

/-- Four times as many bells with every sensor cool raise it by one. -/
theorem State.thermStep_up (hcool : s.throttled = false) (hlong : 4 * s.rd Reg.PWR_CTRL_THERM_STEP ≤ s.pwr.cool)
    (hroom : s.rd Reg.PWR_STATUS_THERM_PACE < 72) :
    s.thermStep = ({ s with pwr := { s.pwr with cool := 0 } } : State).wr Reg.PWR_STATUS_THERM_PACE (s.rd Reg.PWR_STATUS_THERM_PACE + 1) := by
  rw [State.thermStep, if_neg (Bool.eq_false_iff.mp hcool), if_pos ⟨hlong, hroom⟩]

end Temperature

/-! ### Pre-bias and droop (R380, R381) -/

section Droop

variable {s u : State}

/-- The pre-bias for the next bell begins when the announced levels rise by MIN or more. -/
theorem State.prebiasOn_rising {b rise : Nat} (hen : s.on Reg.PWR_CTRL_PREBIAS_EN = true)
    (hrise : s.heavySum b - (if b = 0 then 0 else s.heavySum (b - 1)) = rise) (hmin : s.rd Reg.PWR_HEAVY_MIN ≤ rise)
    (hnext : b = s.count + 1) (hu : u = s.atTime s.prebiasAt) :
    s.prebiasOn b = ({ u with pwr := { u.pwr with prebias := some (b, min 16 (2 * (rise / 16))) } } : State).emit
      (.power "pre-bias" (min 16 (2 * (rise / 16)))) := by
  have hbegins : ¬ ((!s.on Reg.PWR_CTRL_PREBIAS_EN) = true ∨ rise < s.rd Reg.PWR_HEAVY_MIN ∨ b ≠ s.count + 1) := by
    simp [hen, hmin, hnext]
  simp only [State.prebiasOn, hrise, if_neg hbegins, hu]

/-- The pre-bias of a bell that has begun ends, HOLD after its edge. -/
theorem execPrebiasEnd_begun {x : Nat × Nat} (hx : s.pwr.prebias = some x) (hbegun : x.1 ≤ s.count)
    (hu : u = if x.1 = s.count then s.atTime (s.bell.edgeAt + s.rd Reg.PWR_HEAVY_HOLD * 500) else s) :
    execPrebiasEnd s = .next (({ u with pwr := { u.pwr with prebias := none } } : State).emit (.power "pre-bias" 0)) := by
  simp only [execPrebiasEnd, hx, hbegun.not_gt, if_false, hu]

/-- A droop of a die whose clock is not stretched is counted and stretches it. -/
theorem execDroopDetect_unstretched {d : Nat} (hd : d < 3) (hen : s.on Reg.PWR_CTRL_DROOP_EN = true) (hnone : Tab.get 0 s.pwr.stretch d = 0) :
    execDroopDetect d s = .next ((({ s with pwr := { s.pwr with stretch := Tab.set 0 s.pwr.stretch d (s.now + 1) } } : State).incSat
      (Reg.PWR_DROOP_COUNT_EVENTS d) 1).pwrEvent Reg.PWR_EVENT_DROOP) :=
  guarded_eq (decide_eq_true hd) (if_neg (by simp [hen, hnone]))

/-- A stretch ends after 16 clocks or more. -/
theorem execDroopEnd_stretched {d lost : Nat} (hd : d < 3) (hsome : Tab.get 0 s.pwr.stretch d ≠ 0) (hlong : 16 ≤ lost) :
    execDroopEnd d lost s = .next (s.endStretch d lost) :=
  guarded_eq (decide_eq_true hd) (if_neg (not_or.mpr ⟨hsome, hlong.not_gt⟩))

end Droop

/-- Settles O36: a write of PWR_CTRL passes the check of free mode, a sample stays within the cap, a source of the floor passes its
filter or its hold, a step of the thermal pace is due, and pre-bias and droop begin and end. That PREBIAS_START and PREBIAS_END move the
clock to their moment, that the mean is over the last TAU samples, and that a droop's lost clocks are applied at its end are the model's
readings (notes/assumptions/1.md and 62.md). -/
theorem protectionCommandsComplete : Obligations.ProtectionCommandsComplete := by
  refine ⟨?voltage, ?paceMode, ?sample, ?alert, ?holdEnd, ?regulatorsEnd, ?regulators, ?input, ?sensor, ?thermDown, ?thermUp, ?shutdown,
    ?prebias, ?prebiasEnd, ?droop, ?droopEnd⟩
  case voltage =>
    rintro s _ rfl
    rfl
  case paceMode =>
    intro s v hpf hmode
    exact State.fromPf_eq hpf (State.writePwrCtrl_allowed hmode)
  case sample =>
    intro s mv a hmv ha htau hcap
    exact guarded_eq (by simp [hmv, ha]) (State.powerSample_withinCap rfl htau hcap)
  case alert =>
    intro s low hlong
    exact execPwrAlertAssert_filtered hlong
  case holdEnd =>
    intro s i hi hother hcool
    exact guarded_eq (decide_eq_true hi) (State.floorOff_released hother hcool)
  case regulatorsEnd =>
    intro s u hu
    exact guarded_eq (by decide) (State.floorOff_regulators hu)
  case regulators =>
    intro s
    rfl
  case input =>
    intro s
    exact ⟨rfl, rfl, rfl⟩
  case sensor =>
    intro s i v hi
    exact guarded_of (decide_eq_true hi)
  case thermDown =>
    intro s hhot hlong hroom
    exact congrArg Host.Outcome.next (State.thermStep_down hhot hlong hroom)
  case thermUp =>
    intro s hcool hlong hroom
    exact congrArg Host.Outcome.next (State.thermStep_up hcool hlong hroom)
  case shutdown =>
    intro s i hi
    exact guarded_of (decide_eq_true hi)
  case prebias =>
    intro s u b hen hmin hnext hu
    exact congrArg Host.Outcome.next (State.prebiasOn_rising hen rfl hmin hnext hu)
  case prebiasEnd =>
    intro s u x hx hbegun hu
    exact execPrebiasEnd_begun hx hbegun hu
  case droop =>
    intro s d hd hen hnone
    exact execDroopDetect_unstretched hd hen hnone
  case droopEnd =>
    intro s d lost hd hsome hlong
    exact execDroopEnd_stretched hd hsome hlong

end Sys2Proof.Machine
end

section
/-! SUPPORT. Starts and the Reeve: what starts, resets, the watchdog, the log, telemetry and restarts do where their checks are passed. -/

namespace Sys2Proof.Machine

/-! ### Starts and resets (R363, R395, R396, R411) -/

section Starts

variable {s : State} {f : Found}

/-- The return from Deep sleep ends in a warm start from LOGIC_RDY. -/
theorem execWarmStart_fromDeepSleep (hreturn : s.pwr.transit = some (.returning true 4)) : execWarmStart f s = .next (s.wakeStart f) :=
  congrArg Host.Outcome.next (if_pos hreturn)

/-- A retry that is due starts cold, 100 ms after the step that failed. -/
theorem execStartRetry_due {u : State} (hdue : s.rv.retry = true) (hu : u = s.atTime (s.rv.retryFrom + 400000000)) :
    execStartRetry f s = .next (u.coldStart f) := by
  rw [hu, execStartRetry, if_pos hdue]

/-- MGT_RESET written with its key acts on a module that is not in Off. -/
theorem State.resetBy_key {g : State → State} (hon : s.pwr.off = false) : s.resetBy 0xA5C3 g = g s := by
  simp only [State.resetBy, hon, Bool.false_eq_true, if_false, if_true]

end Starts

/-! ### Reeve resets (R383, R385) -/

section ReeveReset

variable {s : State}

/-- The watchdog of a Reeve that is up resets it at the time that it is set to. -/
theorem execWatchdogExpiry_up {u : State} (hup : s.reeveUp = true)
    (hu : u = s.atTime (s.rv.wdogAt + s.rd Reg.MGT_WDOG_TIMEOUT * 4000000)) : execWatchdogExpiry s = .next (u.resetReeve 1) := by
  rw [hu, execWatchdogExpiry, if_pos hup]

/-- A Reeve that runs its firmware is up. -/
theorem State.reeveUp_running (hruns : s.rd Reg.MGT_STATUS_STATE = 2) (hon : s.pwr.off = false) : s.reeveUp = true := by
  simp [State.reeveUp, hruns, hon]

/-- A Reeve in reset restarts. -/
theorem State.restartReeve_resetting (hreset : s.rd Reg.MGT_STATUS_STATE = 4) : s.restartReeve = s.reeveBack :=
  if_neg (not_not.mpr hreset)

end ReeveReset

/-! ### The log, telemetry and I/O cores (R339, R386) -/

section Upkeep

variable {s : State}

/-- Where every entry that waits is of severity 2 or more, all go to flash. -/
theorem State.persistLog_severe (hsevere : ∀ b ∈ s.evlog.waiting, 2 ≤ logSeverity b) :
    s.persistLog = { s with evlog := { s.evlog with waiting := [], flash := s.evlog.flash ++ s.evlog.waiting } } := by
  have hlive : s.evlog.waiting.filter (fun b => decide (2 ≤ logSeverity b) ||
      decide ((s.rd Reg.MGT_LOG_INDEX + 2 ^ 32 - entryNum b 0 4) % 2 ^ 32 ≤ 8192)) = s.evlog.waiting :=
    List.filter_eq_self.mpr (fun b hb => by simp [hsevere b hb])
  have hnone (all : Bool) : s.evlog.waiting.filter (fun b => !all && decide (logSeverity b < 2)) = [] :=
    List.filter_eq_nil_iff.mpr (fun b hb => by simp [(hsevere b hb).not_gt])
  have hall (all : Bool) : s.evlog.waiting.filter (fun b => all || decide (2 ≤ logSeverity b)) = s.evlog.waiting :=
    List.filter_eq_self.mpr (fun b hb => by simp [hsevere b hb])
  simp only [State.persistLog, hlive, hnone, hall]

/-- Firmware that runs samples every sensor. -/
theorem State.sampleAll_running (hfw : s.fwRuns = true) : s.sampleAll = s.each 67 (fun i t => t.noteExtreme i) :=
  if_neg (by simp [hfw])

/-- An I/O core in service that has stopped drops what it held and starts from its image. -/
theorem State.restartIoc_stopped {i frames : Nat} {x : Firmware} (himage : s.rv.fw = some x) (hfw : s.fwRuns = true)
    (hserves : s.iocOffline i = false) (hstopped : bit (s.rd Reg.HUB_IOC_RUN_RUN) i = false) :
    s.restartIoc i frames = ((s.dropIocWork i).incSat Reg.PKT_DROP2_NO_BUFFER frames).iocStart x i := by
  simp only [State.restartIoc, himage, hfw, hserves, hstopped, Bool.not_true, Bool.false_eq_true, or_self, if_false]

end Upkeep

/-- Settles O37: a start is a retry that is due, a return from Deep sleep or a reset with its key, the Reeve is up when its watchdog
expires and in reset when it restarts, and the firmware runs for what it does. That START_RETRY and WATCHDOG_EXPIRY move the clock to
their moment is the model's reading (notes/assumptions/1.md). -/
theorem startsAndReeveCommandsComplete : Obligations.StartsAndReeveCommandsComplete := by
  refine ⟨?cold, ?warm, ?retry, ?reset, ?watchdog, ?running, ?restart, ?log, ?telemetry, ?ioc⟩
  case cold =>
    rintro s _ f rfl
    rfl
  case warm =>
    intro s f hreturn
    exact execWarmStart_fromDeepSleep hreturn
  case retry =>
    intro s u f hdue hu
    exact execStartRetry_due hdue hu
  case reset =>
    intro s f hpf hon
    exact ⟨State.fromPf_eq hpf (State.resetBy_key hon), State.fromPf_eq hpf (State.resetBy_key hon)⟩
  case watchdog =>
    intro s u hup hu
    exact execWatchdogExpiry_up hup hu
  case running =>
    intro s hruns hon
    exact if_pos (State.reeveUp_running hruns hon)
  case restart =>
    intro s hreset
    exact congrArg Host.Outcome.next (State.restartReeve_resetting hreset)
  case log =>
    intro s hsevere
    exact congrArg Host.Outcome.next (State.persistLog_severe hsevere)
  case telemetry =>
    intro s hfw
    exact congrArg Host.Outcome.next (State.sampleAll_running hfw)
  case ioc =>
    intro s i n x hi himage hfw hserves hstopped
    exact guarded_eq (decide_eq_true hi) (State.restartIoc_stopped himage hfw hserves hstopped)

end Sys2Proof.Machine
end

section
/-! SUPPORT. Management: what configuration writes, firmware commands, the switch-over, reports, open ranges and unlocking do where their
checks are passed, and that no RAISE_SVN lowers the floor. -/

namespace Sys2Proof.Machine

/-! ### Commands that the Reeve serves (R385, R394, R403) -/

section Served

variable {s : State} {c : Nat}

/-- Outside Off, a Reeve reset and STUCK, a configuration write is carried out (R394). -/
theorem State.mgtCommand_config (hon : s.pwr.off = false) (hreset : s.rd Reg.MGT_STATUS_STATE ≠ 4) (hstuck : s.rd Reg.MGT_STATUS_STATE ≠ 5)
    (hc : 110 ≤ c) : s.mgtCommand c = s.cfgCommand (c - 110) := by
  rw [State.mgtCommand, if_neg (Bool.eq_false_iff.mp hon)]
  split
  · contradiction
  · contradiction
  · exact if_pos hc
  · exact if_pos hc

/-- In HELD and while the firmware runs, a firmware command is carried out (R403). -/
theorem State.mgtCommand_firmware (hon : s.pwr.off = false) (hstate : s.rd Reg.MGT_STATUS_STATE = 1 ∨ s.rd Reg.MGT_STATUS_STATE = 2)
    (hc : c < 110) : s.mgtCommand c = s.fwCommand (c - 100) := by
  rcases hstate with hstate | hstate <;>
    simp only [State.mgtCommand, hon, hstate, hc.not_ge, Bool.false_eq_true, if_false]

/-- Outside Off, a Reeve reset and STUCK, CHALLENGE and UNLOCK are carried out (R413). -/
theorem State.unlockCommand_served (hon : s.pwr.off = false) (hreset : s.rd Reg.MGT_STATUS_STATE ≠ 4)
    (hstuck : s.rd Reg.MGT_STATUS_STATE ≠ 5) : s.unlockCommand c = if c = 120 then s.challenge else s.unlock := by
  rw [State.unlockCommand, if_neg (Bool.eq_false_iff.mp hon)]
  split
  · contradiction
  · contradiction
  · rfl

end Served

/-! ### Configuration images (R391, R392, R394) -/

section Images

variable {s : State} {slot : Nat}

/-- An image of bad shape is not stored. -/
theorem State.cfgStore_misshapen (hshape : imageShape s.stagedBank = false) : s.cfgStore slot = (s, 2) := by
  simp only [State.cfgStore, hshape, Bool.not_false, if_true]

/-- Nor is one whose signature fails. -/
theorem State.cfgStore_unsigned (hshape : imageShape s.stagedBank = true) (hsigned : imageSigned s.rv.owner s.stagedBank = false) :
    s.cfgStore slot = (s, 4) := by
  simp only [State.cfgStore, hshape, hsigned, Bool.not_true, Bool.not_false, Bool.false_eq_true, if_false, if_true]

/-- A good image is stored in slot A, whose attempts start again. -/
theorem State.cfgStore_slotA (hshape : imageShape s.stagedBank = true) (hsigned : imageSigned s.rv.owner s.stagedBank = true) :
    s.cfgStore 0 = (({ s with rv := { s.rv with slotA := s.stagedBank } } : State).wr Reg.HUB_START_ATTEMPTS 0, 0) := by
  simp only [State.cfgStore, hshape, hsigned, Bool.not_true, Bool.false_eq_true, if_false, if_true]

/-- It is stored in slot B. -/
theorem State.cfgStore_slotB (hshape : imageShape s.stagedBank = true) (hsigned : imageSigned s.rv.owner s.stagedBank = true) :
    s.cfgStore 1 = ({ s with rv := { s.rv with slotB := s.stagedBank } }, 0) := by
  simp only [State.cfgStore, hshape, hsigned, Bool.not_true, Bool.false_eq_true, one_ne_zero, if_false]

/-- A configuration write answers what the store answers. -/
theorem State.cfgCommand_of_store {t : State} {r : Nat} (hstore : s.cfgStore slot = (t, r)) :
    s.cfgCommand slot = t.wr Reg.MGT_CFG_CMD_RESULT r := by
  rw [State.cfgCommand, hstore]

end Images

/-! ### Firmware commands (R401 to R405) -/

section Firmware

variable {s : State} {x : Firmware}

/-- LOAD acts on the verified bank while nothing is armed or being rewritten (R403). -/
theorem State.fwLoad_free (hstate : s.rd Reg.MGT_STATUS_STATE ≠ 3) (hunarmed : s.on Reg.MGT_FW_STATUS_ARMED = false)
    (hdone : s.rv.handlers = []) : s.fwLoad = s.loadPack (verifyPack s.stagedBank s.rv.svnFloor) :=
  if_neg (by simp [hstate, hunarmed, hdone])

/-- A package that fails answers its code (R401). -/
theorem State.loadPack_error (e : Nat) : s.loadPack (.error e) = s.endFw e := rfl

/-- A good package runs at once in HELD (R403). -/
theorem State.loadPack_runs (hheld : s.rd Reg.MGT_STATUS_STATE = 1) : s.loadPack (.ok x) = (s.runFirmware x).endFw 0 := if_pos hheld

/-- It is staged while firmware runs (R403). -/
theorem State.loadPack_stages (hruns : s.rd Reg.MGT_STATUS_STATE ≠ 1) :
    s.loadPack (.ok x) = (({ s with rv := { s.rv with staged := some x } } : State).wr Reg.MGT_FW_VERSION_STAGED x.version).endFw 0 :=
  if_neg hruns

/-- ACTIVATE of a staged package arms it for a bell that has not begun (R404). -/
theorem State.fwActivate_later (hruns : s.rd Reg.MGT_STATUS_STATE = 2) (hunarmed : s.on Reg.MGT_FW_STATUS_ARMED = false)
    (hdone : s.rv.handlers = []) (hstaged : s.rv.staged = some x) (hlater : s.count < s.rd Reg.MGT_FW_BELL_BELL) :
    s.fwActivate = s.wr Reg.MGT_FW_STATUS_ARMED 1 := by
  simp [State.fwActivate, hruns, hunarmed, hdone, hstaged, hlater.not_ge]

/-- CANCEL before that bell disarms it (R404). -/
theorem State.fwCancel_before (harmed : s.on Reg.MGT_FW_STATUS_ARMED = true) (hbefore : s.count < s.rd Reg.MGT_FW_BELL_BELL) :
    s.fwCancel = (s.wr Reg.MGT_FW_STATUS_ARMED 0).endFw 0 :=
  if_pos ⟨harmed, hbefore⟩

/-- RAISE_SVN takes the higher of the floor and the running package's SVN (R402). -/
theorem State.raiseSvn_running (hfw : s.rv.fw = some x) :
    s.raiseSvn = (({ s with rv := { s.rv with svnFloor := max s.rv.svnFloor x.svn } } : State).wr Reg.MGT_FW_STATUS_SVN_FLOOR
      (max s.rv.svnFloor x.svn)).endFw 0 := by
  simp only [State.raiseSvn, hfw]

/-- Without a running package it is denied. -/
theorem State.raiseSvn_idle (hfw : s.rv.fw = none) : s.raiseSvn = s.endFw 8 := by
  simp only [State.raiseSvn, hfw]

/-- The end of a firmware command leaves what the Reeve holds beside its registers. -/
@[simp] theorem State.rv_endFw (r : Nat) : (s.endFw r).rv = s.rv := by
  obtain ⟨_, _, _, _, _, _, _, _, hrv⟩ := State.quiet_event (s.wr Reg.MGT_FW_STATUS_RESULT r) Reg.MGT_EVENT_FW_DONE Reg.MGT_EVENT_EN_EN 6
  exact hrv

/-- RAISE_SVN raises the floor to the running package's SVN where that is higher. -/
theorem State.svnFloor_raiseSvn (hfw : s.rv.fw = some x) : s.raiseSvn.rv.svnFloor = max s.rv.svnFloor x.svn := by
  rw [State.raiseSvn_running hfw, State.rv_endFw, State.wr_rv]

end Firmware

/-! ### The rollback floor (R402) -/

section RollbackFloor

variable {s : State}

/-- RAISE_SVN never lowers the floor. -/
theorem State.svnFloor_le_raiseSvn : s.rv.svnFloor ≤ s.raiseSvn.rv.svnFloor := by
  cases hfw : s.rv.fw with
  | none => rw [State.raiseSvn_idle hfw, State.rv_endFw]
  | some x => rw [State.svnFloor_raiseSvn hfw]; exact le_max_left ..

/-- Nor does it where it waits, or is not carried out (R385). -/
theorem State.svnFloor_le_mgtCommand_raiseSvn : s.rv.svnFloor ≤ (s.mgtCommand 104).rv.svnFloor := by
  unfold State.mgtCommand
  split
  · exact le_rfl
  · split
    · exact le_rfl
    · exact le_rfl
    · exact le_rfl
    · exact State.svnFloor_le_raiseSvn

end RollbackFloor

/-! ### The switch-over (R404 to R406) -/

section SwitchOver

variable {s : State} {x : Firmware} {ready : Bool}

/-- A switch-over whose handler images wait goes on with them. -/
theorem State.switchFirmware_goesOn (hruns : s.fwRuns = true) (hfw : s.rv.fw = some x) (hwait : s.rv.handlers ≠ []) :
    s.switchFirmware ready = (s.putHandlers x s.rv.handlers).switched := by
  rw [State.switchFirmware, if_pos ⟨hwait, hruns⟩, State.handlersGoOn, hfw]
  rfl

section AtItsEdge

variable (hdone : s.rv.handlers = []) (hruns : s.rd Reg.MGT_STATUS_STATE = 2) (harmed : s.on Reg.MGT_FW_STATUS_ARMED = true)
  (hcome : s.rd Reg.MGT_FW_BELL_BELL ≤ s.count)

include hdone hruns harmed hcome

/-- At its edge it is deferred while the module is not quiet. -/
theorem State.switchFirmware_deferred (hbusy : s.quietEnough = false) : s.switchFirmware ready = s.deferFirmware := by
  simp [State.switchFirmware, hdone, hruns, harmed, hcome.not_gt, hbusy]

/-- Else the staged package takes over, when no partition or power command is in progress and it reaches its ready point. -/
theorem State.switchFirmware_takes (hquiet : s.quietEnough = true) (hnone : s.partCmds = []) (hstill : s.pwr.transit = none)
    (hstaged : s.rv.staged = some x) :
    s.switchFirmware true = ((s.wr Reg.MGT_FW_STATUS_ARMED 0).wr Reg.MGT_FW_STATUS_DEFERRED 0).newFirmware x := by
  simp [State.switchFirmware, hdone, hruns, harmed, hcome.not_gt, hquiet, hnone, hstill, hstaged]

end AtItsEdge

end SwitchOver

/-! ### Reports and open ranges (R409 to R411) -/

section Reports

variable {s : State}

/-- While a leaf is left, a report is signed. -/
theorem State.signReport_isSome (nonce : List Nat) (hleaf : s.rd Reg.MGT_XMSS_NEXT < 65536) : (s.signReport nonce).isSome = true := by
  simp [State.signReport, hleaf.not_ge]

/-- GO leaves the signed report of a locked module at its place (R410). -/
theorem State.attestGo_signed {t : State} {r : List Nat} (hon : s.pwr.off = false) (hfw : s.fwRuns = true) (hlocked : s.rd Reg.TST_STATUS_MODE = 0)
    (hsigned : s.signReport (leBytes 32 (s.rd Reg.MGT_ATTEST_NONCE_NONCE)) = some (t, r)) :
    s.attestGo = ((t.putBytes reportPlace r).wr Reg.MGT_ATTEST_ADDR_ADDR reportPlace).wr Reg.MGT_ATTEST_RESULT 0 := by
  simp only [State.attestGo, hon, hfw, hlocked, hsigned, Bool.not_true, ne_eq, not_true_eq_false, Bool.false_eq_true, or_self, if_false]

variable {src : Src} {n v : Nat}

/-- A range is closed, or set where it can be opened (R411). -/
theorem State.writeOpen_taken (hgood : bit v 6 = true → s.rd (Reg.MGT_OPEN_BASE n) % 65536 = 0 ∧ s.rd (Reg.MGT_OPEN_LEN n) % 65536 = 0 ∧
      s.rd (Reg.MGT_OPEN_LEN n) ≠ 0 ∧ s.openable (bits v 0 6) (s.rd (Reg.MGT_OPEN_BASE n)) (s.rd (Reg.MGT_OPEN_LEN n)) = true) :
    s.writeOpen src n v = (s.wr (Reg.MGT_OPEN_PART n) (bits v 0 6)).wr (Reg.MGT_OPEN_EN n) (bits v 6 1) := by
  refine if_neg ?_
  rintro ⟨hset, hbad⟩
  obtain ⟨hbase, hlen, hpos, hopen⟩ := hgood hset
  simp [hbase, hlen, hpos, hopen] at hbad

/-- A range that cannot be opened is refused whole (R411). -/
theorem State.writeOpen_refused (hset : bit v 6 = true)
    (hbad : s.rd (Reg.MGT_OPEN_BASE n) % 65536 ≠ 0 ∨ s.rd (Reg.MGT_OPEN_LEN n) % 65536 ≠ 0 ∨ s.rd (Reg.MGT_OPEN_LEN n) = 0 ∨
      s.openable (bits v 0 6) (s.rd (Reg.MGT_OPEN_BASE n)) (s.rd (Reg.MGT_OPEN_LEN n)) = false) :
    s.writeOpen src n v = s.unsup src (Reg.MGT_OPEN n + 16) true := by
  refine if_pos ⟨hset, ?_⟩
  rcases hbad with hbad | hbad | hbad | hbad <;> simp [hbad]

end Reports

/-! ### Unlocking (R413) -/

section Unlocking

variable {s : State}

/-- A good token opens its mode, and never lowers the one in force. -/
theorem State.unlock_opens (hgood : s.tokenResult (s.bytes (s.rd Reg.MGT_FW_BANK_ADDR) 2952) = 0) :
    s.unlock = (((s.wr Reg.TST_STATUS_NONCE_VALID 0).wr Reg.TST_UNLOCK_RESULT 0).wr Reg.TST_STATUS_MODE
      (max (((s.wr Reg.TST_STATUS_NONCE_VALID 0).wr Reg.TST_UNLOCK_RESULT 0).rd Reg.TST_STATUS_MODE)
        (entryNum (s.bytes (s.rd Reg.MGT_FW_BANK_ADDR) 2952) 8 1 + 1))).tstLog := by
  simp only [State.unlock, hgood, if_true]

/-- A bad one only spends the nonce. -/
theorem State.unlock_fails (hbad : s.tokenResult (s.bytes (s.rd Reg.MGT_FW_BANK_ADDR) 2952) ≠ 0) :
    s.unlock = (s.wr Reg.TST_STATUS_NONCE_VALID 0).wr Reg.TST_UNLOCK_RESULT (s.tokenResult (s.bytes (s.rd Reg.MGT_FW_BANK_ADDR) 2952)) := by
  simp only [State.unlock, hbad, if_false]

end Unlocking

/-- Settles O38: the Reeve serves each command in its state, and the command passes its own checks: an image those of its shape and
signature, a package those of R401, an armed package those of its bell and of a quiet module, a token those of R413. That the switch-over
goes on where the rewriting of handlers waits is the model's reading (notes/assumptions/31.md). -/
theorem managementCommandsComplete : Obligations.ManagementCommandsComplete := by
  refine ⟨?cfgA, ?cfgB, ?loadStages, ?loadRuns, ?activate, ?cancel, ?raise, ?switch, ?defer, ?goOn, ?attest, ?close, ?openRange, ?refuse,
    ?challenge, ?unlock⟩
  case cfgA =>
    intro s hpf hon hreset hstuck
    refine ⟨_, State.fromPf_eq hpf (State.mgtCommand_config hon hreset hstuck (by decide)), ?_, ?_, ?_⟩
    · exact fun hshape hsigned => State.cfgCommand_of_store (State.cfgStore_slotA hshape hsigned)
    · exact fun hshape => State.cfgCommand_of_store (State.cfgStore_misshapen hshape)
    · exact fun hshape hsigned => State.cfgCommand_of_store (State.cfgStore_unsigned hshape hsigned)
  case cfgB =>
    intro s hpf hon hreset hstuck
    refine ⟨_, State.fromPf_eq hpf (State.mgtCommand_config hon hreset hstuck (by decide)), ?_, ?_, ?_⟩
    · exact fun hshape hsigned => State.cfgCommand_of_store (State.cfgStore_slotB hshape hsigned)
    · exact fun hshape => State.cfgCommand_of_store (State.cfgStore_misshapen hshape)
    · exact fun hshape hsigned => State.cfgCommand_of_store (State.cfgStore_unsigned hshape hsigned)
  case loadStages =>
    intro s hpf hon hruns hunarmed hdone
    have hserved := (State.mgtCommand_firmware (c := 101) hon (.inr hruns) (by decide)).trans (State.fwLoad_free (by omega) hunarmed hdone)
    refine ⟨_, State.fromPf_eq hpf hserved, fun x hgood => ?_, fun e hbad => ?_⟩
    · rw [hgood, State.loadPack_stages (by omega)]
    · rw [hbad, State.loadPack_error]
  case loadRuns =>
    intro s hpf hon hheld hunarmed hdone
    have hserved := (State.mgtCommand_firmware (c := 101) hon (.inl hheld) (by decide)).trans (State.fwLoad_free (by omega) hunarmed hdone)
    refine ⟨_, State.fromPf_eq hpf hserved, fun x hgood => ?_, fun e hbad => ?_⟩
    · rw [hgood, State.loadPack_runs hheld]
    · rw [hbad, State.loadPack_error]
  case activate =>
    intro s x hpf hon hruns hunarmed hdone hstaged hlater
    exact State.fromPf_eq hpf ((State.mgtCommand_firmware hon (.inr hruns) (by decide)).trans
      (State.fwActivate_later hruns hunarmed hdone hstaged hlater))
  case cancel =>
    intro s hpf hon hruns harmed hbefore
    exact State.fromPf_eq hpf ((State.mgtCommand_firmware hon (.inr hruns) (by decide)).trans (State.fwCancel_before harmed hbefore))
  case raise =>
    intro s x hpf hon hruns hfw
    exact State.fromPf_eq hpf ((State.mgtCommand_firmware hon (.inr hruns) (by decide)).trans (State.raiseSvn_running hfw))
  case switch =>
    intro s x hdone hruns harmed hcome hcalm hquiet hnone hstill hstaged
    have henough : s.quietEnough = true := by simp [State.quietEnough, hcalm, hquiet]
    exact congrArg Host.Outcome.next (State.switchFirmware_takes hdone hruns harmed hcome henough hnone hstill hstaged)
  case defer =>
    intro s ready hdone hruns harmed hcome hbusy
    have hnot : s.quietEnough = false := by rcases hbusy with hbusy | hbusy <;> simp [State.quietEnough, hbusy]
    exact congrArg Host.Outcome.next (State.switchFirmware_deferred hdone hruns harmed hcome hnot)
  case goOn =>
    intro s x ready hruns hfw hwait
    exact congrArg Host.Outcome.next (State.switchFirmware_goesOn hruns hfw hwait)
  case attest =>
    intro s hpf hon hfw hlocked hleaf
    obtain ⟨⟨t, r⟩, hsigned⟩ := Option.isSome_iff_exists.mp (State.signReport_isSome (leBytes 32 (s.rd Reg.MGT_ATTEST_NONCE_NONCE)) hleaf)
    exact ⟨t, r, hsigned, State.fromPf_eq hpf (State.attestGo_signed hon hfw hlocked hsigned)⟩
  case close =>
    intro s n v hpf hn hclear
    exact State.fromPf_guarded_eq hpf (decide_eq_true hn) (State.writeOpen_taken (fun hset => by simp [hclear] at hset))
  case openRange =>
    intro s n v hpf hn _ hbase hlen hpos hopen
    exact State.fromPf_guarded_eq hpf (decide_eq_true hn) (State.writeOpen_taken (fun _ => ⟨hbase, hlen, hpos, hopen⟩))
  case refuse =>
    intro s n v hpf hn hset hbad
    exact State.fromPf_guarded_eq hpf (decide_eq_true hn) (State.writeOpen_refused hset hbad)
  case challenge =>
    intro s hpf hon hreset hstuck
    exact State.fromPf_eq hpf (State.unlockCommand_served hon hreset hstuck)
  case unlock =>
    intro s hpf hon hreset hstuck
    have hserved : s.unlockCommand 121 = s.unlock := (State.unlockCommand_served hon hreset hstuck).trans (if_neg (by decide))
    exact ⟨_, State.fromPf_eq hpf hserved, State.unlock_opens, State.unlock_fails⟩

/-- Settles O55: RAISE_SVN takes the higher of the floor and the running SVN, and where it is not carried out the floor stays. -/
theorem rollbackFloorOnlyRises : Obligations.RollbackFloorOnlyRises := by
  refine ⟨?raises, ?keeps⟩
  case raises =>
    intro s x hpf hon hruns hfw
    refine ⟨s.raiseSvn, State.fromPf_eq hpf (State.mgtCommand_firmware hon (.inr hruns) (by decide)), fun hle => ?_, fun hlt => ?_⟩
    · rw [State.svnFloor_raiseSvn hfw, max_eq_right hle]
    · rw [State.svnFloor_raiseSvn hfw, max_eq_left hlt.le]
  case keeps =>
    intro s t hnext
    obtain rfl : (if s.pfOpen 2 then s.mgtCommand 104 else s) = t := Host.Outcome.next.inj hnext
    split
    · exact State.svnFloor_le_mgtCommand_raiseSvn
    · exact le_rfl

end Sys2Proof.Machine
end

section
/-! SUPPORT. The sideband: what address assignment, the control messages and the module's own messages do where they are answered. -/

namespace Sys2Proof.Machine

/-! ### Addresses and control messages (R387, R388) -/

section Addresses

variable {s : State} {d : Nat}

/-- A module without a dynamic address answers ENTDAA with its provisional ID and takes the address. -/
theorem execEntdaa_unassigned (hd : d < 128) (hup : s.sidebandUp = true) (hnone : s.rv.dynAddr = none) :
    execEntdaa d s = .next (({ s with rv := { s.rv with dynAddr := some d } } : State).emit
      (.sideband 0x107 (beBytes 6 (0x2B5 * 2 ^ 33 + 2 ^ 32 + serialNumber % 2 ^ 32)))) :=
  guarded_eq (decide_eq_true hd) (if_neg (by simp [hup, hnone]))

/-- Named by its static address, it takes the address of SETDASA. -/
theorem execSetdasa_unassigned (hd : d < 128) (hstatic : s.rv.staticAddr < 128) (hup : s.sidebandUp = true) (hnone : s.rv.dynAddr = none) :
    execSetdasa s.rv.staticAddr d s = .next { s with rv := { s.rv with dynAddr := some d } } :=
  guarded_eq (by simp [hd, hstatic]) (if_neg (by simp [hup, hnone]))

/-- An endpoint ID other than 0 and 255 is taken, and the response carries it (notes/assumptions/32.md). -/
theorem execSetEndpointId_taken {e : Nat} (hpos : 0 < e) (he : e < 255) (hup : s.sidebandUp = true) :
    execSetEndpointId e s = .next (({ s with rv := { s.rv with eid := e } } : State).control 1 [0, 0, e, 0]) :=
  guarded_eq (decide_eq_true (by omega)) ((if_neg (by simp [hup])).trans (if_neg (by omega)))

/-- A control request is answered while the sideband is up. -/
theorem State.control_up (code : Nat) (data : List Nat) (hup : s.sidebandUp = true) :
    s.control code data = s.emit (.sideband (0x200 + code) data) :=
  if_pos hup

end Addresses

/-! ### The module's own messages (R388, R389, R410) -/

section Messages

variable {s : State} {i : Nat}

/-- A request is served while the sideband is up, one that the ROM does not answer only while the firmware runs (Table 15.3). -/
theorem State.serve_answered {cmd : Nat} {fw : Bool} (f : State → State) (hup : s.sidebandUp = true) (hready : (fw && !s.fwRuns) = false) :
    s.serve cmd i fw f = f s := by
  simp only [State.serve, hup, hready, Bool.not_true, Bool.false_eq_true, if_false]

/-- So it answers what it serves when its operands are in their ranges. -/
theorem guarded_serve {cmd : Nat} {fw ok : Bool} {f : State → State} {t : State} (hok : ok = true) (hup : s.sidebandUp = true)
    (hready : (fw && !s.fwRuns) = false) (ht : f s = t) : s.guarded ok (s.serve cmd i fw f) = .next t :=
  guarded_eq hok ((State.serve_answered f hup hready).trans ht)

/-- One to eight sensors of the 67 are read, and their extremes start again (R386). -/
theorem State.readSensors_inRange {a n : Nat} (hpos : 0 < n) (hn : n ≤ 8) (ha : a + n ≤ 67) :
    s.readSensors i a n = ({ s with rv := { s.rv with
        extremes := (List.range n).foldl (fun m j => Tab.set none m (a + j) none) s.rv.extremes } } : State).reply 2 i 0
      ((List.range n).flatMap (fun j =>
        signedBytes ((Tab.get none s.rv.extremes (a + j)).getD (s.telemetry (a + j), s.telemetry (a + j))).1 ++
        signedBytes ((Tab.get none s.rv.extremes (a + j)).getD (s.telemetry (a + j), s.telemetry (a + j))).2 ++
        signedBytes (s.telemetry (a + j)))) :=
  if_neg (by omega)

/-- An entry that the ring still holds is read. -/
theorem State.readLog_held {e : Nat} (hwritten : e < s.rd Reg.MGT_LOG_INDEX) (hheld : s.rd Reg.MGT_LOG_INDEX ≤ e + 8192) :
    s.readLog i e = (s.markSeen (s.rd Reg.MGT_LOG_BASE_ADDR + e % 8192 * 32) 32).reply 3 i 0
      (s.bytes (s.rd Reg.MGT_LOG_BASE_ADDR + e % 8192 * 32) 32) :=
  if_neg (by omega)

/-- The identity is read in two chunks. -/
theorem State.readIdentity_chunk {c : Nat} (hc : c < 2) :
    s.readIdentity i c = s.reply 5 i 0 (((leBytes 68 (s.rd Reg.MGT_PUBKEY_KEY) ++
      leBytes 8 (if s.rd Reg.MGT_PUBKEY_KEY = 0 then 0 else serialNumber)).drop (48 * c)).take 48) :=
  if_neg (by omega)

section Attest

variable {x c : Nat} (hlocked : s.rd Reg.TST_STATUS_MODE = 0)

include hlocked

/-- Chunk 0 of a locked module's report is signed over the nonce (R410). -/
theorem State.attestChunk_signs {t : State} {r : List Nat} (hsigned : s.signReport (leBytes 32 x) = some (t, r)) :
    s.attestChunk i x 0 = ({ t with rv := { t.rv with report := r } } : State).reply 6 i 0 (r.take 48) := by
  simp [State.attestChunk, hlocked, hsigned]

/-- The other chunks are of the report last signed. -/
theorem State.attestChunk_goesOn (hpos : 0 < c) (hc : c < 62) :
    s.attestChunk i x c = s.reply 6 i 0 ((s.rv.report.drop (48 * c)).take 48) := by
  rw [State.attestChunk, if_neg (not_not.mpr hlocked), if_neg (by omega), if_neg hpos.ne']

end Attest

section DataPort

variable {a n : Nat} (hpos : 0 < n) (hn : n ≤ 48) (hwords : n % 4 = 0) (ha : a % 4 = 0) (hopen : s.dportOpen a n = true)

include hpos hn hwords ha hopen

/-- A write of whole words goes to an open range through DPORT1 (R156). -/
theorem State.sidePort_writes {b : List Nat} (hb : b.length = n) :
    s.sidePort i a n true b = (((s.wr (Reg.DPORT_CTRL_EN 1) 1).wr (Reg.DPORT_ADDR_ADDR 1) (a / 4)).dportWrite 1 b).reply 8 i 0 [] := by
  simp [State.sidePort, hpos.ne', hn.not_gt, hwords, ha, hb, hopen]

/-- A read of whole words comes from it (R156). -/
theorem State.sidePort_reads :
    s.sidePort i a n false [] = (((s.wr (Reg.DPORT_CTRL_EN 1) 1).wr (Reg.DPORT_ADDR_ADDR 1) (a / 4)).dportRead 1 n).1.reply 8 i 0
      (((s.wr (Reg.DPORT_CTRL_EN 1) 1).wr (Reg.DPORT_ADDR_ADDR 1) (a / 4)).dportRead 1 n).2 := by
  simp [State.sidePort, hpos.ne', hn.not_gt, hwords, ha, hopen]

end DataPort

end Messages

/-- Settles O39: the sideband is up and each message is one that is answered, with operands in its ranges. The bytes of the MCTP and
sideband replies are the model's reading (notes/assumptions/32.md). -/
theorem sidebandCommandsComplete : Obligations.SidebandCommandsComplete := by
  refine ⟨?entdaa, ?setdasa, ?endpointId, ?control, ?status, ?sensors, ?log, ?identity, ?attest, ?attestOn, ?power, ?portWrite, ?portRead,
    ?config⟩
  case entdaa =>
    intro s d hd hup hnone
    exact execEntdaa_unassigned hd hup hnone
  case setdasa =>
    intro s d hd hstatic hup hnone
    exact execSetdasa_unassigned hd hstatic hup hnone
  case endpointId =>
    intro s e hpos he hup
    exact execSetEndpointId_taken hpos he hup
  case control =>
    intro s hup
    exact ⟨congrArg Host.Outcome.next (State.control_up _ _ hup), congrArg Host.Outcome.next (State.control_up _ _ hup),
      congrArg Host.Outcome.next (State.control_up _ _ hup), congrArg Host.Outcome.next (State.control_up _ _ hup)⟩
  case status =>
    intro s i hi hup
    exact ⟨guarded_serve (decide_eq_true hi) hup rfl rfl, guarded_serve (decide_eq_true hi) hup rfl rfl⟩
  case sensors =>
    intro s i a n hi hup hfw hpos hn ha
    exact guarded_serve (decide_eq_true hi) hup (by simp [hfw]) (State.readSensors_inRange hpos hn ha)
  case log =>
    intro s i e hi hup hwritten hheld
    exact guarded_serve (decide_eq_true hi) hup rfl (State.readLog_held hwritten hheld)
  case identity =>
    intro s i c hi hup hc
    exact guarded_serve (decide_eq_true hi) hup rfl (State.readIdentity_chunk hc)
  case attest =>
    intro s i x hi hup hfw hlocked hleaf
    obtain ⟨⟨t, r⟩, hsigned⟩ := Option.isSome_iff_exists.mp (State.signReport_isSome (leBytes 32 x) hleaf)
    exact ⟨t, r, hsigned, guarded_serve (decide_eq_true hi) hup (by simp [hfw]) (State.attestChunk_signs hlocked hsigned)⟩
  case attestOn =>
    intro s i x c hi hup hfw hlocked hpos hc
    exact guarded_serve (decide_eq_true hi) hup (by simp [hfw]) (State.attestChunk_goesOn hlocked hpos hc)
  case power =>
    intro s i f hi hup hfree
    have hok := decide_eq_true hi
    exact ⟨guarded_serve hok hup rfl (if_neg (Bool.eq_false_iff.mp hfree)), guarded_serve hok hup rfl rfl,
      guarded_serve hok hup rfl rfl⟩
  case portWrite =>
    intro s i a n b hi hup hpos hn hwords ha hopen hb
    exact guarded_serve (decide_eq_true hi) hup rfl (State.sidePort_writes hpos hn hwords ha hopen hb)
  case portRead =>
    intro s i a n hi hup hpos hn hwords ha hopen
    exact guarded_serve (decide_eq_true hi) hup rfl (State.sidePort_reads hpos hn hwords ha hopen)
  case config =>
    intro s i k hi hk hup
    exact guarded_serve (by simp [hi, hk]) hup rfl rfl

end Sys2Proof.Machine
end

section
/-! SUPPORT. Test: what loops, forced lateness, injections and self-tests do where their checks are passed. -/

namespace Sys2Proof.Machine

/-! ### Loops (R416 to R420) -/

section Loops

variable {s : State} {i : Nat}

/-- A port with no active loop, whose depth is open, starts one and withdraws its paths (R416). -/
theorem State.startLoop_port {src : Src} {l v : Nat} {t : State} (hl : l < 32) (hopen : s.loopOpen l (bits v 0 3) = true)
    (hidle : s.on (Reg.TST_LOOP_ACTIVE l) = false) (ht : t = s.loopSet src l v) (hstill : t.on (Reg.TST_LOOP_ACTIVE l) = false) :
    s.startLoop src l v = (({ t with tst := { t.tst with loopAt := Tab.set 0 t.tst.loopAt l t.now } } : State).wr
      (Reg.TST_LOOP_ACTIVE l) 1).portPathsDown l := by
  subst ht
  simp only [State.startLoop, hopen, hidle, hstill, hl, Bool.not_true, Bool.false_eq_true, false_and, if_false, if_true]

/-- An active loop ends (R417). -/
theorem State.endLoop_active (hactive : s.on (Reg.TST_LOOP_ACTIVE i) = true) : s.endLoop i = s.loopEnds i :=
  if_neg (by simp [hactive])

/-- An enabled loop with a limit ends once that has passed (R419). -/
theorem execLoopLimitExpiry_limited {u : State} (hi : i < 55) (hen : s.on (Reg.TST_LOOP_EN i) = true) (hlimit : s.rd (Reg.TST_LOOP_LIMIT i) ≠ 0)
    (hu : u = s.atTime (Tab.get 0 s.tst.loopAt i + s.rd (Reg.TST_LOOP_LIMIT i) * 4000000)) :
    execLoopLimitExpiry i s = .next (u.endLoop i) := by
  rw [hu]
  exact guarded_eq (decide_eq_true hi) (if_pos ⟨hen, hlimit⟩)

end Loops

/-! ### Forced lateness (R422) -/

/-- ARM of an open module with a COUNT, for a bell that has not begun, arms the lateness. -/
theorem State.writeLate_arms {s t : State} {src : Src} {w : Nat} (hopen : s.testMode ≠ 0) (hcount : bits w 4 8 ≠ 0) (harm : bit w 32 = true)
    (ht : t = ((s.wr Reg.TST_LATE_ENGINE (bits w 0 4)).wr Reg.TST_LATE_BACKLOG (bits w 12 20)).wr Reg.TST_LATE_COUNT (bits w 4 8))
    (hfree : t.on Reg.TST_LATE_ARMED = false) (htaken : t.rd Reg.TST_LATE_COUNT ≠ 0) (hlater : t.count < t.rd Reg.TST_LATE_BELL_BELL) :
    s.writeLate src w = (({ t with tst := { t.tst with late := some (t.rd Reg.TST_LATE_ENGINE, t.rd Reg.TST_LATE_BELL_BELL,
      t.rd Reg.TST_LATE_COUNT, t.rd Reg.TST_LATE_BACKLOG) } } : State).wr Reg.TST_LATE_ARMED 1).tstArm := by
  simp only [State.writeLate, if_neg hopen, if_neg hcount, ← ht, harm, hfree, beq_false_of_ne htaken, if_neg hlater.not_ge, Bool.not_true,
    Bool.or_self, Bool.false_eq_true, if_false]

/-! ### Injection (R423) -/

section Injection

variable {s : State}

/-- ARM without CANCEL of an open module takes the fields and arms the injection while none is armed. -/
theorem State.writeInject_arms {t : State} {src : Src} {w : Nat} (hopen : s.testMode ≠ 0) (hfree : s.on Reg.TST_INJECT_ARMED = false)
    (hkeep : bit w 19 = false) (harm : bit w 18 = true)
    (ht : t = (((s.wr Reg.TST_INJECT_CODE (bits w 0 8)).wr Reg.TST_INJECT_UNIT (bits w 8 5)).wr Reg.TST_INJECT_ENGINE (bits w 13 4)).wr
      Reg.TST_INJECT_DIE (bits w 17 1)) (hstill : t.on Reg.TST_INJECT_ARMED = false) :
    s.writeInject src w = t.armInject := by
  simp only [State.writeInject, if_neg hopen, hfree, hkeep, harm, ← ht, hstill, Bool.not_false, Bool.and_self, Bool.false_eq_true, if_false,
    if_true]

section Armed

variable {b : Nat} {o : Nat × Nat} (harmed : s.tst.inject = some (b, o))

include harmed

/-- Before its bell an injection is cancelled. -/
theorem State.cancelInject_before (hbefore : s.count < b) :
    s.cancelInject = ({ s with tst := { s.tst with inject := none } } : State).wr Reg.TST_INJECT_ARMED 0 := by
  simp only [State.cancelInject, harmed, hbefore, if_true]

/-- From its bell on it fires. -/
theorem State.fireInject_from {p e u : Nat} (hfrom : b ≤ s.count) : s.fireInject p e u = (s.hitTarget p e u o).endInject := by
  simp only [State.fireInject, harmed, hfrom.not_gt, if_false]

end Armed

/-- An engine's check reports the cause on the engine that TST_INJECT names. -/
theorem State.hitTarget_engine {p e u : Nat} {o : Nat × Nat} (hlow : 1 ≤ s.rd Reg.TST_INJECT_CODE) (hhigh : s.rd Reg.TST_INJECT_CODE ≤ 7) :
    s.hitTarget p e u o = s.beginInject.faultBy (s.rd Reg.TST_INJECT_CODE) p (s.rd Reg.TST_INJECT_ENGINE) u 0 o :=
  if_pos ⟨hlow, hhigh⟩

end Injection

/-! ### Self-tests (R424) -/

section Bist

variable {s : State} {u d : Nat}

/-- START of the test of a cipher core that is open begins it while no test runs. -/
theorem State.writeBist_cipherCore {w : Nat} {t : State} (hstart : bit w 8 = true) (hcode : bits w 0 3 = 4)
    (ht : t = ((s.wr Reg.TST_BIST_CODE 4).wr Reg.TST_BIST_UNIT (bits w 3 4)).wr Reg.TST_BIST_DIE (bits w 7 1)) (hidle : t.tst.bist = none)
    (hopen : t.bistOpen 4 (bits w 3 4) (bits w 7 1) = true) :
    s.writeBist w = ({ t with tst := { t.tst with bist := some (4, bits w 3 4, bits w 7 1) } } : State).wr Reg.TST_BIST_BUSY 1 := by
  have hlisted : ¬ (4 = 0 ∨ 4 < 4 ∨ (4 = 1 ∧ 8 < bits w 3 4)) := by omega
  simp only [State.writeBist, hstart, hcode, ← ht, hidle, hopen, hlisted, Option.isSome_none, Bool.not_true, Bool.false_eq_true, if_false]

/-- It ends with its result. -/
theorem State.endBist_cipherCore {pass : Bool} (hruns : s.tst.bist = some (4, u, d)) :
    s.endBist pass = (({ s with tst := { s.tst with bist := none } } : State).wr Reg.TST_BIST_BUSY 0).wr Reg.TST_BIST_RESULT
      (if pass then 0 else 1) := by
  simp only [State.endBist, hruns, Nat.reduceEqDiff, false_and, if_false]

end Bist

/-- Settles O40: the mode opens what is armed or started, for a bell that has not begun and a unit that is open, and what ends is active;
a loss of AUX power leaves what flash holds. That LOOP_LIMIT_EXPIRY moves the clock to its moment is the model's reading
(notes/assumptions/1.md). -/
theorem testCommandsComplete : Obligations.TestCommandsComplete := by
  refine ⟨?allOff, ?loop, ?loopOff, ?loopLimit, ?late, ?inject, ?cancel, ?fire, ?bist, ?bistEnd, ?aux⟩
  case allOff =>
    rintro s _ hpf rfl
    exact State.fromPf_of_open hpf
  case loop =>
    intro s t l v hpf hl hopen hidle ht hstill
    exact State.fromPf_guarded_eq hpf (decide_eq_true (by omega)) (State.startLoop_port hl hopen hidle ht hstill)
  case loopOff =>
    intro s i hpf hi hactive
    exact State.fromPf_guarded_eq hpf (decide_eq_true hi) (State.endLoop_active hactive)
  case loopLimit =>
    intro s u i hi hen hlimit hu
    exact execLoopLimitExpiry_limited hi hen hlimit hu
  case late =>
    rintro s t v w hpf rfl hopen hcount harm ht hfree htaken hlater
    exact State.fromPf_eq hpf (State.writeLate_arms hopen hcount harm ht hfree htaken hlater)
  case inject =>
    rintro s t v w hpf rfl hopen hfree hkeep harm ht hstill
    exact State.fromPf_eq hpf (State.writeInject_arms hopen hfree hkeep harm ht hstill)
  case cancel =>
    intro s b o hpf hopen harmed hbefore
    exact State.fromPf_eq hpf ((if_neg hopen).trans (State.cancelInject_before harmed hbefore))
  case fire =>
    intro s p e u b o hp he hu harmed hfrom hcode
    refine guarded_eq (by simp [hp, he, hu]) ((State.fireInject_from harmed hfrom).trans ?_)
    rw [State.hitTarget_engine (by omega) (by omega), hcode]
  case bist =>
    rintro s t v w hpf rfl hstart ht hidle hcode hopen
    exact State.fromPf_eq hpf (State.writeBist_cipherCore hstart hcode ht hidle hopen)
  case bistEnd =>
    intro s ok u d hruns
    exact congrArg Host.Outcome.next (State.endBist_cipherCore hruns)
  case aux =>
    intro s
    exact ⟨rfl, rfl, rfl, rfl, rfl, rfl, rfl, rfl, rfl, rfl⟩

end Sys2Proof.Machine
end
